-- ==== Sys2Proof/Word.lean ====
section
/-!
DEFINITION. The word and byte types of the KZ8192 register space (R2: registers are 32 bits wide) and their plainest
arithmetic: one field of a word read and written.
-/

namespace Sys2Proof

/-- A register word (R2). -/
abbrev Word := BitVec 32

/-- One byte. -/
abbrev Byte := BitVec 8

/-- The bits `hi` down to `lo` of a word, as a number. -/
def Word.field (w : Word) (hi lo : Nat) : Nat :=
  (w.toNat >>> lo) % 2 ^ (hi + 1 - lo)

/-- `w` with the bits `hi` down to `lo` replaced by the low bits of `v`. -/
def Word.withField (w : Word) (hi lo v : Nat) : Word :=
  let m := 2 ^ (hi + 1 - lo)
  BitVec.ofNat 32 (w.toNat - (w.field hi lo) * 2 ^ lo + (v % m) * 2 ^ lo)

/-- The value of an `n`-bit two's-complement number. -/
def signedOf (n v : Nat) : Int :=
  if v % 2 ^ n < 2 ^ (n - 1) then (v % 2 ^ n : Nat) else (v % 2 ^ n : Nat) - (2 ^ n : Nat)

/-- The `n`-bit two's-complement code of an integer, modulo 2ⁿ. -/
def codeOf (n : Nat) (i : Int) : Nat := (i % (2 ^ n : Nat)).toNat

/-- A truth value as the number a one-bit field holds. -/
def bit (b : Bool) : Nat := if b then 1 else 0

end Sys2Proof
end

