-- ==== Sys2Proof/Payload.lean ====
section
/-!
DEFINITION. The operands of the commands: who accesses a register, and what arrives on a wire, at a pin or from the host.
Each structure holds the fields the spec's format table gives; a field a check needs and that only an external standard
computes (an FCS, a CHK) is carried as the result of that check.
-/

namespace Sys2Proof

/-- A bus master (R13, R30), each metrology engine one of its own; the audit-log MASTER codes are those of R253. -/
inductive Master where
  | host
  | core (c : Nat)
  | configLoad
  | metrology (e : Nat)
  | laneBlock
  | battery
  | engine (e : Nat)
deriving DecidableEq, Repr, Inhabited

/-- The master is one of the metrology engines ME0 and ME1. -/
def Master.isMetrology : Master → Bool
  | .metrology _ => true
  | _ => false

/-- A record time stamp (R38): TAI in nanoseconds since the epoch, and the quality word. -/
structure Stamp where
  tai : Nat
  qual : Nat
deriving DecidableEq, Repr, Inhabited

/-- What a word meets on its way through a sluice (R15, R88): errors corrected, and whether an uncorrectable one has poisoned it. -/
structure Crossing where
  corrected : Nat := 0
  poisoned : Bool := false
deriving DecidableEq, Repr, Inhabited

/-- The IPv4 or IPv6 header of a received frame, as far as R69 and R70 judge it. `total` is the IPv4 total length or
40 plus the IPv6 payload length; `after` the bytes after the EtherType, tag and trailer removed; `ihl` the header length in
4-byte words, extension headers included (10 for a plain IPv6 header). -/
structure IpHeader where
  version : Nat
  ihl : Nat
  csumOk : Bool
  total : Nat
  after : Nat
  fragment : Bool
  proto : Nat
  srcPort : Nat
  dstPort : Nat
  udpLen : Nat
  udpCsumZero : Bool
  udpCsumOk : Bool
deriving DecidableEq, Repr, Inhabited

/-- A PRP redundancy control trailer (R66). -/
structure Trailer where
  lanB : Bool
  seq : Nat
deriving DecidableEq, Repr, Inhabited

/-- A received Ethernet frame with what befell it on the way (R67 to R69, R72, R84, R88). `length` counts the FCS and any tag and trailer;
`etype` is the EtherType after any tag; `pathFull`, `sofFull` (the sluice was full at its first word), `overflow`, `linkLost` and the ECC
fields (for the receive sluice, and for WA1's way through the merge sluice) say how it was met, since the fabric that drains them is
self-timed (R14). -/
structure EthFrame where
  codeError : Bool := false
  lateCodeError : Bool := false
  length : Nat := 64
  fcsOk : Bool := true
  dst : Nat := 0
  src : Nat := 0
  tags : List Nat := []
  etype : Nat := 0
  ip : Option IpHeader := none
  trailer : Option Trailer := none
  pauseQuanta : Nat := 0
  payload : List Byte := []
  pathFull : Bool := false
  sofFull : Bool := false
  overflow : Bool := false
  linkLost : Bool := false
  corrected : Nat := 0
  poisoned : Bool := false
  mergeCorrected : Nat := 0
  mergePoisoned : Bool := false
deriving DecidableEq, Repr, Inhabited

/-- A PTP Announce, Sync or other message (R49 to R51, R53); times in ns. A Sync brings the receive instant less origin and correction, a
peer-delay exchange its turn-around less what the peer held it (none when it failed), both as the raw stamps give them. -/
inductive PtpBody where
  | announce (gm : Nat) (priority1 clockClass accuracy priority2 steps : Nat) (timeInaccuracy : Option Nat) (leap61 leap59 : Bool) (utcOffset : Int)
  | sync (transit : Int)
  | peerDelay (turn : Option Int)
  | management
deriving DecidableEq, Repr, Inhabited

/-- A received PTP message, by Layer 2 (0), UDP over IPv4 (1) or IPv6 (2). `formatOk` is false for a field out of range. -/
structure PtpMessage where
  formatOk : Bool := true
  transport : Nat := 0
  version : Nat := 2
  domain : Nat := 0
  nsOk : Bool := true
  lengthOk : Bool := true
  body : PtpBody
deriving DecidableEq, Repr, Inhabited

/-- A ZDA sentence (R54): whether it is well formed with a good checksum, and the UTC second it names, counted from 1970 without leap
seconds; second 60 is counted as the midnight after it, with `sixty`. -/
structure Zda where
  wellFormed : Bool := true
  checksumOk : Bool := true
  utcSecond : Nat := 0
  sixty : Bool := false
deriving DecidableEq, Repr, Inhabited

/-- A reed sample block (R93). `stamp` is its receive stamp and `payloadLen` the Ethernet payload length. -/
structure ReedBlock where
  subtype : Nat := 1
  version : Nat := 1
  length : Nat := 0
  headId : Nat := 0
  lane : Nat := 0
  nq : Nat := 1
  rate : Nat := 0
  flags : Nat := 0
  seq : Nat := 0
  t0 : Nat := 0
  t0Qual : Nat := 0
  keyGen : Nat := 0
  zeroOk : Bool := true
  samples : List Word := []
  tag : Nat := 0
  payloadLen : Nat := 0
  stamp : Nat := 0
  poisoned : Bool := false
deriving DecidableEq, Repr, Inhabited

/-- One segment of a head's correction curve (R95). -/
structure CurveSegment where
  brk : Nat := 0
  phase : Nat := 0
  gain : Nat := 0
deriving DecidableEq, Repr, Inhabited

/-- A reed descriptor block (R95). -/
structure DescBlock where
  version : Nat := 1
  length : Nat := 116
  headId : Nat := 0
  lane : Nat := 0
  qidx : Nat := 0
  qtype : Nat := 1
  flags : Nat := 0
  dseq : Nat := 0
  calId : Nat := 0
  rated : Nat := 1
  keyGen : Nat := 0
  zeroOk : Bool := true
  segments : List CurveSegment := []
  tag : Nat := 0
  payloadLen : Nat := 116
  stamp : Nat := 0
deriving DecidableEq, Repr, Inhabited

/-- One ASDU of a sampled-value frame (R110): smpCnt, smpSynch and eight (value, quality good) samples. -/
structure SvAsdu where
  smpCnt : Nat := 0
  smpSynch : Nat := 2
  samples : List (Int × Bool) := []
deriving DecidableEq, Repr, Inhabited

/-- An IEC 61850-9-2 sampled-value frame (R110, R111). -/
structure SvFrame where
  formatOk : Bool := true
  appid : Nat := 0x4000
  src : Nat := 0
  simulated : Bool := false
  secured : Bool := false
  confRev : Nat := 1
  asdus : List SvAsdu := []
  stamp : Nat := 0
deriving DecidableEq, Repr, Inhabited

/-- A C37.118.2 frame on the ALIGN path (R170). `kind`: 0 data, 1 header, 2 CFG-1, 3 CFG-2, 4 command, 5 CFG-3. `body` is
what stands between FRACSEC and CHK. -/
structure C37Frame where
  syncOk : Bool := true
  version : Nat := 2
  kind : Nat := 0
  frameSize : Nat := 0
  actualLen : Nat := 0
  chkOk : Bool := true
  idcode : Nat := 0
  soc : Nat := 0
  fracsec : Nat := 0
  body : List Byte := []
  port : Nat := 0
  lanB : Bool := false
  stamp : Nat := 0
deriving DecidableEq, Repr, Inhabited

/-- The part of a configuration frame that describes one PMU block (R174). -/
structure CfgBlock where
  format : Nat := 0
  phnmr : Nat := 0
  annmr : Nat := 0
  dgnmr : Nat := 0
  phunit : List Word := []
  fnom : Nat := 0
deriving DecidableEq, Repr, Inhabited

/-- A CFG-2 or CFG-3 frame handed to firmware (R174). `rate` is the rate code DATA_RATE stands for, none when negative or
no code. -/
structure CfgFrame where
  idcode : Nat := 0
  timeBase : Nat := 0
  rate : Option Nat := none
  blocks : List CfgBlock := []
deriving DecidableEq, Repr, Inhabited

/-- What a C37.118.2 command frame carries (R158). -/
structure OsCommand where
  chkOk : Bool := true
  idcode : Nat := 0
  version : Nat := 2
deriving DecidableEq, Repr, Inhabited

/-- One corrected sample of a metering block: the voltage and current products are formed from these (R236). -/
structure MeterSample where
  values : List Int := []
deriving DecidableEq, Repr, Inhabited

/-- The header every host command carries (R297): its ring, tag, progress request, time limit, start-by instant (ns of TAI,
0 for none), and the offset of a byte that must be zero and is not, if any. -/
structure CmdHeader where
  sq : Nat := 0
  tag : Word := 0
  progEn : Bool := false
  progEvery : Nat := 0
  limitMs : Nat := 0
  startBy : Nat := 0
  badReserved : Option Nat := none
deriving DecidableEq, Repr, Inhabited

/-- What a fetch of a descriptor gives (R304): poisoned data from the host, or a poison mark of sluice 21 (R15); `ecrc` is a read that fails
its ECRC (R393). -/
inductive FetchResult where
  | ok
  | failed
  | poisoned
  | marked
  | ecrc
deriving DecidableEq, Repr, Inhabited

/-- A wrapped key blob as it is read from the host (R340); `readFailed` is a read that fails or returns poisoned data (R304). -/
structure KeyBlob where
  magicOk : Bool := true
  version : Nat := 1
  alg : Nat := 0
  usage : Nat := 0
  slot : Nat := 0
  dest : Nat := 0
  klen : Nat := 0
  targetGen : Nat := 0
  deviceId : Nat := 0
  iv : Nat := 0
  ct : List Byte := []
  tag : Nat := 0
  readFailed : Bool := false
deriving DecidableEq, Repr, Inhabited

/-- A firmware, customer or configuration image: its bytes (R380). -/
abbrev Image := List Byte

/-- What precedes the payload of a causeway frame (R354), with the results of the CRC and tag checks of R356 steps 1
and 3, the lane it came by, and what sluice 9 met on the way (R15, R88). -/
structure CwHeader where
  lane : Nat := 0
  crcOk : Bool := true
  typeOk : Bool := true
  version : Nat := 1
  length : Nat := 0
  fseq : Nat := 0
  pairId : Nat := 0
  sender : Nat := 0
  keyGen : Nat := 0
  tagOk : Bool := true
  corrected : Nat := 0
  poisoned : Bool := false
deriving DecidableEq, Repr, Inhabited

/-- One order-log entry (R357). -/
inductive OrderEntry where
  | input (path length crc : Nat) (stamp : Stamp) (prpSeq port flags : Nat)
  | chain (n : Nat) (hold : Stamp) (outputs : List Word)
  | tick (time : Stamp) (mono : Nat)
  | step (before after : Stamp)
  | command (opcode lane effect : Nat) (context : List Byte)
  | config (table index effect offset : Nat) (value : Word)
deriving DecidableEq, Repr, Inhabited

/-- A ledger record body (R256). -/
structure LedgerBody where
  type : Nat
  mode : Nat
  lane : Nat
  flags : Nat
  recordSeq : Nat
  queueSeq : Nat
  start : Stamp
  stop : Stamp
  regs : List Nat
  deltas : List Nat
  headId : Nat
  mcfgDigest : Nat
  sealNo : Nat
  gapMs : Nat
  outageMs : Nat
  lossBound : Nat
  deviceId : Nat
  pairId : Nat
  context : List Byte
  blocks : Nat
  creepBlocks : Nat
  signSlot : Nat
  signGen : Nat
  fwVer : Nat
  prevHash : Nat
deriving DecidableEq, Repr

/-- A lane entry of the legal core record (R251): `intervalFlags` and `sessionFlags` are the record flags pending, `cut` that the save
holds a partial block. -/
structure ImageLane where
  lane : Nat
  regs : List Nat := []
  frac : List Nat := []
  interval : List Nat := []
  session : List Nat := []
  intervalStart : Nat := 0
  sessionStart : Nat := 0
  recSeq : Nat := 0
  revCount : Nat := 0
  reverse : Bool := false
  legal : Bool := false
  metered : Bool := false
  cut : Bool := false
  intervalFlags : Nat := 0
  sessionFlags : Nat := 0
  lastBlock : Nat := 0
deriving DecidableEq, Repr, Inhabited

/-- A state image (R375): CORE with its header fields, OS_SEQ, PREV_HASH, PULSE (remainder, backlog, PO_COUNT), LATCH (IW held
conditions, IW latches, rule latches), SLOT_SEQ, FN_SEQ, ACK and BODIES. -/
structure StateImage where
  formatOk : Bool := true
  snapId : Nat := 0
  snapTime : Stamp := ⟨0, 0⟩
  entry : Nat := 0
  saveSeq : Nat := 0
  sealNo : Nat := 0
  laCount : Nat := 0
  pairId : Nat := 0
  mode : Nat := 0
  queueSeq : Nat := 0
  lanes : List ImageLane := []
  osSeq : List Nat := []
  prevHash : List Nat := []
  pulses : List (Nat × Nat × Nat) := []
  iwHeld : List Nat := []
  iwLatched : Nat := 0
  alLatched : Nat := 0
  slotSeq : List Nat := []
  fnSeq : List Nat := []
  ack : Nat := 0
  bodies : List LedgerBody := []
deriving DecidableEq, Repr, Inhabited

/-- A checkpoint written by KZ1024 firmware (R373), whose CRC holds: its instant, and the registers and tables it gives. -/
structure Checkpoint where
  snapTime : Nat := 0
  regs : List (Nat × Word) := []
  tables : List (Nat × Nat × List Nat) := []
deriving DecidableEq, Repr, Inhabited

/-- The fields of a relay packet common to every TYPE (R387); `formatOk` is false for a MAGIC, VERSION, TYPE or LEN out of range. -/
structure RelayHeader where
  fromUpstream : Bool := true
  formatOk : Bool := true
  crcOk : Bool := true
  session : Nat := 0
  sender : Nat := 0
  index : Nat := 0
deriving DecidableEq, Repr, Inhabited

/-- What a relay packet carries after its common fields (R387). -/
inductive RelayBody where
  | offer (length kind hops digest : Nat)
  | chunk (data : List Byte)
  | ack (next mask : Nat)
  | result (status : Nat)
  | abort (reason : Nat)
  | arm (kickoff : Nat)
deriving DecidableEq, Repr, Inhabited

end Sys2Proof
end

