-- ==== Sys2Proof/Syntax.lean ====
section
/-!
DEFINITION. The commands of the KZ8192 block: one constructor per row of the table of operations and events, with the
operands the step carries. A write of a register carries the master that makes it (R13, R30). The rows without operands stand
after all the others: the compiler bounds how many constructors with fields one type may have.
-/

namespace Sys2Proof

/-- The operations and events of the part (opcode table). -/
inductive Instr where
  /-- REGISTER_WRITE (R5): Write to a register field that has no row of its own; range and state checks decide acceptance or refusal. -/
  | registerWrite (m : Master) (off width value : Nat)
  /-- STAT_COUNTER_CLEAR (R10): A write to a statistics counter clears the counter and its SAT bit. -/
  | statCounterClear (m : Master) (off value : Nat)
  /-- LATCHING_READ (R12): Read of a low word or latching register that latches its partner registers for the reading master. -/
  | latchRead (m : Master) (off width : Nat)
  /-- LATCHED_PARTNER_READ (R12): Read of a high word or partner register, returning the latched value or the live value. -/
  | partnerRead (m : Master) (off width : Nat)
  /-- UNMAPPED_ACCESS (R29): An access to an undecoded internal address reads zero, ignores writes and captures the address. The bytes
  are those written, or as many as are read; an address that a target decodes is an access to that target (R28, R30). -/
  | internalAccess (m : Master) (addr : Nat) (write : Bool) (bytes : List Byte)
  /-- MRAM_LEGAL_WRITE (R32): A non-metrology master writes the legal MRAM region; the write is logged and counted, or refused when the log
  is full. -/
  | mramLegalWrite (m : Master) (off : Nat) (bytes : List Byte)
  /-- SLUICE_SELFTEST (R87): Once-per-second synchroniser self-test of a sluice with TEST_EN set. -/
  | sluiceSelftest (s : Nat) (pass : Bool)
  /-- OP_SET (R22): Command to move the operating point, checked against the target load limits. -/
  | opSet (h : CmdHeader) (point : Nat)
  /-- TEMP_UPDATE (R26): 10 ms update of GL_TEMP; above 120 °C OP_THERMAL is raised. -/
  | tempUpdate (sixteenths : Int)
  /-- GL_RESET (R34): Write of GL_RESET with the key and WARM requests a class W reset, starting the partial-block save. -/
  | glReset (m : Master) (value : Nat)
  /-- PTP_MESSAGE_RX (R51): A PTP message arrives on a port and is checked, used by the port or dropped. -/
  | ptpMessageRx (p : Nat) (msg : PtpMessage)
  /-- ANNOUNCE_TIMEOUT (R52): No Announce within ANN_TMO intervals; the source is lost or the other port is awaited. -/
  | announceTimeout (p : Nat)
  /-- SYNC_TIMEOUT (R52): No Sync within three Sync intervals; the source is lost. -/
  | syncTimeout (p : Nat)
  /-- PTP_MASTER_TX (R50): A master port sends its periodic Sync, Announce or peer-delay message. -/
  | ptpMasterTx (p : Nat) (kind : Nat)
  /-- PPS_IN_EDGE (R54): A PPS_IN edge is stamped, deglitched and accepted or rejected. -/
  | ppsInEdge (rising : Bool) (heldUs : Nat)
  /-- TOD_SENTENCE_RX (R54): A ZDA sentence arrives on TOD_RX and is checked against the PPS count. -/
  | todSentenceRx (z : Zda)
  /-- TIME_ACQUIRE (R311): Command entering ACQUIRE from FREERUN or FAULT with a valid source. -/
  | timeAcquire (h : CmdHeader)
  /-- TIME_STEP (R44): Command stepping local TAI by a relative or absolute value in ACQUIRE or FREERUN. -/
  | timeStep (h : CmdHeader) (mode : Nat) (sec ns : Int)
  /-- CAL_COMMIT (R57): Write of CAL_COMMIT applies the staged date and time between two ticks. -/
  | calCommit (m : Master) (value : Nat)
  /-- CAL_SNAP_READ (R59): Read of CAL_SNAP_CMD latches one consistent calendar instant for the reader. -/
  | calSnapRead (m : Master)
  /-- CAL_ALARM (R62): A whole calendar second matches an enabled alarm, setting FIRED or OVERRUN and raising CAL_ALARMn. -/
  | calAlarm (n : Nat)
  /-- TRIM_START (R61): Write of CAL_TRIM_CTRL.START begins a 1000 s rate-trim measurement. -/
  | trimStart (m : Master) (value : Nat)
  /-- ETH_FRAME_RX (R67): A received Ethernet frame is stamped, classified to one outcome and handed to its path. -/
  | ethFrameRx (p : Nat) (f : EthFrame)
  /-- PAUSE_HOLD_END (R78): The announced pause time expires and the transmit queues resume. -/
  | pauseHoldEnd (p : Nat)
  /-- TX_FRAME_START (R73): At a frame boundary the highest non-empty queue starts its next whole frame on the wire. -/
  | txBegin (p corrected : Nat) (poisoned : Bool)
  /-- PHY_LINK_LOSS (R75): The physical link drops: the frame in transmission is cut and every queue emptied. -/
  | phyLinkLoss (p : Nat)
  /-- LINK_DOWN_REPORT (R79): A link-down persisting for LINK_HOLD is reported with NP_LINK_DOWN. -/
  | linkDownReport (p : Nat)
  /-- LINK_UP_REPORT (R79): A link-up persisting for LINK_HOLD is reported with NP_LINK_UP. -/
  | linkUpReport (p : Nat)
  /-- RX_SILENCE_EXPIRE (R80): No good frame for RX_SILENCE ms on an up link sets RX_SILENT. -/
  | rxSilenceExpire (p : Nat)
  /-- RX_BAD_RATE_CHECK (R81): Each second the drop counters are compared with THR and NP_RX_BAD_RATE may be raised. -/
  | rxBadRateCheck (p : Nat)
  /-- TXQ_STARVE (R76): A queue stays non-empty for STARVE ms without sending and raises NP_TXQ_STARVE. -/
  | txqStarve (p q : Nat)
  /-- PAUSE_HIGH_WM (R77): The receive sluice reaches HIGH_WM and a PAUSE frame is sent. -/
  | pauseHighWm (p level : Nat)
  /-- PAUSE_REPEAT (R77): Half the announced pause elapses above LOW_WM and the PAUSE is repeated. -/
  | pauseRepeat (p : Nat)
  /-- PAUSE_LOW_WM (R77): The sluice falls to LOW_WM and a zero-quanta PAUSE is sent. -/
  | pauseLowWm (p level : Nat)
  /-- SAMPLE_BLOCK_RX (R99): A reed sample block is checked, accepted and released or dropped. -/
  | sampleBlockRx (b : ReedBlock)
  /-- DESCRIPTOR_RX (R103): A descriptor block is checked and stored, logged and counted, or refused. -/
  | descriptorRx (d : DescBlock)
  /-- SV_FRAME_RX (R111): An IEC 61850-9-2 sampled-value frame is checked and released as one position. -/
  | svFrameRx (f : SvFrame)
  /-- GAP_POSITION_RELEASE (R107): A position with no block is released as GAP at T0 plus span plus MAX_LATE. -/
  | gapPositionRelease (n : Nat)
  /-- LANE_DEADLINE_MISS (R108): A position misses its deadline; it is released with LATE_RELEASE and LN_DEADLINE raised. -/
  | laneDeadlineMiss (n : Nat)
  /-- LANE_SILENCE (R106): No accepted sample block for SILENCE ms; LN_SILENT and the lane goes DOWN. -/
  | laneSilence (n : Nat)
  /-- LANE_RESYNC (R105): Write of LN_CTRL.RESYNC moves a FAULT lane to DOWN. -/
  | laneResync (m : Master) (n value : Nat)
  /-- LANE_ENABLE (R97): Write of LN_CFG.EN = 1, checked against key slot, head identity and slot sharing. -/
  | laneEnable (m : Master) (n value : Nat)
  /-- LANE_DISABLE (R105): Write of LN_CFG.EN = 0 stops releases and sends the lane to DOWN. -/
  | laneDisable (m : Master) (n value : Nat)
  /-- CONVERTER_FRAME (R119): A frame instant: regular inputs are held and the converter starts its sequence. -/
  | converterFrame (c : Nat)
  /-- CONVERSION_END (R122): A conversion ends; its result goes to the sluice and the next conversion starts. -/
  | conversionEnd (c : Nat) (code : Int) (ovr : Bool) (poisoned : Crossing) (full : Bool)
  /-- INJ_TIMER_TRIGGER (R121): The periodic TAI timer of a converter gives an injected trigger. -/
  | injTimerTrigger (c : Nat)
  /-- INJ_SOFT_TRIGGER (R121): Write of AF_INJ_TRIG.GO gives a software injected trigger. -/
  | injSoftTrigger (m : Master) (c value : Nat)
  /-- CHAIN_OUTPUT (R130): A filter chain produces an output with its represented instant and flags. -/
  | chainOutput (n : Nat)
  /-- CHAIN_DEADLINE_MISS (R137): A chain output misses its 40 µs deadline; LATE and FC_DEADLINE. -/
  | chainDeadlineMiss (n : Nat)
  /-- FC_SWAP (R134): Write of FC_CTRL.SWAP requests a bank change, held or rejected during a fade. -/
  | fcSwap (m : Master) (n value : Nat)
  /-- FC_LOAD_FACTORY (R133): Write of FC_CTRL.LOAD_FACTORY loads factory coefficients into both banks. -/
  | fcLoadFactory (m : Master) (n value : Nat)
  /-- FC_COEF_WRITE (R133): Write of FC_COEF_DATA stores a coefficient and may advance TAP. -/
  | fcCoefWrite (m : Master) (n value : Nat)
  /-- PMU_ESTIMATE (R150): A local or lane PMU estimate is computed and written into its internal slot. -/
  | phasorEstimate (f : Nat)
  /-- HALF_CYCLE_ESTIMATE (R151): A half-cycle estimate is computed for the island watchers. -/
  | halfWindow (m j : Nat)
  /-- PMU_DEADLINE_MISS (R154): A PMU estimate misses its deadline; LATE and PE_DEADLINE. -/
  | pmuDeadlineMiss (f : Nat)
  /-- HALF_CYCLE_DEADLINE_MISS (R154): A half-cycle estimate misses its deadline; PE_H_DEADLINE. -/
  | halfCycleDeadlineMiss (m : Nat)
  /-- OS_DEADLINE_MISS (R163): A data frame misses its 1 ms queue deadline and carries the late mark. -/
  | osDeadlineMiss (s : Nat)
  /-- OS_CMD_DATA_OFF (R158): C37.118.2 command 0x0001 stops data on a stream. -/
  | osCmdDataOff (s : Nat) (c : OsCommand)
  /-- OS_CMD_DATA_ON (R158): C37.118.2 command 0x0002 starts data on a stream. -/
  | osCmdDataOn (s : Nat) (c : OsCommand)
  /-- OS_CMD_HEADER (R158): C37.118.2 command 0x0003 sends the header frame. -/
  | osCmdHeader (s : Nat) (c : OsCommand)
  /-- OS_CMD_CFG1 (R158): C37.118.2 command 0x0004 sends CFG-1. -/
  | osCmdCfg1 (s : Nat) (c : OsCommand)
  /-- OS_CMD_CFG2 (R158): C37.118.2 command 0x0005 sends CFG-2. -/
  | osCmdCfg2 (s : Nat) (c : OsCommand)
  /-- OS_CMD_CFG3 (R158): C37.118.2 command 0x0006 sends CFG-3. -/
  | osCmdCfg3 (s : Nat) (c : OsCommand)
  /-- OS_CMD_REJECT (R158): A command with bad CHK, IDCODE, version or code is dropped and counted. -/
  | osCmdReject (s : Nat) (c : OsCommand) (code : Nat)
  /-- OS_TCP_CONNECT (R158): A TCP connection to a stream's listening port is accepted, or refused with RST. -/
  | osConnect (s port : Nat)
  /-- OS_TCP_CLOSE (R158): The stream's TCP connection is closed by the peer. -/
  | osTcpClose (s : Nat)
  /-- OS_TCP_KEEPALIVE (R158): An idle connection gets a keepalive and is closed after three unanswered probes. -/
  | osTcpKeepalive (s : Nat) (answered : Bool)
  /-- OS_CFG2_REPEAT (R158): In MODE 0, CFG-2 is sent every CFG_EVERY seconds. -/
  | osCfg2Repeat (s : Nat)
  /-- OS_ENABLE (R159): Write of OS_CFG.EN = 1, checked for frame length and grid, sending CFG-2 in MODE 0. -/
  | osEnable (m : Master) (s value : Nat)
  /-- ALIGN_FRAME_RX (R170): A C37.118.2 frame on the ALIGN path is checked and its blocks filed. -/
  | alignFrameRx (f : C37Frame)
  /-- CFG_FRAME_CHECK (R174): Firmware compares a configuration frame with its bound slots and learns or mismatches. -/
  | cfgFrameCheck (f : CfgFrame)
  /-- BUCKET_CLOSE (R178): A bucket's close instant is reached; it closes, fills and feeds its consumers. -/
  | bucketClose (number : Nat)
  /-- BUCKET_DEADLINE_MISS (R186): A bucket is not fully closed within 1 ms; CLOSE_LATE and AE_DEADLINE. -/
  | bucketDeadlineMiss (number : Nat)
  /-- SLOT_STALE (R175): An ACTIVE slot sees no accepted block for STALE ms and becomes STALE. -/
  | slotStale (n : Nat)
  /-- SLOT_ENABLE (R168): Write of AE_SLOT_CFG.EN = 1 for an external slot, entering WAITING. -/
  | slotEnable (m : Master) (n value : Nat)
  /-- ALIGN_ENABLE (R167): Write of AE_CFG.EN = 1 lays out the fen store and starts alignment. -/
  | alignEnable (m : Master) (value : Nat)
  /-- ALIGN_DISABLE (R434): Write of AE_CFG.EN = 0 stops alignment and aborts open buckets. -/
  | alignDisable (m : Master) (value : Nat)
  /-- FEN_QUERY (R193): Command copying a range of buckets and slots into a host buffer. -/
  | fenQuery (h : CmdHeader) (first last dst dstLen : Nat) (slots : List Nat) (flags pin : Nat)
  /-- FEN_PIN (R194): Command copying a range of closed buckets into the pin area. -/
  | fenPin (h : CmdHeader) (first last : Nat) (slots : List Nat) (pin : Nat)
  /-- FEN_UNPIN (R310): FEN_PIN with RELEASE frees a pin. -/
  | fenUnpin (h : CmdHeader) (first last : Nat) (slots : List Nat) (pin : Nat)
  /-- OW_SAMPLE (R206): An oscillation watcher takes a sample from a closed bucket and updates ENERGY and SIG_LOSS. -/
  | owSample (w number : Nat)
  /-- OW_MODAL_UPDATE (R207): A modal update completes, writes its record and judges LOW_DAMP and NEG_DAMP. -/
  | owModalUpdate (w : Nat)
  /-- IW_WA_EVAL (R214): An island watcher evaluates the wide-area criteria on a closed bucket. -/
  | iwWaEval (k number : Nat)
  /-- IW_LOCAL_EVAL (R216): An island watcher evaluates vector shift and local ROCOF on a half-cycle. -/
  | iwLocalEval (k : Nat)
  /-- IW_LEARN_END (R219): LEARN seconds pass since the seed and the watcher enters WIDE. -/
  | iwLearnEnd (k : Nat)
  /-- LOC_VS_HOLD_END (R216): VS_HOLD ms after its last assertion LOC_VS deasserts. -/
  | locVsHoldEnd (k : Nat)
  /-- RULE_MIN_ON_END (R222): MIN_ON expires and a rule whose raw state is false falls. -/
  | ruleMinOnEnd (r : Nat)
  /-- RULE_CLEAR (R222): Write of AL_RULE_CTRL.CLEAR releases a rule latch. -/
  | ruleClear (m : Master) (r value : Nat)
  /-- IW_CLEAR (R221): Write of IW_CTRL.CLEAR releases the latch and held conditions. -/
  | iwClear (m : Master) (k value : Nat)
  /-- OW_ENABLE (R211): Write of OW_CFG.EN = 1 checks and starts an oscillation watcher. -/
  | owEnable (m : Master) (w value : Nat)
  /-- IW_ENABLE (R219): Write of IW_CFG.EN = 1 checks and starts an island watcher in LEARN. -/
  | iwEnable (m : Master) (k value : Nat)
  /-- IW_DISABLE (R219): Write of IW_CFG.EN = 0 clears conditions and returns to IDLE. -/
  | iwDisable (m : Master) (k value : Nat)
  /-- DETECTION_DEADLINE_MISS (R228): A watcher, modal, island or rule job misses its deadline and is marked late. -/
  | detectionDeadlineMiss (kind index : Nat)
  /-- BLOCK_BOOK (R236): A completed metering block is corrected, computed and booked into the registers. -/
  | blockBook (n : Nat) (mismatch mismatchAgain : Bool)
  /-- ME_BLOCK_DEADLINE_MISS (R244): A block misses its booking deadline; LATE and ME_DEADLINE. -/
  | meBlockDeadlineMiss (n : Nat)
  /-- SUPPLY_TRIP (R248): PFAIL_n or the VIN monitor trips: HOLDUP, outage entry, partial blocks and power-fail save. -/
  | supplyTrip (monitor : Bool)
  /-- LANE_RECORD_CLOSE (R255): Command closing a lane's session record at the next block boundary. -/
  | laneRecordClose (h : CmdHeader) (lane : Nat) (context : List Byte)
  /-- METROLOGY_MODE (R245): Command changing the service mode, logged and counted. -/
  | metrologyMode (h : CmdHeader) (mode : Nat)
  /-- LEDGER_ACK (R258): Write of ME_LEDGER_ACK_HI frees queued bodies up to the acknowledged QUEUE_SEQ. -/
  | ledgerAck (m : Master) (value : Nat)
  /-- LEDGER_RESEND (R258): Write of ME_LEDGER_CTRL.RESEND delivers every unacknowledged record again. -/
  | ledgerResend (m : Master) (value : Nat)
  /-- METER_DISABLE (R233): Write of ME_CFG.EN = 0 ends metering at the next position boundary with a partial block. -/
  | meterDisable (m : Master) (n value : Nat)
  /-- PULSE_EMIT (R260): A pulse output emits the next pulse from its accumulator or backlog. -/
  | pulseEmit (p : Nat)
  /-- PULSE_WIDTH_END (R260): The pulse width expires and the output returns inactive. -/
  | pulseWidthEnd (p : Nat)
  /-- SENTINEL_SAMPLE (R262): Once a second during an outage the sentinel measures current inputs and logs CURRENT_IN_OUTAGE. -/
  | sentinelSample (rms : List Nat)
  /-- TAMPER_INPUT (R264): A tamper input changes to its active level and writes a TAMPER entry. -/
  | tamperInput (pin : Nat) (level : Bool)
  /-- CAPTURE_ROW (R273): A capture row completes when all samples arrive or their deadlines pass. -/
  | captureRow (u : Nat) (words : List (Option Word))
  /-- CAPTURE_HOLDOFF_END (R277): The time hold-off ends and the unit returns to PRE or ARMED. -/
  | captureHoldoffEnd (u : Nat)
  /-- CAPTURE_DEADLINE_MISS (R281): A record is not complete in time; LATE and CP_DEADLINE. -/
  | captureDeadlineMiss (u : Nat)
  /-- CP_ARM (R276): Write of CP_CTRL.ARM starts gathering rows into a free slot. -/
  | cpArm (m : Master) (u value : Nat)
  /-- CP_DISARM (R276): Write of CP_CTRL.DISARM aborts a record in POST and returns to IDLE. -/
  | cpDisarm (m : Master) (u value : Nat)
  /-- CP_TRIG (R274): Write of CP_CTRL.TRIG triggers an ARMED or PRE unit without matching. -/
  | cpTrig (m : Master) (u value : Nat)
  /-- CP_RELEASE_ALL (R278): Write of CP_CTRL.RELEASE_ALL frees every complete record. -/
  | cpReleaseAll (m : Master) (u value : Nat)
  /-- CAPTURE_ARM (R276): Command arming, disarming, triggering or releasing a capture unit. -/
  | captureArm (h : CmdHeader) (unit action : Nat)
  /-- CAPTURE_READ (R282): Command copying a capture record or its rows to a host buffer. -/
  | captureRead (h : CmdHeader) (unit flags slot first rows dst dstLen : Nat)
  /-- LOG_READ (R292): Command returning peat-log or tail entries from a SEQ. -/
  | logRead (h : CmdHeader) (fromSeq dst dstLen max minSev src : Nat)
  /-- SQ_DOORBELL (R302): Write of HI_SQ_DB gives new descriptors to the device. -/
  | sqDoorbell (m : Master) (q value : Nat)
  /-- CQ_DOORBELL (R302): Write of HI_CQ_DB returns consumed completion entries. -/
  | cqDoorbell (m : Master) (q value : Nat)
  /-- DR_DOORBELL (R302): Write of HI_DR_DB returns delivery-ring bytes. -/
  | drDoorbell (m : Master) (r value : Nat)
  /-- RING_ENABLE (R296): Write of a ring's EN = 1 zeroes its pointers and starts it. -/
  | ringEnable (m : Master) (off value : Nat)
  /-- RING_DISABLE (R296): Write of a ring's EN = 0 stops fetching or delivery. -/
  | ringDisable (m : Master) (off value : Nat)
  /-- COMMAND_START (R298): A ready SQ's next descriptor is fetched, checked and started. -/
  | commandStart (q : Nat) (fetch : FetchResult) (opcode : Nat) (tag : Word)
  /-- COMMAND_STEP (R307): One step of a long command runs, with progress or timeout at its boundary. -/
  | commandStep (q : Nat) (readOk : Bool)
  /-- STEP_DEADLINE_MISS (R307): A command step overruns twice its bound; HI_STEP_LATE. -/
  | stepDeadlineMiss (q : Nat)
  /-- MSIX_COALESCE_TIMER (R312): COAL_US expires after the first unsignalled entry and the vector is signalled. -/
  | msixCoalesceTimer (src : Nat)
  /-- MSIX_UNMASK (R312): A masked vector with pending bit is unmasked and sends one message. -/
  | msixUnmask (m : Master) (v value : Nat)
  /-- HB_WRITE (R313): Write of HI_HB restarts the host heartbeat timer. -/
  | hbWrite (m : Master) (value : Nat)
  /-- NOP (R308): Command that does nothing and completes. -/
  | nop (h : CmdHeader)
  /-- WRITE_TABLE (R309): Command writing a register set or replacing a table. -/
  | tableSet (h : CmdHeader) (table index : Nat) (entries : List (Nat × Nat)) (readOk : Bool)
  /-- READ_TABLE (R309): Command copying a table to a host buffer. -/
  | readTable (h : CmdHeader) (table index dst dstLen : Nat)
  /-- THREAD_FLAG_SET (R321): Write of SC_THR_FLAGS sets event flags and may wake a thread. -/
  | threadFlagSet (m : Master) (t value : Nat)
  /-- THREAD_FLAG_CLEAR (R321): Write of SC_THR_FCLR clears event flags. -/
  | threadFlagClear (m : Master) (t value : Nat)
  /-- THREAD_WAIT (R320): Write of SC_THR_WAIT.GO starts a wait on the masked flags. -/
  | threadWait (m : Master) (t value : Nat)
  /-- THREAD_ENABLE (R319): Write of SC_THR_CFG.EN = 1 makes a thread READY. -/
  | threadEnable (m : Master) (t value : Nat)
  /-- THREAD_DISABLE (R319): Write of SC_THR_CFG.EN = 0 removes a thread from its lists. -/
  | threadDisable (m : Master) (t value : Nat)
  /-- PREEMPT_TRAP (R322): A held PREEMPT trap is taken at the next instruction boundary once MIE is 1. -/
  | preemptTrap (c : Nat)
  /-- CORE_CLAIM (R323): Read of SC_CORE_CLAIM returns and installs the core's next thread. -/
  | coreClaim (m : Master) (c : Nat)
  /-- CORE_YIELD (R319): Write of SC_CORE_CTRL.YIELD returns the current thread to READY. -/
  | coreYield (m : Master) (c value : Nat)
  /-- CORE_RUN (R317): Write of SC_CORE_CTRL.RUN starts or holds a customer core. -/
  | coreRun (m : Master) (c value : Nat)
  /-- SOFTWARE_EVENT (R324): Write of SC_SWEVT fires software event sources. -/
  | softwareEvent (m : Master) (value : Nat)
  /-- SCHED_TIMER (R325): A scheduler timer reaches its MONO or TAI instant and fires its source. -/
  | schedTimer (i : Nat)
  /-- DL_ARM (R328): Write of DL_ARM arms a thread monitor US µs ahead. -/
  | dlArm (m : Master) (d value : Nat)
  /-- DL_DUE_ARM (R328): Write of DL_DUE_HI arms a thread monitor at the held due time. -/
  | dlDueArm (m : Master) (d value : Nat)
  /-- DL_DONE (R328): Write of DL_DONE meets a deadline and disarms or re-arms the monitor. -/
  | dlDone (m : Master) (d value : Nat)
  /-- THREAD_DEADLINE_MISS (R327): A thread monitor's due time passes; DL_MISS and a flag set. -/
  | threadDeadlineMiss (d : Nat)
  /-- KEY_GENERATE (R339): Command generating a key in an empty slot or erasing a slot. -/
  | keyGenerate (h : CmdHeader) (slot alg usage dest pubDst pubLen : Nat)
  /-- KEY_IMPORT (R340): Command importing a wrapped key into an empty slot. -/
  | keyImport (h : CmdHeader) (slot wrapSlot : Nat) (blob : KeyBlob)
  /-- KEY_UPDATE (R341): Command replacing a slot's key from a blob or by generation. -/
  | keyUpdate (h : CmdHeader) (slot wrapSlot : Nat) (blob : KeyBlob) (pubDst pubLen : Nat)
  /-- ATTEST (R344): Command building an HMAC quote, optionally signed. -/
  | attest (h : CmdHeader) (slot flags dst dstLen challenge : Nat)
  /-- SIGN (R343): Command signing a host buffer under SLH-DSA. -/
  | sign (h : CmdHeader) (slot : Nat) (message : List Byte) (dst dstLen : Nat)
  /-- VERIFY (R343): Command verifying an SLH-DSA signature. -/
  | verify (h : CmdHeader) (slot : Nat) (message sig : List Byte)
  /-- PAIR_ENABLE (R352): Write of CW_CFG.PAIR_EN = 1 takes a SOLO unit to PRIMARY. -/
  | pairEnable (m : Master) (value : Nat)
  /-- PAIR_DISABLE (R352): Write of CW_CFG.PAIR_EN = 0 returns PRIMARY to SOLO or a standby to LOST. -/
  | pairDisable (m : Master) (value : Nat)
  /-- PAIR_JOIN (R374): Command joining a pair as STANDBY or COLD_STANDBY, or importing a KZ1024 checkpoint. -/
  | pairJoin (h : CmdHeader) (role pairId ckpt ckptLen : Nat) (import_ : Option Checkpoint)
  /-- PAIR_PROMOTE (R367): Command promoting a standby at once. -/
  | pairPromote (h : CmdHeader)
  /-- PAIR_DRILL (R367): Command scheduling a promotion drill 20 ms ahead. -/
  | pairDrill (h : CmdHeader)
  /-- CW_KEEPALIVE_RX (R366): A KEEPALIVE from the partner is accepted. -/
  | cwKeepaliveRx (c : CwHeader) (role sync : Nat) (since : Stamp)
  /-- CW_ORDER_RX (R358): A standby receives ORDER entries and applies them to its inputs and configuration. -/
  | cwOrderRx (c : CwHeader) (first : Nat) (entries : List OrderEntry)
  /-- CW_FETCH_RX (R359): The primary receives a FETCH and re-sends entries or a frame copy. -/
  | cwFetchRx (c : CwHeader) (first count : Nat)
  /-- CW_FRAME_COPY_RX (R359): A standby receives a FRAME_COPY for a missing input or table. -/
  | cwFrameCopyRx (c : CwHeader) (index : Nat) (payload : List Byte) (table : List Nat)
  /-- CW_DIGEST_RX (R364): A partner DIGEST is compared with the unit's own class digests. -/
  | cwDigestRx (c : CwHeader) (window valid : Nat) (digests : List Nat)
  /-- CW_LEDGER_NOTE_RX (R371): A standby receives LEDGER_NOTE and discards or frees bodies. -/
  | cwLedgerNoteRx (c : CwHeader) (kind queueSeq bodyHash : Nat)
  /-- CW_HEALTH_RX (R376): A partner HEALTH report is received and its CFG_DIGEST compared. -/
  | cwHealthRx (c : CwHeader) (role sync cfgDigest fwVer : Nat)
  /-- CW_STATE_RX (R375): A joiner receives a STATE chunk of the state image. -/
  | cwStateRx (c : CwHeader) (snapId offset len total : Nat) (image : StateImage)
  /-- CW_STATE_ACK_RX (R375): The primary receives a STATE_ACK. -/
  | cwStateAckRx (c : CwHeader) (snapId offset : Nat)
  /-- CW_PROMOTE_RX (R367): A PROMOTE frame is accepted, scheduling promotion or demotion at EFFECT. -/
  | cwPromoteRx (c : CwHeader) (reason effect : Nat)
  /-- CW_DIVERGE_RX (R365): A partner DIVERGE result decides the divergence outcome. -/
  | cwDivergeRx (c : CwHeader) (window classes result : Nat)
  /-- CW_JOIN_RX (R374): The primary receives JOIN and answers with JOIN_REPLY and a state image. -/
  | cwJoinRx (c : CwHeader) (role fwVer fwDigest cfgDigest : Nat)
  /-- CW_JOIN_REPLY_RX (R374): A joiner receives JOIN_REPLY. -/
  | cwJoinReplyRx (c : CwHeader) (result snapId : Nat)
  /-- CW_RELAY_RX (R388): A relay packet arrives over the causeway from the partner. -/
  | cwRelayRx (c : CwHeader) (r : RelayHeader) (body : RelayBody)
  /-- CW_LANE_SILENCE (R353): A causeway lane delivers nothing for 3 ms while the other does; CW_LANE_DOWN. -/
  | cwLaneSilence (l : Nat)
  /-- SELFTEST_RESULT (R365): The divergence known-answer test ends and the DIVERGE frame is sent. -/
  | selftestResult (ok : Bool)
  /-- KAT_RUN (R376): Periodic known-answer test of every engine. -/
  | katRun (engine : Nat) (pass : Bool)
  /-- MEMORY_SCRUB (R376): Periodic scrub pass of DRAM or MRAM. -/
  | scrubPass (mram : Bool) (corrected bad : List Nat)
  /-- EYE_MEASURE (R376): Each second the eye margin of each causeway lane is measured. -/
  | eyeMeasure (l eye : Nat)
  /-- PATH_CHECK (R377): After promotion an output path is proven or fails with CW_PATH_FAIL. -/
  | pathCheck (path : Nat) (ok : Bool)
  /-- FW_STAGE (R383): Command staging a verified image into its slot, bank or partition. -/
  | imageStage (h : CmdHeader) (kind flags : Nat) (image : Image) (readOk : Bool)
  /-- FW_ARM (R383): Command arming the staged image at a kick-off. -/
  | fwArm (h : CmdHeader) (kickoff : Nat)
  /-- FW_CONFIRM (R386): Command confirming a provisional image. -/
  | fwConfirm (h : CmdHeader)
  /-- FW_FALLBACK (R386): Command returning to the previous image. -/
  | fwFallback (h : CmdHeader)
  /-- RELAY_OFFER_RX (R388): A relay OFFER starts or resumes a session, or is answered busy. -/
  | relayOfferIn (r : RelayHeader) (length kind hops digest : Nat)
  /-- RELAY_CHUNK_RX (R388): A relay CHUNK is written into the receive buffer. -/
  | relayChunkIn (r : RelayHeader) (data : List Byte)
  /-- RELAY_ACK_RX (R388): A relay ACK advances the sender's window. -/
  | relayAckRx (r : RelayHeader) (next mask : Nat)
  /-- RELAY_RESULT_RX (R388): A relay RESULT reports verification downstream. -/
  | relayResultRx (r : RelayHeader) (status : Nat)
  /-- RELAY_ABORT_RX (R388): A relay ABORT ends the session. -/
  | relayAbortRx (r : RelayHeader) (reason : Nat)
  /-- RELAY_ARM_RX (R389): A relay ARM arms the unit when ACCEPT_ARM is set. -/
  | relayArmRx (r : RelayHeader) (kickoff : Nat)
  /-- NAND_REFRESH_END (R391): A refresh pass completes and FU_REFRESH_DONE is raised. -/
  | refreshPassed (blocks : Nat)
  /-- RETURN_CAPSULE (R402): Command writing the return capsule into MRAM. -/
  | returnCapsule (h : CmdHeader) (confirm : Nat)
  /-- BATTERY_POWER_ON (R405): The battery domain receives supply after none: class P reset. -/
  | batteryPowerOn (vin : Bool)
  /-- POWER_UP (R409): The power-up sequence runs from release of a class C or P reset to BOOT_DONE. -/
  | bootUp (testmode : Bool) (slotA slotB : Nat) (failed : List Nat)
  /-- CONFIG_LOAD (R411): After boot the stored configuration is applied in order and SERVICE set. -/
  | configLoad (partitionOk : Bool) (writes : List (Nat × Nat)) (tables : List (Nat × Nat × List Nat))
  /-- VBAT_LOW (R430): VBAT falls below 2.5 V and PW_VBAT_LOW is raised. -/
  | vbatLow (mv : Nat)
  /-- PHY_LINK_UP (R79): The physical link of a port comes up, with auto-negotiation or an SGMII control word showing link up, starting the
  LINK_HOLD interval and letting the queues accept frames again. -/
  | phyLinkUp (p : Nat) (controlWord : Bool) (speed : Nat)
  /-- CONFIG_SPACE_WRITE (R295): The host writes PCI Express configuration space: power state D0 or D3hot, MSI-X enable or Bus Master
  Enable, which stops or resumes DMA and MSI-X messages. -/
  | configSpaceWrite (d3hot msix busMaster : Bool)
  /-- OP_SWITCH_END (R24): The core supply ramp ends; the target point's limits apply, OP_SWITCH is raised and source 13 fires. -/
  | opSwitchEnd
  /-- WARM_RESET_TAKE_EFFECT (R35): The class W reset takes effect after the save commits: engines, rings and paths reset and commands lost.
  -/
  | warmResetTakeEffect
  /-- WARM_RESET_END (R413): The class W reset ends: firmware cores restart, paths reopen and source 223 fires. -/
  | warmResetEnd
  /-- PORT_QUALIFY_WAIT_END (R50): The wait for the other WA port to qualify ends without a port; the source is lost. -/
  | portQualifyWaitEnd
  /-- QUALITY_TICK (R40): 10 ms recomputation of the quality code in HOLDOVER or while waiting for a port. -/
  | qualityTick
  /-- PPS_WINDOW_MISS (R54): A 1 s window passes without an accepted edge; two in a row lose the source. -/
  | ppsWindowMiss
  /-- TOD_TIMEOUT (R54): No valid sentence for TOD_TMO seconds; the source is lost. -/
  | todTimeout
  /-- TAI_SECOND (R55): A TAI second boundary: PPS_OUT pulses when permitted and scheduler source 8 fires. -/
  | taiSecond
  /-- PPS_OUT_END (R55): The PPS_OUT pulse width expires and the pin returns inactive. -/
  | ppsOutEnd
  /-- TOD_TX_SEND (R55): A ZDA sentence is sent on TOD_TX after the pulse. -/
  | todTxSend
  /-- TRIM_DONE (R61): The trim measurement completes; the result is stored and optionally written to CAL_TRIM. -/
  | trimFinish
  /-- UTC_MIDNIGHT (R56): UTC midnight: a pending leap completes and the PTP offset is copied. -/
  | utcMidnight
  /-- PRP_DD_EXPIRE (R66): A duplicate-discard entry reaches DD_WINDOW and is forgotten. -/
  | prpDdExpire
  /-- PRP_SUPERVISION_TX (R65): Every LIFE_CHECK interval a PRP supervision frame is sent. -/
  | prpSupervisionTx
  /-- REF_READY (R117): The reference buffer has been on for 2 ms and READY becomes 1. -/
  | refReady
  /-- BUCKET_OPEN (R176): Local TAI reaches a grid instant and its bucket opens with a fixed expected set. -/
  | bucketOpen
  /-- RULE_EVAL (R223): The alarm router evaluates every rule on a condition-vector update. -/
  | ruleEval
  /-- SAVE_SNAPSHOT (R247): At each whole monotonic second the legal core record is snapshotted and saved. -/
  | saveSnapshot
  /-- SAVE_COMMIT (R247): A save's header is written and the save commits; source 218 fires. -/
  | saveCommit
  /-- SAVE_DEADLINE_MISS (R247): A save is not committed within 200 ms; ME_SAVE_LATE. -/
  | saveDeadlineMiss
  /-- SUPPLY_RECOVER (R406): Return conditions hold for RECOVER_MS and the supply state returns to MAIN. -/
  | supplyRecover
  /-- CORE_DOMAIN_STOP (R407): VIN or VAUX falls below the stop limit and only the battery domain runs. -/
  | coreDomainStop
  /-- INTERVAL_BOUNDARY (R255): An interval boundary from UTC midnight closes every open interval record. -/
  | intervalBoundary
  /-- LEDGER_SIGN (R257): The security engine completes the SLH-DSA signature of a queued body. -/
  | ledgerSign
  /-- LEDGER_PLACE (R258): A signed record is placed in its delivery ring once room is available. -/
  | ledgerPlace
  /-- SIGN_DEADLINE_MISS (R257): A record is not signed within 5 s; ME_SIGN_LATE. -/
  | signDeadlineMiss
  /-- CAPTURE_MATCH (R274): Each capture unit matches its pattern against a vector update and may trigger. -/
  | captureMatch
  /-- PEAT_ENTRY_WRITE (R288): The peat-log writer takes a queued occurrence and creates or folds an entry. -/
  | peatEntryWrite
  /-- FOLD_WINDOW_CLOSE (R288): A fold window ends; a folded tail copy is rewritten. -/
  | foldWindowClose
  /-- TAIL_COPY (R290): A MAJOR or higher entry is copied into the MRAM tail and IN_TAIL set. -/
  | tailCopy
  /-- COMPLETION_POST (R301): A final completion is written once its CQ has room. -/
  | completionPost
  /-- HB_TIMEOUT (R313): TIMEOUT_MS passes without a heartbeat; HI_HB_LOST and a class W reset. -/
  | hbTimeout
  /-- FUNCTION_LEVEL_RESET (R314): PCIe FLR resets the host interface only. -/
  | functionLevelReset
  /-- PERST_ASSERT (R426): PERST_n low holds the link down and acts as a class F reset. -/
  | perstAssert
  /-- DRBG_RESEED (R348): The DRBG is reseeded after its request count or 60 s. -/
  | drbgReseed
  /-- ENTROPY_FAIL (R348): A health test fails; the DRBG is uninstantiated and SE_ENTROPY_FAIL raised. -/
  | entropyFail
  /-- CW_KEEPALIVE_TX (R366): Every 250 µs a KEEPALIVE is sent. -/
  | cwKeepaliveTx
  /-- PARTNER_SILENCE (R366): No partner frame for 3 ms: a PRIMARY loses its partner, a STANDBY promotes. -/
  | partnerSilence
  /-- PROMOTE_EFFECT (R367): The EFFECT instant of an accepted PROMOTE is reached and roles change. -/
  | promoteEffect
  /-- ORDER_TICK (R357): Every 100 µs the primary logs a TICK entry. -/
  | orderTick
  /-- ORDER_FLUSH (R357): An ORDER frame is sent 20 µs after its first entry. -/
  | orderFlush
  /-- ORDER_MATCH_EXPIRE (R358): A held frame named by no entry within MATCH_MS is discarded. -/
  | orderMatchExpire
  /-- FETCH_TIMER (R359): An INPUT entry without a matching frame after 2 ms sends a FETCH. -/
  | fetchTimer
  /-- DIGEST_SEND (R363): Pair time passes a window end plus wait and 520 ms; the DIGEST is sent. -/
  | digestSend
  /-- DIGEST_MISSING (R363): A partner DIGEST absent 100 ms after the unit's own is counted missing. -/
  | digestMissing
  /-- HEALTH_TX (R376): Every 1 s a HEALTH report is sent. -/
  | healthTx
  /-- CHECKPOINT_TX (R372): Every CKPT_S seconds a PRIMARY sends a state image to its cold standby. -/
  | checkpointTx
  /-- IMAGE_VERIFIED (R381): Image verification ends with success or rejection. -/
  | imageVerified
  /-- IMAGE_COPY_DONE (R382): A verified image is copied to its place and becomes STAGED. -/
  | imageCopyDone
  /-- KICKOFF (R383): The kick-off is reached: activate if LOCKED, else missed. -/
  | kickoff
  /-- ACTIVATION_END (R384): The firmware switch ends and SWITCHING clears. -/
  | activationEnd
  /-- START_LIMIT_EXPIRE (R385): START_S passes without SERVICE on a provisional start; restart or fall back. -/
  | startLimitExpire
  /-- CONFIG_COPY_DONE (R386): The background configuration copy after confirmation ends. -/
  | configCopyDone
  /-- RELAY_ACK_TIMER (R388): 10 ms after the last chunk the receiver sends an ACK. -/
  | relayAckTimer
  /-- RELAY_RETRANSMIT (R388): An unacknowledged chunk is sent again after RTO. -/
  | relayRetransmit
  /-- RELAY_GIVE_UP (R388): 30 s without progress ends the session with ABORT. -/
  | relayGiveUp
  /-- NAND_REFRESH (R391): A partition's 365-day refresh starts. -/
  | nandRefresh
  /-- VIN_RETURN (R407): VIN and VAUX return in BATTERY and a class C reset begins. -/
  | vinReturn
  /-- RST_N_ASSERT (R412): RST_n low requests a class C reset after the power-fail save. -/
  | rstNAssert
  /-- BATTERY_LOSS (R430): VBAT falls below the retention limit and the battery domain stops. -/
  | batteryLoss
  /-- PERST_RELEASE (R426): PERST_n returns high and the PCI Express link is no longer held down, so it can train again. -/
  | perstRelease
  /-- DIGEST_LATE (R363): Deadline monitor 16 finds a DIGEST not sent by 10 ms after its send time and counts it in CW_CNT[9]. -/
  | digestLate
  /-- VBAT_INSERT (R405): VBAT is applied while VIN is present, which causes no reset and restores battery backing, ending the VBAT_LOW
  condition. -/
  | vbatInsert
deriving DecidableEq, Repr

end Sys2Proof
end

