-- ==== Sys2Proof/Config.lean ====
section
/-!
DEFINITION. What the model leaves open: functions with no body, so that no proof can see a value of them. Each stands for a
computation that an external standard gives and the spec only names, or for a value the spec does not state.
-/

namespace Sys2Proof.Config

/-- A value the spec leaves open, numbered by the state's counter of free values (log 3). -/
opaque freeValue : Nat → Nat

/-- What the entropy source gives the random generator, numbered by the counter of free values (R348, log 3). -/
opaque entropy : Nat → Nat

/-- The keys Saharn puts in slots 0 and 1 at manufacture (R334, log 4). -/
opaque factoryKey : Nat → Nat

/-- The masks of the shares of those keys (R331). -/
opaque factoryMask : Nat → Nat

/-- The fractional-delay interpolator of R234: its output at 1/1024ths of a sample from sixteen samples. The spec gives its
length and resolution and no coefficients (log 15). -/
opaque interpolate : Nat → List Int → Int

/-- A sample that the interpolator of R234 reaches for and that its lane has not released yet: the instants from a TAI instant on, and the
quantity (log 183). -/
opaque unreleased : Nat → Nat → Int

/-- The serial number of a ledger certificate, by slot and generation: R347 states none (log 217). -/
opaque certificateSerial : Nat → Nat → Nat

/-- The certificate chain as Saharn stores it: its bytes by their place in the 64 KiB of R346, and the place and the length of each
certificate (log 218). -/
opaque chainByte : Nat → BitVec 8
@[inherit_doc chainByte] opaque chainOffset : Nat → Nat
@[inherit_doc chainByte] opaque chainLength : Nat → Nat

/-- The servo law: the rate correction in units of 2⁻³² from the present one and the measured offset in ns (log 5). -/
opaque servoRate : Int → Int → Int

/-- The servo's own uncertainty in ns, part of the error bound of R40 (log 5). -/
opaque servoUncertainty : Nat → Nat

/-- Whether the first master data set is better than the second under the best master clock algorithm (R50, log 5). -/
opaque bmcaBetter : List Nat → List Nat → Bool

/-- The error of the 32.768 kHz oscillator against the 25 MHz one: what it gains in the n-th tick of 8 ns, in units of 2⁻²⁴ ns (log 225). -/
opaque rtcError : Nat → Int

/-- The engine that receives a word with a parity error in the n-th tick, if one does (R393, log 157). -/
opaque parityError : Nat → Option Nat

/-- The sluice, of those that no command brings words through, that meets an ECC error in the n-th tick, and whether it is uncorrectable
(R88, log 157). -/
opaque sluiceError : Nat → Option (Nat × Bool)

/-- The factory coefficient of a preset and tap, in Q0.23 (R129, log 23): the spec gives the filters' figures, not their taps. -/
opaque factoryCoef : Nat → Nat → BitVec 24

/-- Whether the OTP trim block fails its check (R118, log 226): fixed at manufacture. -/
opaque trimBad : Bool

/-- The weight of an M-class window at a distance from 0 to 1 of its half span from its centre, at F_NOM and the reporting rate that the
design is of: R146 names a Kaiser-windowed low-pass and states its stopband, not its shape (log 180). -/
opaque kaiserWeight : Nat → Nat → Rat → Rat

/-- Magnitude and angle in binary32 of a rectangular phasor a component of which is not finite (R172, log 208). -/
opaque polarNonFinite : Nat → Nat → Nat × Nat

/-- The rate of change per second that an engine reads, at an instant in ns, from a quantity known at every instant: an angle in turns,
modulo one, or a frequency. R144 has frequency and ROCOF as rates of change, and no rule says how one is taken (log 180). -/
opaque rateOfChange : (Rat → Rat) → Rat → Rat

/-- A half-cycle sum corrected for the tracked frequency (R151): F_NOM, that frequency, and the sum (log 180). -/
opaque halfCorrection : Nat → Rat → Rat × Rat → Rat × Rat

/-- The phasor of a window that holds no sample of an input: the function's and the phasor's number (log 180). -/
opaque emptyWindow : Nat → Nat → Rat × Rat

/-- The configuration frame of C37.118.2 that states these values: version 1, 2 or 3 (R157 names the frames; the standard gives
their layout, log 31). -/
opaque cfgFrame : Nat → List Nat → List Byte

/-- The poles a multichannel matrix pencil of a model order finds in samples of several signals, with each signal's amplitude and
phase (R207): (σ, ω, [(A, φ)]), at a rate in samples/s (log 29). -/
opaque matrixPencil : Nat → Nat → List (List Rat) → List (Rat × Rat × List (Rat × Rat))

/-- Saharn's firmware public key, held in OTP (R381, log 4). -/
opaque firmwareKey : Nat

/-- The register writes and the tables that a configuration image's body states: the spec gives no layout of it (log 189). -/
opaque configWrites : List Byte → List (Nat × Nat)
@[inherit_doc configWrites] opaque configTables : List Byte → List (Nat × Nat × List Nat)

/-- The transmit queue of relay packets: R73 says that the firmware configuration sets it, and FU_RELAY_CFG has no such field (log 188). -/
opaque relayQueue : Nat

/-- The digest and the configuration format of the firmware a slot holds from manufacture: the spec gives neither (log 38). -/
opaque factoryDigest : Nat → Nat
@[inherit_doc factoryDigest] opaque factoryFormat : Nat

end Sys2Proof.Config
end

