-- ==== Sys2Proof/Machine/Numeric.lean ====
section
/-!
DEFINITION. Numbers: rounding to nearest with ties to even, square roots, and IEEE 754 binary32 words as exact rationals. The
spec computes in binary64 or in exact integers and shows binary32 words; the model computes exactly and rounds once
(DEDUCED, log 14).
-/

namespace Sys2Proof.Machine

/-- The nearest integer, ties to even. -/
def roundEven (r : Rat) : Int :=
  let f := r.floor
  let d := r - f
  if d < 1 / 2 then f else if 1 / 2 < d then f + 1 else if f % 2 = 0 then f else f + 1

/-- The square root of a rational, times 2ᵏ, rounded down. -/
def sqrtFloor (r : Rat) (k : Nat) : Nat := Nat.sqrt (r.num.toNat * 4 ^ k / r.den)

/-- A rational within 2⁻⁸⁰ of the square root, equal to it when that is exact, and never on the far side of a value that a
binary32 word can hold. -/
def ratSqrt (r : Rat) : Rat :=
  let s := sqrtFloor r 80
  if (s * s : Nat) * r.den = r.num.toNat * 4 ^ 80 then (s : Rat) / (2 ^ 80 : Nat) else (2 * s + 1 : Nat) / ((2 ^ 81 : Nat) : Rat)

/-- Two to an integer power. -/
def pow2 (e : Int) : Rat := if 0 ≤ e then ((2 ^ e.toNat : Nat) : Rat) else 1 / ((2 ^ (-e).toNat : Nat) : Rat)

/-- The binary32 word nearest a rational, ties to even; beyond the largest, an infinity. -/
def ratToF32 (r : Rat) : Nat :=
  if r = 0 then 0
  else
    let sign := if r < 0 then 2 ^ 31 else 0
    let a := if r < 0 then -r else r
    let e0 : Int := (Nat.log2 a.num.toNat : Int) - Nat.log2 a.den
    let e1 := if a < pow2 e0 then e0 - 1 else e0
    let e := if e1 < -126 then -126 else e1
    let m := (roundEven (a * pow2 (23 - e))).toNat
    let w : Int := if m < 2 ^ 23 then m else (e + 126) * (2 ^ 23 : Nat) + m
    sign + (if 0x7f800000 ≤ w then 0x7f800000 else w.toNat)

/-- A binary32 word is a number: neither an infinity nor a NaN. -/
def f32Finite (w : Nat) : Bool := w / 2 ^ 23 % 256 != 255

/-- The value of a finite binary32 word. -/
def f32ToRat (w : Nat) : Rat :=
  let e : Nat := w / 2 ^ 23 % 256
  let m : Nat := w % 2 ^ 23
  let a : Rat := if e = 0 then (m : Rat) * pow2 (-149) else ((m + 2 ^ 23 : Nat) : Rat) * pow2 ((e : Int) - 150)
  if w / 2 ^ 31 % 2 = 1 then -a else a

/-- The quiet NaN 0x7fc0_0000. -/
def f32NaN : Nat := 0x7fc00000

/-- The absolute value. -/
def ratAbs (r : Rat) : Rat := if r < 0 then -r else r

/-- The ceiling. -/
def ratCeil (r : Rat) : Int := -((-r).floor)

/-- The sum of a list. -/
def ratSum (l : List Rat) : Rat := l.foldl (· + ·) 0

/-! ### Bytes -/

/-- `n` bytes of a number, least significant first. -/
def leBytes : Nat → Nat → List Byte
  | 0, _ => []
  | n + 1, v => BitVec.ofNat 8 v :: leBytes n (v / 256)

/-- `n` bytes of a number, most significant first. -/
def beBytes (n v : Nat) : List Byte := (leBytes n v).reverse

/-- The number that bytes spell, most significant first. -/
def beNat (bs : List Byte) : Nat := bs.foldl (fun a b => a * 256 + b.toNat) 0

/-- The number that bytes spell, least significant first. -/
def leNat (bs : List Byte) : Nat := beNat bs.reverse

/-! ### Sines and angles: power series carried to 2⁻⁹⁶, so that the binary32 words shown are those of the exact values (log 29) -/

/-- A rational rounded down to 2⁻⁹⁶. -/
def fine (r : Rat) : Rat := (((r * ((2 ^ 96 : Nat) : Rat)).floor : Int) : Rat) / ((2 ^ 96 : Nat) : Rat)

/-- π to 40 places. -/
def piFine : Rat := 31415926535897932384626433832795028841972 / 10000000000000000000000000000000000000000

/-- `n` terms of an alternating series from a term on: each is the last times q / ((k + 1)(k + 2)), with k two higher each time. -/
def altSeries : Nat → Rat → Rat → Nat → Rat
  | 0, _, _, _ => 0
  | n + 1, t, q, k => t + altSeries n (fine (-(t * q) / (((k + 1) * (k + 2) : Nat) : Rat))) q (k + 2)

/-- An angle within half a turn of zero. -/
def halfTurn (x : Rat) : Rat := fine (x - 2 * piFine * ((roundEven (x / (2 * piFine)) : Int) : Rat))

/-- The sine and the cosine. -/
def ratSin (x : Rat) : Rat := let r := halfTurn x; altSeries 24 r (fine (r * r)) 1
@[inherit_doc ratSin] def ratCos (x : Rat) : Rat := let r := halfTurn x; altSeries 24 1 (fine (r * r)) 0

/-- `n` terms of the series of the arc tangent: `p` is the power in hand and `k` its exponent. -/
def atanSeries : Nat → Rat → Rat → Nat → Rat
  | 0, _, _, _ => 0
  | n + 1, p, q, k => p / (k : Rat) + atanSeries n (fine (-(p * q))) q (k + 2)

/-- The arc tangent of a number from 0 to 1, about 0, 1/2 or 1. -/
def atanUnit (x : Rat) : Rat :=
  let go (y : Rat) : Rat := atanSeries 30 (fine y) (fine (y * y)) 1
  if x ≤ 1 / 4 then go x
  else if x ≤ 3 / 4 then 46364760900080611621425623146121440202854 / 100000000000000000000000000000000000000000 + go ((x - 1 / 2) / (1 + x / 2))
  else piFine / 4 + go ((x - 1) / (1 + x))

/-- The angle of the point (x, y) in (−π, π]; the origin has the angle 0. DESIGN CHOICE (log 29). -/
def ratAtan2 (y x : Rat) : Rat :=
  if x = 0 ∧ y = 0 then 0
  else
    let ax := ratAbs x
    let ay := ratAbs y
    let a := if ay ≤ ax then atanUnit (ay / ax) else piFine / 2 - atanUnit (ax / ay)
    let b := if x < 0 then piFine - a else a
    if y < 0 then -b else b

end Sys2Proof.Machine
end

