-- ==== Sys2Proof/Machine/Crypto.lean ====
section
/-!
DEFINITION. The algorithms that the spec names: SHA-256 and SHA-512 (FIPS 180-4), HMAC (FIPS 198-1), AES (FIPS 197), GCM (SP 800-38D)
and SLH-DSA (FIPS 205), as the lanes, the key store, the ledger and the causeway use them (R96, R250, R332, R340, R342, R370; log 4).
-/

namespace Sys2Proof.Machine

/-! ### SHA-2 -/

/-- The initial hash of SHA-256, least word first. -/
def shaRoots32 : List Nat := [
  0x5be0cd191f83d9ab9b05688c510e527fa54ff53a3c6ef372bb67ae856a09e667]

/-- The constants of SHA-256, eight a number, least first. -/
def shaCubes32 : List Nat := [
  0xab1c5ed5923f82a459f111f13956c25be9b5dba5b5c0fbcf71374491428a2f98,
  0xc19bf1749bdc06a780deb1fe72be5d74550c7dc3243185be12835b01d807aa98,
  0x76f988da5cb0a9dc4a7484aa2de92c6f240ca1cc0fc19dc6efbe4786e49b69c1,
  0x1429296706ca6351d5a79147c6e00bf3bf597fc7b00327c8a831c66d983e5152,
  0x92722c8581c2c92e766a0abb650a735453380d134d2c6dfc2e1b213827b70a85,
  0x106aa070f40e3585d6990624d192e819c76c51a3c24b8b70a81a664ba2bfe8a1,
  0x682e6ff35b9cca4f4ed8aa4a391c0cb334b0bcb52748774c1e376c0819a4c116,
  0xc67178f2bef9a3f7a4506ceb90befffa8cc7020884c8781478a5636f748f82ee]

/-- The initial hash of SHA-512, two words a number, least first. -/
def shaRoots64 : List Nat := [
  0xbb67ae8584caa73b6a09e667f3bcc908,
  0xa54ff53a5f1d36f13c6ef372fe94f82b,
  0x9b05688c2b3e6c1f510e527fade682d1,
  0x5be0cd19137e21791f83d9abfb41bd6b]

/-- The constants of SHA-512, two a number, least first. -/
def shaCubes64 : List Nat := [
  0x7137449123ef65cd428a2f98d728ae22,
  0xe9b5dba58189dbbcb5c0fbcfec4d3b2f,
  0x59f111f1b605d0193956c25bf348b538,
  0xab1c5ed5da6d8118923f82a4af194f9b,
  0x12835b0145706fbed807aa98a3030242,
  0x550c7dc3d5ffb4e2243185be4ee4b28c,
  0x80deb1fe3b1696b172be5d74f27b896f,
  0xc19bf174cf6926949bdc06a725c71235,
  0xefbe4786384f25e3e49b69c19ef14ad2,
  0x240ca1cc77ac9c650fc19dc68b8cd5b5,
  0x4a7484aa6ea6e4832de92c6f592b0275,
  0x76f988da831153b55cb0a9dcbd41fbd4,
  0xa831c66d2db43210983e5152ee66dfab,
  0xbf597fc7beef0ee4b00327c898fb213f,
  0xd5a79147930aa725c6e00bf33da88fc2,
  0x142929670a0e6e7006ca6351e003826f,
  0x2e1b21385c26c92627b70a8546d22ffc,
  0x53380d139d95b3df4d2c6dfc5ac42aed,
  0x766a0abb3c77b2a8650a73548baf63de,
  0x92722c851482353b81c2c92e47edaee6,
  0xa81a664bbc423001a2bfe8a14cf10364,
  0xc76c51a30654be30c24b8b70d0f89791,
  0xd69906245565a910d192e819d6ef5218,
  0x106aa07032bbd1b8f40e35855771202a,
  0x1e376c085141ab5319a4c116b8d2d0c8,
  0x34b0bcb5e19b48a82748774cdf8eeb99,
  0x4ed8aa4ae3418acb391c0cb3c5c95a63,
  0x682e6ff3d6b2b8a35b9cca4f7763e373,
  0x78a5636f43172f60748f82ee5defb2fc,
  0x8cc702081a6439ec84c87814a1f0ab72,
  0xa4506cebde82bde990befffa23631e28,
  0xc67178f2e372532bbef9a3f7b2c67915,
  0xd186b8c721c0c207ca273eceea26619c,
  0xf57d4f7fee6ed178eada7dd6cde0eb1e,
  0x0a637dc5a2c898a606f067aa72176fba,
  0x1b710b35131c471b113f9804bef90dae,
  0x32caab7b40c7249328db77f523047d84,
  0x431d67c49c100d4c3c9ebe0a15c9bebc,
  0x597f299cfc657e2a4cc5d4becb3e42b6,
  0x6c44198c4a4758175fcb6fab3ad6faec]

/-- The word of `w` bits at a place of a table that packs `per` of them a number. -/
def packed (t : List Nat) (w per i : Nat) : Nat := t.getD (i / per) 0 >>> (w * (i % per)) % 2 ^ w

/-- Which of the two functions: the word width, rounds, constants and rotations of SHA-256 or SHA-512. -/
structure Sha2 where
  w : Nat
  rounds : Nat
  roots : List Nat
  cubes : List Nat
  per : Nat
  big0 : List Nat
  big1 : List Nat
  small0 : List Nat
  small1 : List Nat
@[inherit_doc Sha2] def sha2w32 : Sha2 := ⟨32, 64, shaRoots32, shaCubes32, 8, [2, 13, 22], [6, 11, 25], [7, 18, 3], [17, 19, 10]⟩
@[inherit_doc Sha2] def sha2w64 : Sha2 := ⟨64, 80, shaRoots64, shaCubes64, 2, [28, 34, 39], [14, 18, 41], [1, 8, 7], [19, 61, 6]⟩

/-- A word rotated right. -/
def rotRight (w x n : Nat) : Nat := x >>> n ||| x <<< (w - n) % 2 ^ w

/-- Three rotations combined; or two and a shift. -/
def sigmaBig (w : Nat) (r : List Nat) (x : Nat) : Nat := rotRight w x (r.getD 0 0) ^^^ rotRight w x (r.getD 1 0) ^^^ rotRight w x (r.getD 2 0)
@[inherit_doc sigmaBig] def sigmaSmall (w : Nat) (r : List Nat) (x : Nat) : Nat :=
  rotRight w x (r.getD 0 0) ^^^ rotRight w x (r.getD 1 0) ^^^ x >>> (r.getD 2 0)

/-- The message schedule, newest word first. -/
def Sha2.schedule (h : Sha2) : Nat → List Nat → List Nat
  | 0, ws => ws
  | n + 1, ws =>
    h.schedule n ((sigmaSmall h.w h.small1 (ws.getD 1 0) + ws.getD 6 0 + sigmaSmall h.w h.small0 (ws.getD 14 0) + ws.getD 15 0) % 2 ^ h.w :: ws)

/-- The eight working words. -/
structure ShaState where
  a : Nat
  b : Nat
  c : Nat
  d : Nat
  e : Nat
  f : Nat
  g : Nat
  h : Nat

/-- One round. -/
def Sha2.round (p : Sha2) (s : ShaState) (kw : Nat) : ShaState :=
  let m := 2 ^ p.w
  let ch := (s.e &&& s.f) ^^^ ((m - 1 - s.e) &&& s.g)
  let maj := (s.a &&& s.b) ^^^ (s.a &&& s.c) ^^^ (s.b &&& s.c)
  let t1 := s.h + sigmaBig p.w p.big1 s.e + ch + kw
  ⟨(t1 + sigmaBig p.w p.big0 s.a + maj) % m, s.a, s.b, s.c, (s.d + t1) % m, s.e, s.f, s.g⟩

/-- Words of a width from bytes, first word first. -/
def wordsOf (bytes : Nat) : Nat → List Byte → List Nat
  | 0, _ => []
  | n + 1, m => beNat (m.take bytes) :: wordsOf bytes n (m.drop bytes)

/-- One block. -/
def Sha2.block (p : Sha2) (s : ShaState) (m : List Byte) : ShaState :=
  let ws := (p.schedule (p.rounds - 16) (wordsOf (p.w / 8) 16 m).reverse).reverse
  let t := ((List.range p.rounds).zip ws).foldl (fun t iw => p.round t (packed p.cubes p.w p.per iw.1 + iw.2)) s
  let q (x y : Nat) : Nat := (x + y) % 2 ^ p.w
  ⟨q s.a t.a, q s.b t.b, q s.c t.c, q s.d t.d, q s.e t.e, q s.f t.f, q s.g t.g, q s.h t.h⟩

/-- A message's blocks. -/
def Sha2.blocks (p : Sha2) : Nat → ShaState → List Byte → ShaState
  | 0, s, _ => s
  | n + 1, s, m => p.blocks n (p.block s (m.take (2 * p.w))) (m.drop (2 * p.w))

/-- The bytes of a hash. -/
def Sha2.hash (p : Sha2) (m : List Byte) : List Byte :=
  let blk := 2 * p.w
  let tail := p.w / 4
  let padded := m ++ 0x80 :: (List.replicate ((2 * blk - (m.length + 1 + tail) % blk) % blk) 0 ++ beBytes tail (8 * m.length))
  let i := packed p.roots p.w p.per
  let s := p.blocks (padded.length / blk) ⟨i 0, i 1, i 2, i 3, i 4, i 5, i 6, i 7⟩ padded
  [s.a, s.b, s.c, s.d, s.e, s.f, s.g, s.h].flatMap (beBytes (p.w / 8))

/-- SHA-256 of a byte string, as a number below 2²⁵⁶ whose most significant byte is the first. -/
def sha256 (m : List Byte) : Nat := beNat (sha2w32.hash m)

/-- HMAC of a message under the bytes of a key. -/
def Sha2.hmac (p : Sha2) (key m : List Byte) : List Byte :=
  let blk := 2 * p.w
  let key := if blk < key.length then p.hash key else key
  let k := key ++ List.replicate (blk - key.length) 0
  p.hash (k.map (fun x => x ^^^ 0x5c) ++ p.hash (k.map (fun x => x ^^^ 0x36) ++ m))

/-- HMAC-SHA-256 under a 32-byte key. -/
def hmacSha256 (key : Nat) (m : List Byte) : Nat := beNat (sha2w32.hmac (beBytes 32 key) m)

/-! ### AES -/

/-- The S-box of AES, 32 bytes a number, least first. -/
def aesBox : List Nat := [
  0xc072a49cafa2d4adf04759fa7dc982ca76abd7fe2b670130c56f6bf27b777c63,
  0x75b227ebe28012079a059618c323c7041531d871f1e5a534ccf73f362693fdb7,
  0xcf584c4a39becb6a5bb1fc20ed00d153842fe329b3d63b52a05a6e1b1a2c8309,
  0xd2f3ff1021dab6bcf5389d928f40a351a89f3c507f02f94585334d43fbaaefd0,
  0xdb0b5ede14b8ee4688902a22dc4f816073195d643d7ea7c41744975fec130ccd,
  0x08ae7a65eaf4566ca94ed58d6d37c8e779e4959162acd3c25c2406490a3a32e0,
  0x9e1dc186b95735610ef6034866b53e708a8bbd4b1f74dde8c6b4a61c2e2578ba,
  0x16bb54b00f2d99416842e6bf0d89a18cdf2855cee9871e9b948ed9691198f8e1]

/-- A byte through the S-box. -/
def subByte (b : Nat) : Nat := packed aesBox 8 32 b

/-- Four bytes of a word through the S-box. -/
def subWord (x : Nat) : Nat :=
  subByte (x / 2 ^ 24) * 2 ^ 24 + subByte (x / 2 ^ 16 % 256) * 2 ^ 16 + subByte (x / 2 ^ 8 % 256) * 2 ^ 8 + subByte (x % 256)

/-- A byte times x in the field of AES. -/
def xtime (b : Nat) : Nat := if 128 ≤ b then (2 * b) ^^^ 0x11b else 2 * b

/-- The key schedule, newest word first: `nk` words of key, `i` words made, `rcon` the next round constant. -/
def expandKey (nk : Nat) : Nat → Nat → Nat → List Nat → List Nat
  | 0, _, _, ws => ws
  | n + 1, i, rcon, ws =>
    let t := ws.headD 0
    let t' := if i % nk = 0 then subWord (t * 256 % 2 ^ 32 + t / 2 ^ 24) ^^^ (rcon * 2 ^ 24) else if nk = 8 ∧ i % nk = 4 then subWord t else t
    expandKey nk n (i + 1) (if i % nk = 0 then xtime rcon else rcon) ((ws.getD (nk - 1) 0 ^^^ t') :: ws)

/-- The round keys of a key of `nk` words, as bytes, first first. -/
def roundKeys (nk key : Nat) : List (List Nat) :=
  let ws := (expandKey nk (4 * (nk + 7) - nk) nk 1 (wordsOf 4 nk (beBytes (4 * nk) key)).reverse).reverse
  (List.range (nk + 7)).map fun r => ((ws.drop (4 * r)).take 4).flatMap fun x => (beBytes 4 x).map (·.toNat)

/-- A column mixed. -/
def mixColumn (c : List Nat) : List Nat :=
  let g (i : Nat) : Nat := c.getD (i % 4) 0
  (List.range 4).map fun i => xtime (g i) ^^^ xtime (g (i + 1)) ^^^ g (i + 1) ^^^ g (i + 2) ^^^ g (i + 3)

/-- Bytes substituted and rows shifted. -/
def subShift (b : List Nat) : List Nat := (List.range 16).map fun i => subByte (b.getD ((i + 4 * (i % 4)) % 16) 0)

/-- Two byte lists combined. -/
def xorBytes (a b : List Nat) : List Nat := List.zipWith (fun x y => x ^^^ y) a b

/-- The rounds after the first key. -/
def aesRounds : List (List Nat) → List Nat → List Nat
  | [], b => b
  | [k], b => xorBytes (subShift b) k
  | k :: ks, b =>
    let c := subShift b
    aesRounds ks (xorBytes ((List.range 4).flatMap fun i => mixColumn ((c.drop (4 * i)).take 4)) k)

/-- AES of a block under round keys. -/
def aesBlock (ks : List (List Nat)) (x : Nat) : Nat :=
  match ks with
  | k :: rest => (aesRounds rest (xorBytes ((beBytes 16 x).map (·.toNat)) k)).foldl (fun a b => a * 256 + b) 0
  | [] => 0

/-! ### GCM -/

/-- The product of two elements of the field of GHASH, bit 127 the first. -/
def ghashMul (x y : Nat) : Nat :=
  ((List.range 128).foldl (fun (a : Nat × Nat) i =>
    (if x.testBit (127 - i) then a.1 ^^^ a.2 else a.1, if a.2 % 2 = 1 then a.2 / 2 ^^^ 0xe1 * 2 ^ 120 else a.2 / 2)) (0, y)).1

/-- Bytes as blocks, the last one filled with zeros. -/
def gcmBlocks (m : List Byte) : List Nat :=
  wordsOf 16 ((m.length + 15) / 16) (m ++ List.replicate ((16 - m.length % 16) % 16) 0)

/-- GHASH of blocks. -/
def ghash (h : Nat) (bs : List Nat) : Nat := bs.foldl (fun y x => ghashMul (y ^^^ x) h) 0

/-- The words of an AES key, by its bytes. -/
def gcmKeys (bytes key : Nat) : List (List Nat) := roundKeys (bytes / 4) key

/-- The GCM tag over additional data and ciphertext under a key of 16 or 32 bytes and a 96-bit IV. -/
def gcmTag (bytes key iv : Nat) (aad ct : List Byte) : Nat :=
  let ks := gcmKeys bytes key
  let len := 8 * aad.length * 2 ^ 64 + 8 * ct.length
  ghash (aesBlock ks 0) (gcmBlocks aad ++ gcmBlocks ct ++ [len]) ^^^ aesBlock ks (iv * 2 ^ 32 + 1)

/-- Bytes combined with the GCM key stream: plain text to ciphertext and back. -/
def gcmStream (bytes key iv : Nat) (m : List Byte) : List Byte :=
  let ks := gcmKeys bytes key
  List.zipWith (fun x y => x ^^^ y) m ((List.range ((m.length + 15) / 16)).flatMap fun i => beBytes 16 (aesBlock ks (iv * 2 ^ 32 + (i + 2) % 2 ^ 32)))

/-! ### CTR_DRBG with AES-256 and the derivation function (SP 800-90A, R348) -/

/-- Key and V of a generator after new data of 384 bits. -/
def drbgUpdate (data : Nat) (g : Nat × Nat) : Nat × Nat :=
  let ks := roundKeys 8 g.1
  let t := beNat ((List.range 3).flatMap fun i => beBytes 16 (aesBlock ks ((g.2 + i + 1) % 2 ^ 128))) ^^^ data
  (t / 2 ^ 128, t % 2 ^ 128)

/-- Blocks chained under round keys. -/
def drbgChain (ks : List (List Nat)) (bs : List Nat) : Nat := bs.foldl (fun x b => aesBlock ks (x ^^^ b)) 0

/-- 384 bits derived from input. -/
def drbgDerive (input : List Byte) : Nat :=
  let text := beBytes 4 input.length ++ beBytes 4 48 ++ input ++ [0x80]
  let first := roundKeys 8 (beNat ((List.range 32).map (BitVec.ofNat 8)))
  let t := (List.range 3).flatMap fun i => beBytes 16 (drbgChain first (gcmBlocks (beBytes 4 i ++ List.replicate 12 0 ++ text)))
  let ks := roundKeys 8 (beNat (t.take 32))
  let x1 := aesBlock ks (beNat (t.drop 32))
  let x2 := aesBlock ks x1
  (x1 * 2 ^ 128 + x2) * 2 ^ 128 + aesBlock ks x2

/-- A generator instantiated with 384 bits of entropy input and nonce, or reseeded with 256 bits of entropy input. -/
def drbgInstantiate (entropy : Nat) : Nat × Nat := drbgUpdate (drbgDerive (beBytes 48 entropy)) (0, 0)
@[inherit_doc drbgInstantiate] def drbgReseed (entropy : Nat) (g : Nat × Nat) : Nat × Nat := drbgUpdate (drbgDerive (beBytes 32 entropy)) g

/-- One request for `n` bytes: the bytes as a number, and the generator after. -/
def drbgGenerate (n : Nat) (g : Nat × Nat) : Nat × (Nat × Nat) :=
  let ks := roundKeys 8 g.1
  let blocks := (n + 15) / 16
  let out := (List.range blocks).flatMap fun i => beBytes 16 (aesBlock ks ((g.2 + i + 1) % 2 ^ 128))
  (beNat (out.take n), drbgUpdate 0 (g.1, (g.2 + blocks) % 2 ^ 128))

/-! ### SLH-DSA -/

/-- A parameter set of FIPS 205: n, total height, layers, FORS height and trees, digest bytes. -/
structure SlhSet where
  n : Nat
  h : Nat
  d : Nat
  a : Nat
  k : Nat
  m : Nat
/-- SLH-DSA-SHA2-128f and SLH-DSA-SHA2-192s (R342). -/
def slh128f : SlhSet := ⟨16, 66, 22, 6, 33, 34⟩
@[inherit_doc slh128f] def slh192s : SlhSet := ⟨24, 63, 7, 14, 17, 39⟩

/-- The set of an ALG (R332). -/
def slhSet (alg : Nat) : SlhSet := if alg = 4 ∨ alg = 7 then slh128f else slh192s

/-- Levels of one layer, and the 16-ary digits of a hash with their checksum. -/
def SlhSet.hp (p : SlhSet) : Nat := p.h / p.d
@[inherit_doc SlhSet.hp] def SlhSet.len (p : SlhSet) : Nat := 2 * p.n + 3

/-- An address: layer, tree, type and its three words. -/
structure SlhAdrs where
  layer : Nat := 0
  tree : Nat := 0
  type : Nat := 0
  x : Nat := 0
  y : Nat := 0
  z : Nat := 0

/-- The 22 bytes of an address. -/
def SlhAdrs.bytes (a : SlhAdrs) : List Byte :=
  beBytes 1 a.layer ++ beBytes 8 a.tree ++ beBytes 1 a.type ++ beBytes 4 a.x ++ beBytes 4 a.y ++ beBytes 4 a.z

/-- F and PRF: over one hash. -/
def SlhSet.small (p : SlhSet) (seed : List Byte) (a : SlhAdrs) (m : List Byte) : List Byte :=
  (sha2w32.hash (seed ++ List.replicate (64 - p.n) 0 ++ a.bytes ++ m)).take p.n

/-- H and T: over several hashes. -/
def SlhSet.large (p : SlhSet) (seed : List Byte) (a : SlhAdrs) (m : List Byte) : List Byte :=
  if p.n = 16 then p.small seed a m else (sha2w64.hash (seed ++ List.replicate (128 - p.n) 0 ++ a.bytes ++ m)).take p.n

/-- The hash of the message's own functions. -/
def SlhSet.sha (p : SlhSet) : Sha2 := if p.n = 16 then sha2w32 else sha2w64

/-- The message digest. -/
def SlhSet.digest (p : SlhSet) (r seed root m : List Byte) : List Byte :=
  let inner := r ++ seed ++ p.sha.hash (r ++ seed ++ root ++ m)
  ((List.range 2).flatMap fun i => p.sha.hash (inner ++ beBytes 4 i)).take p.m

/-- Digits of `b` bits, first first. -/
def digits (b count : Nat) (m : List Byte) : List Nat :=
  let v := beNat m
  (List.range count).map fun i => v >>> (8 * m.length - b * (i + 1)) % 2 ^ b

/-- The digits a one-time signature encodes. -/
def SlhSet.wotsDigits (p : SlhSet) (m : List Byte) : List Nat :=
  let ds := digits 4 (2 * p.n) m
  ds ++ digits 4 3 (beBytes 2 ((ds.foldl (fun a x => a + (15 - x)) 0) * 16))

/-- Steps of a chain. -/
def SlhSet.chain (p : SlhSet) (seed : List Byte) (a : SlhAdrs) : Nat → Nat → List Byte → List Byte
  | 0, _, x => x
  | n + 1, i, x => p.chain seed a n (i + 1) (p.small seed { a with z := i } x)

/-- The secret of a chain. -/
def SlhSet.wotsSecret (p : SlhSet) (sk seed : List Byte) (a : SlhAdrs) (i : Nat) : List Byte :=
  p.small seed { a with type := 5, y := i, z := 0 } sk

/-- A one-time key from its chain ends, and the key itself. -/
def SlhSet.wotsRoot (p : SlhSet) (seed : List Byte) (a : SlhAdrs) (ends : List (List Byte)) : List Byte :=
  p.large seed { a with type := 1, y := 0, z := 0 } ends.flatten
@[inherit_doc SlhSet.wotsRoot] def SlhSet.wotsKey (p : SlhSet) (sk seed : List Byte) (a : SlhAdrs) : List Byte :=
  p.wotsRoot seed a ((List.range p.len).map fun i => p.chain seed { a with y := i } 15 0 (p.wotsSecret sk seed a i))

/-- A node of a layer's tree; `a` names the layer and the tree. -/
def SlhSet.node (p : SlhSet) (sk seed : List Byte) (a : SlhAdrs) : Nat → Nat → List Byte
  | 0, i => p.wotsKey sk seed { a with type := 0, x := i }
  | z + 1, i =>
    p.large seed { a with type := 2, x := 0, y := z + 1, z := i } (p.node sk seed a z (2 * i) ++ p.node sk seed a z (2 * i + 1))

/-- A node of a FORS tree. -/
def SlhSet.forsNode (p : SlhSet) (sk seed : List Byte) (a : SlhAdrs) : Nat → Nat → List Byte
  | 0, i => p.small seed { a with type := 3, y := 0, z := i } (p.small seed { a with type := 6, y := 0, z := i } sk)
  | z + 1, i =>
    p.large seed { a with type := 3, y := z + 1, z := i } (p.forsNode sk seed a z (2 * i) ++ p.forsNode sk seed a z (2 * i + 1))

/-- The root that an authentication path leads to from a node; `at_` gives the address of a node. -/
def SlhSet.climb (p : SlhSet) (seed : List Byte) (at_ : Nat → Nat → SlhAdrs) : Nat → Nat → List Byte → List (List Byte) → List Byte
  | _, _, x, [] => x
  | lvl, i, x, y :: rest =>
    p.climb seed at_ (lvl + 1) (i / 2) (p.large seed (at_ (lvl + 1) (i / 2)) (if i % 2 = 0 then x ++ y else y ++ x)) rest

/-- Bytes cut into pieces of n. -/
def pieces (n : Nat) : Nat → List Byte → List (List Byte)
  | 0, _ => []
  | c + 1, m => m.take n :: pieces n c (m.drop n)

/-- The parts of a message digest: FORS indices, tree and leaf. -/
def SlhSet.parts (p : SlhSet) (dg : List Byte) : List Nat × Nat × Nat :=
  let na := (p.k * p.a + 7) / 8
  let nt := (p.h - p.hp + 7) / 8
  (digits p.a p.k (dg.take na), beNat ((dg.drop na).take nt) % 2 ^ (p.h - p.hp), beNat ((dg.drop (na + nt)).take ((p.hp + 7) / 8)) % 2 ^ p.hp)

/-- The root of a layer from a one-time signature with its path. -/
def SlhSet.layerRoot (p : SlhSet) (seed : List Byte) (a : SlhAdrs) (leaf : Nat) (m sig : List Byte) : List Byte :=
  let w : SlhAdrs := { a with type := 0, x := leaf }
  let ends := ((pieces p.n p.len sig).zip (p.wotsDigits m)).zipIdx.map fun e => p.chain seed { w with y := e.2 } (15 - e.1.2) e.1.2 e.1.1
  p.climb seed (fun l i => { a with type := 2, x := 0, y := l, z := i }) 0 leaf (p.wotsRoot seed w ends) (pieces p.n p.hp (sig.drop (p.len * p.n)))

/-- The signatures of the layers from one up, over a message. -/
def SlhSet.layers (p : SlhSet) (sk seed : List Byte) : Nat → Nat → Nat → Nat → List Byte → List Byte
  | 0, _, _, _, _ => []
  | n + 1, layer, tree, leaf, m =>
    let a : SlhAdrs := { layer, tree }
    let w : SlhAdrs := { a with type := 0, x := leaf }
    let ots := (p.wotsDigits m).zipIdx.flatMap fun e => p.chain seed { w with y := e.2 } e.1 0 (p.wotsSecret sk seed w e.2)
    let path := (List.range p.hp).flatMap fun j => p.node sk seed a j (leaf / 2 ^ j ^^^ 1)
    let sig := ots ++ path
    sig ++ p.layers sk seed n (layer + 1) (tree / 2 ^ p.hp) (tree % 2 ^ p.hp) (p.layerRoot seed a leaf m sig)

/-- The root the layers of a signature lead to. -/
def SlhSet.topRoot (p : SlhSet) (seed : List Byte) : Nat → Nat → Nat → Nat → List Byte → List Byte → List Byte
  | 0, _, _, _, m, _ => m
  | n + 1, layer, tree, leaf, m, sig =>
    let size := (p.len + p.hp) * p.n
    p.topRoot seed n (layer + 1) (tree / 2 ^ p.hp) (tree % 2 ^ p.hp) (p.layerRoot seed { layer, tree } leaf m (sig.take size)) (sig.drop size)

/-- The FORS key that a FORS signature leads to. -/
def SlhSet.forsRoot (p : SlhSet) (seed : List Byte) (a : SlhAdrs) (idx : List Nat) (sig : List Byte) : List Byte :=
  let size := (p.a + 1) * p.n
  let roots := ((pieces size p.k sig).zip idx).zipIdx.flatMap fun e =>
    let i := e.2 * 2 ^ p.a + e.1.2
    p.climb seed (fun l j => { a with type := 3, y := l, z := j }) 0 i (p.small seed { a with type := 3, y := 0, z := i } (e.1.1.take p.n))
      (pieces p.n p.a (e.1.1.drop p.n))
  p.large seed { a with type := 4, y := 0, z := 0 } roots

/-- The root of the top tree, PK.root. -/
def SlhSet.root (p : SlhSet) (sk seed : List Byte) : List Byte := p.node sk seed { layer := p.d - 1 } p.hp 0

/-- A private key of an ALG from its seeds SK.seed, SK.prf and PK.seed: PK.root follows them (R332). -/
def slhKeygen (alg seeds : Nat) : Nat :=
  let p := slhSet alg
  let b := beBytes (3 * p.n) seeds
  beNat (b ++ p.root (b.take p.n) (b.drop (2 * p.n)))

/-- The public key of a private one. -/
def slhPublic (alg key : Nat) : List Byte := (beBytes (4 * (slhSet alg).n) key).drop (2 * (slhSet alg).n)

/-- The signature of a message under a private key, with opt_rand, or deterministic without; pure, with an empty context (R342). -/
def slhSign (alg key : Nat) (rand : Option Nat) (message : List Byte) : List Byte :=
  let p := slhSet alg
  let b := beBytes (4 * p.n) key
  let sk := b.take p.n
  let seed := (b.drop (2 * p.n)).take p.n
  let m := 0 :: 0 :: message
  let r := (p.sha.hmac ((b.drop p.n).take p.n) ((rand.map (beBytes p.n)).getD seed ++ m)).take p.n
  let (idx, tree, leaf) := p.parts (p.digest r seed (b.drop (3 * p.n)) m)
  let a : SlhAdrs := { tree, x := leaf }
  let fors := idx.zipIdx.flatMap fun e =>
    p.small seed { a with type := 6, y := 0, z := e.2 * 2 ^ p.a + e.1 } sk ++
    (List.range p.a).flatMap fun j => p.forsNode sk seed a j (e.2 * 2 ^ (p.a - j) + (e.1 / 2 ^ j ^^^ 1))
  r ++ fors ++ p.layers sk seed p.d 0 tree leaf (p.forsRoot seed a idx fors)

/-- Whether a signature verifies under a public key. -/
def slhVerify (alg : Nat) (pub message sig : List Byte) : Bool :=
  let p := slhSet alg
  let seed := pub.take p.n
  let m := 0 :: 0 :: message
  let r := sig.take p.n
  let (idx, tree, leaf) := p.parts (p.digest r seed (pub.drop p.n) m)
  let size := p.k * (p.a + 1) * p.n
  sig.length == p.n + size + p.d * (p.len + p.hp) * p.n &&
  p.topRoot seed p.d 0 tree leaf (p.forsRoot seed { tree, x := leaf } idx ((sig.drop p.n).take size)) (sig.drop (p.n + size)) == pub.drop p.n

end Sys2Proof.Machine
end

