-- ==== Sys2Proof/Machine/Events.lean ====
section
/-!
DEFINITION. Event codes (R399): (block number << 8) + index, in the order of the table of 16; and the severities of R285.
-/

namespace Sys2Proof.Machine

/-- Severity 0 (R285). -/
abbrev sevDebug : Nat := 0
/-- Severity 1 (R285). -/
abbrev sevInfo : Nat := 1
/-- Severity 2 (R285). -/
abbrev sevNotice : Nat := 2
/-- Severity 3 (R285). -/
abbrev sevWarning : Nat := 3
/-- Severity 4 (R285). -/
abbrev sevMinor : Nat := 4
/-- Severity 5 (R285). -/
abbrev sevMajor : Nat := 5
/-- Severity 6 (R285). -/
abbrev sevCritical : Nat := 6
/-- Severity 7 (R285). -/
abbrev sevLegal : Nat := 7
/-- GL_TESTMODE_PIN (R399). -/
abbrev EV_GL_TESTMODE_PIN : Nat := 0x100
/-- PW_HOLDUP (R399). -/
abbrev EV_PW_HOLDUP : Nat := 0x200
/-- PW_HOLDUP_END (R399). -/
abbrev EV_PW_HOLDUP_END : Nat := 0x201
/-- PW_VBAT_LOW (R399). -/
abbrev EV_PW_VBAT_LOW : Nat := 0x202
/-- PW_CNT_SAT (R399). -/
abbrev EV_PW_CNT_SAT : Nat := 0x203
/-- OP_SWITCH (R399). -/
abbrev EV_OP_SWITCH : Nat := 0x300
/-- OP_THERMAL (R399). -/
abbrev EV_OP_THERMAL : Nat := 0x301
/-- TB_STATE_CHANGE (R399). -/
abbrev EV_TB_STATE_CHANGE : Nat := 0x400
/-- TB_STEP (R399). -/
abbrev EV_TB_STEP : Nat := 0x401
/-- TB_FAULT (R399). -/
abbrev EV_TB_FAULT : Nat := 0x402
/-- TB_CNT_SAT (R399). -/
abbrev EV_TB_CNT_SAT : Nat := 0x403
/-- CAL_ALARM0 (R399). -/
abbrev EV_CAL_ALARM0 : Nat := 0x500
/-- CAL_ALARM1 (R399). -/
abbrev EV_CAL_ALARM1 : Nat := 0x501
/-- CAL_CNT_SAT (R399). -/
abbrev EV_CAL_CNT_SAT : Nat := 0x502
/-- NP_LINK_DOWN (R399). -/
abbrev EV_NP_LINK_DOWN : Nat := 0x600
/-- NP_LINK_UP (R399). -/
abbrev EV_NP_LINK_UP : Nat := 0x601
/-- NP_RX_SILENT (R399). -/
abbrev EV_NP_RX_SILENT : Nat := 0x602
/-- NP_RX_BAD_RATE (R399). -/
abbrev EV_NP_RX_BAD_RATE : Nat := 0x603
/-- NP_TXQ_STARVE (R399). -/
abbrev EV_NP_TXQ_STARVE : Nat := 0x604
/-- NP_CNT_SAT (R399). -/
abbrev EV_NP_CNT_SAT : Nat := 0x605
/-- SL_SYNC_FALLBACK (R399). -/
abbrev EV_SL_SYNC_FALLBACK : Nat := 0x700
/-- SL_SYNC_FAIL (R399). -/
abbrev EV_SL_SYNC_FAIL : Nat := 0x701
/-- SL_UECC (R399). -/
abbrev EV_SL_UECC : Nat := 0x702
/-- SL_CNT_SAT (R399). -/
abbrev EV_SL_CNT_SAT : Nat := 0x703
/-- LN_STATE_CHANGE (R399). -/
abbrev EV_LN_STATE_CHANGE : Nat := 0x800
/-- LN_SILENT (R399). -/
abbrev EV_LN_SILENT : Nat := 0x801
/-- LN_AUTH_FAIL (R399). -/
abbrev EV_LN_AUTH_FAIL : Nat := 0x802
/-- LN_HEAD_TAMPER (R399). -/
abbrev EV_LN_HEAD_TAMPER : Nat := 0x803
/-- LN_KEY_SWAP_REFUSED (R399). -/
abbrev EV_LN_KEY_SWAP_REFUSED : Nat := 0x804
/-- LN_DEADLINE (R399). -/
abbrev EV_LN_DEADLINE : Nat := 0x805
/-- LN_CNT_SAT (R399). -/
abbrev EV_LN_CNT_SAT : Nat := 0x806
/-- AF_TRIM_BAD (R399). -/
abbrev EV_AF_TRIM_BAD : Nat := 0x900
/-- AF_OVF (R399). -/
abbrev EV_AF_OVF : Nat := 0x901
/-- AF_CNT_SAT (R399). -/
abbrev EV_AF_CNT_SAT : Nat := 0x902
/-- FC_DEADLINE (R399). -/
abbrev EV_FC_DEADLINE : Nat := 0xa00
/-- FC_CNT_SAT (R399). -/
abbrev EV_FC_CNT_SAT : Nat := 0xa01
/-- PE_DEADLINE (R399). -/
abbrev EV_PE_DEADLINE : Nat := 0xb00
/-- PE_H_DEADLINE (R399). -/
abbrev EV_PE_H_DEADLINE : Nat := 0xb01
/-- PE_FREQ_RANGE (R399). -/
abbrev EV_PE_FREQ_RANGE : Nat := 0xb02
/-- PE_CNT_SAT (R399). -/
abbrev EV_PE_CNT_SAT : Nat := 0xb03
/-- AE_STALE (R399). -/
abbrev EV_AE_STALE : Nat := 0xc00
/-- AE_FRESH (R399). -/
abbrev EV_AE_FRESH : Nat := 0xc01
/-- AE_OFFSIDE (R399). -/
abbrev EV_AE_OFFSIDE : Nat := 0xc02
/-- AE_CFG_MISMATCH (R399). -/
abbrev EV_AE_CFG_MISMATCH : Nat := 0xc03
/-- AE_CFG_CHANGE (R399). -/
abbrev EV_AE_CFG_CHANGE : Nat := 0xc04
/-- AE_DEADLINE (R399). -/
abbrev EV_AE_DEADLINE : Nat := 0xc05
/-- AE_STEP_GAP (R399). -/
abbrev EV_AE_STEP_GAP : Nat := 0xc06
/-- AE_CNT_SAT (R399). -/
abbrev EV_AE_CNT_SAT : Nat := 0xc07
/-- FS_DLV_FULL (R399). -/
abbrev EV_FS_DLV_FULL : Nat := 0xd00
/-- OS_DEADLINE (R399). -/
abbrev EV_OS_DEADLINE : Nat := 0xe00
/-- OS_TCP_DROP (R399). -/
abbrev EV_OS_TCP_DROP : Nat := 0xe01
/-- OS_CMD (R399). -/
abbrev EV_OS_CMD : Nat := 0xe02
/-- OS_CNT_SAT (R399). -/
abbrev EV_OS_CNT_SAT : Nat := 0xe03
/-- OW_ENERGY (R399). -/
abbrev EV_OW_ENERGY : Nat := 0xf00
/-- OW_LOW_DAMP (R399). -/
abbrev EV_OW_LOW_DAMP : Nat := 0xf01
/-- OW_NEG_DAMP (R399). -/
abbrev EV_OW_NEG_DAMP : Nat := 0xf02
/-- OW_SIG_LOSS (R399). -/
abbrev EV_OW_SIG_LOSS : Nat := 0xf03
/-- OW_DEADLINE (R399). -/
abbrev EV_OW_DEADLINE : Nat := 0xf04
/-- IW_ISLAND (R399). -/
abbrev EV_IW_ISLAND : Nat := 0x1000
/-- IW_CRIT (R399). -/
abbrev EV_IW_CRIT : Nat := 0x1001
/-- IW_FALLBACK (R399). -/
abbrev EV_IW_FALLBACK : Nat := 0x1002
/-- IW_REENTRY (R399). -/
abbrev EV_IW_REENTRY : Nat := 0x1003
/-- IW_DEADLINE (R399). -/
abbrev EV_IW_DEADLINE : Nat := 0x1004
/-- AL_RULE_ON (R399). -/
abbrev EV_AL_RULE_ON : Nat := 0x1100
/-- AL_RULE_OFF (R399). -/
abbrev EV_AL_RULE_OFF : Nat := 0x1101
/-- AL_DEADLINE (R399). -/
abbrev EV_AL_DEADLINE : Nat := 0x1102
/-- AL_PIN_FORCED (R399). -/
abbrev EV_AL_PIN_FORCED : Nat := 0x1103
/-- AL_DLV_FULL (R399). -/
abbrev EV_AL_DLV_FULL : Nat := 0x1104
/-- ME_REVERSE (R399). -/
abbrev EV_ME_REVERSE : Nat := 0x1200
/-- ME_REVERSE_END (R399). -/
abbrev EV_ME_REVERSE_END : Nat := 0x1201
/-- ME_QTYPE (R399). -/
abbrev EV_ME_QTYPE : Nat := 0x1202
/-- ME_DEADLINE (R399). -/
abbrev EV_ME_DEADLINE : Nat := 0x1203
/-- ME_SAVE_LATE (R399). -/
abbrev EV_ME_SAVE_LATE : Nat := 0x1204
/-- ME_SIGN_LATE (R399). -/
abbrev EV_ME_SIGN_LATE : Nat := 0x1205
/-- ME_DUAL_MISMATCH (R399). -/
abbrev EV_ME_DUAL_MISMATCH : Nat := 0x1206
/-- ME_RECOVERY (R399). -/
abbrev EV_ME_RECOVERY : Nat := 0x1207
/-- ME_CORE_LOST (R399). -/
abbrev EV_ME_CORE_LOST : Nat := 0x1208
/-- ME_LEDGER_LOST (R399). -/
abbrev EV_ME_LEDGER_LOST : Nat := 0x1209
/-- ME_TAMPER (R399). -/
abbrev EV_ME_TAMPER : Nat := 0x120a
/-- ME_WRAP (R399). -/
abbrev EV_ME_WRAP : Nat := 0x120b
/-- ME_CNT_SAT (R399). -/
abbrev EV_ME_CNT_SAT : Nat := 0x120c
/-- PO_OVERRUN (R399). -/
abbrev EV_PO_OVERRUN : Nat := 0x1300
/-- CP_TRIGGER (R399). -/
abbrev EV_CP_TRIGGER : Nat := 0x1400
/-- CP_FULL (R399). -/
abbrev EV_CP_FULL : Nat := 0x1401
/-- CP_DEADLINE (R399). -/
abbrev EV_CP_DEADLINE : Nat := 0x1402
/-- CP_CNT_SAT (R399). -/
abbrev EV_CP_CNT_SAT : Nat := 0x1403
/-- PL_DROP (R399). -/
abbrev EV_PL_DROP : Nat := 0x1500
/-- PL_CNT_SAT (R399). -/
abbrev EV_PL_CNT_SAT : Nat := 0x1501
/-- HI_HB_LOST (R399). -/
abbrev EV_HI_HB_LOST : Nat := 0x1700
/-- HI_RING_ERR (R399). -/
abbrev EV_HI_RING_ERR : Nat := 0x1701
/-- HI_STEP_LATE (R399). -/
abbrev EV_HI_STEP_LATE : Nat := 0x1702
/-- HI_DB_BAD (R399). -/
abbrev EV_HI_DB_BAD : Nat := 0x1703
/-- HI_CNT_SAT (R399). -/
abbrev EV_HI_CNT_SAT : Nat := 0x1704
/-- SC_CNT_SAT (R399). -/
abbrev EV_SC_CNT_SAT : Nat := 0x1800
/-- DL_DEVICE_FAULT (R399). -/
abbrev EV_DL_DEVICE_FAULT : Nat := 0x1900
/-- DL_MISS (R399). -/
abbrev EV_DL_MISS : Nat := 0x1901
/-- DL_CNT_SAT (R399). -/
abbrev EV_DL_CNT_SAT : Nat := 0x1902
/-- SE_ENTROPY_FAIL (R399). -/
abbrev EV_SE_ENTROPY_FAIL : Nat := 0x1a00
/-- SE_CNT_SAT (R399). -/
abbrev EV_SE_CNT_SAT : Nat := 0x1a01
/-- KS_KEY_CHANGE (R399). -/
abbrev EV_KS_KEY_CHANGE : Nat := 0x1b00
/-- KS_UPDATE_CUT (R399). -/
abbrev EV_KS_UPDATE_CUT : Nat := 0x1b01
/-- KS_SLOT_LOST (R399). -/
abbrev EV_KS_SLOT_LOST : Nat := 0x1b02
/-- KS_CERT_BAD (R399). -/
abbrev EV_KS_CERT_BAD : Nat := 0x1b03
/-- CW_ROLE_CHANGE (R399). -/
abbrev EV_CW_ROLE_CHANGE : Nat := 0x1c00
/-- CW_PARTNER_LOST (R399). -/
abbrev EV_CW_PARTNER_LOST : Nat := 0x1c01
/-- CW_CFG_DIFFER (R399). -/
abbrev EV_CW_CFG_DIFFER : Nat := 0x1c02
/-- CW_AUTH_FAIL (R399). -/
abbrev EV_CW_AUTH_FAIL : Nat := 0x1c03
/-- CW_LANE_DOWN (R399). -/
abbrev EV_CW_LANE_DOWN : Nat := 0x1c04
/-- CW_DIVERGE (R399). -/
abbrev EV_CW_DIVERGE : Nat := 0x1c05
/-- CW_SELFTEST_FAIL (R399). -/
abbrev EV_CW_SELFTEST_FAIL : Nat := 0x1c06
/-- CW_DUAL_PRIMARY (R399). -/
abbrev EV_CW_DUAL_PRIMARY : Nat := 0x1c07
/-- CW_PATH_FAIL (R399). -/
abbrev EV_CW_PATH_FAIL : Nat := 0x1c08
/-- CW_KEY_EXHAUSTED (R399). -/
abbrev EV_CW_KEY_EXHAUSTED : Nat := 0x1c09
/-- CW_CNT_SAT (R399). -/
abbrev EV_CW_CNT_SAT : Nat := 0x1c0a
/-- FU_STAGED (R399). -/
abbrev EV_FU_STAGED : Nat := 0x1d00
/-- FU_ACTIVATED (R399). -/
abbrev EV_FU_ACTIVATED : Nat := 0x1d01
/-- FU_SIG_FAIL (R399). -/
abbrev EV_FU_SIG_FAIL : Nat := 0x1d02
/-- FU_MISSED_KICKOFF (R399). -/
abbrev EV_FU_MISSED_KICKOFF : Nat := 0x1d03
/-- FU_FALLBACK (R399). -/
abbrev EV_FU_FALLBACK : Nat := 0x1d04
/-- FU_PAIR_SPLIT (R399). -/
abbrev EV_FU_PAIR_SPLIT : Nat := 0x1d05
/-- FU_AUDIT_FULL (R399). -/
abbrev EV_FU_AUDIT_FULL : Nat := 0x1d06
/-- FU_REFRESH_DONE (R399). -/
abbrev EV_FU_REFRESH_DONE : Nat := 0x1d07
/-- FU_CNT_SAT (R399). -/
abbrev EV_FU_CNT_SAT : Nat := 0x1d08
/-- IG_DECODE_MISS (R399). -/
abbrev EV_IG_DECODE_MISS : Nat := 0x1e00
/-- IG_PARITY (R399). -/
abbrev EV_IG_PARITY : Nat := 0x1e01
/-- IG_DRAM_CECC (R399). -/
abbrev EV_IG_DRAM_CECC : Nat := 0x1e02
/-- IG_DRAM_UECC (R399). -/
abbrev EV_IG_DRAM_UECC : Nat := 0x1e03
/-- IG_MRAM_CECC (R399). -/
abbrev EV_IG_MRAM_CECC : Nat := 0x1e04
/-- IG_MRAM_UECC (R399). -/
abbrev EV_IG_MRAM_UECC : Nat := 0x1e05
/-- IG_NAND_UNCORR (R399). -/
abbrev EV_IG_NAND_UNCORR : Nat := 0x1e06
/-- IG_PCIE_ECRC (R399). -/
abbrev EV_IG_PCIE_ECRC : Nat := 0x1e07
/-- IG_SELFTEST_FAIL (R399). -/
abbrev EV_IG_SELFTEST_FAIL : Nat := 0x1e08
/-- IG_CAPSULE (R399). -/
abbrev EV_IG_CAPSULE : Nat := 0x1e09
/-- IG_CNT_SAT (R399). -/
abbrev EV_IG_CNT_SAT : Nat := 0x1e0a
/-- DE_CNT_SAT (R399). -/
abbrev EV_DE_CNT_SAT : Nat := 0x1f00

end Sys2Proof.Machine
end

