-- ==== Sys2Proof/Machine/Reg.lean ====
section
/-!
DEFINITION. How a register table of the spec is written down: access types (R6), reset classes (R9), fields with their
stated ranges (R5), indexed offsets; and the canonical sparse store that holds registers, memory and per-index state.
-/

namespace Sys2Proof.Machine

/-- The access types of R6. RWS appears on no field of the register tables. -/
inductive Access where
  | ro | rw | wo | w1c | w1s | rwl
deriving DecidableEq, Repr, Inhabited

/-- The reset classes of R9, and `nv` for a register that shows MRAM, OTP or the key cells, which no reset changes
(R415). -/
inductive ResetClass where
  | nv | p | c | w | f
deriving DecidableEq, Repr, Inhabited

/-- P covers C, C covers W, W covers F (R9). -/
def ResetClass.rank : ResetClass → Nat
  | .nv => 5
  | .p => 4
  | .c => 3
  | .w => 2
  | .f => 1

/-- Whether a reset of class `r` restores a register of class `k` (R9). -/
def ResetClass.covers (r k : ResetClass) : Bool := k.rank ≤ r.rank && k != .nv && r != .nv

/-- One field of a register: its bits, its access type, and the values a write may give it (R5), as unsigned codes, or
as signed values when `signed`. -/
structure FieldSpec where
  hi : Nat
  lo : Nat
  acc : Access
  signed : Bool
  min : Int
  max : Int
deriving DecidableEq, Repr, Inhabited

/-- A field whose every code may be written. -/
def FieldSpec.all (hi lo : Nat) (a : Access) : FieldSpec := ⟨hi, lo, a, false, 0, 2 ^ (hi + 1 - lo) - 1⟩

/-- A field with a stated range of codes. -/
def FieldSpec.rng (hi lo : Nat) (a : Access) (min max : Nat) : FieldSpec := ⟨hi, lo, a, false, min, max⟩

/-- A signed field with a stated range. -/
def FieldSpec.sgn (hi lo : Nat) (a : Access) (min max : Int) : FieldSpec := ⟨hi, lo, a, true, min, max⟩

/-- Whether `w` puts this field inside its stated range. A read-only field ignores the write, so it cannot be out of
range. -/
def FieldSpec.inRange (f : FieldSpec) (w : Word) : Bool :=
  f.acc == .ro ||
    (let v : Int := if f.signed then signedOf (f.hi + 1 - f.lo) (w.field f.hi f.lo) else w.field f.hi f.lo
     decide (f.min ≤ v) && decide (v ≤ f.max))

/-- One row of a register table: the offset of the register with all indices zero, the stride and count of each index
(largest stride first), the reset value and its class, and the fields. Bits in no field are reserved (R3). -/
structure RegSpec where
  base : Nat
  dims : List (Nat × Nat)
  reset : Nat
  cls : ResetClass
  fields : List FieldSpec
deriving DecidableEq, Repr, Inhabited

/-- One field of a register after a write, by its access type (R6). -/
def FieldSpec.written (f : FieldSpec) (old w acc : Word) : Word :=
  let o := old.field f.hi f.lo
  let v := w.field f.hi f.lo
  match f.acc with
  | .ro => acc
  | .rw | .rwl => acc.withField f.hi f.lo v
  | .wo => acc.withField f.hi f.lo 0
  | .w1c => acc.withField f.hi f.lo (o - (o &&& v))
  | .w1s => acc.withField f.hi f.lo (o ||| v)

/-- A register after a write: reserved bits keep reading zero (R3). -/
def RegSpec.written (r : RegSpec) (old w : Word) : Word := r.fields.foldl (fun a f => f.written old w a) old

/-- The indices at which a distance from the base falls on the register, when it does. -/
def indicesOf : List (Nat × Nat) → Nat → Option (List Nat)
  | [], d => if d = 0 then some [] else none
  | (stride, count) :: rest, d =>
    let i := d / stride
    if i < count then (indicesOf rest (d % stride)).map (i :: ·) else none

/-- The indices at which `off` is covered by this row. -/
def RegSpec.indices (r : RegSpec) (off : Nat) : Option (List Nat) :=
  if r.base ≤ off then indicesOf r.dims (off - r.base) else none

/-- The row and indices a table gives an offset. -/
def findReg : List RegSpec → Nat → Option (RegSpec × List Nat)
  | [], _ => none
  | r :: rs, off =>
    match r.indices off with
    | some ix => some (r, ix)
    | none => findReg rs off

/-- A field of the register at one offset. -/
structure Fld where
  off : Nat
  hi : Nat
  lo : Nat
deriving DecidableEq, Repr, Inhabited

/-- A sparse map in canonical form: keys strictly rising, and no entry that equals what an unlisted key reads as. -/
abbrev Store (α : Type) := List (Nat × α)

variable {α : Type}

/-- What the store holds at a key; `d` is what an unlisted key reads as. -/
def Store.get (d : Nat → α) : Store α → Nat → α
  | [], k => d k
  | (k', v) :: rest, k => if k' = k then v else Store.get d rest k

/-- The store with `v` at `k`, in canonical form. -/
def Store.set [DecidableEq α] (d : Nat → α) : Store α → Nat → α → Store α
  | [], k, v => if v = d k then [] else [(k, v)]
  | (k', v') :: rest, k, v =>
    if k < k' then (if v = d k then (k', v') :: rest else (k, v) :: (k', v') :: rest)
    else if k = k' then (if v = d k then rest else (k, v) :: rest)
    else (k', v') :: Store.set d rest k v

/-- The canonical form. -/
def Store.wf [DecidableEq α] (d : Nat → α) : Store α → Bool
  | [] => true
  | [(k, v)] => decide (v ≠ d k)
  | (k, v) :: (k', v') :: rest => decide (v ≠ d k) && decide (k < k') && Store.wf d ((k', v') :: rest)

/-- The store without the entries that `p` names. -/
def Store.drop (p : Nat → Bool) (m : Store α) : Store α := m.filter fun e => !p e.1

end Sys2Proof.Machine
end

