-- ==== Sys2Proof/Machine/UnitState.lean ====
section
/-!
DEFINITION. Hidden state of the measuring units: lane links, converters and filter chains, phasor functions, buckets and the fen
store, detection.
-/

namespace Sys2Proof.Machine

/-! ### Lanes (04) -/

/-- A sample of a lane position (R93, R107, R110): its value, INVALID and OVR. -/
structure LaneSample where
  value : Int := 0
  invalid : Bool := false
  ovr : Bool := false
deriving DecidableEq, Repr, Inhabited

/-- A released position: T0, the flags of R107, and its rows of one sample for each quantity. -/
structure LanePos where
  t0 : Nat
  flags : Nat
  rows : List (List LaneSample)
deriving DecidableEq, Repr, Inhabited

/-- What a lane remembers of its stream (R99 to R108): the last accepted SEQ (or E) and its T0; the last DSEQ; the next
position to release and the spans of T0 released, newest first; consecutive gaps released; whether a gap was released since the last accepted
block; clean blocks in a row; the monotonic instant of the last accepted block's receive stamp; the head identity in effect; the
confRev of the first accepted frame; whether a block has matched NEXT; whether the last accepted block carried TAMPER. -/
structure LaneLink where
  seq : Option Nat := none
  t0 : Nat := 0
  dseq : Option Nat := none
  rel : Option Nat := none
  spans : List (Nat × Nat) := []
  run : Nat := 0
  gapped : Bool := false
  clean : Nat := 0
  silentFrom : Option Nat := none
  headId : Nat := 0
  confRev : Option Nat := none
  matched : Bool := false
  tamper : Bool := false
deriving DecidableEq, Repr, Inhabited

/-! ### Analogue front end (05) -/

/-- A converter (R119 to R125): the last frame started, with its instant on the monotonic count, and in the time now in force the frame
that lies behind; whether its chains
restart at the next frame (R127, R138); the lists in effect; regular inputs still to convert in this frame; the
conversion in progress and whether it is injected; injected inputs still to convert, their hold stamp and the words made; whether
an injected sequence counts as running, and whether a result of it was lost; the last instant the periodic trigger was judged at. -/
structure Converter where
  frame : Nat := 0
  held : Nat := 0
  notBefore : Nat := 0
  restart : Bool := false
  seq : List Nat := []
  inj : List Nat := []
  work : List Nat := []
  cur : Option (Nat × Bool) := none
  injWork : List Nat := []
  injHold : Stamp := ⟨0, 0⟩
  injFrame : Nat := 0
  injWords : List Word := []
  injOn : Bool := false
  injBad : Bool := false
  injLast : Nat := 0
deriving DecidableEq, Repr, Inhabited

/-- A chain output due (R130): the frame of its newest input and that input's hold instant on the monotonic count, the FIR inputs newest
first, whether its window holds an over-range or a lost sample, and whether its deadline has been missed. -/
structure ChainDue where
  frame : Nat
  held : Nat := 0
  line : List Int
  ovr : Bool
  lost : Bool
  late : Bool := false
deriving DecidableEq, Repr

/-- A filter chain (R128 to R136): preset and gain in effect, the preset whose factory coefficients the banks came from, the five
integrators and combs, the FIR inputs newest first, samples since the state was cleared, the latest with OVR and the latest lost,
outputs due, the cross-fade (k, outputs made, bank faded to), a swap that waits for its boundary, the represented instant of
the last output, the one that a backward step forbids to repeat (R127), and the regular results of its input in the last 2 ms by frame,
newest first (R271). -/
structure Chain where
  preset : Nat := 1
  gain : Nat := 0
  coefPreset : Nat := 1
  integ : List Nat := [0, 0, 0, 0, 0]
  comb : List Nat := [0, 0, 0, 0, 0]
  fir : List Int := []
  count : Nat := 0
  ovrAt : Option Nat := none
  lostAt : Option Nat := none
  due : List ChainDue := []
  fade : Option (Nat × Nat × Nat) := none
  swap : Bool := false
  lastRep : Option Nat := none
  noRepeat : Option Nat := none
  raws : List (Nat × Word) := []
deriving DecidableEq, Repr, Inhabited

/-- The mains input of a trim measurement (R61): whether the last sample was negative, when the last positive-going crossing
came (at first, when the measurement began), and how many have come. -/
structure MainsWatch where
  neg : Bool := false
  last : Option Nat := none
  count : Nat := 0
deriving DecidableEq, Repr, Inhabited

/-- The analogue front end. `coefs` holds the coefficient of chain n, bank b, tap t at key (2n + b)·128 + t where software has
written it; `refAt` is when the reference buffer was switched on, and `waiting` are the converters that configuration load enables
once it is ready (R117). -/
structure AnalogueState where
  convs : Store Converter := []
  chains : Store Chain := []
  coefs : Store (Option Int) := []
  refAt : Option Nat := none
  waiting : List Nat := []
  mains : MainsWatch := {}
deriving DecidableEq, Repr

/-! ### Alignment and the fen store (07) -/

/-- The values a cell carries (R172, R189): STAT, quality code, phasors stored and in the source, FREQ, ROCOF and phasors as
binary32 words. -/
structure CellData where
  stat : Nat := 0
  qual : Nat := 0xf
  nph : Nat := 0
  srcNph : Nat := 0
  freq : Nat := 0
  rocof : Nat := 0
  phasors : List (Nat × Nat) := []
deriving DecidableEq, Repr, Inhabited

/-- A cell (R189): its instant, the device time state at the write, ARRIVAL in µs (none for a fill), and the rest. -/
structure Cell where
  instant : Nat
  tstate : Nat
  arrival : Option Int
  data : CellData
  flags : Nat
  slot : Nat
  seq : Nat
  number : Nat
  cgen : Nat := 0
  raw : Option (List Byte) := none
deriving DecidableEq, Repr, Inhabited

/-- A bucket header (R190); `qual` is the worst quality code, `tstate` the device time state at the close, `lastOfs` none when
no expected cell has arrived. -/
structure BucketHeader where
  number : Nat
  instant : Nat
  qual : Nat := 0xf
  tstate : Nat := 0
  state : Nat := 0
  flags : Nat := 0
  gen : Nat := 0
  expected : Nat := 0
  arrived : Nat := 0
  filled : Nat := 0
  extra : Nat := 0
  openOfs : Int := 0
  closeOfs : Nat := 0
  lastOfs : Option Int := none
  skipped : Nat := 0
  raw : Option (List Byte) := none
deriving DecidableEq, Repr, Inhabited

/-- An open bucket (R176 to R178): its close instant in TAI, the EARLY it opened under, its expected set, the expected slots that have
arrived, every slot written, when the last expected cell came, when a time step reached its close instant, and whether its deadline passed.
-/
structure OpenBucket where
  number : Nat
  closeAt : Nat
  early : Nat := 0
  expected : List Nat
  arrived : List Nat := []
  written : List Nat := []
  lastAt : Option Nat := none
  reachedAt : Option Nat := none
  late : Bool := false
deriving DecidableEq, Repr

/-- A source block kept for rate conversion (R181, R182): the number of its source instant, its values, stamp and SEQ. -/
structure SourceInput where
  num : Nat
  data : CellData
  stamp : Nat
  seq : Nat
deriving DecidableEq, Repr

/-- What alignment remembers of a slot: the source instants the duplicate filter has passed and the newest (R173); when a block
last restarted the stale timer; the blocks kept for conversion; when the configuration held last changed. -/
structure SlotLink where
  seen : List Nat := []
  newest : Option Nat := none
  last : Option Nat := none
  inputs : List SourceInput := []
  changed : Option Nat := none
deriving DecidableEq, Repr, Inhabited

/-- An entry of the offside annex (R191). -/
structure AnnexEntry where
  arrival : Stamp
  reason : Nat
  port : Nat
  cell : Cell
  seq : Nat
  raw : Option (List Byte) := none
deriving DecidableEq, Repr, Inhabited

/-- A pinned copy (R194): its range, its slot list, the copies made, and its size in bytes. -/
structure PinCopy where
  first : Nat
  last : Nat
  slots : List Nat
  copies : List (BucketHeader × List (Option Cell)) := []
  bytes : Nat := 0
deriving DecidableEq, Repr, Inhabited

/-- A fen-store layout (R187, R434): the grid rate, FS_CFG, and each slot that has a ring with its stored rate. -/
structure FenLayout where
  grid : Nat
  cfg : Nat
  rates : List (Nat × Nat)
deriving DecidableEq, Repr, Inhabited

/-- Alignment: the layout last made; the open buckets, oldest first; the newest bucket opened; the lowest number that may open
next and the count of instants skipped before it; cells by address / 128; headers by number mod G·H; annex, slots, pins. -/
structure AlignState where
  layout : Option FenLayout := none
  opens : List OpenBucket := []
  newest : Option Nat := none
  floor : Nat := 0
  skipped : Option Nat := none
  cells : Store (Option Cell) := []
  headers : Store (Option BucketHeader) := []
  annex : Store (Option AnnexEntry) := []
  slots : Store SlotLink := []
  pins : Store (Option PinCopy) := []
deriving DecidableEq, Repr

/-! ### Phasor functions and output streams (06) -/

/-- A local or lane function (R149, R152): the last report instant produced; the TAI it was enabled at, which no owed instant lies before;
whether its last estimate had FREQ_RANGE; the instants that have missed their deadline; the frequency tracked. -/
structure PhasorLink where
  last : Option Nat := none
  since : Nat := 0
  range : Bool := false
  late : List Nat := []
  freq : Option Rat := none
deriving DecidableEq, Repr, Inhabited

/-- A half-cycle record (R151): the number of its half-cycle, its instant and quality word, flags, and binary32 words. -/
structure HalfRec where
  num : Nat
  instant : Nat
  qual : Nat
  flags : Nat
  mag : Nat
  ang : Nat
  freq : Nat
  seq : Nat
deriving DecidableEq, Repr, Inhabited

/-- The half-cycle estimator of one phasor: the last 16 records since a restart, newest first; the last half-cycle produced, its
sequence counter, and the half-cycles that have missed their deadline. -/
structure HalfLink where
  recs : List HalfRec := []
  last : Option Nat := none
  seq : Nat := 0
  late : List Nat := []
deriving DecidableEq, Repr, Inhabited

/-- What the engines know of a filter chain: its outputs of the last 2 s, newest first, by represented instant; when its preset last
changed (R149); and when it was last found disabled or set to QUIET. -/
structure ChainView where
  outputs : List (Nat × Word) := []
  presetAt : Option Nat := none
  badAt : Option Nat := none
deriving DecidableEq, Repr, Inhabited

/-- The phasor engines: functions 0 to 271 (local m, lane n at 16 + n), half-cycle estimators at 8m + j, the TAI of the last restart of
every function, the spans of TAI that time steps have skipped or class W resets have let pass, and when the reset in progress began; the
chains and the lane positions of the last 2 s, newest first, that windows can reach (R145, R146). -/
structure PhasorState where
  fns : Store PhasorLink := []
  halves : Store HalfLink := []
  restartAt : Option Nat := none
  skips : List (Nat × Nat) := []
  stopAt : Option Nat := none
  chains : Store ChainView := []
  lanes : Store (List LanePos) := []
deriving DecidableEq, Repr

/-- An output stream (R158): the bytes sent on its connection and not acknowledged, since when that has been idle, the probes
unanswered, when CFG-2 is due again, how often its configuration has changed, and an image's OS_TX_SEQ with the TAI it was taken at,
until the first frame after a cold standby's promotion (R372). -/
structure StreamLink where
  unacked : Nat := 0
  idleAt : Nat := 0
  probes : Nat := 0
  cfgDue : Option Nat := none
  cfgCnt : Nat := 0
  resume : Option (Nat × Nat) := none
deriving DecidableEq, Repr, Inhabited

/-- A data frame that a bucket's close has released and that is still to reach its port queue (R163): stream, bucket, whether its bucket
is late, whether it has missed its own deadline, and the monotonic instant of the release. -/
structure ReadyFrame where
  stream : Nat
  bucket : Nat
  late : Bool
  missed : Bool
  released : Nat := 0
deriving DecidableEq, Repr

/-- The output streams; `leftLocked` is when the time state last left LOCKED (R162). -/
structure StreamState where
  links : Store StreamLink := []
  ready : List ReadyFrame := []
  leftLocked : Option Nat := none
deriving DecidableEq, Repr

/-! ### Detection (08) -/

/-- One signal of an oscillation watcher (R203 to R206): its samples newest first (none where missing), its last valid value and
cell value, the missing run in progress, whether its band filter is to be cleared at the next valid sample, the last two inputs of
the filter, outputs of its first section and outputs, the squares of its outputs newest first, valid samples since the filter was
cleared, and whether it exceeds and has not fallen back. -/
structure OwSignal where
  hist : List (Option Rat) := []
  value : Option Rat := none
  raw : Option Rat := none
  gap : Nat := 0
  clear : Bool := false
  xs : List Rat := []
  mid : List Rat := []
  ys : List Rat := []
  squares : List Rat := []
  count : Nat := 0
  up : Bool := false
deriving DecidableEq, Repr, Inhabited

/-- A mode reported by an update (R207, R208): σ and ω, ENERGY, NAMP, the peak signal, and amplitude and phase of each signal
(none where excluded). -/
structure OwMode where
  sigma : Rat
  omega : Rat
  energy : Rat
  namp : Rat
  peak : Nat
  shape : List (Option (Rat × Rat))
deriving DecidableEq, Repr

/-- A modal update that is owed (R207, R228): the bucket that ends its window, the samples the window holds, those of each signal newest
first, and whether its deadline has passed. -/
structure OwUpdate where
  bucket : Nat
  count : Nat
  windows : List (List (Option Rat))
  late : Bool := false
deriving DecidableEq, Repr, Inhabited

/-- An oscillation watcher (R206 to R211): its signals, the last bucket sampled, samples since the restart, the runs of R206 and R209,
the modal updates owed, oldest first, and the update counter. -/
structure OwWatcher where
  signals : List OwSignal := []
  last : Option Nat := none
  since : Nat := 0
  onRun : Nat := 0
  offRun : Nat := 0
  lowRun : Nat := 0
  clearRun : Nat := 0
  owed : List OwUpdate := []
  seq : Nat := 0
deriving DecidableEq, Repr, Inhabited

/-- One phasor in one half-cycle of the local path (R216, R217): angle, frequency as estimated and as used, vector shift, and
whether it exceeded the threshold. -/
structure LocPhasor where
  ang : Rat
  freq : Option Rat
  used : Option Rat
  shift : Option Rat
  exceed : Bool
deriving DecidableEq, Repr

/-- One half-cycle of the local path: its number and its phasors (none where not used). -/
structure LocHalf where
  num : Nat
  phasors : List (Option LocPhasor)
deriving DecidableEq, Repr

/-- An island watcher (R213 to R221): the previous median, the baseline and when it was seeded, the runs toward assertion and
toward release of the three wide-area criteria, degraded and sound evaluations in a row, the held conditions and whether the
baseline has been reseeded since they were held, the last bucket evaluated, the references lost last, the half-cycles of the local
path newest first and how many have come since its restart, half-cycles unused in a row, the end of VS_HOLD, and the runs of
LOC_ROCOF. -/
structure IwWatcher where
  prev : Rat := 0
  base : Option Rat := none
  seedAt : Option Nat := none
  runs : List Nat := [0, 0, 0]
  clears : List Nat := [0, 0, 0]
  bad : Nat := 0
  good : Nat := 0
  held : Nat := 0
  reseeded : Bool := false
  last : Option Nat := none
  usable : List Nat := []
  lostGroup : Nat := 0
  halves : List LocHalf := []
  since : Nat := 0
  lastHalf : Option Nat := none
  unused : Nat := 0
  vsEnds : Option Nat := none
  rocofRun : Nat := 0
  rocofOff : Nat := 0
deriving DecidableEq, Repr, Inhabited

/-- A router rule (R222): its raw state, when its MIN_ON ends, and the source states of the last evaluation. -/
structure RuleLink where
  raw : Bool := false
  onUntil : Option Nat := none
  sources : Nat := 0
deriving DecidableEq, Repr, Inhabited

/-- Detection: the watchers, the rules, the router's record counter, whether the next evaluation is late, the data instant of the
last evaluation, whether the pins still stand as the last class W reset set them, the levels then, the base address of the
result records, and the buckets closed in the last second with the monotonic instants of their closes, newest first (R228). -/
structure DetectState where
  ow : Store OwWatcher := []
  iw : Store IwWatcher := []
  rules : Store RuleLink := []
  seq : Nat := 0
  late : Bool := false
  data : Stamp := ⟨0, 0⟩
  pinsHeld : Option Nat := none
  resBase : Nat := 0
  closes : List (Nat × Nat) := []
deriving DecidableEq, Repr


end Sys2Proof.Machine
end

