-- ==== Sys2Proof/Machine/Blocks.lean ====
section
/-!
DEFINITION. The state the spec gives each block beside its registers: plain data, one structure per block. What a register
shows stands in the register file alone; here stands what no register shows (queues, timers, latches, records, tables).
Times are monotonic nanoseconds (R37) unless a name says TAI; TAI times are nanoseconds since the epoch.
-/

namespace Sys2Proof.Machine

/-- A latched partner register of one bus master (R12, R13). -/
structure Latch where
  master : Master
  off : Nat
  word : Word
deriving DecidableEq, Repr

/-- What the device puts on its wires, pins and on the host's memory: the model's own record of outputs, oldest first. -/
inductive FrameKind where
  | ptpSync | ptpAnnounce | ptpPeerDelay
  | osData (s : Nat) | osCfg (s n : Nat) | osHeader (s : Nat)
  | supervision | relay | causeway | tcp
deriving DecidableEq, Repr

/-- A frame in a transmit queue (R73, R74): what it is, its length in bytes, and the PRP sequence number it carries. -/
structure TxFrame where
  kind : FrameKind
  length : Nat
  payload : List Byte := []
  prpSeq : Option Nat := none
deriving DecidableEq, Repr

/-- One thing the device did to the outside. -/
inductive Output where
  | hostWrite (addr : Nat) (bytes : List Byte)
  | msix (vector : Nat)
  | frame (port : Nat) (f : TxFrame) (tci : Option Nat) (stamp : Nat)
  | frameCut (port : Nat)
  | pause (port quanta : Nat)
  | ppsOut (active : Bool)
  | todSentence (utcSecond : Nat) (sixty : Bool)
  | alarmPin (p : Nat) (active : Bool)
  /-- The ALARM and PULSE outputs become high impedance (R425). -/
  | linesFloat
  | pulse (p : Nat) (active : Bool)
  | tcpReset (s : Nat)
  | tcpClose (s : Nat)
  | tcpProbe (s : Nat)
  | osFrame (s : Nat) (k : FrameKind) (dst : List Nat) (srcPort dstPort : Nat) (bytes : List Byte)
  | trap (core cause : Nat)
  | injLine (l : Nat)
  | causeway (bytes : List Byte)
  | relay (dst : List Nat) (port : Nat) (bytes : List Byte)
  | selfReset
  | readData (m : Master) (off : Nat) (w : Word)
  | memData (m : Master) (addr : Nat) (bytes : List Byte) (poisoned : Bool)
  | deliver (path : Nat) (head : List Byte) (payload : List Byte)
deriving DecidableEq, Repr

/-- An event occurrence on its way to the peat log (R286, R287). -/
structure Occurrence where
  code : Nat
  sev : Nat
  cause : Nat
  inst : Nat
  data : Nat
  stamp : Stamp
  mono : Nat
  utcDate : Nat
  utcTime : Nat
  utcInvalid : Bool
deriving DecidableEq, Repr

/-- A peat-log entry (R286); `mono` is the monotonic time of the first occurrence, from which LAST_OFS is measured;
`raw` the bytes that a write of memory left in its place (log 28), as in the other records held in DRAM and MRAM. -/
structure PeatEntry where
  gen : Nat := 0
  code : Nat := 0
  severity : Nat := 0
  inTail : Bool := false
  foldSat : Bool := false
  droppedBefore : Bool := false
  utcInvalid : Bool := false
  seq : Nat := 0
  utcDate : Nat := 0
  utcTime : Nat := 0
  time : Stamp := ⟨0, 0⟩
  lastOfs : Nat := 0
  fold : Nat := 0
  cause : Nat := 0
  inst : Nat := 0
  data : Nat := 0
  mono : Nat := 0
  raw : Option (List Byte) := none
deriving DecidableEq, Repr, Inhabited

/-- An open fold window (R288): the pair it folds, the position of its entry, when it ends. -/
structure FoldWindow where
  code : Nat
  cause : Nat
  pos : Nat
  ends : Nat
deriving DecidableEq, Repr

/-- The peat log (R286 to R293). `dropRaised`: the severities whose drops have raised PL_DROP, and until when they raise it no more. -/
structure PeatState where
  queue : List Occurrence := []
  held : List Occurrence := []
  entries : Store PeatEntry := []
  used : Nat := 0
  nextSeq : Nat := 0
  windows : List FoldWindow := []
  tail : Store PeatEntry := []
  tailOf : List (Nat × Nat) := []
  toCopy : List Nat := []
  dropped : Bool := false
  dropRaised : List (Nat × Nat) := []
deriving DecidableEq, Repr

/-- One entry of the legal audit log (R253). -/
structure AuditEntry where
  index : Nat
  sealNo : Nat
  time : Stamp
  utcDate : Nat
  utcTime : Nat
  type : Nat
  master : Nat
  count : Nat
  addrFirst : Nat
  addrLast : Nat
  old : Nat
  new : Nat
  lane : Nat
  digest : Nat
  prevHash : Nat
  detail : List Nat
deriving DecidableEq, Repr

/-- A wait that a thread has begun (R320). -/
structure ThreadWait where
  mask : Nat
  andMode : Bool
  consume : Bool
deriving DecidableEq, Repr, Inhabited

/-- The scheduler (R318 to R328): the ready threads in list order (a level's list is the sub-list of its priority), the
waits begun, when each timer fires next, the due times outstanding on each monitor (earliest first), and whether the due
time now held by a thread monitor has been counted as missed. -/
structure SchedState where
  ready : List Nat := []
  waits : Store (Option ThreadWait) := []
  timers : Store (Option Nat) := []
  dues : Store (List Nat) := []
  missed : List Nat := []
  customerImage : Bool := false
  customerCores : List Nat := []
deriving DecidableEq, Repr

/-- A completion entry (R299). -/
structure Completion where
  tag : Word
  sq : Nat
  opcode : Nat
  status : Nat
  detail : Nat := 0
  res0 : Nat := 0
  res1 : Nat := 0
  steps : Nat := 1
  final : Bool := true
deriving DecidableEq, Repr

/-- What a stepped command still has to do (R307): its units, the units one step handles, and its parameters. -/
inductive JobKind where
  | fenQuery (first last : Nat) (slots : List Nat) (dst : Nat) (includeOpen : Bool) (pin : Option PinCopy)
  | fenPin (first last : Nat) (slots : List Nat) (pin : Nat)
  | captureRead (unit slot first rows dst : Nat) (release headerOnly : Bool)
  | logRead (cursor dst minSev : Nat) (fromTail lost : Bool)
  | keyGenerate (slot alg usage dest pubDst : Nat)
  | keyImport (slot wrapSlot : Nat) (blob : KeyBlob)
  | keyUpdate (slot wrapSlot : Nat) (blob : KeyBlob) (pubDst pubLen : Nat)
  | attest (slot flags dst challenge : Nat) (quote : Option (List Byte))
  | sign (slot : Nat) (key : Option (Nat × Nat)) (dst dstLen : Nat) (message : List Byte)
  | verify (slot : Nat) (key : Option (Nat × Nat)) (message sig : List Byte)
  | imageStage (image : Image) (forward : Bool)
  | pairJoin (role before pairId : Nat) (image : Option (Option Checkpoint))
  | returnCapsule
  | opSet (before : Nat)
deriving DecidableEq, Repr

/-- A started command that has not posted its final completion (R296, R298): among others its time limit in ms, 0 for none, and the
instant at which it passes, known from its first step on (R297). -/
structure Job where
  sq : Nat
  tag : Word
  opcode : Nat
  kind : JobKind
  progEvery : Option Nat
  limit : Nat := 0
  deadline : Option Nat
  steps : Nat := 0
  done : Nat := 0
  noCells : Nat := 0
  all : Nat := 1
  perStep : Nat := 1
deriving DecidableEq, Repr

/-- Frames or completion entries not yet signalled on a vector (R312): how many, and when the first came. -/
structure Coalesce where
  count : Nat := 0
  first : Nat := 0
deriving DecidableEq, Repr, Inhabited

/-- The host interface (R295 to R314). `started` names the rings whose head command has been fetched and not completed,
with its opcode; `bound` the completion ring of each such command, and its ring's head after the fetch. -/
structure HostState where
  started : List (Nat × Nat) := []
  jobs : List Job := []
  waiting : List Completion := []
  cqHead : Store Nat := []
  drSeq : Store Nat := []
  drDrop : Store Nat := []
  coalesce : Store Coalesce := []
  hbTimeout : Nat := 0
  hbDue : Option Nat := none
  d3hot : Bool := false
  perst : Bool := false
  nextRing : Nat := 0
  bound : List (Nat × Nat × Nat) := []
deriving DecidableEq, Repr

/-- What one PTP port knows (R50 to R53): the qualified master, when an Announce and a Sync last came, and the mean link delay in
1/16 ns once measured. -/
structure PtpPort where
  gm : Option Nat := none
  rank : List Nat := []
  accuracy : Nat := 0xfe
  timeInaccuracy : Option Nat := none
  lastAnnounce : Nat := 0
  lastSync : Nat := 0
  delay : Option Int := none
deriving DecidableEq, Repr, Inhabited

/-- A trim measurement in progress (R61): when its PTP reference ends, and the oscillator's ticks where its span begins. -/
structure TrimRun where
  ends : Nat
  from_ : Nat
deriving DecidableEq, Repr

/-- The time base (R36 to R55). `frac` is the 16-bit fraction below the nanosecond, and `rateAcc` what the rate correction has gathered
toward its next unit, in 2⁻³² ns; `bound` the error bound E of R40 in ns at `boundAt`; `rateBefore` the rate before a slew, and `slewEnds`
when a slew has removed the offset last measured; `leapFrom` the TAI at which the pending leap became pending; `lastLeap` the UTC instant of
the last leap, the offset before it, and whether it was inserted; `waitEnds` the end of the wait of R50 for the other port; `ppsLast` the
last accepted edge, `ppsTai` the TAI second it began, `ppsMissed` the windows missed in a row and `ppsWindow` when the present one ends;
`todTai` the TAI second the last valid sentence names; `lastSecond` the last TAI second whose boundary has been acted on, or that a step has
led into; `srcLost` the SRC of the source lost last. -/
structure TimeState where
  mono : Nat := 0
  tai : Nat := 0
  frac : Nat := 0
  rateAcc : Nat := 0
  ptp : Store PtpPort := []
  bound : Option Nat := none
  boundAt : Nat := 0
  lockRun : Nat := 0
  rates : List (Nat × Int) := []
  rateBefore : Int := 0
  slewing : Bool := false
  slewEnds : Option Nat := none
  waitEnds : Option Nat := none
  leap61 : Bool := false
  leap59 : Bool := false
  utcOffset : Option Int := none
  leapFrom : Option Nat := none
  lastLeap : Option (Nat × Int × Bool) := none
  quals : List (Nat × Nat) := []
  ppsLast : Option Nat := none
  ppsMissed : Nat := 0
  ppsWindow : Nat := 0
  ppsTai : Option Nat := none
  todLast : Option Nat := none
  todTai : Option Nat := none
  lastSecond : Nat := 0
  ppsOutEnds : Option Nat := none
  todTxFrom : Option Nat := none
  trim : Option TrimRun := none
  srcLost : Nat := 0
deriving DecidableEq, Repr

/-- The calendar counter of the battery domain (R56 to R62): ticks of 1/32768 s since 2000-01-01 00:00:00 UTC without
leap seconds, whether second 60 is being shown and for how many ticks, the rest of the RTC oscillator's phase, the tick counts
between which a backward commit has exposed match instants again, every tick since power was first applied, and the second each alarm
last matched in; a leap that the time base has applied and the calendar still has to (+1 or −1), and one that the calendar has come to
and the time base still has to apply; the crystal's own ticks, untrimmed, and the rest of their phase (R61); for how many ns it has stood
still, up to 2 ms. -/
structure CalState where
  ticks : Nat := 0
  inLeap : Bool := false
  leapTicks : Nat := 0
  phase : Nat := 0
  replayFrom : Nat := 0
  replayTo : Nat := 0
  total : Nat := 0
  matched : List (Option Nat) := [none, none]
  leapDue : Int := 0
  leapDone : Int := 0
  osc : Nat := 0
  oscPhase : Nat := 0
  still : Nat := 0
deriving DecidableEq, Repr

/-- One entry of the duplicate-discard table (R66). -/
structure DdEntry where
  src : Nat
  seq : Nat
  ends : Nat
deriving DecidableEq, Repr

/-- One port's queues, timers and link (R73 to R81). `sending` is the queue, frame and end time of the frame on the wire;
`macActive` the station address in use once a write has given one; `since` when a queue last became non-empty or sent;
`starved` the queues reported; `drops` counts the drops of R81 and `dropBase` their count at the start of its second. -/
structure PortState where
  queues : Store (List TxFrame) := []
  sending : Option (Nat × TxFrame × Nat) := none
  physUp : Bool := false
  controlWord : Bool := false
  speed : Nat := 0
  changedAt : Nat := 0
  pausedUntil : Option Nat := none
  pauseRepeatAt : Option Nat := none
  pausePending : Option Nat := none
  silentFrom : Option Nat := none
  since : Store (Option Nat) := []
  starved : List Nat := []
  drops : Nat := 0
  dropBase : Nat := 0
  dropAt : Nat := 0
  macActive : Option Nat := none
deriving DecidableEq, Repr, Inhabited

/-- The ports, the PRP unit and the receive paths. -/
structure NetState where
  ports : Store PortState := []
  dd : List DdEntry := []
  prpSeq : Nat := 0
  supervisionAt : Nat := 0
  pathsClosed : Bool := false
deriving DecidableEq, Repr

/-- A numbered order-log entry and when it was made (R357). -/
structure OrderRec where
  num : Nat
  at_ : Nat
  entry : OrderEntry
deriving DecidableEq, Repr, Inhabited

/-- A frame a standby holds from its own ports until an order-log entry names it (R358). -/
structure HeldFrame where
  path : Nat
  length : Nat
  crc : Nat
  stamp : Nat
  at_ : Nat
  head : List Byte := []
  payload : List Byte := []
deriving DecidableEq, Repr, Inhabited

/-- A configuration change that applies at a TICK (R360): the CONFIG entry, the master that wrote it, whether the audit log
already holds it as part of a set, and a table's entries. -/
structure ConfigEffect where
  entry : OrderEntry
  master : Master := .host
  audited : Bool := false
  values : List Nat := []
deriving DecidableEq, Repr, Inhabited

/-- The order log (R357 to R359): the next entry number, the entries not yet sent, the entries and delivered frames of the last
200 ms, and when the next TICK is due. On a standby: the frames held, the next entry wanted, the entries waiting (with the frame
wanted for an INPUT or the EFFECT of a CONFIG or COMMAND), whether a FETCH is out, and pair time: the TAI and monotonic count of
the newest TICK and its quality word. `running` holds on a primary from a partner's acceptance until the partner is lost or reports LOST. -/
structure OrderState where
  running : Bool := false
  next : Nat := 0
  unsent : List OrderRec := []
  kept : List OrderRec := []
  frames : List (Nat × HeldFrame) := []
  tickAt : Nat := 0
  held : List HeldFrame := []
  want : Nat := 0
  waiting : List OrderRec := []
  fetched : List Nat := []
  effects : List ConfigEffect := []
  tick : Option (Nat × Nat) := none
  qual : Nat := 0
deriving DecidableEq, Repr

/-- The states the module's supply and start-up put it in (R405 to R413). -/
inductive Phase where
  | unpowered | battery | held | booting | running | warm
deriving DecidableEq, Repr

/-- Supplies, start-up and resets. -/
structure PowerState where
  phase : Phase := .booting
  pendingReset : Option ResetClass := none
  classP : Bool := true
  switchStart : Option Nat := none
  warmCause : Nat := 0
  testmode : Bool := false
  bootHeld : Bool := false
  tempSeen : Bool := false
deriving DecidableEq, Repr

/-- A correction of one quantity as a block uses it (R234, R235): gain in Q2.30, offset in sample LSBs, delay in units of
1/1024 sample. -/
structure Correction where
  gain : Int
  offset : Int
  delay : Int
deriving DecidableEq, Repr, Inhabited

/-- A metering block (R233, R237): its bounds in ns of TAI, the samples released into it, one row per sampling instant with
`none` for a sample that contributes nothing; its positions released, gap positions, nanoseconds covered, the end of its
last released position, its record flags, and the mode, corrections, elements and redundancy in force at its start. -/
structure MeterBlock where
  start : Nat := 0
  stop : Nat := 0
  rows : List (List (Option Int)) := []
  released : Nat := 0
  gaps : Nat := 0
  covered : Nat := 0
  lastEnd : Nat := 0
  flags : Nat := 0
  partialBlock : Bool := false
  mode : Nat := 0
  corr : List Correction := []
  elems : List (Nat × Nat) := []
  dual : Bool := false
  due : Nat := 0
  late : Bool := false
deriving DecidableEq, Repr, Inhabited

/-- An open interval or session record (R255, R256): start instant, the registers there once known, what has gathered, and whether a time
step lies in it (R265). -/
structure SpanAcc where
  isOpen : Bool := false
  start : Stamp := ⟨0, 0⟩
  base : Option (List Nat) := none
  flags : Nat := 0
  blocks : Nat := 0
  creep : Nat := 0
  covered : Nat := 0
  outage : Nat := 0
  stepped : Bool := false
deriving DecidableEq, Repr, Inhabited

/-- A record close that waits for its end instant and last block: record type, end instant, context, and the command to
complete. -/
structure PendClose where
  type : Nat
  stop : Nat
  context : List Byte := []
  flags : Nat := 0
  reopen : Option Nat := none
  cmd : Option (Nat × Word) := none
deriving DecidableEq, Repr, Inhabited

/-- The metering of one lane: residues of the four registers and of the two test registers, the block in progress, complete blocks not yet
booked, the samples before the present block with offset and gain applied and then delayed too and the end of the block they came from
(R234), the level of each quantity in the last booked block (2⁻³² of 1/1000 of RATED), the counts of R240, the open records, the ends of the
last block judged and of the last booked and whether that was a partial one (R251), in lockstep the digest windows and the ends of the
blocks of the last 8 s (R365), and the record chain. -/
structure LaneMeter where
  frac : List Nat := [0, 0, 0, 0]
  testFrac : List Nat := [0, 0]
  cur : Option MeterBlock := none
  ready : List MeterBlock := []
  history : List (List (Option Int)) := []
  fine : List (List Int) := []
  histEnd : Nat := 0
  levels : List Nat := []
  revCount : Nat := 0
  fwdCount : Nat := 0
  interval : SpanAcc := {}
  session : SpanAcc := {}
  closes : List PendClose := []
  lastBlock : Nat := 0
  lastBooked : Nat := 0
  cutBlock : Bool := false
  booked : List (Nat × Nat) := []
  prevHash : Nat := 0
  takeover : Bool := false
  nextFlags : Nat := 0
  able : Bool := false
deriving DecidableEq, Repr, Inhabited

/-- A queued body (R258): when it was closed, its signature once made, whether it has been placed, and whether it is to
be placed with RESENT; `filled` once the fields of R371 are. -/
structure QueuedBody where
  body : LedgerBody
  closedAt : Nat
  signature : Option (List Byte) := none
  placed : Bool := false
  resent : Bool := false
  crcOk : Bool := true
  late : Bool := false
  filled : Bool := true
  raw : Option (List Byte) := none
deriving DecidableEq, Repr

/-- The lane entry of a legal core record (R251): registers, residues, next RECORD_SEQ, whether the lane was legal and
metered, whether its reverse power was declared, whether the save booked a partial block, and the rest of what the lane keeps. -/
structure CoreEntry where
  regs : List Nat := [0, 0, 0, 0]
  recSeq : Nat := 0
  reverse : Bool := false
  legal : Bool := false
  metered : Bool := false
  cut : Bool := false
  meter : LaneMeter := {}
deriving DecidableEq, Repr, Inhabited

/-- A save of the legal core record (R247, R250). `ok` is false for a slot that an uncorrectable word has spoiled, `headOk` for one whose
header it has; `raw` are the record's bytes where they are no longer those saved, `tail` those written since beyond its 32,832. -/
structure CoreSave where
  seq : Nat
  time : Stamp
  mono : Nat
  cause : Nat
  mode : Nat
  sealNo : Nat
  laCount : Nat
  pairId : Nat
  queueSeq : Nat
  lanes : List (Nat × CoreEntry)
  ok : Bool := true
  headOk : Bool := true
  late : Bool := false
  raw : Option (List Byte) := none
  tail : Store Byte := []
deriving DecidableEq, Repr

/-- What a restart found (R249, R433): the restored SAVE_TIME, none when no slot was valid; the cut; whether the save that
should have followed did not complete; the record flags of the outage; and the restore instant. -/
structure RestartInfo where
  saveTime : Option Stamp
  cut : Nat
  incomplete : Bool
  flags : Nat
  at_ : Stamp
deriving DecidableEq, Repr

/-- One pulse output (R260, R261): the accumulated energy times PO_CONST in units of 2⁻³² mWh, the monotonic instants of the
pulses waiting, and when the present pulse ends. -/
structure PulseState where
  acc : Nat := 0
  due : List Nat := []
  high : Option Nat := none
deriving DecidableEq, Repr, Inhabited

/-- Legal metrology: lanes; the saves held in MRAM and those being written; the ledger queue, and the bodies that wait for room in it with
their commands; the audit log, and the bytes that writes of memory left in places of it (log 28); pulse outputs; the instant booking may
resume, the outage in progress, and the outage-log entries copied. `lastSave` is the monotonic instant of the last save committed since the
reset, `savedAt` the SAVE_TIME restored. -/
structure MeterState where
  lanes : Store LaneMeter := []
  saves : List CoreSave := []
  saving : List CoreSave := []
  saveDue : Nat := 0
  lastSave : Option Nat := none
  savedAt : Option Nat := none
  lastSeq : Nat := 0
  queue : List QueuedBody := []
  held : List (LedgerBody × Option (Nat × Word)) := []
  audit : List AuditEntry := []
  auditRaw : List (Nat × List Byte) := []
  pulses : Store PulseState := []
  boundary : Nat := 0
  resumeAt : Nat := 0
  cutAt : Option Nat := none
  configLoaded : Bool := false
  olCopied : Nat := 0
  olStart : Option Nat := none
  sentEntry : List (Nat × Nat × Nat) := []
  acked : Nat := 0
  restart : Option RestartInfo := none
  inOutage : Bool := false
deriving DecidableEq, Repr

/-- One row of a capture record (R273): the instant of channel 0's sample, its words, and the gain in force and the instant less
the row instant of each channel. -/
structure CaptureRow where
  time : Stamp
  words : List Word
  gains : List Nat := []
  skews : List Int := []
deriving DecidableEq, Repr

/-- A record slot (R279): GEN, STATE (0 FREE, 1 PRE, 2 POST, 3 COMPLETE), FLAGS, RSEQ, its logical rows, rows gathered before
the trigger, the trigger, its header once complete, and the ST_LAG it states. -/
structure CaptureRecord where
  gen : Nat := 0
  state : Nat := 0
  flags : Nat := 0
  rseq : Nat := 0
  rows : List CaptureRow := []
  count : Nat := 0
  preAct : Nat := 0
  post : Nat := 0
  trigTime : Stamp := ⟨0, 0⟩
  retrig : Nat := 0
  causeBit : Nat := 0xffff
  vector : Nat := 0
  head : List Byte := []
  lag : Nat := 0
deriving DecidableEq, Repr, Inhabited

/-- One capture unit (R276, R277): the slot it gathers into, the records of its slots, the hold-off, the slots being read, the
instant of its last row, and the geometry its records were laid out with. -/
structure CaptureUnit where
  slot : Nat := 0
  records : Store CaptureRecord := []
  holdoffEnds : Option Nat := none
  holdoffLeft : Nat := 0
  reading : List Nat := []
  lastRow : Option Nat := none
  geometry : List Nat := []
deriving DecidableEq, Repr, Inhabited

/-- One update of the condition vector (R223, R270): the vector before and after, as numbers with bit b at weight 2^b, the
instant of the update, the data instant of the evaluation that caused it, and the bucket where it was the watchers' of a bucket. -/
structure VecUpdate where
  old : Nat
  new : Nat
  time : Stamp
  data : Stamp
  bucket : Option Nat := none
deriving DecidableEq, Repr, Inhabited

/-- The capture engine. `vector` is the condition vector (R199, R268); `forRules` and `forUnits` are the updates that the
alarm router and the capture units have still to evaluate, oldest first. -/
structure CaptureState where
  units : Store CaptureUnit := []
  vector : Nat := 0
  forRules : List VecUpdate := []
  forUnits : List VecUpdate := []
deriving DecidableEq, Repr

/-- An item of an output class (R362): window, class, governing instant, index within it, and content. -/
structure DigestItem where
  window : Nat
  cls : Nat
  at_ : Nat
  index : Nat
  bytes : List Byte
deriving DecidableEq, Repr

/-- A DIGEST of a window (R363): its VALID mask and eight class digests; for the unit's own, when it was sent. -/
structure WindowDigest where
  window : Nat
  valid : Nat
  digests : List Nat
  sentAt : Nat := 0
deriving DecidableEq, Repr

/-- A divergence being decided (R365): the window, the mismatching classes, when the self-test began, and the two results. -/
structure Divergence where
  window : Nat
  classes : Nat
  own : Option Bool := none
  theirs : Option Bool := none
deriving DecidableEq, Repr

/-- A PAIR_JOIN that waits for the partner: ring, tag and role. -/
structure JoinWait where
  sq : Nat
  tag : Word
  role : Nat
deriving DecidableEq, Repr

/-- The FSEQs accepted from one sender (R356): the highest, and those within 1024 of it, each as twice the FSEQ and the lane it came by. -/
structure RxWindow where
  sender : Nat
  highest : Nat := 0
  seen : List Nat := []
deriving DecidableEq, Repr, Inhabited

/-- The causeway link and the pair (14): the frame count of the present epoch and whether the key is spent; when a frame was last accepted
from the partner and on each lane; the FSEQs accepted from each sender; the stamp of the last role change; a scheduled change of roles
(EFFECT, REASON, whether this unit takes the primary role); consecutive HEALTH comparisons that differed, whether the latest did, and until
when comparison rests; the partner's last FW_VER and CFG_DIGEST, and whether a split has been reported; the items of the windows being
gathered, the next window to send, digests made and received and not yet compared, whether the next DIGEST is late; the divergence; equal
windows in a row; from when history classes are judged; the join in progress and the snapshot being received with the bytes held; a snapshot
being sent and the bytes acknowledged; the checkpoint held by a cold standby; when the next keepalive, HEALTH and checkpoint are due; when
the outputs were last proven; the offset of pair time's monotonic count after a promotion; one more than the window last reported late;
lanes whose first record after a promotion carries TAKEOVER are marked in their own state. -/
structure PairState where
  fcount : Nat := 0
  exhausted : Bool := false
  lastFrame : Option Nat := none
  laneLast : List (Option Nat) := [none, none]
  heard : List RxWindow := []
  since : Stamp := ⟨0, 0⟩
  promote : Option (Nat × Nat × Bool) := none
  differ : Nat := 0
  differing : Bool := false
  suspendUntil : Nat := 0
  partnerVer : Option Nat := none
  partnerCfg : Option Nat := none
  split : Bool := false
  items : List DigestItem := []
  window : Nat := 0
  own : List WindowDigest := []
  theirs : List WindowDigest := []
  diverge : Option Divergence := none
  equalRun : Nat := 0
  judgeFrom : Nat := 0
  join : Option JoinWait := none
  receiving : Option (Nat × Nat) := none
  sending : Option (StateImage × Nat) := none
  partnerRole : Nat := 0
  snapId : Nat := 0
  checkpoint : Option StateImage := none
  keepAt : Nat := 0
  healthAt : Nat := 0
  ckptAt : Nat := 0
  provedAt : Nat := 0
  monoOff : Int := 0
  stPass : Nat := 0
  stFail : Nat := 0
  scrubDram : Nat := 0
  scrubMram : Nat := 0
  cecc : Nat := 0
  lateDigest : Nat := 0
deriving DecidableEq, Repr

/-- An image being received over the relay (R388): session, sender, whether it came by the causeway, what the OFFER states of it, hops left,
chunks held, when the last chunk came, when there was last progress, chunks since the last ACK. -/
structure RelayReceive where
  session : Nat
  sender : Nat
  causeway : Bool
  length : Nat
  kind : Nat
  digest : Nat
  hops : Nat
  held : List (Nat × List Byte) := []
  lastAt : Nat
  progress : Nat
  sinceAck : Nat := 0
  acked : Bool := false
deriving DecidableEq, Repr

/-- An image being sent (R388): to the causeway or downstream, hops given, chunks sent and not acknowledged with the instant of
sending, the lowest chunk not yet acknowledged, the next to send, when there was last progress, and whether the receiver has
answered RESULT 0. -/
structure RelaySend where
  session : Nat
  causeway : Bool
  image : Image
  hops : Nat
  unacked : List (Nat × Nat) := []
  next : Nat := 0
  progress : Nat
  verified : Bool := false
deriving DecidableEq, Repr

/-- An image being verified and copied to its place (R381, R382): the digest it was offered under, whom it came from (0 the host), hops left
for forwarding, whether to forward, and the ring and tag of the FW_STAGE that waits, if any. -/
structure StageRun where
  image : Image
  digest : Nat
  sender : Nat
  causeway : Bool := false
  hops : Nat
  forward : Bool
  command : Option (Nat × Word) := none
deriving DecidableEq, Repr

/-- A configuration partition (R382): register writes and tables, in the order stored. -/
structure StoredConfig where
  writes : List (Nat × Nat) := []
  tables : List (Nat × Nat × List Nat) := []
deriving DecidableEq, Repr, Inhabited

/-- The firmware update service (15): the images in slots A and B and banks C0 and C1 (none: as manufactured, or empty), the running slot,
the active bank and the one active before the activation, the version of the configuration image last activated and the one before it, the
staged or provisional image; configuration frames that wait for their comparison during a switch; the two configuration partitions;
verification and copy in progress; relay sessions; when START_S ends; the partition being refreshed and each partition's age since its last
refresh, in ticks of the calendar. -/
structure FwState where
  slots : List (Option Image) := [none, none]
  banks : List (Option Image) := [none, none]
  slot : Nat := 0
  bank : Option Nat := none
  oldBank : Option Nat := none
  staged : Option Image := none
  stored : StoredConfig := {}
  storedNew : Option StoredConfig := none
  verifying : Option StageRun := none
  copying : Option StageRun := none
  receive : Option RelayReceive := none
  sends : List RelaySend := []
  startEnds : Option Nat := none
  refreshing : Option Nat := none
  ages : List Nat := [0, 0, 0, 0, 0]
  cfgVer : Nat := 0
  oldCfgVer : Nat := 0
  cfgWaiting : List CfgFrame := []
deriving DecidableEq, Repr

/-- What the return capsule holds (R402): when it was written, the status registers, the IG registers, the known-answer results,
HEALTH reports and peat-log entries. -/
structure Capsule where
  time : Stamp
  mono : Nat
  status : List Word
  integrity : List Word
  passed : Nat
  failed : Nat
  health : List (List Byte)
  peat : List PeatEntry
deriving DecidableEq, Repr

/-- Integrity (16): the HEALTH reports kept, newest first, the capsule once written, and the internal addresses of the 8-byte words of DRAM
and MRAM that hold an uncorrectable error (R394). -/
structure IntegState where
  bad : List Nat := []
  health : List (List Byte) := []
  capsule : Option Capsule := none
deriving DecidableEq, Repr

/-- One cell of a key slot (R331, R337): the key as two shares whose XOR it is, its attribute word as KS_ATTR shows it, its generation,
and the CRC-32C of its commit word. -/
structure KeyCell where
  share : Nat := 0
  mask : Nat := 0
  attr : Nat := 0
  gen : Nat := 0
  crc : Nat := 0
deriving DecidableEq, Repr, Inhabited

/-- The key a cell holds. -/
def KeyCell.value (c : KeyCell) : Nat := c.share ^^^ c.mask

/-- A key slot: its two cells, and whether the second is in force. -/
structure KeySlot where
  a : KeyCell := {}
  b : KeyCell := {}
  second : Bool := false
deriving DecidableEq, Repr, Inhabited

/-- The key store and the security engine (13): slots written since manufacture, Key and V of the DRBG while it is instantiated, its
requests since the last reseed and when that was, and what has been written over the certificate chain of R346, by place. -/
structure KeyState where
  slots : Store (Option KeySlot) := []
  drbg : Option (Nat × Nat) := none
  requests : Nat := 0
  reseedAt : Nat := 0
  chain : Store (Option Byte) := []
deriving DecidableEq, Repr

end Sys2Proof.Machine
end

