-- ==== Sys2Proof/Machine/RegsAlign.lean ====
section
/-!
DEFINITION. The registers of 07_stream_alignment.md: the offset of each (with its indices), its fields, and the row of its table:
offset, strides and counts, reset value, reset class, and each field's access type and stated range (R5, R6, R9).
-/

namespace Sys2Proof.Machine

/-- AE_SLOT_CFG[n], 07. -/
abbrev AE_SLOT_CFG (n : Nat) : Nat := 0x200000 + 0x40 * n
@[inherit_doc AE_SLOT_CFG] def AE_SLOT_CFG_HOLD_MAX (n : Nat) : Fld := ⟨AE_SLOT_CFG n, 23, 16⟩
@[inherit_doc AE_SLOT_CFG] def AE_SLOT_CFG_PORTS (n : Nat) : Fld := ⟨AE_SLOT_CFG n, 13, 12⟩
@[inherit_doc AE_SLOT_CFG] def AE_SLOT_CFG_LEARN (n : Nat) : Fld := ⟨AE_SLOT_CFG n, 11, 11⟩
@[inherit_doc AE_SLOT_CFG] def AE_SLOT_CFG_ANNEX (n : Nat) : Fld := ⟨AE_SLOT_CFG n, 10, 10⟩
@[inherit_doc AE_SLOT_CFG] def AE_SLOT_CFG_POLICY (n : Nat) : Fld := ⟨AE_SLOT_CFG n, 9, 9⟩
@[inherit_doc AE_SLOT_CFG] def AE_SLOT_CFG_CONV (n : Nat) : Fld := ⟨AE_SLOT_CFG n, 8, 7⟩
@[inherit_doc AE_SLOT_CFG] def AE_SLOT_CFG_RATE (n : Nat) : Fld := ⟨AE_SLOT_CFG n, 6, 4⟩
@[inherit_doc AE_SLOT_CFG] def AE_SLOT_CFG_EN (n : Nat) : Fld := ⟨AE_SLOT_CFG n, 0, 0⟩
/-- AE_SLOT_SRC[n], 07. -/
abbrev AE_SLOT_SRC (n : Nat) : Nat := 0x200004 + 0x40 * n
@[inherit_doc AE_SLOT_SRC] def AE_SLOT_SRC_GROUP (n : Nat) : Fld := ⟨AE_SLOT_SRC n, 31, 24⟩
@[inherit_doc AE_SLOT_SRC] def AE_SLOT_SRC_BLK (n : Nat) : Fld := ⟨AE_SLOT_SRC n, 23, 16⟩
@[inherit_doc AE_SLOT_SRC] def AE_SLOT_SRC_IDCODE (n : Nat) : Fld := ⟨AE_SLOT_SRC n, 15, 0⟩
/-- AE_SLOT_FMT[n], 07. -/
abbrev AE_SLOT_FMT (n : Nat) : Nat := 0x200008 + 0x40 * n
@[inherit_doc AE_SLOT_FMT] def AE_SLOT_FMT_FNOM (n : Nat) : Fld := ⟨AE_SLOT_FMT n, 20, 20⟩
@[inherit_doc AE_SLOT_FMT] def AE_SLOT_FMT_DGNMR (n : Nat) : Fld := ⟨AE_SLOT_FMT n, 19, 16⟩
@[inherit_doc AE_SLOT_FMT] def AE_SLOT_FMT_ANNMR (n : Nat) : Fld := ⟨AE_SLOT_FMT n, 15, 10⟩
@[inherit_doc AE_SLOT_FMT] def AE_SLOT_FMT_PHNMR (n : Nat) : Fld := ⟨AE_SLOT_FMT n, 9, 4⟩
@[inherit_doc AE_SLOT_FMT] def AE_SLOT_FMT_FORMAT (n : Nat) : Fld := ⟨AE_SLOT_FMT n, 3, 0⟩
/-- AE_SLOT_TMO[n], 07. -/
abbrev AE_SLOT_TMO (n : Nat) : Nat := 0x20000c + 0x40 * n
@[inherit_doc AE_SLOT_TMO] def AE_SLOT_TMO_STALE (n : Nat) : Fld := ⟨AE_SLOT_TMO n, 15, 0⟩
/-- AE_SLOT_PHUNIT[n][j], 07. -/
abbrev AE_SLOT_PHUNIT (n : Nat) (j : Nat) : Nat := 0x200010 + 0x40 * n + 4 * j
@[inherit_doc AE_SLOT_PHUNIT] def AE_SLOT_PHUNIT_TYPE (n : Nat) (j : Nat) : Fld := ⟨AE_SLOT_PHUNIT n j, 31, 24⟩
@[inherit_doc AE_SLOT_PHUNIT] def AE_SLOT_PHUNIT_SCALE (n : Nat) (j : Nat) : Fld := ⟨AE_SLOT_PHUNIT n j, 23, 0⟩
/-- AE_SLOT_TIMEBASE[n], 07. -/
abbrev AE_SLOT_TIMEBASE (n : Nat) : Nat := 0x200030 + 0x40 * n
@[inherit_doc AE_SLOT_TIMEBASE] def AE_SLOT_TIMEBASE_TIME_BASE (n : Nat) : Fld := ⟨AE_SLOT_TIMEBASE n, 23, 0⟩
/-- AE_SLOT_STAT[n], 07. -/
abbrev AE_SLOT_STAT (n : Nat) : Nat := 0x200034 + 0x40 * n
@[inherit_doc AE_SLOT_STAT] def AE_SLOT_STAT_SAT (n : Nat) : Fld := ⟨AE_SLOT_STAT n, 31, 28⟩
@[inherit_doc AE_SLOT_STAT] def AE_SLOT_STAT_REJ_REASON (n : Nat) : Fld := ⟨AE_SLOT_STAT n, 27, 24⟩
@[inherit_doc AE_SLOT_STAT] def AE_SLOT_STAT_STATE (n : Nat) : Fld := ⟨AE_SLOT_STAT n, 2, 0⟩
/-- AE_SLOT_SEQ[n], 07. -/
abbrev AE_SLOT_SEQ (n : Nat) : Nat := 0x200038 + 0x40 * n
/-- AE_SLOT_BASE[n], 07. -/
abbrev AE_SLOT_BASE (n : Nat) : Nat := 0x20003c + 0x40 * n
/-- AE_SLOT_CNT[n][i], 07. -/
abbrev AE_SLOT_CNT (n : Nat) (i : Nat) : Nat := 0x290000 + 0x10 * n + 4 * i
/-- AE_CFG, 07. -/
abbrev AE_CFG : Nat := 0x2f0000
@[inherit_doc AE_CFG] def AE_CFG_EARLY : Fld := ⟨AE_CFG, 22, 16⟩
@[inherit_doc AE_CFG] def AE_CFG_WAIT : Fld := ⟨AE_CFG, 15, 5⟩
@[inherit_doc AE_CFG] def AE_CFG_GRID : Fld := ⟨AE_CFG, 3, 1⟩
@[inherit_doc AE_CFG] def AE_CFG_EN : Fld := ⟨AE_CFG, 0, 0⟩
/-- AE_STATUS, 07. -/
abbrev AE_STATUS : Nat := 0x2f0004
@[inherit_doc AE_STATUS] def AE_STATUS_OPEN : Fld := ⟨AE_STATUS, 24, 16⟩
@[inherit_doc AE_STATUS] def AE_STATUS_LAYOUT_ERR : Fld := ⟨AE_STATUS, 1, 1⟩
@[inherit_doc AE_STATUS] def AE_STATUS_RUNNING : Fld := ⟨AE_STATUS, 0, 0⟩
/-- AE_LAYOUT_SLOT, 07. -/
abbrev AE_LAYOUT_SLOT : Nat := 0x2f0008
@[inherit_doc AE_LAYOUT_SLOT] def AE_LAYOUT_SLOT_SLOT : Fld := ⟨AE_LAYOUT_SLOT, 15, 0⟩
/-- AE_LOAD, 07. -/
abbrev AE_LOAD : Nat := 0x2f000c
@[inherit_doc AE_LOAD] def AE_LOAD_LOAD : Fld := ⟨AE_LOAD, 19, 0⟩
/-- FS_CFG, 07. -/
abbrev FS_CFG : Nat := 0x2f0010
@[inherit_doc FS_CFG] def FS_CFG_PIN : Fld := ⟨FS_CFG, 15, 12⟩
@[inherit_doc FS_CFG] def FS_CFG_ANNEX : Fld := ⟨FS_CFG, 9, 8⟩
@[inherit_doc FS_CFG] def FS_CFG_SIZE : Fld := ⟨FS_CFG, 6, 0⟩
/-- FS_STATUS, 07. -/
abbrev FS_STATUS : Nat := 0x2f0014
@[inherit_doc FS_STATUS] def FS_STATUS_HISTORY : Fld := ⟨FS_STATUS, 12, 0⟩
/-- FS_OPEN_LO, 07. -/
abbrev FS_OPEN_LO : Nat := 0x2f0018
/-- FS_OPEN_HI, 07. -/
abbrev FS_OPEN_HI : Nat := 0x2f001c
/-- FS_CLOSED_LO, 07. -/
abbrev FS_CLOSED_LO : Nat := 0x2f0020
/-- FS_CLOSED_HI, 07. -/
abbrev FS_CLOSED_HI : Nat := 0x2f0024
/-- FS_OLDEST_LO, 07. -/
abbrev FS_OLDEST_LO : Nat := 0x2f0028
/-- FS_OLDEST_HI, 07. -/
abbrev FS_OLDEST_HI : Nat := 0x2f002c
/-- FS_ANNEX_SEQ_LO, 07. -/
abbrev FS_ANNEX_SEQ_LO : Nat := 0x2f0030
/-- FS_ANNEX_SEQ_HI, 07. -/
abbrev FS_ANNEX_SEQ_HI : Nat := 0x2f0034
/-- FS_ANNEX_INFO, 07. -/
abbrev FS_ANNEX_INFO : Nat := 0x2f0038
@[inherit_doc FS_ANNEX_INFO] def FS_ANNEX_INFO_ENTRIES : Fld := ⟨FS_ANNEX_INFO, 23, 0⟩
/-- AE_G_CNT[i], 07. -/
abbrev AE_G_CNT (i : Nat) : Nat := 0x2f0040 + 4 * i
/-- AE_G_SAT, 07. -/
abbrev AE_G_SAT : Nat := 0x2f0060
@[inherit_doc AE_G_SAT] def AE_G_SAT_DLV_SAT : Fld := ⟨AE_G_SAT, 15, 8⟩
@[inherit_doc AE_G_SAT] def AE_G_SAT_SAT : Fld := ⟨AE_G_SAT, 4, 0⟩
/-- FS_DLV_CFG[r], 07. -/
abbrev FS_DLV_CFG (r : Nat) : Nat := 0x2f0080 + 8 * r
@[inherit_doc FS_DLV_CFG] def FS_DLV_CFG_NSLOT (r : Nat) : Fld := ⟨FS_DLV_CFG r, 26, 16⟩
@[inherit_doc FS_DLV_CFG] def FS_DLV_CFG_DECIM (r : Nat) : Fld := ⟨FS_DLV_CFG r, 8, 1⟩
@[inherit_doc FS_DLV_CFG] def FS_DLV_CFG_EN (r : Nat) : Fld := ⟨FS_DLV_CFG r, 0, 0⟩
/-- FS_DLV_DROP[r], 07. -/
abbrev FS_DLV_DROP (r : Nat) : Nat := 0x2f0084 + 8 * r
/-- FS_PIN_STAT, 07. -/
abbrev FS_PIN_STAT : Nat := 0x2f00c0
@[inherit_doc FS_PIN_STAT] def FS_PIN_STAT_ACTIVE : Fld := ⟨FS_PIN_STAT, 31, 16⟩
@[inherit_doc FS_PIN_STAT] def FS_PIN_STAT_USED : Fld := ⟨FS_PIN_STAT, 15, 0⟩

/-- Rows of the register tables of 07_stream_alignment.md. -/
def regsAlign0 : List RegSpec := [
  ⟨0x200000, [(64, 8464)], 0xa0070, .c, [.all 23 16 .rw, .all 13 12 .rw, .all 11 11 .rw, .all 10 10 .rw, .all 9 9 .rw, .all 8 7 .rw, .rng 6 4 .rw 0 7, .all 0 0 .rw]⟩,
  ⟨0x200004, [(64, 8464)], 0, .c, [.all 31 24 .rw, .rng 23 16 .rw 0 0xfe, .rng 15 0 .rw 1 0xfffe]⟩,
  ⟨0x200008, [(64, 8464)], 0, .c, [.all 20 20 .rw, .all 19 16 .rw, .all 15 10 .rw, .rng 9 4 .rw 0 0x20, .all 3 0 .rw]⟩,
  ⟨0x20000c, [(64, 8464)], 0x1f4, .c, [.rng 15 0 .rw 0x14 0xea60]⟩,
  ⟨0x200010, [(64, 8464), (4, 8)], 0, .c, [.rng 31 24 .rw 0 1, .all 23 0 .rw]⟩,
  ⟨0x200030, [(64, 8464)], 0xf4240, .c, [.rng 23 0 .rw 1 0xffffff]⟩,
  ⟨0x200034, [(64, 8464)], 0, .c, [.all 31 28 .ro, .all 27 24 .ro, .all 2 0 .ro]⟩,
  ⟨0x200038, [(64, 8464)], 0, .c, [.all 31 0 .ro]⟩,
  ⟨0x20003c, [(64, 8464)], 0, .c, [.all 31 0 .ro]⟩,
  ⟨0x290000, [(16, 8464), (4, 4)], 0, .c, [.all 31 0 .rw]⟩,
  ⟨0x2f0000, [], 0x503c4, .c, [.rng 22 16 .rw 0 0x64, .rng 15 5 .rw 1 0x7d0, .rng 3 1 .rw 0 4, .all 0 0 .rw]⟩,
  ⟨0x2f0004, [], 0, .c, [.all 24 16 .ro, .all 1 1 .ro, .all 0 0 .ro]⟩,
  ⟨0x2f0008, [], 0, .c, [.all 15 0 .ro]⟩,
  ⟨0x2f000c, [], 0, .c, [.all 19 0 .ro]⟩,
  ⟨0x2f0010, [], 0x260, .c, [.all 15 12 .rw, .all 9 8 .rw, .rng 6 0 .rw 1 0x60]⟩,
  ⟨0x2f0014, [], 0, .c, [.all 12 0 .ro]⟩,
  ⟨0x2f0018, [], 0, .c, [.all 31 0 .ro]⟩,
  ⟨0x2f001c, [], 0, .c, [.all 31 0 .ro]⟩,
  ⟨0x2f0020, [], 0, .c, [.all 31 0 .ro]⟩,
  ⟨0x2f0024, [], 0, .c, [.all 31 0 .ro]⟩]

/-- Rows of the register tables of 07_stream_alignment.md. -/
def regsAlign1 : List RegSpec := [
  ⟨0x2f0028, [], 0, .c, [.all 31 0 .ro]⟩,
  ⟨0x2f002c, [], 0, .c, [.all 31 0 .ro]⟩,
  ⟨0x2f0030, [], 0, .c, [.all 31 0 .ro]⟩,
  ⟨0x2f0034, [], 0, .c, [.all 31 0 .ro]⟩,
  ⟨0x2f0038, [], 0, .c, [.all 23 0 .ro]⟩,
  ⟨0x2f0040, [(4, 5)], 0, .c, [.all 31 0 .rw]⟩,
  ⟨0x2f0060, [], 0, .c, [.all 15 8 .ro, .all 4 0 .ro]⟩,
  ⟨0x2f0080, [(8, 8)], 2, .c, [.all 26 16 .ro, .rng 8 1 .rw 1 0xf0, .all 0 0 .rw]⟩,
  ⟨0x2f0084, [(8, 8)], 0, .c, [.all 31 0 .rw]⟩,
  ⟨0x2f00c0, [], 0, .c, [.all 31 16 .ro, .all 15 0 .ro]⟩]

/-- The register table of 07_stream_alignment.md. -/
def regsAlign : List RegSpec := regsAlign0 ++ regsAlign1

end Sys2Proof.Machine
end

