-- ==== Sys2Proof/Machine/RegsAnalogue.lean ====
section
/-!
DEFINITION. The registers of 05_analogue_front_end.md: the offset of each (with its indices), its fields, and the row of its table:
offset, strides and counts, reset value, reset class, and each field's access type and stated range (R5, R6, R9).
-/

namespace Sys2Proof.Machine

/-- AF_REF, 05. -/
abbrev AF_REF : Nat := 0x140000
@[inherit_doc AF_REF] def AF_REF_READY : Fld := ⟨AF_REF, 1, 1⟩
@[inherit_doc AF_REF] def AF_REF_BUF_EN : Fld := ⟨AF_REF, 0, 0⟩
/-- AF_STATUS, 05. -/
abbrev AF_STATUS : Nat := 0x140004
@[inherit_doc AF_STATUS] def AF_STATUS_RUNNING : Fld := ⟨AF_STATUS, 23, 16⟩
@[inherit_doc AF_STATUS] def AF_STATUS_TRIM_BAD : Fld := ⟨AF_STATUS, 8, 8⟩
@[inherit_doc AF_STATUS] def AF_STATUS_REF_NOT_READY : Fld := ⟨AF_STATUS, 0, 0⟩
/-- AF_TRIM_INFO, 05. -/
abbrev AF_TRIM_INFO : Nat := 0x140008
@[inherit_doc AF_TRIM_INFO] def AF_TRIM_INFO_VERSION : Fld := ⟨AF_TRIM_INFO, 31, 16⟩
/-- AF_CTRL[c], 05. -/
abbrev AF_CTRL (c : Nat) : Nat := 0x140100 + 0x40 * c
@[inherit_doc AF_CTRL] def AF_CTRL_EN (c : Nat) : Fld := ⟨AF_CTRL c, 0, 0⟩
/-- AF_SEQ[c], 05. -/
abbrev AF_SEQ (c : Nat) : Nat := 0x140104 + 0x40 * c
@[inherit_doc AF_SEQ] def AF_SEQ_L (c : Nat) : Fld := ⟨AF_SEQ c, 27, 24⟩
@[inherit_doc AF_SEQ] def AF_SEQ_SLOT (c : Nat) : Fld := ⟨AF_SEQ c, 23, 0⟩
/-- AF_INJ_CFG[c], 05. -/
abbrev AF_INJ_CFG (c : Nat) : Nat := 0x140108 + 0x40 * c
@[inherit_doc AF_INJ_CFG] def AF_INJ_CFG_LINE (c : Nat) : Fld := ⟨AF_INJ_CFG c, 20, 18⟩
@[inherit_doc AF_INJ_CFG] def AF_INJ_CFG_SRC (c : Nat) : Fld := ⟨AF_INJ_CFG c, 17, 16⟩
@[inherit_doc AF_INJ_CFG] def AF_INJ_CFG_INJ (c : Nat) : Fld := ⟨AF_INJ_CFG c, 15, 4⟩
@[inherit_doc AF_INJ_CFG] def AF_INJ_CFG_J (c : Nat) : Fld := ⟨AF_INJ_CFG c, 2, 0⟩
/-- AF_INJ_PER[c], 05. -/
abbrev AF_INJ_PER (c : Nat) : Nat := 0x14010c + 0x40 * c
@[inherit_doc AF_INJ_PER] def AF_INJ_PER_PERIOD (c : Nat) : Fld := ⟨AF_INJ_PER c, 19, 0⟩
/-- AF_INJ_TRIG[c], 05. -/
abbrev AF_INJ_TRIG (c : Nat) : Nat := 0x140110 + 0x40 * c
@[inherit_doc AF_INJ_TRIG] def AF_INJ_TRIG_GO (c : Nat) : Fld := ⟨AF_INJ_TRIG c, 0, 0⟩
/-- AF_INJ_SEQ[c], 05. -/
abbrev AF_INJ_SEQ (c : Nat) : Nat := 0x140114 + 0x40 * c
/-- AF_INJ_TS_NS[c], 05. -/
abbrev AF_INJ_TS_NS (c : Nat) : Nat := 0x140118 + 0x40 * c
@[inherit_doc AF_INJ_TS_NS] def AF_INJ_TS_NS_NS (c : Nat) : Fld := ⟨AF_INJ_TS_NS c, 29, 0⟩
/-- AF_INJ_TS_SEC_LO[c], 05. -/
abbrev AF_INJ_TS_SEC_LO (c : Nat) : Nat := 0x14011c + 0x40 * c
/-- AF_INJ_TS_SEC_HI[c], 05. -/
abbrev AF_INJ_TS_SEC_HI (c : Nat) : Nat := 0x140120 + 0x40 * c
@[inherit_doc AF_INJ_TS_SEC_HI] def AF_INJ_TS_SEC_HI_QUALITY (c : Nat) : Fld := ⟨AF_INJ_TS_SEC_HI c, 19, 16⟩
@[inherit_doc AF_INJ_TS_SEC_HI] def AF_INJ_TS_SEC_HI_SEC_HI (c : Nat) : Fld := ⟨AF_INJ_TS_SEC_HI c, 15, 0⟩
/-- AF_INJ_RES[c][j], 05. -/
abbrev AF_INJ_RES (c : Nat) (j : Nat) : Nat := 0x140124 + 0x40 * c + 4 * j
/-- AF_INJ_DROP[c], 05. -/
abbrev AF_INJ_DROP (c : Nat) : Nat := 0x140134 + 0x40 * c
/-- AF_OVF[c], 05. -/
abbrev AF_OVF (c : Nat) : Nat := 0x140138 + 0x40 * c
/-- AF_CNT_SAT[c], 05. -/
abbrev AF_CNT_SAT (c : Nat) : Nat := 0x14013c + 0x40 * c
@[inherit_doc AF_CNT_SAT] def AF_CNT_SAT_SAT_OVF (c : Nat) : Fld := ⟨AF_CNT_SAT c, 1, 1⟩
@[inherit_doc AF_CNT_SAT] def AF_CNT_SAT_SAT_DROP (c : Nat) : Fld := ⟨AF_CNT_SAT c, 0, 0⟩
/-- AF_IN_CFG[i], 05. -/
abbrev AF_IN_CFG (i : Nat) : Nat := 0x140400 + 4 * i
@[inherit_doc AF_IN_CFG] def AF_IN_CFG_CURRENT (i : Nat) : Fld := ⟨AF_IN_CFG i, 4, 4⟩
@[inherit_doc AF_IN_CFG] def AF_IN_CFG_GAIN (i : Nat) : Fld := ⟨AF_IN_CFG i, 2, 0⟩
/-- AF_OVR_CNT[i], 05. -/
abbrev AF_OVR_CNT (i : Nat) : Nat := 0x140500 + 4 * i
/-- AF_OVR_SAT[k], 05. -/
abbrev AF_OVR_SAT (k : Nat) : Nat := 0x140600 + 4 * k
/-- FC_CFG[n], 05. -/
abbrev FC_CFG (n : Nat) : Nat := 0x150000 + 0x200 * n
@[inherit_doc FC_CFG] def FC_CFG_FADE_K (n : Nat) : Fld := ⟨FC_CFG n, 7, 4⟩
@[inherit_doc FC_CFG] def FC_CFG_KEEP_COEF (n : Nat) : Fld := ⟨FC_CFG n, 3, 3⟩
@[inherit_doc FC_CFG] def FC_CFG_PRESET (n : Nat) : Fld := ⟨FC_CFG n, 2, 1⟩
@[inherit_doc FC_CFG] def FC_CFG_EN (n : Nat) : Fld := ⟨FC_CFG n, 0, 0⟩
/-- FC_CTRL[n], 05. -/
abbrev FC_CTRL (n : Nat) : Nat := 0x150004 + 0x200 * n
@[inherit_doc FC_CTRL] def FC_CTRL_LOAD_FACTORY (n : Nat) : Fld := ⟨FC_CTRL n, 1, 1⟩
@[inherit_doc FC_CTRL] def FC_CTRL_SWAP (n : Nat) : Fld := ⟨FC_CTRL n, 0, 0⟩
/-- FC_STAT[n], 05. -/
abbrev FC_STAT (n : Nat) : Nat := 0x150008 + 0x200 * n
@[inherit_doc FC_STAT] def FC_STAT_SAT (n : Nat) : Fld := ⟨FC_STAT n, 19, 16⟩
@[inherit_doc FC_STAT] def FC_STAT_SETTLE_LEFT (n : Nat) : Fld := ⟨FC_STAT n, 15, 8⟩
@[inherit_doc FC_STAT] def FC_STAT_ACT_WR (n : Nat) : Fld := ⟨FC_STAT n, 4, 4⟩
@[inherit_doc FC_STAT] def FC_STAT_WR_LOCK (n : Nat) : Fld := ⟨FC_STAT n, 3, 3⟩
@[inherit_doc FC_STAT] def FC_STAT_SWAP_PENDING (n : Nat) : Fld := ⟨FC_STAT n, 2, 2⟩
@[inherit_doc FC_STAT] def FC_STAT_FADING (n : Nat) : Fld := ⟨FC_STAT n, 1, 1⟩
@[inherit_doc FC_STAT] def FC_STAT_ACTIVE_BANK (n : Nat) : Fld := ⟨FC_STAT n, 0, 0⟩
/-- FC_COEF_SEL[n], 05. -/
abbrev FC_COEF_SEL (n : Nat) : Nat := 0x15000c + 0x200 * n
@[inherit_doc FC_COEF_SEL] def FC_COEF_SEL_AUTO_INC (n : Nat) : Fld := ⟨FC_COEF_SEL n, 9, 9⟩
@[inherit_doc FC_COEF_SEL] def FC_COEF_SEL_BANK (n : Nat) : Fld := ⟨FC_COEF_SEL n, 8, 8⟩
@[inherit_doc FC_COEF_SEL] def FC_COEF_SEL_TAP (n : Nat) : Fld := ⟨FC_COEF_SEL n, 6, 0⟩
/-- FC_COEF_DATA[n], 05. -/
abbrev FC_COEF_DATA (n : Nat) : Nat := 0x150010 + 0x200 * n
@[inherit_doc FC_COEF_DATA] def FC_COEF_DATA_SIGN (n : Nat) : Fld := ⟨FC_COEF_DATA n, 31, 24⟩
@[inherit_doc FC_COEF_DATA] def FC_COEF_DATA_COEF (n : Nat) : Fld := ⟨FC_COEF_DATA n, 23, 0⟩
/-- FC_DELAY[n], 05. -/
abbrev FC_DELAY (n : Nat) : Nat := 0x150014 + 0x200 * n
@[inherit_doc FC_DELAY] def FC_DELAY_DELAY (n : Nat) : Fld := ⟨FC_DELAY n, 24, 0⟩
/-- FC_CNT[n][i], 05. -/
abbrev FC_CNT (n : Nat) (i : Nat) : Nat := 0x150020 + 0x200 * n + 4 * i
/-- FC_LAST[n], 05. -/
abbrev FC_LAST (n : Nat) : Nat := 0x150030 + 0x200 * n

/-- Rows of the register tables of 05_analogue_front_end.md. -/
def regsAnalogue0 : List RegSpec := [
  ⟨0x140000, [], 0, .c, [.all 1 1 .ro, .all 0 0 .rw]⟩,
  ⟨0x140004, [], 0, .c, [.all 23 16 .ro, .all 8 8 .ro, .all 0 0 .w1c]⟩,
  ⟨0x140008, [], 0, .p, [.all 31 16 .ro]⟩,
  ⟨0x140100, [(64, 8)], 0, .c, [.all 0 0 .rw]⟩,
  ⟨0x140104, [(64, 8)], 0, .c, [.rng 27 24 .rw 0 8, .all 23 0 .rw]⟩,
  ⟨0x140108, [(64, 8)], 0, .c, [.all 20 18 .rw, .rng 17 16 .rw 0 2, .all 15 4 .rw, .rng 2 0 .rw 0 4]⟩,
  ⟨0x14010c, [(64, 8)], 0x3e8, .c, [.rng 19 0 .rw 0xa 0xf4240]⟩,
  ⟨0x140110, [(64, 8)], 0, .c, [.all 0 0 .wo]⟩,
  ⟨0x140114, [(64, 8)], 0, .c, [.all 31 0 .ro]⟩,
  ⟨0x140118, [(64, 8)], 0, .c, [.all 29 0 .ro]⟩,
  ⟨0x14011c, [(64, 8)], 0, .c, [.all 31 0 .ro]⟩,
  ⟨0x140120, [(64, 8)], 0, .c, [.all 19 16 .ro, .all 15 0 .ro]⟩,
  ⟨0x140124, [(64, 8), (4, 4)], 0, .c, [.all 31 0 .ro]⟩,
  ⟨0x140134, [(64, 8)], 0, .c, [.all 31 0 .rw]⟩,
  ⟨0x140138, [(64, 8)], 0, .c, [.all 31 0 .rw]⟩,
  ⟨0x14013c, [(64, 8)], 0, .c, [.all 1 1 .ro, .all 0 0 .ro]⟩,
  ⟨0x140400, [(4, 64)], 0, .c, [.all 4 4 .rw, .rng 2 0 .rw 0 4]⟩,
  ⟨0x140500, [(4, 64)], 0, .c, [.all 31 0 .rw]⟩,
  ⟨0x140600, [(4, 2)], 0, .c, [.all 31 0 .ro]⟩,
  ⟨0x150000, [(512, 64)], 2, .c, [.rng 7 4 .rw 0 0xa, .all 3 3 .rw, .all 2 1 .rw, .all 0 0 .rw]⟩]

/-- Rows of the register tables of 05_analogue_front_end.md. -/
def regsAnalogue1 : List RegSpec := [
  ⟨0x150004, [(512, 64)], 0, .c, [.all 1 1 .wo, .all 0 0 .wo]⟩,
  ⟨0x150008, [(512, 64)], 0, .c, [.all 19 16 .ro, .all 15 8 .ro, .all 4 4 .w1c, .all 3 3 .w1c, .all 2 2 .ro, .all 1 1 .ro, .all 0 0 .ro]⟩,
  ⟨0x15000c, [(512, 64)], 0, .c, [.all 9 9 .rw, .all 8 8 .rw, .all 6 0 .rw]⟩,
  ⟨0x150010, [(512, 64)], 0, .c, [.all 31 24 .ro, .all 23 0 .rw]⟩,
  ⟨0x150014, [(512, 64)], 0x10103e, .c, [.rng 24 0 .rw 0 0x1312d00]⟩,
  ⟨0x150020, [(512, 64), (4, 4)], 0, .c, [.all 31 0 .rw]⟩,
  ⟨0x150030, [(512, 64)], 0, .c, [.all 31 0 .ro]⟩]

/-- The register table of 05_analogue_front_end.md. -/
def regsAnalogue : List RegSpec := regsAnalogue0 ++ regsAnalogue1

end Sys2Proof.Machine
end

