-- ==== Sys2Proof/Machine/RegsArch.lean ====
section
/-!
DEFINITION. The registers of 01_architecture.md: the offset of each (with its indices), its fields, and the row of its table:
offset, strides and counts, reset value, reset class, and each field's access type and stated range (R5, R6, R9).
-/

namespace Sys2Proof.Machine

/-- GL_ID, 01. -/
abbrev GL_ID : Nat := 0
@[inherit_doc GL_ID] def GL_ID_PART : Fld := ⟨GL_ID, 31, 16⟩
@[inherit_doc GL_ID] def GL_ID_STEP : Fld := ⟨GL_ID, 15, 8⟩
/-- GL_FW_VER, 01. -/
abbrev GL_FW_VER : Nat := 4
@[inherit_doc GL_FW_VER] def GL_FW_VER_MAJOR : Fld := ⟨GL_FW_VER, 31, 24⟩
@[inherit_doc GL_FW_VER] def GL_FW_VER_MINOR : Fld := ⟨GL_FW_VER, 23, 16⟩
@[inherit_doc GL_FW_VER] def GL_FW_VER_BUILD : Fld := ⟨GL_FW_VER, 15, 0⟩
/-- GL_SERIAL_LO, 01. -/
abbrev GL_SERIAL_LO : Nat := 8
/-- GL_SERIAL_HI, 01. -/
abbrev GL_SERIAL_HI : Nat := 0xc
/-- GL_CAPS0, 01. -/
abbrev GL_CAPS0 : Nat := 0x10
@[inherit_doc GL_CAPS0] def GL_CAPS0_LANES : Fld := ⟨GL_CAPS0, 24, 16⟩
@[inherit_doc GL_CAPS0] def GL_CAPS0_EXT_SLOTS : Fld := ⟨GL_CAPS0, 15, 0⟩
/-- GL_CAPS1, 01. -/
abbrev GL_CAPS1 : Nat := 0x14
@[inherit_doc GL_CAPS1] def GL_CAPS1_IW : Fld := ⟨GL_CAPS1, 28, 24⟩
@[inherit_doc GL_CAPS1] def GL_CAPS1_OW : Fld := ⟨GL_CAPS1, 23, 16⟩
@[inherit_doc GL_CAPS1] def GL_CAPS1_OS : Fld := ⟨GL_CAPS1, 15, 8⟩
@[inherit_doc GL_CAPS1] def GL_CAPS1_AIN : Fld := ⟨GL_CAPS1, 7, 0⟩
/-- GL_STATUS, 01. -/
abbrev GL_STATUS : Nat := 0x18
@[inherit_doc GL_STATUS] def GL_STATUS_LAST_RESET : Fld := ⟨GL_STATUS, 11, 8⟩
@[inherit_doc GL_STATUS] def GL_STATUS_TESTMODE_HIGH : Fld := ⟨GL_STATUS, 7, 7⟩
@[inherit_doc GL_STATUS] def GL_STATUS_SLOT : Fld := ⟨GL_STATUS, 4, 4⟩
@[inherit_doc GL_STATUS] def GL_STATUS_SERVICE : Fld := ⟨GL_STATUS, 1, 1⟩
@[inherit_doc GL_STATUS] def GL_STATUS_BOOT_DONE : Fld := ⟨GL_STATUS, 0, 0⟩
/-- GL_RESET, 01. -/
abbrev GL_RESET : Nat := 0x1c
@[inherit_doc GL_RESET] def GL_RESET_KEY : Fld := ⟨GL_RESET, 31, 16⟩
@[inherit_doc GL_RESET] def GL_RESET_WARM : Fld := ⟨GL_RESET, 0, 0⟩
/-- GL_SCRATCH, 01. -/
abbrev GL_SCRATCH : Nat := 0x20
/-- GL_UPTIME_LO, 01. -/
abbrev GL_UPTIME_LO : Nat := 0x24
/-- GL_UPTIME_HI, 01. -/
abbrev GL_UPTIME_HI : Nat := 0x28
/-- GL_TEMP, 01. -/
abbrev GL_TEMP : Nat := 0x2c
@[inherit_doc GL_TEMP] def GL_TEMP_MAX : Fld := ⟨GL_TEMP, 31, 16⟩
@[inherit_doc GL_TEMP] def GL_TEMP_NOW : Fld := ⟨GL_TEMP, 15, 0⟩

/-- Rows of the register tables of 01_architecture.md. -/
def regsArch : List RegSpec := [
  ⟨0, [], 0x81920200, .p, [.all 31 16 .ro, .all 15 8 .ro]⟩,
  ⟨4, [], 0, .c, [.all 31 24 .ro, .all 23 16 .ro, .all 15 0 .ro]⟩,
  ⟨8, [], 0, .p, [.all 31 0 .ro]⟩,
  ⟨0xc, [], 0, .p, [.all 31 0 .ro]⟩,
  ⟨0x10, [], 0x1002000, .p, [.all 24 16 .ro, .all 15 0 .ro]⟩,
  ⟨0x14, [], 0x10402040, .p, [.all 28 24 .ro, .all 23 16 .ro, .all 15 8 .ro, .all 7 0 .ro]⟩,
  ⟨0x18, [], 0, .c, [.all 11 8 .ro, .all 7 7 .ro, .all 4 4 .ro, .all 1 1 .ro, .all 0 0 .ro]⟩,
  ⟨0x1c, [], 0, .c, [.rng 31 16 .wo 0x5a17 0x5a17, .rng 0 0 .wo 1 1]⟩,
  ⟨0x20, [], 0, .c, [.all 31 0 .rw]⟩,
  ⟨0x24, [], 0, .c, [.all 31 0 .ro]⟩,
  ⟨0x28, [], 0, .c, [.all 31 0 .ro]⟩,
  ⟨0x2c, [], 0, .c, [.all 31 16 .ro, .all 15 0 .ro]⟩]

end Sys2Proof.Machine
end

