-- ==== Sys2Proof/Machine/RegsCapture.lean ====
section
/-!
DEFINITION. The registers of 10_capture_and_peat_log.md: the offset of each (with its indices), its fields, and the row of its table:
offset, strides and counts, reset value, reset class, and each field's access type and stated range (R5, R6, R9).
-/

namespace Sys2Proof.Machine

/-- CP_CFG[u], 10. -/
abbrev CP_CFG (u : Nat) : Nat := 0x370000 + 0x400 * u
@[inherit_doc CP_CFG] def CP_CFG_NST (u : Nat) : Fld := ⟨CP_CFG u, 17, 12⟩
@[inherit_doc CP_CFG] def CP_CFG_NCH (u : Nat) : Fld := ⟨CP_CFG u, 11, 8⟩
@[inherit_doc CP_CFG] def CP_CFG_HOLDOFF_MODE (u : Nat) : Fld := ⟨CP_CFG u, 4, 3⟩
@[inherit_doc CP_CFG] def CP_CFG_FULL_MODE (u : Nat) : Fld := ⟨CP_CFG u, 2, 2⟩
@[inherit_doc CP_CFG] def CP_CFG_AUTO_REARM (u : Nat) : Fld := ⟨CP_CFG u, 1, 1⟩
@[inherit_doc CP_CFG] def CP_CFG_EN (u : Nat) : Fld := ⟨CP_CFG u, 0, 0⟩
/-- CP_PRE[u], 10. -/
abbrev CP_PRE (u : Nat) : Nat := 0x370004 + 0x400 * u
@[inherit_doc CP_PRE] def CP_PRE_PRE (u : Nat) : Fld := ⟨CP_PRE u, 23, 0⟩
/-- CP_POST[u], 10. -/
abbrev CP_POST (u : Nat) : Nat := 0x370008 + 0x400 * u
@[inherit_doc CP_POST] def CP_POST_POST (u : Nat) : Fld := ⟨CP_POST u, 23, 0⟩
/-- CP_HOLDOFF[u], 10. -/
abbrev CP_HOLDOFF (u : Nat) : Nat := 0x37000c + 0x400 * u
@[inherit_doc CP_HOLDOFF] def CP_HOLDOFF_VALUE (u : Nat) : Fld := ⟨CP_HOLDOFF u, 23, 0⟩
/-- CP_POOL[u], 10. -/
abbrev CP_POOL (u : Nat) : Nat := 0x370010 + 0x400 * u
@[inherit_doc CP_POOL] def CP_POOL_SIZE (u : Nat) : Fld := ⟨CP_POOL u, 27, 16⟩
@[inherit_doc CP_POOL] def CP_POOL_BASE (u : Nat) : Fld := ⟨CP_POOL u, 10, 0⟩
/-- CP_CTRL[u], 10. -/
abbrev CP_CTRL (u : Nat) : Nat := 0x370014 + 0x400 * u
@[inherit_doc CP_CTRL] def CP_CTRL_RELEASE_ALL (u : Nat) : Fld := ⟨CP_CTRL u, 3, 3⟩
@[inherit_doc CP_CTRL] def CP_CTRL_TRIG (u : Nat) : Fld := ⟨CP_CTRL u, 2, 2⟩
@[inherit_doc CP_CTRL] def CP_CTRL_DISARM (u : Nat) : Fld := ⟨CP_CTRL u, 1, 1⟩
@[inherit_doc CP_CTRL] def CP_CTRL_ARM (u : Nat) : Fld := ⟨CP_CTRL u, 0, 0⟩
/-- CP_STATUS[u], 10. -/
abbrev CP_STATUS (u : Nat) : Nat := 0x370018 + 0x400 * u
@[inherit_doc CP_STATUS] def CP_STATUS_FREE (u : Nat) : Fld := ⟨CP_STATUS u, 31, 16⟩
@[inherit_doc CP_STATUS] def CP_STATUS_SAT (u : Nat) : Fld := ⟨CP_STATUS u, 12, 8⟩
@[inherit_doc CP_STATUS] def CP_STATUS_STATE (u : Nat) : Fld := ⟨CP_STATUS u, 2, 0⟩
/-- CP_INFO[u], 10. -/
abbrev CP_INFO (u : Nat) : Nat := 0x37001c + 0x400 * u
@[inherit_doc CP_INFO] def CP_INFO_ROW_BYTES (u : Nat) : Fld := ⟨CP_INFO u, 31, 16⟩
@[inherit_doc CP_INFO] def CP_INFO_SLOTS (u : Nat) : Fld := ⟨CP_INFO u, 15, 0⟩
/-- CP_RSEQ[u], 10. -/
abbrev CP_RSEQ (u : Nat) : Nat := 0x370020 + 0x400 * u
/-- CP_CH[u][c], 10. -/
abbrev CP_CH (u : Nat) (c : Nat) : Nat := 0x370040 + 0x400 * u + 4 * c
@[inherit_doc CP_CH] def CP_CH_KIND (u : Nat) (c : Nat) : Fld := ⟨CP_CH u c, 17, 16⟩
@[inherit_doc CP_CH] def CP_CH_Q (u : Nat) (c : Nat) : Fld := ⟨CP_CH u c, 10, 8⟩
@[inherit_doc CP_CH] def CP_CH_INDEX (u : Nat) (c : Nat) : Fld := ⟨CP_CH u c, 7, 0⟩
/-- CP_SCALE[u][c], 10. -/
abbrev CP_SCALE (u : Nat) (c : Nat) : Nat := 0x370080 + 0x400 * u + 4 * c
/-- CP_ST[u][h], 10. -/
abbrev CP_ST (u : Nat) (h : Nat) : Nat := 0x3700c0 + 0x400 * u + 4 * h
@[inherit_doc CP_ST] def CP_ST_BIT_ODD (u : Nat) (h : Nat) : Fld := ⟨CP_ST u h, 24, 16⟩
@[inherit_doc CP_ST] def CP_ST_BIT_EVEN (u : Nat) (h : Nat) : Fld := ⟨CP_ST u h, 8, 0⟩
/-- CP_PAT[u][i], 10. -/
abbrev CP_PAT (u : Nat) (i : Nat) : Nat := 0x370100 + 0x400 * u + 4 * i
/-- CP_CARE[u][i], 10. -/
abbrev CP_CARE (u : Nat) (i : Nat) : Nat := 0x370140 + 0x400 * u + 4 * i
/-- CP_EDGE[u][i], 10. -/
abbrev CP_EDGE (u : Nat) (i : Nat) : Nat := 0x370180 + 0x400 * u + 4 * i
/-- CP_CNT[u][i], 10. -/
abbrev CP_CNT (u : Nat) (i : Nat) : Nat := 0x3701c0 + 0x400 * u + 4 * i
/-- CP_G_LOAD, 10. -/
abbrev CP_G_LOAD : Nat := 0x378000
@[inherit_doc CP_G_LOAD] def CP_G_LOAD_LOAD : Fld := ⟨CP_G_LOAD, 25, 0⟩
/-- CP_SOFT, 10. -/
abbrev CP_SOFT : Nat := 0x378004
@[inherit_doc CP_SOFT] def CP_SOFT_BITS : Fld := ⟨CP_SOFT, 7, 0⟩
/-- CP_LANE_SEL[g], 10. -/
abbrev CP_LANE_SEL (g : Nat) : Nat := 0x378040 + 4 * g
@[inherit_doc CP_LANE_SEL] def CP_LANE_SEL_EN (g : Nat) : Fld := ⟨CP_LANE_SEL g, 8, 8⟩
@[inherit_doc CP_LANE_SEL] def CP_LANE_SEL_LANE (g : Nat) : Fld := ⟨CP_LANE_SEL g, 7, 0⟩
/-- CP_LEVEL_CFG[i], 10. -/
abbrev CP_LEVEL_CFG (i : Nat) : Nat := 0x378100 + 0x10 * i
@[inherit_doc CP_LEVEL_CFG] def CP_LEVEL_CFG_ABS (i : Nat) : Fld := ⟨CP_LEVEL_CFG i, 9, 9⟩
@[inherit_doc CP_LEVEL_CFG] def CP_LEVEL_CFG_EN (i : Nat) : Fld := ⟨CP_LEVEL_CFG i, 8, 8⟩
@[inherit_doc CP_LEVEL_CFG] def CP_LEVEL_CFG_CHAIN (i : Nat) : Fld := ⟨CP_LEVEL_CFG i, 5, 0⟩
/-- CP_LEVEL_HI[i], 10. -/
abbrev CP_LEVEL_HI (i : Nat) : Nat := 0x378104 + 0x10 * i
@[inherit_doc CP_LEVEL_HI] def CP_LEVEL_HI_LEVEL (i : Nat) : Fld := ⟨CP_LEVEL_HI i, 23, 0⟩
/-- CP_LEVEL_LO[i], 10. -/
abbrev CP_LEVEL_LO (i : Nat) : Nat := 0x378108 + 0x10 * i
@[inherit_doc CP_LEVEL_LO] def CP_LEVEL_LO_LEVEL (i : Nat) : Fld := ⟨CP_LEVEL_LO i, 23, 0⟩
/-- CP_VEC[i], 10. -/
abbrev CP_VEC (i : Nat) : Nat := 0x378200 + 4 * i
/-- PL_CFG, 10. -/
abbrev PL_CFG : Nat := 0x380000
@[inherit_doc PL_CFG] def PL_CFG_FOLD_MS : Fld := ⟨PL_CFG, 31, 16⟩
@[inherit_doc PL_CFG] def PL_CFG_INT_SEV : Fld := ⟨PL_CFG, 6, 4⟩
@[inherit_doc PL_CFG] def PL_CFG_MIN_SEV : Fld := ⟨PL_CFG, 2, 0⟩
/-- PL_STATUS, 10. -/
abbrev PL_STATUS : Nat := 0x380004
@[inherit_doc PL_STATUS] def PL_STATUS_FULL : Fld := ⟨PL_STATUS, 31, 31⟩
@[inherit_doc PL_STATUS] def PL_STATUS_USED : Fld := ⟨PL_STATUS, 20, 0⟩
/-- PL_NEWEST_LO, 10. -/
abbrev PL_NEWEST_LO : Nat := 0x380008
/-- PL_NEWEST_HI, 10. -/
abbrev PL_NEWEST_HI : Nat := 0x38000c
/-- PL_OLDEST_LO, 10. -/
abbrev PL_OLDEST_LO : Nat := 0x380010
/-- PL_OLDEST_HI, 10. -/
abbrev PL_OLDEST_HI : Nat := 0x380014
/-- PL_TAIL_SEQ, 10. -/
abbrev PL_TAIL_SEQ : Nat := 0x380018
/-- PL_OPEN, 10. -/
abbrev PL_OPEN : Nat := 0x38001c
@[inherit_doc PL_OPEN] def PL_OPEN_WINDOWS : Fld := ⟨PL_OPEN, 10, 0⟩
/-- PL_DROP[s], 10. -/
abbrev PL_DROP (s : Nat) : Nat := 0x380040 + 4 * s
/-- PL_FOLD_EVICT, 10. -/
abbrev PL_FOLD_EVICT : Nat := 0x380060
/-- PL_FILTERED, 10. -/
abbrev PL_FILTERED : Nat := 0x380064
/-- PL_SAT, 10. -/
abbrev PL_SAT : Nat := 0x380068
@[inherit_doc PL_SAT] def PL_SAT_SAT_FILTERED : Fld := ⟨PL_SAT, 9, 9⟩
@[inherit_doc PL_SAT] def PL_SAT_SAT_EVICT : Fld := ⟨PL_SAT, 8, 8⟩
@[inherit_doc PL_SAT] def PL_SAT_SAT_DROP : Fld := ⟨PL_SAT, 7, 0⟩

/-- Rows of the register tables of 10_capture_and_peat_log.md. -/
def regsCapture0 : List RegSpec := [
  ⟨0x370000, [(1024, 16)], 0, .c, [.rng 17 12 .rw 0 0x20, .all 11 8 .rw, .rng 4 3 .rw 0 2, .all 2 2 .rw, .all 1 1 .rw, .all 0 0 .rw]⟩,
  ⟨0x370004, [(1024, 16)], 0, .c, [.rng 23 0 .rw 0 0x800000]⟩,
  ⟨0x370008, [(1024, 16)], 0x400, .c, [.rng 23 0 .rw 1 0x800000]⟩,
  ⟨0x37000c, [(1024, 16)], 0, .c, [.all 23 0 .rw]⟩,
  ⟨0x370010, [(1024, 16)], 0, .c, [.rng 27 16 .rw 0 0x800, .all 10 0 .rw]⟩,
  ⟨0x370014, [(1024, 16)], 0, .c, [.all 3 3 .wo, .all 2 2 .wo, .all 1 1 .wo, .all 0 0 .wo]⟩,
  ⟨0x370018, [(1024, 16)], 0, .c, [.all 31 16 .ro, .all 12 8 .ro, .all 2 0 .ro]⟩,
  ⟨0x37001c, [(1024, 16)], 0, .c, [.all 31 16 .ro, .all 15 0 .ro]⟩,
  ⟨0x370020, [(1024, 16)], 0, .c, [.all 31 0 .ro]⟩,
  ⟨0x370040, [(1024, 16), (4, 16)], 0, .c, [.rng 17 16 .rw 0 2, .all 10 8 .rw, .all 7 0 .rw]⟩,
  ⟨0x370080, [(1024, 16), (4, 16)], 0x35200000, .c, [.rng 31 0 .rw 1 0x7f7fffff]⟩,
  ⟨0x3700c0, [(1024, 16), (4, 16)], 0, .c, [.all 24 16 .rw, .all 8 0 .rw]⟩,
  ⟨0x370100, [(1024, 16), (4, 16)], 0, .c, [.all 31 0 .rw]⟩,
  ⟨0x370140, [(1024, 16), (4, 16)], 0, .c, [.all 31 0 .rw]⟩,
  ⟨0x370180, [(1024, 16), (4, 16)], 0, .c, [.all 31 0 .rw]⟩,
  ⟨0x3701c0, [(1024, 16), (4, 5)], 0, .c, [.all 31 0 .rw]⟩,
  ⟨0x378000, [], 0, .c, [.all 25 0 .ro]⟩,
  ⟨0x378004, [], 0, .c, [.all 7 0 .rw]⟩,
  ⟨0x378040, [(4, 16)], 0, .c, [.all 8 8 .rw, .all 7 0 .rw]⟩,
  ⟨0x378100, [(16, 16)], 0, .c, [.all 9 9 .rw, .all 8 8 .rw, .all 5 0 .rw]⟩]

/-- Rows of the register tables of 10_capture_and_peat_log.md. -/
def regsCapture1 : List RegSpec := [
  ⟨0x378104, [(16, 16)], 0, .c, [.all 23 0 .rw]⟩,
  ⟨0x378108, [(16, 16)], 0, .c, [.all 23 0 .rw]⟩,
  ⟨0x378200, [(4, 3)], 0, .c, [.all 31 0 .ro]⟩,
  ⟨0x380000, [], 0x640051, .c, [.rng 31 16 .rw 0xa 0x2710, .all 6 4 .rw, .rng 2 0 .rw 0 6]⟩,
  ⟨0x380004, [], 0, .c, [.all 31 31 .ro, .all 20 0 .ro]⟩,
  ⟨0x380008, [], 0, .c, [.all 31 0 .ro]⟩,
  ⟨0x38000c, [], 0, .c, [.all 31 0 .ro]⟩,
  ⟨0x380010, [], 0, .c, [.all 31 0 .ro]⟩,
  ⟨0x380014, [], 0, .c, [.all 31 0 .ro]⟩,
  ⟨0x380018, [], 0, .c, [.all 31 0 .ro]⟩,
  ⟨0x38001c, [], 0, .c, [.all 10 0 .ro]⟩,
  ⟨0x380040, [(4, 8)], 0, .c, [.all 31 0 .rw]⟩,
  ⟨0x380060, [], 0, .c, [.all 31 0 .rw]⟩,
  ⟨0x380064, [], 0, .c, [.all 31 0 .rw]⟩,
  ⟨0x380068, [], 0, .c, [.all 9 9 .ro, .all 8 8 .ro, .all 7 0 .ro]⟩]

/-- The register table of 10_capture_and_peat_log.md. -/
def regsCapture : List RegSpec := regsCapture0 ++ regsCapture1

end Sys2Proof.Machine
end

