-- ==== Sys2Proof/Machine/RegsDetect.lean ====
section
/-!
DEFINITION. The registers of 08_oscillation_and_islanding.md: the offset of each (with its indices), its fields, and the row of its table:
offset, strides and counts, reset value, reset class, and each field's access type and stated range (R5, R6, R9).
-/

namespace Sys2Proof.Machine

/-- OW_CFG[w], 08. -/
abbrev OW_CFG (w : Nat) : Nat := 0x300000 + 0x100 * w
@[inherit_doc OW_CFG] def OW_CFG_REF_SIG (w : Nat) : Fld := ⟨OW_CFG w, 24, 16⟩
@[inherit_doc OW_CFG] def OW_CFG_NMODE (w : Nat) : Fld := ⟨OW_CFG w, 9, 8⟩
@[inherit_doc OW_CFG] def OW_CFG_BAND (w : Nat) : Fld := ⟨OW_CFG w, 6, 4⟩
@[inherit_doc OW_CFG] def OW_CFG_RATE (w : Nat) : Fld := ⟨OW_CFG w, 3, 1⟩
@[inherit_doc OW_CFG] def OW_CFG_EN (w : Nat) : Fld := ⟨OW_CFG w, 0, 0⟩
/-- OW_BAND[w], 08. -/
abbrev OW_BAND (w : Nat) : Nat := 0x300004 + 0x100 * w
@[inherit_doc OW_BAND] def OW_BAND_HI (w : Nat) : Fld := ⟨OW_BAND w, 31, 16⟩
@[inherit_doc OW_BAND] def OW_BAND_LO (w : Nat) : Fld := ⟨OW_BAND w, 15, 0⟩
/-- OW_ENERGY[w], 08. -/
abbrev OW_ENERGY (w : Nat) : Nat := 0x300008 + 0x100 * w
@[inherit_doc OW_ENERGY] def OW_ENERGY_MIN_ALARM (w : Nat) : Fld := ⟨OW_ENERGY w, 31, 24⟩
@[inherit_doc OW_ENERGY] def OW_ENERGY_HOLD (w : Nat) : Fld := ⟨OW_ENERGY w, 23, 16⟩
@[inherit_doc OW_ENERGY] def OW_ENERGY_ENERGY_WIN (w : Nat) : Fld := ⟨OW_ENERGY w, 15, 0⟩
/-- OW_MODAL[w], 08. -/
abbrev OW_MODAL (w : Nat) : Nat := 0x30000c + 0x100 * w
@[inherit_doc OW_MODAL] def OW_MODAL_GAP_MAX (w : Nat) : Fld := ⟨OW_MODAL w, 27, 20⟩
@[inherit_doc OW_MODAL] def OW_MODAL_DAMP_COUNT (w : Nat) : Fld := ⟨OW_MODAL w, 19, 16⟩
@[inherit_doc OW_MODAL] def OW_MODAL_UPDATE (w : Nat) : Fld := ⟨OW_MODAL w, 14, 9⟩
@[inherit_doc OW_MODAL] def OW_MODAL_WIN (w : Nat) : Fld := ⟨OW_MODAL w, 8, 0⟩
/-- OW_DAMP[w], 08. -/
abbrev OW_DAMP (w : Nat) : Nat := 0x300010 + 0x100 * w
@[inherit_doc OW_DAMP] def OW_DAMP_MIN_SIG (w : Nat) : Fld := ⟨OW_DAMP w, 31, 24⟩
@[inherit_doc OW_DAMP] def OW_DAMP_SIG_FRAC (w : Nat) : Fld := ⟨OW_DAMP w, 23, 16⟩
@[inherit_doc OW_DAMP] def OW_DAMP_DAMP_THR (w : Nat) : Fld := ⟨OW_DAMP w, 15, 0⟩
/-- OW_STATUS[w], 08. -/
abbrev OW_STATUS (w : Nat) : Nat := 0x300020 + 0x100 * w
@[inherit_doc OW_STATUS] def OW_STATUS_NSIG (w : Nat) : Fld := ⟨OW_STATUS w, 25, 16⟩
@[inherit_doc OW_STATUS] def OW_STATUS_SAT (w : Nat) : Fld := ⟨OW_STATUS w, 15, 8⟩
@[inherit_doc OW_STATUS] def OW_STATUS_STATE (w : Nat) : Fld := ⟨OW_STATUS w, 5, 4⟩
@[inherit_doc OW_STATUS] def OW_STATUS_COND (w : Nat) : Fld := ⟨OW_STATUS w, 3, 0⟩
/-- OW_VALID[w], 08. -/
abbrev OW_VALID (w : Nat) : Nat := 0x300024 + 0x100 * w
@[inherit_doc OW_VALID] def OW_VALID_NEXCEED (w : Nat) : Fld := ⟨OW_VALID w, 25, 16⟩
@[inherit_doc OW_VALID] def OW_VALID_NVALID (w : Nat) : Fld := ⟨OW_VALID w, 9, 0⟩
/-- OW_RES_GEN[w], 08. -/
abbrev OW_RES_GEN (w : Nat) : Nat := 0x300028 + 0x100 * w
/-- OW_CNT[w][i], 08. -/
abbrev OW_CNT (w : Nat) (i : Nat) : Nat := 0x300040 + 0x100 * w + 4 * i
/-- IW_CFG[k], 08. -/
abbrev IW_CFG (k : Nat) : Nat := 0x310000 + 0x200 * k
@[inherit_doc IW_CFG] def IW_CFG_REF_Q (k : Nat) : Fld := ⟨IW_CFG k, 25, 22⟩
@[inherit_doc IW_CFG] def IW_CFG_MIN_REF (k : Nat) : Fld := ⟨IW_CFG k, 21, 17⟩
@[inherit_doc IW_CFG] def IW_CFG_LOCAL_PH (k : Nat) : Fld := ⟨IW_CFG k, 16, 14⟩
@[inherit_doc IW_CFG] def IW_CFG_LOCAL_FN (k : Nat) : Fld := ⟨IW_CFG k, 13, 10⟩
@[inherit_doc IW_CFG] def IW_CFG_CRIT_EN (k : Nat) : Fld := ⟨IW_CFG k, 9, 5⟩
@[inherit_doc IW_CFG] def IW_CFG_LATCH (k : Nat) : Fld := ⟨IW_CFG k, 4, 4⟩
@[inherit_doc IW_CFG] def IW_CFG_RATE (k : Nat) : Fld := ⟨IW_CFG k, 3, 1⟩
@[inherit_doc IW_CFG] def IW_CFG_EN (k : Nat) : Fld := ⟨IW_CFG k, 0, 0⟩
/-- IW_WA_THR[k], 08. -/
abbrev IW_WA_THR (k : Nat) : Nat := 0x310004 + 0x200 * k
@[inherit_doc IW_WA_THR] def IW_WA_THR_FREQ_THR (k : Nat) : Fld := ⟨IW_WA_THR k, 31, 16⟩
@[inherit_doc IW_WA_THR] def IW_WA_THR_ANG_THR (k : Nat) : Fld := ⟨IW_WA_THR k, 15, 0⟩
/-- IW_WA_THR2[k], 08. -/
abbrev IW_WA_THR2 (k : Nat) : Nat := 0x310008 + 0x200 * k
@[inherit_doc IW_WA_THR2] def IW_WA_THR2_OUTLIER (k : Nat) : Fld := ⟨IW_WA_THR2 k, 31, 16⟩
@[inherit_doc IW_WA_THR2] def IW_WA_THR2_ROCOF_THR (k : Nat) : Fld := ⟨IW_WA_THR2 k, 15, 0⟩
/-- IW_WA_CNT[k], 08. -/
abbrev IW_WA_CNT (k : Nat) : Nat := 0x31000c + 0x200 * k
@[inherit_doc IW_WA_CNT] def IW_WA_CNT_CLEAR_COUNT (k : Nat) : Fld := ⟨IW_WA_CNT k, 31, 24⟩
@[inherit_doc IW_WA_CNT] def IW_WA_CNT_R_COUNT (k : Nat) : Fld := ⟨IW_WA_CNT k, 23, 16⟩
@[inherit_doc IW_WA_CNT] def IW_WA_CNT_F_COUNT (k : Nat) : Fld := ⟨IW_WA_CNT k, 15, 8⟩
@[inherit_doc IW_WA_CNT] def IW_WA_CNT_A_COUNT (k : Nat) : Fld := ⟨IW_WA_CNT k, 7, 0⟩
/-- IW_WA_TIME[k], 08. -/
abbrev IW_WA_TIME (k : Nat) : Nat := 0x310010 + 0x200 * k
@[inherit_doc IW_WA_TIME] def IW_WA_TIME_LEARN (k : Nat) : Fld := ⟨IW_WA_TIME k, 23, 16⟩
@[inherit_doc IW_WA_TIME] def IW_WA_TIME_BASE_TC (k : Nat) : Fld := ⟨IW_WA_TIME k, 15, 0⟩
/-- IW_WA_TIME2[k], 08. -/
abbrev IW_WA_TIME2 (k : Nat) : Nat := 0x310014 + 0x200 * k
@[inherit_doc IW_WA_TIME2] def IW_WA_TIME2_REENTRY (k : Nat) : Fld := ⟨IW_WA_TIME2 k, 15, 8⟩
@[inherit_doc IW_WA_TIME2] def IW_WA_TIME2_FB_COUNT (k : Nat) : Fld := ⟨IW_WA_TIME2 k, 7, 0⟩
/-- IW_LOC_CFG[k], 08. -/
abbrev IW_LOC_CFG (k : Nat) : Nat := 0x310018 + 0x200 * k
@[inherit_doc IW_LOC_CFG] def IW_LOC_CFG_ROCOF_COUNT (k : Nat) : Fld := ⟨IW_LOC_CFG k, 27, 24⟩
@[inherit_doc IW_LOC_CFG] def IW_LOC_CFG_ROCOF_N (k : Nat) : Fld := ⟨IW_LOC_CFG k, 21, 16⟩
@[inherit_doc IW_LOC_CFG] def IW_LOC_CFG_VS_CONFIRM (k : Nat) : Fld := ⟨IW_LOC_CFG k, 11, 11⟩
@[inherit_doc IW_LOC_CFG] def IW_LOC_CFG_VOTE (k : Nat) : Fld := ⟨IW_LOC_CFG k, 10, 8⟩
@[inherit_doc IW_LOC_CFG] def IW_LOC_CFG_PH_MASK (k : Nat) : Fld := ⟨IW_LOC_CFG k, 7, 0⟩
/-- IW_LOC_THR[k], 08. -/
abbrev IW_LOC_THR (k : Nat) : Nat := 0x31001c + 0x200 * k
@[inherit_doc IW_LOC_THR] def IW_LOC_THR_ROCOF_THR (k : Nat) : Fld := ⟨IW_LOC_THR k, 31, 16⟩
@[inherit_doc IW_LOC_THR] def IW_LOC_THR_VS_THR (k : Nat) : Fld := ⟨IW_LOC_THR k, 15, 0⟩
/-- IW_LOC_FB[k], 08. -/
abbrev IW_LOC_FB (k : Nat) : Nat := 0x310020 + 0x200 * k
@[inherit_doc IW_LOC_FB] def IW_LOC_FB_ROCOF_THR (k : Nat) : Fld := ⟨IW_LOC_FB k, 31, 16⟩
@[inherit_doc IW_LOC_FB] def IW_LOC_FB_VS_THR (k : Nat) : Fld := ⟨IW_LOC_FB k, 15, 0⟩
/-- IW_LOC_HOLD[k], 08. -/
abbrev IW_LOC_HOLD (k : Nat) : Nat := 0x310024 + 0x200 * k
@[inherit_doc IW_LOC_HOLD] def IW_LOC_HOLD_VS_HOLD (k : Nat) : Fld := ⟨IW_LOC_HOLD k, 15, 0⟩
/-- IW_CTRL[k], 08. -/
abbrev IW_CTRL (k : Nat) : Nat := 0x310028 + 0x200 * k
@[inherit_doc IW_CTRL] def IW_CTRL_CLEAR (k : Nat) : Fld := ⟨IW_CTRL k, 0, 0⟩
/-- IW_STATUS[k], 08. -/
abbrev IW_STATUS (k : Nat) : Nat := 0x310040 + 0x200 * k
@[inherit_doc IW_STATUS] def IW_STATUS_SAT (k : Nat) : Fld := ⟨IW_STATUS k, 31, 24⟩
@[inherit_doc IW_STATUS] def IW_STATUS_NVALID (k : Nat) : Fld := ⟨IW_STATUS k, 20, 16⟩
@[inherit_doc IW_STATUS] def IW_STATUS_BASE_VALID (k : Nat) : Fld := ⟨IW_STATUS k, 12, 12⟩
@[inherit_doc IW_STATUS] def IW_STATUS_LATCHED (k : Nat) : Fld := ⟨IW_STATUS k, 11, 11⟩
@[inherit_doc IW_STATUS] def IW_STATUS_STATE (k : Nat) : Fld := ⟨IW_STATUS k, 10, 8⟩
@[inherit_doc IW_STATUS] def IW_STATUS_COND (k : Nat) : Fld := ⟨IW_STATUS k, 7, 0⟩
/-- IW_DIV[k], 08. -/
abbrev IW_DIV (k : Nat) : Nat := 0x310044 + 0x200 * k
@[inherit_doc IW_DIV] def IW_DIV_DF (k : Nat) : Fld := ⟨IW_DIV k, 31, 16⟩
@[inherit_doc IW_DIV] def IW_DIV_D (k : Nat) : Fld := ⟨IW_DIV k, 15, 0⟩
/-- IW_BASE[k], 08. -/
abbrev IW_BASE (k : Nat) : Nat := 0x310048 + 0x200 * k
/-- IW_CNT[k][i], 08. -/
abbrev IW_CNT (k : Nat) (i : Nat) : Nat := 0x310060 + 0x200 * k + 4 * i
/-- IW_REF[k][j], 08. -/
abbrev IW_REF (k : Nat) (j : Nat) : Nat := 0x310100 + 0x200 * k + 8 * j
@[inherit_doc IW_REF] def IW_REF_PH (k : Nat) (j : Nat) : Fld := ⟨IW_REF k j, 18, 16⟩
@[inherit_doc IW_REF] def IW_REF_EN (k : Nat) (j : Nat) : Fld := ⟨IW_REF k j, 15, 15⟩
@[inherit_doc IW_REF] def IW_REF_SLOT (k : Nat) (j : Nat) : Fld := ⟨IW_REF k j, 13, 0⟩
/-- IW_REF_OFS[k][j], 08. -/
abbrev IW_REF_OFS (k : Nat) (j : Nat) : Nat := 0x310104 + 0x200 * k + 8 * j
@[inherit_doc IW_REF_OFS] def IW_REF_OFS_OFS (k : Nat) (j : Nat) : Fld := ⟨IW_REF_OFS k j, 15, 0⟩
/-- AL_STATUS, 08. -/
abbrev AL_STATUS : Nat := 0x320000
@[inherit_doc AL_STATUS] def AL_STATUS_DRIVE : Fld := ⟨AL_STATUS, 8, 8⟩
@[inherit_doc AL_STATUS] def AL_STATUS_PINS : Fld := ⟨AL_STATUS, 7, 0⟩
/-- AL_RULE_CFG[r], 08. -/
abbrev AL_RULE_CFG (r : Nat) : Nat := 0x320100 + 0x20 * r
@[inherit_doc AL_RULE_CFG] def AL_RULE_CFG_LINE_MASK (r : Nat) : Fld := ⟨AL_RULE_CFG r, 31, 24⟩
@[inherit_doc AL_RULE_CFG] def AL_RULE_CFG_PIN_MASK (r : Nat) : Fld := ⟨AL_RULE_CFG r, 23, 16⟩
@[inherit_doc AL_RULE_CFG] def AL_RULE_CFG_DLV_RING (r : Nat) : Fld := ⟨AL_RULE_CFG r, 13, 11⟩
@[inherit_doc AL_RULE_CFG] def AL_RULE_CFG_DLV_EN (r : Nat) : Fld := ⟨AL_RULE_CFG r, 10, 10⟩
@[inherit_doc AL_RULE_CFG] def AL_RULE_CFG_INT (r : Nat) : Fld := ⟨AL_RULE_CFG r, 9, 9⟩
@[inherit_doc AL_RULE_CFG] def AL_RULE_CFG_SEVERITY (r : Nat) : Fld := ⟨AL_RULE_CFG r, 8, 6⟩
@[inherit_doc AL_RULE_CFG] def AL_RULE_CFG_LATCH (r : Nat) : Fld := ⟨AL_RULE_CFG r, 5, 5⟩
@[inherit_doc AL_RULE_CFG] def AL_RULE_CFG_COUNT (r : Nat) : Fld := ⟨AL_RULE_CFG r, 4, 1⟩
@[inherit_doc AL_RULE_CFG] def AL_RULE_CFG_EN (r : Nat) : Fld := ⟨AL_RULE_CFG r, 0, 0⟩
/-- AL_RULE_MINON[r], 08. -/
abbrev AL_RULE_MINON (r : Nat) : Nat := 0x320104 + 0x20 * r
@[inherit_doc AL_RULE_MINON] def AL_RULE_MINON_MIN_ON (r : Nat) : Fld := ⟨AL_RULE_MINON r, 15, 0⟩
/-- AL_RULE_SRC[r][h], 08. -/
abbrev AL_RULE_SRC (r : Nat) (h : Nat) : Nat := 0x320108 + 0x20 * r + 4 * h
@[inherit_doc AL_RULE_SRC] def AL_RULE_SRC_SEN0 (r : Nat) (h : Nat) : Fld := ⟨AL_RULE_SRC r h, 15, 15⟩
@[inherit_doc AL_RULE_SRC] def AL_RULE_SRC_INV0 (r : Nat) (h : Nat) : Fld := ⟨AL_RULE_SRC r h, 14, 14⟩
@[inherit_doc AL_RULE_SRC] def AL_RULE_SRC_BIT0 (r : Nat) (h : Nat) : Fld := ⟨AL_RULE_SRC r h, 8, 0⟩
@[inherit_doc AL_RULE_SRC] def AL_RULE_SRC_SEN1 (r : Nat) (h : Nat) : Fld := ⟨AL_RULE_SRC r h, 31, 31⟩
@[inherit_doc AL_RULE_SRC] def AL_RULE_SRC_INV1 (r : Nat) (h : Nat) : Fld := ⟨AL_RULE_SRC r h, 30, 30⟩
@[inherit_doc AL_RULE_SRC] def AL_RULE_SRC_BIT1 (r : Nat) (h : Nat) : Fld := ⟨AL_RULE_SRC r h, 24, 16⟩
/-- AL_RULE_CTRL[r], 08. -/
abbrev AL_RULE_CTRL (r : Nat) : Nat := 0x320118 + 0x20 * r
@[inherit_doc AL_RULE_CTRL] def AL_RULE_CTRL_CLEAR (r : Nat) : Fld := ⟨AL_RULE_CTRL r, 0, 0⟩
/-- AL_RULE_STAT[r], 08. -/
abbrev AL_RULE_STAT (r : Nat) : Nat := 0x32011c + 0x20 * r
@[inherit_doc AL_RULE_STAT] def AL_RULE_STAT_TRUE_COUNT (r : Nat) : Fld := ⟨AL_RULE_STAT r, 11, 8⟩
@[inherit_doc AL_RULE_STAT] def AL_RULE_STAT_LATCHED (r : Nat) : Fld := ⟨AL_RULE_STAT r, 1, 1⟩
@[inherit_doc AL_RULE_STAT] def AL_RULE_STAT_ON (r : Nat) : Fld := ⟨AL_RULE_STAT r, 0, 0⟩
/-- AL_PIN_CFG[p], 08. -/
abbrev AL_PIN_CFG (p : Nat) : Nat := 0x320800 + 0x10 * p
@[inherit_doc AL_PIN_CFG] def AL_PIN_CFG_FORCE_LVL (p : Nat) : Fld := ⟨AL_PIN_CFG p, 4, 4⟩
@[inherit_doc AL_PIN_CFG] def AL_PIN_CFG_FORCE_EN (p : Nat) : Fld := ⟨AL_PIN_CFG p, 3, 3⟩
@[inherit_doc AL_PIN_CFG] def AL_PIN_CFG_RESET_LVL (p : Nat) : Fld := ⟨AL_PIN_CFG p, 2, 1⟩
@[inherit_doc AL_PIN_CFG] def AL_PIN_CFG_POL (p : Nat) : Fld := ⟨AL_PIN_CFG p, 0, 0⟩
/-- AL_PIN_TS_NS[p], 08. -/
abbrev AL_PIN_TS_NS (p : Nat) : Nat := 0x320804 + 0x10 * p
@[inherit_doc AL_PIN_TS_NS] def AL_PIN_TS_NS_NS (p : Nat) : Fld := ⟨AL_PIN_TS_NS p, 29, 0⟩
/-- AL_PIN_TS_SEC_LO[p], 08. -/
abbrev AL_PIN_TS_SEC_LO (p : Nat) : Nat := 0x320808 + 0x10 * p
/-- AL_PIN_TS_SEC_HI[p], 08. -/
abbrev AL_PIN_TS_SEC_HI (p : Nat) : Nat := 0x32080c + 0x10 * p
@[inherit_doc AL_PIN_TS_SEC_HI] def AL_PIN_TS_SEC_HI_SEC_HI (p : Nat) : Fld := ⟨AL_PIN_TS_SEC_HI p, 15, 0⟩
/-- AL_CNT[i], 08. -/
abbrev AL_CNT (i : Nat) : Nat := 0x320f00 + 4 * i
/-- AL_SAT, 08. -/
abbrev AL_SAT : Nat := 0x320f10
@[inherit_doc AL_SAT] def AL_SAT_SAT : Fld := ⟨AL_SAT, 2, 0⟩
/-- DE_LOAD, 08. -/
abbrev DE_LOAD : Nat := 0x330000
@[inherit_doc DE_LOAD] def DE_LOAD_LOAD : Fld := ⟨DE_LOAD, 23, 0⟩
/-- DE_RES_BASE_LO, 08. -/
abbrev DE_RES_BASE_LO : Nat := 0x330004
@[inherit_doc DE_RES_BASE_LO] def DE_RES_BASE_LO_BASE_LO : Fld := ⟨DE_RES_BASE_LO, 31, 21⟩
/-- DE_RES_BASE_HI, 08. -/
abbrev DE_RES_BASE_HI : Nat := 0x330008
@[inherit_doc DE_RES_BASE_HI] def DE_RES_BASE_HI_BASE_HI : Fld := ⟨DE_RES_BASE_HI, 15, 0⟩
/-- DE_COND[i], 08. -/
abbrev DE_COND (i : Nat) : Nat := 0x330010 + 4 * i

/-- Rows of the register tables of 08_oscillation_and_islanding.md. -/
def regsDetect0 : List RegSpec := [
  ⟨0x300000, [(256, 64)], 0x100, .c, [.all 24 16 .rw, .all 9 8 .rw, .rng 6 4 .rw 0 5, .rng 3 1 .rw 0 4, .all 0 0 .rw]⟩,
  ⟨0x300004, [(256, 64)], 0x64000a, .c, [.all 31 16 .rw, .rng 15 0 .rw 1 0xffff]⟩,
  ⟨0x300008, [(256, 64)], 0x10a0064, .c, [.rng 31 24 .rw 1 0xff, .rng 23 16 .rw 1 0xff, .rng 15 0 .rw 1 0x258]⟩,
  ⟨0x30000c, [(256, 64)], 0x530a3c, .c, [.all 27 20 .rw, .rng 19 16 .rw 1 0xf, .rng 14 9 .rw 1 0x3c, .rng 8 0 .rw 5 0x12c]⟩,
  ⟨0x300010, [(256, 64)], 0x132012c, .c, [.rng 31 24 .rw 1 0xff, .rng 23 16 .rw 1 0x64, .rng 15 0 .rw 0 0x2710]⟩,
  ⟨0x300020, [(256, 64)], 0, .c, [.all 25 16 .ro, .all 15 8 .ro, .all 5 4 .ro, .all 3 0 .ro]⟩,
  ⟨0x300024, [(256, 64)], 0, .c, [.all 25 16 .ro, .all 9 0 .ro]⟩,
  ⟨0x300028, [(256, 64)], 0, .c, [.all 31 0 .ro]⟩,
  ⟨0x300040, [(256, 64), (4, 8)], 0, .c, [.all 31 0 .rw]⟩,
  ⟨0x310000, [(512, 16)], 0x8603e4, .c, [.all 25 22 .rw, .rng 21 17 .rw 1 0x10, .all 16 14 .rw, .all 13 10 .rw, .all 9 5 .rw, .all 4 4 .rw, .rng 3 1 .rw 0 4, .all 0 0 .rw]⟩,
  ⟨0x310004, [(512, 16)], 0xc8015d, .c, [.rng 31 16 .rw 0xa 0x1388, .rng 15 0 .rw 0xa 0xc46]⟩,
  ⟨0x310008, [(512, 16)], 0x20c01f4, .c, [.rng 31 16 .rw 0xa 0xc46, .rng 15 0 .rw 0x32 0x4e20]⟩,
  ⟨0x31000c, [(512, 16)], 0x19050501, .c, [.rng 31 24 .rw 1 0xff, .rng 23 16 .rw 1 0xff, .rng 15 8 .rw 1 0xff, .rng 7 0 .rw 1 0xff]⟩,
  ⟨0x310010, [(512, 16)], 0x5003c, .c, [.rng 23 16 .rw 1 0x3c, .rng 15 0 .rw 1 0xe10]⟩,
  ⟨0x310014, [(512, 16)], 0x3203, .c, [.rng 15 8 .rw 1 0xff, .rng 7 0 .rw 1 0xff]⟩,
  ⟨0x310018, [(512, 16)], 0x30a0907, .c, [.rng 27 24 .rw 1 0xf, .rng 21 16 .rw 2 0x32, .all 11 11 .rw, .all 10 8 .rw, .all 7 0 .rw]⟩,
  ⟨0x31001c, [(512, 16)], 0x3e8008c, .c, [.rng 31 16 .rw 0x64 0x4e20, .rng 15 0 .rw 0x11 0x623]⟩,
  ⟨0x310020, [(512, 16)], 0x2bc0069, .c, [.rng 31 16 .rw 0x64 0x4e20, .rng 15 0 .rw 0x11 0x623]⟩,
  ⟨0x310024, [(512, 16)], 0x1f4, .c, [.rng 15 0 .rw 0xa 0x2710]⟩,
  ⟨0x310028, [(512, 16)], 0, .c, [.all 0 0 .wo]⟩]

/-- Rows of the register tables of 08_oscillation_and_islanding.md. -/
def regsDetect1 : List RegSpec := [
  ⟨0x310040, [(512, 16)], 0, .c, [.all 31 24 .ro, .all 20 16 .ro, .all 12 12 .ro, .all 11 11 .ro, .all 10 8 .ro, .all 7 0 .ro]⟩,
  ⟨0x310044, [(512, 16)], 0, .c, [.all 31 16 .ro, .all 15 0 .ro]⟩,
  ⟨0x310048, [(512, 16)], 0, .c, [.all 31 0 .ro]⟩,
  ⟨0x310060, [(512, 16), (4, 8)], 0, .c, [.all 31 0 .rw]⟩,
  ⟨0x310100, [(512, 16), (8, 16)], 0, .c, [.all 18 16 .rw, .all 15 15 .rw, .rng 13 0 .rw 0 0x210f]⟩,
  ⟨0x310104, [(512, 16), (8, 16)], 0, .c, [.sgn 15 0 .rw (-3142) 3142]⟩,
  ⟨0x320000, [], 0, .c, [.all 8 8 .ro, .all 7 0 .ro]⟩,
  ⟨0x320100, [(32, 32)], 0x342, .c, [.all 31 24 .rw, .all 23 16 .rw, .all 13 11 .rw, .all 10 10 .rw, .all 9 9 .rw, .rng 8 6 .rw 0 6, .all 5 5 .rw, .rng 4 1 .rw 1 8, .all 0 0 .rw]⟩,
  ⟨0x320104, [(32, 32)], 0, .c, [.rng 15 0 .rw 0 0xea60]⟩,
  ⟨0x320108, [(32, 32), (4, 4)], 0, .c, [.all 15 15 .rw, .all 14 14 .rw, .all 8 0 .rw, .all 31 31 .rw, .all 30 30 .rw, .all 24 16 .rw]⟩,
  ⟨0x320118, [(32, 32)], 0, .c, [.all 0 0 .wo]⟩,
  ⟨0x32011c, [(32, 32)], 0, .c, [.all 11 8 .ro, .all 1 1 .ro, .all 0 0 .ro]⟩,
  ⟨0x320800, [(16, 8)], 0, .c, [.all 4 4 .rw, .all 3 3 .rw, .rng 2 1 .rw 0 2, .all 0 0 .rw]⟩,
  ⟨0x320804, [(16, 8)], 0, .c, [.all 29 0 .ro]⟩,
  ⟨0x320808, [(16, 8)], 0, .c, [.all 31 0 .ro]⟩,
  ⟨0x32080c, [(16, 8)], 0, .c, [.all 15 0 .ro]⟩,
  ⟨0x320f00, [(4, 3)], 0, .c, [.all 31 0 .rw]⟩,
  ⟨0x320f10, [], 0, .c, [.all 2 0 .ro]⟩,
  ⟨0x330000, [], 0, .c, [.all 23 0 .ro]⟩,
  ⟨0x330004, [], 0, .c, [.all 31 21 .rw]⟩]

/-- Rows of the register tables of 08_oscillation_and_islanding.md. -/
def regsDetect2 : List RegSpec := [
  ⟨0x330008, [], 0, .c, [.all 15 0 .rw]⟩,
  ⟨0x330010, [(4, 13)], 0, .c, [.all 31 0 .ro]⟩]

/-- The register table of 08_oscillation_and_islanding.md. -/
def regsDetect : List RegSpec := regsDetect0 ++ regsDetect1 ++ regsDetect2

end Sys2Proof.Machine
end

