-- ==== Sys2Proof/Machine/RegsFirmware.lean ====
section
/-!
DEFINITION. The registers of 15_firmware_update_chain.md: the offset of each (with its indices), its fields, and the row of its table:
offset, strides and counts, reset value, reset class, and each field's access type and stated range (R5, R6, R9).
-/

namespace Sys2Proof.Machine

/-- FU_STATUS, 15. -/
abbrev FU_STATUS : Nat := 0x3e0000
@[inherit_doc FU_STATUS] def FU_STATUS_COPYING : Fld := ⟨FU_STATUS, 23, 23⟩
@[inherit_doc FU_STATUS] def FU_STATUS_MISSED : Fld := ⟨FU_STATUS, 22, 22⟩
@[inherit_doc FU_STATUS] def FU_STATUS_SWITCHING : Fld := ⟨FU_STATUS, 21, 21⟩
@[inherit_doc FU_STATUS] def FU_STATUS_BOOT_TRIES : Fld := ⟨FU_STATUS, 19, 16⟩
@[inherit_doc FU_STATUS] def FU_STATUS_RELAY : Fld := ⟨FU_STATUS, 11, 8⟩
@[inherit_doc FU_STATUS] def FU_STATUS_KIND : Fld := ⟨FU_STATUS, 7, 4⟩
@[inherit_doc FU_STATUS] def FU_STATUS_STATE : Fld := ⟨FU_STATUS, 2, 0⟩
/-- FU_CFG, 15. -/
abbrev FU_CFG : Nat := 0x3e0004
@[inherit_doc FU_CFG] def FU_CFG_START_S : Fld := ⟨FU_CFG, 15, 8⟩
@[inherit_doc FU_CFG] def FU_CFG_BOOT_MAX : Fld := ⟨FU_CFG, 6, 4⟩
@[inherit_doc FU_CFG] def FU_CFG_MIN_LEAD : Fld := ⟨FU_CFG, 3, 0⟩
/-- FU_RELAY_CFG, 15. -/
abbrev FU_RELAY_CFG : Nat := 0x3e0008
@[inherit_doc FU_RELAY_CFG] def FU_RELAY_CFG_UDP_PORT : Fld := ⟨FU_RELAY_CFG, 31, 16⟩
@[inherit_doc FU_RELAY_CFG] def FU_RELAY_CFG_IPV6 : Fld := ⟨FU_RELAY_CFG, 15, 15⟩
@[inherit_doc FU_RELAY_CFG] def FU_RELAY_CFG_PORT : Fld := ⟨FU_RELAY_CFG, 14, 13⟩
@[inherit_doc FU_RELAY_CFG] def FU_RELAY_CFG_HOPS : Fld := ⟨FU_RELAY_CFG, 12, 8⟩
@[inherit_doc FU_RELAY_CFG] def FU_RELAY_CFG_RTO : Fld := ⟨FU_RELAY_CFG, 7, 4⟩
@[inherit_doc FU_RELAY_CFG] def FU_RELAY_CFG_ACCEPT_ARM : Fld := ⟨FU_RELAY_CFG, 3, 3⟩
@[inherit_doc FU_RELAY_CFG] def FU_RELAY_CFG_FWD_EN : Fld := ⟨FU_RELAY_CFG, 2, 2⟩
@[inherit_doc FU_RELAY_CFG] def FU_RELAY_CFG_ACCEPT : Fld := ⟨FU_RELAY_CFG, 1, 1⟩
/-- FU_UP_IP[k], 15. -/
abbrev FU_UP_IP (k : Nat) : Nat := 0x3e0010 + 4 * k
/-- FU_DN_IP[k], 15. -/
abbrev FU_DN_IP (k : Nat) : Nat := 0x3e0020 + 4 * k
/-- FU_KICK_NS, 15. -/
abbrev FU_KICK_NS : Nat := 0x3e0030
@[inherit_doc FU_KICK_NS] def FU_KICK_NS_NS : Fld := ⟨FU_KICK_NS, 29, 0⟩
/-- FU_KICK_SEC_LO, 15. -/
abbrev FU_KICK_SEC_LO : Nat := 0x3e0034
/-- FU_KICK_SEC_HI, 15. -/
abbrev FU_KICK_SEC_HI : Nat := 0x3e0038
@[inherit_doc FU_KICK_SEC_HI] def FU_KICK_SEC_HI_SEC_HI : Fld := ⟨FU_KICK_SEC_HI, 15, 0⟩
/-- FU_VER[i], 15. -/
abbrev FU_VER (i : Nat) : Nat := 0x3e0040 + 4 * i
/-- FU_CNT[i], 15. -/
abbrev FU_CNT (i : Nat) : Nat := 0x3e0060 + 4 * i
/-- FU_SAT, 15. -/
abbrev FU_SAT : Nat := 0x3e0078
@[inherit_doc FU_SAT] def FU_SAT_SAT : Fld := ⟨FU_SAT, 5, 0⟩
/-- FU_REFRESH, 15. -/
abbrev FU_REFRESH : Nat := 0x3e0080
@[inherit_doc FU_REFRESH] def FU_REFRESH_DAYS : Fld := ⟨FU_REFRESH, 15, 0⟩

/-- Rows of the register tables of 15_firmware_update_chain.md. -/
def regsFirmware : List RegSpec := [
  ⟨0x3e0000, [], 0, .c, [.all 23 23 .ro, .all 22 22 .ro, .all 21 21 .ro, .all 19 16 .ro, .all 11 8 .ro, .all 7 4 .ro, .all 2 0 .ro]⟩,
  ⟨0x3e0004, [], 0x1e32, .c, [.rng 15 8 .rw 0xa 0x78, .rng 6 4 .rw 1 7, .rng 3 0 .rw 1 0xf]⟩,
  ⟨0x3e0008, [], 0x1cf16850, .c, [.rng 31 16 .rw 1 0xffff, .all 15 15 .rw, .all 14 13 .rw, .rng 12 8 .rw 1 0x1f, .rng 7 4 .rw 1 0xf, .all 3 3 .rw, .all 2 2 .rw, .all 1 1 .rw]⟩,
  ⟨0x3e0010, [(4, 4)], 0, .c, [.all 31 0 .rw]⟩,
  ⟨0x3e0020, [(4, 4)], 0, .c, [.all 31 0 .rw]⟩,
  ⟨0x3e0030, [], 0, .nv, [.all 29 0 .ro]⟩,
  ⟨0x3e0034, [], 0, .nv, [.all 31 0 .ro]⟩,
  ⟨0x3e0038, [], 0, .nv, [.all 15 0 .ro]⟩,
  ⟨0x3e0040, [(4, 3)], 0, .nv, [.all 31 0 .ro]⟩,
  ⟨0x3e0060, [(4, 6)], 0, .c, [.all 31 0 .rw]⟩,
  ⟨0x3e0078, [], 0, .c, [.all 5 0 .ro]⟩,
  ⟨0x3e0080, [], 0, .nv, [.all 15 0 .ro]⟩]

end Sys2Proof.Machine
end

