-- ==== Sys2Proof/Machine/RegsHost.lean ====
section
/-!
DEFINITION. The registers of 11_host_interface.md: the offset of each (with its indices), its fields, and the row of its table:
offset, strides and counts, reset value, reset class, and each field's access type and stated range (R5, R6, R9).
-/

namespace Sys2Proof.Machine

/-- HI_SQ_DB[q], 11. -/
abbrev HI_SQ_DB (q : Nat) : Nat := 0x390000 + 8 * q
@[inherit_doc HI_SQ_DB] def HI_SQ_DB_INDEX (q : Nat) : Fld := ⟨HI_SQ_DB q, 15, 0⟩
/-- HI_CQ_DB[q], 11. -/
abbrev HI_CQ_DB (q : Nat) : Nat := 0x390004 + 8 * q
@[inherit_doc HI_CQ_DB] def HI_CQ_DB_INDEX (q : Nat) : Fld := ⟨HI_CQ_DB q, 15, 0⟩
/-- HI_DR_DB[r], 11. -/
abbrev HI_DR_DB (r : Nat) : Nat := 0x390080 + 4 * r
/-- HI_SQ_BASE_LO[q], 11. -/
abbrev HI_SQ_BASE_LO (q : Nat) : Nat := 0x391000 + 0x20 * q
@[inherit_doc HI_SQ_BASE_LO] def HI_SQ_BASE_LO_BASE_LO (q : Nat) : Fld := ⟨HI_SQ_BASE_LO q, 31, 12⟩
/-- HI_SQ_BASE_HI[q], 11. -/
abbrev HI_SQ_BASE_HI (q : Nat) : Nat := 0x391004 + 0x20 * q
/-- HI_SQ_CFG[q], 11. -/
abbrev HI_SQ_CFG (q : Nat) : Nat := 0x391008 + 0x20 * q
@[inherit_doc HI_SQ_CFG] def HI_SQ_CFG_LOG2SIZE (q : Nat) : Fld := ⟨HI_SQ_CFG q, 12, 8⟩
@[inherit_doc HI_SQ_CFG] def HI_SQ_CFG_CQ (q : Nat) : Fld := ⟨HI_SQ_CFG q, 7, 4⟩
@[inherit_doc HI_SQ_CFG] def HI_SQ_CFG_EN (q : Nat) : Fld := ⟨HI_SQ_CFG q, 0, 0⟩
/-- HI_SQ_HEAD[q], 11. -/
abbrev HI_SQ_HEAD (q : Nat) : Nat := 0x39100c + 0x20 * q
@[inherit_doc HI_SQ_HEAD] def HI_SQ_HEAD_HEAD (q : Nat) : Fld := ⟨HI_SQ_HEAD q, 15, 0⟩
/-- HI_SQ_STAT[q], 11. -/
abbrev HI_SQ_STAT (q : Nat) : Nat := 0x391010 + 0x20 * q
@[inherit_doc HI_SQ_STAT] def HI_SQ_STAT_TAIL (q : Nat) : Fld := ⟨HI_SQ_STAT q, 31, 16⟩
@[inherit_doc HI_SQ_STAT] def HI_SQ_STAT_ERR (q : Nat) : Fld := ⟨HI_SQ_STAT q, 7, 4⟩
@[inherit_doc HI_SQ_STAT] def HI_SQ_STAT_STATE (q : Nat) : Fld := ⟨HI_SQ_STAT q, 2, 0⟩
/-- HI_CQ_BASE_LO[q], 11. -/
abbrev HI_CQ_BASE_LO (q : Nat) : Nat := 0x391400 + 0x20 * q
@[inherit_doc HI_CQ_BASE_LO] def HI_CQ_BASE_LO_BASE_LO (q : Nat) : Fld := ⟨HI_CQ_BASE_LO q, 31, 12⟩
/-- HI_CQ_BASE_HI[q], 11. -/
abbrev HI_CQ_BASE_HI (q : Nat) : Nat := 0x391404 + 0x20 * q
/-- HI_CQ_CFG[q], 11. -/
abbrev HI_CQ_CFG (q : Nat) : Nat := 0x391408 + 0x20 * q
@[inherit_doc HI_CQ_CFG] def HI_CQ_CFG_COAL_US (q : Nat) : Fld := ⟨HI_CQ_CFG q, 30, 21⟩
@[inherit_doc HI_CQ_CFG] def HI_CQ_CFG_COAL_N (q : Nat) : Fld := ⟨HI_CQ_CFG q, 20, 13⟩
@[inherit_doc HI_CQ_CFG] def HI_CQ_CFG_VECTOR (q : Nat) : Fld := ⟨HI_CQ_CFG q, 12, 7⟩
@[inherit_doc HI_CQ_CFG] def HI_CQ_CFG_IEN (q : Nat) : Fld := ⟨HI_CQ_CFG q, 6, 6⟩
@[inherit_doc HI_CQ_CFG] def HI_CQ_CFG_LOG2SIZE (q : Nat) : Fld := ⟨HI_CQ_CFG q, 5, 1⟩
@[inherit_doc HI_CQ_CFG] def HI_CQ_CFG_EN (q : Nat) : Fld := ⟨HI_CQ_CFG q, 0, 0⟩
/-- HI_DR_CFG[r], 11. -/
abbrev HI_DR_CFG (r : Nat) : Nat := 0x391808 + 0x20 * r
@[inherit_doc HI_DR_CFG] def HI_DR_CFG_COAL_US (r : Nat) : Fld := ⟨HI_DR_CFG r, 30, 21⟩
@[inherit_doc HI_DR_CFG] def HI_DR_CFG_COAL_N (r : Nat) : Fld := ⟨HI_DR_CFG r, 20, 13⟩
@[inherit_doc HI_DR_CFG] def HI_DR_CFG_VECTOR (r : Nat) : Fld := ⟨HI_DR_CFG r, 12, 7⟩
@[inherit_doc HI_DR_CFG] def HI_DR_CFG_IEN (r : Nat) : Fld := ⟨HI_DR_CFG r, 6, 6⟩
@[inherit_doc HI_DR_CFG] def HI_DR_CFG_LOG2SIZE (r : Nat) : Fld := ⟨HI_DR_CFG r, 5, 1⟩
@[inherit_doc HI_DR_CFG] def HI_DR_CFG_EN (r : Nat) : Fld := ⟨HI_DR_CFG r, 0, 0⟩
/-- HI_CQ_TAIL[q], 11. -/
abbrev HI_CQ_TAIL (q : Nat) : Nat := 0x39140c + 0x20 * q
@[inherit_doc HI_CQ_TAIL] def HI_CQ_TAIL_PHASE (q : Nat) : Fld := ⟨HI_CQ_TAIL q, 16, 16⟩
@[inherit_doc HI_CQ_TAIL] def HI_CQ_TAIL_TAIL (q : Nat) : Fld := ⟨HI_CQ_TAIL q, 15, 0⟩
/-- HI_DR_BASE_LO[r], 11. -/
abbrev HI_DR_BASE_LO (r : Nat) : Nat := 0x391800 + 0x20 * r
@[inherit_doc HI_DR_BASE_LO] def HI_DR_BASE_LO_BASE_LO (r : Nat) : Fld := ⟨HI_DR_BASE_LO r, 31, 12⟩
/-- HI_DR_BASE_HI[r], 11. -/
abbrev HI_DR_BASE_HI (r : Nat) : Nat := 0x391804 + 0x20 * r
/-- HI_DR_SHADOW_LO[r], 11. -/
abbrev HI_DR_SHADOW_LO (r : Nat) : Nat := 0x39180c + 0x20 * r
@[inherit_doc HI_DR_SHADOW_LO] def HI_DR_SHADOW_LO_SHADOW_LO (r : Nat) : Fld := ⟨HI_DR_SHADOW_LO r, 31, 3⟩
/-- HI_DR_SHADOW_HI[r], 11. -/
abbrev HI_DR_SHADOW_HI (r : Nat) : Nat := 0x391810 + 0x20 * r
/-- HI_DR_WP[r], 11. -/
abbrev HI_DR_WP (r : Nat) : Nat := 0x391814 + 0x20 * r
/-- HI_DR_RP[r], 11. -/
abbrev HI_DR_RP (r : Nat) : Nat := 0x391818 + 0x20 * r
/-- HI_STATUS, 11. -/
abbrev HI_STATUS : Nat := 0x392000
@[inherit_doc HI_STATUS] def HI_STATUS_MSIX_EN : Fld := ⟨HI_STATUS, 9, 9⟩
@[inherit_doc HI_STATUS] def HI_STATUS_BUS_MASTER : Fld := ⟨HI_STATUS, 8, 8⟩
@[inherit_doc HI_STATUS] def HI_STATUS_WIDTH : Fld := ⟨HI_STATUS, 7, 4⟩
@[inherit_doc HI_STATUS] def HI_STATUS_SPEED : Fld := ⟨HI_STATUS, 3, 0⟩
/-- HI_HB_CFG, 11. -/
abbrev HI_HB_CFG : Nat := 0x392004
@[inherit_doc HI_HB_CFG] def HI_HB_CFG_TIMEOUT_MS : Fld := ⟨HI_HB_CFG, 15, 0⟩
/-- HI_HB, 11. -/
abbrev HI_HB : Nat := 0x392008
/-- HI_VEC_MISC, 11. -/
abbrev HI_VEC_MISC : Nat := 0x39200c
@[inherit_doc HI_VEC_MISC] def HI_VEC_MISC_DET_EN : Fld := ⟨HI_VEC_MISC, 14, 14⟩
@[inherit_doc HI_VEC_MISC] def HI_VEC_MISC_DET_VEC : Fld := ⟨HI_VEC_MISC, 13, 8⟩
@[inherit_doc HI_VEC_MISC] def HI_VEC_MISC_PL_EN : Fld := ⟨HI_VEC_MISC, 6, 6⟩
@[inherit_doc HI_VEC_MISC] def HI_VEC_MISC_PL_VEC : Fld := ⟨HI_VEC_MISC, 5, 0⟩
/-- HI_CNT[i], 11. -/
abbrev HI_CNT (i : Nat) : Nat := 0x392040 + 4 * i
/-- HI_SAT, 11. -/
abbrev HI_SAT : Nat := 0x392050
@[inherit_doc HI_SAT] def HI_SAT_SAT : Fld := ⟨HI_SAT, 3, 0⟩

/-- Rows of the register tables of 11_host_interface.md. -/
def regsHost0 : List RegSpec := [
  ⟨0x390000, [(8, 16)], 0, .f, [.all 15 0 .wo]⟩,
  ⟨0x390004, [(8, 16)], 0, .f, [.all 15 0 .wo]⟩,
  ⟨0x390080, [(4, 8)], 0, .f, [.all 31 0 .wo]⟩,
  ⟨0x391000, [(32, 16)], 0, .c, [.all 31 12 .rw]⟩,
  ⟨0x391004, [(32, 16)], 0, .c, [.all 31 0 .rw]⟩,
  ⟨0x391008, [(32, 16)], 0, .f, [.all 12 8 .rw, .all 7 4 .rw, .all 0 0 .rw]⟩,
  ⟨0x39100c, [(32, 16)], 0, .f, [.all 15 0 .ro]⟩,
  ⟨0x391010, [(32, 16)], 0, .f, [.all 31 16 .ro, .all 7 4 .ro, .all 2 0 .ro]⟩,
  ⟨0x391400, [(32, 16)], 0, .c, [.all 31 12 .rw]⟩,
  ⟨0x391404, [(32, 16)], 0, .c, [.all 31 0 .rw]⟩,
  ⟨0x391408, [(32, 16)], 0, .f, [.rng 30 21 .rw 0 0x3e8, .all 20 13 .rw, .all 12 7 .rw, .all 6 6 .rw, .all 5 1 .rw, .all 0 0 .rw]⟩,
  ⟨0x391808, [(32, 8)], 0, .f, [.rng 30 21 .rw 0 0x3e8, .all 20 13 .rw, .all 12 7 .rw, .all 6 6 .rw, .all 5 1 .rw, .all 0 0 .rw]⟩,
  ⟨0x39140c, [(32, 16)], 0, .f, [.all 16 16 .ro, .all 15 0 .ro]⟩,
  ⟨0x391800, [(32, 8)], 0, .c, [.all 31 12 .rw]⟩,
  ⟨0x391804, [(32, 8)], 0, .c, [.all 31 0 .rw]⟩,
  ⟨0x39180c, [(32, 8)], 0, .c, [.all 31 3 .rw]⟩,
  ⟨0x391810, [(32, 8)], 0, .c, [.all 31 0 .rw]⟩,
  ⟨0x391814, [(32, 8)], 0, .f, [.all 31 0 .ro]⟩,
  ⟨0x391818, [(32, 8)], 0, .f, [.all 31 0 .ro]⟩,
  ⟨0x392000, [], 0, .nv, [.all 9 9 .ro, .all 8 8 .ro, .all 7 4 .ro, .all 3 0 .ro]⟩]

/-- Rows of the register tables of 11_host_interface.md. -/
def regsHost1 : List RegSpec := [
  ⟨0x392004, [], 0, .f, [.all 15 0 .rw]⟩,
  ⟨0x392008, [], 0, .f, [.all 31 0 .wo]⟩,
  ⟨0x39200c, [], 0, .f, [.all 14 14 .rw, .all 13 8 .rw, .all 6 6 .rw, .all 5 0 .rw]⟩,
  ⟨0x392040, [(4, 4)], 0, .c, [.all 31 0 .rw]⟩,
  ⟨0x392050, [], 0, .c, [.all 3 0 .ro]⟩]

/-- The register table of 11_host_interface.md. -/
def regsHost : List RegSpec := regsHost0 ++ regsHost1

end Sys2Proof.Machine
end

