-- ==== Sys2Proof/Machine/RegsIntegrity.lean ====
section
/-!
DEFINITION. The registers of 16_integrity_and_faults.md: the offset of each (with its indices), its fields, and the row of its table:
offset, strides and counts, reset value, reset class, and each field's access type and stated range (R5, R6, R9).
-/

namespace Sys2Proof.Machine

/-- IG_STATUS, 16. -/
abbrev IG_STATUS : Nat := 0x3f0000
@[inherit_doc IG_STATUS] def IG_STATUS_OPEN : Fld := ⟨IG_STATUS, 21, 16⟩
@[inherit_doc IG_STATUS] def IG_STATUS_CAPSULE : Fld := ⟨IG_STATUS, 3, 3⟩
@[inherit_doc IG_STATUS] def IG_STATUS_FAULT_OVF : Fld := ⟨IG_STATUS, 2, 2⟩
@[inherit_doc IG_STATUS] def IG_STATUS_SAT_REJ : Fld := ⟨IG_STATUS, 1, 1⟩
@[inherit_doc IG_STATUS] def IG_STATUS_TORN_READ : Fld := ⟨IG_STATUS, 0, 0⟩
/-- IG_CFG_REJ, 16. -/
abbrev IG_CFG_REJ : Nat := 0x3f0004
/-- IG_CFG_REJ_ADDR, 16. -/
abbrev IG_CFG_REJ_ADDR : Nat := 0x3f0008
@[inherit_doc IG_CFG_REJ_ADDR] def IG_CFG_REJ_ADDR_SPACE : Fld := ⟨IG_CFG_REJ_ADDR, 31, 28⟩
@[inherit_doc IG_CFG_REJ_ADDR] def IG_CFG_REJ_ADDR_OFFSET : Fld := ⟨IG_CFG_REJ_ADDR, 27, 0⟩
/-- IG_CFG_REJ_INFO, 16. -/
abbrev IG_CFG_REJ_INFO : Nat := 0x3f000c
@[inherit_doc IG_CFG_REJ_INFO] def IG_CFG_REJ_INFO_REASON : Fld := ⟨IG_CFG_REJ_INFO, 11, 8⟩
@[inherit_doc IG_CFG_REJ_INFO] def IG_CFG_REJ_INFO_MASTER : Fld := ⟨IG_CFG_REJ_INFO, 7, 0⟩
/-- IG_DECODE_ADDR_LO, 16. -/
abbrev IG_DECODE_ADDR_LO : Nat := 0x3f0010
/-- IG_DECODE_ADDR_HI, 16. -/
abbrev IG_DECODE_ADDR_HI : Nat := 0x3f0014
/-- IG_PIN_CFG, 16. -/
abbrev IG_PIN_CFG : Nat := 0x3f0018
@[inherit_doc IG_PIN_CFG] def IG_PIN_CFG_RST_DEGLITCH : Fld := ⟨IG_PIN_CFG, 9, 0⟩
/-- IG_CNT[i], 16. -/
abbrev IG_CNT (i : Nat) : Nat := 0x3f0040 + 4 * i
/-- IG_SAT, 16. -/
abbrev IG_SAT : Nat := 0x3f0070
@[inherit_doc IG_SAT] def IG_SAT_SAT : Fld := ⟨IG_SAT, 9, 0⟩
/-- IG_FAULT[i], 16. -/
abbrev IG_FAULT (i : Nat) : Nat := 0x3f0100 + 8 * i
@[inherit_doc IG_FAULT] def IG_FAULT_OPEN (i : Nat) : Fld := ⟨IG_FAULT i, 31, 31⟩
@[inherit_doc IG_FAULT] def IG_FAULT_COUNT (i : Nat) : Fld := ⟨IG_FAULT i, 30, 16⟩
@[inherit_doc IG_FAULT] def IG_FAULT_CODE (i : Nat) : Fld := ⟨IG_FAULT i, 15, 0⟩
/-- IG_FAULT_CAUSE[i], 16. -/
abbrev IG_FAULT_CAUSE (i : Nat) : Nat := 0x3f0104 + 8 * i

/-- Rows of the register tables of 16_integrity_and_faults.md. -/
def regsIntegrity : List RegSpec := [
  ⟨0x3f0000, [], 0, .c, [.all 21 16 .ro, .all 3 3 .ro, .all 2 2 .w1c, .all 1 1 .ro, .all 0 0 .w1c]⟩,
  ⟨0x3f0004, [], 0, .c, [.all 31 0 .rw]⟩,
  ⟨0x3f0008, [], 0, .c, [.all 31 28 .ro, .all 27 0 .ro]⟩,
  ⟨0x3f000c, [], 0, .c, [.all 11 8 .ro, .all 7 0 .ro]⟩,
  ⟨0x3f0010, [], 0, .c, [.all 31 0 .ro]⟩,
  ⟨0x3f0014, [], 0, .c, [.all 31 0 .ro]⟩,
  ⟨0x3f0018, [], 0xa, .c, [.rng 9 0 .rw 0 0x3e8]⟩,
  ⟨0x3f0040, [(4, 10)], 0, .c, [.all 31 0 .rw]⟩,
  ⟨0x3f0070, [], 0, .c, [.all 9 0 .ro]⟩,
  ⟨0x3f0100, [(8, 32)], 0, .c, [.all 31 31 .w1c, .all 30 16 .ro, .all 15 0 .ro]⟩,
  ⟨0x3f0104, [(8, 32)], 0, .c, [.all 31 0 .ro]⟩]

end Sys2Proof.Machine
end

