-- ==== Sys2Proof/Machine/RegsKeys.lean ====
section
/-!
DEFINITION. The registers of 13_keys_and_signatures.md: the offset of each (with its indices), its fields, and the row of its table:
offset, strides and counts, reset value, reset class, and each field's access type and stated range (R5, R6, R9).
-/

namespace Sys2Proof.Machine

/-- SE_STATUS, 13. -/
abbrev SE_STATUS : Nat := 0x3c0000
@[inherit_doc SE_STATUS] def SE_STATUS_LEDGER_PENDING : Fld := ⟨SE_STATUS, 15, 8⟩
@[inherit_doc SE_STATUS] def SE_STATUS_DETERMINISTIC : Fld := ⟨SE_STATUS, 2, 2⟩
@[inherit_doc SE_STATUS] def SE_STATUS_ES_FAIL : Fld := ⟨SE_STATUS, 1, 1⟩
@[inherit_doc SE_STATUS] def SE_STATUS_DRBG_READY : Fld := ⟨SE_STATUS, 0, 0⟩
/-- SE_RESEED, 13. -/
abbrev SE_RESEED : Nat := 0x3c0004
/-- SE_CNT[i], 13. -/
abbrev SE_CNT (i : Nat) : Nat := 0x3c0010 + 4 * i
/-- SE_SAT, 13. -/
abbrev SE_SAT : Nat := 0x3c0020
@[inherit_doc SE_SAT] def SE_SAT_SAT : Fld := ⟨SE_SAT, 3, 0⟩
/-- KS_STATUS, 13. -/
abbrev KS_STATUS : Nat := 0x3c0800
@[inherit_doc KS_STATUS] def KS_STATUS_USED : Fld := ⟨KS_STATUS, 24, 16⟩
@[inherit_doc KS_STATUS] def KS_STATUS_CERT_BAD : Fld := ⟨KS_STATUS, 1, 1⟩
@[inherit_doc KS_STATUS] def KS_STATUS_READY : Fld := ⟨KS_STATUS, 0, 0⟩
/-- KS_CERT_OFS[i], 13. -/
abbrev KS_CERT_OFS (i : Nat) : Nat := 0x3c0810 + 8 * i
/-- KS_CERT_LEN[i], 13. -/
abbrev KS_CERT_LEN (i : Nat) : Nat := 0x3c0814 + 8 * i
@[inherit_doc KS_CERT_LEN] def KS_CERT_LEN_LEN (i : Nat) : Fld := ⟨KS_CERT_LEN i, 15, 0⟩
/-- KS_ATTR[s], 13. -/
abbrev KS_ATTR (s : Nat) : Nat := 0x3c1000 + 0x10 * s
@[inherit_doc KS_ATTR] def KS_ATTR_DEST (s : Nat) : Fld := ⟨KS_ATTR s, 21, 16⟩
@[inherit_doc KS_ATTR] def KS_ATTR_USAGE (s : Nat) : Fld := ⟨KS_ATTR s, 11, 8⟩
@[inherit_doc KS_ATTR] def KS_ATTR_ALG (s : Nat) : Fld := ⟨KS_ATTR s, 3, 0⟩
/-- KS_GEN[s], 13. -/
abbrev KS_GEN (s : Nat) : Nat := 0x3c1004 + 0x10 * s
/-- KS_SLOT_STAT[s], 13. -/
abbrev KS_SLOT_STAT (s : Nat) : Nat := 0x3c1008 + 0x10 * s
@[inherit_doc KS_SLOT_STAT] def KS_SLOT_STAT_LOST (s : Nat) : Fld := ⟨KS_SLOT_STAT s, 4, 4⟩
@[inherit_doc KS_SLOT_STAT] def KS_SLOT_STAT_CUT (s : Nat) : Fld := ⟨KS_SLOT_STAT s, 3, 3⟩
@[inherit_doc KS_SLOT_STAT] def KS_SLOT_STAT_BUSY (s : Nat) : Fld := ⟨KS_SLOT_STAT s, 2, 2⟩
@[inherit_doc KS_SLOT_STAT] def KS_SLOT_STAT_IN_SERVICE (s : Nat) : Fld := ⟨KS_SLOT_STAT s, 1, 1⟩
@[inherit_doc KS_SLOT_STAT] def KS_SLOT_STAT_VALID (s : Nat) : Fld := ⟨KS_SLOT_STAT s, 0, 0⟩

/-- Rows of the register tables of 13_keys_and_signatures.md. -/
def regsKeys : List RegSpec := [
  ⟨0x3c0000, [], 0, .c, [.all 15 8 .ro, .all 2 2 .ro, .all 1 1 .ro, .all 0 0 .ro]⟩,
  ⟨0x3c0004, [], 0, .c, [.all 31 0 .ro]⟩,
  ⟨0x3c0010, [(4, 4)], 0, .c, [.all 31 0 .rw]⟩,
  ⟨0x3c0020, [], 0, .c, [.all 3 0 .ro]⟩,
  ⟨0x3c0800, [], 0, .c, [.all 24 16 .ro, .all 1 1 .ro, .all 0 0 .ro]⟩,
  ⟨0x3c0810, [(8, 3)], 0, .nv, [.all 31 0 .ro]⟩,
  ⟨0x3c0814, [(8, 3)], 0, .nv, [.all 15 0 .ro]⟩,
  ⟨0x3c1000, [(16, 256)], 0, .nv, [.all 21 16 .ro, .all 11 8 .ro, .all 3 0 .ro]⟩,
  ⟨0x3c1004, [(16, 256)], 0, .nv, [.all 31 0 .ro]⟩,
  ⟨0x3c1008, [(16, 256)], 0, .c, [.all 4 4 .w1c, .all 3 3 .w1c, .all 2 2 .ro, .all 1 1 .ro, .all 0 0 .ro]⟩]

end Sys2Proof.Machine
end

