-- ==== Sys2Proof/Machine/RegsLanes.lean ====
section
/-!
DEFINITION. The registers of 04_measurement_lanes.md: the offset of each (with its indices), its fields, and the row of its table:
offset, strides and counts, reset value, reset class, and each field's access type and stated range (R5, R6, R9).
-/

namespace Sys2Proof.Machine

/-- LN_CFG[n], 04. -/
abbrev LN_CFG (n : Nat) : Nat := 0x100000 + 0x400 * n
@[inherit_doc LN_CFG] def LN_CFG_MIN_Q (n : Nat) : Fld := ⟨LN_CFG n, 19, 16⟩
@[inherit_doc LN_CFG] def LN_CFG_RATE (n : Nat) : Fld := ⟨LN_CFG n, 12, 11⟩
@[inherit_doc LN_CFG] def LN_CFG_NQ (n : Nat) : Fld := ⟨LN_CFG n, 10, 8⟩
@[inherit_doc LN_CFG] def LN_CFG_DC (n : Nat) : Fld := ⟨LN_CFG n, 4, 4⟩
@[inherit_doc LN_CFG] def LN_CFG_LEGAL (n : Nat) : Fld := ⟨LN_CFG n, 3, 3⟩
@[inherit_doc LN_CFG] def LN_CFG_KIND (n : Nat) : Fld := ⟨LN_CFG n, 2, 1⟩
@[inherit_doc LN_CFG] def LN_CFG_EN (n : Nat) : Fld := ⟨LN_CFG n, 0, 0⟩
/-- LN_HEAD_ID_LO[n], 04. -/
abbrev LN_HEAD_ID_LO (n : Nat) : Nat := 0x100004 + 0x400 * n
/-- LN_HEAD_ID_HI[n], 04. -/
abbrev LN_HEAD_ID_HI (n : Nat) : Nat := 0x100008 + 0x400 * n
/-- LN_KEY[n], 04. -/
abbrev LN_KEY (n : Nat) : Nat := 0x10000c + 0x400 * n
@[inherit_doc LN_KEY] def LN_KEY_NEXT_EN (n : Nat) : Fld := ⟨LN_KEY n, 16, 16⟩
@[inherit_doc LN_KEY] def LN_KEY_NEXT (n : Nat) : Fld := ⟨LN_KEY n, 15, 8⟩
@[inherit_doc LN_KEY] def LN_KEY_SLOT (n : Nat) : Fld := ⟨LN_KEY n, 7, 0⟩
/-- LN_TMO[n], 04. -/
abbrev LN_TMO (n : Nat) : Nat := 0x100010 + 0x400 * n
@[inherit_doc LN_TMO] def LN_TMO_SYNC_BLOCKS (n : Nat) : Fld := ⟨LN_TMO n, 31, 24⟩
@[inherit_doc LN_TMO] def LN_TMO_GAP_DEGRADE (n : Nat) : Fld := ⟨LN_TMO n, 23, 16⟩
@[inherit_doc LN_TMO] def LN_TMO_SILENCE (n : Nat) : Fld := ⟨LN_TMO n, 15, 0⟩
/-- LN_TIMING[n], 04. -/
abbrev LN_TIMING (n : Nat) : Nat := 0x100014 + 0x400 * n
@[inherit_doc LN_TIMING] def LN_TIMING_MAX_EARLY (n : Nat) : Fld := ⟨LN_TIMING n, 25, 16⟩
@[inherit_doc LN_TIMING] def LN_TIMING_MAX_LATE (n : Nat) : Fld := ⟨LN_TIMING n, 15, 0⟩
/-- LN_SV[n], 04. -/
abbrev LN_SV (n : Nat) : Nat := 0x100018 + 0x400 * n
@[inherit_doc LN_SV] def LN_SV_SIM_OK (n : Nat) : Fld := ⟨LN_SV n, 19, 19⟩
@[inherit_doc LN_SV] def LN_SV_ASDU (n : Nat) : Fld := ⟨LN_SV n, 18, 16⟩
@[inherit_doc LN_SV] def LN_SV_APPID (n : Nat) : Fld := ⟨LN_SV n, 15, 0⟩
/-- LN_CTRL[n], 04. -/
abbrev LN_CTRL (n : Nat) : Nat := 0x10001c + 0x400 * n
@[inherit_doc LN_CTRL] def LN_CTRL_RESYNC (n : Nat) : Fld := ⟨LN_CTRL n, 0, 0⟩
/-- LN_STATUS[n], 04. -/
abbrev LN_STATUS (n : Nat) : Nat := 0x100040 + 0x400 * n
@[inherit_doc LN_STATUS] def LN_STATUS_DESC_COMPLETE (n : Nat) : Fld := ⟨LN_STATUS n, 21, 21⟩
@[inherit_doc LN_STATUS] def LN_STATUS_NEXT_PENDING (n : Nat) : Fld := ⟨LN_STATUS n, 20, 20⟩
@[inherit_doc LN_STATUS] def LN_STATUS_HEAD_Q (n : Nat) : Fld := ⟨LN_STATUS n, 19, 16⟩
@[inherit_doc LN_STATUS] def LN_STATUS_HEAD_FLAGS (n : Nat) : Fld := ⟨LN_STATUS n, 15, 8⟩
@[inherit_doc LN_STATUS] def LN_STATUS_REASON (n : Nat) : Fld := ⟨LN_STATUS n, 7, 4⟩
@[inherit_doc LN_STATUS] def LN_STATUS_STATE (n : Nat) : Fld := ⟨LN_STATUS n, 2, 0⟩
/-- LN_LAST_SEQ_LO[n], 04. -/
abbrev LN_LAST_SEQ_LO (n : Nat) : Nat := 0x100044 + 0x400 * n
/-- LN_LAST_SEQ_HI[n], 04. -/
abbrev LN_LAST_SEQ_HI (n : Nat) : Nat := 0x100048 + 0x400 * n
/-- LN_LATENCY[n], 04. -/
abbrev LN_LATENCY (n : Nat) : Nat := 0x10004c + 0x400 * n
@[inherit_doc LN_LATENCY] def LN_LATENCY_MAX (n : Nat) : Fld := ⟨LN_LATENCY n, 31, 16⟩
@[inherit_doc LN_LATENCY] def LN_LATENCY_LAST (n : Nat) : Fld := ⟨LN_LATENCY n, 15, 0⟩
/-- LN_CNT[n][i], 04. -/
abbrev LN_CNT (n : Nat) (i : Nat) : Nat := 0x100080 + 0x400 * n + 4 * i
/-- LN_CNT_SAT[n], 04. -/
abbrev LN_CNT_SAT (n : Nat) : Nat := 0x1000c0 + 0x400 * n
@[inherit_doc LN_CNT_SAT] def LN_CNT_SAT_SAT (n : Nat) : Fld := ⟨LN_CNT_SAT n, 15, 0⟩
/-- LN_DESC_ID[n][q], 04. -/
abbrev LN_DESC_ID (n : Nat) (q : Nat) : Nat := 0x100100 + 0x400 * n + 0x50 * q
/-- LN_DESC_RATED[n][q], 04. -/
abbrev LN_DESC_RATED (n : Nat) (q : Nat) : Nat := 0x100104 + 0x400 * n + 0x50 * q
/-- LN_DESC_INFO[n][q], 04. -/
abbrev LN_DESC_INFO (n : Nat) (q : Nat) : Nat := 0x100108 + 0x400 * n + 0x50 * q
@[inherit_doc LN_DESC_INFO] def LN_DESC_INFO_VALID (n : Nat) (q : Nat) : Fld := ⟨LN_DESC_INFO n q, 8, 8⟩
@[inherit_doc LN_DESC_INFO] def LN_DESC_INFO_QTYPE (n : Nat) (q : Nat) : Fld := ⟨LN_DESC_INFO n q, 7, 0⟩
/-- LN_DESC_SEG_A[n][q][k], 04. -/
abbrev LN_DESC_SEG_A (n : Nat) (q : Nat) (k : Nat) : Nat := 0x100110 + 0x400 * n + 0x50 * q + 8 * k
@[inherit_doc LN_DESC_SEG_A] def LN_DESC_SEG_A_BREAK (n : Nat) (q : Nat) (k : Nat) : Fld := ⟨LN_DESC_SEG_A n q k, 31, 16⟩
@[inherit_doc LN_DESC_SEG_A] def LN_DESC_SEG_A_PHASE (n : Nat) (q : Nat) (k : Nat) : Fld := ⟨LN_DESC_SEG_A n q k, 15, 0⟩
/-- LN_DESC_SEG_B[n][q][k], 04. -/
abbrev LN_DESC_SEG_B (n : Nat) (q : Nat) (k : Nat) : Nat := 0x100114 + 0x400 * n + 0x50 * q + 8 * k
/-- LN_G_STATUS, 04. -/
abbrev LN_G_STATUS : Nat := 0x100380
@[inherit_doc LN_G_STATUS] def LN_G_STATUS_DEGRADED_COUNT : Fld := ⟨LN_G_STATUS, 24, 16⟩
@[inherit_doc LN_G_STATUS] def LN_G_STATUS_UP_COUNT : Fld := ⟨LN_G_STATUS, 8, 0⟩
/-- LN_G_CNT[i], 04. -/
abbrev LN_G_CNT (i : Nat) : Nat := 0x100384 + 4 * i
/-- LN_G_SAT, 04. -/
abbrev LN_G_SAT : Nat := 0x100390
@[inherit_doc LN_G_SAT] def LN_G_SAT_SAT : Fld := ⟨LN_G_SAT, 2, 0⟩

/-- Rows of the register tables of 04_measurement_lanes.md. -/
def regsLanes0 : List RegSpec := [
  ⟨0x100000, [(1024, 256)], 0x30000, .c, [.all 19 16 .rwl, .all 12 11 .rwl, .all 10 8 .rwl, .all 4 4 .rwl, .all 3 3 .rwl, .rng 2 1 .rwl 0 1, .all 0 0 .rwl]⟩,
  ⟨0x100004, [(1024, 256)], 0, .c, [.all 31 0 .rwl]⟩,
  ⟨0x100008, [(1024, 256)], 0, .c, [.all 31 0 .rwl]⟩,
  ⟨0x10000c, [(1024, 256)], 0, .c, [.all 16 16 .rwl, .all 15 8 .rwl, .all 7 0 .rwl]⟩,
  ⟨0x100010, [(1024, 256)], 0x640a0032, .c, [.rng 31 24 .rw 1 0xff, .rng 23 16 .rw 1 0xff, .rng 15 0 .rw 0xa 0x2710]⟩,
  ⟨0x100014, [(1024, 256)], 0x3207d0, .c, [.rng 25 16 .rw 0 0x3e8, .rng 15 0 .rw 0x64 0x4e20]⟩,
  ⟨0x100018, [(1024, 256)], 0x14000, .c, [.all 19 19 .rw, .all 18 16 .rw, .rng 15 0 .rw 0x4000 0x7fff]⟩,
  ⟨0x10001c, [(1024, 256)], 0, .c, [.all 0 0 .wo]⟩,
  ⟨0x100040, [(1024, 256)], 0, .c, [.all 21 21 .ro, .all 20 20 .ro, .all 19 16 .ro, .all 15 8 .ro, .all 7 4 .ro, .all 2 0 .ro]⟩,
  ⟨0x100044, [(1024, 256)], 0, .c, [.all 31 0 .ro]⟩,
  ⟨0x100048, [(1024, 256)], 0, .c, [.all 31 0 .ro]⟩,
  ⟨0x10004c, [(1024, 256)], 0, .c, [.all 31 16 .rw, .all 15 0 .ro]⟩,
  ⟨0x100080, [(1024, 256), (4, 16)], 0, .c, [.all 31 0 .rw]⟩,
  ⟨0x1000c0, [(1024, 256)], 0, .c, [.all 15 0 .ro]⟩,
  ⟨0x100100, [(1024, 256), (80, 8)], 0, .c, [.all 31 0 .ro]⟩,
  ⟨0x100104, [(1024, 256), (80, 8)], 0, .c, [.all 31 0 .ro]⟩,
  ⟨0x100108, [(1024, 256), (80, 8)], 0, .c, [.all 8 8 .ro, .all 7 0 .ro]⟩,
  ⟨0x100110, [(1024, 256), (80, 8), (8, 8)], 0, .c, [.all 31 16 .ro, .all 15 0 .ro]⟩,
  ⟨0x100114, [(1024, 256), (80, 8), (8, 8)], 0, .c, [.all 31 0 .ro]⟩,
  ⟨0x100380, [], 0, .c, [.all 24 16 .ro, .all 8 0 .ro]⟩]

/-- Rows of the register tables of 04_measurement_lanes.md. -/
def regsLanes1 : List RegSpec := [
  ⟨0x100384, [(4, 3)], 0, .c, [.all 31 0 .rw]⟩,
  ⟨0x100390, [], 0, .c, [.all 2 0 .ro]⟩]

/-- The register table of 04_measurement_lanes.md. -/
def regsLanes : List RegSpec := regsLanes0 ++ regsLanes1

end Sys2Proof.Machine
end

