-- ==== Sys2Proof/Machine/RegsMetrology.lean ====
section
/-!
DEFINITION. The registers of 09_metrology.md: the offset of each (with its indices), its fields, and the row of its table:
offset, strides and counts, reset value, reset class, and each field's access type and stated range (R5, R6, R9).
-/

namespace Sys2Proof.Machine

/-- ME_CFG[n], 09. -/
abbrev ME_CFG (n : Nat) : Nat := 0x340000 + 0x100 * n
@[inherit_doc ME_CFG] def ME_CFG_ELEM_EN (n : Nat) : Fld := ⟨ME_CFG n, 7, 4⟩
@[inherit_doc ME_CFG] def ME_CFG_EN (n : Nat) : Fld := ⟨ME_CFG n, 0, 0⟩
/-- ME_ELEM[n], 09. -/
abbrev ME_ELEM (n : Nat) : Nat := 0x340004 + 0x100 * n
@[inherit_doc ME_ELEM] def ME_ELEM_V0 (n : Nat) : Fld := ⟨ME_ELEM n, 2, 0⟩
@[inherit_doc ME_ELEM] def ME_ELEM_I0 (n : Nat) : Fld := ⟨ME_ELEM n, 6, 4⟩
@[inherit_doc ME_ELEM] def ME_ELEM_V1 (n : Nat) : Fld := ⟨ME_ELEM n, 10, 8⟩
@[inherit_doc ME_ELEM] def ME_ELEM_I1 (n : Nat) : Fld := ⟨ME_ELEM n, 14, 12⟩
@[inherit_doc ME_ELEM] def ME_ELEM_V2 (n : Nat) : Fld := ⟨ME_ELEM n, 18, 16⟩
@[inherit_doc ME_ELEM] def ME_ELEM_I2 (n : Nat) : Fld := ⟨ME_ELEM n, 22, 20⟩
@[inherit_doc ME_ELEM] def ME_ELEM_V3 (n : Nat) : Fld := ⟨ME_ELEM n, 26, 24⟩
@[inherit_doc ME_ELEM] def ME_ELEM_I3 (n : Nat) : Fld := ⟨ME_ELEM n, 30, 28⟩
/-- ME_PMAX[n], 09. -/
abbrev ME_PMAX (n : Nat) : Nat := 0x340008 + 0x100 * n
@[inherit_doc ME_PMAX] def ME_PMAX_PMAX (n : Nat) : Fld := ⟨ME_PMAX n, 13, 0⟩
/-- ME_CREEP[n], 09. -/
abbrev ME_CREEP (n : Nat) : Nat := 0x34000c + 0x100 * n
@[inherit_doc ME_CREEP] def ME_CREEP_START_P (n : Nat) : Fld := ⟨ME_CREEP n, 31, 16⟩
@[inherit_doc ME_CREEP] def ME_CREEP_START_I (n : Nat) : Fld := ⟨ME_CREEP n, 15, 0⟩
/-- ME_REV[n], 09. -/
abbrev ME_REV (n : Nat) : Nat := 0x340010 + 0x100 * n
@[inherit_doc ME_REV] def ME_REV_N (n : Nat) : Fld := ⟨ME_REV n, 31, 24⟩
@[inherit_doc ME_REV] def ME_REV_OFF (n : Nat) : Fld := ⟨ME_REV n, 23, 12⟩
@[inherit_doc ME_REV] def ME_REV_ON (n : Nat) : Fld := ⟨ME_REV n, 11, 0⟩
/-- ME_GAIN[n][q], 09. -/
abbrev ME_GAIN (n : Nat) (q : Nat) : Nat := 0x340020 + 0x100 * n + 4 * q
/-- ME_OFFSET[n][q], 09. -/
abbrev ME_OFFSET (n : Nat) (q : Nat) : Nat := 0x340040 + 0x100 * n + 4 * q
/-- ME_DELAY[n][q], 09. -/
abbrev ME_DELAY (n : Nat) (q : Nat) : Nat := 0x340060 + 0x100 * n + 4 * q
/-- ME_STATUS[n], 09. -/
abbrev ME_STATUS (n : Nat) : Nat := 0x340080 + 0x100 * n
@[inherit_doc ME_STATUS] def ME_STATUS_EXPORT (n : Nat) : Fld := ⟨ME_STATUS n, 4, 4⟩
@[inherit_doc ME_STATUS] def ME_STATUS_QTYPE_ERR (n : Nat) : Fld := ⟨ME_STATUS n, 3, 3⟩
@[inherit_doc ME_STATUS] def ME_STATUS_CREEP (n : Nat) : Fld := ⟨ME_STATUS n, 2, 2⟩
@[inherit_doc ME_STATUS] def ME_STATUS_REVERSE (n : Nat) : Fld := ⟨ME_STATUS n, 1, 1⟩
@[inherit_doc ME_STATUS] def ME_STATUS_ACTIVE (n : Nat) : Fld := ⟨ME_STATUS n, 0, 0⟩
/-- ME_IMP_ACT_LO[n], 09. -/
abbrev ME_IMP_ACT_LO (n : Nat) : Nat := 0x340084 + 0x100 * n
/-- ME_IMP_ACT_HI[n], 09. -/
abbrev ME_IMP_ACT_HI (n : Nat) : Nat := 0x340088 + 0x100 * n
/-- ME_EXP_ACT_LO[n], 09. -/
abbrev ME_EXP_ACT_LO (n : Nat) : Nat := 0x34008c + 0x100 * n
/-- ME_EXP_ACT_HI[n], 09. -/
abbrev ME_EXP_ACT_HI (n : Nat) : Nat := 0x340090 + 0x100 * n
/-- ME_IMP_REACT_LO[n], 09. -/
abbrev ME_IMP_REACT_LO (n : Nat) : Nat := 0x340094 + 0x100 * n
/-- ME_IMP_REACT_HI[n], 09. -/
abbrev ME_IMP_REACT_HI (n : Nat) : Nat := 0x340098 + 0x100 * n
/-- ME_EXP_REACT_LO[n], 09. -/
abbrev ME_EXP_REACT_LO (n : Nat) : Nat := 0x34009c + 0x100 * n
/-- ME_EXP_REACT_HI[n], 09. -/
abbrev ME_EXP_REACT_HI (n : Nat) : Nat := 0x3400a0 + 0x100 * n
/-- ME_P[n], 09. -/
abbrev ME_P (n : Nat) : Nat := 0x3400a4 + 0x100 * n
/-- ME_Q[n], 09. -/
abbrev ME_Q (n : Nat) : Nat := 0x3400a8 + 0x100 * n
/-- ME_RMS[n][q], 09. -/
abbrev ME_RMS (n : Nat) (q : Nat) : Nat := 0x3400b0 + 0x100 * n + 4 * q
/-- ME_REC_SEQ_LO[n], 09. -/
abbrev ME_REC_SEQ_LO (n : Nat) : Nat := 0x3400d0 + 0x100 * n
/-- ME_REC_SEQ_HI[n], 09. -/
abbrev ME_REC_SEQ_HI (n : Nat) : Nat := 0x3400d4 + 0x100 * n
/-- ME_TEST_IMP_LO[n], 09. -/
abbrev ME_TEST_IMP_LO (n : Nat) : Nat := 0x3400d8 + 0x100 * n
/-- ME_TEST_IMP_HI[n], 09. -/
abbrev ME_TEST_IMP_HI (n : Nat) : Nat := 0x3400dc + 0x100 * n
/-- ME_TEST_EXP_LO[n], 09. -/
abbrev ME_TEST_EXP_LO (n : Nat) : Nat := 0x3400e0 + 0x100 * n
/-- ME_TEST_EXP_HI[n], 09. -/
abbrev ME_TEST_EXP_HI (n : Nat) : Nat := 0x3400e4 + 0x100 * n
/-- ME_CNT[n][i], 09. -/
abbrev ME_CNT (n : Nat) (i : Nat) : Nat := 0x3400e8 + 0x100 * n + 4 * i
/-- ME_CNT_SAT[n], 09. -/
abbrev ME_CNT_SAT (n : Nat) : Nat := 0x3400f8 + 0x100 * n
@[inherit_doc ME_CNT_SAT] def ME_CNT_SAT_SAT (n : Nat) : Fld := ⟨ME_CNT_SAT n, 3, 0⟩
/-- ME_G_CFG, 09. -/
abbrev ME_G_CFG : Nat := 0x350000
@[inherit_doc ME_G_CFG] def ME_G_CFG_LEDGER_EN : Fld := ⟨ME_G_CFG, 16, 16⟩
@[inherit_doc ME_G_CFG] def ME_G_CFG_LEDGER_SLOT : Fld := ⟨ME_G_CFG, 15, 8⟩
@[inherit_doc ME_G_CFG] def ME_G_CFG_DLV_RING : Fld := ⟨ME_G_CFG, 6, 4⟩
@[inherit_doc ME_G_CFG] def ME_G_CFG_DUAL : Fld := ⟨ME_G_CFG, 3, 3⟩
@[inherit_doc ME_G_CFG] def ME_G_CFG_INTERVAL : Fld := ⟨ME_G_CFG, 2, 0⟩
/-- ME_G_STATUS, 09. -/
abbrev ME_G_STATUS : Nat := 0x350004
@[inherit_doc ME_G_STATUS] def ME_G_STATUS_QUEUED : Fld := ⟨ME_G_STATUS, 31, 16⟩
@[inherit_doc ME_G_STATUS] def ME_G_STATUS_QUEUE_LOW : Fld := ⟨ME_G_STATUS, 7, 7⟩
@[inherit_doc ME_G_STATUS] def ME_G_STATUS_RESTORED_OLDER : Fld := ⟨ME_G_STATUS, 6, 6⟩
@[inherit_doc ME_G_STATUS] def ME_G_STATUS_SAVE_INCOMPLETE : Fld := ⟨ME_G_STATUS, 5, 5⟩
@[inherit_doc ME_G_STATUS] def ME_G_STATUS_HOLDUP : Fld := ⟨ME_G_STATUS, 4, 4⟩
@[inherit_doc ME_G_STATUS] def ME_G_STATUS_DUAL_ACTIVE : Fld := ⟨ME_G_STATUS, 3, 3⟩
@[inherit_doc ME_G_STATUS] def ME_G_STATUS_MODE : Fld := ⟨ME_G_STATUS, 1, 0⟩
/-- ME_LOAD, 09. -/
abbrev ME_LOAD : Nat := 0x350008
@[inherit_doc ME_LOAD] def ME_LOAD_LOAD : Fld := ⟨ME_LOAD, 26, 0⟩
/-- ME_SAVE_SEQ_LO, 09. -/
abbrev ME_SAVE_SEQ_LO : Nat := 0x35000c
/-- ME_SAVE_SEQ_HI, 09. -/
abbrev ME_SAVE_SEQ_HI : Nat := 0x350010
/-- ME_LEDGER_HEAD_LO, 09. -/
abbrev ME_LEDGER_HEAD_LO : Nat := 0x350018
/-- ME_LEDGER_HEAD_HI, 09. -/
abbrev ME_LEDGER_HEAD_HI : Nat := 0x35001c
/-- ME_SAVE_AGE, 09. -/
abbrev ME_SAVE_AGE : Nat := 0x350014
/-- ME_LEDGER_ACK_LO, 09. -/
abbrev ME_LEDGER_ACK_LO : Nat := 0x350020
/-- ME_LEDGER_ACK_HI, 09. -/
abbrev ME_LEDGER_ACK_HI : Nat := 0x350024
/-- ME_LEDGER_CTRL, 09. -/
abbrev ME_LEDGER_CTRL : Nat := 0x350028
@[inherit_doc ME_LEDGER_CTRL] def ME_LEDGER_CTRL_RESEND : Fld := ⟨ME_LEDGER_CTRL, 0, 0⟩
/-- ME_G_CNT[i], 09. -/
abbrev ME_G_CNT (i : Nat) : Nat := 0x350040 + 4 * i
/-- ME_G_SAT, 09. -/
abbrev ME_G_SAT : Nat := 0x350050
@[inherit_doc ME_G_SAT] def ME_G_SAT_SAT : Fld := ⟨ME_G_SAT, 3, 0⟩
/-- PO_CFG[p], 09. -/
abbrev PO_CFG (p : Nat) : Nat := 0x360000 + 0x20 * p
@[inherit_doc PO_CFG] def PO_CFG_WIDTH (p : Nat) : Fld := ⟨PO_CFG p, 31, 16⟩
@[inherit_doc PO_CFG] def PO_CFG_POL (p : Nat) : Fld := ⟨PO_CFG p, 12, 12⟩
@[inherit_doc PO_CFG] def PO_CFG_REG (p : Nat) : Fld := ⟨PO_CFG p, 11, 9⟩
@[inherit_doc PO_CFG] def PO_CFG_LANE (p : Nat) : Fld := ⟨PO_CFG p, 8, 1⟩
@[inherit_doc PO_CFG] def PO_CFG_EN (p : Nat) : Fld := ⟨PO_CFG p, 0, 0⟩
/-- PO_CONST[p], 09. -/
abbrev PO_CONST (p : Nat) : Nat := 0x360004 + 0x20 * p
@[inherit_doc PO_CONST] def PO_CONST_CONST (p : Nat) : Fld := ⟨PO_CONST p, 29, 0⟩
/-- PO_STATUS[p], 09. -/
abbrev PO_STATUS (p : Nat) : Nat := 0x360008 + 0x20 * p
@[inherit_doc PO_STATUS] def PO_STATUS_BACKLOG (p : Nat) : Fld := ⟨PO_STATUS p, 31, 16⟩
@[inherit_doc PO_STATUS] def PO_STATUS_OVERRUN (p : Nat) : Fld := ⟨PO_STATUS p, 1, 1⟩
@[inherit_doc PO_STATUS] def PO_STATUS_DRIVEN (p : Nat) : Fld := ⟨PO_STATUS p, 0, 0⟩
/-- PO_COUNT[p], 09. -/
abbrev PO_COUNT (p : Nat) : Nat := 0x36000c + 0x20 * p
/-- LA_SEAL, 09. -/
abbrev LA_SEAL : Nat := 0x388000
/-- LA_COUNT, 09. -/
abbrev LA_COUNT : Nat := 0x388004
@[inherit_doc LA_COUNT] def LA_COUNT_USED : Fld := ⟨LA_COUNT, 13, 0⟩
/-- LA_STATUS, 09. -/
abbrev LA_STATUS : Nat := 0x388008
@[inherit_doc LA_STATUS] def LA_STATUS_LOST : Fld := ⟨LA_STATUS, 2, 2⟩
@[inherit_doc LA_STATUS] def LA_STATUS_EXHAUSTED : Fld := ⟨LA_STATUS, 1, 1⟩
@[inherit_doc LA_STATUS] def LA_STATUS_FULL : Fld := ⟨LA_STATUS, 0, 0⟩
/-- LA_LOST, 09. -/
abbrev LA_LOST : Nat := 0x38800c
/-- CAL_TAMP_CFG, 09. -/
abbrev CAL_TAMP_CFG : Nat := 0x30200
@[inherit_doc CAL_TAMP_CFG] def CAL_TAMP_CFG_DEGLITCH : Fld := ⟨CAL_TAMP_CFG, 25, 16⟩
@[inherit_doc CAL_TAMP_CFG] def CAL_TAMP_CFG_POL1 : Fld := ⟨CAL_TAMP_CFG, 3, 3⟩
@[inherit_doc CAL_TAMP_CFG] def CAL_TAMP_CFG_POL0 : Fld := ⟨CAL_TAMP_CFG, 2, 2⟩
@[inherit_doc CAL_TAMP_CFG] def CAL_TAMP_CFG_EN1 : Fld := ⟨CAL_TAMP_CFG, 1, 1⟩
@[inherit_doc CAL_TAMP_CFG] def CAL_TAMP_CFG_EN0 : Fld := ⟨CAL_TAMP_CFG, 0, 0⟩
/-- CAL_TAMP_STAT, 09. -/
abbrev CAL_TAMP_STAT : Nat := 0x30204
@[inherit_doc CAL_TAMP_STAT] def CAL_TAMP_STAT_LEVEL : Fld := ⟨CAL_TAMP_STAT, 9, 8⟩
@[inherit_doc CAL_TAMP_STAT] def CAL_TAMP_STAT_TAMP1 : Fld := ⟨CAL_TAMP_STAT, 1, 1⟩
@[inherit_doc CAL_TAMP_STAT] def CAL_TAMP_STAT_TAMP0 : Fld := ⟨CAL_TAMP_STAT, 0, 0⟩
/-- CAL_SENT_CFG, 09. -/
abbrev CAL_SENT_CFG : Nat := 0x30210
@[inherit_doc CAL_SENT_CFG] def CAL_SENT_CFG_EN : Fld := ⟨CAL_SENT_CFG, 0, 0⟩
/-- CAL_SENT_IN[i], 09. -/
abbrev CAL_SENT_IN (i : Nat) : Nat := 0x30214 + 4 * i
@[inherit_doc CAL_SENT_IN] def CAL_SENT_IN_THR (i : Nat) : Fld := ⟨CAL_SENT_IN i, 31, 16⟩
@[inherit_doc CAL_SENT_IN] def CAL_SENT_IN_EN (i : Nat) : Fld := ⟨CAL_SENT_IN i, 6, 6⟩
@[inherit_doc CAL_SENT_IN] def CAL_SENT_IN_AIN (i : Nat) : Fld := ⟨CAL_SENT_IN i, 5, 0⟩
/-- CAL_SENT_RMS[i], 09. -/
abbrev CAL_SENT_RMS (i : Nat) : Nat := 0x30224 + 4 * i
@[inherit_doc CAL_SENT_RMS] def CAL_SENT_RMS_MAX (i : Nat) : Fld := ⟨CAL_SENT_RMS i, 31, 16⟩
@[inherit_doc CAL_SENT_RMS] def CAL_SENT_RMS_LAST (i : Nat) : Fld := ⟨CAL_SENT_RMS i, 15, 0⟩
/-- CAL_OLOG_SEQ, 09. -/
abbrev CAL_OLOG_SEQ : Nat := 0x30240
/-- CAL_OLOG[e][w], 09. -/
abbrev CAL_OLOG (e : Nat) (w : Nat) : Nat := 0x30300 + 0x10 * e + 4 * w

/-- Rows of the register tables of 09_metrology.md. -/
def regsMetrology0 : List RegSpec := [
  ⟨0x340000, [(256, 256)], 0, .c, [.all 7 4 .rwl, .all 0 0 .rwl]⟩,
  ⟨0x340004, [(256, 256)], 0x10, .c, [.all 2 0 .rwl, .all 6 4 .rwl, .all 10 8 .rwl, .all 14 12 .rwl, .all 18 16 .rwl, .all 22 20 .rwl, .all 26 24 .rwl, .all 30 28 .rwl]⟩,
  ⟨0x340008, [(256, 256)], 0, .c, [.rng 13 0 .rwl 1 0x2ee0]⟩,
  ⟨0x34000c, [(256, 256)], 0xa0064, .c, [.all 31 16 .rwl, .all 15 0 .rwl]⟩,
  ⟨0x340010, [(256, 256)], 0x32032064, .c, [.rng 31 24 .rwl 1 0xff, .rng 23 12 .rwl 1 0xfff, .rng 11 0 .rwl 1 0xfff]⟩,
  ⟨0x340020, [(256, 256), (4, 8)], 0x40000000, .c, [.rng 31 0 .rwl 1 0x7fffffff]⟩,
  ⟨0x340040, [(256, 256), (4, 8)], 0, .c, [.sgn 31 0 .rwl (-65536) 65535]⟩,
  ⟨0x340060, [(256, 256), (4, 8)], 0, .c, [.sgn 31 0 .rwl (-8192) 8191]⟩,
  ⟨0x340080, [(256, 256)], 0, .c, [.all 4 4 .ro, .all 3 3 .ro, .all 2 2 .ro, .all 1 1 .ro, .all 0 0 .ro]⟩,
  ⟨0x340084, [(256, 256)], 0, .c, [.all 31 0 .ro]⟩,
  ⟨0x340088, [(256, 256)], 0, .c, [.all 31 0 .ro]⟩,
  ⟨0x34008c, [(256, 256)], 0, .c, [.all 31 0 .ro]⟩,
  ⟨0x340090, [(256, 256)], 0, .c, [.all 31 0 .ro]⟩,
  ⟨0x340094, [(256, 256)], 0, .c, [.all 31 0 .ro]⟩,
  ⟨0x340098, [(256, 256)], 0, .c, [.all 31 0 .ro]⟩,
  ⟨0x34009c, [(256, 256)], 0, .c, [.all 31 0 .ro]⟩,
  ⟨0x3400a0, [(256, 256)], 0, .c, [.all 31 0 .ro]⟩,
  ⟨0x3400a4, [(256, 256)], 0, .c, [.all 31 0 .ro]⟩,
  ⟨0x3400a8, [(256, 256)], 0, .c, [.all 31 0 .ro]⟩,
  ⟨0x3400b0, [(256, 256), (4, 8)], 0, .c, [.all 31 0 .ro]⟩]

/-- Rows of the register tables of 09_metrology.md. -/
def regsMetrology1 : List RegSpec := [
  ⟨0x3400d0, [(256, 256)], 0, .c, [.all 31 0 .ro]⟩,
  ⟨0x3400d4, [(256, 256)], 0, .c, [.all 31 0 .ro]⟩,
  ⟨0x3400d8, [(256, 256)], 0, .c, [.all 31 0 .ro]⟩,
  ⟨0x3400dc, [(256, 256)], 0, .c, [.all 31 0 .ro]⟩,
  ⟨0x3400e0, [(256, 256)], 0, .c, [.all 31 0 .ro]⟩,
  ⟨0x3400e4, [(256, 256)], 0, .c, [.all 31 0 .ro]⟩,
  ⟨0x3400e8, [(256, 256), (4, 4)], 0, .c, [.all 31 0 .rw]⟩,
  ⟨0x3400f8, [(256, 256)], 0, .c, [.all 3 0 .ro]⟩,
  ⟨0x350000, [], 3, .c, [.all 16 16 .rwl, .all 15 8 .rwl, .all 6 4 .rwl, .all 3 3 .rwl, .rng 2 0 .rwl 0 5]⟩,
  ⟨0x350004, [], 1, .c, [.all 31 16 .ro, .all 7 7 .ro, .all 6 6 .ro, .all 5 5 .ro, .all 4 4 .ro, .all 3 3 .ro, .all 1 0 .ro]⟩,
  ⟨0x350008, [], 0, .c, [.all 26 0 .ro]⟩,
  ⟨0x35000c, [], 0, .c, [.all 31 0 .ro]⟩,
  ⟨0x350010, [], 0, .c, [.all 31 0 .ro]⟩,
  ⟨0x350018, [], 0, .c, [.all 31 0 .ro]⟩,
  ⟨0x35001c, [], 0, .c, [.all 31 0 .ro]⟩,
  ⟨0x350014, [], 0, .c, [.all 31 0 .ro]⟩,
  ⟨0x350020, [], 0, .c, [.all 31 0 .rw]⟩,
  ⟨0x350024, [], 0, .c, [.all 31 0 .rw]⟩,
  ⟨0x350028, [], 0, .c, [.all 0 0 .wo]⟩,
  ⟨0x350040, [(4, 4)], 0, .c, [.all 31 0 .rw]⟩]

/-- Rows of the register tables of 09_metrology.md. -/
def regsMetrology2 : List RegSpec := [
  ⟨0x350050, [], 0, .c, [.all 3 0 .ro]⟩,
  ⟨0x360000, [(32, 8)], 0x280000, .c, [.rng 31 16 .rwl 0xa 0xc350, .all 12 12 .rwl, .rng 11 9 .rwl 0 4, .all 8 1 .rwl, .all 0 0 .rwl]⟩,
  ⟨0x360004, [(32, 8)], 0x2710, .c, [.rng 29 0 .rwl 0x3e8 0x3b9aca00]⟩,
  ⟨0x360008, [(32, 8)], 0, .c, [.all 31 16 .ro, .all 1 1 .ro, .all 0 0 .ro]⟩,
  ⟨0x36000c, [(32, 8)], 0, .c, [.all 31 0 .ro]⟩,
  ⟨0x388000, [], 0, .nv, [.all 31 0 .ro]⟩,
  ⟨0x388004, [], 0, .nv, [.all 13 0 .ro]⟩,
  ⟨0x388008, [], 0, .nv, [.all 2 2 .ro, .all 1 1 .ro, .all 0 0 .ro]⟩,
  ⟨0x38800c, [], 0, .nv, [.all 31 0 .ro]⟩,
  ⟨0x30200, [], 0, .p, [.rng 25 16 .rw 0 0x3e8, .all 3 3 .rw, .all 2 2 .rw, .all 1 1 .rw, .all 0 0 .rw]⟩,
  ⟨0x30204, [], 0, .p, [.all 9 8 .ro, .all 1 1 .w1c, .all 0 0 .w1c]⟩,
  ⟨0x30210, [], 0, .p, [.all 0 0 .rw]⟩,
  ⟨0x30214, [(4, 4)], 0x320000, .p, [.rng 31 16 .rw 1 0x1388, .all 6 6 .rw, .all 5 0 .rw]⟩,
  ⟨0x30224, [(4, 4)], 0, .p, [.all 31 16 .ro, .all 15 0 .ro]⟩,
  ⟨0x30240, [], 0, .p, [.all 31 0 .ro]⟩,
  ⟨0x30300, [(16, 16), (4, 4)], 0, .p, [.all 31 0 .ro]⟩]

/-- The register table of 09_metrology.md. -/
def regsMetrology : List RegSpec := regsMetrology0 ++ regsMetrology1 ++ regsMetrology2

end Sys2Proof.Machine
end

