-- ==== Sys2Proof/Machine/RegsPair.lean ====
section
/-!
DEFINITION. The registers of 14_pair_and_causeway.md: the offset of each (with its indices), its fields, and the row of its table:
offset, strides and counts, reset value, reset class, and each field's access type and stated range (R5, R6, R9).
-/

namespace Sys2Proof.Machine

/-- CW_CFG, 14. -/
abbrev CW_CFG : Nat := 0x3d0000
@[inherit_doc CW_CFG] def CW_CFG_CKPT_S : Fld := ⟨CW_CFG, 31, 24⟩
@[inherit_doc CW_CFG] def CW_CFG_MATCH_MS : Fld := ⟨CW_CFG, 23, 16⟩
@[inherit_doc CW_CFG] def CW_CFG_KEY_SLOT : Fld := ⟨CW_CFG, 15, 8⟩
@[inherit_doc CW_CFG] def CW_CFG_PAIR_EN : Fld := ⟨CW_CFG, 0, 0⟩
/-- CW_PAIR_ID_LO, 14. -/
abbrev CW_PAIR_ID_LO : Nat := 0x3d0004
/-- CW_PAIR_ID_HI, 14. -/
abbrev CW_PAIR_ID_HI : Nat := 0x3d0008
/-- CW_STATUS, 14. -/
abbrev CW_STATUS : Nat := 0x3d000c
@[inherit_doc CW_STATUS] def CW_STATUS_CLASS_SYNC : Fld := ⟨CW_STATUS, 31, 24⟩
@[inherit_doc CW_STATUS] def CW_STATUS_DUAL_PRIMARY : Fld := ⟨CW_STATUS, 9, 9⟩
@[inherit_doc CW_STATUS] def CW_STATUS_CFG_DIFFER : Fld := ⟨CW_STATUS, 8, 8⟩
@[inherit_doc CW_STATUS] def CW_STATUS_LANE_UP : Fld := ⟨CW_STATUS, 7, 6⟩
@[inherit_doc CW_STATUS] def CW_STATUS_PARTNER : Fld := ⟨CW_STATUS, 5, 5⟩
@[inherit_doc CW_STATUS] def CW_STATUS_SYNC : Fld := ⟨CW_STATUS, 3, 2⟩
@[inherit_doc CW_STATUS] def CW_STATUS_ROLE : Fld := ⟨CW_STATUS, 1, 0⟩
/-- CW_PARTNER_LO, 14. -/
abbrev CW_PARTNER_LO : Nat := 0x3d0010
/-- CW_PARTNER_HI, 14. -/
abbrev CW_PARTNER_HI : Nat := 0x3d0014
/-- CW_LAG, 14. -/
abbrev CW_LAG : Nat := 0x3d0018
@[inherit_doc CW_LAG] def CW_LAG_MAX : Fld := ⟨CW_LAG, 31, 16⟩
@[inherit_doc CW_LAG] def CW_LAG_LAG : Fld := ⟨CW_LAG, 15, 0⟩
/-- CW_EPOCH, 14. -/
abbrev CW_EPOCH : Nat := 0x3d001c
@[inherit_doc CW_EPOCH] def CW_EPOCH_EPOCH : Fld := ⟨CW_EPOCH, 23, 0⟩
/-- CW_ROLE_SINCE_LO, 14. -/
abbrev CW_ROLE_SINCE_LO : Nat := 0x3d0020
/-- CW_ROLE_SINCE_HI, 14. -/
abbrev CW_ROLE_SINCE_HI : Nat := 0x3d0024
/-- CW_PROOF, 14. -/
abbrev CW_PROOF : Nat := 0x3d0028
@[inherit_doc CW_PROOF] def CW_PROOF_DAYS : Fld := ⟨CW_PROOF, 31, 16⟩
@[inherit_doc CW_PROOF] def CW_PROOF_FAILED : Fld := ⟨CW_PROOF, 11, 8⟩
@[inherit_doc CW_PROOF] def CW_PROOF_PROVEN : Fld := ⟨CW_PROOF, 3, 0⟩
/-- CW_LANE_STAT[l], 14. -/
abbrev CW_LANE_STAT (l : Nat) : Nat := 0x3d0030 + 4 * l
@[inherit_doc CW_LANE_STAT] def CW_LANE_STAT_EYE (l : Nat) : Fld := ⟨CW_LANE_STAT l, 31, 16⟩
@[inherit_doc CW_LANE_STAT] def CW_LANE_STAT_UP (l : Nat) : Fld := ⟨CW_LANE_STAT l, 0, 0⟩
/-- CW_CNT[i], 14. -/
abbrev CW_CNT (i : Nat) : Nat := 0x3d0040 + 4 * i
/-- CW_SAT, 14. -/
abbrev CW_SAT : Nat := 0x3d0070
@[inherit_doc CW_SAT] def CW_SAT_SAT : Fld := ⟨CW_SAT, 11, 0⟩

/-- Rows of the register tables of 14_pair_and_causeway.md. -/
def regsPair : List RegSpec := [
  ⟨0x3d0000, [], 0xa140000, .c, [.rng 31 24 .rw 1 0xff, .rng 23 16 .rw 2 0x64, .all 15 8 .rw, .all 0 0 .rw]⟩,
  ⟨0x3d0004, [], 0, .c, [.all 31 0 .rw]⟩,
  ⟨0x3d0008, [], 0, .c, [.all 31 0 .rw]⟩,
  ⟨0x3d000c, [], 0, .c, [.all 31 24 .ro, .all 9 9 .ro, .all 8 8 .ro, .all 7 6 .ro, .all 5 5 .ro, .all 3 2 .ro, .all 1 0 .ro]⟩,
  ⟨0x3d0010, [], 0, .c, [.all 31 0 .ro]⟩,
  ⟨0x3d0014, [], 0, .c, [.all 31 0 .ro]⟩,
  ⟨0x3d0018, [], 0, .c, [.all 31 16 .rw, .all 15 0 .ro]⟩,
  ⟨0x3d001c, [], 0, .nv, [.all 23 0 .ro]⟩,
  ⟨0x3d0020, [], 0, .c, [.all 31 0 .ro]⟩,
  ⟨0x3d0024, [], 0, .c, [.all 31 0 .ro]⟩,
  ⟨0x3d0028, [], 0, .c, [.all 31 16 .ro, .all 11 8 .w1c, .all 3 0 .ro]⟩,
  ⟨0x3d0030, [(4, 2)], 0, .c, [.all 31 16 .ro, .all 0 0 .ro]⟩,
  ⟨0x3d0040, [(4, 12)], 0, .c, [.all 31 0 .rw]⟩,
  ⟨0x3d0070, [], 0, .c, [.all 11 0 .ro]⟩]

end Sys2Proof.Machine
end

