-- ==== Sys2Proof/Machine/RegsPhasor.lean ====
section
/-!
DEFINITION. The registers of 06_phasor_estimation.md: the offset of each (with its indices), its fields, and the row of its table:
offset, strides and counts, reset value, reset class, and each field's access type and stated range (R5, R6, R9).
-/

namespace Sys2Proof.Machine

/-- PE_G_CFG, 06. -/
abbrev PE_G_CFG : Nat := 0x160000
@[inherit_doc PE_G_CFG] def PE_G_CFG_F_NOM : Fld := ⟨PE_G_CFG, 0, 0⟩
/-- PE_G_LOAD, 06. -/
abbrev PE_G_LOAD : Nat := 0x160004
@[inherit_doc PE_G_LOAD] def PE_G_LOAD_LOAD : Fld := ⟨PE_G_LOAD, 19, 0⟩
/-- PE_FN_CFG[m], 06. -/
abbrev PE_FN_CFG (m : Nat) : Nat := 0x160100 + 0x100 * m
@[inherit_doc PE_FN_CFG] def PE_FN_CFG_H_EN (m : Nat) : Fld := ⟨PE_FN_CFG m, 11, 11⟩
@[inherit_doc PE_FN_CFG] def PE_FN_CFG_FREQ_SRC (m : Nat) : Fld := ⟨PE_FN_CFG m, 10, 8⟩
@[inherit_doc PE_FN_CFG] def PE_FN_CFG_NPH (m : Nat) : Fld := ⟨PE_FN_CFG m, 7, 5⟩
@[inherit_doc PE_FN_CFG] def PE_FN_CFG_RATE (m : Nat) : Fld := ⟨PE_FN_CFG m, 4, 2⟩
@[inherit_doc PE_FN_CFG] def PE_FN_CFG_CLASS (m : Nat) : Fld := ⟨PE_FN_CFG m, 1, 1⟩
@[inherit_doc PE_FN_CFG] def PE_FN_CFG_EN (m : Nat) : Fld := ⟨PE_FN_CFG m, 0, 0⟩
/-- PE_PH_SRC[m][j], 06. -/
abbrev PE_PH_SRC (m : Nat) (j : Nat) : Nat := 0x160110 + 0x100 * m + 8 * j
@[inherit_doc PE_PH_SRC] def PE_PH_SRC_CHAIN_C (m : Nat) (j : Nat) : Fld := ⟨PE_PH_SRC m j, 29, 24⟩
@[inherit_doc PE_PH_SRC] def PE_PH_SRC_CHAIN_B (m : Nat) (j : Nat) : Fld := ⟨PE_PH_SRC m j, 21, 16⟩
@[inherit_doc PE_PH_SRC] def PE_PH_SRC_CHAIN_A (m : Nat) (j : Nat) : Fld := ⟨PE_PH_SRC m j, 13, 8⟩
@[inherit_doc PE_PH_SRC] def PE_PH_SRC_TYPE (m : Nat) (j : Nat) : Fld := ⟨PE_PH_SRC m j, 1, 0⟩
/-- PE_PH_SCALE[m][j], 06. -/
abbrev PE_PH_SCALE (m : Nat) (j : Nat) : Nat := 0x160114 + 0x100 * m + 8 * j
/-- PE_FN_STAT[m], 06. -/
abbrev PE_FN_STAT (m : Nat) : Nat := 0x160150 + 0x100 * m
@[inherit_doc PE_FN_STAT] def PE_FN_STAT_SAT (m : Nat) : Fld := ⟨PE_FN_STAT m, 31, 16⟩
@[inherit_doc PE_FN_STAT] def PE_FN_STAT_FLAGS (m : Nat) : Fld := ⟨PE_FN_STAT m, 7, 0⟩
/-- PE_LF_STAT[n], 06. -/
abbrev PE_LF_STAT (n : Nat) : Nat := 0x162004 + 0x40 * n
@[inherit_doc PE_LF_STAT] def PE_LF_STAT_SAT (n : Nat) : Fld := ⟨PE_LF_STAT n, 31, 16⟩
@[inherit_doc PE_LF_STAT] def PE_LF_STAT_FLAGS (n : Nat) : Fld := ⟨PE_LF_STAT n, 7, 0⟩
/-- PE_FN_SEQ[m], 06. -/
abbrev PE_FN_SEQ (m : Nat) : Nat := 0x160154 + 0x100 * m
/-- PE_LF_SEQ[n], 06. -/
abbrev PE_LF_SEQ (n : Nat) : Nat := 0x162008 + 0x40 * n
/-- PE_FN_FREQ[m], 06. -/
abbrev PE_FN_FREQ (m : Nat) : Nat := 0x160158 + 0x100 * m
/-- PE_FN_CNT[m][i], 06. -/
abbrev PE_FN_CNT (m : Nat) (i : Nat) : Nat := 0x160160 + 0x100 * m + 4 * i
/-- PE_LF_CNT[n][i], 06. -/
abbrev PE_LF_CNT (n : Nat) (i : Nat) : Nat := 0x162010 + 0x40 * n + 4 * i
/-- PE_LF_CFG[n], 06. -/
abbrev PE_LF_CFG (n : Nat) : Nat := 0x162000 + 0x40 * n
@[inherit_doc PE_LF_CFG] def PE_LF_CFG_SEQI (n : Nat) : Fld := ⟨PE_LF_CFG n, 17, 17⟩
@[inherit_doc PE_LF_CFG] def PE_LF_CFG_SEQV (n : Nat) : Fld := ⟨PE_LF_CFG n, 16, 16⟩
@[inherit_doc PE_LF_CFG] def PE_LF_CFG_QMASK (n : Nat) : Fld := ⟨PE_LF_CFG n, 15, 8⟩
@[inherit_doc PE_LF_CFG] def PE_LF_CFG_FREQ_SRC (n : Nat) : Fld := ⟨PE_LF_CFG n, 7, 5⟩
@[inherit_doc PE_LF_CFG] def PE_LF_CFG_RATE (n : Nat) : Fld := ⟨PE_LF_CFG n, 4, 2⟩
@[inherit_doc PE_LF_CFG] def PE_LF_CFG_CLASS (n : Nat) : Fld := ⟨PE_LF_CFG n, 1, 1⟩
@[inherit_doc PE_LF_CFG] def PE_LF_CFG_EN (n : Nat) : Fld := ⟨PE_LF_CFG n, 0, 0⟩
/-- OS_CFG[s], 06. -/
abbrev OS_CFG (s : Nat) : Nat := 0x180000 + 0x100 * s
@[inherit_doc OS_CFG] def OS_CFG_CFG_EVERY (s : Nat) : Fld := ⟨OS_CFG s, 26, 20⟩
@[inherit_doc OS_CFG] def OS_CFG_SYNC_Q (s : Nat) : Fld := ⟨OS_CFG s, 19, 17⟩
@[inherit_doc OS_CFG] def OS_CFG_LATE_MARK (s : Nat) : Fld := ⟨OS_CFG s, 16, 16⟩
@[inherit_doc OS_CFG] def OS_CFG_IPV6 (s : Nat) : Fld := ⟨OS_CFG s, 15, 15⟩
@[inherit_doc OS_CFG] def OS_CFG_FORMAT (s : Nat) : Fld := ⟨OS_CFG s, 14, 11⟩
@[inherit_doc OS_CFG] def OS_CFG_RATE (s : Nat) : Fld := ⟨OS_CFG s, 10, 8⟩
@[inherit_doc OS_CFG] def OS_CFG_QUEUE (s : Nat) : Fld := ⟨OS_CFG s, 7, 5⟩
@[inherit_doc OS_CFG] def OS_CFG_PORT (s : Nat) : Fld := ⟨OS_CFG s, 4, 3⟩
@[inherit_doc OS_CFG] def OS_CFG_MODE (s : Nat) : Fld := ⟨OS_CFG s, 2, 1⟩
@[inherit_doc OS_CFG] def OS_CFG_EN (s : Nat) : Fld := ⟨OS_CFG s, 0, 0⟩
/-- OS_IDCODE[s], 06. -/
abbrev OS_IDCODE (s : Nat) : Nat := 0x180004 + 0x100 * s
@[inherit_doc OS_IDCODE] def OS_IDCODE_IDCODE (s : Nat) : Fld := ⟨OS_IDCODE s, 15, 0⟩
/-- OS_TIMEBASE[s], 06. -/
abbrev OS_TIMEBASE (s : Nat) : Nat := 0x180008 + 0x100 * s
@[inherit_doc OS_TIMEBASE] def OS_TIMEBASE_TIME_BASE (s : Nat) : Fld := ⟨OS_TIMEBASE s, 23, 0⟩
/-- OS_UDP[s], 06. -/
abbrev OS_UDP (s : Nat) : Nat := 0x18000c + 0x100 * s
@[inherit_doc OS_UDP] def OS_UDP_SRC_PORT (s : Nat) : Fld := ⟨OS_UDP s, 31, 16⟩
@[inherit_doc OS_UDP] def OS_UDP_DST_PORT (s : Nat) : Fld := ⟨OS_UDP s, 15, 0⟩
/-- OS_TCP[s], 06. -/
abbrev OS_TCP (s : Nat) : Nat := 0x180010 + 0x100 * s
@[inherit_doc OS_TCP] def OS_TCP_PORT (s : Nat) : Fld := ⟨OS_TCP s, 15, 0⟩
/-- OS_DST_IP[s][k], 06. -/
abbrev OS_DST_IP (s : Nat) (k : Nat) : Nat := 0x180020 + 0x100 * s + 4 * k
/-- OS_INFO[s], 06. -/
abbrev OS_INFO (s : Nat) : Nat := 0x180030 + 0x100 * s
@[inherit_doc OS_INFO] def OS_INFO_FRAME_LEN (s : Nat) : Fld := ⟨OS_INFO s, 31, 16⟩
@[inherit_doc OS_INFO] def OS_INFO_NBLK (s : Nat) : Fld := ⟨OS_INFO s, 10, 0⟩
/-- OS_STATUS[s], 06. -/
abbrev OS_STATUS (s : Nat) : Nat := 0x180034 + 0x100 * s
@[inherit_doc OS_STATUS] def OS_STATUS_SAT (s : Nat) : Fld := ⟨OS_STATUS s, 13, 8⟩
@[inherit_doc OS_STATUS] def OS_STATUS_ROUTE_OK (s : Nat) : Fld := ⟨OS_STATUS s, 2, 2⟩
@[inherit_doc OS_STATUS] def OS_STATUS_TCP_CONN (s : Nat) : Fld := ⟨OS_STATUS s, 1, 1⟩
@[inherit_doc OS_STATUS] def OS_STATUS_TX_ON (s : Nat) : Fld := ⟨OS_STATUS s, 0, 0⟩
/-- OS_TX_SEQ[s], 06. -/
abbrev OS_TX_SEQ (s : Nat) : Nat := 0x180038 + 0x100 * s
/-- OS_CNT[s][i], 06. -/
abbrev OS_CNT (s : Nat) (i : Nat) : Nat := 0x180040 + 0x100 * s + 4 * i

/-- Rows of the register tables of 06_phasor_estimation.md. -/
def regsPhasor0 : List RegSpec := [
  ⟨0x160000, [], 0, .c, [.all 0 0 .rw]⟩,
  ⟨0x160004, [], 0, .c, [.all 19 0 .ro]⟩,
  ⟨0x160100, [(256, 16)], 0, .c, [.all 11 11 .rw, .all 10 8 .rw, .all 7 5 .rw, .rng 4 2 .rw 0 4, .all 1 1 .rw, .all 0 0 .rw]⟩,
  ⟨0x160110, [(256, 16), (8, 8)], 0, .c, [.all 29 24 .rw, .all 21 16 .rw, .all 13 8 .rw, .all 1 0 .rw]⟩,
  ⟨0x160114, [(256, 16), (8, 8)], 0x35200000, .c, [.rng 31 0 .rw 1 0x7f7fffff]⟩,
  ⟨0x160150, [(256, 16)], 0, .c, [.all 31 16 .ro, .all 7 0 .ro]⟩,
  ⟨0x162004, [(64, 256)], 0, .c, [.all 31 16 .ro, .all 7 0 .ro]⟩,
  ⟨0x160154, [(256, 16)], 0, .c, [.all 31 0 .ro]⟩,
  ⟨0x162008, [(64, 256)], 0, .c, [.all 31 0 .ro]⟩,
  ⟨0x160158, [(256, 16)], 0, .c, [.all 31 0 .ro]⟩,
  ⟨0x160160, [(256, 16), (4, 8)], 0, .c, [.all 31 0 .rw]⟩,
  ⟨0x162010, [(64, 256), (4, 8)], 0, .c, [.all 31 0 .rw]⟩,
  ⟨0x162000, [(64, 256)], 0, .c, [.all 17 17 .rw, .all 16 16 .rw, .all 15 8 .rw, .all 7 5 .rw, .rng 4 2 .rw 0 4, .all 1 1 .rw, .all 0 0 .rw]⟩,
  ⟨0x180000, [(256, 32)], 0x3c55800, .c, [.rng 26 20 .rw 0 0x78, .rng 19 17 .rw 0 7, .all 16 16 .rw, .all 15 15 .rw, .all 14 11 .rw, .rng 10 8 .rw 0 4, .rng 7 5 .rw 0 6, .all 4 3 .rw, .rng 2 1 .rw 0 2, .all 0 0 .rw]⟩,
  ⟨0x180004, [(256, 32)], 0, .c, [.rng 15 0 .rw 1 0xfffe]⟩,
  ⟨0x180008, [(256, 32)], 0xf4240, .c, [.rng 23 0 .rw 1 0xffffff]⟩,
  ⟨0x18000c, [(256, 32)], 0x12691269, .c, [.rng 31 16 .rw 1 0xffff, .rng 15 0 .rw 1 0xffff]⟩,
  ⟨0x180010, [(256, 32)], 0x1268, .c, [.rng 15 0 .rw 1 0xffff]⟩,
  ⟨0x180020, [(256, 32), (4, 4)], 0, .c, [.all 31 0 .rw]⟩,
  ⟨0x180030, [(256, 32)], 0, .c, [.all 31 16 .ro, .all 10 0 .ro]⟩]

/-- Rows of the register tables of 06_phasor_estimation.md. -/
def regsPhasor1 : List RegSpec := [
  ⟨0x180034, [(256, 32)], 0, .c, [.all 13 8 .ro, .all 2 2 .ro, .all 1 1 .ro, .all 0 0 .ro]⟩,
  ⟨0x180038, [(256, 32)], 0, .c, [.all 31 0 .ro]⟩,
  ⟨0x180040, [(256, 32), (4, 6)], 0, .c, [.all 31 0 .rw]⟩]

/-- The register table of 06_phasor_estimation.md. -/
def regsPhasor : List RegSpec := regsPhasor0 ++ regsPhasor1

end Sys2Proof.Machine
end

