-- ==== Sys2Proof/Machine/RegsPorts.lean ====
section
/-!
DEFINITION. The registers of 03_network_ports.md: the offset of each (with its indices), its fields, and the row of its table:
offset, strides and counts, reset value, reset class, and each field's access type and stated range (R5, R6, R9).
-/

namespace Sys2Proof.Machine

/-- NP_CFG[p], 03. -/
abbrev NP_CFG (p : Nat) : Nat := 0x40000 + 0x4000 * p
@[inherit_doc NP_CFG] def NP_CFG_PAUSE_RX (p : Nat) : Fld := ⟨NP_CFG p, 11, 11⟩
@[inherit_doc NP_CFG] def NP_CFG_PAUSE_TX (p : Nat) : Fld := ⟨NP_CFG p, 10, 10⟩
@[inherit_doc NP_CFG] def NP_CFG_MODE (p : Nat) : Fld := ⟨NP_CFG p, 9, 8⟩
@[inherit_doc NP_CFG] def NP_CFG_AN_EN (p : Nat) : Fld := ⟨NP_CFG p, 7, 7⟩
@[inherit_doc NP_CFG] def NP_CFG_EN (p : Nat) : Fld := ⟨NP_CFG p, 0, 0⟩
/-- NP_STATUS[p], 03. -/
abbrev NP_STATUS (p : Nat) : Nat := 0x40004 + 0x4000 * p
@[inherit_doc NP_STATUS] def NP_STATUS_PAUSING (p : Nat) : Fld := ⟨NP_STATUS p, 7, 7⟩
@[inherit_doc NP_STATUS] def NP_STATUS_PAUSED (p : Nat) : Fld := ⟨NP_STATUS p, 6, 6⟩
@[inherit_doc NP_STATUS] def NP_STATUS_RX_SILENT (p : Nat) : Fld := ⟨NP_STATUS p, 5, 5⟩
@[inherit_doc NP_STATUS] def NP_STATUS_SPEED (p : Nat) : Fld := ⟨NP_STATUS p, 3, 2⟩
@[inherit_doc NP_STATUS] def NP_STATUS_AN_DONE (p : Nat) : Fld := ⟨NP_STATUS p, 1, 1⟩
@[inherit_doc NP_STATUS] def NP_STATUS_LINK (p : Nat) : Fld := ⟨NP_STATUS p, 0, 0⟩
/-- NP_MAC_LO[p], 03. -/
abbrev NP_MAC_LO (p : Nat) : Nat := 0x40008 + 0x4000 * p
/-- NP_MAC_HI[p], 03. -/
abbrev NP_MAC_HI (p : Nat) : Nat := 0x4000c + 0x4000 * p
@[inherit_doc NP_MAC_HI] def NP_MAC_HI_MAC_HI (p : Nat) : Fld := ⟨NP_MAC_HI p, 15, 0⟩
/-- NP_FRAME_CFG[p], 03. -/
abbrev NP_FRAME_CFG (p : Nat) : Nat := 0x40010 + 0x4000 * p
@[inherit_doc NP_FRAME_CFG] def NP_FRAME_CFG_MAX_LEN (p : Nat) : Fld := ⟨NP_FRAME_CFG p, 13, 0⟩
/-- NP_LINK_CFG[p], 03. -/
abbrev NP_LINK_CFG (p : Nat) : Nat := 0x40014 + 0x4000 * p
@[inherit_doc NP_LINK_CFG] def NP_LINK_CFG_RX_SILENCE (p : Nat) : Fld := ⟨NP_LINK_CFG p, 31, 16⟩
@[inherit_doc NP_LINK_CFG] def NP_LINK_CFG_LINK_HOLD (p : Nat) : Fld := ⟨NP_LINK_CFG p, 6, 0⟩
/-- NP_VLAN[p], 03. -/
abbrev NP_VLAN (p : Nat) : Nat := 0x40018 + 0x4000 * p
@[inherit_doc NP_VLAN] def NP_VLAN_TX_TAG (p : Nat) : Fld := ⟨NP_VLAN p, 14, 14⟩
@[inherit_doc NP_VLAN] def NP_VLAN_UNTAG_OK (p : Nat) : Fld := ⟨NP_VLAN p, 13, 13⟩
@[inherit_doc NP_VLAN] def NP_VLAN_TAG_EN (p : Nat) : Fld := ⟨NP_VLAN p, 12, 12⟩
@[inherit_doc NP_VLAN] def NP_VLAN_VID (p : Nat) : Fld := ⟨NP_VLAN p, 11, 0⟩
/-- NP_PAUSE_CFG[p], 03. -/
abbrev NP_PAUSE_CFG (p : Nat) : Nat := 0x4001c + 0x4000 * p
@[inherit_doc NP_PAUSE_CFG] def NP_PAUSE_CFG_QUANTA (p : Nat) : Fld := ⟨NP_PAUSE_CFG p, 31, 16⟩
@[inherit_doc NP_PAUSE_CFG] def NP_PAUSE_CFG_HIGH_WM (p : Nat) : Fld := ⟨NP_PAUSE_CFG p, 11, 8⟩
@[inherit_doc NP_PAUSE_CFG] def NP_PAUSE_CFG_LOW_WM (p : Nat) : Fld := ⟨NP_PAUSE_CFG p, 3, 0⟩
/-- NP_MCAST_HASH_LO[p], 03. -/
abbrev NP_MCAST_HASH_LO (p : Nat) : Nat := 0x40020 + 0x4000 * p
/-- NP_MCAST_HASH_HI[p], 03. -/
abbrev NP_MCAST_HASH_HI (p : Nat) : Nat := 0x40024 + 0x4000 * p
/-- NP_BAD_THR[p], 03. -/
abbrev NP_BAD_THR (p : Nat) : Nat := 0x40028 + 0x4000 * p
@[inherit_doc NP_BAD_THR] def NP_BAD_THR_THR (p : Nat) : Fld := ⟨NP_BAD_THR p, 15, 0⟩
/-- NP_CNT_SAT[p], 03. -/
abbrev NP_CNT_SAT (p : Nat) : Nat := 0x4002c + 0x4000 * p
/-- NP_PRP_CFG, 03. -/
abbrev NP_PRP_CFG : Nat := 0x40030
@[inherit_doc NP_PRP_CFG] def NP_PRP_CFG_SUP_ADDR : Fld := ⟨NP_PRP_CFG, 31, 24⟩
@[inherit_doc NP_PRP_CFG] def NP_PRP_CFG_DD_WINDOW : Fld := ⟨NP_PRP_CFG, 23, 12⟩
@[inherit_doc NP_PRP_CFG] def NP_PRP_CFG_LIFE_CHECK : Fld := ⟨NP_PRP_CFG, 11, 4⟩
@[inherit_doc NP_PRP_CFG] def NP_PRP_CFG_EN : Fld := ⟨NP_PRP_CFG, 0, 0⟩
/-- NP_CLASS_MATCH[p][k], 03. -/
abbrev NP_CLASS_MATCH (p : Nat) (k : Nat) : Nat := 0x40100 + 0x4000 * p + 0x10 * k
@[inherit_doc NP_CLASS_MATCH] def NP_CLASS_MATCH_ETYPE (p : Nat) (k : Nat) : Fld := ⟨NP_CLASS_MATCH p k, 31, 16⟩
@[inherit_doc NP_CLASS_MATCH] def NP_CLASS_MATCH_IPPROTO (p : Nat) (k : Nat) : Fld := ⟨NP_CLASS_MATCH p k, 15, 8⟩
@[inherit_doc NP_CLASS_MATCH] def NP_CLASS_MATCH_EN (p : Nat) (k : Nat) : Fld := ⟨NP_CLASS_MATCH p k, 0, 0⟩
/-- NP_CLASS_PORT[p][k], 03. -/
abbrev NP_CLASS_PORT (p : Nat) (k : Nat) : Nat := 0x40104 + 0x4000 * p + 0x10 * k
@[inherit_doc NP_CLASS_PORT] def NP_CLASS_PORT_PORT_HI (p : Nat) (k : Nat) : Fld := ⟨NP_CLASS_PORT p k, 31, 16⟩
@[inherit_doc NP_CLASS_PORT] def NP_CLASS_PORT_PORT_LO (p : Nat) (k : Nat) : Fld := ⟨NP_CLASS_PORT p k, 15, 0⟩
/-- NP_CLASS_ACT[p][k], 03. -/
abbrev NP_CLASS_ACT (p : Nat) (k : Nat) : Nat := 0x40108 + 0x4000 * p + 0x10 * k
@[inherit_doc NP_CLASS_ACT] def NP_CLASS_ACT_PATH (p : Nat) (k : Nat) : Fld := ⟨NP_CLASS_ACT p k, 2, 0⟩
/-- NP_TXQ_CFG[p][q], 03. -/
abbrev NP_TXQ_CFG (p : Nat) (q : Nat) : Nat := 0x40200 + 0x4000 * p + 4 * q
@[inherit_doc NP_TXQ_CFG] def NP_TXQ_CFG_STARVE (p : Nat) (q : Nat) : Fld := ⟨NP_TXQ_CFG p q, 31, 16⟩
@[inherit_doc NP_TXQ_CFG] def NP_TXQ_CFG_LIMIT (p : Nat) (q : Nat) : Fld := ⟨NP_TXQ_CFG p q, 6, 0⟩
/-- NP_CNT[p][i], 03. -/
abbrev NP_CNT (p : Nat) (i : Nat) : Nat := 0x40400 + 0x4000 * p + 4 * i
/-- NP_RX_BYTES_LO[p], 03. -/
abbrev NP_RX_BYTES_LO (p : Nat) : Nat := 0x40500 + 0x4000 * p
/-- NP_RX_BYTES_HI[p], 03. -/
abbrev NP_RX_BYTES_HI (p : Nat) : Nat := 0x40504 + 0x4000 * p
/-- NP_TX_BYTES_LO[p], 03. -/
abbrev NP_TX_BYTES_LO (p : Nat) : Nat := 0x40508 + 0x4000 * p
/-- NP_TX_BYTES_HI[p], 03. -/
abbrev NP_TX_BYTES_HI (p : Nat) : Nat := 0x4050c + 0x4000 * p
/-- SL_CFG[s], 03. -/
abbrev SL_CFG (s : Nat) : Nat := 0x50000 + 0x40 * s
@[inherit_doc SL_CFG] def SL_CFG_CT_THR (s : Nat) : Fld := ⟨SL_CFG s, 15, 8⟩
@[inherit_doc SL_CFG] def SL_CFG_SAME_CLK (s : Nat) : Fld := ⟨SL_CFG s, 1, 1⟩
@[inherit_doc SL_CFG] def SL_CFG_TEST_EN (s : Nat) : Fld := ⟨SL_CFG s, 0, 0⟩
/-- SL_STATUS[s], 03. -/
abbrev SL_STATUS (s : Nat) : Nat := 0x50004 + 0x40 * s
@[inherit_doc SL_STATUS] def SL_STATUS_LEVEL (s : Nat) : Fld := ⟨SL_STATUS s, 31, 16⟩
@[inherit_doc SL_STATUS] def SL_STATUS_SAT_DISCARD (s : Nat) : Fld := ⟨SL_STATUS s, 6, 6⟩
@[inherit_doc SL_STATUS] def SL_STATUS_SAT_UECC (s : Nat) : Fld := ⟨SL_STATUS s, 5, 5⟩
@[inherit_doc SL_STATUS] def SL_STATUS_SAT_CECC (s : Nat) : Fld := ⟨SL_STATUS s, 4, 4⟩
@[inherit_doc SL_STATUS] def SL_STATUS_STOPPED (s : Nat) : Fld := ⟨SL_STATUS s, 3, 3⟩
@[inherit_doc SL_STATUS] def SL_STATUS_FALLBACK (s : Nat) : Fld := ⟨SL_STATUS s, 2, 2⟩
@[inherit_doc SL_STATUS] def SL_STATUS_SAME_CLK_ACTIVE (s : Nat) : Fld := ⟨SL_STATUS s, 1, 1⟩
@[inherit_doc SL_STATUS] def SL_STATUS_ACTIVE (s : Nat) : Fld := ⟨SL_STATUS s, 0, 0⟩
/-- SL_CECC[s], 03. -/
abbrev SL_CECC (s : Nat) : Nat := 0x50008 + 0x40 * s
/-- SL_UECC[s], 03. -/
abbrev SL_UECC (s : Nat) : Nat := 0x5000c + 0x40 * s
/-- SL_DISCARD[s], 03. -/
abbrev SL_DISCARD (s : Nat) : Nat := 0x50010 + 0x40 * s
/-- SL_LEVEL_MAX[s], 03. -/
abbrev SL_LEVEL_MAX (s : Nat) : Nat := 0x50014 + 0x40 * s
@[inherit_doc SL_LEVEL_MAX] def SL_LEVEL_MAX_MAX (s : Nat) : Fld := ⟨SL_LEVEL_MAX s, 15, 0⟩
/-- SL_INFO[s], 03. -/
abbrev SL_INFO (s : Nat) : Nat := 0x50018 + 0x40 * s
@[inherit_doc SL_INFO] def SL_INFO_DEPTH (s : Nat) : Fld := ⟨SL_INFO s, 31, 16⟩
@[inherit_doc SL_INFO] def SL_INFO_SHARED_CLK (s : Nat) : Fld := ⟨SL_INFO s, 2, 2⟩
@[inherit_doc SL_INFO] def SL_INFO_CUT_THROUGH (s : Nat) : Fld := ⟨SL_INFO s, 1, 1⟩
@[inherit_doc SL_INFO] def SL_INFO_FRAMES (s : Nat) : Fld := ⟨SL_INFO s, 0, 0⟩

/-- Rows of the register tables of 03_network_ports.md. -/
def regsPorts0 : List RegSpec := [
  ⟨0x40000, [(16384, 4)], 0x80, .c, [.all 11 11 .rw, .all 10 10 .rw, .rng 9 8 .rw 0 2, .all 7 7 .rw, .all 0 0 .rw]⟩,
  ⟨0x40004, [(16384, 4)], 0, .c, [.all 7 7 .ro, .all 6 6 .ro, .all 5 5 .ro, .all 3 2 .ro, .all 1 1 .ro, .all 0 0 .ro]⟩,
  ⟨0x40008, [(16384, 4)], 0, .c, [.all 31 0 .rw]⟩,
  ⟨0x4000c, [(16384, 4)], 0, .c, [.all 15 0 .rw]⟩,
  ⟨0x40010, [(16384, 4)], 0x5f2, .c, [.rng 13 0 .rw 0x5ee 0x2580]⟩,
  ⟨0x40014, [(16384, 4)], 0x3e8000a, .c, [.rng 31 16 .rw 0 0x2710, .rng 6 0 .rw 0 0x64]⟩,
  ⟨0x40018, [(16384, 4)], 0x2000, .c, [.all 14 14 .rw, .all 13 13 .rw, .all 12 12 .rw, .all 11 0 .rw]⟩,
  ⟨0x4001c, [(16384, 4)], 0xffff0c08, .c, [.rng 31 16 .rw 1 0xffff, .rng 11 8 .rw 2 0xf, .rng 3 0 .rw 1 0xe]⟩,
  ⟨0x40020, [(16384, 4)], 0, .c, [.all 31 0 .rw]⟩,
  ⟨0x40024, [(16384, 4)], 0, .c, [.all 31 0 .rw]⟩,
  ⟨0x40028, [(16384, 4)], 0x64, .c, [.all 15 0 .rw]⟩,
  ⟨0x4002c, [(16384, 4)], 0, .c, [.all 31 0 .ro]⟩,
  ⟨0x40030, [], 0x190140, .c, [.all 31 24 .rw, .rng 23 12 .rw 0xa 0x7d0, .rng 11 4 .rw 5 0x64, .all 0 0 .rw]⟩,
  ⟨0x40100, [(16384, 4), (16, 16)], 0, .c, [.all 31 16 .rw, .all 15 8 .rw, .all 0 0 .rw]⟩,
  ⟨0x40104, [(16384, 4), (16, 16)], 0, .c, [.all 31 16 .rw, .all 15 0 .rw]⟩,
  ⟨0x40108, [(16384, 4), (16, 16)], 0, .c, [.rng 2 0 .rw 0 3]⟩,
  ⟨0x40200, [(16384, 4), (4, 8)], 0x20, .c, [.rng 31 16 .rw 0 0x2710, .rng 6 0 .rw 1 0x40]⟩,
  ⟨0x40400, [(16384, 4), (4, 32)], 0, .c, [.all 31 0 .rw]⟩,
  ⟨0x40500, [(16384, 4)], 0, .c, [.all 31 0 .ro]⟩,
  ⟨0x40504, [(16384, 4)], 0, .c, [.all 31 0 .ro]⟩]

/-- Rows of the register tables of 03_network_ports.md. -/
def regsPorts1 : List RegSpec := [
  ⟨0x40508, [(16384, 4)], 0, .c, [.all 31 0 .ro]⟩,
  ⟨0x4050c, [(16384, 4)], 0, .c, [.all 31 0 .ro]⟩,
  ⟨0x50000, [(64, 26)], 0x803, .c, [.all 15 8 .rw, .all 1 1 .rw, .all 0 0 .rw]⟩,
  ⟨0x50004, [(64, 26)], 0, .c, [.all 31 16 .ro, .all 6 6 .ro, .all 5 5 .ro, .all 4 4 .ro, .all 3 3 .ro, .all 2 2 .ro, .all 1 1 .ro, .all 0 0 .ro]⟩,
  ⟨0x50008, [(64, 26)], 0, .c, [.all 31 0 .rw]⟩,
  ⟨0x5000c, [(64, 26)], 0, .c, [.all 31 0 .rw]⟩,
  ⟨0x50010, [(64, 26)], 0, .c, [.all 31 0 .rw]⟩,
  ⟨0x50014, [(64, 26)], 0, .c, [.all 15 0 .rw]⟩,
  ⟨0x50018, [(64, 26)], 0, .p, [.all 31 16 .ro, .all 2 2 .ro, .all 1 1 .ro, .all 0 0 .ro]⟩]

/-- The register table of 03_network_ports.md. -/
def regsPorts : List RegSpec := regsPorts0 ++ regsPorts1

end Sys2Proof.Machine
end

