-- ==== Sys2Proof/Machine/RegsPower.lean ====
section
/-!
DEFINITION. The registers of 17_startup_and_modes.md: the offset of each (with its indices), its fields, and the row of its table:
offset, strides and counts, reset value, reset class, and each field's access type and stated range (R5, R6, R9).
-/

namespace Sys2Proof.Machine

/-- PW_CFG, 17. -/
abbrev PW_CFG : Nat := 0x10000
@[inherit_doc PW_CFG] def PW_CFG_PFAIL_DEGLITCH : Fld := ⟨PW_CFG, 25, 16⟩
@[inherit_doc PW_CFG] def PW_CFG_RECOVER_MS : Fld := ⟨PW_CFG, 15, 8⟩
@[inherit_doc PW_CFG] def PW_CFG_VIN_TRIP : Fld := ⟨PW_CFG, 7, 0⟩
/-- PW_STATUS, 17. -/
abbrev PW_STATUS : Nat := 0x10004
@[inherit_doc PW_STATUS] def PW_STATUS_SAT : Fld := ⟨PW_STATUS, 7, 7⟩
@[inherit_doc PW_STATUS] def PW_STATUS_SOURCE : Fld := ⟨PW_STATUS, 6, 6⟩
@[inherit_doc PW_STATUS] def PW_STATUS_VBAT_LOW : Fld := ⟨PW_STATUS, 5, 5⟩
@[inherit_doc PW_STATUS] def PW_STATUS_VAUX_LOW : Fld := ⟨PW_STATUS, 4, 4⟩
@[inherit_doc PW_STATUS] def PW_STATUS_VIN_LOW : Fld := ⟨PW_STATUS, 3, 3⟩
@[inherit_doc PW_STATUS] def PW_STATUS_PFAIL : Fld := ⟨PW_STATUS, 2, 2⟩
@[inherit_doc PW_STATUS] def PW_STATUS_STATE : Fld := ⟨PW_STATUS, 1, 0⟩
/-- PW_VIN, 17. -/
abbrev PW_VIN : Nat := 0x10008
@[inherit_doc PW_VIN] def PW_VIN_VAUX : Fld := ⟨PW_VIN, 31, 16⟩
@[inherit_doc PW_VIN] def PW_VIN_VIN : Fld := ⟨PW_VIN, 15, 0⟩
/-- PW_VBAT, 17. -/
abbrev PW_VBAT : Nat := 0x1000c
@[inherit_doc PW_VBAT] def PW_VBAT_VBAT : Fld := ⟨PW_VBAT, 15, 0⟩
/-- PW_HOLDUP_CNT, 17. -/
abbrev PW_HOLDUP_CNT : Nat := 0x10010

/-- Rows of the register tables of 17_startup_and_modes.md. -/
def regsPower : List RegSpec := [
  ⟨0x10000, [], 0x143269, .c, [.rng 25 16 .rw 0 0x3e8, .rng 15 8 .rw 0xa 0xff, .rng 7 0 .rw 0x5f 0x6e]⟩,
  ⟨0x10004, [], 0, .c, [.all 7 7 .ro, .all 6 6 .ro, .all 5 5 .ro, .all 4 4 .ro, .all 3 3 .ro, .all 2 2 .ro, .all 1 0 .ro]⟩,
  ⟨0x10008, [], 0, .c, [.all 31 16 .ro, .all 15 0 .ro]⟩,
  ⟨0x1000c, [], 0, .c, [.all 15 0 .ro]⟩,
  ⟨0x10010, [], 0, .c, [.all 31 0 .rw]⟩]

end Sys2Proof.Machine
end

