-- ==== Sys2Proof/Machine/RegsSched.lean ====
section
/-!
DEFINITION. The registers of 12_engines_and_scheduler.md: the offset of each (with its indices), its fields, and the row of its table:
offset, strides and counts, reset value, reset class, and each field's access type and stated range (R5, R6, R9).
-/

namespace Sys2Proof.Machine

/-- SC_THR_CFG[t], 12. -/
abbrev SC_THR_CFG (t : Nat) : Nat := 0x3a0000 + 0x20 * t
@[inherit_doc SC_THR_CFG] def SC_THR_CFG_PRIO (t : Nat) : Fld := ⟨SC_THR_CFG t, 13, 8⟩
@[inherit_doc SC_THR_CFG] def SC_THR_CFG_CORE (t : Nat) : Fld := ⟨SC_THR_CFG t, 4, 2⟩
@[inherit_doc SC_THR_CFG] def SC_THR_CFG_DISPATCH (t : Nat) : Fld := ⟨SC_THR_CFG t, 1, 1⟩
@[inherit_doc SC_THR_CFG] def SC_THR_CFG_EN (t : Nat) : Fld := ⟨SC_THR_CFG t, 0, 0⟩
/-- SC_THR_MASK[t], 12. -/
abbrev SC_THR_MASK (t : Nat) : Nat := 0x3a0004 + 0x20 * t
/-- SC_THR_WAIT[t], 12. -/
abbrev SC_THR_WAIT (t : Nat) : Nat := 0x3a0008 + 0x20 * t
@[inherit_doc SC_THR_WAIT] def SC_THR_WAIT_CONSUME (t : Nat) : Fld := ⟨SC_THR_WAIT t, 2, 2⟩
@[inherit_doc SC_THR_WAIT] def SC_THR_WAIT_MODE (t : Nat) : Fld := ⟨SC_THR_WAIT t, 1, 1⟩
@[inherit_doc SC_THR_WAIT] def SC_THR_WAIT_GO (t : Nat) : Fld := ⟨SC_THR_WAIT t, 0, 0⟩
/-- SC_THR_FLAGS[t], 12. -/
abbrev SC_THR_FLAGS (t : Nat) : Nat := 0x3a000c + 0x20 * t
/-- SC_THR_FCLR[t], 12. -/
abbrev SC_THR_FCLR (t : Nat) : Nat := 0x3a0010 + 0x20 * t
/-- SC_THR_STAT[t], 12. -/
abbrev SC_THR_STAT (t : Nat) : Nat := 0x3a0014 + 0x20 * t
@[inherit_doc SC_THR_STAT] def SC_THR_STAT_STATE (t : Nat) : Fld := ⟨SC_THR_STAT t, 2, 0⟩
/-- SC_THR_WAKES[t], 12. -/
abbrev SC_THR_WAKES (t : Nat) : Nat := 0x3a0018 + 0x20 * t
/-- SC_ROUTE[e], 12. -/
abbrev SC_ROUTE (e : Nat) : Nat := 0x3a4000 + 4 * e
@[inherit_doc SC_ROUTE] def SC_ROUTE_EN_B (e : Nat) : Fld := ⟨SC_ROUTE e, 31, 31⟩
@[inherit_doc SC_ROUTE] def SC_ROUTE_FLAG_B (e : Nat) : Fld := ⟨SC_ROUTE e, 30, 26⟩
@[inherit_doc SC_ROUTE] def SC_ROUTE_THREAD_B (e : Nat) : Fld := ⟨SC_ROUTE e, 24, 16⟩
@[inherit_doc SC_ROUTE] def SC_ROUTE_EN_A (e : Nat) : Fld := ⟨SC_ROUTE e, 15, 15⟩
@[inherit_doc SC_ROUTE] def SC_ROUTE_FLAG_A (e : Nat) : Fld := ⟨SC_ROUTE e, 14, 10⟩
@[inherit_doc SC_ROUTE] def SC_ROUTE_THREAD_A (e : Nat) : Fld := ⟨SC_ROUTE e, 8, 0⟩
/-- SC_CORE_CTRL[c], 12. -/
abbrev SC_CORE_CTRL (c : Nat) : Nat := 0x3a5000 + 0x20 * c
@[inherit_doc SC_CORE_CTRL] def SC_CORE_CTRL_YIELD (c : Nat) : Fld := ⟨SC_CORE_CTRL c, 1, 1⟩
@[inherit_doc SC_CORE_CTRL] def SC_CORE_CTRL_RUN (c : Nat) : Fld := ⟨SC_CORE_CTRL c, 0, 0⟩
/-- SC_CORE_STAT[c], 12. -/
abbrev SC_CORE_STAT (c : Nat) : Nat := 0x3a5004 + 0x20 * c
@[inherit_doc SC_CORE_STAT] def SC_CORE_STAT_SAT (c : Nat) : Fld := ⟨SC_CORE_STAT c, 19, 16⟩
@[inherit_doc SC_CORE_STAT] def SC_CORE_STAT_CUR_VALID (c : Nat) : Fld := ⟨SC_CORE_STAT c, 15, 15⟩
@[inherit_doc SC_CORE_STAT] def SC_CORE_STAT_CUR (c : Nat) : Fld := ⟨SC_CORE_STAT c, 14, 6⟩
@[inherit_doc SC_CORE_STAT] def SC_CORE_STAT_MEIP (c : Nat) : Fld := ⟨SC_CORE_STAT c, 5, 5⟩
@[inherit_doc SC_CORE_STAT] def SC_CORE_STAT_PREEMPT_HELD (c : Nat) : Fld := ⟨SC_CORE_STAT c, 4, 4⟩
@[inherit_doc SC_CORE_STAT] def SC_CORE_STAT_STATE (c : Nat) : Fld := ⟨SC_CORE_STAT c, 1, 0⟩
/-- SC_CORE_CLAIM[c], 12. -/
abbrev SC_CORE_CLAIM (c : Nat) : Nat := 0x3a5008 + 0x20 * c
@[inherit_doc SC_CORE_CLAIM] def SC_CORE_CLAIM_VALID (c : Nat) : Fld := ⟨SC_CORE_CLAIM c, 31, 31⟩
@[inherit_doc SC_CORE_CLAIM] def SC_CORE_CLAIM_SAME (c : Nat) : Fld := ⟨SC_CORE_CLAIM c, 30, 30⟩
@[inherit_doc SC_CORE_CLAIM] def SC_CORE_CLAIM_PRIO (c : Nat) : Fld := ⟨SC_CORE_CLAIM c, 15, 10⟩
@[inherit_doc SC_CORE_CLAIM] def SC_CORE_CLAIM_THREAD (c : Nat) : Fld := ⟨SC_CORE_CLAIM c, 8, 0⟩
/-- SC_CORE_CNT[c][i], 12. -/
abbrev SC_CORE_CNT (c : Nat) (i : Nat) : Nat := 0x3a500c + 0x20 * c + 4 * i
/-- SC_TMR_CFG[i], 12. -/
abbrev SC_TMR_CFG (i : Nat) : Nat := 0x3a6000 + 0x10 * i
@[inherit_doc SC_TMR_CFG] def SC_TMR_CFG_BASE (i : Nat) : Fld := ⟨SC_TMR_CFG i, 1, 1⟩
@[inherit_doc SC_TMR_CFG] def SC_TMR_CFG_EN (i : Nat) : Fld := ⟨SC_TMR_CFG i, 0, 0⟩
/-- SC_TMR_PERIOD[i], 12. -/
abbrev SC_TMR_PERIOD (i : Nat) : Nat := 0x3a6004 + 0x10 * i
@[inherit_doc SC_TMR_PERIOD] def SC_TMR_PERIOD_PERIOD (i : Nat) : Fld := ⟨SC_TMR_PERIOD i, 23, 0⟩
/-- SC_TMR_PHASE[i], 12. -/
abbrev SC_TMR_PHASE (i : Nat) : Nat := 0x3a6008 + 0x10 * i
@[inherit_doc SC_TMR_PHASE] def SC_TMR_PHASE_PHASE (i : Nat) : Fld := ⟨SC_TMR_PHASE i, 23, 0⟩
/-- SC_SWEVT, 12. -/
abbrev SC_SWEVT : Nat := 0x3a7000
/-- DL_CFG[m], 12. -/
abbrev DL_CFG (m : Nat) : Nat := 0x3b0000 + 0x20 * m
@[inherit_doc DL_CFG] def DL_CFG_CLASS (m : Nat) : Fld := ⟨DL_CFG m, 21, 16⟩
@[inherit_doc DL_CFG] def DL_CFG_FLAG (m : Nat) : Fld := ⟨DL_CFG m, 15, 11⟩
@[inherit_doc DL_CFG] def DL_CFG_THREAD (m : Nat) : Fld := ⟨DL_CFG m, 10, 2⟩
@[inherit_doc DL_CFG] def DL_CFG_MODE (m : Nat) : Fld := ⟨DL_CFG m, 1, 1⟩
@[inherit_doc DL_CFG] def DL_CFG_EN (m : Nat) : Fld := ⟨DL_CFG m, 0, 0⟩
/-- DL_PERIOD[m], 12. -/
abbrev DL_PERIOD (m : Nat) : Nat := 0x3b0004 + 0x20 * m
@[inherit_doc DL_PERIOD] def DL_PERIOD_PERIOD (m : Nat) : Fld := ⟨DL_PERIOD m, 23, 0⟩
/-- DL_ARM[m], 12. -/
abbrev DL_ARM (m : Nat) : Nat := 0x3b0008 + 0x20 * m
@[inherit_doc DL_ARM] def DL_ARM_US (m : Nat) : Fld := ⟨DL_ARM m, 23, 0⟩
/-- DL_DUE_LO[m], 12. -/
abbrev DL_DUE_LO (m : Nat) : Nat := 0x3b000c + 0x20 * m
/-- DL_DUE_HI[m], 12. -/
abbrev DL_DUE_HI (m : Nat) : Nat := 0x3b0010 + 0x20 * m
/-- DL_DONE[m], 12. -/
abbrev DL_DONE (m : Nat) : Nat := 0x3b0014 + 0x20 * m
@[inherit_doc DL_DONE] def DL_DONE_DONE (m : Nat) : Fld := ⟨DL_DONE m, 0, 0⟩
/-- DL_STAT[m], 12. -/
abbrev DL_STAT (m : Nat) : Nat := 0x3b0018 + 0x20 * m
@[inherit_doc DL_STAT] def DL_STAT_OUTSTANDING (m : Nat) : Fld := ⟨DL_STAT m, 31, 16⟩
@[inherit_doc DL_STAT] def DL_STAT_SAT (m : Nat) : Fld := ⟨DL_STAT m, 2, 2⟩
@[inherit_doc DL_STAT] def DL_STAT_LAST_MISS (m : Nat) : Fld := ⟨DL_STAT m, 1, 1⟩
@[inherit_doc DL_STAT] def DL_STAT_ARMED (m : Nat) : Fld := ⟨DL_STAT m, 0, 0⟩
/-- DL_CNT[m], 12. -/
abbrev DL_CNT (m : Nat) : Nat := 0x3b001c + 0x20 * m
/-- OP_STATUS, 12. -/
abbrev OP_STATUS : Nat := 0x18000
@[inherit_doc OP_STATUS] def OP_STATUS_THERMAL : Fld := ⟨OP_STATUS, 8, 8⟩
@[inherit_doc OP_STATUS] def OP_STATUS_TARGET : Fld := ⟨OP_STATUS, 5, 4⟩
@[inherit_doc OP_STATUS] def OP_STATUS_SWITCHING : Fld := ⟨OP_STATUS, 2, 2⟩
@[inherit_doc OP_STATUS] def OP_STATUS_POINT : Fld := ⟨OP_STATUS, 1, 0⟩
/-- OP_VCORE, 12. -/
abbrev OP_VCORE : Nat := 0x18004
@[inherit_doc OP_VCORE] def OP_VCORE_MV : Fld := ⟨OP_VCORE, 11, 0⟩
/-- OP_SWITCH_SEQ, 12. -/
abbrev OP_SWITCH_SEQ : Nat := 0x18008
/-- OP_LAST_US, 12. -/
abbrev OP_LAST_US : Nat := 0x1800c
@[inherit_doc OP_LAST_US] def OP_LAST_US_US : Fld := ⟨OP_LAST_US, 11, 0⟩

/-- Rows of the register tables of 12_engines_and_scheduler.md. -/
def regsSched0 : List RegSpec := [
  ⟨0x3a0000, [(32, 512)], 0, .c, [.all 13 8 .rw, .all 4 2 .rw, .all 1 1 .rw, .all 0 0 .rw]⟩,
  ⟨0x3a0004, [(32, 512)], 0, .c, [.all 31 0 .rw]⟩,
  ⟨0x3a0008, [(32, 512)], 0, .c, [.all 2 2 .wo, .all 1 1 .wo, .all 0 0 .wo]⟩,
  ⟨0x3a000c, [(32, 512)], 0, .w, [.all 31 0 .w1s]⟩,
  ⟨0x3a0010, [(32, 512)], 0, .w, [.all 31 0 .w1c]⟩,
  ⟨0x3a0014, [(32, 512)], 0, .c, [.all 2 0 .ro]⟩,
  ⟨0x3a0018, [(32, 512)], 0, .c, [.all 31 0 .ro]⟩,
  ⟨0x3a4000, [(4, 256)], 0, .c, [.all 31 31 .rw, .all 30 26 .rw, .all 24 16 .rw, .all 15 15 .rw, .all 14 10 .rw, .all 8 0 .rw]⟩,
  ⟨0x3a5000, [(32, 8)], 0, .c, [.all 1 1 .wo, .all 0 0 .rw]⟩,
  ⟨0x3a5004, [(32, 8)], 0, .c, [.all 19 16 .ro, .all 15 15 .ro, .all 14 6 .ro, .all 5 5 .ro, .all 4 4 .ro, .all 1 0 .ro]⟩,
  ⟨0x3a5008, [(32, 8)], 0, .c, [.all 31 31 .ro, .all 30 30 .ro, .all 15 10 .ro, .all 8 0 .ro]⟩,
  ⟨0x3a500c, [(32, 8), (4, 3)], 0, .c, [.all 31 0 .rw]⟩,
  ⟨0x3a6000, [(16, 16)], 0, .c, [.all 1 1 .rw, .all 0 0 .rw]⟩,
  ⟨0x3a6004, [(16, 16)], 0x3e8, .c, [.rng 23 0 .rw 0xa 0xf42400]⟩,
  ⟨0x3a6008, [(16, 16)], 0, .c, [.all 23 0 .rw]⟩,
  ⟨0x3a7000, [], 0, .c, [.all 31 0 .wo]⟩,
  ⟨0x3b0000, [(32, 128)], 0, .c, [.all 21 16 .ro, .all 15 11 .rw, .all 10 2 .rw, .all 1 1 .rw, .all 0 0 .rw]⟩,
  ⟨0x3b0004, [(32, 128)], 0, .c, [.all 23 0 .rw]⟩,
  ⟨0x3b0008, [(32, 128)], 0, .c, [.rng 23 0 .wo 1 0xf42400]⟩,
  ⟨0x3b000c, [(32, 128)], 0, .c, [.all 31 0 .rw]⟩]

/-- Rows of the register tables of 12_engines_and_scheduler.md. -/
def regsSched1 : List RegSpec := [
  ⟨0x3b0010, [(32, 128)], 0, .c, [.all 31 0 .rw]⟩,
  ⟨0x3b0014, [(32, 128)], 0, .c, [.all 0 0 .wo]⟩,
  ⟨0x3b0018, [(32, 128)], 0, .c, [.all 31 16 .ro, .all 2 2 .ro, .all 1 1 .ro, .all 0 0 .ro]⟩,
  ⟨0x3b001c, [(32, 128)], 0, .c, [.all 31 0 .rw]⟩,
  ⟨0x18000, [], 0x11, .c, [.all 8 8 .ro, .all 5 4 .ro, .all 2 2 .ro, .all 1 0 .ro]⟩,
  ⟨0x18004, [], 0, .c, [.all 11 0 .ro]⟩,
  ⟨0x18008, [], 0, .c, [.all 31 0 .ro]⟩,
  ⟨0x1800c, [], 0, .c, [.all 11 0 .ro]⟩]

/-- The register table of 12_engines_and_scheduler.md. -/
def regsSched : List RegSpec := regsSched0 ++ regsSched1

end Sys2Proof.Machine
end

