-- ==== Sys2Proof/Machine/RegsTime.lean ====
section
/-!
DEFINITION. The registers of 02_time_base.md: the offset of each (with its indices), its fields, and the row of its table:
offset, strides and counts, reset value, reset class, and each field's access type and stated range (R5, R6, R9).
-/

namespace Sys2Proof.Machine

/-- TB_CTRL, 02. -/
abbrev TB_CTRL : Nat := 0x20000
@[inherit_doc TB_CTRL] def TB_CTRL_TOD_TX_EN : Fld := ⟨TB_CTRL, 3, 3⟩
@[inherit_doc TB_CTRL] def TB_CTRL_PPS_OUT_EN : Fld := ⟨TB_CTRL, 2, 2⟩
@[inherit_doc TB_CTRL] def TB_CTRL_GM_MODE : Fld := ⟨TB_CTRL, 1, 1⟩
@[inherit_doc TB_CTRL] def TB_CTRL_AUTO_ACQ : Fld := ⟨TB_CTRL, 0, 0⟩
/-- TB_STATUS, 02. -/
abbrev TB_STATUS : Nat := 0x20004
@[inherit_doc TB_STATUS] def TB_STATUS_SAT_PTP : Fld := ⟨TB_STATUS, 16, 16⟩
@[inherit_doc TB_STATUS] def TB_STATUS_SAT_TOD : Fld := ⟨TB_STATUS, 15, 15⟩
@[inherit_doc TB_STATUS] def TB_STATUS_SAT_PPS : Fld := ⟨TB_STATUS, 14, 14⟩
@[inherit_doc TB_STATUS] def TB_STATUS_LEAP_PENDING : Fld := ⟨TB_STATUS, 13, 13⟩
@[inherit_doc TB_STATUS] def TB_STATUS_SRC : Fld := ⟨TB_STATUS, 12, 11⟩
@[inherit_doc TB_STATUS] def TB_STATUS_SRC_VALID : Fld := ⟨TB_STATUS, 10, 10⟩
@[inherit_doc TB_STATUS] def TB_STATUS_STEP_USED : Fld := ⟨TB_STATUS, 8, 8⟩
@[inherit_doc TB_STATUS] def TB_STATUS_QUALITY : Fld := ⟨TB_STATUS, 7, 4⟩
@[inherit_doc TB_STATUS] def TB_STATUS_STATE : Fld := ⟨TB_STATUS, 2, 0⟩
/-- TB_TIME_NS, 02. -/
abbrev TB_TIME_NS : Nat := 0x20008
@[inherit_doc TB_TIME_NS] def TB_TIME_NS_NS : Fld := ⟨TB_TIME_NS, 29, 0⟩
/-- TB_TIME_SEC_LO, 02. -/
abbrev TB_TIME_SEC_LO : Nat := 0x2000c
/-- TB_TIME_SEC_HI, 02. -/
abbrev TB_TIME_SEC_HI : Nat := 0x20010
@[inherit_doc TB_TIME_SEC_HI] def TB_TIME_SEC_HI_SEC_HI : Fld := ⟨TB_TIME_SEC_HI, 15, 0⟩
/-- TB_SERVO_CFG, 02. -/
abbrev TB_SERVO_CFG : Nat := 0x20014
@[inherit_doc TB_SERVO_CFG] def TB_SERVO_CFG_RESTEP_THR : Fld := ⟨TB_SERVO_CFG, 31, 16⟩
@[inherit_doc TB_SERVO_CFG] def TB_SERVO_CFG_STEP_THR : Fld := ⟨TB_SERVO_CFG, 15, 0⟩
/-- TB_LOCK_CFG, 02. -/
abbrev TB_LOCK_CFG : Nat := 0x20018
@[inherit_doc TB_LOCK_CFG] def TB_LOCK_CFG_LOCK_COUNT : Fld := ⟨TB_LOCK_CFG, 23, 16⟩
@[inherit_doc TB_LOCK_CFG] def TB_LOCK_CFG_LOCK_THR : Fld := ⟨TB_LOCK_CFG, 15, 0⟩
/-- TB_OFFSET, 02. -/
abbrev TB_OFFSET : Nat := 0x2001c
/-- TB_RATE, 02. -/
abbrev TB_RATE : Nat := 0x20020
/-- TB_HOLD_CFG, 02. -/
abbrev TB_HOLD_CFG : Nat := 0x20024
@[inherit_doc TB_HOLD_CFG] def TB_HOLD_CFG_LIMIT : Fld := ⟨TB_HOLD_CFG, 19, 16⟩
@[inherit_doc TB_HOLD_CFG] def TB_HOLD_CFG_DRIFT : Fld := ⟨TB_HOLD_CFG, 15, 0⟩
/-- TB_LAST_STEP_SEC, 02. -/
abbrev TB_LAST_STEP_SEC : Nat := 0x20028
/-- TB_LAST_STEP_NS, 02. -/
abbrev TB_LAST_STEP_NS : Nat := 0x2002c
/-- TB_STEP_COUNT, 02. -/
abbrev TB_STEP_COUNT : Nat := 0x20030
/-- TB_GM_ID_LO, 02. -/
abbrev TB_GM_ID_LO : Nat := 0x20034
/-- TB_GM_ID_HI, 02. -/
abbrev TB_GM_ID_HI : Nat := 0x20038
/-- TB_PTP_CFG, 02. -/
abbrev TB_PTP_CFG : Nat := 0x2003c
@[inherit_doc TB_PTP_CFG] def TB_PTP_CFG_TWO_STEP_TX : Fld := ⟨TB_PTP_CFG, 16, 16⟩
@[inherit_doc TB_PTP_CFG] def TB_PTP_CFG_DOMAIN : Fld := ⟨TB_PTP_CFG, 15, 8⟩
@[inherit_doc TB_PTP_CFG] def TB_PTP_CFG_TRANSPORT : Fld := ⟨TB_PTP_CFG, 3, 2⟩
@[inherit_doc TB_PTP_CFG] def TB_PTP_CFG_PROFILE : Fld := ⟨TB_PTP_CFG, 1, 0⟩
/-- TB_PPS_CFG, 02. -/
abbrev TB_PPS_CFG : Nat := 0x20040
@[inherit_doc TB_PPS_CFG] def TB_PPS_CFG_OUT_MIN_Q : Fld := ⟨TB_PPS_CFG, 31, 28⟩
@[inherit_doc TB_PPS_CFG] def TB_PPS_CFG_OUT_POL : Fld := ⟨TB_PPS_CFG, 25, 25⟩
@[inherit_doc TB_PPS_CFG] def TB_PPS_CFG_OUT_WIDTH : Fld := ⟨TB_PPS_CFG, 24, 16⟩
@[inherit_doc TB_PPS_CFG] def TB_PPS_CFG_IN_POL : Fld := ⟨TB_PPS_CFG, 10, 10⟩
@[inherit_doc TB_PPS_CFG] def TB_PPS_CFG_DEGLITCH : Fld := ⟨TB_PPS_CFG, 9, 0⟩
/-- TB_TOD_CFG, 02. -/
abbrev TB_TOD_CFG : Nat := 0x20044
@[inherit_doc TB_TOD_CFG] def TB_TOD_CFG_TOD_TMO : Fld := ⟨TB_TOD_CFG, 15, 8⟩
@[inherit_doc TB_TOD_CFG] def TB_TOD_CFG_BAUD : Fld := ⟨TB_TOD_CFG, 0, 0⟩
/-- TB_PPS_MISS, 02. -/
abbrev TB_PPS_MISS : Nat := 0x20048
/-- TB_TOD_ERR, 02. -/
abbrev TB_TOD_ERR : Nat := 0x2004c
/-- TB_PTP_RX_BAD, 02. -/
abbrev TB_PTP_RX_BAD : Nat := 0x20050
/-- TB_PORT_CFG[p], 02. -/
abbrev TB_PORT_CFG (p : Nat) : Nat := 0x20100 + 0x20 * p
@[inherit_doc TB_PORT_CFG] def TB_PORT_CFG_PRIORITY1 (p : Nat) : Fld := ⟨TB_PORT_CFG p, 23, 16⟩
@[inherit_doc TB_PORT_CFG] def TB_PORT_CFG_ANN_TMO (p : Nat) : Fld := ⟨TB_PORT_CFG p, 15, 12⟩
@[inherit_doc TB_PORT_CFG] def TB_PORT_CFG_LOG_ANN (p : Nat) : Fld := ⟨TB_PORT_CFG p, 11, 8⟩
@[inherit_doc TB_PORT_CFG] def TB_PORT_CFG_LOG_SYNC (p : Nat) : Fld := ⟨TB_PORT_CFG p, 7, 4⟩
@[inherit_doc TB_PORT_CFG] def TB_PORT_CFG_ROLE (p : Nat) : Fld := ⟨TB_PORT_CFG p, 1, 1⟩
@[inherit_doc TB_PORT_CFG] def TB_PORT_CFG_EN (p : Nat) : Fld := ⟨TB_PORT_CFG p, 0, 0⟩
/-- TB_PORT_RXLAT[p], 02. -/
abbrev TB_PORT_RXLAT (p : Nat) : Nat := 0x20104 + 0x20 * p
@[inherit_doc TB_PORT_RXLAT] def TB_PORT_RXLAT_LAT (p : Nat) : Fld := ⟨TB_PORT_RXLAT p, 15, 0⟩
/-- TB_PORT_TXLAT[p], 02. -/
abbrev TB_PORT_TXLAT (p : Nat) : Nat := 0x20108 + 0x20 * p
@[inherit_doc TB_PORT_TXLAT] def TB_PORT_TXLAT_LAT (p : Nat) : Fld := ⟨TB_PORT_TXLAT p, 15, 0⟩
/-- TB_PORT_ASYM[p], 02. -/
abbrev TB_PORT_ASYM (p : Nat) : Nat := 0x2010c + 0x20 * p
/-- TB_PORT_STAT[p], 02. -/
abbrev TB_PORT_STAT (p : Nat) : Nat := 0x20110 + 0x20 * p
@[inherit_doc TB_PORT_STAT] def TB_PORT_STAT_PATH_DELAY (p : Nat) : Fld := ⟨TB_PORT_STAT p, 31, 16⟩
@[inherit_doc TB_PORT_STAT] def TB_PORT_STAT_PORT_STATE (p : Nat) : Fld := ⟨TB_PORT_STAT p, 3, 0⟩
/-- CAL_CTRL, 02. -/
abbrev CAL_CTRL : Nat := 0x30000
@[inherit_doc CAL_CTRL] def CAL_CTRL_AUTO_SET : Fld := ⟨CAL_CTRL, 1, 1⟩
@[inherit_doc CAL_CTRL] def CAL_CTRL_HALT : Fld := ⟨CAL_CTRL, 0, 0⟩
/-- CAL_STATUS, 02. -/
abbrev CAL_STATUS : Nat := 0x30004
@[inherit_doc CAL_STATUS] def CAL_STATUS_OSC_FAIL : Fld := ⟨CAL_STATUS, 3, 3⟩
@[inherit_doc CAL_STATUS] def CAL_STATUS_HALT_SAT : Fld := ⟨CAL_STATUS, 2, 2⟩
@[inherit_doc CAL_STATUS] def CAL_STATUS_VALID : Fld := ⟨CAL_STATUS, 1, 1⟩
@[inherit_doc CAL_STATUS] def CAL_STATUS_RUNNING : Fld := ⟨CAL_STATUS, 0, 0⟩
/-- CAL_HALT_TICKS, 02. -/
abbrev CAL_HALT_TICKS : Nat := 0x30008
/-- CAL_UTC, 02. -/
abbrev CAL_UTC : Nat := 0x3000c
@[inherit_doc CAL_UTC] def CAL_UTC_LEAP59 : Fld := ⟨CAL_UTC, 17, 17⟩
@[inherit_doc CAL_UTC] def CAL_UTC_LEAP61 : Fld := ⟨CAL_UTC, 16, 16⟩
@[inherit_doc CAL_UTC] def CAL_UTC_OFFSET : Fld := ⟨CAL_UTC, 15, 0⟩
/-- CAL_SET_DATE, 02. -/
abbrev CAL_SET_DATE : Nat := 0x30010
/-- CAL_SET_TIME, 02. -/
abbrev CAL_SET_TIME : Nat := 0x30014
/-- CAL_COMMIT, 02. -/
abbrev CAL_COMMIT : Nat := 0x30018
@[inherit_doc CAL_COMMIT] def CAL_COMMIT_KEY : Fld := ⟨CAL_COMMIT, 31, 16⟩
@[inherit_doc CAL_COMMIT] def CAL_COMMIT_GO : Fld := ⟨CAL_COMMIT, 0, 0⟩
/-- CAL_SNAP_CMD, 02. -/
abbrev CAL_SNAP_CMD : Nat := 0x30020
@[inherit_doc CAL_SNAP_CMD] def CAL_SNAP_CMD_HALTED : Fld := ⟨CAL_SNAP_CMD, 31, 31⟩
@[inherit_doc CAL_SNAP_CMD] def CAL_SNAP_CMD_SUBSEC : Fld := ⟨CAL_SNAP_CMD, 14, 0⟩
/-- CAL_SNAP_DATE, 02. -/
abbrev CAL_SNAP_DATE : Nat := 0x30024
/-- CAL_SNAP_TIME, 02. -/
abbrev CAL_SNAP_TIME : Nat := 0x30028
/-- CAL_TRIM, 02. -/
abbrev CAL_TRIM : Nat := 0x30030
@[inherit_doc CAL_TRIM] def CAL_TRIM_RATE : Fld := ⟨CAL_TRIM, 11, 0⟩
/-- CAL_TRIM_CTRL, 02. -/
abbrev CAL_TRIM_CTRL : Nat := 0x30034
@[inherit_doc CAL_TRIM_CTRL] def CAL_TRIM_CTRL_STATE : Fld := ⟨CAL_TRIM_CTRL, 12, 11⟩
@[inherit_doc CAL_TRIM_CTRL] def CAL_TRIM_CTRL_AUTO_WRITE : Fld := ⟨CAL_TRIM_CTRL, 10, 10⟩
@[inherit_doc CAL_TRIM_CTRL] def CAL_TRIM_CTRL_MAINS_60 : Fld := ⟨CAL_TRIM_CTRL, 9, 9⟩
@[inherit_doc CAL_TRIM_CTRL] def CAL_TRIM_CTRL_AIN : Fld := ⟨CAL_TRIM_CTRL, 8, 3⟩
@[inherit_doc CAL_TRIM_CTRL] def CAL_TRIM_CTRL_SRC : Fld := ⟨CAL_TRIM_CTRL, 2, 1⟩
@[inherit_doc CAL_TRIM_CTRL] def CAL_TRIM_CTRL_START : Fld := ⟨CAL_TRIM_CTRL, 0, 0⟩
/-- CAL_TRIM_RES, 02. -/
abbrev CAL_TRIM_RES : Nat := 0x30038
@[inherit_doc CAL_TRIM_RES] def CAL_TRIM_RES_VALID : Fld := ⟨CAL_TRIM_RES, 31, 31⟩
@[inherit_doc CAL_TRIM_RES] def CAL_TRIM_RES_OUT_OF_RANGE : Fld := ⟨CAL_TRIM_RES, 30, 30⟩
@[inherit_doc CAL_TRIM_RES] def CAL_TRIM_RES_RESULT : Fld := ⟨CAL_TRIM_RES, 15, 0⟩
/-- CAL_ALM_DATE[n], 02. -/
abbrev CAL_ALM_DATE (n : Nat) : Nat := 0x30040 + 0x10 * n
/-- CAL_ALM_TIME[n], 02. -/
abbrev CAL_ALM_TIME (n : Nat) : Nat := 0x30044 + 0x10 * n
/-- CAL_ALM_CTRL[n], 02. -/
abbrev CAL_ALM_CTRL (n : Nat) : Nat := 0x30048 + 0x10 * n
@[inherit_doc CAL_ALM_CTRL] def CAL_ALM_CTRL_MASK (n : Nat) : Fld := ⟨CAL_ALM_CTRL n, 6, 1⟩
@[inherit_doc CAL_ALM_CTRL] def CAL_ALM_CTRL_EN (n : Nat) : Fld := ⟨CAL_ALM_CTRL n, 0, 0⟩
/-- CAL_ALM_STAT[n], 02. -/
abbrev CAL_ALM_STAT (n : Nat) : Nat := 0x3004c + 0x10 * n
@[inherit_doc CAL_ALM_STAT] def CAL_ALM_STAT_OVERRUN (n : Nat) : Fld := ⟨CAL_ALM_STAT n, 3, 3⟩
@[inherit_doc CAL_ALM_STAT] def CAL_ALM_STAT_REPLAYED (n : Nat) : Fld := ⟨CAL_ALM_STAT n, 2, 2⟩
@[inherit_doc CAL_ALM_STAT] def CAL_ALM_STAT_SKIPPED (n : Nat) : Fld := ⟨CAL_ALM_STAT n, 1, 1⟩
@[inherit_doc CAL_ALM_STAT] def CAL_ALM_STAT_FIRED (n : Nat) : Fld := ⟨CAL_ALM_STAT n, 0, 0⟩

/-- Rows of the register tables of 02_time_base.md. -/
def regsTime0 : List RegSpec := [
  ⟨0x20000, [], 1, .c, [.all 3 3 .rw, .all 2 2 .rw, .all 1 1 .rw, .all 0 0 .rw]⟩,
  ⟨0x20004, [], 0xf0, .c, [.all 16 16 .ro, .all 15 15 .ro, .all 14 14 .ro, .all 13 13 .ro, .all 12 11 .ro, .all 10 10 .ro, .all 8 8 .ro, .all 7 4 .ro, .all 2 0 .ro]⟩,
  ⟨0x20008, [], 0, .c, [.all 29 0 .ro]⟩,
  ⟨0x2000c, [], 0, .c, [.all 31 0 .ro]⟩,
  ⟨0x20010, [], 0, .c, [.all 15 0 .ro]⟩,
  ⟨0x20014, [], 0xa00c8, .c, [.rng 31 16 .rw 1 0x3e8, .rng 15 0 .rw 0x32 0x1388]⟩,
  ⟨0x20018, [], 0x100064, .c, [.rng 23 16 .rw 1 0xff, .rng 15 0 .rw 0xa 0x3e8]⟩,
  ⟨0x2001c, [], 0, .c, [.all 31 0 .ro]⟩,
  ⟨0x20020, [], 0, .c, [.all 31 0 .ro]⟩,
  ⟨0x20024, [], 0x50032, .c, [.rng 19 16 .rw 0 7, .rng 15 0 .rw 1 0x2710]⟩,
  ⟨0x20028, [], 0, .c, [.all 31 0 .ro]⟩,
  ⟨0x2002c, [], 0, .c, [.all 31 0 .ro]⟩,
  ⟨0x20030, [], 0, .c, [.all 31 0 .ro]⟩,
  ⟨0x20034, [], 0, .c, [.all 31 0 .ro]⟩,
  ⟨0x20038, [], 0, .c, [.all 31 0 .ro]⟩,
  ⟨0x2003c, [], 0, .c, [.all 16 16 .rw, .rng 15 8 .rw 0 0xfe, .rng 3 2 .rw 0 2, .rng 1 0 .rw 0 1]⟩,
  ⟨0x20040, [], 0x40640000, .c, [.rng 31 28 .rw 0 7, .all 25 25 .rw, .rng 24 16 .rw 1 0x1f4, .all 10 10 .rw, .rng 9 0 .rw 0 0x3e8]⟩,
  ⟨0x20044, [], 0x300, .c, [.rng 15 8 .rw 2 0x3c, .all 0 0 .rw]⟩,
  ⟨0x20048, [], 0, .c, [.all 31 0 .rw]⟩,
  ⟨0x2004c, [], 0, .c, [.all 31 0 .rw]⟩]

/-- Rows of the register tables of 02_time_base.md. -/
def regsTime1 : List RegSpec := [
  ⟨0x20050, [], 0, .c, [.all 31 0 .rw]⟩,
  ⟨0x20100, [(32, 3)], 0x803000, .c, [.all 23 16 .rw, .rng 15 12 .rw 2 0xa, .rng 11 8 .rw 0 3, .sgn 7 4 .rw (-4) 0, .all 1 1 .rw, .all 0 0 .rw]⟩,
  ⟨0x20104, [(32, 3)], 0, .c, [.all 15 0 .rw]⟩,
  ⟨0x20108, [(32, 3)], 0, .c, [.all 15 0 .rw]⟩,
  ⟨0x2010c, [(32, 3)], 0, .c, [.all 31 0 .rw]⟩,
  ⟨0x20110, [(32, 3)], 0xffff0002, .c, [.all 31 16 .ro, .all 3 0 .ro]⟩,
  ⟨0x30000, [], 2, .p, [.all 1 1 .rw, .all 0 0 .rw]⟩,
  ⟨0x30004, [], 1, .p, [.all 3 3 .ro, .all 2 2 .ro, .all 1 1 .ro, .all 0 0 .ro]⟩,
  ⟨0x30008, [], 0, .p, [.all 31 0 .rw]⟩,
  ⟨0x3000c, [], 0, .p, [.all 17 17 .rw, .all 16 16 .rw, .all 15 0 .rw]⟩,
  ⟨0x30010, [], 0x1107d0, .p, [.rng 15 0 .rw 2000 2199, .rng 19 16 .rw 1 12, .rng 24 20 .rw 1 31]⟩,
  ⟨0x30014, [], 0, .p, [.all 31 17 .rw, .rng 16 11 .rw 0 60, .rng 10 5 .rw 0 59, .rng 4 0 .rw 0 23]⟩,
  ⟨0x30018, [], 0, .p, [.rng 31 16 .wo 0x4c7d 0x4c7d, .all 0 0 .wo]⟩,
  ⟨0x30020, [], 0, .p, [.all 31 31 .ro, .all 14 0 .ro]⟩,
  ⟨0x30024, [], 0, .p, [.all 31 0 .ro]⟩,
  ⟨0x30028, [], 0, .p, [.all 31 0 .ro]⟩,
  ⟨0x30030, [], 0, .p, [.sgn 11 0 .rw (-2047) 2047]⟩,
  ⟨0x30034, [], 0, .c, [.all 12 11 .ro, .all 10 10 .rw, .all 9 9 .rw, .all 8 3 .rw, .rng 2 1 .rw 0 1, .all 0 0 .wo]⟩,
  ⟨0x30038, [], 0, .c, [.all 31 31 .ro, .all 30 30 .ro, .all 15 0 .ro]⟩,
  ⟨0x30040, [(16, 2)], 0x1107d0, .p, [.rng 15 0 .rw 2000 2199, .rng 19 16 .rw 1 12, .rng 24 20 .rw 1 31]⟩]

/-- Rows of the register tables of 02_time_base.md. -/
def regsTime2 : List RegSpec := [
  ⟨0x30044, [(16, 2)], 0, .p, [.rng 16 11 .rw 0 60, .rng 10 5 .rw 0 59, .rng 4 0 .rw 0 23]⟩,
  ⟨0x30048, [(16, 2)], 0, .p, [.all 6 1 .rw, .all 0 0 .rw]⟩,
  ⟨0x3004c, [(16, 2)], 0, .p, [.all 3 3 .w1c, .all 2 2 .w1c, .all 1 1 .w1c, .all 0 0 .w1c]⟩]

/-- The register table of 02_time_base.md. -/
def regsTime : List RegSpec := regsTime0 ++ regsTime1 ++ regsTime2

end Sys2Proof.Machine
end

