-- ==== Sys2Proof/Machine/RegTable.lean ====
section
/-!
DEFINITION. The register map of BAR0 (01): which table row, if any, an offset has, and what the register there reads as
after reset.
-/

namespace Sys2Proof.Machine

/-- Entry v of the MSI-X table (11): address, upper address, data, vector control. -/
abbrev MSIX_ADDR_LO (v : Nat) : Nat := 0x398000 + 16 * v
@[inherit_doc MSIX_ADDR_LO] abbrev MSIX_ADDR_HI (v : Nat) : Nat := 0x398004 + 16 * v
@[inherit_doc MSIX_ADDR_LO] abbrev MSIX_DATA (v : Nat) : Nat := 0x398008 + 16 * v
@[inherit_doc MSIX_ADDR_LO] abbrev MSIX_CTRL (v : Nat) : Nat := 0x39800c + 16 * v
/-- The mask bit of vector v. -/
def MSIX_CTRL_MASK (v : Nat) : Fld := ⟨MSIX_CTRL v, 0, 0⟩
/-- The pending-bit array (11). -/
abbrev MSIX_PBA (w : Nat) : Nat := 0x399000 + 4 * w

/-- The MSI-X table and pending-bit array, in the layout of the PCI Express Base Specification (11); after a class C or P
reset every vector is masked, and a class F reset restores the table (R314). -/
def regsMsix : List RegSpec := [
  ⟨0x398000, [(16, 64)], 0, .c, [.all 31 2 .rw]⟩,
  ⟨0x398004, [(16, 64)], 0, .c, [.all 31 0 .rw]⟩,
  ⟨0x398008, [(16, 64)], 0, .c, [.all 31 0 .rw]⟩,
  ⟨0x39800c, [(16, 64)], 1, .c, [.all 0 0 .rw]⟩,
  ⟨0x399000, [(4, 2)], 0, .c, [.all 31 0 .ro]⟩]

/-- The rows of the blocks that lie in one 64 KiB window of BAR0. -/
def tableOf (window : Nat) : List RegSpec :=
  match window with
  | 0x00 => regsArch
  | 0x01 => regsPower ++ regsSched
  | 0x02 => regsTime
  | 0x03 => regsTime ++ regsMetrology
  | 0x04 | 0x05 => regsPorts
  | 0x10 | 0x11 | 0x12 | 0x13 => regsLanes
  | 0x14 | 0x15 => regsAnalogue
  | 0x16 | 0x18 => regsPhasor
  | 0x20 | 0x21 | 0x22 | 0x23 | 0x24 | 0x25 | 0x26 | 0x27 | 0x28 | 0x29 | 0x2a | 0x2b | 0x2c | 0x2d | 0x2e | 0x2f => regsAlign
  | 0x30 | 0x31 | 0x32 | 0x33 => regsDetect
  | 0x34 | 0x35 | 0x36 => regsMetrology
  | 0x37 => regsCapture
  | 0x38 => regsCapture ++ regsMetrology
  | 0x39 => regsHost ++ regsMsix
  | 0x3a | 0x3b => regsSched
  | 0x3c => regsKeys
  | 0x3d => regsPair
  | 0x3e => regsFirmware
  | 0x3f => regsIntegrity
  | _ => []

/-- The register row and indices at a BAR0 offset. -/
def lookup (off : Nat) : Option (RegSpec × List Nat) := findReg (tableOf (off / 0x10000)) off

/-- Depth of sluice s in words, from the sluice table (03). -/
def sluiceDepth (s : Nat) : Nat :=
  if s = 0 ∨ s = 2 then 4096
  else if s = 4 then 8192
  else if s = 6 ∨ s = 7 then 1024
  else if s = 8 ∨ s = 19 then 512
  else if 11 ≤ s ∧ s ≤ 18 then 256
  else if s = 20 then 64
  else if 21 ≤ s ∧ s ≤ 24 then 1024
  else if s = 25 then 16
  else 2048

/-- Both sides of the sluice share a clock (03). -/
def sluiceShared (s : Nat) : Bool := s == 8 || s == 20

/-- The sluice is cut-through capable (03). -/
def sluiceCutThrough (s : Nat) : Bool := s == 0 || s == 2 || s == 4 || s == 6 || s == 8 || s == 9

/-- The sluice carries frames (SL_INFO). -/
def sluiceFrames (s : Nat) : Bool := s ≤ 10 || s == 21 || s == 22

/-- The word a sluice's SL_INFO holds. -/
def sluiceInfo (s : Nat) : Nat :=
  sluiceDepth s * 65536 + bit (sluiceShared s) * 4 + bit (sluiceCutThrough s) * 2 + bit (sluiceFrames s)

/-- Where the table gives one row several reset values, or takes them from OTP, the value at these indices.
DESIGN CHOICE (log 7): the four station addresses OTP holds are 02-00-00-00-00-01 to -04, distinct and unicast as R89
asks. -/
def resetAt (r : RegSpec) (ix : List Nat) : Nat :=
  match r.base, ix with
  | 0x40000, [p] => if p = 3 then 0x280 else 0x80
  | 0x40008, [p] => p + 1
  | 0x4000c, [_] => 0x0200
  | 0x50000, [s] => (if sluiceCutThrough s then 0x800 else 0) + (if sluiceShared s then 2 else 0) + 1
  | 0x50018, [s] => sluiceInfo s
  | 0x3a5000, [c] => if c < 4 then 1 else 0
  | 0x3c1000, [k] => if k = 0 then 0x00040205 else if k = 1 then 0x00020702 else 0
  | 0x3c1004, [k] => if k ≤ 1 then 1 else 0
  | 0x20100, [p] => if p = 2 then 0x00803002 else r.reset
  | 0x350018, _ => 1
  | 0x3b0000, [m] => if m < 64 then m * 65536 + 1 else 0
  | _, _ => r.reset

/-- What the register at an offset reads as after the reset that restores it; zero where no register is. -/
def resetWord (off : Nat) : Word :=
  match lookup off with
  | some (r, ix) => BitVec.ofNat 32 (resetAt r ix)
  | none => 0

/-- The reset class of the register at an offset. -/
def resetClassOf (off : Nat) : ResetClass :=
  match lookup off with
  | some (r, _) => r.cls
  | none => .nv

end Sys2Proof.Machine
end

