-- ==== Sys2Proof/Machine/State.lean ====
section
/-!
DEFINITION. The state of the KZ8192 block: the register file, device memory, the read latches, one structure of hidden
state per block, the record of outputs, the counter of free values and the queue of waiting commands.
-/

namespace Sys2Proof.Machine

/-- A reason to stop with a fault. No command of this block faults: the spec gives every access and event an effect. -/
inductive Fault where
  /-- Raised by nobody (safe): kept so that the type has a name for a stop the spec would call undefined. -/
  | none
deriving DecidableEq, Repr

/-- A reason to refuse a command. -/
inductive Refusal where
  /-- Raised by a dispatch arm that has no meaning yet (safe). -/
  | notModelled (mnemonic : String)
  /-- Raised by every meaning when an operand names nothing of the device: a lane above 255, a port above 3 (safe). -/
  | illFormed
deriving DecidableEq, Repr

/-- The whole state. `regs` holds what the registers show, listed where it differs from the reset value; `mem` the bytes
of DRAM, MRAM and SRAM at their internal addresses, listed where not zero. `tables` holds table t of R309
at index i under key 64·t + i, one number an entry. `free` numbers the free values drawn and `out`
records what the device put on its wires, pins and host memory; both are the model's own. -/
structure State where
  regs : Store Word := []
  mem : List Host.Cell := []
  latches : List Latch := []
  time : TimeState := {}
  cal : CalState := {}
  net : NetState := {}
  order : OrderState := {}
  peat : PeatState := {}
  sched : SchedState := {}
  host : HostState := {}
  power : PowerState := {}
  meter : MeterState := {}
  capture : CaptureState := {}
  afe : AnalogueState := {}
  links : Store LaneLink := []
  align : AlignState := {}
  phasor : PhasorState := {}
  streams : StreamState := {}
  detect : DetectState := {}
  tables : Store (List Nat) := []
  keys : KeyState := {}
  pair_ : PairState := {}
  fw : FwState := {}
  integ : IntegState := {}
  free : Nat := 0
  out : List Output := []
  pending : List Instr := []
deriving DecidableEq, Repr

/-- What a byte of memory that nothing has written reads as. DESIGN CHOICE (log 2): zero; unsafe for DRAM and SRAM. -/
def unlistedByte (_ : Nat) : Byte := 0

/-- A canonical memory: addresses strictly rising, no entry equal to what an unlisted address reads as. -/
def Memory.wf (m : List Host.Cell) : Bool := Store.wf unlistedByte m

/-- Nanoseconds of TAI at the calendar's reset date, 2000-01-01 00:00:00 UTC, with CAL_UTC.OFFSET at its reset value 0
(R45, R409). -/
def resetTai : Nat := 946684800 * 1000000000

/-- The machine right after a class P reset, before the power-up sequence (R405, R409): every register at its reset
value, the time base in FREERUN seeded from the calendar's reset date, every store empty. -/
def State.reset : State := { time := { tai := resetTai } }

end Sys2Proof.Machine
end

