-- ==== Sys2Proof/Machine/Ops.lean ====
section
/-!
DEFINITION. The named operations the meanings share: the register file and its fields, 64-bit pairs, byte strings and CRCs,
the calendar's date words, stamps, statistics counters (R10), events and IG faults (R285 to R287, R399 to R401), scheduler
flags and sources (R319 to R324), the legal audit log (R252, R253), completions, messages and delivery rings (R299 to R312),
and deadline misses (R327).
-/

namespace Sys2Proof.Machine

/-! ### Registers -/

/-- The word the register file holds at an offset. -/
def State.reg (s : State) (off : Nat) : Word := Store.get resetWord s.regs off

/-- The register file with a word at an offset. -/
def State.setReg (s : State) (off : Nat) (w : Word) : State := { s with regs := Store.set resetWord s.regs off w }

/-- A field's value. -/
def State.get (s : State) (f : Fld) : Nat := (s.reg f.off).field f.hi f.lo

/-- A field set to the low bits of a value. -/
def State.put (s : State) (f : Fld) (v : Nat) : State := s.setReg f.off ((s.reg f.off).withField f.hi f.lo v)

/-- A whole register as a number. -/
def State.word (s : State) (off : Nat) : Nat := (s.reg off).toNat

/-- A whole register set to a number modulo 2³². -/
def State.setWord (s : State) (off v : Nat) : State := s.setReg off (BitVec.ofNat 32 v)

/-- A one-bit field as a truth value. -/
def State.flag (s : State) (f : Fld) : Bool := s.get f == 1

/-- A write would change what a register holds. -/
def State.changes (s : State) (off : Nat) (w : Word) : Bool :=
  match lookup off with
  | some (r, _) => r.written (s.reg off) w != s.reg off
  | none => false

/-- A 64-bit value held in two registers, low word at `lo` and high word at `hi`. -/
def State.pair (s : State) (lo hi : Nat) : Nat := s.word hi * 2 ^ 32 + s.word lo

/-- A 64-bit value written into two registers, modulo 2⁶⁴. -/
def State.setPair (s : State) (lo hi v : Nat) : State := (s.setWord lo (v % 2 ^ 32)).setWord hi (v / 2 ^ 32)

/-- A sequence counter of 32 bits, or a field of n bits, advanced by one modulo 2ⁿ (R10). -/
def State.bump (s : State) (f : Fld) : State := s.put f (s.get f + 1)

/-- A signed field. -/
def State.getS (s : State) (f : Fld) : Int := signedOf (f.hi + 1 - f.lo) (s.get f)

/-- The whole of a register as a field. -/
def whole (off : Nat) : Fld := ⟨off, 31, 0⟩

/-- A device output appended. -/
def State.emit (s : State) (o : Output) : State := { s with out := s.out ++ [o] }

/-- The next free value (log 3) and the state that has drawn it. -/
def State.drawn (s : State) : Nat := Config.freeValue s.free
@[inherit_doc State.drawn] def State.draw (s : State) : State := { s with free := s.free + 1 }

/-- `f` applied when a condition holds. -/
def State.when (s : State) (c : Bool) (f : State → State) : State := if c then f s else s

/-- `f` folded over the numbers below `n`. -/
def State.forEach (s : State) (n : Nat) (f : Nat → State → State) : State := (List.range n).foldl (fun t i => f i t) s

/-! ### Bytes and checks -/

/-- Eight shifts of a reflected CRC register. -/
def crcShift (poly : Nat) : Nat → Nat → Nat
  | 0, r => r
  | n + 1, r => crcShift poly n (if r % 2 = 1 then (r / 2) ^^^ poly else r / 2)

/-- A reflected 32-bit CRC with all-ones start and final complement. -/
def crcReflected (poly : Nat) (bs : List Byte) : Nat :=
  (bs.foldl (fun r b => crcShift poly 8 (r ^^^ b.toNat)) 0xffffffff) ^^^ 0xffffffff

/-- CRC-32C. PRESUMED (log 6): the Castagnoli polynomial, which the spec names without stating it. -/
def crc32c (bs : List Byte) : Nat := crcReflected 0x82f63b78 bs

/-- The Ethernet FCS polynomial (log 6). -/
def crc32 (bs : List Byte) : Nat := crcReflected 0xedb88320 bs

/-- The 12 bytes of a record time stamp, little-endian (02). -/
def stampBytes (t : Stamp) : List Byte :=
  leBytes 6 (t.tai / 1000000000) ++ leBytes 4 (t.tai % 1000000000) ++ leBytes 2 t.qual

/-! ### Time -/

/-- Ticks of the calendar in a day. -/
def dayTicks : Nat := 86400 * 32768

/-- Whether a year has a 29 February. -/
def isLeapYear (y : Nat) : Bool := y % 4 == 0 && (y % 100 != 0 || y % 400 == 0)

/-- Days in a month, 1 to 12. -/
def monthDays (y m : Nat) : Nat :=
  if m = 2 then (if isLeapYear y then 29 else 28)
  else if m = 4 ∨ m = 6 ∨ m = 9 ∨ m = 11 then 30 else 31

/-- Days from 2000-01-01 to the first of January of year 2000 + n. -/
def yearStart (n : Nat) : Nat := 365 * n + (n + 3) / 4 - (if n ≤ 100 then 0 else (n - 1) / 100) + (if n ≤ 400 then 0 else (n - 1) / 400)

/-- Days in the year before the first of month m. -/
def monthStart (y m : Nat) : Nat := (List.range (m - 1)).foldl (fun a i => a + monthDays y (i + 1)) 0

/-- Days from 2000-01-01 to a date. -/
def daysOf (y m d : Nat) : Nat := yearStart (y - 2000) + monthStart y m + (d - 1)

/-- The years whose first day is not after a day count, counted back from `n`. -/
def yearOfDay : Nat → Nat → Nat
  | 0, _ => 0
  | n + 1, d => if yearStart (n + 1) ≤ d then n + 1 else yearOfDay n d

/-- The month a day of the year falls in, counted back from `m`. -/
def monthOfDay (y : Nat) : Nat → Nat → Nat
  | 0, _ => 1
  | m + 1, d => if monthStart y (m + 1) ≤ d then m + 1 else monthOfDay y m d

/-- Year, month, day of a day count since 2000-01-01; the calendar ends with 2199 (02). -/
def dateOf (d : Nat) : Nat × Nat × Nat :=
  let n := yearOfDay 199 d
  let r := d - yearStart n
  let m := monthOfDay (2000 + n) 12 r
  (2000 + n, m, r - monthStart (2000 + n) m + 1)

/-- The date word with WDAY (02); 2000-01-01 was a Saturday. -/
def dateWord (d : Nat) : Nat :=
  let (y, m, dd) := dateOf d
  y + m * 2 ^ 16 + dd * 2 ^ 20 + ((d + 5) % 7 + 1) * 2 ^ 25

/-- The time word of a tick count within the day (02). -/
def timeWord (t : Nat) : Nat :=
  let sec := t / 32768
  sec / 3600 + (sec / 60 % 60) * 2 ^ 5 + (sec % 60) * 2 ^ 11 + (t % 32768) * 2 ^ 17

/-- The calendar's date word now. -/
def State.calDate (s : State) : Nat := dateWord (s.cal.ticks / dayTicks)

/-- The calendar's time word now; second 60 is shown while a positive leap second is counted (R56). -/
def State.calTime (s : State) : Nat :=
  if s.cal.inLeap then 23 + 59 * 2 ^ 5 + 60 * 2 ^ 11 + (s.cal.leapTicks % 32768) * 2 ^ 17
  else timeWord (s.cal.ticks % dayTicks)

/-- The quality word of a stamp taken now (R38). -/
def State.qualWord (s : State) : Nat :=
  s.get TB_STATUS_QUALITY + s.get TB_STATUS_STATE * 16 + s.get TB_STATUS_LEAP_PENDING * 256

/-- The stamp of an event now. -/
def State.now (s : State) : Stamp := ⟨s.time.tai, s.qualWord⟩

/-- The time a job is judged by: on a STANDBY, pair time, which is what the newest TICK states; elsewhere the unit's own TAI and
monotonic count, the count shifted at a promotion (R361, R368). -/
def State.jobTai (s : State) : Nat :=
  match s.order.tick with
  | some t => if s.get CW_STATUS_ROLE = 2 then t.1 else s.time.tai
  | none => s.time.tai
@[inherit_doc State.jobTai] def State.jobMono (s : State) : Nat :=
  match s.order.tick with
  | some t => if s.get CW_STATUS_ROLE = 2 then t.2 else (s.time.mono + s.pair_.monoOff).toNat
  | none => (s.time.mono + s.pair_.monoOff).toNat

/-- The applied rate correction. -/
def State.rate (s : State) : Int := s.getS (whole TB_RATE)

/-- The entries of a quality history that an instant of the last 5 s can ask for: those younger, and the one before them. -/
def trimQuals (now : Nat) : List (Nat × Nat) → List (Nat × Nat)
  | [] => []
  | e :: rest => if e.1 + 5000000000 ≤ now then [e] else e :: trimQuals now rest

/-- d ns of the monotonic count run between two instants of local TAI (R37), at the rate correction in force. DEDUCED (log 173). -/
def State.ranBetween (s : State) (t now d : Nat) : Bool := decide ((d : Int) * (2 ^ 32 + s.rate) ≤ ((now : Int) - t) * 2 ^ 32)

/-- d ns of the monotonic count have run since an instant that a job is judged by. -/
def State.ranFor (s : State) (t d : Nat) : Bool := s.ranBetween t s.jobTai d

/-- The quality word jobs stamp with: on a STANDBY, the newest TICK's (R361, R417). -/
def State.jobQual (s : State) : Nat :=
  match s.order.tick with
  | some _ => if s.get CW_STATUS_ROLE = 2 then s.order.qual else s.qualWord
  | none => s.qualWord

/-- The quality code and time state in force for jobs, kept where they have changed. -/
def State.noteQual (s : State) : State :=
  let q := s.jobQual % 128
  if (s.time.quals.head?.map (·.2)) = some q then s
  else { s with time := { s.time with quals := (s.jobTai, q) :: trimQuals s.jobTai s.time.quals } }

/-- The quality code and time state at an instant that has passed (R150, R151). -/
def State.qualAt (s : State) (t : Nat) : Nat := ((s.time.quals.find? fun e => decide (e.1 ≤ t)).map (·.2)).getD (s.jobQual % 128)

/-- The pair computes in lockstep: a PRIMARY whose order log runs, or a STANDBY in RESYNC or IN_SYNC (R357, R362). -/
def State.lockstep (s : State) : Bool :=
  let y := s.get CW_STATUS_SYNC
  (s.get CW_STATUS_ROLE == 2 && (y == 1 || y == 2)) || (s.get CW_STATUS_ROLE == 1 && s.flag CW_STATUS_PARTNER && s.order.running)

/-- An item of an output class kept for its window's digest, or for the window being gathered when its own was sent (R362, R363). -/
def State.digestItem (s : State) (cls at_ index : Nat) (bytes : List Byte) : State :=
  if s.lockstep then
    { s with pair_ := { s.pair_ with items := s.pair_.items ++ [⟨max (at_ / 10000000) s.pair_.window, cls, at_, index, bytes⟩] } }
  else s

/-- Monotonic microseconds, as GL_UPTIME counts them (R36, R37). -/
def State.uptime (s : State) : Nat := s.time.mono / 1000

/-! ### Peat log, counters and events -/

/-- A statistics counter (R10): its register, its SAT bit, and the cause, index and code of its block's CNT_SAT event. -/
structure Cnt where
  off : Nat
  sat : Fld
  code : Nat
  cause : Nat := 0
  inst : Nat := 0
deriving DecidableEq, Repr

/-- The counter of occurrences filtered (R287). -/
def plFiltered : Cnt := ⟨PL_FILTERED, PL_SAT_SAT_FILTERED, EV_PL_CNT_SAT, 0xff, 9⟩

/-- The counter of occurrences dropped at a severity (R287, R289). -/
def plDrop (sev : Nat) : Cnt := ⟨PL_DROP sev, ⟨PL_SAT, sev, sev⟩, EV_PL_CNT_SAT, 0xff, sev⟩

/-- Whether one more count makes a counter saturate. -/
def State.saturates (s : State) (c : Cnt) : Bool := s.word c.off == 0xfffffffe

/-- One count, without the event: the counter stays at 0xffff_ffff and its SAT bit is set there (R10, log 8). -/
def State.countRaw (s : State) (c : Cnt) : State :=
  let v := s.word c.off
  if v = 0xffffffff then s
  else
    let t := s.setWord c.off (v + 1)
    if v = 0xfffffffe then t.put c.sat 1 else t

/-- The occurrence of an event now (R286). -/
def State.occurrence (s : State) (code sev cause inst data : Nat) : Occurrence :=
  let ok := s.flag CAL_STATUS_VALID
  let t := s.calTime
  { code, sev, cause, inst, data, stamp := s.now, mono := s.time.mono,
    utcDate := if ok then s.calDate else 0,
    utcTime := if ok then t % 2 ^ 17 + (t / 2 ^ 17 * 1000 / 32768) * 2 ^ 17 else 0,
    utcInvalid := !ok }

/-- An occurrence dropped (R287, R289): counted, and remembered for DROPPED_BEFORE. -/
def State.dropCounted (s : State) (sev : Nat) : State := { s.countRaw (plDrop sev) with peat := { s.peat with dropped := true } }

/-- PL_DROP of a severity may be raised: at most once per fold window (R289). -/
def State.dropDue (s : State) (sev : Nat) : Bool := !(s.peat.dropRaised.any fun e => e.1 == sev && decide (s.time.mono < e.2))
@[inherit_doc State.dropDue] def State.dropNoted (s : State) (sev : Nat) : State :=
  { s with peat := { s.peat with
      dropRaised := (s.peat.dropRaised.filter fun e => e.1 != sev) ++ [(sev, s.time.mono + s.get PL_CFG_FOLD_MS * 1000000)] } }

/-- An occurrence put in the queue of the peat log (R287): below MIN_SEV it is filtered; the last 512 of 8192 places take
only LEGAL; a LEGAL occurrence that finds no place is held by its source; any other is dropped, and PL_DROP is raised
once per fold window (R289). The fuel bounds the events about dropped events. -/
def State.enqueue : Nat → Occurrence → State → State
  | 0, _, s => s
  | n + 1, o, s =>
    if o.sev < s.get PL_CFG_MIN_SEV then
      let t := s.countRaw plFiltered
      if s.saturates plFiltered then State.enqueue n (t.occurrence EV_PL_CNT_SAT sevInfo 0xff 9 0) t else t
    else if s.peat.queue.length < 7680 ∨ (o.sev = sevLegal ∧ s.peat.queue.length < 8192) then
      { s with peat := { s.peat with queue := s.peat.queue ++ [o] } }
    else if o.sev = sevLegal then
      { s with peat := { s.peat with held := s.peat.held ++ [o] } }
    else
      let t := s.dropCounted o.sev
      let t := if s.saturates (plDrop o.sev) then State.enqueue n (t.occurrence EV_PL_CNT_SAT sevInfo 0xff o.sev 0) t else t
      if t.dropDue o.sev then State.enqueue n (t.occurrence EV_PL_DROP sevWarning o.sev o.sev 0) (t.dropNoted o.sev) else t

/-- An event logged without further effect. -/
def State.log (s : State) (code sev cause inst data : Nat) : State :=
  State.enqueue 3 (s.occurrence code sev cause inst data) s

/-- One event on a statistics counter (R10). -/
def State.count (s : State) (c : Cnt) : State :=
  let t := s.countRaw c
  if s.saturates c then t.log c.code sevInfo c.cause c.inst 0 else t

/-- `n` events on a statistics counter. -/
def State.countN (s : State) (c : Cnt) (n : Nat) : State :=
  let v := s.word c.off
  if n = 0 ∨ v = 0xffffffff then s
  else if v + n < 0xffffffff then s.setWord c.off (v + n)
  else ((s.setWord c.off 0xffffffff).put c.sat 1).log c.code sevInfo c.cause c.inst 0

/-- A write to a statistics counter clears it and its SAT bit (R10). -/
def State.clearCount (s : State) (off : Nat) (sat : Fld) : State := (s.setWord off 0).put sat 0

/-! ### Scheduler -/

/-- The states of a thread (R319). -/
abbrev thrDisabled : Nat := 0
@[inherit_doc thrDisabled] abbrev thrReady : Nat := 1
@[inherit_doc thrDisabled] abbrev thrRunning : Nat := 2
@[inherit_doc thrDisabled] abbrev thrWaiting : Nat := 3

/-- Whether a wait's condition is met by flags (R320). -/
def ThreadWait.met (w : ThreadWait) (flags : Nat) : Bool :=
  if w.andMode then (flags &&& w.mask) == w.mask else (flags &&& w.mask) != 0

/-- The flags a met wait leaves (R320): with CONSUME the masked flags that are 1 are cleared. -/
def ThreadWait.leave (w : ThreadWait) (flags : Nat) : Nat :=
  if w.consume then flags - (flags &&& w.mask) else flags

/-- The priority a core counts with (R322), one higher than the spec's so that none is 0. -/
def State.corePriority (s : State) (c : Nat) : Nat :=
  let t := s.get (SC_CORE_STAT_CUR c)
  if s.flag (SC_CORE_STAT_CUR_VALID c) ∧ s.get (SC_THR_STAT_STATE t) ≠ thrWaiting ∧ s.get (SC_THR_STAT_STATE t) ≠ thrDisabled
  then s.get (SC_THR_CFG_PRIO t) + 1 else 0

/-- The counter of SC block events of a core (12). -/
def scCnt (c i : Nat) : Cnt := ⟨SC_CORE_CNT c i, ⟨SC_CORE_STAT c, 16 + i, 16 + i⟩, EV_SC_CNT_SAT, c, i⟩

/-- Signal the core that a thread has become ready (R322), when its priority is higher. -/
def State.signalThread (s : State) (t : Nat) : State :=
  let c := s.get (SC_THR_CFG_CORE t)
  if s.get (SC_THR_CFG_PRIO t) + 1 ≤ s.corePriority c then s
  else if s.get (SC_THR_CFG_DISPATCH t) = 1 then s.put (SC_CORE_STAT_PREEMPT_HELD c) 1
  else (s.put (SC_CORE_STAT_MEIP c) 1).count (scCnt c 1)

/-- Append a thread to the tail of its priority level and make it READY (R319). -/
def State.makeReady (s : State) (t : Nat) : State :=
  let s := { s with sched := { s.sched with ready := s.sched.ready ++ [t] } }
  (s.put (SC_THR_STAT_STATE t) thrReady).signalThread t

/-- Wake a waiting thread whose condition its flags meet (R319, R320). -/
def State.checkWait (s : State) (t : Nat) : State :=
  match Store.get (fun _ => none) s.sched.waits t with
  | some w =>
    if s.get (SC_THR_STAT_STATE t) = thrWaiting ∧ w.met (s.word (SC_THR_FLAGS t)) then
      let s := s.setWord (SC_THR_FLAGS t) (w.leave (s.word (SC_THR_FLAGS t)))
      let s := { s with sched := { s.sched with waits := Store.set (fun _ => none) s.sched.waits t none } }
      (s.bump (whole (SC_THR_WAKES t))).makeReady t
    else s
  | none => s

/-- Set event flags of a thread and wake it if that meets its wait (R319, R321). -/
def State.setFlags (s : State) (t mask : Nat) : State :=
  (s.setWord (SC_THR_FLAGS t) (s.word (SC_THR_FLAGS t) ||| mask)).checkWait t

/-- An event source fires: it sets the flag of each enabled target of its routing entry (R324). -/
def State.fire (s : State) (e : Nat) : State :=
  let s := s.when (s.flag (SC_ROUTE_EN_A e)) fun s => s.setFlags (s.get (SC_ROUTE_THREAD_A e)) (2 ^ s.get (SC_ROUTE_FLAG_A e))
  s.when (s.flag (SC_ROUTE_EN_B e)) fun s => s.setFlags (s.get (SC_ROUTE_THREAD_B e)) (2 ^ s.get (SC_ROUTE_FLAG_B e))

/-! ### IG faults and events with effects -/

/-- Record an IG fault in the table (R401): count the open entry of the same code and cause, or open a free one, or set
FAULT_OVF; and fire source 217. The cause held is the low word (IG_FAULT_CAUSE). -/
def State.igFault (s : State) (code cause : Nat) : State :=
  let c := cause % 2 ^ 32
  let hit := (List.range 32).find? fun i => s.flag (IG_FAULT_OPEN i) && s.get (IG_FAULT_CODE i) == code && s.word (IG_FAULT_CAUSE i) == c
  let s := match hit with
    | some i => if s.get (IG_FAULT_COUNT i) = 0x7fff then s else s.bump (IG_FAULT_COUNT i)
    | none =>
      match (List.range 32).find? fun i => !s.flag (IG_FAULT_OPEN i) with
      | some i =>
        ((((s.put (IG_FAULT_OPEN i) 1).put (IG_FAULT_COUNT i) 1).put (IG_FAULT_CODE i) code).setWord (IG_FAULT_CAUSE i) c).bump IG_STATUS_OPEN
      | none => s.put IG_STATUS_FAULT_OVF 1
  s.fire 217

/-- Events of block IG that are not IG faults (R401). -/
def igInfo (code : Nat) : Bool :=
  code == EV_IG_DRAM_CECC || code == EV_IG_MRAM_CECC || code == EV_IG_CAPSULE || code == EV_IG_CNT_SAT

/-- Events that the spec calls IG faults outside block IG: the sluice test failures (R17). -/
def isIgFault (code sev : Nat) : Bool :=
  sev == sevCritical || (code / 256 == 0x1e && !igInfo code) || code == EV_SL_SYNC_FALLBACK || code == EV_SL_SYNC_FAIL

/-- An event raised: logged, and recorded as an IG fault where R401 makes it one. -/
def State.raise (s : State) (code sev : Nat) (cause inst data : Nat := 0) : State :=
  let t := s.log code sev cause inst data
  if isIgFault code sev then t.igFault code cause else t

/-- The IG counter of index i (16). -/
def igCnt (i : Nat) : Cnt := ⟨IG_CNT i, ⟨IG_SAT, i, i⟩, EV_IG_CNT_SAT, i, i⟩

/-! ### Admitted load (R20) and deadline misses (R327) -/

/-- The operating point whose limits hold: the lower point during a switch, which OP_STATUS.POINT shows (R24). -/
def State.point (s : State) : Nat := s.get OP_STATUS_POINT

/-- The limits of R20 and R272 at ECO, NOM and BOOST. -/
def atPoint (p eco nom boost : Nat) : Nat := if p = 0 then eco else if p = 1 then nom else boost
/-- Data frames/s in external stream slots (R20). -/
def limitAlign (p : Nat) : Nat := atPoint p 420000 640000 860000
/-- Lane samples/s (R20); halved under DUAL. -/
def limitLane (p : Nat) (dual : Bool) : Nat :=
  if dual then atPoint p 20000000 32768000 32768000 else atPoint p 40000000 65536000 65536000
/-- Phasor estimates/s (R20). -/
def limitPhasor (p : Nat) : Nat := atPoint p 390000 600000 780000
/-- Watcher signal samples/s (R20). -/
def limitDetect (p : Nat) : Nat := atPoint p 5200000 8000000 10400000
/-- Capture words/s (R272). -/
def limitCapture (p : Nat) : Nat := atPoint p 24000000 40000000 52000000

/-- The configured loads stay within the limits of an operating point (R20, R22, R272). -/
def State.withinLoad (s : State) (p : Nat) : Bool :=
  decide (s.get AE_LOAD_LOAD ≤ limitAlign p) && decide (s.get ME_LOAD_LOAD ≤ limitLane p (s.flag ME_G_CFG_DUAL)) &&
  decide (s.get PE_G_LOAD_LOAD ≤ limitPhasor p) && decide (s.get DE_LOAD_LOAD ≤ limitDetect p) &&
  decide (s.get CP_G_LOAD_LOAD ≤ limitCapture p)

/-- The miss counter of a monitor (12). -/
def dlCnt (m : Nat) : Cnt := ⟨DL_CNT m, DL_STAT_SAT m, EV_DL_CNT_SAT, m, m⟩

/-- A miss on any monitor (R327): counted, LAST_MISS set, source 216 fired. -/
def State.monitorMiss (s : State) (m : Nat) : State := ((s.count (dlCnt m)).put (DL_STAT_LAST_MISS m) 1).fire 216

/-- A miss on a device monitor: under admitted load it is also a device fault (R23, R327). -/
def State.deviceMiss (s : State) (m : Nat) : State :=
  let t := s.monitorMiss m
  if t.withinLoad t.point then t.raise EV_DL_DEVICE_FAULT sevCritical m m else t

/-! ### Legal audit log (R252 to R254) -/

/-- The bytes of an audit entry (R253). -/
def AuditEntry.bytes (e : AuditEntry) : List Byte :=
  let b := leBytes 4 e.index ++ leBytes 4 e.sealNo ++ stampBytes e.time ++ leBytes 4 e.utcDate ++ leBytes 4 e.utcTime ++
    leBytes 2 e.type ++ leBytes 1 e.master ++ leBytes 1 0 ++ leBytes 4 e.count ++ leBytes 8 e.addrFirst ++
    leBytes 8 e.addrLast ++ leBytes 4 e.old ++ leBytes 4 e.new ++ leBytes 2 e.lane ++ leBytes 2 0 ++
    beBytes 32 e.digest ++ beBytes 32 e.prevHash ++ (e.detail.flatMap (leBytes 4) ++ List.replicate 96 0).take 96 ++
    List.replicate 28 0
  b ++ leBytes 4 (crc32c b)

/-- The bytes at the place of entry i of the log, when it is used: as logged, or as a write of memory left them. -/
def State.auditBytes (s : State) (i : Nat) : Option (List Byte) :=
  match s.meter.auditRaw.find? fun p => p.1 == i with
  | some p => some p.2
  | none => s.meter.audit[i]?.map AuditEntry.bytes

/-- The log is full for changes once 8128 entries are used (R252). -/
def State.auditFull (s : State) : Bool := decide (8128 ≤ s.get LA_COUNT_USED)

/-- The seal counter advanced by a number of writes (R254). -/
def State.sealBy (s : State) (n : Nat) : State := s.setWord LA_SEAL (s.word LA_SEAL + n)

/-- What the caller of the audit log gives of an entry. -/
structure AuditNote where
  type : Nat
  master : Nat
  count : Nat := 0
  addrFirst : Nat := 0
  addrLast : Nat := 0
  old : Nat := 0
  new : Nat := 0
  lane : Nat := 0xffff
  digest : Nat := 0
  detail : List Nat := []
deriving DecidableEq, Repr

/-- One entry appended, without the FULL marker. -/
def State.auditPut (s : State) (n : AuditNote) : State :=
  let i := s.get LA_COUNT_USED
  let prev := if s.meter.audit.isEmpty then 0 else ((s.auditBytes (s.meter.audit.length - 1)).map sha256).getD 0
  let e : AuditEntry := {
    index := i, sealNo := s.word LA_SEAL, time := s.now, utcDate := s.calDate, utcTime := s.calTime, type := n.type,
    master := n.master, count := n.count, addrFirst := n.addrFirst, addrLast := n.addrLast, old := n.old, new := n.new,
    lane := n.lane, digest := n.digest, prevHash := prev, detail := n.detail }
  let s := { s with meter := { s.meter with audit := s.meter.audit ++ [e] } }
  let s := s.put LA_COUNT_USED (i + 1)
  ((s.put LA_STATUS_FULL (bit (decide (8128 ≤ i + 1)))).put LA_STATUS_EXHAUSTED (bit (decide (8192 ≤ i + 1))))

/-- One entry appended to the legal audit log; with no place left a device-originated entry is dropped and counted, and
using the 8128th place writes the FULL marker (R252). Callers that the full log refuses test `auditFull` first. -/
def State.auditAdd (s : State) (n : AuditNote) : State :=
  if 8192 ≤ s.get LA_COUNT_USED then (s.put LA_STATUS_LOST 1).bump (whole LA_LOST)
  else
    let t := s.auditPut n
    if s.get LA_COUNT_USED = 8127 then t.auditPut { type := 12, master := 10 } else t

/-- The MASTER code of a bus master (R253, R398). DESIGN CHOICE (log 9): an engine that is none of the listed masters
carries the code of the metrology engines. -/
def masterCode : Master → Nat
  | .host => 0
  | .core c => c + 1
  | .configLoad => 9
  | .metrology _ => 10
  | .laneBlock => 11
  | .battery => 12
  | .engine _ => 10

/-! ### Refused writes and decode misses -/

/-- Reasons of IG_CFG_REJ_INFO (R398). -/
abbrev reasonRange : Nat := 1
@[inherit_doc reasonRange] abbrev reasonState : Nat := 2
@[inherit_doc reasonRange] abbrev reasonAudit : Nat := 3
@[inherit_doc reasonRange] abbrev reasonLoad : Nat := 4
@[inherit_doc reasonRange] abbrev reasonWidth : Nat := 5

/-- The counter of refused writes. DESIGN CHOICE (log 159): R400 keys IG_CNT_SAT by the counter's index and IG_CFG_REJ has none, so its
event carries the index 10, the first that IG_CNT does not use. -/
def cfgRej : Cnt := ⟨IG_CFG_REJ, IG_STATUS_SAT_REJ, EV_IG_CNT_SAT, 10, 10⟩

/-- A refused write recorded (R5, R398). `space` is 0 for a BAR0 register and 1 for MRAM. -/
def State.refuse (s : State) (m : Master) (space off reason : Nat) : State :=
  ((((s.count cfgRej).put IG_CFG_REJ_ADDR_SPACE space).put IG_CFG_REJ_ADDR_OFFSET off).put IG_CFG_REJ_INFO_REASON reason).put
    IG_CFG_REJ_INFO_MASTER (masterCode m)

/-- The internal address of BAR0 offset 0 (01). -/
def bar0Base : Nat := 0x200000000000

/-- The internal address of BAR4 offset 0 (01). -/
def bar4Base : Nat := 0x100000000000

/-- An undecoded access (R29): its internal address captured, IG_CNT[8] counted, IG_DECODE_MISS raised. -/
def State.decodeMiss (s : State) (addr : Nat) : State :=
  ((s.setPair IG_DECODE_ADDR_LO IG_DECODE_ADDR_HI addr).count (igCnt 8)).raise EV_IG_DECODE_MISS sevMinor (addr / 2 ^ 20)

/-! ### Host interface: messages, completions, delivery rings -/

/-- DMA and messages flow: Bus Master Enable is set, the function is not in D3hot (R295), and neither PCIe sluice has stopped (R17). -/
def State.dmaOn (s : State) : Bool :=
  s.flag HI_STATUS_BUS_MASTER && !s.host.d3hot && !s.flag (SL_STATUS_STOPPED 21) && !s.flag (SL_STATUS_STOPPED 22)

/-- One message on a vector (R312): none while MSI-X is disabled; a masked vector sets its pending bit. -/
def State.message (s : State) (v : Nat) : State :=
  if !s.flag HI_STATUS_MSIX_EN || !s.dmaOn then s
  else if s.flag (MSIX_CTRL_MASK v) then s.put ⟨MSIX_PBA (v / 32), v % 32, v % 32⟩ 1
  else s.emit (.msix v)

/-- The configuration register of a coalescing source: completion ring q is source q, delivery ring r source 16 + r. -/
def coalesceCfg (src : Nat) : Nat := if src < 16 then HI_CQ_CFG src else HI_DR_CFG (src - 16)

/-- One more entry or frame on a source: signalled at once when urgent, when COAL_N is 0 or when COAL_N have gathered,
else kept for the timer (R312). -/
def State.signal (s : State) (src : Nat) (urgent : Bool) : State :=
  let cfg := s.reg (coalesceCfg src)
  if cfg.field 6 6 = 0 then s
  else
    let c := Store.get (fun _ => {}) s.host.coalesce src
    let n := c.count + 1
    if urgent || cfg.field 20 13 = 0 || decide (cfg.field 20 13 ≤ n) then
      State.message { s with host := { s.host with coalesce := Store.set (fun _ => {}) s.host.coalesce src {} } } (cfg.field 12 7)
    else
      let c' : Coalesce := ⟨n, if c.count = 0 then s.time.mono else c.first⟩
      { s with host := { s.host with coalesce := Store.set (fun _ => {}) s.host.coalesce src c' } }

/-- The completion ring of a submission ring: while a command of it runs, the one it named when the command started (R296). -/
def State.cqOf (s : State) (q : Nat) : Nat := ((s.host.bound.find? fun b => b.1 == q).map (·.2.1)).getD (s.get (HI_SQ_CFG_CQ q))

/-- The head of a submission ring after its command in progress was fetched (R299). -/
def State.headOfSq (s : State) (q : Nat) : Nat := ((s.host.bound.find? fun b => b.1 == q).map (·.2.2)).getD (s.get (HI_SQ_HEAD_HEAD q))

/-- Entries of a completion ring. -/
def State.cqSize (s : State) (c : Nat) : Nat := 2 ^ s.get (HI_CQ_CFG_LOG2SIZE c)

/-- The host's head of a completion ring. -/
def State.cqHeadOf (s : State) (c : Nat) : Nat := Store.get (fun _ => 0) s.host.cqHead c

/-- Free entries of a completion ring: 2ⁿ − 1 less those unconsumed (R301). -/
def State.cqFree (s : State) (c : Nat) : Nat :=
  let size := s.cqSize c
  size - 1 - (s.get (HI_CQ_TAIL_TAIL c) + size - s.cqHeadOf c) % size

/-- The bytes of a completion entry (R299). -/
def Completion.bytes (c : Completion) (head phase : Nat) : List Byte :=
  leBytes 4 c.tag.toNat ++ leBytes 2 head ++ leBytes 1 c.sq ++ leBytes 1 c.opcode ++ leBytes 1 c.status ++ leBytes 1 0 ++
  leBytes 2 c.detail ++ leBytes 8 c.res0 ++ leBytes 8 c.res1 ++ leBytes 2 (min c.steps 0xffff) ++ leBytes 1 0 ++
  leBytes 1 (phase + 2 * bit c.final)

/-- A completion written at the tail of its ring (R299): PHASE alternates with each pass. -/
def State.cqWrite (s : State) (c : Completion) : State :=
  let q := s.cqOf c.sq
  let tail := s.get (HI_CQ_TAIL_TAIL q)
  let base := s.pair (HI_CQ_BASE_LO q) (HI_CQ_BASE_HI q)
  let s := s.emit (.hostWrite (base + 32 * tail) (c.bytes (s.headOfSq c.sq) (s.get (HI_CQ_TAIL_PHASE q))))
  let s := if tail + 1 = s.cqSize q then (s.put (HI_CQ_TAIL_TAIL q) 0).put (HI_CQ_TAIL_PHASE q) (1 - s.get (HI_CQ_TAIL_PHASE q))
    else s.put (HI_CQ_TAIL_TAIL q) (tail + 1)
  s.signal q (c.final && c.status != 0)

/-- The ring states of HI_SQ_STAT (11). -/
abbrev sqDisabled : Nat := 0
@[inherit_doc sqDisabled] abbrev sqIdle : Nat := 1
@[inherit_doc sqDisabled] abbrev sqBusy : Nat := 2
@[inherit_doc sqDisabled] abbrev sqError : Nat := 3

/-- The ring is done with its command: it may start the next, or reads DISABLED when its EN was written 0 (R296, R298). -/
def State.ringDone (s : State) (q : Nat) : State :=
  let s := { s with host := { s.host with started := s.host.started.filter (·.1 != q), jobs := s.host.jobs.filter (·.sq != q), bound := s.host.bound.filter (·.1 != q) } }
  s.put (HI_SQ_STAT_STATE q) (if s.flag (HI_SQ_CFG_EN q) then sqIdle else sqDisabled)

/-- A final completion: written when its ring has room and DMA flows, else it waits (R301, R295). A command that a reset has lost
posts none (R314). -/
def State.complete (s : State) (c : Completion) : State :=
  if ¬ s.host.started.contains (c.sq, c.opcode) then s
  else if 0 < s.cqFree (s.cqOf c.sq) ∧ s.dmaOn then (s.cqWrite c).ringDone c.sq
  else { s with host := { s.host with waiting := s.host.waiting ++ [c] } }

/-- The counter of HI events (11). -/
def hiCnt (i : Nat) : Cnt := ⟨HI_CNT i, ⟨HI_SAT, i, i⟩, EV_HI_CNT_SAT, i, i⟩

/-- A progress completion: skipped and counted when fewer than two entries are free (R301). -/
def State.progress (s : State) (c : Completion) : State :=
  if 2 ≤ s.cqFree (s.cqOf c.sq) ∧ s.dmaOn then s.cqWrite c else s.count (hiCnt 3)

/-- Status codes (R300). -/
abbrev stOk : Nat := 0x00
@[inherit_doc stOk] abbrev stProgress : Nat := 0x01
@[inherit_doc stOk] abbrev stBusy : Nat := 0x10
@[inherit_doc stOk] abbrev stRange : Nat := 0x11
@[inherit_doc stOk] abbrev stState : Nat := 0x12
@[inherit_doc stOk] abbrev stAuth : Nat := 0x13
@[inherit_doc stOk] abbrev stAuditFull : Nat := 0x14
@[inherit_doc stOk] abbrev stTimeout : Nat := 0x15
@[inherit_doc stOk] abbrev stDeadline : Nat := 0x16
@[inherit_doc stOk] abbrev stIntegrity : Nat := 0x17
@[inherit_doc stOk] abbrev stNotCommitted : Nat := 0x18

/-- Size in bytes of a delivery ring. -/
def State.drSize (s : State) (r : Nat) : Nat := 2 ^ s.get (HI_DR_CFG_LOG2SIZE r)

/-- A payload's frame length, header and padding included (R305). -/
def framed (len : Nat) : Nat := (16 + len + 63) / 64 * 64

/-- The PAD a frame of this length needs before it to start at the ring's beginning (R306). -/
def State.drPad (s : State) (r len : Nat) : Nat :=
  let pos := s.word (HI_DR_WP r) % s.drSize r
  if s.drSize r < pos + framed len then s.drSize r - pos else 0

/-- Whether a payload fits (R306): the ring is enabled, DMA flows, and frame and PAD fit in size − 64 − (WP − RP). -/
def State.drFits (s : State) (r len : Nat) : Bool :=
  s.flag (HI_DR_CFG_EN r) && s.dmaOn &&
  decide (s.drPad r len + framed len + 64 + (s.word (HI_DR_WP r) + 2 ^ 32 - s.word (HI_DR_RP r)) % 2 ^ 32 ≤ s.drSize r)

/-- The 16-byte frame header (R305). -/
def drHeader (len type flags seq : Nat) : List Byte :=
  leBytes 4 len ++ leBytes 1 type ++ leBytes 1 flags ++ leBytes 2 0 ++ leBytes 4 seq ++ leBytes 4 0

/-- A frame placed in a delivery ring that has room (R305, R306): PAD, payload, header, WP, shadow; source 144 + r. -/
def State.drPlace (s : State) (r type flags : Nat) (payload : List Byte) : State :=
  let len := payload.length
  let base := s.pair (HI_DR_BASE_LO r) (HI_DR_BASE_HI r)
  let pos := s.word (HI_DR_WP r) % s.drSize r
  let pad := s.drPad r len
  let seq := Store.get (fun _ => 0) s.host.drSeq r
  let s := s.when (0 < pad) fun s => s.emit (.hostWrite (base + pos) (drHeader (pad - 16) 0 0 seq))
  let start := base + (if 0 < pad then 0 else pos)
  let s := (s.emit (.hostWrite (start + 16) payload)).emit (.hostWrite start (drHeader len type flags seq))
  let s := s.setWord (HI_DR_WP r) (s.word (HI_DR_WP r) + pad + framed len)
  let s := { s with host := { s.host with drSeq := Store.set (fun _ => 0) s.host.drSeq r ((seq + 1) % 2 ^ 32) } }
  let shadow := s.pair (HI_DR_SHADOW_LO r) (HI_DR_SHADOW_HI r)
  let s := s.when (shadow != 0) fun s =>
    s.emit (.hostWrite shadow (leBytes 4 (s.word (HI_DR_WP r)) ++ leBytes 4 (Store.get (fun _ => 0) s.host.drDrop r)))
  (s.signal (16 + r) false).fire (144 + r)

/-- One record dropped from a ring's flow, for the drop total of its shadow (R306). -/
def State.drDropped (s : State) (r : Nat) : State :=
  { s with host := { s.host with drDrop := Store.set (fun _ => 0) s.host.drDrop r ((Store.get (fun _ => 0) s.host.drDrop r + 1) % 2 ^ 32) } }

/-! ### Power phases -/

/-- The core domain runs: commands other than those of the battery domain can act. -/
def State.coreOn (s : State) : Bool := s.power.phase == .booting || s.power.phase == .running || s.power.phase == .warm

/-- The engines run: not before boot has ended, and not during a class W reset. -/
def State.enginesOn (s : State) : Bool := s.power.phase == .running

/-! ### Leap seconds (R56) -/

/-- TAI − UTC in seconds (CAL_UTC). -/
def State.utcOffset (s : State) : Int := s.getS CAL_UTC_OFFSET

/-- A PTP source is valid; in BATTERY there is none. -/
def State.ptpValid (s : State) : Bool := s.coreOn && s.flag TB_STATUS_SRC_VALID && (s.get TB_STATUS_SRC == 1 || s.get TB_STATUS_SRC == 2)

/-- The leap pending at the end of the UTC day: an inserted second, or a deleted one. -/
def State.leapIns (s : State) : Bool := if s.ptpValid then s.time.leap61 else s.flag CAL_UTC_LEAP61
@[inherit_doc State.leapIns] def State.leapDel (s : State) : Bool := if s.ptpValid then s.time.leap59 else s.flag CAL_UTC_LEAP59

/-- A leap pending now was so before a TAI second began. -/
def State.leapBefore (s : State) (sec : Nat) : Bool := s.time.leapFrom.any fun f => decide (f < sec * 1000000000)

/-- A TAI second is the inserted one of the leap pending: the UTC day it closes has begun before the leap was announced, or after. -/
def State.inserting (s : State) (sec : Nat) : Bool := s.leapIns && ((sec : Int) - s.utcOffset) % 86400 == 0 && s.leapBefore sec

/-- A TAI second lies in an inserted leap second: that of the leap pending, or of the last one applied. -/
def State.inInserted (s : State) (sec : Nat) : Bool :=
  s.inserting sec ||
  (match s.time.lastLeap with
   | some (m, old, ins) => ins && ((m : Int) + old == sec)
   | none => false)

/-- Seconds of UTC since 1970, leap seconds not counted, at a TAI second; an inserted second counts as the midnight that follows it. -/
def State.utcSecond (s : State) (sec : Nat) : Int :=
  let u := (sec : Int) - s.utcOffset
  match s.time.lastLeap with
  | some (m, old, _) => if u < m then (sec : Int) - old else u
  | none => u

/-- The unit's role is SOLO or PRIMARY, so that it drives outputs, pins, pulses and signatures (R416). -/
def State.drives (s : State) : Bool := s.get CW_STATUS_ROLE == 0 || s.get CW_STATUS_ROLE == 1

/-- The unit is COLD_STANDBY: lanes, functions, alignment, streams, detection, metrology and capture idle (R416). -/
def State.cold (s : State) : Bool := s.get CW_STATUS_ROLE == 3

/-- The supply state is HOLDUP (R407). -/
def State.holdup (s : State) : Bool := s.get PW_STATUS_STATE == 1

end Sys2Proof.Machine
end

