-- ==== Sys2Proof/WellFormed.lean ====
section
/-!
DEFINITION. Which commands name something of the device: every index below the count of what it selects, every written
value a word, and a dedicated write row's value with the bit the row is about.
-/

namespace Sys2Proof

/-- The configuration registers of the rings (11): HI_SQ_CFG, HI_CQ_CFG and HI_DR_CFG. -/
def ringCfg (off : Nat) : Bool :=
  (0x391008 ≤ off && off < 0x391208 && (off - 0x391008) % 32 == 0) ||
  (0x391408 ≤ off && off < 0x391608 && (off - 0x391408) % 32 == 0) ||
  (0x391808 ≤ off && off < 0x391908 && (off - 0x391808) % 32 == 0)

/-- A command is well formed. -/
def Instr.wf (i : Instr) : Bool :=
  match i with
  | .registerWrite _ _ _ _ => true
  | .statCounterClear _ off _ => decide (off < 0x400000)
  | .latchRead _ off _ => decide (off < 0x400000)
  | .partnerRead _ off _ => decide (off < 0x400000)
  | .internalAccess _ addr _ bytes => decide (0 < bytes.length) && decide (addr + bytes.length ≤ 2 ^ 48)
  | .mramLegalWrite _ off bytes => decide (off < 0x2200000) && decide (off + bytes.length ≤ 0x2200000) && decide (0 < bytes.length)
  | .sluiceSelftest s _ => decide (s < 26)
  | .opSet h _ => decide (h.sq < 16)
  | .tempUpdate _ => true
  | .glReset _ value => decide (value < 2 ^ 32)
  | .ptpMessageRx p _ => decide (p < 3)
  | .announceTimeout p => decide (p < 3)
  | .syncTimeout p => decide (p < 3)
  | .ptpMasterTx p kind => decide (p < 3) && decide (kind < 3)
  | .ppsInEdge _ _ => true
  | .todSentenceRx _ => true
  | .timeAcquire h => decide (h.sq < 16)
  | .timeStep h _ _ _ => decide (h.sq < 16)
  | .calCommit _ value => decide (value < 2 ^ 32)
  | .calSnapRead _ => true
  | .calAlarm n => decide (n < 2)
  | .trimStart _ value => decide (value < 2 ^ 32) && decide (value % 2 = 1)
  | .ethFrameRx p _ => decide (p < 4)
  | .pauseHoldEnd p => decide (p < 4)
  | .txBegin p _ _ => decide (p < 4)
  | .phyLinkLoss p => decide (p < 4)
  | .linkDownReport p => decide (p < 4)
  | .linkUpReport p => decide (p < 4)
  | .rxSilenceExpire p => decide (p < 4)
  | .rxBadRateCheck p => decide (p < 4)
  | .txqStarve p q => decide (p < 4) && decide (q < 8)
  | .pauseHighWm p _ => decide (p < 4)
  | .pauseRepeat p => decide (p < 4)
  | .pauseLowWm p _ => decide (p < 4)
  | .sampleBlockRx _ => true
  | .descriptorRx _ => true
  | .svFrameRx _ => true
  | .gapPositionRelease n => decide (n < 256)
  | .laneDeadlineMiss n => decide (n < 256)
  | .laneSilence n => decide (n < 256)
  | .laneResync _ n value => decide (n < 256) && decide (value < 2 ^ 32) && decide (value % 2 = 1)
  | .laneEnable _ n value => decide (n < 256) && decide (value < 2 ^ 32) && decide (value % 2 = 1)
  | .laneDisable _ n value => decide (n < 256) && decide (value < 2 ^ 32) && decide (value % 2 = 0)
  | .converterFrame c => decide (c < 8)
  | .conversionEnd c _ _ _ _ => decide (c < 8)
  | .injTimerTrigger c => decide (c < 8)
  | .injSoftTrigger _ c value => decide (c < 8) && decide (value < 2 ^ 32) && decide (value % 2 = 1)
  | .chainOutput n => decide (n < 64)
  | .chainDeadlineMiss n => decide (n < 64)
  | .fcSwap _ n value => decide (value < 2 ^ 32) && decide (n < 64)
  | .fcLoadFactory _ n value => decide (value < 2 ^ 32) && decide (n < 64)
  | .fcCoefWrite _ n value => decide (value < 2 ^ 32) && decide (n < 64)
  | .phasorEstimate f => decide (f < 272)
  | .halfWindow m j => decide (m < 16) && decide (j < 8)
  | .pmuDeadlineMiss f => decide (f < 272)
  | .halfCycleDeadlineMiss m => decide (m < 16)
  | .osDeadlineMiss s => decide (s < 32)
  | .osCmdDataOff s _ => decide (s < 32)
  | .osCmdDataOn s _ => decide (s < 32)
  | .osCmdHeader s _ => decide (s < 32)
  | .osCmdCfg1 s _ => decide (s < 32)
  | .osCmdCfg2 s _ => decide (s < 32)
  | .osCmdCfg3 s _ => decide (s < 32)
  | .osCmdReject s _ _ => decide (s < 32)
  | .osConnect s port => decide (s < 32) && decide (port < 65536)
  | .osTcpClose s => decide (s < 32)
  | .osTcpKeepalive s _ => decide (s < 32)
  | .osCfg2Repeat s => decide (s < 32)
  | .osEnable _ s value => decide (value % 2 = 1) && decide (s < 32) && decide (value < 2 ^ 32)
  | .alignFrameRx _ => true
  | .cfgFrameCheck _ => true
  | .bucketClose _ => true
  | .bucketDeadlineMiss _ => true
  | .slotStale n => decide (n < 8192)
  | .slotEnable _ n value => decide (value < 2 ^ 32) && decide (value % 2 = 1) && decide (n < 8192)
  | .alignEnable _ value => decide (value < 2 ^ 32) && decide (value % 2 = 1)
  | .alignDisable _ value => decide (value < 2 ^ 32) && decide (value % 2 = 0)
  | .fenQuery h _ _ _ _ _ _ _ => decide (h.sq < 16)
  | .fenPin h _ _ _ _ => decide (h.sq < 16)
  | .fenUnpin h _ _ _ _ => decide (h.sq < 16)
  | .owSample w _ => decide (w < 64)
  | .owModalUpdate w => decide (w < 64)
  | .iwWaEval k _ => decide (k < 16)
  | .iwLocalEval k => decide (k < 16)
  | .iwLearnEnd k => decide (k < 16)
  | .locVsHoldEnd k => decide (k < 16)
  | .ruleMinOnEnd r => decide (r < 32)
  | .ruleClear _ r value => decide (value < 2 ^ 32) && decide (r < 32)
  | .iwClear _ k value => decide (value < 2 ^ 32) && decide (k < 16)
  | .owEnable _ w value => decide (value % 2 = 1) && decide (value < 2 ^ 32) && decide (w < 64)
  | .iwEnable _ k value => decide (value % 2 = 1) && decide (value < 2 ^ 32) && decide (k < 16)
  | .iwDisable _ k value => decide (value % 2 = 0) && decide (value < 2 ^ 32) && decide (k < 16)
  | .detectionDeadlineMiss kind index => decide (kind < 5) && decide (index < (if kind < 2 then 64 else if kind < 4 then 16 else 1))
  | .blockBook n _ _ => decide (n < 256)
  | .meBlockDeadlineMiss n => decide (n < 256)
  | .supplyTrip _ => true
  | .laneRecordClose h _ _ => decide (h.sq < 16)
  | .metrologyMode h _ => decide (h.sq < 16)
  | .ledgerAck _ value => decide (value < 2 ^ 32)
  | .ledgerResend _ value => decide (value < 2 ^ 32)
  | .meterDisable _ n value => decide (n < 256) && decide (value < 2 ^ 32) && decide (value % 2 = 0)
  | .pulseEmit p => decide (p < 8)
  | .pulseWidthEnd p => decide (p < 8)
  | .sentinelSample rms => decide (rms.length = 4)
  | .tamperInput pin _ => decide (pin < 2)
  | .captureRow u _ => decide (u < 16)
  | .captureHoldoffEnd u => decide (u < 16)
  | .captureDeadlineMiss u => decide (u < 16)
  | .cpArm _ u value => decide (value < 2 ^ 32) && decide (u < 16)
  | .cpDisarm _ u value => decide (value < 2 ^ 32) && decide (u < 16)
  | .cpTrig _ u value => decide (value < 2 ^ 32) && decide (u < 16)
  | .cpReleaseAll _ u value => decide (value < 2 ^ 32) && decide (u < 16)
  | .captureArm h _ _ => decide (h.sq < 16)
  | .captureRead h _ _ _ _ _ _ _ => decide (h.sq < 16)
  | .logRead h _ _ _ _ _ _ => decide (h.sq < 16)
  | .sqDoorbell _ q value => decide (value < 2 ^ 32) && decide (q < 16)
  | .cqDoorbell _ q value => decide (value < 2 ^ 32) && decide (q < 16)
  | .drDoorbell _ r value => decide (value < 2 ^ 32) && decide (r < 8)
  | .ringEnable _ off value => decide (value % 2 = 1) && decide (value < 2 ^ 32) && ringCfg off
  | .ringDisable _ off value => decide (value % 2 = 0) && decide (value < 2 ^ 32) && ringCfg off
  | .commandStart q _ opcode _ => decide (q < 16) && decide (opcode < 256)
  | .commandStep q _ => decide (q < 16)
  | .stepDeadlineMiss q => decide (q < 16)
  | .msixCoalesceTimer src => decide (src < 24)
  | .msixUnmask _ v value => decide (value < 2 ^ 32) && decide (v < 64) && decide (value % 2 = 0)
  | .hbWrite _ value => decide (value < 2 ^ 32)
  | .nop h => decide (h.sq < 16)
  | .tableSet h _ _ _ _ => decide (h.sq < 16)
  | .readTable h _ _ _ _ => decide (h.sq < 16)
  | .threadFlagSet _ t value => decide (value < 2 ^ 32) && decide (t < 512)
  | .threadFlagClear _ t value => decide (value < 2 ^ 32) && decide (t < 512)
  | .threadWait _ t value => decide (value < 2 ^ 32) && decide (t < 512) && decide (value % 2 = 1)
  | .threadEnable _ t value => decide (value % 2 = 1) && decide (value < 2 ^ 32) && decide (t < 512)
  | .threadDisable _ t value => decide (value % 2 = 0) && decide (value < 2 ^ 32) && decide (t < 512)
  | .preemptTrap c => decide (c < 8)
  | .coreClaim _ c => decide (c < 8)
  | .coreYield _ c value => decide (value < 2 ^ 32) && decide (c < 8)
  | .coreRun _ c value => decide (value < 2 ^ 32) && decide (c < 8)
  | .softwareEvent _ value => decide (value < 2 ^ 32)
  | .schedTimer i => decide (i < 16)
  | .dlArm _ d value => decide (value < 2 ^ 32) && decide (64 ≤ d) && decide (d < 128)
  | .dlDueArm _ d value => decide (value < 2 ^ 32) && decide (64 ≤ d) && decide (d < 128)
  | .dlDone _ d value => decide (value < 2 ^ 32) && decide (64 ≤ d) && decide (d < 128)
  | .threadDeadlineMiss d => decide (64 ≤ d) && decide (d < 128)
  | .keyGenerate h _ _ _ _ _ _ => decide (h.sq < 16)
  | .keyImport h _ _ _ => decide (h.sq < 16)
  | .keyUpdate h _ _ _ _ _ => decide (h.sq < 16)
  | .attest h _ _ _ _ _ => decide (h.sq < 16)
  | .sign h _ _ _ _ => decide (h.sq < 16)
  | .verify h _ _ _ => decide (h.sq < 16)
  | .pairEnable _ value => decide (value < 2 ^ 32) && decide (value % 2 = 1)
  | .pairDisable _ value => decide (value < 2 ^ 32) && decide (value % 2 = 0)
  | .pairJoin h _ _ _ _ _ => decide (h.sq < 16)
  | .pairPromote h => decide (h.sq < 16)
  | .pairDrill h => decide (h.sq < 16)
  | .cwKeepaliveRx _ _ _ _ => true
  | .cwOrderRx _ _ _ => true
  | .cwFetchRx _ _ _ => true
  | .cwFrameCopyRx _ _ _ _ => true
  | .cwDigestRx _ _ _ _ => true
  | .cwLedgerNoteRx _ _ _ _ => true
  | .cwHealthRx _ _ _ _ _ => true
  | .cwStateRx _ _ _ _ _ _ => true
  | .cwStateAckRx _ _ _ => true
  | .cwPromoteRx _ _ _ => true
  | .cwDivergeRx _ _ _ _ => true
  | .cwJoinRx _ _ _ _ _ => true
  | .cwJoinReplyRx _ _ _ => true
  | .cwRelayRx _ _ _ => true
  | .cwLaneSilence l => decide (l < 2)
  | .selftestResult _ => true
  | .katRun engine _ => decide (engine < 17)
  | .scrubPass mram corrected bad => (corrected ++ bad).all fun w => decide (0x100000000000 ≤ w) == mram && w % 8 == 0
  | .eyeMeasure l _ => decide (l < 2)
  | .pathCheck path _ => decide (path < 4)
  | .imageStage h _ _ _ _ => decide (h.sq < 16)
  | .fwArm h _ => decide (h.sq < 16)
  | .fwConfirm h => decide (h.sq < 16)
  | .fwFallback h => decide (h.sq < 16)
  | .imageVerified => true
  | .relayOfferIn _ _ _ _ _ => true
  | .relayChunkIn _ data => decide (data.length ≤ 8192)
  | .relayAckRx _ _ _ => true
  | .relayResultRx _ _ => true
  | .relayAbortRx _ _ => true
  | .relayArmRx _ _ => true
  | .returnCapsule h _ => decide (h.sq < 16)
  | .bootUp _ a b _ => decide (a < 3) && decide (b < 3)
  | .configLoad _ _ _ => true
  | .vbatLow _ => true
  | .phyLinkUp p _ _ => decide (p < 4)
  | .configSpaceWrite _ _ _ => true
  | .opSwitchEnd => true
  | .warmResetTakeEffect => true
  | .warmResetEnd => true
  | .portQualifyWaitEnd => true
  | .qualityTick => true
  | .ppsWindowMiss => true
  | .todTimeout => true
  | .taiSecond => true
  | .ppsOutEnd => true
  | .todTxSend => true
  | .trimFinish => true
  | .utcMidnight => true
  | .prpDdExpire => true
  | .prpSupervisionTx => true
  | .refReady => true
  | .bucketOpen => true
  | .ruleEval => true
  | .saveSnapshot => true
  | .saveCommit => true
  | .saveDeadlineMiss => true
  | .supplyRecover => true
  | .coreDomainStop => true
  | .intervalBoundary => true
  | .ledgerSign => true
  | .ledgerPlace => true
  | .signDeadlineMiss => true
  | .captureMatch => true
  | .peatEntryWrite => true
  | .foldWindowClose => true
  | .tailCopy => true
  | .completionPost => true
  | .hbTimeout => true
  | .functionLevelReset => true
  | .perstAssert => true
  | .drbgReseed => true
  | .entropyFail => true
  | .cwKeepaliveTx => true
  | .partnerSilence => true
  | .promoteEffect => true
  | .orderTick => true
  | .orderFlush => true
  | .orderMatchExpire => true
  | .fetchTimer => true
  | .digestSend => true
  | .digestMissing => true
  | .healthTx => true
  | .checkpointTx => true
  | .imageCopyDone => true
  | .kickoff => true
  | .activationEnd => true
  | .startLimitExpire => true
  | .configCopyDone => true
  | .relayAckTimer => true
  | .relayRetransmit => true
  | .relayGiveUp => true
  | .nandRefresh => true
  | .refreshPassed _ => true
  | .batteryPowerOn _ => true
  | .vinReturn => true
  | .rstNAssert => true
  | .batteryLoss => true
  | .perstRelease => true
  | .digestLate => true
  | .vbatInsert => true

end Sys2Proof
end

