-- ==== Sys2Proof/Machine/Operands.lean ====
section
/-!
DEFINITION. The operand forms: when a command acts at all, and what a register read is (R2, R3, R12, R13, R29, R60, R409).
-/

namespace Sys2Proof.Machine

/-- The outcome of a command that takes effect whatever the supply state: it is refused only when ill formed. -/
def checked (i : Instr) (s : State) (f : State → State) : Host.Outcome State Fault Refusal :=
  if i.wf then .next (f s) else .refused .illFormed

/-- A command of the core domain: without it (unpowered, BATTERY, held in reset) nothing happens (R407, R412). -/
def onCore (i : Instr) (s : State) (f : State → State) : Host.Outcome State Fault Refusal :=
  checked i s fun s => if s.coreOn then f s else s

/-- A command of the engines, which do not run before boot has ended nor during a class W reset (R409, R413). -/
def onEngines (i : Instr) (s : State) (f : State → State) : Host.Outcome State Fault Refusal :=
  checked i s fun s => if s.enginesOn then f s else s

/-- The first word with an uncorrectable error among `n` bytes from an internal address (R394). -/
def State.badWord (s : State) (a n : Nat) : Option Nat := s.integ.bad.find? fun w => decide (a < w + 8) && decide (w < a + n)

/-- Words written whole hold no error any more. -/
def State.healed (s : State) (a n : Nat) : State :=
  { s with integ := { s.integ with bad := s.integ.bad.filter fun w => !(decide (a ≤ w) && decide (w + 8 ≤ a + n)) } }

/-- A read meets an uncorrectable word of DRAM or MRAM (R394): the IG fault, folded on the 1 MiB region. -/
def State.uecc (s : State) (w : Nat) : State :=
  let mram := decide (0x100000000000 ≤ w)
  (s.count (igCnt (if mram then 4 else 2))).raise (if mram then EV_IG_MRAM_UECC else EV_IG_DRAM_UECC) sevMajor (w / 2 ^ 20)

/-- The registers of 64-bit values held in two registers (R12), low word first: base of the low word, and the strides and
counts of its indices; the high word lies 4 bytes above. DEDUCED (log 10): every pair the register tables give. -/
def pairTable : List (Nat × List (Nat × Nat)) := [
  (GL_SERIAL_LO, []), (GL_UPTIME_LO, []), (TB_GM_ID_LO, []), (0x40020, [(0x4000, 4)]), (0x40500, [(0x4000, 4)]),
  (0x40508, [(0x4000, 4)]), (0x100004, [(1024, 256)]), (0x100044, [(1024, 256)]), (FS_OPEN_LO, []), (FS_CLOSED_LO, []),
  (FS_OLDEST_LO, []), (FS_ANNEX_SEQ_LO, []), (0x340084, [(256, 256)]), (0x34008c, [(256, 256)]), (0x340094, [(256, 256)]),
  (0x34009c, [(256, 256)]), (0x3400d0, [(256, 256)]), (0x3400d8, [(256, 256)]), (0x3400e0, [(256, 256)]),
  (ME_SAVE_SEQ_LO, []), (ME_LEDGER_HEAD_LO, []), (ME_LEDGER_ACK_LO, []), (PL_NEWEST_LO, []), (PL_OLDEST_LO, []),
  (0x391000, [(32, 16)]), (0x391400, [(32, 16)]), (0x391800, [(32, 8)]), (0x39180c, [(32, 8)]), (0x3b000c, [(32, 128)]),
  (NP_MAC_LO 0, [(0x4000, 4)]), (MSIX_ADDR_LO 0, [(16, 64)]), (DE_RES_BASE_LO, []), (CW_PAIR_ID_LO, []), (CW_PARTNER_LO, []), (CW_ROLE_SINCE_LO, []), (IG_DECODE_ADDR_LO, [])]

/-- Whether an offset is the low word of a 64-bit value. -/
def isPairLow (off : Nat) : Bool :=
  pairTable.any fun (b, ds) => decide (b ≤ off) && (indicesOf ds (off - b)).isSome

/-- The registers a read of this one latches for the reading master (R12, R59, R60, R125, R398). -/
def latchPartners (off : Nat) : List Nat :=
  if off = TB_TIME_NS then [TB_TIME_SEC_LO, TB_TIME_SEC_HI]
  else if off = CAL_SNAP_CMD then [CAL_SNAP_DATE, CAL_SNAP_TIME]
  else if off = FU_KICK_NS then [FU_KICK_SEC_LO, FU_KICK_SEC_HI]
  else if off = IG_CFG_REJ_ADDR then [IG_CFG_REJ_INFO]
  else if 0x320804 ≤ off ∧ off < 0x320884 ∧ (off - 0x320804) % 16 = 0 then [off + 4, off + 8]
  else if 0x140114 ≤ off ∧ off < 0x140314 ∧ (off - 0x140114) % 64 = 0 then
    [off + 4, off + 8, off + 12, off + 16, off + 20, off + 24, off + 28]
  else if isPairLow off then [off + 4]
  else []

/-- The register whose read latches this one, if any. -/
def latchedBy (off : Nat) : Option Nat :=
  ([off - 4, off - 8, off - 12, off - 16, off - 20, off - 24, off - 28]).find? fun b =>
    decide (b < off) && (latchPartners b).contains off

/-- Bits 32i + 31 down to 32i of the condition vector. -/
def State.vectorWord (s : State) (i : Nat) : Nat := s.capture.vector / 2 ^ (32 * i) % 2 ^ 32

/-- A coefficient of a chain: what software wrote, else the factory coefficient of the preset last loaded (R133). -/
def State.coef (s : State) (n b t : Nat) : Int :=
  match Store.get (fun _ => none) s.afe.coefs ((n * 2 + b) * 128 + t) with
  | some v => v
  | none => (Config.factoryCoef (Store.get (fun _ => {}) s.afe.chains n).coefPreset t).toInt

/-- The selected coefficient of a chain. -/
def State.coefficient (s : State) (n : Nat) : Int :=
  let sel := s.reg (FC_COEF_SEL n)
  s.coef n (sel.field 8 8) (sel.field 6 0)

/-- TAP advances after an accepted access to FC_COEF_DATA when AUTO_INC is 1. -/
def State.coefStep (s : State) (n : Nat) : State :=
  if s.flag (FC_COEF_SEL_AUTO_INC n) then s.put (FC_COEF_SEL_TAP n) (s.get (FC_COEF_SEL_TAP n) + 1) else s

/-- ME_SAVE_AGE in ms (09): by the last save committed since the reset, else by the save restored, else its greatest value. -/
def State.saveAge (s : State) : Nat :=
  match s.meter.lastSave, s.meter.savedAt with
  | some m, _ => min ((s.jobMono - m) / 1000000) 0xffffffff
  | none, some t => min ((s.time.tai - t) / 1000000) 0xffffffff
  | none, none => 0xffffffff

/-- A TAI instant on the monotonic count as the two now stand to each other (R37). -/
def State.monoOf (s : State) (t : Nat) : Nat := s.time.mono + t - s.time.tai

/-- A deadline of a device monitor resolved in time: the last one resolved was not missed (R326, R327). -/
def State.deviceMet (s : State) (m : Nat) (late : Bool) : State := s.when (!late) fun s => s.put (DL_STAT_LAST_MISS m) 0

/-- The latch a master holds for a register (R13). -/
def State.latchOf (s : State) (m : Master) (off : Nat) : Option Word :=
  (s.latches.find? fun l => l.master == m && l.off == off).map (·.word)

/-- A master's latch used up. -/
def State.dropLatch (s : State) (m : Master) (off : Nat) : State :=
  { s with latches := s.latches.filter fun l => !(l.master == m && l.off == off) }

/-- A master's latch set, replacing the one it held. -/
def State.setLatch (s : State) (m : Master) (off v : Nat) : State :=
  let s := s.dropLatch m off
  { s with latches := s.latches ++ [⟨m, off, BitVec.ofNat 32 v⟩] }

/-- Before BOOT_DONE only the GL block answers in BAR0 (R409). -/
def State.answers (s : State) (off : Nat) : Bool := s.flag GL_STATUS_BOOT_DONE || decide (off < 0x10000)

/-- A sluice that has stopped (R17) lies between a master and a register: PCIe receive for the host, the battery domain's for the calendar.
DESIGN CHOICE (log 192): such a write is dropped and such a read gives zero; the rule says only that the sluice stops. -/
def State.reaches (s : State) (m : Master) (off : Nat) : Bool :=
  !(m == .host && s.flag (SL_STATUS_STOPPED 21)) && !(decide (CAL_CTRL ≤ off) && decide (off < 0x40000) && s.flag (SL_STATUS_STOPPED 25))

/-- A load or store of a core at an address that is no multiple of its width traps (R316). -/
def coreTraps (m : Master) (addr width : Nat) : Bool :=
  match m with
  | .core _ => addr % max 1 width != 0
  | _ => false

/-- That trap: cause 4 for a load, 6 for a store. -/
def State.misTrap (s : State) (m : Master) (write : Bool) : State :=
  match m with
  | .core c => s.emit (.trap c (if write then 6 else 4))
  | _ => s

/-! ### Sluices -/

/-- The counters of a sluice: corrected, uncorrectable, discarded (R88). -/
def slCecc (i : Nat) : Cnt := ⟨SL_CECC i, SL_STATUS_SAT_CECC i, EV_SL_CNT_SAT, i, i⟩
@[inherit_doc slCecc] def slUecc (i : Nat) : Cnt := ⟨SL_UECC i, SL_STATUS_SAT_UECC i, EV_SL_CNT_SAT, i, i⟩
@[inherit_doc slCecc] def slDiscard (i : Nat) : Cnt := ⟨SL_DISCARD i, SL_STATUS_SAT_DISCARD i, EV_SL_CNT_SAT, i, i⟩

/-- Words crossing a sluice with ECC errors (R15, R88): each corrected one counted, an uncorrectable one counted and reported. -/
def State.sluiceEcc (s : State) (sl corrected : Nat) (poisoned : Bool) : State :=
  (s.countN (slCecc sl) corrected).when poisoned fun s => (s.count (slUecc sl)).raise EV_SL_UECC sevMajor sl sl

end Sys2Proof.Machine
end

