-- ==== Sys2Proof/Machine/Memory.lean ====
section
/-!
DEFINITION. Device memory by bytes: DRAM, MRAM and SRAM at their internal addresses (01, R30).
-/

namespace Sys2Proof.Machine

/-- The byte a memory holds at an address. -/
def Memory.read (m : List Host.Cell) (a : Nat) : Byte := Store.get unlistedByte m a

/-- A memory with one byte stored. -/
def Memory.write (m : List Host.Cell) (a : Nat) (b : Byte) : List Host.Cell := Store.set unlistedByte m a b

/-- A memory with bytes stored from an address up. -/
def Memory.writeAll (m : List Host.Cell) : Nat → List Byte → List Host.Cell
  | _, [] => m
  | a, b :: bs => Memory.writeAll (Memory.write m a b) (a + 1) bs

/-- The byte at an address. -/
def State.memByte (s : State) (a : Nat) : Byte := Memory.read s.mem a

/-- `n` bytes from an address up. -/
def State.memRead (s : State) (a n : Nat) : List Byte := (List.range n).map fun i => s.memByte (a + i)

/-- Bytes stored from an address up. -/
def State.memWrite (s : State) (a : Nat) (bs : List Byte) : State :=
  State.healed { s with mem := Memory.writeAll s.mem a bs } a bs.length

end Sys2Proof.Machine
end

