-- ==== Sys2Proof/Machine/KeyStore.lean ====
section
/-!
DEFINITION. The key store as every engine uses it (13, R331 to R338, R345): slots and their attributes, which engine may have
a key, which slots are in service, the two-phase write, random values, signatures, and the stored certificate chain (R346).
-/

namespace Sys2Proof.Machine

/-- Bytes of a key of an ALG (R332). -/
def keyBytes (alg : Nat) : Nat :=
  if alg = 1 then 16 else if alg = 2 ∨ alg = 3 ∨ alg = 7 then 32 else if alg = 4 then 64 else if alg = 5 then 96
  else if alg = 6 then 48 else 0

/-- The CRC-32C over both shares and the attributes of a cell (R331), the generation being one of them (R332). DESIGN CHOICE (log 219):
the order of these bytes. -/
def KeyCell.check (c : KeyCell) : Nat :=
  let n := keyBytes (c.attr % 16)
  crc32c (beBytes n c.share ++ beBytes n c.mask ++ leBytes 4 c.attr ++ leBytes 4 c.gen)

/-- A cell with its commit word written, and whether a cell's commit word verifies (R337). -/
def KeyCell.seal (c : KeyCell) : KeyCell := { c with crc := c.check }
@[inherit_doc KeyCell.seal] def KeyCell.ok (c : KeyCell) : Bool := c.crc == c.check

/-- A slot as it leaves the factory (R334, R336). -/
def factorySlot (k : Nat) : KeySlot :=
  if k ≤ 1 then
    { a := KeyCell.seal { share := Config.factoryKey k ^^^ Config.factoryMask k, mask := Config.factoryMask k,
                          attr := if k = 0 then 0x00040205 else 0x00020702, gen := 1 } }
  else { a := KeyCell.seal {} }

/-- A key slot: what has been written to it, else what it holds from manufacture. -/
def State.slot (s : State) (k : Nat) : KeySlot := (Store.get (fun _ => none) s.keys.slots k).getD (factorySlot k)

/-- The cell in force. -/
def KeySlot.cell (k : KeySlot) : KeyCell := if k.second then k.b else k.a

/-- The key of a slot. -/
def State.keyOf (s : State) (k : Nat) : Nat := (s.slot k).cell.value

/-- A slot's ALG, USAGE and DEST (R332) and generation (R336). -/
def State.keyAlg (s : State) (k : Nat) : Nat := s.get (KS_ATTR_ALG k)
@[inherit_doc State.keyAlg] def State.keyUsage (s : State) (k : Nat) : Nat := s.get (KS_ATTR_USAGE k)
@[inherit_doc State.keyAlg] def State.keyDest (s : State) (k : Nat) : Nat := s.get (KS_ATTR_DEST k)
@[inherit_doc State.keyAlg] def State.keyGen (s : State) (k : Nat) : Nat := s.word (KS_GEN k)

/-- The destination mask admits a destination (R332): 0 SE_HASH, 1 SE_AES, 2 SE_SLH, 3 INGEST_AUTH, 4 CAUSEWAY, 5 ATTEST. -/
def State.admits (s : State) (k dest : Nat) : Bool := (s.keyDest k).testBit dest

/-- A row of the table of R332: ALG, USAGE, the permitted DEST bits, whether KEY_GENERATE and KEY_IMPORT create it. -/
structure KeyRow where
  alg : Nat
  usage : Nat
  dest : Nat
  generate : Bool
  canImport : Bool
deriving DecidableEq, Repr

/-- The table of R332, the rows commands can name. -/
def keyRows : List KeyRow := [
  ⟨1, 4, 8, false, true⟩, ⟨1, 1, 2, true, true⟩, ⟨2, 5, 16, false, true⟩, ⟨2, 7, 2, false, true⟩, ⟨2, 1, 2, true, true⟩,
  ⟨3, 6, 32, false, true⟩, ⟨3, 1, 1, true, true⟩, ⟨4, 3, 4, true, false⟩, ⟨4, 1, 4, true, true⟩, ⟨5, 1, 4, true, true⟩,
  ⟨6, 8, 4, false, true⟩, ⟨6, 1, 4, false, true⟩, ⟨7, 1, 4, false, true⟩]

/-- The row an ALG, USAGE and DEST fall in: DEST a non-empty subset of the row's bits. -/
def keyRow (alg usage dest : Nat) : Option KeyRow :=
  keyRows.find? fun r => r.alg == alg && r.usage == usage && dest != 0 && (dest &&& r.dest) == dest

/-- A slot is in service (R335). -/
def State.inService (s : State) (k : Nat) : Bool :=
  (List.range 256).any (fun n => s.flag (LN_CFG_EN n) && (s.get (LN_KEY_SLOT n) == k || (s.flag (LN_KEY_NEXT_EN n) && s.get (LN_KEY_NEXT n) == k))) ||
  (s.flag ME_G_CFG_LEDGER_EN && s.get ME_G_CFG_LEDGER_SLOT == k) || (s.flag CW_CFG_PAIR_EN && s.get CW_CFG_KEY_SLOT == k)

/-- KS_SLOT_STAT.IN_SERVICE of a slot brought up to date. -/
def State.showService (s : State) (k : Nat) : State := s.put (KS_SLOT_STAT_IN_SERVICE k) (bit (s.inService k))

/-- Slots that are not EMPTY (R331, KS_STATUS). -/
def State.slotsUsed (s : State) : Nat := ((List.range 256).filter fun k => s.keyAlg k != 0).length

/-- A slot's attributes and generation as the registers show them. -/
def State.showSlot (s : State) (k : Nat) (v : KeySlot) : State :=
  let s := (s.setWord (KS_ATTR k) v.cell.attr).setWord (KS_GEN k) v.cell.gen
  let s := s.put (KS_SLOT_STAT_VALID k) (bit (v.cell.attr % 16 != 0))
  s.put KS_STATUS_USED s.slotsUsed

/-- A slot's new contents. -/
def State.setSlot (s : State) (k : Nat) (v : KeySlot) : State :=
  State.showSlot { s with keys := { s.keys with slots := Store.set (fun _ => none) s.keys.slots k (some v) } } k v

/-- The cell that is not in force erased: what a write that HOLDUP cuts before its commit word leaves (R337). -/
def State.eraseAlternate (s : State) (k : Nat) : State :=
  let o := s.slot k
  s.setSlot k (if o.second then { o with a := {} } else { o with b := {} })

/-- `n` bytes from the DRBG, one request (R348), as a number; while it is not instantiated, a free value (log 220). -/
def State.random (s : State) (n : Nat) : Nat × State :=
  match s.keys.drbg with
  | none => (s.drawn, s.draw)
  | some g =>
    let (v, g) := drbgGenerate n g
    (v, { s with keys := { s.keys with drbg := some g, requests := s.keys.requests + 1 } })

/-- A committed key write (R331, R336, R337, R341): the alternate cell takes the key under a fresh mask, its attributes and the next
generation, and is then in force. -/
def State.keyWrite (s : State) (k alg usage dest value : Nat) : State :=
  let o := s.slot k
  let (mask, s) := s.random (keyBytes alg)
  let c := KeyCell.seal { share := value ^^^ mask, mask, attr := dest * 65536 + usage * 256 + alg, gen := (o.cell.gen + 1) % 2 ^ 32 }
  let v : KeySlot := if o.second then { o with a := c, second := false } else { o with b := c, second := true }
  (s.setSlot k v).raise EV_KS_KEY_CHANGE sevNotice k k c.gen

/-- The counters of the security engine (13). -/
def seCnt (i : Nat) : Cnt := ⟨SE_CNT i, ⟨SE_SAT, i, i⟩, EV_SE_CNT_SAT, i, i⟩

/-- An SLH-DSA signature (R342): hedged with a value from the DRBG while it is ready, else deterministic, which
SE_STATUS.DETERMINISTIC then shows; one more signature counted. -/
def State.slhSignature (s : State) (alg key : Nat) (message : List Byte) : List Byte × State :=
  if s.flag SE_STATUS_DRBG_READY then
    let (r, s) := s.random (slhSet alg).n
    (slhSign alg key (some r) message, s.count (seCnt 0))
  else (slhSign alg key none message, (s.put SE_STATUS_DETERMINISTIC 1).count (seCnt 0))

/-- Bytes of a key's value. -/
def State.keyValue (s : State) (k : Nat) : List Byte := beBytes (keyBytes (s.keyAlg k)) (s.keyOf k)

/-! ### The certificate chain (R346) -/

/-- A byte of the chain as stored: what Saharn stored, or what has been written over it. -/
def State.chainByte (s : State) (k : Nat) : Byte := (Store.get (fun _ => none) s.keys.chain k).getD (Config.chainByte k)

/-- The CRC-32C over the three certificates of a stored chain. -/
def chainCheck (byte : Nat → Byte) : Nat :=
  crc32c ((List.range 3).flatMap fun i => (List.range (Config.chainLength i % 2 ^ 16)).map fun k => byte (Config.chainOffset i - 0x37f0000 + k))

/-- The stored chain passes its check: no word of it is uncorrectable, and its CRC-32C is the one Saharn stored. -/
def State.chainGood (s : State) : Bool :=
  !(s.integ.bad.any fun w => decide (0x1000037f0000 ≤ w) && decide (w < 0x100003800000)) &&
  (s.keys.chain.isEmpty || chainCheck s.chainByte == chainCheck Config.chainByte)

end Sys2Proof.Machine
end

