-- ==== Sys2Proof/Machine/Conditions.lean ====
section
/-!
DEFINITION. The condition vector and the order log, which every block writes (R199, R223, R268 to R270, R357).
-/

namespace Sys2Proof.Machine

/-! ### Condition vector -/

/-- The stamp of an instant with the quality in force for jobs. -/
def State.stampAt (s : State) (t : Nat) : Stamp := ⟨t, s.jobQual⟩

/-- A number with one bit set to a value. -/
def setBit (v b : Nat) (x : Bool) : Nat := if v.testBit b = x then v else if x then v + 2 ^ b else v - 2 ^ b

/-- The bits of the vector that the two units of a pair form alike: those of the time, supply and pair state, of software and of each
unit's own logs and capture units left out (R362, R417). DEDUCED (log 43). -/
def sharedBits (v : Nat) : Nat := v % 2 ^ 472 + v / 2 ^ 477 % 2 * 2 ^ 477 + v / 2 ^ 479 % 2 * 2 ^ 479

/-- The bits changed by one cause enter the vector together, as one update that the alarm router and the capture units each
evaluate in order (R223, R270). -/
def State.setConds (s : State) (bits : List (Nat × Bool)) (data : Stamp) (bucket : Option Nat := none) : State :=
  let v := bits.foldl (fun v b => setBit v b.1 b.2) s.capture.vector
  if v = s.capture.vector then s
  else
    let u : VecUpdate := ⟨s.capture.vector, v, s.now, data, bucket⟩
    let s := s.when (sharedBits v != sharedBits s.capture.vector) fun s => s.digestItem 4 data.tai 0 (leBytes 64 (sharedBits v))
    { s with capture := { s.capture with vector := v, forRules := s.capture.forRules ++ [u], forUnits := s.capture.forUnits ++ [u] } }

/-- The lane bits 416 to 447 and the bit of any reversed lane (R268). -/
def State.laneConds (s : State) : State :=
  s.setConds ((List.range 16).flatMap (fun g =>
    let on := s.flag (CP_LANE_SEL_EN g)
    let n := s.get (CP_LANE_SEL_LANE g)
    [(416 + 2 * g, on && s.flag (ME_STATUS_REVERSE n)), (417 + 2 * g, on && s.get (LN_STATUS_STATE n) != 2)]) ++
    [(479, (List.range 256).any fun n => s.flag (ME_STATUS_REVERSE n))]) s.now

/-- The time-state bits 472 to 475 (R268, R270); `step` is the one update made at a time step. -/
def State.timeConds (s : State) (step : Bool) : State :=
  let st := s.get TB_STATUS_STATE
  s.setConds [(472, st == 2), (473, st == 3), (474, st == 4), (475, step)] s.now

/-- The bits of the supply state, the service mode and the pair role (R268). -/
def State.modeConds (s : State) : State :=
  s.setConds [(476, s.get PW_STATUS_STATE == 1), (477, s.get ME_G_STATUS_MODE == 3), (478, s.get CW_STATUS_ROLE ≤ 1)] s.now

/-- The bits written by software (R268). -/
def State.softConds (s : State) : State :=
  s.setConds ((List.range 8).map fun i => (480 + i, (s.get CP_SOFT_BITS).testBit i)) s.now

/-! ### Order log -/

/-- A primary keeps the order log from the TICK of a partner's state image until it loses the partner or the partner is LOST
(R357, R366, R375). -/
def State.orderOn (s : State) : Bool := s.get CW_STATUS_ROLE == 1 && s.flag CW_STATUS_PARTNER && s.order.running

/-- The TAI of the next TICK of a primary: what it is at that instant of the monotonic count. -/
def State.nextTick (s : State) : Nat := s.time.tai + s.order.tickAt - s.time.mono

/-- One entry made in the order log, when it is kept (R357). -/
def State.orderLog (s : State) (e : OrderEntry) : State :=
  if s.orderOn then
    let r : OrderRec := ⟨s.order.next, s.time.mono, e⟩
    { s with order := { s.order with next := s.order.next + 1, unsent := s.order.unsent ++ [r], kept := s.order.kept ++ [r] } }
  else s

/-! ### Kick-off -/

/-- FU_CNT (15). -/
def fuCnt (i : Nat) : Cnt := ⟨FU_CNT i, ⟨FU_SAT, i, i⟩, EV_FU_CNT_SAT, i, i⟩

/-- The kick-off held. -/
def State.kickTai (s : State) : Nat := (s.get FU_KICK_SEC_HI_SEC_HI * 2 ^ 32 + s.word FU_KICK_SEC_LO) * 1000000000 + s.get FU_KICK_NS_NS

/-- New firmware is due: the rings pause until the commands already fetched are complete (R384). DESIGN CHOICE (log 227): the switch waits
for them. -/
def State.switchDue (s : State) : Bool := s.get FU_STATUS_STATE == 2 && s.get FU_STATUS_KIND == 0 && decide (s.kickTai ≤ s.jobTai)

/-- A kick-off missed (R383). -/
def State.missKick (s : State) : State :=
  let s := ((s.put FU_STATUS_STATE 1).put FU_STATUS_MISSED 1).count (fuCnt 4)
  s.raise EV_FU_MISSED_KICKOFF sevMajor (s.get FU_STATUS_KIND)

/-- A kick-off that passed while the time state was not LOCKED is missed, whatever made it pass (R383): judged before LOCKED is entered. -/
def State.kickPassed (s : State) : State :=
  if s.get FU_STATUS_STATE = 2 ∧ s.kickTai ≤ s.jobTai then s.missKick else s

/-! ### Causeway frames sent -/

/-- The partner's serial number; 0 while none is known. -/
def State.partner (s : State) : Nat := s.pair CW_PARTNER_LO CW_PARTNER_HI

/-- This unit's serial number. -/
def State.serial (s : State) : Nat := s.pair GL_SERIAL_LO GL_SERIAL_HI

/-- A stamp in the 12 bytes of a big-endian frame. -/
def stampBE (t : Stamp) : List Byte := beBytes 6 (t.tai / 1000000000) ++ beBytes 4 (t.tai % 1000000000) ++ beBytes 2 t.qual

/-- A standby goes to sync LOST: its order log and digests rest (R359, R364, R365). -/
def State.syncLost (s : State) : State :=
  let s := s.put CW_STATUS_SYNC 3
  { s with
    pair_ := { s.pair_ with items := [], own := [], theirs := [], equalRun := 0, diverge := none, receiving := none }
    order := { s.order with waiting := [], fetched := [], tick := none, effects := [] } }

/-- The order log and the comparison stop, and nothing of them stands (R366). -/
def State.dropLog (s : State) : State :=
  { s with
    order := { s.order with running := false, unsent := [], kept := [], frames := [] }
    pair_ := { s.pair_ with items := [], own := [], theirs := [], equalRun := 0, diverge := none, sending := none } }

/-- The causeway key is spent (R355): no further frame is sent; the unit goes to sync LOST, or loses its partner, and with it the order
log (R366). Changes that wait still take effect at the next TICK (ORDER_TICK). -/
def State.cwExhaust (s : State) : State :=
  if s.pair_.exhausted then s
  else
    let s := { s with pair_ := { s.pair_ with exhausted := true } }
    let s := s.raise EV_CW_KEY_EXHAUSTED sevCritical
    if s.get CW_STATUS_ROLE = 2 then s.syncLost
    else if s.flag CW_STATUS_PARTNER then
      let s := s.put CW_STATUS_PARTNER 0
      s.when (s.get CW_STATUS_ROLE == 1) fun s => State.raise s.dropLog EV_CW_PARTNER_LOST sevMajor
    else s

/-- The bytes of a causeway frame (R354, R355): the header, the payload encrypted under the causeway key, the tag and the CRC. -/
def State.cwBytes (s : State) (dir fseq kind : Nat) (payload : List Byte) : List Byte :=
  let k := s.get CW_CFG_KEY_SLOT
  let head := beBytes 1 kind ++ beBytes 1 1 ++ beBytes 2 payload.length ++ beBytes 8 fseq ++
    beBytes 8 (s.pair CW_PAIR_ID_LO CW_PAIR_ID_HI) ++ beBytes 8 s.serial ++ beBytes 4 (s.keyGen k)
  let iv := dir % 2 ^ 32 * 2 ^ 64 + fseq
  let ct := gcmStream 32 (s.keyOf k) iv payload
  let frame := head ++ ct ++ beBytes 16 (gcmTag 32 (s.keyOf k) iv head ct)
  frame ++ beBytes 4 (crc32c frame)

/-- The 40-bit count of a key epoch's frames ends with this one (R355). -/
def fcountEnds (c : Nat) : Bool := decide (c = 0xffffffffff)

/-- The count of frames advanced; the epoch advances whenever its 40 bits wrap. -/
def State.fcountOn (s : State) : State :=
  if fcountEnds s.pair_.fcount then { s.setWord CW_EPOCH (s.word CW_EPOCH + 1) with pair_ := { s.pair_ with fcount := 0 } }
  else { s with pair_ := { s.pair_ with fcount := s.pair_.fcount + 1 } }

/-- A frame of an FSEQ sent on both lanes. While no partner is known, which of the two directions the IV names is left free (log 187). -/
def State.cwEmit (s : State) (fseq kind : Nat) (payload : List Byte) : State :=
  if s.partner = 0 then State.draw (s.emit (.causeway (s.cwBytes s.drawn fseq kind payload)))
  else s.emit (.causeway (s.cwBytes (if s.serial < s.partner then 1 else 2) fseq kind payload))

/-- A causeway frame sent on both lanes with the next FSEQ (R353 to R355): none while PAIR_EN is 0, the key is spent or sluice 10 has
stopped. -/
def State.cwSend (s : State) (kind : Nat) (payload : List Byte) : State :=
  if ¬ s.flag CW_CFG_PAIR_EN ∨ s.flag (SL_STATUS_STOPPED 10) then s
  else if s.word CW_EPOCH = 0xffffff then s.cwExhaust
  else
    (s.cwEmit (s.word CW_EPOCH * 2 ^ 40 + s.pair_.fcount) kind payload).fcountOn

end Sys2Proof.Machine
end

