-- ==== Sys2Proof/Machine/HostIf.lean ====
section
/-!
DEFINITION. The host interface (11, R295 to R314): doorbells and rings, the checks of R308 that every command passes, starting
a command, posting completions, MSI-X, and the resets of the interface.
-/

namespace Sys2Proof.Machine

/-! ### Doorbells and ring registers -/

/-- Entries of a submission ring. -/
def State.sqSize (s : State) (q : Nat) : Nat := 2 ^ s.get (HI_SQ_CFG_LOG2SIZE q)

/-- A distance around a ring. -/
def ahead (size b a : Nat) : Nat := (b + size - a % size) % size

/-- Whether an SQ doorbell value is refused, and why (R303). -/
def State.sqDbBad (s : State) (q v : Nat) : Option Nat :=
  let size := s.sqSize q
  let head := s.get (HI_SQ_HEAD_HEAD q)
  if ¬ s.flag (HI_SQ_CFG_EN q) then some reasonState
  else if size ≤ v ∨ ahead size v head < ahead size (s.get (HI_SQ_STAT_TAIL q)) head then some reasonRange else none

/-- Whether a CQ doorbell value is refused (R303): the head must lie from the present head to HI_CQ_TAIL. -/
def State.cqDbBad (s : State) (q v : Nat) : Option Nat :=
  let size := s.cqSize q
  if ¬ s.flag (HI_CQ_CFG_EN q) then some reasonState
  else if size ≤ v ∨ ahead size (s.get (HI_CQ_TAIL_TAIL q)) (s.cqHeadOf q) < ahead size v (s.cqHeadOf q) then some reasonRange else none

/-- Whether a DR read count is refused (R303): it may not move backwards nor pass HI_DR_WP. -/
def State.drDbBad (s : State) (r v : Nat) : Option Nat :=
  if ¬ s.flag (HI_DR_CFG_EN r) then some reasonState
  else if ahead (2 ^ 32) (s.word (HI_DR_WP r)) (s.word (HI_DR_RP r)) < ahead (2 ^ 32) v (s.word (HI_DR_RP r)) then some reasonRange
  else none

/-- A submission ring uses this completion ring: its EN is 1, or a started command has not posted (R296). -/
def State.cqInUse (s : State) (c : Nat) : Bool :=
  (List.range 16).any fun q =>
    (s.get (HI_SQ_CFG_CQ q) == c && s.flag (HI_SQ_CFG_EN q)) || (s.cqOf q == c && s.host.started.any (·.1 == q))

/-- Why the host interface refuses a register write, if it does (R296, R303, 11). -/
def hostGuard (s : State) (base : Nat) (ix : List Nat) (w : Word) : Option Nat :=
  match base, ix with
  | 0x390000, [q] => s.sqDbBad q (w.field 15 0)
  | 0x390004, [q] => s.cqDbBad q (w.field 15 0)
  | 0x390080, [r] => s.drDbBad r w.toNat
  | 0x391000, [q] => if s.flag (HI_SQ_CFG_EN q) ∧ s.changes (HI_SQ_BASE_LO q) w then some reasonState else none
  | 0x391004, [q] => if s.flag (HI_SQ_CFG_EN q) ∧ s.changes (HI_SQ_BASE_HI q) w then some reasonState else none
  | 0x391400, [q] => if s.flag (HI_CQ_CFG_EN q) ∧ s.changes (HI_CQ_BASE_LO q) w then some reasonState else none
  | 0x391404, [q] => if s.flag (HI_CQ_CFG_EN q) ∧ s.changes (HI_CQ_BASE_HI q) w then some reasonState else none
  | 0x391800, [r] => if s.flag (HI_DR_CFG_EN r) ∧ s.changes (HI_DR_BASE_LO r) w then some reasonState else none
  | 0x391804, [r] => if s.flag (HI_DR_CFG_EN r) ∧ s.changes (HI_DR_BASE_HI r) w then some reasonState else none
  | 0x391008, [q] =>
    if s.flag (HI_SQ_CFG_EN q) ∧ w.field 12 8 ≠ s.get (HI_SQ_CFG_LOG2SIZE q) then some reasonState
    else if w.field 0 0 = 0 then none
    else if w.field 12 8 < 4 ∨ 16 < w.field 12 8 then some reasonRange
    else if ¬ s.flag (HI_CQ_CFG_EN (w.field 7 4)) ∨ ¬ s.flag GL_STATUS_BOOT_DONE then some reasonState else none
  | 0x391408, [c] =>
    if s.flag (HI_CQ_CFG_EN c) ∧ w.field 5 1 ≠ s.get (HI_CQ_CFG_LOG2SIZE c) then some reasonState
    else if w.field 0 0 = 0 then (if s.flag (HI_CQ_CFG_EN c) ∧ s.cqInUse c then some reasonState else none)
    else if w.field 5 1 < 4 ∨ 16 < w.field 5 1 then some reasonRange
    else if ¬ s.flag GL_STATUS_BOOT_DONE then some reasonState else none
  | 0x391808, [r] =>
    if s.flag (HI_DR_CFG_EN r) ∧ w.field 5 1 ≠ s.get (HI_DR_CFG_LOG2SIZE r) then some reasonState
    else if w.field 0 0 = 0 then none
    else if w.field 5 1 < 19 ∨ 30 < w.field 5 1 then some reasonRange
    else if ¬ s.flag GL_STATUS_BOOT_DONE then some reasonState else none
  | 0x392004, _ => if w.field 15 0 = 0 ∨ (100 ≤ w.field 15 0 ∧ w.field 15 0 ≤ 60000) then none else some reasonRange
  | _, _ => none

/-- What a refused write to a doorbell does beside being recorded (R303): DB_BAD, and HI_DB_BAD folded on the ring. -/
def hostRefused (base : Nat) (ix : List Nat) (s : State) : State :=
  match base, ix with
  | 0x390000, [q] => (s.count (hiCnt 0)).raise EV_HI_DB_BAD sevWarning q q
  | 0x390004, [q] => (s.count (hiCnt 0)).raise EV_HI_DB_BAD sevWarning (16 + q) q
  | 0x390080, [r] => (s.count (hiCnt 0)).raise EV_HI_DB_BAD sevWarning (32 + r) r
  | _, _ => s

/-- A command of this ring has been started and has not posted its final completion. -/
def State.ringStarted (s : State) (q : Nat) : Bool := s.host.started.any (·.1 == q)

/-- What an accepted write to an HI register does beside storing its fields (R296, R302, R312, R313). -/
def hostEffect (base : Nat) (ix : List Nat) (old w : Word) (s : State) : State :=
  match base, ix with
  | 0x390000, [q] => s.put (HI_SQ_STAT_TAIL q) (w.field 15 0)
  | 0x390004, [q] => { s with host := { s.host with cqHead := Store.set (fun _ => 0) s.host.cqHead q (w.field 15 0) } }
  | 0x390080, [r] => s.setWord (HI_DR_RP r) w.toNat
  | 0x391008, [q] =>
    if old.field 0 0 = 0 ∧ w.field 0 0 = 1 then
      let s := s.setWord (HI_SQ_HEAD q) 0
      ((s.put (HI_SQ_STAT_TAIL q) 0).put (HI_SQ_STAT_ERR q) 0).put (HI_SQ_STAT_STATE q) (if s.ringStarted q then sqBusy else sqIdle)
    else if old.field 0 0 = 1 ∧ w.field 0 0 = 0 then
      (s.put (HI_SQ_STAT_ERR q) 0).put (HI_SQ_STAT_STATE q) (if s.ringStarted q then sqBusy else sqDisabled)
    else s
  | 0x391408, [c] =>
    if old.field 0 0 = 0 ∧ w.field 0 0 = 1 then
      let s := (s.put (HI_CQ_TAIL_TAIL c) 0).put (HI_CQ_TAIL_PHASE c) 1
      { s with host := { s.host with cqHead := Store.set (fun _ => 0) s.host.cqHead c 0, coalesce := Store.set (fun _ => {}) s.host.coalesce c {} } }
    else s
  | 0x391808, [r] =>
    if old.field 0 0 = 0 ∧ w.field 0 0 = 1 then
      let s := (s.setWord (HI_DR_WP r) 0).setWord (HI_DR_RP r) 0
      { s with host := { s.host with drSeq := Store.set (fun _ => 0) s.host.drSeq r 0, coalesce := Store.set (fun _ => {}) s.host.coalesce (16 + r) {} } }
    else s
  | 0x392008, _ =>
    let t := s.get HI_HB_CFG_TIMEOUT_MS
    { s with host := { s.host with hbTimeout := t, hbDue := if t = 0 then none else some (s.time.mono + t * 1000000) } }
  | 0x39800c, [v] =>
    if w.field 0 0 = 0 ∧ s.flag ⟨MSIX_PBA (v / 32), v % 32, v % 32⟩ ∧ s.flag HI_STATUS_MSIX_EN ∧ s.dmaOn then
      (s.put ⟨MSIX_PBA (v / 32), v % 32, v % 32⟩ 0).emit (.msix v)
    else s
  | _, _ => s

/-! ### Commands: checks and completions -/

/-- The opcodes of the command table (11). -/
def opcodes : List Nat :=
  [0x01, 0x02, 0x03, 0x10, 0x11, 0x20, 0x21, 0x30, 0x31, 0x40, 0x50, 0x51, 0x52, 0x53, 0x54, 0x55, 0x60, 0x61, 0x62, 0x63,
   0x70, 0x71, 0x72, 0x80, 0x81, 0x82, 0x90]

/-- The opcodes accepted while SERVICE is 0 (R308). -/
def servedWithout (op : Nat) : Bool := [0x01, 0x40, 0x60, 0x63, 0x80, 0x81, 0x82, 0x90].contains op

/-- The opcodes that can complete with E_NOT_COMMITTED (11). -/
def commits (op : Nat) : Bool := [0x50, 0x51, 0x52, 0x21, 0x61, 0x62, 0x90].contains op

/-- The steps of a command that completes without having begun a job (R299): none where the status says that it had no effect. DEDUCED
(log 214). -/
def stepsOf (status : Nat) : Nat :=
  if [stBusy, stRange, stState, stAuditFull, stDeadline, stNotCommitted].contains status then 0 else 1

/-- A final completion of a command. -/
def State.finish (s : State) (h : CmdHeader) (op status : Nat) (detail res0 res1 : Nat := 0) : State :=
  s.complete { tag := h.tag, sq := h.sq, opcode := op, status, detail, res0, res1, steps := stepsOf status }

/-- A command's checks in the order of R308, then its effect. `fields` is the offset of a field out of range and `buffer`
that of a host buffer too small, if any. In HOLDUP a command whose non-volatile commit has not started completes with
E_NOT_COMMITTED (R408). A command whose ring has not started it does nothing (log 12). -/
def State.command (s : State) (h : CmdHeader) (op : Nat) (fields buffer : Option Nat) (run : State → State) : State :=
  if ¬ s.host.started.contains (h.sq, op) then s
  else
    match h.badReserved with
    | some d => s.finish h op stRange d
    | none =>
      if h.progEn ∧ h.progEvery = 0 then s.finish h op stRange 2
      else
        match fields with
        | some d => s.finish h op stRange d
        | none =>
          if ¬ s.flag GL_STATUS_SERVICE ∧ ¬ servedWithout op then s.finish h op stState
          else
            match buffer with
            | some d => s.finish h op stRange d
            | none =>
              if h.startBy ≠ 0 ∧ h.startBy < s.time.tai then s.finish h op stDeadline
              else if s.holdup ∧ commits op then s.finish h op stNotCommitted
              else run s

/-- Bytes a step moves at most: the step bound at the guaranteed copy rate of the operating point (R307): 250 µs at
2.0 GB/s, 385 µs at 1.3 GB/s, 193 µs at 2.6 GB/s. DEDUCED (log 13) from the worked example of 11. -/
def State.stepBytes (s : State) : Nat := atPoint s.point 500500 500000 501800

/-- A command that waits on an outside event holds its ring and occupies no engine (R298). -/
def Job.waits (j : Job) : Bool :=
  match j.kind with
  | .opSet _ => true
  | .imageStage _ _ | .pairJoin _ _ _ _ => j.done == j.all
  | _ => false

/-- When a time limit counted from now passes (R297). -/
def State.limitEnds (s : State) (ms : Nat) : Option Nat := if ms = 0 then none else some (s.time.mono + ms * 1000000)

/-- A stepped command begun (R307): `all` units of `size` bytes, whole units in each step. -/
def State.startJob (s : State) (h : CmdHeader) (op : Nat) (kind : JobKind) (all size : Nat) : State :=
  let j : Job := {
    sq := h.sq, tag := h.tag, opcode := op, kind, progEvery := if h.progEn then some h.progEvery else none, limit := h.limitMs,
    deadline := none, all, perStep := max 1 (s.stepBytes / max 1 size) }
  { s with host := { s.host with jobs := s.host.jobs ++ [if j.waits then { j with deadline := s.limitEnds h.limitMs, steps := 1 } else j] } }

/-- A ring is ready: its next command can start, or its stepped command has a step to run (R298); not while DMA is stopped (R295), nor while
a final completion waits for room in its completion ring (R301), nor while new firmware is due (R384). -/
def State.ringReady (s : State) (q : Nat) : Bool :=
  match s.host.jobs.find? (·.sq == q) with
  | some j => !j.waits && s.dmaOn && !(s.host.waiting.any fun c => s.cqOf c.sq == s.cqOf q)
  | none =>
    s.get (HI_SQ_STAT_STATE q) == sqIdle && s.flag (HI_SQ_CFG_EN q) && !s.ringStarted q && s.dmaOn && !s.flag FU_STATUS_SWITCHING && !s.switchDue &&
    s.get (HI_SQ_HEAD_HEAD q) != s.get (HI_SQ_STAT_TAIL q) && decide (0 < s.cqFree (s.cqOf q)) &&
    !(s.host.waiting.any fun c => s.cqOf c.sq == s.cqOf q)

/-- It is this ring's turn: ready rings are served in round-robin order (R298). -/
def State.ringTurn (s : State) (q : Nat) : Bool :=
  s.ringReady q && (List.range ((q + 16 - s.host.nextRing) % 16)).all fun i => !s.ringReady ((s.host.nextRing + i) % 16)

/-- The turn passes on. -/
def State.turnTaken (s : State) (q : Nat) : State := { s with host := { s.host with nextRing := (q + 1) % 16 } }

/-- A ready ring's next descriptor fetched (R298, R304, R308): a failed or poisoned read puts the ring in ERROR; an unknown
opcode completes with E_RANGE. -/
def State.commandStart (s : State) (q : Nat) (fetch : FetchResult) (op : Nat) (tag : Word) : State :=
  if ¬ s.ringTurn q then s
  else
    let s := s.turnTaken q
    let bad (e : Nat) (s : State) : State :=
      (((s.put (HI_SQ_STAT_STATE q) sqError).put (HI_SQ_STAT_ERR q) e).count (hiCnt 1)).raise EV_HI_RING_ERR sevMajor q q
    match fetch with
    | .failed => bad 1 s
    | .poisoned => bad 2 s
    | .marked => bad 2 ((s.sluiceEcc 21 0 true).count (slDiscard 21))
    | .ecrc => ((bad 1 s).count (igCnt 6)).raise EV_IG_PCIE_ECRC sevWarning
    | .ok =>
      let s := s.put (HI_SQ_HEAD_HEAD q) ((s.get (HI_SQ_HEAD_HEAD q) + 1) % s.sqSize q)
      let s := s.put (HI_SQ_STAT_STATE q) sqBusy
      let s := { s with host := { s.host with started := s.host.started ++ [(q, op)], bound := s.host.bound ++ [(q, s.get (HI_SQ_CFG_CQ q), s.get (HI_SQ_HEAD_HEAD q))] } }
      if opcodes.contains op then s else s.complete { tag, sq := q, opcode := op, status := stRange, steps := 0 }

/-- COMMAND_START. -/
def execCommandStart (q : Nat) (fetch : FetchResult) (op : Nat) (tag : Word) (s : State) : Host.Outcome State Fault Refusal :=
  onCore (.commandStart q fetch op tag) s fun s => s.commandStart q fetch op tag

/-- NOP: does nothing and completes (11). -/
def execNop (h : CmdHeader) (s : State) : Host.Outcome State Fault Refusal :=
  onCore (.nop h) s fun s => s.command h 0x01 none none fun s => s.finish h 0x01 stOk

/-- A step overran twice its bound (R307): counted, raised, and judged as a device deadline; the command continues. -/
def State.stepLate (s : State) (q : Nat) : State :=
  if s.ringStarted q then ((s.count (hiCnt 2)).raise EV_HI_STEP_LATE sevMajor q q).deviceMiss 15 else s

/-- STEP_DEADLINE_MISS. -/
def execStepDeadlineMiss (q : Nat) (s : State) : Host.Outcome State Fault Refusal :=
  onCore (.stepDeadlineMiss q) s fun s => s.stepLate q

/-- The first waiting final completion whose ring has room is written (R301). -/
def State.postWaiting (s : State) : State :=
  match s.host.waiting.find? fun c => decide (0 < s.cqFree (s.cqOf c.sq)) && s.dmaOn with
  | none => s
  | some c => ({ s with host := { s.host with waiting := s.host.waiting.erase c } }.cqWrite c).ringDone c.sq

/-- COMPLETION_POST. -/
def execCompletionPost (s : State) : Host.Outcome State Fault Refusal := onCore .completionPost s State.postWaiting

/-! ### Messages -/

/-- COAL_US after the first unsignalled entry, the vector of an enabled ring with IEN = 1 is signalled (R312). -/
def State.coalesceExpire (s : State) (src : Nat) : State :=
  let c := Store.get (fun _ => {}) s.host.coalesce src
  let cfg := s.reg (coalesceCfg src)
  if cfg.field 0 0 = 1 ∧ cfg.field 6 6 = 1 ∧ 0 < c.count ∧ c.first + cfg.field 30 21 * 1000 ≤ s.time.mono then
    State.message { s with host := { s.host with coalesce := Store.set (fun _ => {}) s.host.coalesce src {} } } (cfg.field 12 7)
  else s

/-- MSIX_COALESCE_TIMER. -/
def execMsixCoalesceTimer (src : Nat) (s : State) : Host.Outcome State Fault Refusal :=
  onCore (.msixCoalesceTimer src) s fun s => s.coalesceExpire src

/-- The identity that the configuration header carries, and the serial number of its Device Serial Number capability (R295). -/
structure ConfigHeader where
  vendor : Nat
  device : Nat
  classCode : Nat
  revision : Nat
  serial : Nat
deriving DecidableEq, Repr

/-- The configuration header of the endpoint (R295): the revision ID is GL_ID.STEP, the serial number GL_SERIAL. -/
def State.configHeader (s : State) : ConfigHeader :=
  { vendor := 0x1c5a, device := 0x8192, classCode := 0x118000, revision := s.get GL_ID_STEP, serial := s.pair GL_SERIAL_LO GL_SERIAL_HI }

/-- The function's configuration space as the host sets it: power state, MSI-X enable, Bus Master Enable (R295, 11). -/
def State.configSpace (s : State) (d3hot msix busMaster : Bool) : State :=
  let s := { s with host := { s.host with d3hot } }
  (s.put HI_STATUS_MSIX_EN (bit msix)).put HI_STATUS_BUS_MASTER (bit busMaster)

/-- CONFIG_SPACE_WRITE: nothing while the link is down. -/
def execConfigSpaceWrite (d3hot msix busMaster : Bool) (s : State) : Host.Outcome State Fault Refusal :=
  onCore (.configSpaceWrite d3hot msix busMaster) s fun s =>
    if s.get HI_STATUS_SPEED = 0 then s else s.configSpace d3hot msix busMaster

/-! ### Resets of the interface (R314, R426) -/

/-- The registers that a class F reset of the host interface restores: those of class F in the HI block. -/
def State.resetHi (s : State) : State :=
  { s with regs := s.regs.filter fun e => !(decide (0x390000 ≤ e.1) && decide (e.1 < 0x3a0000) && ResetClass.covers .f (resetClassOf e.1)) }

/-- What commands in flight leave when they are lost without a completion (R314): a join is given up, an image from the host is
dropped, record closes go on unanswered, records being read are free again, key slots are idle. -/
def State.commandsLost (s : State) : State :=
  let mine (r : Option StageRun) : Option StageRun := r.filter fun x => x.command.isNone
  let before := s.host.jobs.findSome? fun j => match j.kind with
    | .pairJoin _ b _ _ => some b
    | _ => none
  let s := match before with
    | some b =>
      if s.pair_.join.isNone then s
      else
        let s : State := { s with pair_ := { s.pair_ with join := none, receiving := none } }
        if s.get CW_STATUS_ROLE = 0 then
          ((s.put CW_CFG_PAIR_EN 0).setPair CW_PAIR_ID_LO CW_PAIR_ID_HI b).showService (s.get CW_CFG_KEY_SLOT)
        else s
    | none => s
  let quiet (m : LaneMeter) : LaneMeter := { m with closes := m.closes.map fun (p : PendClose) => { p with cmd := none } }
  let free (u : CaptureUnit) : CaptureUnit := { u with reading := [] }
  let s := { s with
    fw := { s.fw with verifying := mine s.fw.verifying, copying := mine s.fw.copying }
    meter := { s.meter with lanes := s.meter.lanes.map fun (e : Nat × LaneMeter) => (e.1, quiet e.2) }
    capture := { s.capture with units := (s.capture.units.map fun (e : Nat × CaptureUnit) => (e.1, free e.2)).filter fun (e : Nat × CaptureUnit) => e.2 != ({} : CaptureUnit) } }
  s.forEach 256 fun k s => if s.flag (KS_SLOT_STAT_BUSY k) then s.put (KS_SLOT_STAT_BUSY k) 0 else s

/-- Rings disabled, commands in flight lost, timers and latches of the interface cleared. -/
def State.hostClear (s : State) : State :=
  { s.commandsLost.resetHi with host := { d3hot := s.host.d3hot, perst := s.host.perst, drDrop := s.host.drDrop } }

/-- The MSI-X table restored: every vector masked (R314). -/
def State.msixRestore (s : State) : State :=
  { s with regs := s.regs.filter fun e => !(decide (0x398000 ≤ e.1) && decide (e.1 < 0x399100)) }

/-- Every unacknowledged ledger record is to be placed again with RESENT (R258, R314). -/
def State.ledgerAgain (s : State) : State :=
  { s with meter := { s.meter with queue := s.meter.queue.map fun b => { b with placed := false, resent := b.resent || b.placed } } }

/-- A class F reset: the interface alone, with the MSI-X table restored and configuration space in its reset state. -/
def State.flr (s : State) : State := (s.hostClear.msixRestore.ledgerAgain).configSpace false false false

/-- GL_STATUS.LAST_RESET codes (01): 1 P, 2 C, 3 W by GL_RESET, 4 W by heartbeat, 5 F. -/
def State.lastReset (s : State) (v : Nat) : State := s.put GL_STATUS_LAST_RESET v

/-- FUNCTION_LEVEL_RESET. -/
def execFunctionLevelReset (s : State) : Host.Outcome State Fault Refusal :=
  onCore .functionLevelReset s fun s => s.flr.lastReset 5

/-- The link down: HI_STATUS reads live (11). -/
def State.linkDown (s : State) : State := (s.put HI_STATUS_SPEED 0).put HI_STATUS_WIDTH 0

/-- PERST_ASSERT: the link is held down and the interface takes a class F reset (R426). -/
def execPerstAssert (s : State) : Host.Outcome State Fault Refusal :=
  onCore .perstAssert s fun s =>
    let s := (s.flr.lastReset 5).linkDown
    { s with host := { s.host with perst := true } }

/-- The link trains to a speed and width the partner decides (R295): free within the speeds 1 to 4 and widths 1, 2, 4. -/
def State.linkTrain (s : State) : State :=
  let v := s.drawn
  ((s.put HI_STATUS_SPEED (1 + v % 4)).put HI_STATUS_WIDTH (2 ^ (v / 4 % 3))).draw

/-- PERST_RELEASE: the link may train again. -/
def execPerstRelease (s : State) : Host.Outcome State Fault Refusal :=
  onCore .perstRelease s fun s =>
    if s.host.perst then State.linkTrain { s with host := { s.host with perst := false } } else s

end Sys2Proof.Machine
end

