-- ==== Sys2Proof/Machine/Metering.lean ====
section
/-!
DEFINITION. Metering blocks (09, R231 to R244): how released positions gather into blocks, the corrections, the quantities of a
block, and what booking one does.
-/

namespace Sys2Proof.Machine

/-- What a lane meters with. -/
def State.laneMeter (s : State) (n : Nat) : LaneMeter := Store.get (fun _ => {}) s.meter.lanes n

/-- A lane's metering changed. -/
def State.setMeter (s : State) (n : Nat) (f : LaneMeter → LaneMeter) : State :=
  { s with meter := { s.meter with lanes := Store.set (fun _ => {}) s.meter.lanes n (f (s.laneMeter n)) } }

/-- The metrology counters of a lane and of the device (09). -/
def meCnt (n i : Nat) : Cnt := ⟨ME_CNT n i, ⟨ME_CNT_SAT n, i, i⟩, EV_ME_CNT_SAT, n, n⟩
@[inherit_doc meCnt] def meGCnt (i : Nat) : Cnt := ⟨ME_G_CNT i, ⟨ME_G_SAT, i, i⟩, EV_ME_CNT_SAT, 0xffff, i⟩

/-- The bits of a ledger record's FLAGS (R256). -/
abbrev rfPartial : Nat := 0x0001
@[inherit_doc rfPartial] abbrev rfGap : Nat := 0x0002
@[inherit_doc rfPartial] abbrev rfDegraded : Nat := 0x0004
@[inherit_doc rfPartial] abbrev rfStepped : Nat := 0x0008
@[inherit_doc rfPartial] abbrev rfIncomplete : Nat := 0x0010
@[inherit_doc rfPartial] abbrev rfOutage : Nat := 0x0020
@[inherit_doc rfPartial] abbrev rfExtended : Nat := 0x0040
@[inherit_doc rfPartial] abbrev rfTakeover : Nat := 0x0080
@[inherit_doc rfPartial] abbrev rfReverse : Nat := 0x0100
@[inherit_doc rfPartial] abbrev rfOvr : Nat := 0x0200
@[inherit_doc rfPartial] abbrev rfLaLost : Nat := 0x0400
@[inherit_doc rfPartial] abbrev rfDual : Nat := 0x0800
@[inherit_doc rfPartial] abbrev rfTamper : Nat := 0x1000
@[inherit_doc rfPartial] abbrev rfMode : Nat := 0x2000
@[inherit_doc rfPartial] abbrev rfCurrent : Nat := 0x4000
@[inherit_doc rfPartial] abbrev rfLate : Nat := 0x8000

/-! ### Lanes and their samples -/

/-- Nominal frequency of PE_G_CFG. -/
def State.fNom (s : State) : Nat := if s.get PE_G_CFG_F_NOM = 0 then 50 else 60

/-- The lane takes sampled values (KIND 1). -/
def State.isSv (s : State) (n : Nat) : Bool := s.get (LN_CFG_KIND n) == 1

/-- Samples per second of a lane configured so (R90, LN_CFG.RATE). -/
def rateOf (kind code : Nat) : Nat :=
  if kind = 1 then (if code = 0 then 4800 else 14400) else if code = 0 then 8000 else if code = 1 then 16000 else 32000
@[inherit_doc rateOf] def State.laneRate (s : State) (n : Nat) : Nat := rateOf (s.get (LN_CFG_KIND n)) (s.get (LN_CFG_RATE n))

/-- Quantities of a lane. -/
def State.laneNq (s : State) (n : Nat) : Nat := s.get (LN_CFG_NQ n) + 1

/-- ASDUs of a frame of a sampled-value lane (LN_SV): 0 means 8. -/
def State.asdu (s : State) (n : Nat) : Nat := if s.get (LN_SV_ASDU n) = 0 then 8 else s.get (LN_SV_ASDU n)

/-- Sequence units of one position: 1 on a reed lane, ASDU on a sampled-value lane. -/
def State.posUnit (s : State) (n : Nat) : Nat := if s.isSv n then s.asdu n else 1
/-- Nanoseconds of one position: 1 ms on a reed lane, ASDU / rate on a sampled-value lane. DESIGN CHOICE (log 175): the instants and
spans of R111 that are no whole nanoseconds are rounded down. -/
def State.posSpan (s : State) (n : Nat) : Nat :=
  if s.isSv n then s.asdu n * 1000000000 / s.laneRate n else 1000000

/-- MAX_LATE in ns. -/
def State.maxLate (s : State) (n : Nat) : Nat := s.get (LN_TIMING_MAX_LATE n) * 1000

/-- A quantity is a voltage or a current, and of the AC or DC kind: QTYPE of the held descriptor (R95); on a sampled-value
lane the four currents come first (R110). DEDUCED (log 16). -/
def State.qtype (s : State) (n q : Nat) : Nat := if s.isSv n then (if q < 4 then 2 else 1) else s.get (LN_DESC_INFO_QTYPE n q)

/-- Millivolts or milliamperes of one LSB, times 2²¹ (R110, R231). -/
def State.lsb (s : State) (n q : Nat) : Int :=
  if s.isSv n then (if q < 4 then 2 ^ 21 else 10 * 2 ^ 21) else s.word (LN_DESC_RATED n q)

/-- The voltage and current quantities of an element (ME_ELEM). -/
def State.elem (s : State) (n e : Nat) : Nat × Nat :=
  let w := s.reg (ME_ELEM n)
  (w.field (8 * e + 2) (8 * e), w.field (8 * e + 6) (8 * e + 4))

/-- The enabled elements of a lane. -/
def State.elems (s : State) (n : Nat) : List (Nat × Nat) :=
  ((List.range 4).filter fun e => (s.get (ME_CFG_ELEM_EN n)).testBit e).map (s.elem n)

/-! ### Gathering -/

/-- The bounds of the metering block that holds an instant (R233): T = 1/F_NOM after a TAI second for an AC lane, the
position's millisecond for a DC lane; in whole nanoseconds, rounded up. -/
def State.blockBounds (s : State) (n t : Nat) : Nat × Nat :=
  let sec := t / 1000000000 * 1000000000
  let f := if s.flag (LN_CFG_DC n) then 1000 else s.fNom
  let k := t % 1000000000 * f / 1000000000
  (sec + (k * 1000000000 + f - 1) / f, sec + ((k + 1) * 1000000000 + f - 1) / f)

/-- The first block boundary of a lane at or after an instant. -/
def State.nextBound (s : State) (n t : Nat) : Nat :=
  let b := s.blockBounds n t
  if b.1 = t then t else b.2

/-- Positions whose T0 lies in a block (R107, R233). -/
def State.positionsIn (s : State) (n : Nat) (b : MeterBlock) : Nat :=
  if s.isSv n then ((b.stop - b.start) * s.laneRate n + s.asdu n * 500000000) / (s.asdu n * 1000000000)
  else (b.stop + 999999) / 1000000 - (b.start + 999999) / 1000000

/-- The corrections a block starts with in the NORMAL mode (R234). -/
def State.normalCorr (s : State) (n : Nat) : List Correction :=
  (List.range 8).map fun q =>
    ⟨s.word (ME_GAIN n q), signedOf 32 (s.word (ME_OFFSET n q)), signedOf 32 (s.word (ME_DELAY n q))⟩

/-- A new block at an instant; the mode, the corrections, the elements and the redundancy are those in force now (R232, R234, R242,
R245). -/
def State.newBlock (s : State) (n t : Nat) : MeterBlock :=
  let b := s.blockBounds n t
  { start := b.1, stop := b.2, mode := s.get ME_G_STATUS_MODE, corr := s.normalCorr n, elems := s.elems n, dual := s.flag ME_G_CFG_DUAL }

/-- The block in progress is complete; positions not released count as gap unless the block is partial (R233). A block into which no
sample was released is dropped. -/
def State.endBlock (s : State) (n : Nat) (part : Bool) : State :=
  match (s.laneMeter n).cur with
  | none => s
  | some b =>
    let gaps := if part then b.gaps else b.gaps + (s.positionsIn n b - b.released)
    let b := { b with gaps, partialBlock := part, flags := b.flags ||| (if 0 < gaps then rfGap else 0) ||| (if part then rfPartial else 0) }
    s.setMeter n fun m => { m with cur := none, ready := if b.rows.isEmpty then m.ready else m.ready ++ [b] }

/-- A position's marks on the block that holds its T0 (R237). `flags` are those of R107. -/
def MeterBlock.position (b : MeterBlock) (flags t0 span due : Nat) : MeterBlock :=
  let gap := flags.testBit 1
  let b := { b with released := b.released + 1, gaps := b.gaps + bit gap, covered := b.covered + (if gap then 0 else span) }
  { b with lastEnd := t0 + span, due }

/-- The record flags a position gives a block (R237). -/
def positionFlags (flags : Nat) : Nat :=
  (if flags.testBit 1 then rfGap else 0) ||| (if flags.testBit 2 then rfDegraded else 0) |||
  (if flags.testBit 3 then rfOvr else 0) ||| (if flags.testBit 4 then rfLate else 0)

/-- From when a lane books again after an outage: its next block boundary (R248). -/
def State.resumesAt (s : State) (n : Nat) : Nat := if s.meter.resumeAt = 0 then 0 else s.nextBound n s.meter.resumeAt

/-- One sampling instant of a position fed to the lane's block; a new block starts where the instant lies beyond it, and a sample that
is INVALID flags it GAP (R237). -/
def State.feedRow (s : State) (n t : Nat) (flags : Nat) (row : List (Option Int)) : State :=
  if t < s.resumesAt n then s
  else
    let s := match (s.laneMeter n).cur with
      | some b => if t < b.stop then s else s.endBlock n false
      | none => s
    let b := ((s.laneMeter n).cur).getD (s.newBlock n t)
    s.setMeter n fun m => { m with cur := some { b with rows := b.rows ++ [row], flags := b.flags ||| positionFlags flags ||| (if row.contains none then rfGap else 0) } }

/-- The lane books now: it is metered, booking has not stopped, and the unit is not COLD_STANDBY (R232, R248, R259). -/
def State.metering (s : State) (n : Nat) : Bool := s.flag (ME_CFG_EN n) && !s.flag ME_G_STATUS_HOLDUP && !s.cold

/-- A released position given to metrology (R107, R233): its rows at their instants, then its marks on the block of its T0. -/
def State.meterPosition (s : State) (n t0 span due flags : Nat) (rows : List (List (Option Int))) : State :=
  if ¬ s.metering n then s
  else
    let rate := s.laneRate n
    let feed (s : State) (j : Nat) (row : List (Option Int)) : State := s.feedRow n (t0 + j * 1000000000 / rate) flags row
    match rows with
    | [] => s
    | r :: rest =>
      let s := feed s 0 r
      let s := s.when (decide (s.resumesAt n ≤ t0)) fun s =>
        s.setMeter n fun m => { m with cur := m.cur.map fun b => b.position flags t0 span due }
      let s := ((List.range rest.length).zip rest).foldl (fun s jr => feed s (jr.1 + 1) jr.2) s
      let s := s.setMeter n fun m => { m with cur := m.cur.map fun b => { b with lastEnd := t0 + span, due } }
      match (s.laneMeter n).cur with
      | some b => if b.stop ≤ t0 + span then s.endBlock n false else s
      | none => s

/-! ### Corrections and block quantities -/

/-- A sample of a list by signed index; zero outside it. -/
def sampleAt (xs : List Int) (i : Int) : Int := if i < 0 then 0 else xs.getD i.toNat 0

/-- The samples delayed by D/1024 of a sample, at index i: exact for whole samples, else through the interpolator. -/
def delayed (xs : List Int) (i : Nat) (d : Int) : Int :=
  if d % 1024 = 0 then sampleAt xs (i - d / 1024)
  else Config.interpolate (d % 1024).toNat ((List.range 16).map fun (j : Nat) => sampleAt xs ((i : Int) - d / 1024 - 8 + j))

/-- The gain and phase of a head's curve at a level of x/2³² thousandths of RATED (R235). -/
def State.curve (s : State) (n q x : Nat) : Int × Int :=
  let brk (k : Nat) : Nat := s.get (LN_DESC_SEG_A_BREAK n q k) * 2 ^ 32
  let gain (k : Nat) : Int := s.word (LN_DESC_SEG_B n q k)
  let gainS (k : Nat) : Int := signedOf 32 (gain k).toNat
  let phase (k : Nat) : Int := signedOf 16 (s.get (LN_DESC_SEG_A_PHASE n q k))
  if x ≤ brk 0 then (gainS 0, phase 0)
  else
    match ([1, 2, 3, 4, 5, 6] : List Nat).find? fun k => decide (x ≤ brk k) with
    | none => (gainS 7, phase 7)
    | some k =>
      let f : Rat := ((x - brk (k - 1) : Nat) : Rat) / ((brk k - brk (k - 1) : Nat) : Rat)
      (roundEven ((gainS (k - 1) : Rat) + f * ((gainS k - gainS (k - 1) : Int) : Rat)),
       roundEven ((phase (k - 1) : Rat) + f * ((phase k - phase (k - 1) : Int) : Rat)))

/-- The correction of a quantity in a block (R234, R235, R246). -/
def State.correction (s : State) (n q : Nat) (b : MeterBlock) : Correction :=
  if b.mode = 0 then b.corr.getD q ⟨2 ^ 30, 0, 0⟩
  else if s.isSv n then ⟨2 ^ 30, 0, 0⟩
  else
    let c := s.curve n q ((s.laneMeter n).levels.getD q (1000 * 2 ^ 32))
    ⟨c.1, 0, c.2⟩

/-- A sample with its offset and gain applied, kept with 8 bits below its LSB (R234, R236). -/
def Correction.apply (c : Correction) (x : Int) : Int := roundEven (((x + c.offset) * c.gain : Int) / ((2 ^ 22 : Nat) : Rat))

/-- The quantities of a block (R236): E_P and E_Q in 2⁻³² mWh, P and Q in W and var, and the mean square of each quantity in
mV² or mA². -/
structure BlockResult where
  ep : Int
  eq : Int
  pw : Rat
  qw : Rat
  sq : List Rat

/-- The length of a block in seconds: of a partial one up to the end of its last released position (R236). -/
def MeterBlock.seconds (b : MeterBlock) (dc : Bool) (f : Nat) : Rat :=
  if b.partialBlock then ((b.lastEnd - b.start : Nat) : Rat) / 1000000000 else if dc then 1 / 1000 else 1 / (f : Rat)

/-- A block's samples with offset and gain applied, one row an instant (R234, R235); none contributes nothing (R237). -/
def State.gained (s : State) (n : Nat) (b : MeterBlock) : List (List (Option Int)) :=
  let cs := (List.range (s.laneNq n)).map fun q => s.correction n q b
  b.rows.map fun r => cs.zipIdx.map fun cq => (r.getD cq.2 none).map cq.1.apply

/-- The samples of quantity q that follow a block of a lane: those released by now, each corrected as its own block's, then one for each
instant still to come, which is a free value (log 183). A block that ends with its lane has none. -/
def State.laterSamples (s : State) (n : Nat) (b : MeterBlock) (q : Nat) : List Int :=
  let m := s.laneMeter n
  let later := (m.ready ++ m.cur.toList).foldl (fun (a : Nat × List (List (Option Int))) x =>
    if x.start = a.1 then (x.stop, a.2 ++ s.gained n x) else a) (b.stop, [])
  let known := (later.2.map fun r => (r.getD q none).getD 0).take 48
  if b.partialBlock then [] else known ++ (List.range (48 - known.length)).map fun i => Config.unreleased (b.stop + i) q

/-- The samples a block's formulas use: rows and delayed values from the 176 instants before it on (R234, R236). -/
structure BlockSamples where
  before : Nat
  rows : List (List (Option Int))
  fine : List (List Int)

/-- The samples of a block. What came before counts where it adjoins the block. -/
def State.blockSamples (s : State) (n : Nat) (b : MeterBlock) : BlockSamples :=
  let m := s.laneMeter n
  let joined := m.histEnd == b.start
  let old := if joined then m.history else []
  let here := s.gained n b
  let delayedOf (q : Nat) : List Int :=
    let c := s.correction n q b
    let own := here.map fun r => (r.getD q none).getD 0
    if c.delay = 0 then own
    else
      let xs := (old.map fun r => (r.getD q none).getD 0) ++ own ++ s.laterSamples n b q
      (List.range own.length).map fun i => delayed xs (old.length + i) c.delay
  let cols := (List.range (s.laneNq n)).map delayedOf
  let fine := (List.range here.length).map fun i => cols.map fun c => c.getD i 0
  ⟨old.length, old ++ here, (if joined then m.fine else []) ++ fine⟩

/-- The newest entries of a list, at most 176: T / 4 at 32 kS/s and 50 Hz, and the taps of the interpolator. -/
def newest {α : Type} (l : List α) : List α := l.drop (l.length - 176)

/-- A block computed (R236). -/
def State.computeBlock (s : State) (n : Nat) (b : MeterBlock) : BlockResult :=
  let x := s.blockSamples n b
  let rate := s.laneRate n
  let cols := (List.range (s.laneNq n)).map fun q => x.fine.map fun r => r.getD q 0
  let colOf (q : Nat) : List Int := cols.getD q []
  let present (q i : Nat) : Bool := ((x.rows.getD i []).getD q none).isSome
  let idx := (List.range b.rows.length).map (· + x.before)
  let quarter : Int := roundEven ((rate * 1024 : Nat) / ((4 * s.fNom : Nat) : Rat))
  let dot (f : List Int → Nat → Int) : Int := b.elems.foldl (fun a e =>
    let v := colOf e.1
    let i := colOf e.2
    a + s.lsb n e.1 * s.lsb n e.2 * (idx.foldl (fun t k =>
      if present e.1 k && present e.2 k then t + f v k * i.getD k 0 else t) 0)) 0
  let sumP := dot fun v k => v.getD k 0
  let sumQ := if s.flag (LN_CFG_DC n) then 0 else dot fun v k => delayed v k quarter
  let uJ (x : Int) : Rat := (x : Rat) / ((2 ^ 58 * rate : Nat) : Rat)
  let units (x : Int) : Int := roundEven (uJ x * ((2 ^ 32 : Nat) : Rat) / 3600000)
  let sec := b.seconds (s.flag (LN_CFG_DC n)) s.fNom
  let power (x : Int) : Rat := if sec = 0 then 0 else uJ x / 1000000 / sec
  let square (q : Nat) : Rat :=
    let ks := idx.filter (present q)
    let sum : Int := ks.foldl (fun a k => a + (colOf q).getD k 0 * (colOf q).getD k 0) 0
    if ks.isEmpty then 0 else (sum * s.lsb n q * s.lsb n q : Int) / ((2 ^ 58 * ks.length : Nat) : Rat)
  ⟨units sumP, units sumQ, power sumP, power sumQ, (List.range (s.laneNq n)).map square⟩

/-! ### Booking -/

/-- An energy register and its residue advanced (R241): on a wrap, ME_WRAP (R10). -/
def State.addEnergy (s : State) (n lo hi i : Nat) (e : Nat) : State :=
  let m := s.laneMeter n
  let v := s.pair lo hi * 2 ^ 32 + m.frac.getD i 0 + e
  let s := s.setPair lo hi (v / 2 ^ 32 % 2 ^ 64)
  let s := s.setMeter n fun m => { m with frac := m.frac.set i (v % 2 ^ 32) }
  s.when (decide (2 ^ 96 ≤ v)) fun s => s.raise EV_ME_WRAP sevLegal n n

/-- A test register advanced (R246). -/
def State.addTest (s : State) (n lo hi i : Nat) (e : Nat) : State :=
  let v := s.pair lo hi * 2 ^ 32 + (s.laneMeter n).testFrac.getD i 0 + e
  let s := s.setPair lo hi (v / 2 ^ 32 % 2 ^ 64)
  let s := s.setMeter n fun m => { m with testFrac := m.testFrac.set i (v % 2 ^ 32) }
  s.when (decide (2 ^ 96 ≤ v)) fun s => s.raise EV_ME_WRAP sevLegal n n

/-- The four registers of a lane. -/
def State.energies (s : State) (n : Nat) : List Nat :=
  [s.pair (ME_IMP_ACT_LO n) (ME_IMP_ACT_HI n), s.pair (ME_EXP_ACT_LO n) (ME_EXP_ACT_HI n),
   s.pair (ME_IMP_REACT_LO n) (ME_IMP_REACT_HI n), s.pair (ME_EXP_REACT_LO n) (ME_EXP_REACT_HI n)]

/-- The pulses of a booked block's energy (R260, R261): the accumulator advanced; whole pulses spread evenly over the next
block; those beyond a backlog of 65,535 are lost. -/
def State.addPulses (s : State) (p : Nat) (e : Nat) (b : MeterBlock) : State :=
  let st : PulseState := Store.get (fun _ => {}) s.meter.pulses p
  let thr := 10 ^ 9 * 2 ^ 32
  let acc := st.acc + e * s.get (PO_CONST_CONST p)
  let want := acc / thr
  let room := 65535 - st.due.length
  let k := min want room
  let len := b.stop - b.start
  let base := s.jobMono + b.stop - s.jobTai
  let due := st.due ++ (List.range k).map fun j => base + j * len / want
  let s := { s with meter := { s.meter with pulses := Store.set (fun _ => {}) s.meter.pulses p { st with acc := acc % thr, due } } }
  let s := s.put (PO_STATUS_BACKLOG p) due.length
  if want ≤ room then s else (s.put (PO_STATUS_OVERRUN p) 1).raise EV_PO_OVERRUN sevMajor p p

/-- The energy a booked block gives the source of a pulse output (R260). -/
def pulseEnergy (reg : Nat) (ep eq : Int) : Nat :=
  if reg = 0 then ep.toNat else if reg = 1 then (-ep).toNat else if reg = 2 then eq.toNat else if reg = 3 then (-eq).toNat
  else ep.natAbs

/-- Every pulse output of a lane given a booked block. -/
def State.pulses (s : State) (n : Nat) (r : BlockResult) (b : MeterBlock) : State :=
  s.forEach 8 fun p s =>
    if s.flag (PO_CFG_EN p) ∧ s.get (PO_CFG_LANE p) = n then s.addPulses p (pulseEnergy (s.get (PO_CFG_REG p)) r.ep r.eq) b else s

/-- Reverse power declared or ended by a booked block (R240). -/
def State.judgeReverse (s : State) (n : Nat) (r : BlockResult) : State :=
  let w := s.reg (ME_REV n)
  let cnt := w.field 31 24
  let on : Rat := (w.field 11 0 * 100 : Nat)
  let off : Rat := (w.field 23 12 * 100 : Nat)
  let m := s.laneMeter n
  let p := ratAbs r.pw
  if s.flag (ME_STATUS_REVERSE n) then
    let k := if 0 ≤ r.ep ∨ p < off then m.fwdCount + 1 else 0
    if cnt ≤ k then
      (((s.setMeter n fun m => { m with fwdCount := 0, revCount := 0 }).put (ME_STATUS_REVERSE n) 0).raise EV_ME_REVERSE_END sevInfo n n).laneConds
    else s.setMeter n fun m => { m with fwdCount := k }
  else
    let k := if r.ep < 0 ∧ on < p then m.revCount + 1 else 0
    if cnt ≤ k then
      (((s.setMeter n fun m => { m with revCount := 0, fwdCount := 0 }).put (ME_STATUS_REVERSE n) 1).raise EV_ME_REVERSE sevNotice n n).laneConds
    else s.setMeter n fun m => { m with revCount := k }

/-- The quantities of the enabled elements have the QTYPEs booking needs (R232). -/
def State.qtypesOk (s : State) (n : Nat) (es : List (Nat × Nat)) : Bool :=
  let d := if s.flag (LN_CFG_DC n) then 2 else 0
  es.all fun e => s.qtype n e.1 == 1 + d && s.qtype n e.2 == 2 + d

/-- The block reaches the anti-creep limits (R238). -/
def State.aboveCreep (s : State) (n : Nat) (es : List (Nat × Nat)) (r : BlockResult) : Bool :=
  let i0 : Rat := s.get (ME_CREEP_START_I n)
  decide (((s.get (ME_CREEP_START_P n) : Nat) : Rat) ≤ ratAbs r.pw) &&
  (es.any fun e => decide (i0 * i0 ≤ r.sq.getD e.2 0))

/-- The shown values of a booked block (R236): P and Q rounded, RMS in V or A as binary32; and the levels of R235. -/
def State.showBlock (s : State) (n : Nat) (r : BlockResult) : State :=
  let s := (s.setWord (ME_P n) (codeOf 32 (roundEven r.pw))).setWord (ME_Q n) (codeOf 32 (roundEven r.qw))
  let s := s.forEach 8 fun q s => s.setWord (ME_RMS n q) (ratToF32 (ratSqrt (r.sq.getD q 0 / 1000000)))
  let level (q : Nat) : Nat :=
    let k := s.lsb n q
    if k = 0 then 0 else sqrtFloor (r.sq.getD q 0 * 1000000 / ((k * k : Int) : Rat)) 32
  s.setMeter n fun m => { m with levels := (List.range (s.laneNq n)).map level }

/-- What a block adds to the open records that span it (R255, R256): `f` says what. -/
def State.inRecords (s : State) (n : Nat) (b : MeterBlock) (f : SpanAcc → SpanAcc) : State :=
  let g (a : SpanAcc) : SpanAcc := if a.isOpen ∧ a.start.tai ≤ b.start then f a else a
  s.setMeter n fun m => { m with interval := g m.interval, session := g m.session }

/-- The device mode becomes RECOVERY on its own (R243, R245): a device-originated audit entry and ME_RECOVERY. -/
def State.toRecovery (s : State) : State :=
  if s.get ME_G_STATUS_MODE = 3 then s
  else
    let old := s.get ME_G_STATUS_MODE
    let s := s.put ME_G_STATUS_MODE 3
    ((s.auditAdd { type := 7, master := 10, detail := [old, 3] }).raise EV_ME_RECOVERY sevLegal).modeConds

/-- A block judged and booked (R232, R236 to R241, R246). `extra` are record flags the comparison gave it. -/
def State.bookBlock (s : State) (n : Nat) (b : MeterBlock) (extra : Nat) : State :=
  let s := s.inRecords n b fun a => if a.base.isNone then { a with base := some (s.energies n) } else a
  let flags := b.flags ||| extra ||| (if b.late then rfLate else 0)
  let was := s.flag (ME_STATUS_REVERSE n)
  let note (s : State) (blocks creep covered : Nat) : State :=
    let rev := if was || s.flag (ME_STATUS_REVERSE n) then rfReverse else 0
    s.inRecords n b fun a => { a with flags := a.flags ||| flags ||| rev, blocks := a.blocks + blocks, creep := a.creep + creep, covered := a.covered + covered }
  let s := s.setMeter n fun m => { m with lastBlock := b.stop }
  let r := s.computeBlock n b
  let x := s.blockSamples n b
  let keep (s : State) : State := s.setMeter n fun m => { m with
    history := newest x.rows
    fine := newest x.fine
    histEnd := if b.partialBlock then b.lastEnd else b.stop }
  if ¬ s.qtypesOk n b.elems then
    let s := ((s.countN (meCnt n 1) (if b.partialBlock then b.released else max b.released (s.positionsIn n b))).put (ME_STATUS_QTYPE_ERR n) 1).raise EV_ME_QTYPE sevMajor n n
    keep ((note s 0 0 0).put (ME_STATUS_ACTIVE n) 0)
  else
    let s := (s.put (ME_STATUS_QTYPE_ERR n) 0).countN (meCnt n 1) b.gaps
    if ¬ s.aboveCreep n b.elems r then
      let s := ((s.count (meCnt n 0)).put (ME_STATUS_CREEP n) 1).put (ME_STATUS_ACTIVE n) 0
      keep (note s 0 1 b.covered)
    else
      let s := (s.put (ME_STATUS_CREEP n) 0).put (ME_STATUS_ACTIVE n) 1
      let s := if 0 < r.ep then s.addEnergy n (ME_IMP_ACT_LO n) (ME_IMP_ACT_HI n) 0 r.ep.toNat
        else if r.ep < 0 then s.addEnergy n (ME_EXP_ACT_LO n) (ME_EXP_ACT_HI n) 1 (-r.ep).toNat else s
      let s := if 0 < r.eq then s.addEnergy n (ME_IMP_REACT_LO n) (ME_IMP_REACT_HI n) 2 r.eq.toNat
        else if r.eq < 0 then s.addEnergy n (ME_EXP_REACT_LO n) (ME_EXP_REACT_HI n) 3 (-r.eq).toNat else s
      let s := s.put (ME_STATUS_EXPORT n) (bit (decide (r.ep < 0)))
      let s := s.when (b.mode == 2) fun s =>
        if 0 < r.ep then s.addTest n (ME_TEST_IMP_LO n) (ME_TEST_IMP_HI n) 0 r.ep.toNat
        else s.addTest n (ME_TEST_EXP_LO n) (ME_TEST_EXP_HI n) 1 (-r.ep).toNat
      let s := (s.showBlock n r).judgeReverse n r
      let s := s.setMeter n fun m => { m with lastBooked := if b.partialBlock then b.lastEnd else b.stop, cutBlock := b.partialBlock }
      keep ((note (s.pulses n r b) 1 0 b.covered))

/-- The DUAL comparison of a block (R243): a mismatch computes it again and counts RETRY; a second one books ME0's result
with DUAL_MISMATCH and raises ME_DUAL_MISMATCH. -/
def State.dualCheck (s : State) (n : Nat) (b : MeterBlock) (mismatch again : Bool) : State × Nat :=
  if b.dual ∧ mismatch then
    let s := s.count (meGCnt 3)
    if again then (((s.count (meCnt n 3)).raise EV_ME_DUAL_MISMATCH sevLegal n n), rfDual) else (s, 0)
  else (s, 0)

/-- The configured lane samples/s (R90, R242) with one lane's LN_CFG changed. -/
def State.laneLoad (s : State) (n : Nat) (w : Word) : Nat :=
  (List.range 256).foldl (fun a i =>
    let c := if i = n then w else s.reg (LN_CFG i)
    if c.field 0 0 = 1 then a + (c.field 10 8 + 1) * rateOf (c.field 2 1) (c.field 12 11) else a) 0

/-- Configured lane frames/s (R109), in 840ths, which every rate / ASDU is a whole number of, with one lane's LN_CFG and LN_SV changed. -/
def State.laneFrames (s : State) (n : Nat) (w sv : Word) : Nat :=
  (List.range 256).foldl (fun a i =>
    let c := if i = n then w else s.reg (LN_CFG i)
    let v := if i = n then sv else s.reg (LN_SV i)
    let k := if v.field 18 16 = 0 then 8 else v.field 18 16
    if c.field 0 0 = 1 then a + (if c.field 2 1 = 1 then rateOf 1 (c.field 12 11) * (840 / k) else 840000) else a) 0

/-- The limit of R109 at an operating point. -/
def limitFrames (p : Nat) : Nat := 840 * atPoint p 300000 460000 600000

end Sys2Proof.Machine
end

