-- ==== Sys2Proof/Machine/FenStore.lean ====
section
/-!
DEFINITION. The fen store (07, R166, R167, R176 to R180, R187 to R196): grids and rates, layout, cells and headers, opening and
closing buckets, fills, delivery records, and the reads of FEN_QUERY and FEN_PIN. The store's DRAM is held record by record, at the
addresses of R188 (log 28).
-/

namespace Sys2Proof.Machine

/-! ### Rates and grids (R141, R166, R176) -/

/-- Frames a second of a rate code (R141). -/
def frameRate (fnom code : Nat) : Nat :=
  if code = 0 then 10
  else
    let b := if fnom = 50 then 25 else 30
    if code = 1 then b else if code = 2 then 2 * b else if code = 3 then 4 * b else 8 * b

/-- The grid rate G. -/
def State.gridRate (s : State) : Nat := frameRate s.fNom (s.get AE_CFG_GRID)

/-- A slot has a ring: its RATE is not NONE. -/
def State.hasRing (s : State) (n : Nat) : Bool := s.get (AE_SLOT_CFG_RATE n) != 7

/-- The slots with a ring, in slot order. A slot whose AE_SLOT_CFG was never changed has none. -/
def State.ringSlots (s : State) : List Nat :=
  (s.regs.filterMap fun e => if 0x200000 ≤ e.1 ∧ e.1 < 0x200000 + 0x40 * 8464 ∧ e.1 % 64 = 0 then some ((e.1 - 0x200000) / 64) else none).filter
    fun n => s.hasRing n

/-- Source and stored rate of a slot (R166). -/
def State.sourceRate (s : State) (n : Nat) : Nat := frameRate s.fNom (s.get (AE_SLOT_CFG_RATE n))
@[inherit_doc State.sourceRate] def State.storedRate (s : State) (n : Nat) : Nat :=
  if s.get (AE_SLOT_CFG_CONV n) = 0 then s.sourceRate n else s.gridRate

/-- The combinations R166 permits. -/
def rateOk (conv fs g wait : Nat) : Bool :=
  if conv = 0 then g % fs == 0
  else if conv = 1 then fs % g == 0 && decide (g < fs)
  else if conv = 2 then fs % g == 0 && decide (g < fs) && decide (2000 ≤ wait * g)
  else g % fs == 0 && decide (fs < g)

/-- The stamped instant of bucket B on a grid of g a second (R145, R176). -/
def bucketInstant (g b : Nat) : Nat := b * 1000000000 / g

/-- The newest bucket whose instant is not after a TAI instant. -/
def bucketAt (g t : Nat) : Nat :=
  let b := t * g / 1000000000
  if bucketInstant g (b + 1) ≤ t then b + 1 else b

/-- Bucket B's instant is an instant of rate r, and the number of that instant at rate r. -/
def onRate (g r b : Nat) : Bool := b % g * r % g == 0
@[inherit_doc onRate] def rateIndex (g r b : Nat) : Nat := b / g * r + b % g * r / g

/-- ⌊µs⌋ from one instant to another, signed. -/
def microsFrom (t0 t1 : Nat) : Int := ((t1 : Int) - t0) / 1000

/-! ### Bytes (R189 to R191) -/

/-- A signed 32-bit number as the number its word holds. -/
def word32 (v : Int) : Nat := codeOf 32 v

/-- The 128 bytes of a cell as it was filed. -/
def cellFiled (c : Cell) : List Byte :=
  let ph := (c.data.phasors.flatMap fun p => leBytes 4 p.1 ++ leBytes 4 p.2) ++ List.replicate 64 0
  stampBytes ⟨c.instant, c.data.qual + c.tstate * 16⟩ ++ leBytes 4 ((c.arrival.map word32).getD 0x7fffffff) ++ leBytes 2 c.data.stat ++
  leBytes 2 c.flags ++ leBytes 2 c.slot ++ leBytes 1 c.data.nph ++ leBytes 1 c.data.srcNph ++ leBytes 4 c.data.freq ++
  leBytes 4 c.data.rocof ++ ph.take 64 ++ leBytes 4 c.seq ++ leBytes 4 c.cgen ++ leBytes 8 c.number ++ List.replicate 16 0

/-- The 128 bytes of a cell. -/
def cellBytes (c : Cell) : List Byte := c.raw.getD (cellFiled c)

/-- The 64 bytes of a header as alignment wrote it. -/
def headerFiled (h : BucketHeader) : List Byte :=
  leBytes 8 h.number ++ stampBytes ⟨h.instant, h.qual + h.tstate * 16⟩ ++ leBytes 1 h.state ++ leBytes 1 h.flags ++ leBytes 2 0 ++
  leBytes 4 h.gen ++ leBytes 4 h.expected ++ leBytes 4 h.arrived ++ leBytes 4 h.filled ++ leBytes 4 h.extra ++
  leBytes 4 (word32 h.openOfs) ++ leBytes 4 h.closeOfs ++ leBytes 4 ((h.lastOfs.map word32).getD 0x7fffffff) ++ leBytes 4 h.skipped ++
  leBytes 4 0

/-- The 64 bytes of a header. -/
def headerBytes (h : BucketHeader) : List Byte := h.raw.getD (headerFiled h)

/-- The 160 bytes of an annex entry (R191). -/
def AnnexEntry.bytes (e : AnnexEntry) : List Byte :=
  e.raw.getD (stampBytes e.arrival ++ leBytes 2 e.cell.slot ++ leBytes 1 e.reason ++ leBytes 1 e.port ++
    cellFiled { e.cell with cgen := 0 } ++ leBytes 8 e.seq ++ leBytes 8 0)

/-- A cell, or the 128 zero bytes given for one that is not there (R193). -/
def optCellBytes (c : Option Cell) : List Byte :=
  match c with
  | some c => cellBytes c
  | none => List.replicate 128 0

/-! ### Layout (R187, R188) -/

/-- Bytes of the offside annex. -/
def annexBytes (code : Nat) : Nat := if code = 0 then 0 else if code = 1 then 2 ^ 24 else if code = 2 then 2 ^ 26 else 2 ^ 28

/-- The layout the present settings ask for. -/
def State.wantedLayout (s : State) : FenLayout :=
  ⟨s.gridRate, s.word FS_CFG, s.ringSlots.map fun n => (n, s.storedRate n)⟩

/-- H in seconds (R187). With no ring at all the bound 4096 holds. -/
def FenLayout.history (l : FenLayout) : Nat :=
  let total := l.rates.foldl (fun a e => a + e.2) 0
  let room := l.cfg % 128 * 2 ^ 28 - 2 ^ 26 - annexBytes (l.cfg / 256 % 4) - l.cfg / 4096 % 16 * 2 ^ 28
  if total = 0 then 4096 else min 4096 (room / (128 * total))

/-- Each slot with the base of its ring in units of 128 bytes. -/
def FenLayout.bases (l : FenLayout) : List (Nat × Nat) :=
  let start := (2 ^ 26 + annexBytes (l.cfg / 256 % 4) + l.cfg / 4096 % 16 * 2 ^ 28) / 128
  (l.rates.foldl (fun (a : List (Nat × Nat) × Nat) e => (a.1 ++ [(e.1, a.2)], a.2 + l.history * e.2)) ([], start)).1

/-- The first slot that breaks R166 under AE_CFG word `w`, or 0xffff for a history below 60 s (R167). -/
def State.layoutFault (s : State) (w : Word) : Option Nat :=
  let t := s.setReg AE_CFG w
  match t.ringSlots.find? fun n => !rateOk (t.get (AE_SLOT_CFG_CONV n)) (t.sourceRate n) t.gridRate (t.get AE_CFG_WAIT) with
  | some n => some n
  | none => if t.wantedLayout.history < 60 then some 0xffff else none

/-- Buckets the index holds, G × H. -/
def State.depth (s : State) : Nat := s.gridRate * s.get FS_STATUS_HISTORY

/-- The address, in units of 128 bytes, of a slot's cell for bucket B (R188). -/
def State.cellAddr (s : State) (n b : Nat) : Nat :=
  let r := s.storedRate n
  s.word (AE_SLOT_BASE n) + rateIndex s.gridRate r b % (s.get FS_STATUS_HISTORY * r)

/-- The slot's cell of bucket B, when its location holds it (R192). -/
def State.cell (s : State) (n b : Nat) : Option Cell :=
  if ¬ s.hasRing n ∨ ¬ onRate s.gridRate (s.storedRate n) b then none
  else
    match Store.get (fun _ => none) s.align.cells (s.cellAddr n b) with
    | some c => if c.number = b ∧ c.slot = n then some c else none
    | none => none

/-- The uncorrectable word that a read of the slot's cell of bucket B meets. -/
def State.cellError (s : State) (n b : Nat) : Option Nat := (s.cell n b).bind fun _ => s.badWord (128 * s.cellAddr n b) 128

/-- Those reads reported (R394). -/
def State.cellErrors (s : State) (b : Nat) (slots : List Nat) : State :=
  if s.integ.bad.isEmpty then s else (slots.filterMap fun n => s.cellError n b).foldl State.uecc s

/-- Bucket B is held while it lies less than G × H buckets behind the newest opened (R187). -/
def State.holds (s : State) (b : Nat) : Bool := (s.align.newest.map fun n => decide (n < b + s.depth)).getD false

/-- The header of bucket B, when it is held. -/
def State.header (s : State) (b : Nat) : Option BucketHeader :=
  match Store.get (fun _ => none) s.align.headers (b % s.depth) with
  | some h => if h.number = b ∧ h.state ≠ 0 ∧ s.holds b then some h else none
  | none => none

/-- A held bucket's header changed; GEN advances by two, so that it is even again. -/
def State.setHeader (s : State) (b : Nat) (f : BucketHeader → BucketHeader) : State :=
  match s.header b with
  | some h =>
    let h' := f h
    State.healed { s with align := { s.align with headers := Store.set (fun _ => none) s.align.headers (b % s.depth) (some { h' with gen := (h.gen + 2) % 2 ^ 32, raw := none }) } }
      (64 * (b % s.depth)) 64
  | none => s

/-- The device time state, as QUAL holds it. -/
def State.timeState (s : State) : Nat := s.get TB_STATUS_STATE

/-- The time state jobs record: a standby's follows pair time (R361). -/
def State.jobState (s : State) : Nat := s.jobQual / 16 % 8

/-! ### Opening (R176, R177) -/

/-- The numbers shown: newest opened, newest closed, oldest held, and how many are open. -/
def State.showFen (s : State) : State :=
  let s := s.put AE_STATUS_OPEN s.align.opens.length
  let s := match s.align.newest with
    | some b => s.setPair FS_OPEN_LO FS_OPEN_HI b
    | none => s.setPair FS_OPEN_LO FS_OPEN_HI 0
  let held := s.align.headers.filterMap fun e => e.2.bind fun h => if h.state = 0 ∨ ¬ s.holds h.number then none else some h.number
  s.setPair FS_OLDEST_LO FS_OLDEST_HI (match held with
    | [] => 0
    | h :: t => t.foldl min h)

/-- The next bucket that may open. -/
def State.nextBucket (s : State) : Nat :=
  match s.align.newest with
  | some b => max s.align.floor (b + 1)
  | none => s.align.floor

/-- A bucket opened: its header is written and its expected set fixed. -/
def State.openBucket (s : State) (b : Nat) : State :=
  let g := s.gridRate
  let t := bucketInstant g b
  let set := s.ringSlots.filter fun n => s.get (AE_SLOT_STAT_STATE n) == 2 && onRate g (s.storedRate n) b
  let gap := s.align.skipped
  let oldGen := match Store.get (fun _ => none) s.align.headers (b % s.depth) with
    | some h => h.gen
    | none => 0
  let h : BucketHeader := {
    number := b, instant := t, tstate := s.jobState, state := 1, flags := (if gap.isSome then 2 else 0) + (if s.jobTai < t then 4 else 0),
    gen := (oldGen + 2) % 2 ^ 32, expected := set.length, openOfs := microsFrom t s.jobTai, skipped := gap.getD 0 }
  let o : OpenBucket := { number := b, closeAt := t + s.get AE_CFG_WAIT * 1000000, early := s.get AE_CFG_EARLY, expected := set }
  State.showFen { s with align := { s.align with
    headers := Store.set (fun _ => none) s.align.headers (b % s.depth) (some h)
    opens := s.align.opens ++ [o]
    newest := some b
    skipped := none } }

/-- Every unopened bucket up to B opens, in order. -/
def State.openTo (s : State) (b : Nat) : State :=
  let n := s.nextBucket
  (List.range (b + 1 - n)).foldl (fun s j => s.openBucket (n + j)) s

/-- An open bucket. -/
def State.opened (s : State) (b : Nat) : Option OpenBucket := s.align.opens.find? fun o => o.number == b

/-- An open bucket changed. -/
def State.setOpen (s : State) (b : Nat) (f : OpenBucket → OpenBucket) : State :=
  { s with align := { s.align with opens := s.align.opens.map fun o => if o.number = b then f o else o } }

/-! ### Cells -/

/-- A cell placed in its ring location; CGEN advances by two. -/
def State.placeCell (s : State) (n b : Nat) (c : Cell) : State :=
  let a := s.cellAddr n b
  let old := match Store.get (fun _ => none) s.align.cells a with
    | some o => o.cgen
    | none => 0
  State.healed { s with align := { s.align with cells := Store.set (fun _ => none) s.align.cells a (some { c with cgen := (old + 2) % 2 ^ 32, raw := none }) } }
    (128 * a) 128

/-- A cell that arrived for an open bucket (R177, R178): it counts in ARRIVED for an expected slot, else in EXTRA. `stamp` is
its arrival. -/
def State.fileCell (s : State) (n b stamp : Nat) (c : Cell) : State :=
  match s.opened b with
  | none => s
  | some o =>
    let s := s.placeCell n b c
    let exp := o.expected.contains n
    let arrived := if exp ∧ ¬ o.arrived.contains n then o.arrived ++ [n] else o.arrived
    let s := s.setOpen b fun o => { o with
      arrived
      written := n :: o.written
      lastAt := if exp then some s.jobMono else o.lastAt }
    s.setHeader b fun h =>
      if exp then { h with arrived := arrived.length, lastOfs := some (microsFrom h.instant stamp) } else { h with extra := h.extra + 1 }

/-! ### Fills (R180) -/

/-- Phasors a MARK_INVALID fill of a slot shows: those of its format, or of its function. -/
def State.fillCount (s : State) (n : Nat) : Nat :=
  if n < 8192 then s.get (AE_SLOT_FMT_PHNMR n)
  else if n < 8208 then s.get (PE_FN_CFG_NPH (n - 8192)) + 1
  else
    let w := s.reg (PE_LF_CFG (n - 8208))
    ((List.range 8).filter fun q => (w.field 15 8).testBit q).length + w.field 16 16 + w.field 17 17

/-- The MARK_INVALID values. -/
def State.invalidData (s : State) (n : Nat) : CellData :=
  let k := s.fillCount n
  { stat := 0x8000, qual := 0xf, nph := min k 8, srcNph := k, freq := f32NaN, rocof := f32NaN, phasors := List.replicate (min k 8) (f32NaN, f32NaN) }

/-- The slot's cell of bucket B as an engine reads it: one with an uncorrectable error is a MARK_INVALID fill for this use (R394). -/
def State.goodCell (s : State) (n b : Nat) : Option Cell :=
  if (s.cellError n b).isNone then s.cell n b
  else (s.cell n b).map fun c => { c with data := s.invalidData n, flags := 2, arrival := none, seq := 0 }

/-- The slot's newest cell before bucket B that holds an arrived value, no more than HOLD_MAX stored-rate instants back. -/
def State.heldCell (s : State) (n b : Nat) : Option Cell :=
  let r := s.storedRate n
  let g := s.gridRate
  let best := s.align.cells.foldl (fun (a : Option Cell) e => match e.2 with
    | some c =>
      if c.slot = n ∧ c.flags.testBit 0 ∧ c.number < b ∧ s.cell n c.number = some c then
        (match a with
         | some o => if o.number < c.number then some c else a
         | none => some c)
      else a
    | none => a) none
  let back := s.get (AE_SLOT_CFG_HOLD_MAX n)
  best.bind fun c => if back = 0 ∨ (b - c.number) * r ≤ back * g then some c else none

/-- A fill written for a slot whose cell did not arrive; `invalid` forces the MARK_INVALID fill. -/
def State.fillSlot (s : State) (n b : Nat) (invalid : Bool) : State :=
  let stale := if s.get (AE_SLOT_STAT_STATE n) = 3 then 128 else 0
  let held := if invalid ∨ s.get (AE_SLOT_CFG_POLICY n) = 0 then none else s.heldCell n b
  let error := held.bind fun c => s.cellError n c.number
  let held := if error.isNone then held else none
  let c : Cell := {
    instant := bucketInstant s.gridRate b, tstate := s.jobState, arrival := none,
    data := match held with
      | some c => c.data
      | none => s.invalidData n
    flags := (if held.isSome then 4 else 2) + stale, slot := n, seq := 0, number := b }
  let s := match error with
    | some w => s.uecc w
    | none => s
  let s := (s.placeCell n b c).count ⟨AE_SLOT_CNT n 2, ⟨AE_SLOT_STAT n, 30, 30⟩, EV_AE_CNT_SAT, n, n⟩
  s.setHeader b fun h => { h with filled := h.filled + 1 }

/-! ### FILTER slots (R181) -/

/-- π as the engines hold it: the binary64 number nearest to it (log 14). -/
def piRat : Rat := 884279719003555 / 281474976710656

/-- An angle reduced into (−π, π]. -/
def reduceAngle (a : Rat) : Rat := a - 2 * piRat * (ratCeil ((a - piRat) / (2 * piRat)) : Rat)

/-- A phasor's rectangular components, and a phasor from them. -/
def rectOf (p : Nat × Nat) : Rat × Rat := (f32ToRat p.1 * ratCos (f32ToRat p.2), f32ToRat p.1 * ratSin (f32ToRat p.2))
@[inherit_doc rectOf] def polarOf (x y : Rat) : Nat × Nat := (ratToF32 (ratSqrt (x * x + y * y)), ratToF32 (ratAtan2 y x))

/-- A weighted mean of binary32 words; NaN when one of them is no number. -/
def meanWord (xs : List (Rat × Nat)) : Nat :=
  if xs.all fun x => f32Finite x.2 then
    ratToF32 (ratSum (xs.map fun x => x.1 * f32ToRat x.2) / ratSum (xs.map (·.1)))
  else f32NaN

/-- A weighted mean of phasors, on their rectangular components. -/
def meanPhasor (xs : List (Rat × (Nat × Nat))) : Nat × Nat :=
  if xs.all fun x => f32Finite x.2.1 && f32Finite x.2.2 then
    let w := ratSum (xs.map (·.1))
    polarOf (ratSum (xs.map fun x => x.1 * (rectOf x.2).1) / w) (ratSum (xs.map fun x => x.1 * (rectOf x.2).2) / w)
  else (f32NaN, f32NaN)

/-- The weight of a FILTER slot's input j places from the centre with M inputs a grid interval (R181): a sinc cut off at 0.4 of the grid
rate, under a Hann window of half span 2 / G. -/
def filterWeight (m : Nat) (j : Int) : Rat :=
  let x : Rat := (j : Rat) / (m : Rat)
  let a := 4 / 5 * piFine * x
  (if j = 0 then 1 else ratSin a / a) * (1 + ratCos (piFine * x / 2)) / 2

/-- Source instants to a grid interval, M = Fs / G. -/
def State.filterM (s : State) (n : Nat) : Nat := s.sourceRate n / s.gridRate

/-- What alignment remembers of a slot. -/
def State.slotLink (s : State) (n : Nat) : SlotLink := Store.get (fun _ => {}) s.align.slots n

/-- A slot's memory changed. -/
def State.setSlotLink (s : State) (n : Nat) (f : SlotLink → SlotLink) : State :=
  { s with align := { s.align with slots := Store.set (fun _ => {}) s.align.slots n (f (s.slotLink n)) } }

/-- The inputs present of a FILTER slot for bucket B: the 4M + 1 source instants centred on it. -/
def State.filterInputs (s : State) (n b : Nat) : List SourceInput :=
  let m := s.filterM n
  (s.slotLink n).inputs.filter fun i => decide (b * m ≤ i.num + 2 * m) && decide (i.num ≤ b * m + 2 * m)

/-- The filtered values: the filter over the present inputs, its weights renormalised; STAT the OR, quality the worst. -/
def State.filterData (s : State) (n b : Nat) (ins : List SourceInput) : CellData :=
  let m := s.filterM n
  let w (i : SourceInput) : Rat := filterWeight m ((i.num : Int) - b * m)
  let nph := ins.foldl (fun a i => min a i.data.nph) 8
  { stat := ins.foldl (fun a i => a ||| i.data.stat) 0, qual := ins.foldl (fun a i => max a i.data.qual) 0, nph,
    srcNph := (ins.head?.map (·.data.srcNph)).getD 0,
    freq := meanWord (ins.map fun i => (w i, i.data.freq)), rocof := meanWord (ins.map fun i => (w i, i.data.rocof)),
    phasors := (List.range nph).map fun j => meanPhasor (ins.map fun i => (w i, i.data.phasors.getD j (0, 0))) }

/-- A FILTER slot's cell written as soon as every input is present; a block stamped after the close instant comes too late (R178). -/
def State.filterComplete (s : State) (n b stamp seq : Nat) : State :=
  let ins := s.filterInputs n b
  match s.opened b with
  | some o =>
    if ins.length = 4 * s.filterM n + 1 ∧ ¬ o.written.contains n ∧ stamp ≤ o.closeAt then
      let t := bucketInstant s.gridRate b
      s.fileCell n b stamp { instant := t, tstate := s.jobState, arrival := some (microsFrom t stamp), data := s.filterData n b ins,
                             flags := 1 + 16, slot := n, seq, number := b }
    else s
  | none => s

/-- The filter evaluated at the close with inputs missing: more than M missing give the MARK_INVALID fill. -/
def State.filterClose (s : State) (n b : Nat) : State :=
  let ins := s.filterInputs n b
  let m := s.filterM n
  if ins.length + m < 4 * m + 1 then s.fillSlot n b true
  else
    let t := bucketInstant s.gridRate b
    let top := ins.foldl (fun (a : SourceInput) i => if a.stamp ≤ i.stamp then i else a) (ins.headD ⟨0, {}, 0, 0⟩)
    s.placeCell n b { instant := t, tstate := s.jobState, arrival := some (microsFrom t top.stamp), data := s.filterData n b ins,
                      flags := 16 + 32, slot := n, seq := top.seq, number := b }

/-! ### Closing (R178, R180, R186, R195) -/

/-- The counters of alignment (07). -/
def aeCnt (n i : Nat) : Cnt := ⟨AE_SLOT_CNT n i, ⟨AE_SLOT_STAT n, 28 + i, 28 + i⟩, EV_AE_CNT_SAT, n, n⟩
@[inherit_doc aeCnt] def aeGCnt (i : Nat) : Cnt := ⟨AE_G_CNT i, ⟨AE_G_SAT, i, i⟩, EV_AE_CNT_SAT, 0xffff, i⟩
@[inherit_doc aeCnt] def fsDrop (r : Nat) : Cnt := ⟨FS_DLV_DROP r, ⟨AE_G_SAT, 8 + r, 8 + r⟩, EV_AE_CNT_SAT, 0xffff, r⟩

/-- A table of R309 at an index. -/
def State.table (s : State) (t i : Nat) : List Nat := Store.get (fun _ => []) s.tables (64 * t + i)

/-- A delivery record of bucket B for a ring (R195), placed or dropped. -/
def State.deliverTo (s : State) (r b : Nat) : State :=
  match s.header b with
  | none => s
  | some h =>
    let bytes := headerBytes h ++ (s.table 3 r).flatMap fun n => optCellBytes (s.goodCell n b)
    let s := s.cellErrors b (s.table 3 r)
    if s.drFits r bytes.length then s.drPlace r 1 0 bytes
    else ((s.drDropped r).count (fsDrop r)).raise EV_FS_DLV_FULL sevWarning r r

/-- The delivery records of a closed bucket; a standby keeps none (R416). -/
def State.deliver (s : State) (b : Nat) : State :=
  s.forEach 8 fun r s =>
    if s.flag (FS_DLV_CFG_EN r) ∧ b % max 1 (s.get (FS_DLV_CFG_DECIM r)) = 0 ∧ s.drives then s.deliverTo r b else s

/-- A source block kept for rate conversion can still enter a cell of bucket B or a later one: by the filter's span of instants, or as an
end of an interval of interpolation (R181, R182). -/
def State.inputNeeded (s : State) (n b : Nat) (ins : List SourceInput) (i : SourceInput) : Bool :=
  let conv := s.get (AE_SLOT_CFG_CONV n)
  if conv = 2 then decide (b * s.filterM n ≤ i.num + 2 * s.filterM n)
  else conv == 3 && !ins.any fun j => decide (i.num < j.num) && decide (j.num * (s.gridRate / s.sourceRate n) ≤ b)

/-- The source blocks that no bucket still open, or yet to open, can use are forgotten. -/
def State.forgetInputs (s : State) : State :=
  let b := (s.align.opens.head?.map (·.number)).getD s.nextBucket
  let keep (n : Nat) (l : SlotLink) : SlotLink := { l with inputs := l.inputs.filter fun i => s.inputNeeded n b l.inputs i }
  { s with align := { s.align with slots := (s.align.slots.map fun (e : Nat × SlotLink) => (e.1, keep e.1 e.2)).filter fun (e : Nat × SlotLink) => e.2 != ({} : SlotLink) } }

/-- The oldest open bucket closes (R178, R180): the slots not arrived are filled, the header is written, the records delivered. -/
def State.closeBucket (s : State) (o : OpenBucket) : State :=
  let b := o.number
  let g := s.gridRate
  let due := s.ringSlots.filter fun n => s.flag (AE_SLOT_CFG_EN n) && onRate g (s.storedRate n) b && !o.written.contains n
  let s := due.foldl (fun s n => if s.get (AE_SLOT_CFG_CONV n) = 2 then s.filterClose n b else s.fillSlot n b false) s
  let quals := s.ringSlots.filterMap fun n => (s.cell n b).bind fun c => if c.flags.testBit 0 then some c.data.qual else none
  let all := o.expected.all fun n => o.arrived.contains n
  let s := s.setHeader b fun h => { h with
    qual := if quals.isEmpty then 0xf else quals.foldl max 0
    tstate := s.jobState
    state := if all then 2 else 3
    flags := h.flags + bit o.late
    closeOfs := (s.jobTai - h.instant) / 1000 }
  let s := { s with
    align := { s.align with opens := s.align.opens.filter fun p => p.number != b }
    detect := { s.detect with closes := ((b, s.jobMono) :: s.detect.closes).filter fun c => decide (s.jobMono < c.2 + 1000000000) } }
  let s := s.deviceMet 4 o.late
  let s := s.setPair FS_CLOSED_LO FS_CLOSED_HI b
  let s := s.forgetInputs
  let s := match s.header b with
    | some h => s.digestItem 2 h.instant 0 (headerBytes h ++ (s.ringSlots.flatMap fun n => optCellBytes (s.cell n b)))
    | none => s
  (s.showFen).deliver b

/-- A bucket can close now: it is the oldest open, and its expected cells have all arrived or its close instant has come. -/
def State.closable (s : State) (b : Nat) : Option OpenBucket :=
  match s.align.opens with
  | o :: _ =>
    if o.number = b ∧ ((o.expected.all fun n => o.arrived.contains n) ∨ o.closeAt ≤ s.jobTai) then some o else none
  | [] => none

/-- A bucket is past its close deadline (R186). -/
def State.bucketLate (s : State) (b : Nat) : State :=
  match s.opened b with
  | none => s
  | some o =>
    let byClose := match o.reachedAt with
      | some t => decide (t + 1000000 < s.jobMono)
      | none => s.ranFor o.closeAt 1000001
    let first := (s.align.opens.head?.map (·.number)) == some b
    let byCells := first && o.expected.all (fun n => o.arrived.contains n) &&
      (o.lastAt.map fun t => decide (t + 1000000 < s.jobMono)).getD false
    if o.late ∨ s.cold ∨ ¬ (byClose || byCells) then s
    else (((s.setOpen b fun o => { o with late := true }).count (aeGCnt 3)).raise EV_AE_DEADLINE sevMajor).deviceMiss 4

/-- BUCKET_DEADLINE_MISS. -/
def execBucketDeadlineMiss (number : Nat) (s : State) : Host.Outcome State Fault Refusal :=
  onEngines (.bucketDeadlineMiss number) s fun s => s.bucketLate number

/-! ### FEN_QUERY and FEN_PIN (R193, R194, R310) -/

/-- A consistent copy of a bucket: its header, and its cells unless it is not held or open without INCLUDE_OPEN. -/
def State.copyBucket (s : State) (slots : List Nat) (b : Nat) (includeOpen : Bool) : BucketHeader × List (Option Cell) × Bool :=
  match s.header b with
  | none => ({ number := b, instant := 0, qual := 0 }, slots.map fun _ => none, true)
  | some h => if h.state = 1 ∧ ¬ includeOpen then (h, slots.map fun _ => none, true) else (h, slots.map fun n => s.cell n b, false)

/-- A pin held. -/
def State.pinOf (s : State) (p : Nat) : Option PinCopy := Store.get (fun _ => none) s.align.pins p

/-- Pins held and the area they use. -/
def State.showPins (s : State) : State :=
  let act := (List.range 16).foldl (fun a p => if (s.pinOf p).isSome then a + 2 ^ p else a) 0
  let used := (List.range 16).foldl (fun a p => a + ((s.pinOf p).map (·.bytes)).getD 0) 0
  (s.put FS_PIN_STAT_ACTIVE act).put FS_PIN_STAT_USED ((used + 2 ^ 20 - 1) / 2 ^ 20)

/-- A pin set or released. -/
def State.setPin (s : State) (p : Nat) (v : Option PinCopy) : State :=
  State.showPins { s with align := { s.align with pins := Store.set (fun _ => none) s.align.pins p v } }

/-- A pin whose copy is whole: one still being copied is not held yet. DEDUCED (log 215). -/
def State.pinHeld (s : State) (p : Nat) : Option PinCopy := (s.pinOf p).filter fun v => decide (v.last + 1 - v.first ≤ v.copies.length)

/-- The bytes one unit of a query copies, and whether it gives cells: of a pin, its copy as it was held when the query began. -/
def State.queryUnit (s : State) (slots : List Nat) (b : Nat) (includeOpen : Bool) (pin : Option PinCopy) : List Byte × Bool :=
  match pin with
  | some v =>
    match v.copies[b - v.first]? with
    | some (h, cs) => (headerBytes h ++ cs.flatMap optCellBytes, h.state == 0)
    | none => ([], true)
  | none =>
    let (h, cs, none_) := s.copyBucket slots b includeOpen
    (headerBytes h ++ cs.flatMap optCellBytes, none_)

/-- A listed slot that is no slot or has no ring. -/
def State.badSlot (s : State) (slots : List Nat) : Option Nat := slots.findIdx? fun n => decide (8463 < n) || !s.hasRing n

/-- FEN_QUERY accepted: checked against the store, then begun. -/
def State.startQuery (s : State) (h : CmdHeader) (first last dst : Nat) (slots : List Nat) (flags pin : Nat) : State :=
  let op := 0x10
  if flags.testBit 1 then
    match s.pinHeld pin with
    | none => s.finish h op stState 63
    | some v =>
      if first < v.first ∨ v.last < last then s.finish h op stState 24
      else s.startJob h op (.fenQuery first last v.slots dst false (some v)) (last + 1 - first) (64 + 128 * v.slots.length)
  else
    match s.badSlot slots with
    | some i => s.finish h op stRange 0xffff 0 i
    | none =>
      if (s.align.newest.map fun b => decide (last ≤ b)).getD false then
        s.startJob h op (.fenQuery first last slots dst (flags.testBit 0) none) (last + 1 - first) (64 + 128 * slots.length)
      else s.finish h op stRange 32

/-- The first field of FEN_QUERY out of range. -/
def queryField (first last : Nat) (slots : List Nat) (flags pin : Nat) : Option Nat :=
  if last < first then some 32
  else if ¬ flags.testBit 1 ∧ (slots.length = 0 ∨ 1024 < slots.length) then some 60
  else if 3 < flags then some 62
  else if 15 < pin then some 63 else none

/-- The slots a query gives: its list, or that of the pin it names. -/
def State.querySlots (s : State) (slots : List Nat) (flags pin : Nat) : List Nat :=
  if flags.testBit 1 then ((s.pinHeld pin).map (·.slots)).getD [] else slots

/-- FEN_QUERY. -/
def execFenQuery (h : CmdHeader) (first last dst dstLen : Nat) (slots : List Nat) (flags pin : Nat) (s : State) : Host.Outcome State Fault Refusal :=
  onCore (.fenQuery h first last dst dstLen slots flags pin) s fun s =>
    s.command h 0x10 (queryField first last slots flags pin)
      (if dstLen < (last + 1 - first) * (64 + 128 * (s.querySlots slots flags pin).length) then some 56 else none)
      fun s => s.startQuery h first last dst slots flags pin

/-- Bytes of the pin area still free. -/
def State.pinFree (s : State) : Nat :=
  s.get FS_CFG_PIN * 2 ^ 28 - (List.range 16).foldl (fun a p => a + ((s.pinOf p).map (·.bytes)).getD 0) 0

/-- FEN_PIN without RELEASE, accepted: checked, then begun. -/
def State.startPin (s : State) (h : CmdHeader) (first last : Nat) (slots : List Nat) (pin : Nat) : State :=
  let op := 0x11
  let bytes := (last + 1 - first) * (64 + 128 * slots.length)
  if (s.pinOf pin).isSome then s.finish h op stState 63
  else
    match s.badSlot slots with
    | some i => s.finish h op stRange 0xffff 0 i
    | none =>
      if ¬ (s.align.newest.map fun b => decide (last ≤ b)).getD false then s.finish h op stRange 32
      else if s.align.opens.any fun o => decide (first ≤ o.number) && decide (o.number ≤ last) then s.finish h op stState 24
      else if s.pinFree < bytes then s.finish h op stRange 0xffff
      else
        (s.setPin pin (some { first, last, slots, bytes })).startJob h op (.fenPin first last slots pin) (last + 1 - first) (64 + 128 * slots.length)

/-- FEN_PIN. -/
def execFenPin (h : CmdHeader) (first last : Nat) (slots : List Nat) (pin : Nat) (s : State) : Host.Outcome State Fault Refusal :=
  onCore (.fenPin h first last slots pin) s fun s =>
    s.command h 0x11 (queryField first last slots 0 pin) none fun s => s.startPin h first last slots pin

/-- One unit of FEN_PIN: a bucket copied into the pin. -/
def State.pinUnit (s : State) (slots : List Nat) (pin b : Nat) : State :=
  match s.pinOf pin with
  | some v =>
    let (h, cs, _) := s.copyBucket slots b false
    { s with align := { s.align with pins := Store.set (fun _ => none) s.align.pins pin (some { v with copies := v.copies ++ [(h, cs)] }) } }
  | none => s

/-- FEN_PIN with RELEASE; a LIST that is not zero is among the bytes that must be zero, as the header tells them. -/
def execFenUnpin (h : CmdHeader) (first last : Nat) (slots : List Nat) (pin : Nat) (s : State) : Host.Outcome State Fault Refusal :=
  onCore (.fenUnpin h first last slots pin) s fun s =>
    s.command h 0x11 (if first ≠ 0 then some 24 else if last ≠ 0 then some 32 else if slots ≠ [] then some 60 else if 15 < pin then some 63 else none)
      none fun s =>
        match s.pinHeld pin with
        | none => s.finish h 0x11 stState 63
        | some v => (s.setPin pin none).finish h 0x11 stOk 0 0 v.bytes

end Sys2Proof.Machine
end

