-- ==== Sys2Proof/Machine/Align.lean ====
section
/-!
DEFINITION. Stream alignment (07, R167 to R175, R177, R179, R182, R184, R185, R434): accepting frames and blocks, the duplicate
filter, slot states, offside blocks, interpolation, and the refusal rules and effects of the AE and FS registers.
-/

namespace Sys2Proof.Machine

/-- The states of a slot (AE_SLOT_STAT). -/
abbrev slDisabled : Nat := 0
@[inherit_doc slDisabled] abbrev slWaiting : Nat := 1
@[inherit_doc slDisabled] abbrev slActive : Nat := 2
@[inherit_doc slDisabled] abbrev slStale : Nat := 3
@[inherit_doc slDisabled] abbrev slMismatch : Nat := 4

/-- A slot's state, and the state set. -/
def State.slotState (s : State) (n : Nat) : Nat := s.get (AE_SLOT_STAT_STATE n)
@[inherit_doc State.slotState] def State.setSlotState (s : State) (n v : Nat) : State := s.put (AE_SLOT_STAT_STATE n) v

/-- The stale timer restarted (R37, R175). -/
def State.restartStale (s : State) (n : Nat) : State := s.setSlotLink n fun l => { l with last := some s.jobMono }

/-! ### What output streams state of their slots (R156, R157, R159) -/

/-- The entries of a stream: slot and phasor mask (R156). -/
def State.osEntries (s : State) (k : Nat) : List (Nat × Nat) := (s.table 1 k).map fun v => (v % 65536, v / 65536 % 256)

/-- The phasors of a slot that a mask sends: those the slot has. DEDUCED (log 32). -/
def State.sentPhasors (s : State) (e : Nat × Nat) : List Nat := (List.range (min 8 (s.fillCount e.1))).filter fun j => e.2.testBit j

/-- The length of a stream's data frame in bytes (R157, R159). -/
def State.osFrameLen (s : State) (k : Nat) : Nat :=
  let f := s.get (OS_CFG_FORMAT k)
  16 + (s.osEntries k).foldl (fun a e =>
    a + 2 + (s.sentPhasors e).length * (if f.testBit 1 then 8 else 4) + (if f.testBit 3 then 8 else 4)) 0

/-- OS_INFO shown. -/
def State.osInfo (s : State) (k : Nat) : State := (s.put (OS_INFO_FRAME_LEN k) (s.osFrameLen k)).put (OS_INFO_NBLK k) (s.osEntries k).length

/-- OS_INFO of every stream that lists a slot, whose phasors may have changed (R159). -/
def State.osInfos (s : State) (n : Nat) : State :=
  s.forEach 32 fun k s => s.when ((s.osEntries k).any fun e => e.1 == n) fun s => s.osInfo k

/-! ### Blocks of a data frame (R170, R172). PRESUMED (log 30): the widths and codes of C37.118.2 -/

/-- Bytes of a slot's block. -/
def State.blockSize (s : State) (n : Nat) : Nat :=
  let f := s.get (AE_SLOT_FMT_FORMAT n)
  2 + s.get (AE_SLOT_FMT_PHNMR n) * (if f.testBit 1 then 8 else 4) + (if f.testBit 3 then 8 else 4) +
  s.get (AE_SLOT_FMT_ANNMR n) * (if f.testBit 2 then 4 else 2) + s.get (AE_SLOT_FMT_DGNMR n) * 2

/-- The slot bound to a pair (IDCODE, position): an enabled one before others. -/
def State.boundSlot (s : State) (idcode blk : Nat) : Option Nat :=
  let c := s.ringSlots.filter fun n => decide (n < 8192) && s.get (AE_SLOT_SRC_IDCODE n) == idcode && s.get (AE_SLOT_SRC_BLK n) == blk
  match c.find? fun n => s.flag (AE_SLOT_CFG_EN n) with
  | some n => some n
  | none => c.head?

/-- The IDCODE is held by a slot with a ring (steps 3 and 4). -/
def State.idHeld (s : State) (idcode : Nat) : Bool :=
  s.ringSlots.any fun n => decide (n < 8192) && s.get (AE_SLOT_SRC_IDCODE n) == idcode

/-- The blocks of a frame's body in order: each slot with its bytes; whether parsing stopped with a block left; none when the
sizes do not fit (steps 5 and 6). -/
def State.parseBlocks (s : State) (idcode : Nat) : Nat → Nat → List Byte → Option (List (Nat × List Byte) × Bool)
  | 0, _, body => some ([], !body.isEmpty)
  | fuel + 1, pos, body =>
    if body.isEmpty then some ([], false)
    else
      match s.boundSlot idcode pos with
      | none => some ([], true)
      | some n =>
        if s.get (AE_SLOT_FMT_PHNMR n) = 0 then some ([], true)
        else if body.length < s.blockSize n then none
        else
          match State.parseBlocks s idcode fuel (pos + 1) (body.drop (s.blockSize n)) with
          | some (rest, left) => some ((n, body.take (s.blockSize n)) :: rest, left)
          | none => none

/-- One phasor of a block as binary32 magnitude and angle. `unit` is the scale of an integer phasor in 10⁻⁵. DESIGN CHOICE (log 208): an
angle that is no finite number is stored as received, and the polar form of components that are not finite is a free value. -/
def phasorOf (format unit : Nat) (b : List Byte) : Nat × Nat :=
  if format.testBit 1 then
    let a := beNat (b.take 4)
    let c := beNat ((b.drop 4).take 4)
    if format.testBit 0 then (a, if f32Finite c then ratToF32 (reduceAngle (f32ToRat c)) else c)
    else if f32Finite a ∧ f32Finite c then polarOf (f32ToRat a) (f32ToRat c)
    else Config.polarNonFinite a c
  else
    let a := beNat (b.take 2)
    let c := beNat ((b.drop 2).take 2)
    let k : Rat := (unit : Rat) / 100000
    if format.testBit 0 then (ratToF32 ((a : Rat) * k), ratToF32 (reduceAngle ((signedOf 16 c : Rat) / 10000)))
    else polarOf ((signedOf 16 a : Rat) * k) ((signedOf 16 c : Rat) * k)

/-- The quality code of a received block (R171): the worst of the frame's indicator, STAT bit 13 and STAT bits 8 to 6. -/
def blockQuality (fracsec stat : Nat) : Nat :=
  let t := fracsec / 2 ^ 24 % 16
  let a := if t ≤ 3 then 0 else if t ≤ 10 then t - 3 else 15
  let b := if stat.testBit 13 then 15 else 0
  let c := stat / 64 % 8
  max a (max b (if c = 0 then 0 else if c = 7 then 15 else c - 1))

/-- The values of a received block (R171, R172). -/
def State.blockData (s : State) (n fracsec : Nat) (b : List Byte) : CellData :=
  let f := s.get (AE_SLOT_FMT_FORMAT n)
  let ph := s.get (AE_SLOT_FMT_PHNMR n)
  let w := if f.testBit 1 then 8 else 4
  let stat := beNat (b.take 2)
  let rest := b.drop (2 + ph * w)
  let nom : Rat := if s.get (AE_SLOT_FMT_FNOM n) = 1 then 50 else 60
  let fr := if f.testBit 3 then (beNat (rest.take 4), beNat ((rest.drop 4).take 4))
    else (ratToF32 (nom + (signedOf 16 (beNat (rest.take 2)) : Rat) / 1000), ratToF32 ((signedOf 16 (beNat ((rest.drop 2).take 2)) : Rat) / 100))
  { stat, qual := blockQuality fracsec stat, nph := min ph 8, srcNph := ph, freq := fr.1, rocof := fr.2,
    phasors := (List.range (min ph 8)).map fun j => phasorOf f (s.get (AE_SLOT_PHUNIT_SCALE n j)) (b.drop (2 + j * w)) }

/-! ### Instants (R171) -/

/-- TAI seconds of a frame: SOC plus the offset in force at that UTC second; second 60 of an inserted leap follows 23:59:59. -/
def State.frameSecond (s : State) (soc fracsec : Nat) : Nat :=
  let occurred := fracsec.testBit 29
  let at60 : Nat := bit (occurred && s.inserting ((soc : Int) + s.utcOffset + 1).toNat)
  match s.time.lastLeap with
  | some (u, old, up) =>
    if soc < u then
      let ins := occurred && soc + 1 == u && up
      ((soc : Int) + old).toNat + bit ins
    else ((soc : Int) + s.getS CAL_UTC_OFFSET).toNat + at60
  | none => ((soc : Int) + s.getS CAL_UTC_OFFSET).toNat + at60

/-- The place k of a fraction on the source grid, if it is on it. -/
def gridPlace (frac tb fs : Nat) : Option Nat :=
  if tb ≤ frac then none else (List.range fs).find? fun k => (2 * k * tb + fs) / (2 * fs) == frac

/-! ### Acceptance (R173, R175, R177, R179) -/

/-- A rejected block (R170). -/
def State.rejectBlock (s : State) (n reason : Nat) : State := (s.count (aeCnt n 3)).put (AE_SLOT_STAT_REJ_REASON n) reason

/-- An offside block (R179, R191). -/
def State.offside (s : State) (n reason port : Nat) (stamp : Nat) (c : Cell) : State :=
  let s := ((s.setWord (AE_SLOT_SEQ n) c.seq).restartStale n).count (aeCnt n 0)
  let s := s.raise EV_AE_OFFSIDE sevNotice (s.get (AE_SLOT_SRC_GROUP n)) n
  let size := s.get FS_ANNEX_INFO_ENTRIES
  if s.get FS_CFG_ANNEX = 0 ∨ ¬ s.flag (AE_SLOT_CFG_ANNEX n) ∨ size = 0 then s
  else
    let q := s.pair FS_ANNEX_SEQ_LO FS_ANNEX_SEQ_HI
    let e : AnnexEntry := { arrival := s.stampAt stamp, reason, port, cell := c, seq := q }
    State.setPair { s with align := { s.align with annex := Store.set (fun _ => none) s.align.annex (q % size) (some e) } }
      FS_ANNEX_SEQ_LO FS_ANNEX_SEQ_HI (q + 1)

/-- The slot's sequence counter and state after an accepted block (R175); an internal slot keeps no stale timer. -/
def State.slotHeard (s : State) (n seq : Nat) : State :=
  let s := s.setWord (AE_SLOT_SEQ n) seq
  if 8192 ≤ n then s
  else
    let s := s.restartStale n
    if s.slotState n = slWaiting then s.setSlotState n slActive
    else if s.slotState n = slStale then (s.setSlotState n slActive).raise EV_AE_FRESH sevNotice (s.get (AE_SLOT_SRC_GROUP n)) n
    else s

/-- A word part way between two, NaN when one is no number. -/
def lerpWord (f : Rat) (a b : Nat) : Nat :=
  if f32Finite a ∧ f32Finite b then ratToF32 (f32ToRat a + f * (f32ToRat b - f32ToRat a)) else f32NaN

/-- The values part way between two blocks (R182): angles along the shorter arc, STAT the OR, quality the worse. -/
def lerpData (f : Rat) (a b : CellData) : CellData :=
  let nph := min a.nph b.nph
  let ang (x y : Nat) : Nat :=
    if f32Finite x ∧ f32Finite y then
      ratToF32 (reduceAngle (f32ToRat x + f * reduceAngle (f32ToRat y - f32ToRat x)))
    else f32NaN
  { stat := a.stat ||| b.stat, qual := max a.qual b.qual, nph, srcNph := b.srcNph, freq := lerpWord f a.freq b.freq, rocof := lerpWord f a.rocof b.rocof,
    phasors := (List.range nph).map fun j =>
      let p := a.phasors.getD j (0, 0)
      let q := b.phasors.getD j (0, 0)
      (lerpWord f p.1 q.1, ang p.2 q.2) }

/-- The grid instants strictly between two accepted source instants, written into the buckets still open (R182). -/
def State.interpolate (s : State) (n : Nat) (a b : SourceInput) (stamp seq : Nat) : State :=
  let k := s.gridRate / s.sourceRate n
  (List.range ((b.num - a.num) * k - 1)).foldl (fun s j =>
    let num := a.num * k + j + 1
    match s.opened num with
    | some o =>
      if o.written.contains n ∨ o.closeAt < stamp then s
      else
        let t := bucketInstant s.gridRate num
        let f : Rat := ((j + 1 : Nat) : Rat) / (((b.num - a.num) * k : Nat) : Rat)
        s.fileCell n num stamp { instant := t, tstate := s.jobState, arrival := some (microsFrom t stamp), data := lerpData f a.data b.data,
                                 flags := 1 + 8, slot := n, seq, number := num }
    | none => s) s

/-- The nearest block kept before an instant, and after it. -/
def neighbours (ins : List SourceInput) (num : Nat) : Option SourceInput × Option SourceInput :=
  ins.foldl (fun (a : Option SourceInput × Option SourceInput) i =>
    if i.num < num then (match a.1 with
      | some o => if o.num < i.num then (some i, a.2) else a
      | none => (some i, a.2))
    else if num < i.num then (match a.2 with
      | some o => if i.num < o.num then (a.1, some i) else a
      | none => (a.1, some i))
    else a) (none, none)

/-- A source block joins those kept for rate conversion; of two of one instant the first stays. -/
def keepInput (i : SourceInput) (ins : List SourceInput) : List SourceInput := if ins.any fun x => x.num == i.num then ins else ins ++ [i]

/-- The work rate conversion does on an accepted block (R181, R182). -/
def State.convert (s : State) (n : Nat) (i : SourceInput) : State :=
  let conv := s.get (AE_SLOT_CFG_CONV n)
  if conv = 2 then
    let s := s.setSlotLink n fun l => { l with inputs := keepInput i l.inputs }
    let m := s.filterM n
    (s.align.opens.map (·.number)).foldl (fun s b =>
      if i.num ≤ b * m + 2 * m ∧ b * m ≤ i.num + 2 * m then s.filterComplete n b i.stamp i.seq else s) s
  else if conv = 3 then
    let (a, b) := neighbours (s.slotLink n).inputs i.num
    let s := s.setSlotLink n fun l => { l with inputs := keepInput i l.inputs }
    let s := match a with
      | some x => s.interpolate n x i i.stamp i.seq
      | none => s
    match b with
    | some x => s.interpolate n i x i.stamp i.seq
    | none => s
  else s

/-- Whether a source instant `num` of a slot is a grid instant, and the bucket it falls in. -/
def State.bucketOf (s : State) (n num : Nat) : Bool × Nat :=
  let g := s.gridRate
  let fs := s.sourceRate n
  if fs % g = 0 then (num % (fs / g) == 0, num / (fs / g)) else (true, num * (g / fs))

/-- Step 12 of R170 and what follows: the bucket of a grid instant is open and the block came by its close instant (R178), else it
is offside (R179). -/
def State.takeBlock (s : State) (n num port stamp : Nat) (c : Cell) : State :=
  let (onG, b) := s.bucketOf n num
  let missed : Bool := match s.opened b with
    | some o => decide (o.closeAt < stamp)
    | none => true
  if onG ∧ missed then s.offside n (if (s.header b).isSome then 0 else 1) port stamp c
  else
    let s := s.slotHeard n c.seq
    let s := if onG ∧ s.get (AE_SLOT_CFG_CONV n) ≠ 2 then s.fileCell n b stamp c else s
    s.convert n ⟨num, c.data, stamp, c.seq⟩

/-- One block from step 9 on (R170), under the EARLY its bucket opened with (R177): its source instant `num` at rate Fs, stamped `t`. -/
def State.blockAt (s : State) (n : Nat) (f : C37Frame) (num t : Nat) (raw : List Byte) : State :=
  let (onG, b) := s.bucketOf n num
  let early := if onG then ((s.opened b).map (·.early)).getD (s.get AE_CFG_EARLY) else s.get AE_CFG_EARLY
  if f.stamp + early * 1000000 < t then s.rejectBlock n 2
  else
    let s := if onG ∧ s.nextBucket ≤ b then s.openTo b else s
    let l := s.slotLink n
    if l.seen.contains num then s.count (aeCnt n 1)
    else
      let top := max num (l.newest.getD 0)
      let s := s.setSlotLink n fun l => { l with seen := (num :: l.seen).filter fun x => decide (top < x + 64), newest := some top }
      s.takeBlock n num (bit f.lanB + 2 * bit (f.port == 1)) f.stamp {
        instant := t, tstate := s.jobState, arrival := some (microsFrom t f.stamp), data := s.blockData n f.fracsec raw,
        flags := 1 + (if f.lanB then 64 else 0), slot := n, seq := (s.word (AE_SLOT_SEQ n) + 1) % 2 ^ 32, number := b }

/-- One block of a data frame, steps 7 to 12. -/
def State.block (s : State) (f : C37Frame) (n : Nat) (raw : List Byte) : State :=
  let st := s.slotState n
  if ¬ s.flag (AE_SLOT_CFG_EN n) ∨ st = slDisabled then s
  else if st = slMismatch then s.rejectBlock n 3
  else if ¬ (s.get (AE_SLOT_CFG_PORTS n)).testBit f.port then s.rejectBlock n 4
  else
    let fs := s.sourceRate n
    match gridPlace (f.fracsec % 2 ^ 24) (s.get (AE_SLOT_TIMEBASE_TIME_BASE n)) fs with
    | none => s.rejectBlock n 1
    | some k =>
      let sec := s.frameSecond f.soc f.fracsec
      s.blockAt n f (sec * fs + k) (sec * 1000000000 + k * 1000000000 / fs) raw

/-- A frame on the ALIGN path (R170, R434). -/
def State.alignFrame (s : State) (f : C37Frame) : State :=
  if s.cold ∨ s.net.pathsClosed then s
  else if ¬ s.flag AE_CFG_EN then s.count (aeGCnt 2)
  else if ¬ f.syncOk ∨ (f.version ≠ 1 ∧ f.version ≠ 2) ∨ f.frameSize ≠ f.actualLen then s.count (aeGCnt 0)
  else if ¬ f.chkOk then s.count (aeGCnt 1)
  else if (f.kind = 3 ∨ f.kind = 5) ∧ s.idHeld f.idcode then s.count (aeGCnt 4)
  else if f.kind ≠ 0 ∨ ¬ s.idHeld f.idcode then s.count (aeGCnt 2)
  else
    match s.parseBlocks f.idcode 255 0 f.body with
    | none => s.count (aeGCnt 0)
    | some (blocks, left) =>
      if ¬ left ∧ f.body.length + 16 ≠ f.frameSize then s.count (aeGCnt 0)
      else blocks.foldl (fun s b => s.block f b.1 b.2) (s.when left fun s => s.count (aeGCnt 2))

/-! ### Slot states (R174, R175) -/

/-- No accepted block for STALE ms. -/
def State.staleNow (s : State) (n : Nat) : State :=
  match (s.slotLink n).last with
  | some t =>
    if n < 8192 ∧ s.slotState n = slActive ∧ t + s.get (AE_SLOT_TMO_STALE n) * 1000000 ≤ s.jobMono then
      (s.setSlotState n slStale).raise EV_AE_STALE sevWarning (s.get (AE_SLOT_SRC_GROUP n)) n
    else s
  | none => s

/-- SLOT_STALE. -/
def execSlotStale (n : Nat) (s : State) : Host.Outcome State Fault Refusal :=
  onEngines (.slotStale n) s fun s => if s.flag AE_CFG_EN ∧ ¬ s.cold then s.staleNow n else s

/-- A configuration block agrees with what a slot holds (R174). -/
def State.cfgSame (s : State) (n tb : Nat) (b : CfgBlock) : Bool :=
  s.get (AE_SLOT_FMT_FORMAT n) == b.format % 16 && s.get (AE_SLOT_FMT_PHNMR n) == b.phnmr && s.get (AE_SLOT_FMT_ANNMR n) == b.annmr &&
  s.get (AE_SLOT_FMT_DGNMR n) == b.dgnmr && s.get (AE_SLOT_FMT_FNOM n) == b.fnom % 2 && s.get (AE_SLOT_TIMEBASE_TIME_BASE n) == tb &&
  (List.range (min b.phnmr 8)).all fun j => s.reg (AE_SLOT_PHUNIT n j) == b.phunit.getD j 0

/-- The differing fields written into a slot; they apply from the next frame. -/
def State.cfgLearn (s : State) (n tb : Nat) (b : CfgBlock) : State :=
  let s := s.setWord (AE_SLOT_FMT n) (b.fnom % 2 * 2 ^ 20 + b.dgnmr % 16 * 2 ^ 16 + b.annmr % 64 * 2 ^ 10 + b.phnmr % 64 * 16 + b.format % 16)
  let s := s.put (AE_SLOT_TIMEBASE_TIME_BASE n) tb
  let s := s.forEach (min b.phnmr 8) fun j s => s.setReg (AE_SLOT_PHUNIT n j) (b.phunit.getD j 0)
  (s.setSlotLink n fun l => { l with changed := some s.jobMono }).osInfos n

/-- Firmware compares a configuration frame with one slot bound to its IDCODE. -/
def State.cfgSlot (s : State) (f : CfgFrame) (n : Nat) : State :=
  let st := s.slotState n
  if ¬ (st = slWaiting ∨ st = slActive ∨ st = slStale) then s
  else
    let rateSame := f.rate == some (s.get (AE_SLOT_CFG_RATE n))
    let mismatch := (s.setSlotState n slMismatch).raise EV_AE_CFG_MISMATCH sevMajor n n
    match f.blocks[s.get (AE_SLOT_SRC_BLK n)]? with
    | none => mismatch
    | some b =>
      if rateSame ∧ s.cfgSame n f.timeBase b then s
      else if rateSame ∧ s.flag (AE_SLOT_CFG_LEARN n) ∧ b.phnmr ≤ 32 ∧ b.annmr ≤ 63 ∧ b.dgnmr ≤ 15 then
        let t := s.cfgLearn n f.timeBase b
        if st = slWaiting then t else t.raise EV_AE_CFG_CHANGE sevNotice n n
      else mismatch

/-- A configuration frame compared with every external slot of its IDCODE (R174). -/
def State.cfgCheck (s : State) (f : CfgFrame) : State :=
  if s.flag AE_CFG_EN ∧ ¬ s.cold then
    (s.ringSlots.filter fun n => decide (n < 8192) && s.get (AE_SLOT_SRC_IDCODE n) == f.idcode).foldl (fun s n => s.cfgSlot f n) s
  else s

/-- CFG_FRAME_CHECK: during a firmware switch the frame waits (R384). -/
def execCfgFrameCheck (f : CfgFrame) (s : State) : Host.Outcome State Fault Refusal :=
  onEngines (.cfgFrameCheck f) s fun s =>
    if s.flag FU_STATUS_SWITCHING then { s with fw := { s.fw with cfgWaiting := s.fw.cfgWaiting ++ [f] } } else s.cfgCheck f

/-! ### Starting and stopping (R167, R185, R434) -/

/-- Every open bucket marked ABORTED without fills; filters, inputs and the open-bucket state forgotten. -/
def State.abortBuckets (s : State) : State :=
  let s := s.align.opens.foldl (fun s o => s.setHeader o.number fun h => { h with state := 4 }) s
  let keep (l : SlotLink) : SlotLink := { changed := l.changed, last := l.last }
  State.showFen { s with align := { s.align with
    opens := []
    slots := (s.align.slots.map fun (e : Nat × SlotLink) => (e.1, keep e.2)).filter fun (e : Nat × SlotLink) => e.2 != ({} : SlotLink) } }

/-- External slots with EN = 1 enter WAITING and their stale timers start. -/
def State.slotsWait (s : State) : State :=
  (s.ringSlots.filter fun n => decide (n < 8192) && s.flag (AE_SLOT_CFG_EN n)).foldl
    (fun s n => (s.setSlotState n slWaiting).restartStale n) s

/-- The first bucket to open is the first grid instant after local TAI, none twice; with `gap` it carries GAP_BEFORE and counts the
instants passed since the newest one opened, or since the first that was to open (R185, R434). -/
def State.resumeGrid (s : State) (gap : Bool) : State :=
  let next := match s.align.newest with
    | some b => b + 1
    | none => s.align.floor
  let f := max (bucketAt s.gridRate s.jobTai + 1) (if gap then next else 0)
  { s with align := { s.align with floor := f, skipped := if gap then some (f - next) else none } }

/-- The fen store laid out (R167, R187): kept when the layout is the one before, else emptied. -/
def State.layOut (s : State) : State :=
  let l := s.wantedLayout
  let s := ((s.put AE_STATUS_RUNNING (bit !s.cold)).put AE_STATUS_LAYOUT_ERR 0).slotsWait
  if s.align.layout = some l then s.resumeGrid true
  else
    let s := { s with align := { s.align with layout := some l, newest := none, cells := [], headers := [], annex := [], pins := [] } }
    let s := s.put FS_STATUS_HISTORY l.history
    let s := s.put FS_ANNEX_INFO_ENTRIES (annexBytes (s.get FS_CFG_ANNEX) / 160)
    let s := { s with regs := s.regs.filter fun e => !(decide (0x200000 ≤ e.1) && decide (e.1 < 0x200000 + 0x40 * 8464) && e.1 % 64 == 0x3c) }
    let s := l.bases.foldl (fun s e => s.setWord (AE_SLOT_BASE e.1) e.2) s
    ((s.setPair FS_CLOSED_LO FS_CLOSED_HI 0).showFen.showPins).resumeGrid false

/-- Alignment stopped (R434). -/
def State.alignStop (s : State) : State := s.abortBuckets.put AE_STATUS_RUNNING 0

/-- Alignment stopped by a class W reset: its open buckets are marked when it restarts (R185). -/
def State.alignPause (s : State) : State := s.put AE_STATUS_RUNNING 0

/-! ### Register writes -/

/-- The slots whose AE_SLOT_CFG has been changed. -/
def State.cfgSlots (s : State) : List Nat :=
  s.regs.filterMap fun e => if 0x200000 ≤ e.1 ∧ e.1 < 0x200000 + 0x40 * 8464 ∧ e.1 % 64 = 0 then some ((e.1 - 0x200000) / 64) else none

/-- Configured external data frames/s (R168), and with one slot's AE_SLOT_CFG changed. -/
def State.ingest (s : State) : Nat :=
  (s.ringSlots.filter fun k => decide (k < 8192) && s.flag (AE_SLOT_CFG_EN k)).foldl (fun a k => a + s.sourceRate k) 0
@[inherit_doc State.ingest] def State.alignLoad (s : State) (n : Nat) (w : Word) : Nat := (s.setReg (AE_SLOT_CFG n) w).ingest

/-- Delivered cells/s with one ring's FS_DLV_CFG and slot count changed (R196), and as configured. -/
def State.deliverLoad (s : State) (r : Nat) (w : Word) (count : Nat) : Nat :=
  (List.range 8).foldl (fun a i =>
    let c := if i = r then w else s.reg (FS_DLV_CFG i)
    let k := if i = r then count else s.get (FS_DLV_CFG_NSLOT i)
    if c.field 0 0 = 1 then a + k * s.gridRate / max 1 (c.field 8 1) else a) 0
@[inherit_doc State.deliverLoad] def State.delivered (s : State) : Nat := s.deliverLoad 0 (s.reg (FS_DLV_CFG 0)) (s.get (FS_DLV_CFG_NSLOT 0))

/-- The limit of R196. -/
def limitDeliver (p : Nat) : Nat := atPoint p 2000000 3000000 4000000

/-- A slot's enable is refused (R168). -/
def State.slotEnableBad (s : State) (n : Nat) (w : Word) : Option Nat :=
  if w.field 6 4 = 7 ∨ w.field 13 12 = 0 ∨ (s.get (AE_SLOT_FMT_PHNMR n) = 0 ∧ w.field 11 11 = 0) ∨ s.get (AE_SLOT_FMT_FNOM n) = s.get PE_G_CFG_F_NOM then
    some reasonState
  else if s.cfgSlots.any fun k => decide (k < 8192) && k != n && s.flag (AE_SLOT_CFG_EN k) &&
      s.get (AE_SLOT_SRC_IDCODE k) == s.get (AE_SLOT_SRC_IDCODE n) && s.get (AE_SLOT_SRC_BLK k) == s.get (AE_SLOT_SRC_BLK n) then some reasonState
  else if limitAlign s.point < s.alignLoad n w then some reasonLoad else none

/-- Why a write to an AE or FS register is refused, if it is. -/
def alignGuard (s : State) (base : Nat) (ix : List Nat) (w : Word) : Option Nat :=
  match base, ix with
  | 0x200000, [n] =>
    let old := s.reg (AE_SLOT_CFG n)
    if w.field 6 4 = 5 ∨ w.field 6 4 = 6 then some reasonRange
    else if s.flag AE_CFG_EN ∧ (w.field 6 4 ≠ old.field 6 4 ∨ w.field 8 7 ≠ old.field 8 7) then some reasonState
    else if n < 8192 ∧ w.field 0 0 = 1 then s.slotEnableBad n w else none
  | 0x200004, [n] => if s.flag (AE_SLOT_CFG_EN n) ∧ w ≠ s.reg (AE_SLOT_SRC n) then some reasonState else none
  | 0x2f0000, _ =>
    let g := frameRate s.fNom (w.field 3 1)
    if 511 * 1000 < (w.field 15 5 + w.field 22 16) * g then some reasonRange
    else if s.flag AE_CFG_EN ∧ w.field 3 1 ≠ s.get AE_CFG_GRID then some reasonState
    else if s.ringSlots.any fun n => s.get (AE_SLOT_CFG_CONV n) == 2 && s.flag (AE_SLOT_CFG_EN n) && decide (w.field 15 5 * g < 2000) then
      some reasonState
    else if limitDeliver s.point < (s.setReg AE_CFG w).delivered then some reasonLoad
    else if ¬ s.flag AE_CFG_EN ∧ w.field 0 0 = 1 ∧ (s.layoutFault w).isSome then some reasonState else none
  | 0x2f0010, _ => if s.flag AE_CFG_EN then some reasonState else none
  | 0x2f0080, [r] =>
    if w.field 0 0 = 1 ∧ s.get (FS_DLV_CFG_NSLOT r) = 0 then some reasonRange
    else if limitDeliver s.point < s.deliverLoad r w (s.get (FS_DLV_CFG_NSLOT r)) then some reasonLoad else none
  | _, _ => none

/-- The slot at fault of a write of AE_CFG refused for the layout it asks for (R167). -/
def State.layoutRefused (s : State) (base : Nat) (w : Word) : Option Nat :=
  if base = 0x2f0000 ∧ w.field 0 0 = 1 ∧ ¬ s.flag AE_CFG_EN then s.layoutFault w else none

/-- What a write so refused does beside being recorded: LAYOUT_ERR and the slot at fault. -/
def State.layoutShown (s : State) (fault : Option Nat) : State :=
  match fault with
  | some n => (s.put AE_STATUS_LAYOUT_ERR 1).put AE_LAYOUT_SLOT_SLOT n
  | none => s

/-- A write to a slot's format: it leaves MISMATCH (R175), and the configuration held has changed (R162). -/
def State.formatWritten (s : State) (n : Nat) : State :=
  let s := s.setSlotLink n fun l => { l with changed := some s.jobMono }
  if s.slotState n = slMismatch then s.setSlotState n slWaiting else s

/-- An internal slot's word after a write (R169): EN is that of its function, PORTS and LEARN are reserved. -/
def State.internalSlot (s : State) (n : Nat) : State :=
  let on := if n < 8208 then s.get (PE_FN_CFG_EN (n - 8192)) else s.get (PE_LF_CFG_EN (n - 8208))
  ((s.put (AE_SLOT_CFG_EN n) on).put (AE_SLOT_CFG_PORTS n) 0).put (AE_SLOT_CFG_LEARN n) 0

/-- What an accepted write to those registers does beside storing its fields. -/
def alignEffect (base : Nat) (ix : List Nat) (old w : Word) (s : State) : State :=
  match base, ix with
  | 0x200000, [n] =>
    if 8192 ≤ n then s.internalSlot n
    else
      let s := if old.field 0 0 = 0 ∧ w.field 0 0 = 1 then (s.setSlotState n slWaiting).restartStale n
        else if old.field 0 0 = 1 ∧ w.field 0 0 = 0 then s.setSlotState n slDisabled else s
      s.put AE_LOAD_LOAD (s.alignLoad n w)
  | 0x200004, [n] => if n < 8192 then s else s.setWord (AE_SLOT_SRC n) 0
  | 0x200008, [n] => if n < 8192 then s.formatWritten n else s.setWord (AE_SLOT_FMT n) 0
  | 0x200010, [n, _] => if n < 8192 then s.formatWritten n else s.setSlotLink n fun l => { l with changed := some s.jobMono }
  | 0x200030, [n] => if n < 8192 then s.formatWritten n else s
  | 0x2f0000, _ =>
    if old.field 0 0 = 0 ∧ w.field 0 0 = 1 then s.layOut else if old.field 0 0 = 1 ∧ w.field 0 0 = 0 then s.alignStop else s
  | _, _ => s

/-! ### Time step and reset -/

/-- A time step (R184): a forward step skips the grid instants in (T1, T2]; a backward step opens nothing again. -/
def State.alignTimeStep (s : State) (old : Nat) : State :=
  if ¬ s.flag AE_CFG_EN then s
  else
    let now := s.jobTai
    let s := { s with align := { s.align with opens := s.align.opens.map fun (o : OpenBucket) =>
      if o.closeAt ≤ now then { o with reachedAt := some (o.reachedAt.getD s.jobMono) } else { o with reachedAt := none } } }
    if old < now then
      let first := bucketAt s.gridRate now + 1
      let next := s.nextBucket
      if next < first then
        (State.raise { s with align := { s.align with floor := first, skipped := some (s.align.skipped.getD 0 + (first - next)) } } EV_AE_STEP_GAP sevNotice)
      else s
    else s

/-- The end of a class W reset: alignment restarts (R185). -/
def State.alignRestart (s : State) : State :=
  if s.flag AE_CFG_EN ∧ ¬ s.cold then (s.abortBuckets.slotsWait.resumeGrid true).put AE_STATUS_RUNNING 1 else s

end Sys2Proof.Machine
end

