-- ==== Sys2Proof/Machine/Ports.lean ====
section
/-!
DEFINITION. Network ports and sluices (03, R63 to R89; R15 to R17): receive classification, PRP, transmit queues, flow control,
link supervision and the sluice self-test.
-/

namespace Sys2Proof.Machine

/-- One port's hidden state. -/
def State.port (s : State) (p : Nat) : PortState := Store.get (fun _ => {}) s.net.ports p

/-- One port's hidden state changed. -/
def State.setPort (s : State) (p : Nat) (f : PortState → PortState) : State :=
  { s with net := { s.net with ports := Store.set (fun _ => {}) s.net.ports p (f (s.port p)) } }

/-- The counters of a port (03). -/
def npCnt (p i : Nat) : Cnt := ⟨NP_CNT p i, ⟨NP_CNT_SAT p, i, i⟩, EV_NP_CNT_SAT, p * 32 + i, p⟩

/-- The sluice a port receives through: while PRP is enabled WA1 enters the fabric through sluice 0 (03). DESIGN CHOICE (log 170): its level
is then the one that WA1's PAUSE watermarks are held against, as no rule names another. -/
def State.rxSluice (s : State) (p : Nat) : Nat := if p = 1 ∧ s.flag NP_PRP_CFG_EN then 0 else 2 * p

/-- The port is in service: it is enabled and no sluice of its own has stopped (R17). -/
def State.portRuns (s : State) (p : Nat) : Bool :=
  s.flag (NP_CFG_EN p) && !s.flag (SL_STATUS_STOPPED (2 * p)) && !s.flag (SL_STATUS_STOPPED (2 * p + 1))

/-- The port takes frames: the sluices between it and the fabric are in service (R89), the PRP merge sluice among them. -/
def State.rxRuns (s : State) (p : Nat) : Bool :=
  s.portRuns p && s.flag (SL_STATUS_ACTIVE (s.rxSluice p)) && (s.rxSluice p == 2 * p || s.flag (SL_STATUS_ACTIVE 8))

/-- The port sends frames: its transmit sluice is in service (R89). -/
def State.txRuns (s : State) (p : Nat) : Bool := s.portRuns p && s.flag (SL_STATUS_ACTIVE (2 * p + 1))

/-- The station address in use: that of OTP until NP_MAC_HI is written (R89, 03). -/
def State.mac (s : State) (p : Nat) : Nat :=
  match (s.port p).macActive with
  | some m => m
  | none => (resetWord (NP_MAC_HI p)).toNat % 65536 * 2 ^ 32 + (resetWord (NP_MAC_LO p)).toNat

/-- The PRP supervision address (R65). -/
def State.supAddr (s : State) : Nat := 0x01154e000100 + s.get NP_PRP_CFG_SUP_ADDR

/-! ### Receive classification -/

/-- The outcomes of R67: a drop with its counter, a consumed PAUSE, or a path (0 time base, 1 ALIGN, 2 LANE, 3 FIRMWARE,
4 RELAY, 5 the PRP unit) with the class index of the frame's head. -/
inductive RxOutcome where
  | drop (counter : Nat)
  | pause
  | path (path cls : Nat)
deriving DecidableEq, Repr

/-- Step 6 admits the destination address (R67). -/
def State.dstOk (s : State) (p dst : Nat) : Bool :=
  let h := crc32 (beBytes 6 dst) / 2 ^ 26
  dst == s.mac p || dst == 0xffffffffffff ||
  ((dst / 2 ^ 40) % 2 == 1 && (if h < 32 then s.word (NP_MCAST_HASH_LO p) else s.word (NP_MCAST_HASH_HI p)).testBit (h % 32)) ||
  (decide (p ≤ 2) && (dst == 0x011b19000000 || dst == 0x0180c200000e)) ||
  (s.flag NP_PRP_CFG_EN && dst == s.supAddr)

/-- Step 7 admits the tag (R63, R67). -/
def State.tagOk (s : State) (p : Nat) (tags : List Nat) : Bool :=
  match tags with
  | [] => s.flag (NP_VLAN_UNTAG_OK p)
  | [tci] => if tci % 4096 = 0 then s.flag (NP_VLAN_UNTAG_OK p) else s.flag (NP_VLAN_TAG_EN p) && tci % 4096 == s.get (NP_VLAN_VID p)
  | _ => false

/-- A frame that a full sluice or a loss of link has cut short: neither its length nor its FCS can be judged (R84). -/
def cutShort (f : EthFrame) : Bool := f.linkLost || f.overflow || f.sofFull

/-- A redundancy control trailer is recognised on the WA ports while PRP is enabled (R65, R66); a frame cut short has lost it. -/
def State.trailerOf (s : State) (p : Nat) (f : EthFrame) : Option Trailer :=
  if s.flag NP_PRP_CFG_EN ∧ p < 2 ∧ ¬ cutShort f then f.trailer else none

/-- The IP and UDP header checks of R69. `len` is the frame's length with the trailer removed. -/
def ipOk (etype len : Nat) (tagged : Bool) (h : IpHeader) : Bool :=
  let v4 := etype == 0x0800
  let small := len == 64 || (tagged && len == 68)
  h.version == (if v4 then 4 else 6) && (!v4 || (decide (5 ≤ h.ihl) && h.csumOk)) &&
  (h.total == h.after || (small && decide (h.total ≤ h.after))) &&
  (h.proto != 17 || (decide (8 ≤ h.udpLen) && h.udpLen == h.total - 4 * h.ihl && ((v4 && h.udpCsumZero) || h.udpCsumOk)))

/-- An enabled classification entry matches (R70). -/
def State.classHit (s : State) (p k : Nat) (f : EthFrame) : Bool :=
  let isIp := f.etype == 0x0800 || f.etype == 0x86dd
  let proto := (f.ip.map (·.proto)).getD 0
  let port := (f.ip.map (·.dstPort)).getD 0
  s.flag (NP_CLASS_MATCH_EN p k) && s.get (NP_CLASS_MATCH_ETYPE p k) == f.etype &&
  (!isIp || s.get (NP_CLASS_MATCH_IPPROTO p k) == 0 || s.get (NP_CLASS_MATCH_IPPROTO p k) == proto) &&
  (!(isIp && (proto == 6 || proto == 17)) ||
    (decide (s.get (NP_CLASS_PORT_PORT_LO p k) ≤ port) && decide (port ≤ s.get (NP_CLASS_PORT_PORT_HI p k))))

/-- Steps 9 to 14 of R67. -/
def State.route (s : State) (p : Nat) (f : EthFrame) : RxOutcome :=
  let isIp := f.etype == 0x0800 || f.etype == 0x86dd
  let len := f.length - (if (s.trailerOf p f).isSome then 6 else 0)
  let ptp := f.etype == 0x88f7 || (isIp && (f.ip.map fun h => h.proto == 17 && (h.dstPort == 319 || h.dstPort == 320)).getD false)
  if p ≤ 2 ∧ ptp then .path 0 0xff
  else if s.flag NP_PRP_CFG_EN ∧ p < 2 ∧ f.etype = 0x88fb ∧ f.dst = s.supAddr then .path 5 0xff
  else if p = 2 ∧ (f.etype = 0x88b5 ∨ f.etype = 0x88ba) then .path 2 0xff
  else if isIp ∧ (f.ip.map (·.fragment)).getD false then .drop 8
  else if isIp ∧ !((f.ip.map (ipOk f.etype len (f.tags != []))).getD false) then .drop 7
  else
    match (List.range 16).find? fun k => s.classHit p k f with
    | some k =>
      let a := s.get (NP_CLASS_ACT_PATH p k)
      if a = 0 then .drop 10 else .path (if a = 1 then 1 else a + 1) k
    | none =>
      if f.etype = 0x0806 ∨ (f.etype = 0x0800 ∧ f.ip.map (·.proto) = some 1) ∨ (f.etype = 0x86dd ∧ f.ip.map (·.proto) = some 58) then
        .path 3 0xff
      else .drop 9

/-- Step 8 looks a frame up in the duplicate-discard table (R66): it carries a trailer, its path is not ALIGN, and steps 11 and 14 do not
drop it. An entry whose PATH is DROP gives its frames that path (log 122). -/
def State.prpKey (s : State) (p : Nat) (f : EthFrame) (o : RxOutcome) : Option (Nat × Nat) :=
  match s.trailerOf p f, o with
  | some t, .path a _ => if a = 1 then none else some (f.src, t.seq)
  | some t, .drop 10 => some (f.src, t.seq)
  | _, _ => none

/-- The table holds an entry still within its window (R66). -/
def State.ddHit (s : State) (k : Nat × Nat) : Bool :=
  s.net.dd.any fun e => e.src == k.1 && e.seq == k.2 && decide (s.time.mono < e.ends)

/-- Steps 1 to 4: the counter of a frame that fails its code, length or FCS check. -/
def State.checkFails (s : State) (p : Nat) (f : EthFrame) : Option Nat :=
  if cutShort f then none
  else if f.codeError then some 4
  else if f.length < 64 then some 2
  else if s.get (NP_FRAME_CFG_MAX_LEN p) < f.length then some 3
  else if ¬ f.fcsOk then some 1
  else none

/-- The outcome of a frame (R67). -/
def State.classify (s : State) (p : Nat) (f : EthFrame) : RxOutcome :=
  if (s.checkFails p f).isSome then .drop ((s.checkFails p f).getD 0)
  else if f.etype = 0x8808 then .pause
  else if ¬ s.dstOk p f.dst then .drop 5
  else if ¬ s.tagOk p f.tags then .drop 6
  else
    let o := s.route p f
    match s.prpKey p f o with
    | some k => if s.ddHit k then .drop 15 else o
    | none => o

/-- A new entry in the duplicate-discard table: a full one loses its oldest entry early (R66). -/
def State.ddAdd (s : State) (p : Nat) (k : Nat × Nat) : State :=
  let e : DdEntry := ⟨k.1, k.2, s.time.mono + s.get NP_PRP_CFG_DD_WINDOW * 1000000⟩
  let live := s.net.dd.filter fun e => decide (s.time.mono < e.ends)
  if live.length < 1024 then { s with net := { s.net with dd := live ++ [e] } }
  else State.count { s with net := { s.net with dd := live.drop 1 ++ [e] } } (npCnt p 17)

/-- A drop counted: indices 1 to 13 also enter the rate of R81. -/
def State.rxDrop (s : State) (p i : Nat) : State :=
  (s.count (npCnt p i)).when (decide (1 ≤ i) && decide (i ≤ 13)) fun s => s.setPort p fun q => { q with drops := q.drops + 1 }

/-- The SPEED code a port runs at (R63): on MG0 that of the control word, or 1000 Mb/s without auto-negotiation. -/
def State.speedCode (s : State) (p : Nat) : Nat :=
  let mode := s.get (NP_CFG_MODE p)
  if mode = 0 then 3 else if mode = 1 then 2 else if s.flag (NP_CFG_AN_EN p) then (s.port p).speed else 2

/-- Nanoseconds of wire time of a number of bits at the port's speed, rounded up (R63: 10 Gb/s is 0.1 ns a bit). -/
def State.bitTime (s : State) (p bits : Nat) : Nat :=
  let v := s.speedCode p
  if v = 3 then (bits + 9) / 10 else if v = 2 then bits else if v = 1 then bits * 10 else bits * 100

/-- A received PAUSE (R78): counted, and honoured when PAUSE_RX is 1 from the next frame boundary. -/
def State.pauseRx (s : State) (p quanta : Nat) : State :=
  let s := s.count (npCnt p 14)
  if ¬ s.flag (NP_CFG_PAUSE_RX p) then s
  else if quanta = 0 then (s.setPort p fun q => { q with pausedUntil := none }).put (NP_STATUS_PAUSED p) 0
  else
    let start := match (s.port p).sending with
      | some (_, _, e) => max e s.time.mono
      | none => s.time.mono
    (s.setPort p fun q => { q with pausedUntil := some (start + s.bitTime p (quanta * 512)) }).put (NP_STATUS_PAUSED p) 1

/-- A 64-bit sequence counter of bytes advanced (R10). -/
def State.addBytes (s : State) (lo hi n : Nat) : State := s.setPair lo hi (s.pair lo hi + n)

/-- The receive stamp at a port: TB_PORT_RXLAT subtracted (R53), in whole nanoseconds; MG0 has no such register. -/
def State.rxTai (s : State) (p : Nat) : Nat := if p < 3 then s.time.tai - s.get (TB_PORT_RXLAT_LAT p) / 16 else s.time.tai

/-- The 24 bytes placed before a frame handed to a consumer (03). -/
def State.frameHead (s : State) (p : Nat) (f : EthFrame) (cls : Nat) : List Byte :=
  let t := s.trailerOf p f
  let flags := bit t.isSome + 2 * bit ((t.map (·.lanB)).getD false) + 4 * bit (f.tags != []) + 8 * bit (p == 3)
  stampBytes ⟨s.rxTai p, s.qualWord⟩ ++ leBytes 2 (f.length - 4 - (if t.isSome then 6 else 0)) ++ leBytes 2 ((t.map (·.seq)).getD 0) ++
  leBytes 1 p ++ leBytes 1 flags ++ leBytes 1 cls ++ leBytes 1 0 ++ leBytes 2 (f.tags.headD 0) ++ leBytes 2 0

/-- How a classified frame is still lost, if it is (R68): the counter that stands in place of RX_GOOD. -/
def State.rxLoss (s : State) (f : EthFrame) (path : Nat) : Option Nat :=
  if f.linkLost then some 22
  else if f.sofFull ∨ f.overflow then some 11
  else if f.lateCodeError then some 12
  else if s.net.pathsClosed ∧ 1 ≤ path ∧ path ≤ 4 then some 13
  else if f.pathFull then some 21
  else none

/-- A frame a standby holds until an order-log entry names it (R358). -/
def State.hold (s : State) (p path : Nat) (head : List Byte) (f : EthFrame) : State :=
  { s with order := { s.order with held := s.order.held ++ [⟨path, f.length, crc32c f.payload, s.rxTai p, s.time.mono, head, f.payload⟩] } }

/-- A frame handed to its consumer: an input of the ALIGN or LANE path is logged by a primary and held by a standby
(R357, R358). -/
def State.handOver (s : State) (p : Nat) (f : EthFrame) (path cls : Nat) : State :=
  if path = 5 then s
  else
    let head := s.frameHead p f cls
    if path = 1 ∨ path = 2 then
      if s.get CW_STATUS_ROLE = 2 then s.hold p path head f
      else
        let t := s.trailerOf p f
        let held : HeldFrame := ⟨path, f.length, crc32c f.payload, s.rxTai p, s.time.mono, head, f.payload⟩
        let s := s.when s.orderOn fun s => { s with order := { s.order with frames := s.order.frames ++ [(s.order.next, held)] } }
        (s.emit (.deliver path head f.payload)).orderLog
          (.input path f.length held.crc (s.stampAt (s.rxTai p)) ((t.map (·.seq)).getD 0) p ((head.getD 17 0).toNat))
    else s.emit (.deliver path head f.payload)

/-- The writer-side level of a sluice as it now stands, within its depth (R83). -/
def State.setLevel (s : State) (sl words : Nat) : State :=
  let level := min words (sluiceDepth sl)
  (s.put (SL_STATUS_LEVEL sl) level).put (SL_LEVEL_MAX_MAX sl) (max level (s.get (SL_LEVEL_MAX_MAX sl)))

/-- Words of a frame in a sluice (R82): SOF, prefix, data, and the status word that ends it. -/
def frameWords (len : Nat) : Nat := 5 + (len + 7) / 8

/-- A frame through a sluice as SL_LEVEL_MAX shows it (R83, R85): the consumer starts once CT_THR words of it, or all, have arrived, so that
many have stood in the sluice above the level; once read they are gone (DEDUCED, log 171). -/
def State.crossFrame (s : State) (sl len : Nat) : State :=
  let ct := s.get (SL_CFG_CT_THR sl)
  let held := if ct = 0 then frameWords len else min ct (frameWords len)
  s.put (SL_LEVEL_MAX_MAX sl) (max (s.get (SL_LEVEL_MAX_MAX sl)) (min (s.get (SL_STATUS_LEVEL sl) + held) (sluiceDepth sl)))

/-- What a received frame leaves of the sluice's level (R84): one that fills the sluice takes the word kept free for its END_ABORT; one whose
SOF finds it full has found all others taken. -/
def State.rxLevel (s : State) (p : Nat) (f : EthFrame) : State :=
  let sl := s.rxSluice p
  if f.sofFull then s.setLevel sl (max (s.get (SL_STATUS_LEVEL sl)) (sluiceDepth sl - 1))
  else if f.overflow then s.setLevel sl (sluiceDepth sl)
  else s.crossFrame sl f.length

/-- The errors a received frame meets on its way into the fabric; WA1's also in the merge sluice while PRP is enabled. A frame whose SOF
found the sluice full has not crossed it. -/
def State.rxEcc (s : State) (p : Nat) (f : EthFrame) : State :=
  let s := s.rxLevel p f
  if f.sofFull then s
  else
    let s := s.when (s.rxSluice p != 2 * p) fun s => (s.crossFrame 8 f.length).sluiceEcc 8 f.mergeCorrected f.mergePoisoned
    s.sluiceEcc (s.rxSluice p) f.corrected f.poisoned

/-- The discard of a frame whose consumer has begun on it by cut-through (R16, R82, R85): CT_THR words, the SOF word and the 24 bytes of
prefix among them, had arrived. -/
def State.ctDiscard (s : State) (sl len : Nat) : State :=
  s.when (decide (0 < s.get (SL_CFG_CT_THR sl)) && decide (s.get (SL_CFG_CT_THR sl) ≤ 4 + (len + 7) / 8)) fun s => s.count (slDiscard sl)

/-- A frame that reached its path (R15, R68, R80, R82): counted good with its bytes, the silence timer restarted; a
poisoned one is discarded by the consumer, and counted by the sluice that delivered the mark. -/
def State.rxGood (s : State) (p : Nat) (f : EthFrame) (path cls : Nat) : State :=
  let merge := s.rxSluice p != 2 * p && f.mergePoisoned
  let s := s.count (npCnt p 0)
  let s := s.addBytes (NP_RX_BYTES_LO p) (NP_RX_BYTES_HI p) f.length
  let s := (s.setPort p fun q => { q with silentFrom := q.silentFrom.map fun _ => s.time.mono }).put (NP_STATUS_RX_SILENT p) 0
  if merge then s.count (slDiscard 8)
  else if f.poisoned then s.count (slDiscard (s.rxSluice p))
  else s.handOver p f path cls

/-- A frame received (R66 to R72, R84). DESIGN CHOICE (log 193): one that arrives while the sluices of its port are not ACTIVE is ignored
and counted nowhere; the rules do not say what becomes of it. DESIGN CHOICE (log 167): a frame that is lost after its classification has
entered the duplicate-discard table all the same; the rules do not say. DESIGN CHOICE (log 168): PRP_WRONG_LAN counts frames that pass steps
1 to 7; the rules name no step for it. -/
def State.rxFrame (s : State) (p : Nat) (f : EthFrame) : State :=
  if ¬ s.rxRuns p then s
  else
    match s.classify p f with
    | .pause =>
      match s.rxLoss f 0 with
      | some i => s.rxDrop p i
      | none => s.pauseRx p f.pauseQuanta
    | o =>
      let early := (s.checkFails p f).isSome || !s.dstOk p f.dst || !s.tagOk p f.tags
      let s' := s.when (!early && ((s.trailerOf p f).map fun t => t.lanB != (p == 1)).getD false) fun s => s.count (npCnt p 16)
      match o with
      | .drop 15 => s'.count (npCnt p 15)
      | .drop i =>
        let s' := match s.prpKey p f o with
          | some k => s'.ddAdd p k
          | none => s'
        let headed := s.dstOk p f.dst && s.tagOk p f.tags && (match s.route p f with
          | .path _ _ => true
          | _ => false)
        (s'.rxDrop p i).when ((s.checkFails p f).isSome && headed) fun t => (t.rxEcc p f).ctDiscard (t.rxSluice p) f.length
      | .pause => s'
      | .path a cls =>
        let s' := (match s.prpKey p f o with
          | some k => s'.ddAdd p k
          | none => s').rxEcc p f
        match s.rxLoss f a with
        | some i =>
          (s'.rxDrop p i).when (f.linkLost || (f.overflow && !f.sofFull) || f.lateCodeError) fun t => t.ctDiscard (t.rxSluice p) f.length
        | none => s'.rxGood p f a cls

/-- ETH_FRAME_RX. -/
def execEthFrameRx (p : Nat) (f : EthFrame) (s : State) : Host.Outcome State Fault Refusal :=
  onCore (.ethFrameRx p f) s fun s => s.rxFrame p f

/-- PRP_DD_EXPIRE (R66). -/
def execPrpDdExpire (s : State) : Host.Outcome State Fault Refusal :=
  onCore .prpDdExpire s fun s =>
    { s with net := { s.net with dd := s.net.dd.filter fun e => decide (s.time.mono < e.ends) } }

/-! ### Transmit queues -/

/-- The frames of one transmit queue. -/
def State.txq (s : State) (p q : Nat) : List TxFrame := Store.get (fun _ => []) (s.port p).queues q

/-- One transmit queue set. -/
def State.setTxq (s : State) (p q : Nat) (l : List TxFrame) : State :=
  s.setPort p fun r => { r with queues := Store.set (fun _ => []) r.queues q l }

/-- When a queue last became non-empty or sent a frame (R76). -/
def State.setSince (s : State) (p q : Nat) (t : Option Nat) : State :=
  s.setPort p fun r => { r with since := Store.set (fun _ => none) r.since q t }

/-- A frame offered to one queue (R74, R75): dropped and counted when the queue is full or the link is down. -/
def State.txOffer (s : State) (p q : Nat) (f : TxFrame) : State :=
  let l := s.txq p q
  let used := l.foldl (fun a g => a + g.length) 0
  if ¬ s.portRuns p ∨ ¬ (s.port p).physUp ∨ s.get (NP_TXQ_CFG_LIMIT p q) * 1024 < used + f.length then s.count (npCnt p (24 + q))
  else
    let s := s.when l.isEmpty fun s => s.setSince p q (some s.time.mono)
    s.setTxq p q (l ++ [f])

/-- A frame other than a PTP message sent by a port: while PRP is enabled it leaves by both WA ports with one sequence
number and a trailer (R65). -/
def State.txSend (s : State) (p q : Nat) (f : TxFrame) : State :=
  if s.flag NP_PRP_CFG_EN ∧ p < 2 then
    let f' := { f with length := f.length + 6, prpSeq := some s.net.prpSeq }
    let s := { s with net := { s.net with prpSeq := (s.net.prpSeq + 1) % 65536 } }
    (s.txOffer 0 q f').txOffer 1 q f'
  else s.txOffer p q f

/-- The frame on the wire has ended: it is counted in TX_GOOD with its bytes (03). -/
def State.txDone (s : State) (p : Nat) : State :=
  match (s.port p).sending with
  | some (_, f, e) =>
    if e ≤ s.time.mono then
      let s := s.setPort p fun r => { r with sending := none }
      (s.count (npCnt p 18)).addBytes (NP_TX_BYTES_LO p) (NP_TX_BYTES_HI p) f.length
    else s
  | none => s

/-- A PAUSE frame sent (R77): the next is due after half the announced time. -/
def State.pauseTx (s : State) (p quanta : Nat) : State :=
  let s := (s.emit (.pause p quanta)).count (npCnt p 19)
  s.setPort p fun r => { r with
    pausePending := none
    pauseRepeatAt := if quanta = 0 then none else some (s.time.mono + s.bitTime p (quanta * 512) / 2) }

/-- The queue served next: the highest that is not empty (R73). -/
def State.txNext (s : State) (p : Nat) : Option Nat := ([7, 6, 5, 4, 3, 2, 1, 0] : List Nat).find? fun q => !(s.txq p q).isEmpty

/-- A frame that meets an uncorrectable error in the transmit sluice does not leave: the MAC discards it (R15, R82). The queue has not
sent it, so its starvation timer runs on (R76). -/
def State.txPoison (s : State) (p q : Nat) : State :=
  let rest := (s.txq p q).drop 1
  ((s.setTxq p q rest).when rest.isEmpty fun s => s.setSince p q none).count (slDiscard (2 * p + 1))

/-- The head of a queue starts on the wire (R73). -/
def State.txFrom (s : State) (p q : Nat) : State :=
  match s.txq p q with
  | [] => s
  | f :: rest =>
    let tag := s.flag (NP_VLAN_TX_TAG p)
    let f := if tag then { f with length := f.length + 4 } else f
    let s := (s.setTxq p q rest).crossFrame (2 * p + 1) f.length
    let s := s.setSince p q (if rest.isEmpty then none else some s.time.mono)
    let s := s.setPort p fun r => { r with sending := some (q, f, s.time.mono + s.bitTime p ((f.length + 8) * 8)), starved := r.starved.filter (· != q) }
    s.emit (.frame p f (if tag then some (q * 8192 + s.get (NP_VLAN_VID p)) else none) (s.time.tai + (s.get (TB_PORT_TXLAT_LAT p) / 16)))

/-- At a frame boundary the next frame starts (R73, R77, R78): a PAUSE ahead of all queues; no queue while held. -/
def State.txStart (s : State) (p corrected : Nat) (poisoned : Bool) : State :=
  let s := s.txDone p
  let r := s.port p
  if ¬ s.txRuns p ∨ ¬ r.physUp ∨ r.sending.isSome then s
  else
    match r.pausePending with
    | some quanta => s.pauseTx p quanta
    | none =>
      if s.flag (NP_STATUS_PAUSED p) then s
      else
        match s.txNext p with
        | some q =>
          let s := s.sluiceEcc (2 * p + 1) corrected poisoned
          if poisoned then s.txPoison p q else s.txFrom p q
        | none => s

/-- TX_FRAME_START. -/
def execTxBegin (p corrected : Nat) (poisoned : Bool) (s : State) : Host.Outcome State Fault Refusal :=
  onCore (.txBegin p corrected poisoned) s fun s => s.txStart p corrected poisoned

/-- The announced pause time has expired (R78). -/
def State.pauseEnd (s : State) (p : Nat) : State :=
  match (s.port p).pausedUntil with
  | some t => if t ≤ s.time.mono then (s.setPort p fun r => { r with pausedUntil := none }).put (NP_STATUS_PAUSED p) 0 else s
  | none => s

/-- PAUSE_HOLD_END. -/
def execPauseHoldEnd (p : Nat) (s : State) : Host.Outcome State Fault Refusal :=
  onCore (.pauseHoldEnd p) s fun s => s.pauseEnd p

/-- The supervision frame of R65, to the supervision address, sent on queue 6 each LIFE_CHECK × 100 ms. -/
def State.supervise (s : State) : State :=
  if s.flag NP_PRP_CFG_EN ∧ s.net.supervisionAt ≤ s.time.mono then
    State.txSend { s with net := { s.net with supervisionAt := s.net.supervisionAt + s.get NP_PRP_CFG_LIFE_CHECK * 100000000 } } 0 6
      { kind := .supervision, length := 64, payload := beBytes 6 s.supAddr }
  else s

/-- PRP_SUPERVISION_TX. -/
def execPrpSupervisionTx (s : State) : Host.Outcome State Fault Refusal := onCore .prpSupervisionTx s State.supervise

/-- A queue that has stayed non-empty for STARVE ms without sending is reported once (R76). -/
def State.txStarve (s : State) (p q : Nat) : State :=
  match Store.get (fun _ => none) (s.port p).since q with
  | some t =>
    if s.get (NP_TXQ_CFG_STARVE p q) ≠ 0 ∧ t + s.get (NP_TXQ_CFG_STARVE p q) * 1000000 ≤ s.time.mono ∧ ¬ (s.port p).starved.contains q then
      (s.setPort p fun r => { r with starved := r.starved ++ [q] }).raise EV_NP_TXQ_STARVE sevWarning (p * 8 + q) p q
    else s
  | none => s

/-- TXQ_STARVE. -/
def execTxqStarve (p q : Nat) (s : State) : Host.Outcome State Fault Refusal :=
  onCore (.txqStarve p q) s fun s => s.txStarve p q

/-! ### Flow control -/

/-- The sluice level reaches HIGH_WM: a PAUSE is due and PAUSING set (R77). -/
def State.pauseHigh (s : State) (p level : Nat) : State :=
  let sl := s.rxSluice p
  let s := s.setLevel sl level
  if s.portRuns p ∧ s.flag (NP_CFG_PAUSE_TX p) ∧ ¬ s.flag (NP_STATUS_PAUSING p) ∧ s.get (NP_PAUSE_CFG_HIGH_WM p) * sluiceDepth sl ≤ level * 16 then
    (s.setPort p fun r => { r with pausePending := some (s.get (NP_PAUSE_CFG_QUANTA p)) }).put (NP_STATUS_PAUSING p) 1
  else s

/-- PAUSE_HIGH_WM. -/
def execPauseHighWm (p level : Nat) (s : State) : Host.Outcome State Fault Refusal :=
  onCore (.pauseHighWm p level) s fun s => s.pauseHigh p level

/-- Half the announced time has elapsed above LOW_WM: the PAUSE is repeated (R77). -/
def State.pauseAgain (s : State) (p : Nat) : State :=
  match (s.port p).pauseRepeatAt with
  | some t =>
    if s.flag (NP_STATUS_PAUSING p) ∧ t ≤ s.time.mono then
      s.setPort p fun r => { r with pausePending := some (s.get (NP_PAUSE_CFG_QUANTA p)), pauseRepeatAt := none }
    else s
  | none => s

/-- PAUSE_REPEAT. -/
def execPauseRepeat (p : Nat) (s : State) : Host.Outcome State Fault Refusal :=
  onCore (.pauseRepeat p) s fun s => s.pauseAgain p

/-- The level falls to LOW_WM or below: a PAUSE with quanta 0, and PAUSING clears (R77). -/
def State.pauseLow (s : State) (p level : Nat) : State :=
  let sl := s.rxSluice p
  let s := s.setLevel sl level
  if s.flag (NP_STATUS_PAUSING p) ∧ level * 16 ≤ s.get (NP_PAUSE_CFG_LOW_WM p) * sluiceDepth sl then
    (s.setPort p fun r => { r with pausePending := some 0, pauseRepeatAt := none }).put (NP_STATUS_PAUSING p) 0
  else s

/-- PAUSE_LOW_WM. -/
def execPauseLowWm (p level : Nat) (s : State) : Host.Outcome State Fault Refusal :=
  onCore (.pauseLowWm p level) s fun s => s.pauseLow p level

/-! ### Link supervision -/

/-- The frame on the wire is cut and every queue emptied, each discarded frame counted in TXQ_DROP of its queue (R75). -/
def State.txFlush (s : State) (p : Nat) : State :=
  let s := s.txDone p
  let s := match (s.port p).sending with
    | some (q, _, _) => ((s.emit (.frameCut p)).count (npCnt p (24 + q))).setPort p fun r => { r with sending := none }
    | none => s
  s.forEach 8 fun q s => ((s.countN (npCnt p (24 + q)) (s.txq p q).length).setTxq p q []).setSince p q none

/-- The physical link drops (R75, R79). DESIGN CHOICE (log 196): it ends the hold of a received PAUSE and the PAUSE in progress; no rule says
so. -/
def State.physLoss (s : State) (p : Nat) : State :=
  if (s.port p).physUp then
    (s.txFlush p).setPort p fun r =>
      { r with physUp := false, controlWord := false, changedAt := s.time.mono, pausePending := none, pauseRepeatAt := none, pausedUntil := none }
  else s

/-- PHY_LINK_LOSS. -/
def execPhyLinkLoss (p : Nat) (s : State) : Host.Outcome State Fault Refusal :=
  onCore (.phyLinkLoss p) s fun s => ((s.physLoss p).put (NP_STATUS_PAUSED p) 0).put (NP_STATUS_PAUSING p) 0

/-- The physical link comes up (R63, R79): the hold starts, and the queues accept frames again. -/
def State.physUp (s : State) (p : Nat) (controlWord : Bool) (speed : Nat) : State :=
  if ¬ s.portRuns p then s
  else
    let r := s.port p
    let s := s.setPort p fun q => { q with
      physUp := true
      controlWord := controlWord || (r.physUp && r.controlWord)
      speed := if controlWord then speed % 4 else r.speed
      changedAt := if r.physUp then r.changedAt else s.time.mono }
    if s.flag (NP_STATUS_LINK p) then s.put (NP_STATUS_SPEED p) (s.speedCode p) else s

/-- PHY_LINK_UP. -/
def execPhyLinkUp (p : Nat) (controlWord : Bool) (speed : Nat) (s : State) : Host.Outcome State Fault Refusal :=
  onCore (.phyLinkUp p controlWord speed) s fun s => s.physUp p controlWord speed

/-- The change has persisted for LINK_HOLD ms (R79). -/
def State.linkHeld (s : State) (p : Nat) : Bool :=
  decide ((s.port p).changedAt + s.get (NP_LINK_CFG_LINK_HOLD p) * 1000000 ≤ s.time.mono)

/-- A link-down reported (R79, R80). -/
def State.reportDown (s : State) (p : Nat) : State :=
  if s.flag (NP_STATUS_LINK p) ∧ ¬ (s.port p).physUp ∧ s.linkHeld p then
    let sev := if p < 2 ∧ s.flag NP_PRP_CFG_EN ∧ s.flag (NP_STATUS_LINK (1 - p)) then sevWarning else sevMajor
    let s := (((s.put (NP_STATUS_LINK p) 0).put (NP_STATUS_SPEED p) 0).put (NP_STATUS_AN_DONE p) 0).put (NP_STATUS_RX_SILENT p) 0
    let s := s.setPort p fun r => { r with silentFrom := none }
    (s.count (npCnt p 20)).raise EV_NP_LINK_DOWN sev p p
  else s

/-- LINK_DOWN_REPORT. -/
def execLinkDownReport (p : Nat) (s : State) : Host.Outcome State Fault Refusal :=
  onCore (.linkDownReport p) s fun s => s.reportDown p

/-- NP_STATUS of a port whose link is up (R63, 03): the speed it runs at, and whether auto-negotiation has set it. -/
def State.showSpeed (s : State) (p : Nat) : State :=
  (s.put (NP_STATUS_SPEED p) (s.speedCode p)).put (NP_STATUS_AN_DONE p) (bit (s.flag (NP_CFG_AN_EN p) && s.get (NP_CFG_MODE p) != 0))

/-- A link-up reported (R63, R79, R80); SGMII with auto-negotiation first needs a control word showing link up. -/
def State.reportUp (s : State) (p : Nat) : State :=
  if ¬ s.flag (NP_STATUS_LINK p) ∧ (s.port p).physUp ∧ s.linkHeld p ∧
      (s.get (NP_CFG_MODE p) ≠ 2 ∨ ¬ s.flag (NP_CFG_AN_EN p) ∨ (s.port p).controlWord) then
    let s := (s.put (NP_STATUS_LINK p) 1).showSpeed p
    let s := s.setPort p fun r => { r with silentFrom := some s.time.mono }
    s.raise EV_NP_LINK_UP sevNotice p p
  else s

/-- LINK_UP_REPORT. -/
def execLinkUpReport (p : Nat) (s : State) : Host.Outcome State Fault Refusal :=
  onCore (.linkUpReport p) s fun s => s.reportUp p

/-- No good frame for RX_SILENCE ms on a link that is up (R80). -/
def State.rxSilence (s : State) (p : Nat) : State :=
  match (s.port p).silentFrom with
  | some t =>
    if s.get (NP_LINK_CFG_RX_SILENCE p) ≠ 0 ∧ t + s.get (NP_LINK_CFG_RX_SILENCE p) * 1000000 ≤ s.time.mono ∧ ¬ s.flag (NP_STATUS_RX_SILENT p) then
      (s.put (NP_STATUS_RX_SILENT p) 1).raise EV_NP_RX_SILENT sevWarning p p
    else s
  | none => s

/-- RX_SILENCE_EXPIRE. -/
def execRxSilenceExpire (p : Nat) (s : State) : Host.Outcome State Fault Refusal :=
  onCore (.rxSilenceExpire p) s fun s => s.rxSilence p

/-- The drops of one second judged against THR (R81). DESIGN CHOICE (log 169): the first second begins when the port is enabled and each
further one at the check that ends the one before; the rule does not say where they begin. -/
def State.badRate (s : State) (p : Nat) : State :=
  let r := s.port p
  if r.dropAt + 1000000000 ≤ s.time.mono then
    let n := r.drops - r.dropBase
    let s := s.setPort p fun r => { r with dropBase := r.drops, dropAt := s.time.mono }
    if s.get (NP_BAD_THR_THR p) ≠ 0 ∧ s.get (NP_BAD_THR_THR p) ≤ n then s.raise EV_NP_RX_BAD_RATE sevWarning p p n else s
  else s

/-- RX_BAD_RATE_CHECK. -/
def execRxBadRateCheck (p : Nat) (s : State) : Host.Outcome State Fault Refusal :=
  onCore (.rxBadRateCheck p) s fun s => s.badRate p

/-! ### Sluices -/

/-- A sluice put in service or out of it (R86, R89). -/
def State.sluiceActive (s : State) (i : Nat) (on : Bool) : State :=
  if on ∧ s.flag (SL_STATUS_STOPPED i) then s
  else (s.put (SL_STATUS_ACTIVE i) (bit on)).put (SL_STATUS_SAME_CLK_ACTIVE i)
    (bit (on && sluiceShared i && (s.flag (SL_CFG_SAME_CLK i) || s.flag (SL_STATUS_FALLBACK i))))

/-- Both sides of a port's sluice run (R89): the port is enabled; for the merge sluice both WA ports are, under PRP. -/
def State.sluiceSides (s : State) (i : Nat) : Bool :=
  if i = 8 then s.flag NP_PRP_CFG_EN && s.flag (NP_CFG_EN 0) && s.flag (NP_CFG_EN 1) else decide (i < 8) && s.flag (NP_CFG_EN (i / 2))

/-- A failed synchroniser test (R17, R87): on shared clocks a fall-back to same-clock mode, with the sluice in service; else the sluice
stops and takes its port or converter with it. -/
def State.sluiceFail (s : State) (i : Nat) : State :=
  if sluiceShared i then
    ((s.put (SL_STATUS_FALLBACK i) 1).sluiceActive i true).raise EV_SL_SYNC_FALLBACK sevWarning i i
  else
    let s := (s.put (SL_STATUS_STOPPED i) 1).put (SL_STATUS_ACTIVE i) 0
    let s := s.when (decide (11 ≤ i) && decide (i ≤ 18)) fun s => s.put ⟨AF_STATUS, i + 5, i + 5⟩ 0
    (s.when (decide (i < 8)) fun s => s.physLoss (i / 2)).raise EV_SL_SYNC_FAIL sevMajor i i

/-- A sluice's self-test (R17, R86, R87, R89): the one at its start puts the sluice of an enabled port in service; those that follow, each
second while TEST_EN is 1, matter where they fail. -/
def State.sluiceTest (s : State) (i : Nat) (pass : Bool) : State :=
  if s.flag (SL_STATUS_STOPPED i) then s
  else if s.flag (SL_STATUS_ACTIVE i) then (if s.flag (SL_CFG_TEST_EN i) ∧ ¬ pass then s.sluiceFail i else s)
  else if s.sluiceSides i then (if pass then s.sluiceActive i true else s.sluiceFail i)
  else s

/-- SLUICE_SELFTEST. -/
def execSluiceSelftest (i : Nat) (pass : Bool) (s : State) : Host.Outcome State Fault Refusal :=
  onCore (.sluiceSelftest i pass) s fun s => s.sluiceTest i pass

/-! ### Register writes -/

/-- The sum of a port's queue limits with one of them changed (R74). -/
def State.limitSum (s : State) (p q v : Nat) : Nat :=
  (List.range 8).foldl (fun a i => a + if i = q then v else s.get (NP_TXQ_CFG_LIMIT p i)) 0

/-- Why a write to an NP or SL register is refused, if it is (R64, R65, R70, R74, R85, R86, 03). DESIGN CHOICE (log 194): a write of NP_CFG
that makes the modes of WA0 and WA1 differ while NP_PRP_CFG.EN is 1 is accepted; the rule names the refusal of EN = 1 alone. -/
def netGuard (s : State) (base : Nat) (ix : List Nat) (w : Word) : Option Nat :=
  match base, ix with
  | 0x40000, [p] =>
    let m := w.field 9 8
    if ¬ ((p < 2 ∧ m ≤ 1) ∨ (p = 2 ∧ m = 0) ∨ (p = 3 ∧ m = 2)) then some reasonRange
    else if s.flag (NP_CFG_EN p) ∧ m ≠ s.get (NP_CFG_MODE p) then some reasonState else none
  | 0x4000c, [_] => if w.field 8 8 = 1 then some reasonRange else none
  | 0x40018, [_] =>
    if (w.field 12 12 = 1 ∨ w.field 14 14 = 1) ∧ (w.field 11 0 = 0 ∨ w.field 11 0 = 4095) then some reasonRange else none
  | 0x4001c, [_] => if w.field 11 8 ≤ w.field 3 0 then some reasonRange else none
  | 0x40030, _ =>
    if s.flag (NP_CFG_EN 0) ∨ s.flag (NP_CFG_EN 1) then some reasonState
    else if w.field 0 0 = 1 ∧ s.get (NP_CFG_MODE 0) ≠ s.get (NP_CFG_MODE 1) then some reasonState else none
  | 0x40104, [p, k] =>
    if s.flag (NP_CLASS_MATCH_EN p k) then some reasonState
    else if w.field 31 16 < w.field 15 0 then some reasonRange else none
  | 0x40108, [p, k] =>
    if s.flag (NP_CLASS_MATCH_EN p k) then some reasonState
    else if w.field 2 0 = 1 ∧ 2 ≤ p then some reasonRange else none
  | 0x40200, [p, q] => if 256 < s.limitSum p q (w.field 6 0) then some reasonRange else none
  | 0x50000, [i] =>
    if w.field 15 8 ≠ 0 ∧ ¬ sluiceCutThrough i then some reasonRange
    else if w.field 1 1 = 1 ∧ ¬ sluiceShared i then some reasonRange
    else if w.field 1 1 = 0 ∧ s.flag (SL_STATUS_FALLBACK i) then some reasonState else none
  | _, _ => none

/-- What an accepted write to an NP or SL register does beside storing its fields (R65, R89, 03). DESIGN CHOICE (log 195): clearing PAUSE_TX
clears PAUSING and drops a PAUSE that is due, without one of quanta 0; the rule does not say. -/
def netEffect (base : Nat) (ix : List Nat) (old w : Word) (s : State) : State :=
  match base, ix with
  | 0x40000, [p] =>
    let s := s.when (w.field 10 10 == 0) fun s =>
      (s.setPort p fun r => { r with pausePending := none, pauseRepeatAt := none }).put (NP_STATUS_PAUSING p) 0
    if old.field 0 0 = 0 ∧ w.field 0 0 = 1 then s.setPort p fun r => { r with dropAt := s.time.mono, dropBase := r.drops }
    else if old.field 0 0 = 1 ∧ w.field 0 0 = 0 then
      let s := s.physLoss p
      let s := ((s.sluiceActive (2 * p) false).sluiceActive (2 * p + 1) false).when (decide (p < 2)) fun s => s.sluiceActive 8 false
      (s.put (NP_STATUS_PAUSED p) 0).put (NP_STATUS_PAUSING p) 0
    else s.when (s.flag (NP_STATUS_LINK p)) fun s => s.showSpeed p
  | 0x4000c, [p] => s.setPort p fun r => { r with macActive := some (w.field 15 0 * 2 ^ 32 + s.word (NP_MAC_LO p)) }
  | 0x40030, _ =>
    if old.field 0 0 = 0 ∧ w.field 0 0 = 1 then
      { s with net := { s.net with supervisionAt := s.time.mono + w.field 11 4 * 100000000 } }
    else s
  | 0x50014, [i] => s.put (SL_LEVEL_MAX_MAX i) (s.get (SL_STATUS_LEVEL i))
  | 0x50000, [i] => s.sluiceActive i (s.flag (SL_STATUS_ACTIVE i))
  | _, _ => s

end Sys2Proof.Machine
end

