-- ==== Sys2Proof/Machine/Analogue.lean ====
section
/-!
DEFINITION. Analogue front end and filter chains (05, R115 to R139), the level comparators that follow them (R269), and the mains
input of a trim measurement (R61).
-/

namespace Sys2Proof.Machine

/-- A converter's hidden state. -/
def State.conv (s : State) (c : Nat) : Converter := Store.get (fun _ => {}) s.afe.convs c

/-- A converter's hidden state changed. -/
def State.setConv (s : State) (c : Nat) (f : Converter → Converter) : State :=
  { s with afe := { s.afe with convs := Store.set (fun _ => {}) s.afe.convs c (f (s.conv c)) } }

/-- A chain's hidden state. -/
def State.chain (s : State) (n : Nat) : Chain := Store.get (fun _ => {}) s.afe.chains n

/-- A chain's hidden state changed. -/
def State.setChain (s : State) (n : Nat) (f : Chain → Chain) : State :=
  { s with afe := { s.afe with chains := Store.set (fun _ => {}) s.afe.chains n (f (s.chain n)) } }

/-- The counters of the front end and of a chain (05). -/
def afDrop (c : Nat) : Cnt := ⟨AF_INJ_DROP c, AF_CNT_SAT_SAT_DROP c, EV_AF_CNT_SAT, c, c⟩
@[inherit_doc afDrop] def afOvf (c : Nat) : Cnt := ⟨AF_OVF c, AF_CNT_SAT_SAT_OVF c, EV_AF_CNT_SAT, c, c⟩
@[inherit_doc afDrop] def afOvr (i : Nat) : Cnt := ⟨AF_OVR_CNT i, ⟨AF_OVR_SAT (i / 32), i % 32, i % 32⟩, EV_AF_CNT_SAT, i / 8, i⟩
@[inherit_doc afDrop] def fcCnt (n i : Nat) : Cnt := ⟨FC_CNT n i, ⟨FC_STAT n, 16 + i, 16 + i⟩, EV_FC_CNT_SAT, n, n⟩

/-- RUNNING of a converter. -/
def afRunning (c : Nat) : Fld := ⟨AF_STATUS, 16 + c, 16 + c⟩

/-! ### Presets (R129) -/

/-- Output rate in S/s, decimations R and D, taps T, and group delay in ns of a preset. -/
structure Preset where
  rate : Nat
  r : Nat
  logR : Nat
  taps : Nat
  d : Nat
  delay : Nat
deriving DecidableEq, Repr

/-- The table of R129. -/
def presetOf (p : Nat) : Preset :=
  if p = 0 then ⟨64000, 2, 1, 32, 2, 130859⟩
  else if p = 1 then ⟨16000, 8, 3, 64, 2, 1052734⟩
  else if p = 2 then ⟨4000, 32, 5, 96, 2, 6240234⟩
  else ⟨1000, 64, 6, 128, 4, 16490234⟩

/-- Input samples one output depends on. -/
def Preset.window (p : Preset) : Nat := 5 * (p.r - 1) + 1 + p.r * (p.taps - 1)

/-- The settle count K of R132. -/
def Preset.settle (p : Preset) : Nat := 3 + p.taps / 2

/-- The frame a TAI instant lies in, and the instant of a frame: 256,000 frames a second (R119). -/
def frameOf (tai : Nat) : Nat := tai * 256 / 1000000
@[inherit_doc frameOf] def frameInstant (f : Nat) : Nat := f * 1000000 / 256

/-! ### Chain outputs -/

/-- The gain a GAIN code stands for. -/
def gainOf (g : Nat) : Nat := 2 ^ g

/-- The FIR of a bank over a line, rounded, then scaled by 2⁶ / gain (R128). DEDUCED (log 25): in that order, as written. -/
def State.firValue (s : State) (n b : Nat) (line : List Int) : Int :=
  let sum := ((List.range line.length).zip line).foldl (fun (a : Int) (tx : Nat × Int) => a + s.coef n b tx.1 * tx.2) 0
  roundEven ((sum : Rat) / ((2 ^ 23 : Nat) : Rat)) * (64 / gainOf (s.chain n).gain : Nat)

/-- A value saturated to 24 bits, and whether it was. -/
def sat24 (v : Int) : Int × Bool :=
  if 8388607 < v then (8388607, true) else if v < -8388608 then (-8388608, true) else (v, false)

/-- A requested swap takes effect at this output boundary (R134): at once with k = 0, else a fade begins. DESIGN CHOICE (log 201): the
boundary is the production of an output, so that a SWAP written between its hold instant and its production acts on it. -/
def State.swapNow (s : State) (n : Nat) : State :=
  let c := s.chain n
  if ¬ c.swap ∨ c.fade.isSome then s
  else
    let k := s.get (FC_CFG_FADE_K n)
    let b := 1 - s.get (FC_STAT_ACTIVE_BANK n)
    let s := (s.setChain n fun c => { c with swap := false }).put (FC_STAT_SWAP_PENDING n) 0
    if k = 0 then s.put (FC_STAT_ACTIVE_BANK n) b
    else (s.setChain n fun c => { c with fade := some (k, 0, b) }).put (FC_STAT_FADING n) 1

/-- The value at this output, the bank shown, and whether FADE is set (R134). The weighted value is rounded to nearest, ties to
even (log 22). -/
def State.fadeValue (s : State) (n : Nat) (line : List Int) : Int × Nat × Bool :=
  let act := s.get (FC_STAT_ACTIVE_BANK n)
  match (s.chain n).fade with
  | some (k, j, b) =>
    let old := s.firValue n act line
    let new := s.firValue n b line
    (roundEven ((old : Rat) + ((((j + 1 : Nat) : Int) * (new - old) : Int) : Rat) / ((2 ^ k : Nat) : Rat)), b, decide (j + 1 < 2 ^ k))
  | none => (s.firValue n act line, act, false)

/-- The fade advanced past an output; it ends with output 2ᵏ, and a pending swap then waits for the next boundary (R134, R135). -/
def State.fadeStep (s : State) (n : Nat) : State :=
  match (s.chain n).fade with
  | some (k, j, b) =>
    if j + 1 < 2 ^ k then s.setChain n fun c => { c with fade := some (k, j + 1, b) }
    else
      let s := (s.put (FC_STAT_ACTIVE_BANK n) b).put (FC_STAT_FADING n) 0
      s.setChain n fun c => { c with fade := none, swap := s.flag (FC_STAT_SWAP_PENDING n) }
  | none => s

/-- The level comparators that follow a chain (R269). -/
def State.levels (s : State) (n : Nat) (value : Int) (rep : Stamp) : State :=
  let one (i : Nat) : List (Nat × Bool) :=
    if ¬ s.flag (CP_LEVEL_CFG_EN i) ∨ s.get (CP_LEVEL_CFG_CHAIN i) ≠ n then []
    else
      let v : Int := if s.flag (CP_LEVEL_CFG_ABS i) then value.natAbs else value
      if s.getS (CP_LEVEL_HI_LEVEL i) < v then [(448 + i, true)] else if v < s.getS (CP_LEVEL_LO_LEVEL i) then [(448 + i, false)] else []
  s.setConds ((List.range 16).flatMap one) rep

/-- Comparators whose selector or chain is off read 0 (R268, R269). -/
def State.levelsOff (s : State) : State :=
  s.setConds (((List.range 16).filter fun i => !s.flag (CP_LEVEL_CFG_EN i) || !s.flag (FC_CFG_EN (s.get (CP_LEVEL_CFG_CHAIN i)))).map
    fun i => (448 + i, false)) s.now

/-- The oldest output due is past its deadline, its newest input's hold instant plus 40 µs, which no time step moves (R37, R48, R137). -/
def State.chainLate (s : State) (n : Nat) : State :=
  match (s.chain n).due with
  | [] => s
  | d :: rest =>
    if d.late ∨ s.time.mono ≤ d.held + 40000 then s
    else
      let s := s.setChain n fun c => { c with due := { d with late := true } :: rest }
      ((s.count (fcCnt n 1)).raise EV_FC_DEADLINE sevMajor n n).deviceMiss 0

/-- CHAIN_DEADLINE_MISS. -/
def execChainDeadlineMiss (n : Nat) (s : State) : Host.Outcome State Fault Refusal :=
  onEngines (.chainDeadlineMiss n) s fun s => s.chainLate n

/-- An output word (R131). -/
def outputWord (value : Int) (flags : Nat) : Word := BitVec.ofNat 32 (codeOf 24 value + flags * 2 ^ 24)

/-- What the phasor engines know of a chain. -/
def State.chainView (s : State) (n : Nat) : ChainView := Store.get (fun _ => {}) s.phasor.chains n
@[inherit_doc State.chainView] def State.setChainView (s : State) (n : Nat) (f : ChainView → ChainView) : State :=
  { s with phasor := { s.phasor with chains := Store.set (fun _ => {}) s.phasor.chains n (f (s.chainView n)) } }

/-- A chain output kept for the windows that may reach it (R145). -/
def State.keepOutput (s : State) (n rep : Nat) (w : Word) : State :=
  s.setChainView n fun v => { v with outputs := ((rep, w) :: v.outputs).filter fun q => decide (rep < q.1 + 2000000000) }

/-- The oldest output due is produced (R127, R130 to R134): after a backward step, none at or before the last represented instant, be
that one produced before the step or after it. A standby's comparators
take the CHAIN entries instead (R358). -/
def State.chainOutput (s : State) (n : Nat) : State :=
  let s := s.chainLate n
  match (s.chain n).due with
  | [] => s
  | d :: rest =>
    let s := (s.setChain n fun c => { c with due := rest }).deviceMet 0 d.late
    let hold := frameInstant d.frame
    let rep := hold - s.get (FC_DELAY_DELAY n)
    if ((s.chain n).noRepeat.map fun t => decide (rep ≤ t)).getD false then s
    else
      let s := s.swapNow n
      let (raw, bank, fading) := s.fadeValue n d.line
      let (v, clip) := sat24 raw
      let left := s.get (FC_STAT_SETTLE_LEFT n)
      let invalid := d.lost || s.flag AF_STATUS_TRIM_BAD
      let flags := bit d.ovr + 2 * bit (decide (0 < left)) + 4 * bit invalid + 8 * bit d.late + 16 * bank + 32 * bit fading + 64 * bit clip
      let w := outputWord v flags
      let s := ((s.put (FC_STAT_SETTLE_LEFT n) (left - 1)).setReg (FC_LAST n) w).fadeStep n
      let s := s.setChain n fun c => { c with lastRep := some rep, noRepeat := c.noRepeat.map fun _ => rep }
      let s := (s.when invalid fun s => s.count (fcCnt n 2)).when d.ovr fun s => s.count (fcCnt n 3)
      if s.get CW_STATUS_ROLE = 2 then s else ((s.orderLog (.chain n (s.stampAt hold) [w])).keepOutput n rep w).levels n v (s.stampAt rep)

/-- CHAIN_OUTPUT. -/
def execChainOutput (n : Nat) (s : State) : Host.Outcome State Fault Refusal :=
  onEngines (.chainOutput n) s fun s => s.chainOutput n

/-! ### Clearing a chain (R132, R136) -/

/-- A fade in progress ends at once: the bank faded to becomes active and a pending request is discarded (R136). DESIGN CHOICE (log 202): a
request that still waits for its boundary with no fade running is such a request. -/
def State.endFade (s : State) (n : Nat) : State :=
  let s := match (s.chain n).fade with
    | some (_, _, b) => s.put (FC_STAT_ACTIVE_BANK n) b
    | none => s
  let s := s.setChain n fun c => { c with fade := none, swap := false }
  (s.put (FC_STAT_FADING n) 0).put (FC_STAT_SWAP_PENDING n) 0

/-- The filters of a chain cleared and its settle count restarted, with `extra` outputs more. -/
def State.chainZero (s : State) (n extra : Nat) : State :=
  let s := s.setChain n fun c => { c with
    integ := [0, 0, 0, 0, 0]
    comb := [0, 0, 0, 0, 0]
    fir := []
    count := 0
    ovrAt := none
    lostAt := none }
  s.put (FC_STAT_SETTLE_LEFT n) ((presetOf (s.chain n).preset).settle + extra)

/-- The chain's state cleared; a fade ends at once and a request is discarded (R136). -/
def State.chainClear (s : State) (n extra : Nat) : State := (s.endFade n).chainZero n extra

/-- Both banks take the factory coefficients of a preset (R133). -/
def State.loadFactory (s : State) (n p : Nat) : State :=
  let s := s.setChain n fun c => { c with coefPreset := p }
  { s with afe := { s.afe with coefs := Store.drop (fun k => k / 256 == n) s.afe.coefs } }

/-- The outputs due are produced. -/
def State.chainFlush (s : State) (n : Nat) : State := (s.chain n).due.foldl (fun s _ => s.chainOutput n) s

/-- PRESET and GAIN changes of a chain that wait for a frame instant (R132, R133, R130): `entered` says that its input has just
entered the regular sequence. Outputs held before the change are produced before it, with the filter they were held under (DESIGN
CHOICE, log 204: no rule says when within its 40 µs an output is produced). -/
def State.chainApply (s : State) (n : Nat) (entered : Bool) : State :=
  let c := s.chain n
  let p := s.get (FC_CFG_PRESET n)
  let g := s.get (AF_IN_CFG_GAIN n)
  if c.preset = p ∧ c.gain = g ∧ ¬ entered then s
  else
    let s := s.chainFlush n
    let s := s.endFade n
    let s := s.setChain n fun c => { c with preset := p, gain := g }
    let s := if c.preset = p then s
      else
        let s := s.setWord (FC_DELAY n) (presetOf p).delay
        if s.flag (FC_CFG_KEEP_COEF n) then s else (s.loadFactory n p).put (FC_STAT_ACTIVE_BANK n) 0
    s.chainClear n (if c.gain = g then 0 else 1)

/-! ### Frames and conversions -/

/-- The first edge of the 65.536 MHz converter clock at or after an instant (R121), counted from TAI 0, and the instant of an edge;
a frame is 256 edges. -/
def clockEdge (t : Nat) : Nat := (t * 65536 + 999999) / 1000000
@[inherit_doc clockEdge] def edgeInstant (e : Nat) : Nat := e * 1000000 / 65536

/-- Input numbers a list register names: `n` of them, three bits each from bit `lo`. -/
def inputList (w lo n : Nat) : List Nat := (List.range n).map fun k => w / 2 ^ (lo + 3 * k) % 8

/-- The regular and injected lists of the registers (R120). -/
def State.regList (s : State) (c : Nat) : List Nat := inputList (s.word (AF_SEQ c)) 0 (s.get (AF_SEQ_L c))
@[inherit_doc State.regList] def State.injList (s : State) (c : Nat) : List Nat := inputList (s.word (AF_INJ_CFG c)) 4 (s.get (AF_INJ_CFG_J c))

/-- The converter takes its next conversion: a held injected sequence first, then the regular sequence (R122, R124). An
injected sequence counts as running until both are through (R123). -/
def State.nextConversion (s : State) (c : Nat) : State :=
  s.setConv c fun v =>
    match v.cur, v.injWork, v.work with
    | some _, _, _ => v
    | none, i :: rest, _ => { v with cur := some (i, true), injWork := rest }
    | none, [], i :: rest => { v with cur := some (i, false), work := rest }
    | none, [], [] => { v with injOn := false }

/-- A frame instant (R119, R120, R132): pending lists and chain changes take effect, and the inputs of the regular sequence are
held. -/
def State.frameStart (s : State) (c f : Nat) : State :=
  let v := s.conv c
  if ¬ s.flag (afRunning c) ∨ f ≤ v.notBefore then s
  else
    let seq := s.regList c
    let inj := s.injList c
    let s := s.setConv c fun v => { v with
      frame := f, held := s.time.mono - (s.time.tai - frameInstant f), notBefore := f, restart := false, seq, inj, work := v.work ++ seq }
    let s := s.forEach 8 fun i s =>
      s.chainApply (8 * c + i) ((seq.contains i && !v.seq.contains i) || (v.restart && s.flag (FC_CFG_EN (8 * c + i))))
    s.nextConversion c

/-- CONVERTER_FRAME. -/
def execConverterFrame (c : Nat) (s : State) : Host.Outcome State Fault Refusal :=
  onEngines (.converterFrame c) s fun s => s.frameStart c (frameOf s.time.tai)

/-- An injected trigger with the clock edge it is accepted at (R121 to R123): a frame that starts at or before that edge comes first; a
trigger is dropped while a sequence is running, and a sequence of no inputs captures nothing. DESIGN CHOICE (log 199): so is one that
comes while an accepted sequence still waits for its first conversion. -/
def State.injTrigger (s : State) (c edge : Nat) : State :=
  let s := s.frameStart c (edge / 256)
  let v := s.conv c
  if ¬ s.flag (afRunning c) ∨ v.inj = [] then s
  else if v.injOn then s.count (afDrop c)
  else (s.setConv c fun v => { v with injOn := true, injWork := v.inj, injBad := false, injHold := s.stampAt (edgeInstant edge), injFrame := edge / 256, injWords := [] }).nextConversion c

/-- The periodic trigger (R121): at whole second + m · PERIOD µs. -/
def State.injTimer (s : State) (c : Nat) : State :=
  let sec := s.time.tai / 1000000000 * 1000000000
  let per := max 1 (s.get (AF_INJ_PER_PERIOD c)) * 1000
  let t := sec + (s.time.tai - sec) / per * per
  if s.get (AF_INJ_CFG_SRC c) ≠ 1 ∨ t ≤ (s.conv c).injLast then s
  else (s.setConv c fun v => { v with injLast := t }).injTrigger c (clockEdge t)

/-- INJ_TIMER_TRIGGER. -/
def execInjTimerTrigger (c : Nat) (s : State) : Host.Outcome State Fault Refusal :=
  onEngines (.injTimerTrigger c) s fun s => s.injTimer c

/-- A pulse of injected-trigger line `l` (R121): every converter that follows it. -/
def State.injLine (s : State) (l : Nat) : State :=
  (s.emit (.injLine l)).forEach 8 fun c s =>
    if s.get (AF_INJ_CFG_SRC c) = 2 ∧ s.get (AF_INJ_CFG_LINE c) = l then s.injTrigger c (clockEdge s.time.tai) else s

/-- A result word (R116). -/
def resultWord (code : Int) (ovr : Bool) (input gain : Nat) (inj : Bool) (frame : Nat) : Word :=
  BitVec.ofNat 32 (codeOf 18 code + bit ovr * 2 ^ 18 + input * 2 ^ 19 + gain * 2 ^ 22 + bit inj * 2 ^ 25 + frame % 16 * 2 ^ 26)

/-- The results, stamp and count of an injected sequence published (R125). -/
def State.injPublish (s : State) (c : Nat) : State :=
  let v := s.conv c
  let s := ((List.range v.injWords.length).zip v.injWords).foldl (fun (s : State) (jw : Nat × Word) => s.setReg (AF_INJ_RES c jw.1) jw.2) s
  let sec := v.injHold.tai / 1000000000
  let s := s.setWord (AF_INJ_TS_NS c) (v.injHold.tai % 1000000000)
  let s := (s.setWord (AF_INJ_TS_SEC_LO c) sec).setWord (AF_INJ_TS_SEC_HI c) (sec / 2 ^ 32 % 2 ^ 16 + v.injHold.qual % 16 * 2 ^ 16)
  (s.bump (whole (AF_INJ_SEQ c))).fire c

/-! ### Chain input (R126, R128) -/

/-- One step of the integrators: each adds the one before it, modulo 2⁴⁸. -/
def integrate : List Nat → Nat → List Nat
  | [], _ => []
  | a :: rest, x =>
    let v := (a + x) % 2 ^ 48
    v :: integrate rest v

/-- One step of the combs: each subtracts what it saw last. The new memories and the output. -/
def combStep : List Nat → Nat → List Nat × Nat
  | [], x => ([], x)
  | m :: rest, x =>
    let (ms, y) := combStep rest ((x + 2 ^ 48 - m) % 2 ^ 48)
    (x :: ms, y)

/-- A regular result enters its chain; a lost one is a zero code. -/
def State.chainFeed (s : State) (n frame held : Nat) (code : Int) (ovr lost : Bool) : State :=
  if ¬ s.flag (FC_CFG_EN n) then s
  else
    s.setChain n fun c =>
      let p := presetOf c.preset
      let k := c.count + 1
      let integ := integrate c.integ (codeOf 48 (if lost then 0 else code))
      let c := { c with count := k, integ, ovrAt := if ovr ∧ ¬ lost then some k else c.ovrAt, lostAt := if lost then some k else c.lostAt }
      if frame % p.r ≠ 0 then c
      else
        let (comb, y) := combStep c.comb (integ.getLastD 0)
        let c := { c with comb, fir := (signedOf 48 y / (2 ^ (5 * p.logR) : Nat) :: c.fir).take p.taps }
        if frame % (p.r * p.d) ≠ 0 then c
        else
          let within (o : Option Nat) : Bool := (o.map fun a => decide (k < a + p.window)).getD false
          { c with due := c.due ++ [{ frame, held, line := c.fir, ovr := within c.ovrAt, lost := within c.lostAt }] }

/-! ### Mains crossings (R61) -/

/-- A trim measurement in progress is aborted. -/
def State.trimAbort (s : State) : State :=
  match s.time.trim with
  | some _ =>
    let s := s.put CAL_TRIM_CTRL_STATE 3
    { s with time := { s.time with trim := none } }
  | none => s

/-- A mains measurement runs on this input. -/
def State.trimOn (s : State) (i : Nat) : Bool := s.time.trim.isSome && s.get CAL_TRIM_CTRL_SRC == 1 && s.get CAL_TRIM_CTRL_AIN == i

/-- A regular result of the chosen input: over-range, or a crossing gap of more than two nominal cycles, aborts. The first crossing begins
the span whose RTC ticks are counted (DEDUCED, log 198). -/
def State.mainsSample (s : State) (i : Nat) (code : Int) (ovr : Bool) : State :=
  if ¬ s.trimOn i then s
  else if ovr then s.trimAbort
  else
    let w := s.afe.mains
    let gap := if s.flag CAL_TRIM_CTRL_MAINS_60 then 33333334 else 40000000
    let cross := w.neg && decide (0 ≤ code)
    if (w.last.map fun t => decide (t + gap < s.time.mono)).getD false then s.trimAbort
    else
      let w' : MainsWatch := { neg := decide (code < 0), last := if cross then some s.time.mono else w.last, count := w.count + bit cross }
      { s with
        afe := { s.afe with mains := w' }
        time := { s.time with trim := if cross && w.count == 0 then s.time.trim.map fun t => { t with from_ := s.cal.osc } else s.time.trim } }

/-! ### The end of a conversion -/

/-- A result's way through its converter's sluice (R15, R83, R88): one that finds it full does not cross. -/
def State.convCross (s : State) (c : Nat) (x : Crossing) (full : Bool) : State :=
  let sl := 11 + c
  if full then s.setLevel sl (sluiceDepth sl)
  else
    let s := s.put (SL_LEVEL_MAX_MAX sl) (max (s.get (SL_LEVEL_MAX_MAX sl)) (min (s.get (SL_STATUS_LEVEL sl) + 1) (sluiceDepth sl)))
    s.sluiceEcc sl x.corrected x.poisoned

/-- A regular result kept for the capture units that record it (R271): its word, with bit 31 where it was lost. -/
def State.keepRaw (s : State) (n frame : Nat) (w : Word) : State :=
  s.setChain n fun c => { c with raws := ((frame, w) :: c.raws).filter fun q => decide (frame < q.1 + 512) }

/-- A regular result delivered to its chain, or lost (R15, R88, R126). -/
def State.regularResult (s : State) (c i : Nat) (code : Int) (ovr poisoned full : Bool) : State :=
  let n := 8 * c + i
  let frame := (s.conv c).frame
  let held := (s.conv c).held
  let lost := poisoned || full
  let s := s.when (poisoned && !full) fun s => s.count (slDiscard (11 + c))
  let s := s.when lost fun s => (s.count (afOvf c)).raise EV_AF_OVF sevMajor c c
  let s := s.when (ovr && !lost) fun s => s.count (afOvr n)
  let s := s.keepRaw n frame (if lost then BitVec.ofNat 32 (2 ^ 31) else resultWord code ovr i (s.chain n).gain false frame)
  (s.chainFeed n frame held code ovr lost).when (!lost) fun s => s.mainsSample n code ovr

/-- An injected result kept; with the last of its sequence the results are published (R125). DESIGN CHOICE (log 203): a sequence with a
result that was poisoned or found the sluice full is a block that its consumer discards (R15): it publishes nothing, and SL_DISCARD counts
it. -/
def State.injResult (s : State) (c : Nat) (w : Word) (lost : Bool) : State :=
  let s := s.setConv c fun v => { v with injWords := v.injWords ++ [w], injBad := v.injBad || lost }
  if (s.conv c).injWork ≠ [] then s else if (s.conv c).injBad then s.count (slDiscard (11 + c)) else s.injPublish c

/-- A code held to the limit codes (R116). -/
def limitCode (code : Int) : Int := max (-131072) (min 131071 code)

/-- A converter stops: what is left of its sequences is given up. -/
def State.convStop (s : State) (c : Nat) : State :=
  (s.setConv c fun v => { v with work := [], injWork := [], injOn := false, seq := [] }).put (afRunning c) 0

/-- The conversion in progress ends (R122 to R126). DESIGN CHOICE (log 200): GAIN of an injected result is the gain in effect as its
conversion ends, also where it has changed since the hold. A converter whose EN is 0 then stops; an injected sequence left incomplete
publishes nothing. A converter whose sluice has stopped does not run (R17). -/
def State.conversionEnd (s : State) (c : Nat) (raw : Int) (ovr : Bool) (x : Crossing) (full : Bool) : State :=
  let code := limitCode raw
  if ¬ s.flag (afRunning c) then s.setConv c fun v => { v with cur := none }
  else match (s.conv c).cur with
  | none => s
  | some (i, inj) =>
    let s := (s.setConv c fun v => { v with cur := none }).convCross c x full
    let s := if inj then s.injResult c (resultWord code ovr i (s.chain (8 * c + i)).gain true (s.conv c).injFrame) (x.poisoned || full)
      else s.regularResult c i code ovr x.poisoned full
    if s.flag (AF_CTRL_EN c) then s.nextConversion c
    else s.convStop c

/-- CONVERSION_END. -/
def execConversionEnd (c : Nat) (code : Int) (ovr : Bool) (poisoned : Crossing) (full : Bool) (s : State) : Host.Outcome State Fault Refusal :=
  onEngines (.conversionEnd c code ovr poisoned full) s fun s => s.conversionEnd c code ovr poisoned full

/-! ### Reference buffer -/

/-- A converter enabled: it runs from the next frame instant on, unless its sluice has stopped (R17, R119); an injected trigger needs no
frame (R121). -/
def State.convStart (s : State) (c : Nat) : State :=
  if s.flag (afRunning c) ∨ s.flag (SL_STATUS_STOPPED (11 + c)) then s
  else (s.setConv c fun _ =>
    { frame := frameOf s.time.tai, notBefore := frameOf s.time.tai, inj := s.injList c, injLast := s.time.tai }).put (afRunning c) 1

/-- BUF_EN has been 1 for 2 ms (R117): the reference is ready, and the converters that configuration load left waiting are enabled. -/
def State.refReady (s : State) : State :=
  match s.afe.refAt with
  | some t =>
    if t + 2000000 ≤ s.time.mono then
      let s := s.put AF_REF_READY 1
      let s := s.afe.waiting.foldl (fun s c => (s.put (AF_CTRL_EN c) 1).convStart c) s
      { s with afe := { s.afe with waiting := [] } }
    else s
  | none => s

/-- REF_READY. -/
def execRefReady (s : State) : Host.Outcome State Fault Refusal := onCore .refReady s State.refReady

/-! ### Register writes -/

/-- Why a write to an AF or FC register or to a comparator's threshold is refused, if it is (R117, R120, R133, R269). -/
def analogueGuard (s : State) (base : Nat) (ix : List Nat) (w : Word) : Option Nat :=
  let lists (reg inj : List Nat) (own : List Nat) : Option Nat :=
    if ¬ own.Nodup then some reasonRange
    else if reg.any (fun i => inj.contains i) ∨ 8 < reg.length + 2 * inj.length then some reasonState else none
  match base, ix with
  | 0x140000, _ => if w.field 0 0 = 0 ∧ (List.range 8).any (fun c => s.flag (AF_CTRL_EN c)) then some reasonState else none
  | 0x140100, [_] => if w.field 0 0 = 1 ∧ ¬ s.flag AF_REF_READY then some reasonState else none
  | 0x140104, [c] =>
    let l := inputList w.toNat 0 (w.field 27 24)
    lists l (s.injList c) l
  | 0x140108, [c] =>
    let l := inputList w.toNat 4 (w.field 2 0)
    lists (s.regList c) l l
  | 0x150004, [n] => if w.field 1 1 = 1 ∧ s.flag (FC_CFG_EN n) then some reasonState else none
  | 0x150010, [n] =>
    if s.flag (FC_STAT_FADING n) then some reasonState
    else if s.flag (FC_CFG_EN n) ∧ s.get (FC_COEF_SEL_BANK n) = s.get (FC_STAT_ACTIVE_BANK n) then some reasonState else none
  | 0x378104, [i] => if signedOf 24 (w.field 23 0) < s.getS (CP_LEVEL_LO_LEVEL i) then some reasonRange else none
  | 0x378108, [i] => if s.getS (CP_LEVEL_HI_LEVEL i) < signedOf 24 (w.field 23 0) then some reasonRange else none
  | _, _ => none

/-- What a refused write does beside being recorded: REF_NOT_READY (R117), ACT_WR and WR_LOCK (R133). -/
def analogueRefused (base : Nat) (ix : List Nat) (w : Word) (s : State) : State :=
  match base, ix with
  | 0x140100, [_] => s.when (decide (w.field 0 0 = 1) && !s.flag AF_REF_READY) fun s => s.put AF_STATUS_REF_NOT_READY 1
  | 0x150010, [n] =>
    if s.flag (FC_STAT_FADING n) then s.put (FC_STAT_WR_LOCK n) 1
    else s.when (s.flag (FC_CFG_EN n) && s.get (FC_COEF_SEL_BANK n) == s.get (FC_STAT_ACTIVE_BANK n)) fun s => s.put (FC_STAT_ACT_WR n) 1
  | _, _ => s

/-- A swap request (R134, R135). -/
def State.swapRequest (s : State) (n : Nat) : State :=
  if ¬ s.flag (FC_STAT_FADING n) then s.setChain n fun c => { c with swap := true }
  else if s.flag (FC_STAT_SWAP_PENDING n) then s.count (fcCnt n 0)
  else s.put (FC_STAT_SWAP_PENDING n) 1

/-- What an accepted write to those registers does beside storing its fields. A preset or gain change of a converter that is not
running takes effect at once (log 26); an enabled chain starts with its state cleared (log 27). -/
def analogueEffect (base : Nat) (ix : List Nat) (old w : Word) (s : State) : State :=
  match base, ix with
  | 0x140000, _ =>
    if w.field 0 0 = 0 then { s.put AF_REF_READY 0 with afe := { s.afe with refAt := none } }
    else if old.field 0 0 = 0 then { s with afe := { s.afe with refAt := some s.time.mono } } else s
  | 0x140100, [c] =>
    let s := { s with afe := { s.afe with waiting := s.afe.waiting.filter fun d => d != c } }
    if w.field 0 0 = 1 then s.convStart c else if (s.conv c).cur.isSome then s else s.convStop c
  | 0x140108, [c] => s.setConv c fun v => { v with injLast := s.time.tai }
  | 0x14010c, [c] => s.setConv c fun v => { v with injLast := s.time.tai }
  | 0x140110, [c] => s.when (w.field 0 0 == 1) fun s => s.injTrigger c (clockEdge s.time.tai)
  | 0x140400, [i] => if s.flag (afRunning (i / 8)) then s else s.chainApply i false
  | 0x150000, [n] =>
    let s := if s.flag (afRunning (n / 8)) then s else s.chainApply n false
    if old.field 0 0 = 0 ∧ w.field 0 0 = 1 then s.chainZero n 0
    else if old.field 0 0 = 1 ∧ w.field 0 0 = 0 then
      ((s.endFade n).setChain n fun c => { c with due := [] }).levelsOff
    else s
  | 0x150004, [n] =>
    let s := s.when (w.field 1 1 == 1) fun s => s.loadFactory n (s.chain n).preset
    s.when (w.field 0 0 == 1) fun s => s.swapRequest n
  | 0x150010, [n] =>
    let key := (n * 2 + s.get (FC_COEF_SEL_BANK n)) * 128 + s.get (FC_COEF_SEL_TAP n)
    State.coefStep { s with afe := { s.afe with coefs := Store.set (fun _ => none) s.afe.coefs key (some (signedOf 24 (w.field 23 0))) } } n
  | 0x378100, [_] => s.levelsOff
  | _, _ => s

/-! ### Time step and resets -/

/-- A time step (R127): the frame grid moves with TAI, and enabled chains restart at the first frame in new time, those of a
converter without frames at once; sequences in progress
complete. After a backward step no represented instant comes again. -/
def State.analogueStep (s : State) (back : Bool) : State :=
  let s := s.forEach 8 fun c s =>
    if s.flag (afRunning c) then s.setConv c fun v => { v with notBefore := frameOf s.time.tai, restart := true, injLast := s.time.tai } else s
  let s := s.forEach 64 fun n s => if s.flag (FC_CFG_EN n) ∧ ¬ s.flag (afRunning (n / 8)) then s.chainClear n 0 else s
  s.when back fun s => s.forEach 64 fun n s =>
    if (s.chain n).lastRep.isSome ∨ (s.chain n).due ≠ [] then s.setChain n fun c => { c with noRepeat := some (c.lastRep.getD 0) } else s

/-- A class W reset (R138): results of the reset are discarded; converters, configuration and banks stay, and enabled chains restart
when it ends. -/
def State.analogueWarm (s : State) : State :=
  let s := s.forEach 8 fun c s =>
    if ¬ s.flag (afRunning c) then s
    else if ¬ s.flag (AF_CTRL_EN c) then (s.setConv c fun v => { v with cur := none }).convStop c
    else s.setConv c fun v => { v with work := [], cur := none, injWork := [], injOn := false, restart := true }
  s.forEach 64 fun n s => if s.flag (FC_CFG_EN n) then (s.chainClear n 0).setChain n fun c => { c with due := [] } else s.endFade n

end Sys2Proof.Machine
end

