-- ==== Sys2Proof/Machine/Phasor.lean ====
section
/-!
DEFINITION. Phasor, frequency and ROCOF estimation (06, R140 to R155, R164, R165, R169, R172): local and lane PMU functions, the
half-cycle estimator, and the refusal rules and effects of the PE registers.
-/

namespace Sys2Proof.Machine

/-! ### Functions: f is 0 to 15 for local function m, 16 to 271 for lane function n + 16 (R150) -/

/-- Whether a function is local. -/
def isLocal (f : Nat) : Bool := decide (f < 16)

/-- A function's EN, RATE and CLASS. -/
def State.fnOn (s : State) (f : Nat) : Bool := if isLocal f then s.flag (PE_FN_CFG_EN f) else s.flag (PE_LF_CFG_EN (f - 16))
@[inherit_doc State.fnOn] def State.fnRate (s : State) (f : Nat) : Nat :=
  frameRate s.fNom (if isLocal f then s.get (PE_FN_CFG_RATE f) else s.get (PE_LF_CFG_RATE (f - 16)))
@[inherit_doc State.fnOn] def State.fnM (s : State) (f : Nat) : Bool :=
  if isLocal f then s.flag (PE_FN_CFG_CLASS f) else s.flag (PE_LF_CFG_CLASS (f - 16))

/-- Phasors of a local function, and of a lane function's configuration word (R140). -/
def State.localPhasors (s : State) (m : Nat) : Nat := s.get (PE_FN_CFG_NPH m) + 1
@[inherit_doc State.localPhasors] def lanePhasors (w : Word) : Nat :=
  ((List.range 8).filter fun q => (w.field 15 8).testBit q).length + w.field 16 16 + w.field 17 17

/-- The hidden state of a function, and of a half-cycle estimator. -/
def State.fnLink (s : State) (f : Nat) : PhasorLink := Store.get (fun _ => {}) s.phasor.fns f
@[inherit_doc State.fnLink] def State.setFnLink (s : State) (f : Nat) (g : PhasorLink → PhasorLink) : State :=
  { s with phasor := { s.phasor with fns := Store.set (fun _ => {}) s.phasor.fns f (g (s.fnLink f)) } }
@[inherit_doc State.fnLink] def State.halfLink (s : State) (m j : Nat) : HalfLink := Store.get (fun _ => {}) s.phasor.halves (8 * m + j)
@[inherit_doc State.fnLink] def State.setHalfLink (s : State) (m j : Nat) (v : HalfLink) : State :=
  { s with phasor := { s.phasor with halves := Store.set (fun _ => {}) s.phasor.halves (8 * m + j) v } }

/-- The counters of a function (06): 0 INVALID, 1 SRC_BAD, 2 SETTLE, 3 OVR, 4 FREQ_RANGE, 5 DEADLINE, 6 H_DEADLINE, 7 TIME_STEP. -/
def peCnt (f i : Nat) : Cnt :=
  if isLocal f then ⟨PE_FN_CNT f i, ⟨PE_FN_STAT f, 16 + i, 16 + i⟩, EV_PE_CNT_SAT, f, f⟩
  else ⟨PE_LF_CNT (f - 16) i, ⟨PE_LF_STAT (f - 16), 16 + i, 16 + i⟩, EV_PE_CNT_SAT, f, f⟩

/-- Flags of R149. -/
abbrev peInvalid : Nat := 1
@[inherit_doc peInvalid] abbrev peAbsent : Nat := 2
@[inherit_doc peInvalid] abbrev peSettle : Nat := 4
@[inherit_doc peInvalid] abbrev peOvr : Nat := 8
@[inherit_doc peInvalid] abbrev peDegraded : Nat := 16
@[inherit_doc peInvalid] abbrev peFreqRange : Nat := 32
@[inherit_doc peInvalid] abbrev peLate : Nat := 64
@[inherit_doc peInvalid] abbrev peTimeStep : Nat := 128

/-- Half cycles in an estimation window (R146): twice its span in cycles. -/
def windowHalfCycles (mClass : Bool) (fnom fs : Nat) : Nat :=
  if fs ≤ 60 then
    if ¬ mClass then 4
    else if fs = 10 then (if fnom = 50 then 80 else 96) else if fs ≤ 30 then 32 else 16
  else if mClass then 9 else 3

/-- The span of a function's window in ns (R146). -/
def State.windowSpan (s : State) (f : Nat) : Nat := windowHalfCycles (s.fnM f) s.fNom (s.fnRate f) * 1000000000 / (2 * s.fNom)

/-- The chains an active phasor of a local function uses (06). -/
def State.phasorChains (s : State) (m j : Nat) : List Nat :=
  if s.get (PE_PH_SRC_TYPE m j) = 0 then [s.get (PE_PH_SRC_CHAIN_A m j)]
  else [s.get (PE_PH_SRC_CHAIN_A m j), s.get (PE_PH_SRC_CHAIN_B m j), s.get (PE_PH_SRC_CHAIN_C m j)]

/-- The chains of all its phasors. -/
def State.fnChains (s : State) (m : Nat) : List Nat := (List.range (s.localPhasors m)).flatMap fun j => s.phasorChains m j

/-- A chain gives no samples: EN = 0 or PRESET = QUIET. -/
def State.chainBad (s : State) (n : Nat) : Bool := !s.flag (FC_CFG_EN n) || s.get (FC_CFG_PRESET n) == 3

/-! ### Windows (R144 to R148). Complex numbers are pairs -/

/-- The product of two complex numbers, and their sum. -/
def cxMul (a b : Rat × Rat) : Rat × Rat := (a.1 * b.1 - a.2 * b.2, a.1 * b.2 + a.2 * b.1)
@[inherit_doc cxMul] def cxAdd (a b : Rat × Rat) : Rat × Rat := (a.1 + b.1, a.2 + b.2)

/-- The unit vector of an angle given in turns. -/
def cxTurn (x : Rat) : Rat × Rat := (ratCos (2 * piFine * x), ratSin (2 * piFine * x))

/-- The factors of three inputs in a positive, negative or zero sequence (R143). -/
def sequenceFactors (type : Nat) : List (Rat × Rat) :=
  let third (z : Rat × Rat) : Rat × Rat := (z.1 / 3, z.2 / 3)
  let a := third (cxTurn (1 / 3))
  let b := third (cxTurn (2 / 3))
  let one := third (1, 0)
  if type = 1 then [one, a, b] else if type = 2 then [one, b, a] else [one, one, one]

/-- Primary units of one step of a lane quantity (R231): volts or amperes. -/
def State.laneScale (s : State) (n q : Nat) : Rat := (s.lsb n q : Rat) / ((2 ^ 21 * 1000 : Nat) : Rat)

/-- The quantities of a lane function's phasors in order, each phasor as its quantities with their factors (R140, R150). -/
def State.laneTerms (s : State) (n : Nat) : List (List (Nat × (Rat × Rat))) :=
  let w := s.reg (PE_LF_CFG n)
  let seq (q : Nat) : List (Nat × (Rat × Rat)) :=
    (sequenceFactors 1).zipIdx.map fun e => (q + e.2, (e.1.1 * s.laneScale n (q + e.2), e.1.2 * s.laneScale n (q + e.2)))
  (((List.range 8).filter fun q => (w.field 15 8).testBit q).map fun q => [(q, (s.laneScale n q, 0))]) ++
  (if w.field 16 16 = 1 then [seq 0] else []) ++ (if w.field 17 17 = 1 then [seq 3] else [])

/-- The inputs of each phasor of a function with their factors: chains with PE_PH_SCALE, or lane quantities (R140, R143). -/
def State.phasorTerms (s : State) (f : Nat) : List (List (Nat × (Rat × Rat))) :=
  if isLocal f then
    (List.range (s.localPhasors f)).map fun j =>
      let k := f32ToRat (s.word (PE_PH_SCALE f j))
      let fs := if s.get (PE_PH_SRC_TYPE f j) = 0 then [((1, 0) : Rat × Rat)] else sequenceFactors (s.get (PE_PH_SRC_TYPE f j))
      (s.phasorChains f j).zip (fs.map fun z => (z.1 * k, z.2 * k))
  else s.laneTerms (f - 16)

/-- The samples of an input from one instant to another, each with its own sample time (R145). -/
def State.inputSamples (s : State) (f i : Nat) (lo hi : Rat) : List (Rat × Rat) :=
  let inside (t : Rat) : Bool := decide (lo ≤ t) && decide (t ≤ hi)
  if isLocal f then
    (s.chainView i).outputs.filterMap fun o => if inside (o.1 : Rat) then some ((o.1 : Rat), ((signedOf 24 (o.2.field 23 0) : Int) : Rat)) else none
  else
    let step : Rat := 1000000000 / (s.laneRate (f - 16) : Rat)
    (Store.get (fun _ => []) s.phasor.lanes (f - 16)).flatMap fun p =>
      p.rows.zipIdx.filterMap fun r =>
        let t := (p.t0 : Rat) + (r.2 : Rat) * step
        if inside t then some (t, (((r.1.getD i {}).value : Int) : Rat)) else none

/-- The reporting rate whose design a rate uses (R146). -/
def designRate (fs : Nat) : Nat := if fs = 200 then 100 else if fs = 240 then 120 else fs

/-- The weight of a sample at a place from −1 to 1 of the half span, the same on both sides of the centre: triangular in P class (R146). -/
def windowWeight (mClass : Bool) (fnom fs : Nat) (x : Rat) : Rat :=
  if mClass then Config.kaiserWeight fnom (designRate fs) (ratAbs x) else 1 - ratAbs x

/-- The RMS phasor at a centre that weighted samples give, demodulated at a frequency in Hz; none when the weights come to nothing. -/
def demodulate (freq centre : Rat) (weighted : List (Rat × Rat × Rat)) : Option (Rat × Rat) :=
  let w := ratSum (weighted.map (·.1))
  if w = 0 then none
  else
    let sum := weighted.foldl (fun (a : Rat × Rat) e =>
      let z := cxTurn (-(freq * (e.2.1 - centre) / 1000000000))
      (a.1 + e.1 * e.2.2 * z.1, a.2 + e.1 * e.2.2 * z.2)) (0, 0)
    let k := ratSqrt 2 / w
    some (sum.1 * k, sum.2 * k)

/-- A phasor against the cosine at F_NOM that peaks on each whole second (R144): binary32 magnitude and angle. -/
def shownPhasor (fnom : Nat) (centre : Rat) (z : Rat × Rat) : Nat × Nat :=
  let sec := centre / 1000000000
  let r := cxMul z (cxTurn (-((fnom : Rat) * (sec - (sec.floor : Rat)))))
  polarOf r.1 r.2

/-! ### Report instants (R145, R152) -/

/-- The next report instant that a function owes, after an instant: `from_` itself, its last one produced, and its start count, and none lies
in a span that was skipped (R152). -/
def State.instantAfter (s : State) (f from_ : Nat) : Nat :=
  let l := s.fnLink f
  let next (x : Nat) : Nat := bucketInstant (s.fnRate f) (bucketAt (s.fnRate f) x + 1)
  next (s.phasor.skips.foldl (fun x k => if k.1 < next x ∧ next x ≤ k.2 then max x k.2 else x) (max from_ (max (l.last.getD 0) l.since)))

/-- The exact centre of a report instant, in ns. -/
def State.centreOf (s : State) (f t : Nat) : Rat := ((bucketAt (s.fnRate f) t * 1000000000 : Nat) : Rat) / (s.fnRate f : Rat)

/-- Half the span of a function's window in ns. -/
def State.halfSpan (s : State) (f : Nat) : Rat :=
  ((windowHalfCycles (s.fnM f) s.fNom (s.fnRate f) * 1000000000 : Nat) : Rat) / ((4 * s.fNom : Nat) : Rat)

/-- The hold instant of the newest input of a chain's last output that represents an instant up to `hi` (R130). -/
def State.lastHold (s : State) (n hi : Nat) : Nat :=
  let p := 1000000000 / (presetOf (s.chain n).preset).rate
  (hi + s.get (FC_DELAY_DELAY n)) / p * p

/-- T0 of the lane position that holds the instant before `hi`. -/
def State.lastPosition (s : State) (n hi : Nat) : Nat :=
  if s.isSv n then (hi - 1) * s.laneRate n / 1000000000 / s.asdu n * s.asdu n * 1000000000 / s.laneRate n else (hi - 1) / 1000000 * 1000000

/-- Every input up to `hi` has arrived: a good chain has produced its last output, and a releasing lane has released its last position. -/
def State.inputsArrived (s : State) (f hi : Nat) : Bool :=
  decide (hi ≤ s.jobTai) &&
  if isLocal f then
    (s.fnChains f).all fun n =>
      s.chainBad n || ((s.chainView n).outputs.head?.map fun o => decide (s.lastHold n hi ≤ o.1 + s.get (FC_DELAY_DELAY n))).getD false
  else
    let n := f - 16
    !(s.get (LN_STATUS_STATE n) == 2 || s.get (LN_STATUS_STATE n) == 3) ||
    ((Store.get (fun _ => []) s.phasor.lanes n).head?.map fun p => decide (s.lastPosition n hi ≤ p.t0)).getD false

/-- A time that inputs are due from: none is due before the last restart, since a time step moves no deadline (R37, R48). -/
def State.dueFrom (s : State) (t : Nat) : Nat := max t (s.phasor.restartAt.getD 0)

/-- The deadline of the inputs up to `hi`, and `extra` ns more, has passed (R137, R108, R154). -/
def State.inputsOverdue (s : State) (f hi extra : Nat) : Bool :=
  if isLocal f then
    let good := (s.fnChains f).filter fun n => !s.chainBad n
    if good.isEmpty then s.ranFor (s.dueFrom hi) (extra + 1) else good.all fun n => s.ranFor (s.dueFrom (s.lastHold n hi)) (40000 + extra + 1)
  else
    let n := f - 16
    s.ranFor (s.dueFrom (s.lastPosition n hi + s.posSpan n)) (s.maxLate n + 100000 + extra + 1)

/-! ### Estimates (R144 to R150, R152, R172) -/

/-- A local or lane estimate (R150): the exact report instant with its quality word, flags, frequency and ROCOF words, and its phasors. -/
structure Estimate where
  instant : Nat
  qual : Nat
  flags : Nat
  freq : Nat
  rocof : Nat
  phasors : List (Nat × Nat)
deriving DecidableEq, Repr

/-- The frequency held to the range F_NOM ± 7 Hz (R148). -/
def clampFreq (fnom : Nat) (v : Rat) : Rat := max ((fnom : Rat) - 7) (min ((fnom : Rat) + 7) v)

/-- A frequency lies outside the compliance range of a class (R148). -/
def freqOut (fnom : Nat) (mClass : Bool) (v : Rat) : Bool := decide ((if mClass then 5 else 2) < ratAbs (v - (fnom : Rat)))

/-- Flags that the outputs of a chain in a window give (R149). -/
def State.chainFlags (s : State) (n : Nat) (lo hi : Rat) : Nat :=
  ((s.chainView n).outputs.filter fun o => decide (lo ≤ (o.1 : Rat)) && decide ((o.1 : Rat) ≤ hi)).foldl (fun a o =>
    a ||| (o.2.field 26 26) * peInvalid ||| (o.2.field 25 25) * peSettle ||| (o.2.field 24 24) * peOvr ||| (o.2.field 30 30) * peOvr) 0

/-- A source chain was disabled or set to QUIET within a window (R149). -/
def State.chainWasBad (s : State) (n : Nat) (lo : Rat) : Bool :=
  s.chainBad n || ((s.chainView n).badAt.map fun t => decide (lo ≤ (t : Rat))).getD false

/-- Flags that the positions of a lane in a window give, for the quantities used (R149). -/
def State.laneFlags (s : State) (n : Nat) (qs : List Nat) (lo hi : Rat) : Nat :=
  let span : Rat := (s.posSpan n : Rat)
  let ps := (Store.get (fun _ => []) s.phasor.lanes n).filter fun p => decide ((p.t0 : Rat) ≤ hi) && decide (lo < (p.t0 : Rat) + span)
  let reach := ps.foldl (fun (a : Rat × Bool) p => ((p.t0 : Rat), a.2 && decide (a.1 ≤ (p.t0 : Rat) + span + 1))) (hi, true)
  ps.foldl (fun a p =>
    let used := p.rows.flatMap fun r => qs.map fun q => r.getD q {}
    a ||| (bit (used.any LaneSample.invalid) * peInvalid) ||| (bit (p.flags.testBit 1) * peAbsent) |||
    (bit (p.flags.testBit 3 || used.any LaneSample.ovr) * peOvr) ||| (bit (p.flags.testBit 2 || p.flags.testBit 4) * peDegraded))
    (if reach.2 ∧ reach.1 ≤ lo then 0 else peAbsent)

/-- A window reaches before the last restart of every function, or before a preset change of one of its chains (R149, R152). -/
def State.reachesBack (s : State) (chains : List Nat) (lo : Rat) : Bool :=
  let before (o : Option Nat) : Bool := (o.map fun t => decide (lo < (t : Rat))).getD false
  before s.phasor.restartAt || chains.any fun n => before (s.chainView n).presetAt

/-- Where the window of a phasor begins: not before the last preset change of one of its chains, which has restarted it (R149). -/
def State.phasorFrom (s : State) (f j : Nat) (lo : Rat) : Rat :=
  if isLocal f then ((s.phasorChains f j).filterMap fun n => (s.chainView n).presetAt).foldl (fun a t => max a (t : Rat)) lo else lo

/-- Bits 0 to 4 and 7 of the flags over a window of some phasors of a function (R149). -/
def State.windowFlags (s : State) (f : Nat) (js qs : List Nat) (lo hi : Rat) : Nat :=
  let chains := if isLocal f then js.flatMap fun j => s.phasorChains f j else []
  (if isLocal f then
    js.foldl (fun a j => (s.phasorChains f j).foldl (fun a n =>
      a ||| s.chainFlags n (s.phasorFrom f j lo) hi ||| bit (s.chainWasBad n lo) * peInvalid) a) 0
   else s.laneFlags (f - 16) qs lo hi) |||
  (if s.reachesBack chains lo then peAbsent + peTimeStep else 0)

/-- The inputs of a function, and the numbers of its phasors. -/
def State.fnInputs (s : State) (f : Nat) : List Nat := (s.phasorTerms f).flatMap fun l => l.map (·.1)
@[inherit_doc State.fnInputs] def State.fnPhasors (s : State) (f : Nat) : List Nat := List.range (s.phasorTerms f).length

/-- Phasor j over the window about a centre, demodulated at a frequency (R143 to R146). -/
def State.phasorNear (s : State) (f j : Nat) (freq centre : Rat) : Rat × Rat :=
  let h := s.halfSpan f
  let parts := ((s.phasorTerms f).getD j []).map fun e =>
    (demodulate freq centre ((s.inputSamples f e.1 (s.phasorFrom f j (centre - h)) (centre + h)).map fun x =>
      (windowWeight (s.fnM f) s.fNom (s.fnRate f) ((x.1 - centre) / h), x.1, x.2))).map (cxMul e.2)
  if parts.all Option.isSome then (parts.filterMap id).foldl cxAdd (0, 0) else Config.emptyWindow f j

/-- The angle in turns of the FREQ_SRC phasor at an instant, against the cosine at F_NOM, and the frequency that its rate of change gives
(R144), held to the range of R148. -/
def State.angleNear (s : State) (f : Nat) (x : Rat) : Rat :=
  let j := if isLocal f then s.get (PE_FN_CFG_FREQ_SRC f) else s.get (PE_LF_CFG_FREQ_SRC (f - 16))
  let sec := x / 1000000000
  let z := cxMul (s.phasorNear f j s.fNom x) (cxTurn (-((s.fNom : Rat) * (sec - (sec.floor : Rat)))))
  ratAtan2 z.2 z.1 / (2 * piFine)
@[inherit_doc State.angleNear] def State.freqNear (s : State) (f : Nat) (x : Rat) : Rat :=
  clampFreq s.fNom ((s.fNom : Rat) + Config.rateOfChange (s.angleNear f) x)

/-- The estimate of a report instant from the samples held (R144 to R149): the frequency is tracked on the FREQ_SRC phasor, every phasor
demodulated at it, and ROCOF is its rate of change. -/
def State.computeEstimate (s : State) (f t : Nat) : Estimate × Rat :=
  let c := s.centreOf f t
  let h := s.halfSpan f
  let freq := s.freqNear f c
  let flags := s.windowFlags f (s.fnPhasors f) (if isLocal f then [] else s.fnInputs f) (c - h) (c + h) |||
    (if freqOut s.fNom (s.fnM f) freq then peFreqRange else 0) ||| (if (s.fnLink f).late.contains t then peLate else 0)
  ({ instant := t, qual := s.qualAt t, flags, freq := ratToF32 freq, rocof := ratToF32 (Config.rateOfChange (s.freqNear f) c),
     phasors := (s.fnPhasors f).map fun j => shownPhasor s.fNom c (s.phasorNear f j freq c) }, freq)

/-- The bytes of an estimate's record (R150). -/
def estimateBytes (f seq : Nat) (e : Estimate) : List Byte :=
  stampBytes ⟨e.instant, e.qual⟩ ++ leBytes 4 seq ++ leBytes 2 e.flags ++ leBytes 2 f ++ leBytes 1 e.phasors.length ++ leBytes 3 0 ++
  leBytes 4 e.freq ++ leBytes 4 e.rocof ++ e.phasors.flatMap fun p => leBytes 4 p.1 ++ leBytes 4 p.2

/-- An estimate filed as the cell of its internal slot (R150, R172); the bucket of its instant opens when it must (R176). -/
def State.fileEstimate (s : State) (f seq : Nat) (e : Estimate) : State :=
  let n := 8192 + f
  let s := s.digestItem 1 e.instant f (estimateBytes f seq e)
  if ¬ s.flag AE_CFG_EN ∨ ¬ s.hasRing n then s
  else
    let num := bucketAt (s.sourceRate n) e.instant
    let (onG, b) := s.bucketOf n num
    let s := if onG ∧ s.nextBucket ≤ b then s.openTo b else s
    s.takeBlock n num 0 s.jobTai {
      instant := e.instant, tstate := s.jobState, arrival := some (microsFrom e.instant s.jobTai),
      data := { stat := e.flags, qual := e.qual % 16, nph := e.phasors.length, srcNph := e.phasors.length, freq := e.freq, rocof := e.rocof,
                phasors := e.phasors }
      flags := 1, slot := n, seq, number := b }

/-- The counters that an estimate's flags advance. -/
def State.countFlags (s : State) (f flags : Nat) (bad : Bool) : State :=
  let s := s.when (flags.testBit 0) fun s => s.count (peCnt f 0)
  let s := s.when bad fun s => s.count (peCnt f 1)
  let s := s.when (flags.testBit 2) fun s => s.count (peCnt f 2)
  let s := s.when (flags.testBit 3) fun s => s.count (peCnt f 3)
  let s := s.when (flags.testBit 5) fun s => s.count (peCnt f 4)
  s.when (flags.testBit 7) fun s => s.count (peCnt f 7)

/-- The last estimate shown, and its event source fired. -/
def State.showEstimate (s : State) (f flags seq freq : Nat) : State :=
  if isLocal f then
    (((s.put (PE_FN_STAT_FLAGS f) flags).setWord (PE_FN_SEQ f) seq).setWord (PE_FN_FREQ f) freq).fire (152 + f)
  else (s.put (PE_LF_STAT_FLAGS (f - 16)) flags).setWord (PE_LF_SEQ (f - 16)) seq

/-- The end of the window of a report instant, rounded down to whole ns. -/
def State.windowEnd (s : State) (f t : Nat) : Nat := (s.centreOf f t + s.halfSpan f).floor.toNat

/-- The oldest owed estimate that is not yet marked has missed its deadline (R154): 500 µs after its latest input's. -/
def State.estimateLate (s : State) (f : Nat) : State :=
  let t := s.instantAfter f ((s.fnLink f).late.foldl max 0)
  if s.cold ∨ ¬ s.fnOn f ∨ ¬ s.inputsOverdue f (s.windowEnd f t) 500000 then s
  else
    let s := s.setFnLink f fun l => { l with late := l.late ++ [t] }
    ((s.count (peCnt f 5)).raise EV_PE_DEADLINE sevMajor f f).deviceMiss 2

/-- The estimate of the next report instant a function owes, once its inputs have arrived or its deadline has passed without them (R145,
R150, R152, R154). -/
def State.estimate (s : State) (f : Nat) : State :=
  let t := s.instantAfter f 0
  if s.cold ∨ ¬ s.fnOn f ∨ ¬ (s.inputsArrived f (s.windowEnd f t) ∨ s.inputsOverdue f (s.windowEnd f t) 500000) then s
  else
    let s := s.estimateLate f
    let (e, freq) := s.computeEstimate f t
    let seq := ((if isLocal f then s.word (PE_FN_SEQ f) else s.word (PE_LF_SEQ (f - 16))) + 1) % 2 ^ 32
    let out := e.flags.testBit 5
    let bad := isLocal f && (s.fnChains f).any fun n => s.chainWasBad n (s.centreOf f t - s.halfSpan f)
    let was := (s.fnLink f).range
    let s := s.countFlags f e.flags bad
    let s := s.when (out && !was) fun s => s.raise EV_PE_FREQ_RANGE sevWarning f f
    let s := s.deviceMet 2 ((s.fnLink f).late.contains t)
    let s := s.setFnLink f fun l => { l with last := some t, range := out, late := l.late.filter fun x => x != t, freq := some freq }
    (s.showEstimate f e.flags seq e.freq).fileEstimate f seq e

/-- PMU_DEADLINE_MISS. -/
def execPmuDeadlineMiss (f : Nat) (s : State) : Host.Outcome State Fault Refusal :=
  onEngines (.pmuDeadlineMiss f) s fun s => s.estimateLate f

/-! ### Half-cycle estimates (R151) -/

/-- The half-cycle a window centre lies in: the centre of half-cycle k is (2k + 1)·T/4. -/
def halfNumber (fnom t : Nat) : Nat := t * 2 * fnom / 1000000000

/-- The centre instant of a half-cycle. -/
def halfInstant (fnom k : Nat) : Nat := (2 * k + 1) * 1000000000 / (4 * fnom)

/-- FREQ of a half-cycle: F_NOM + the unwrapped angle step over 2π·T/2; NaN after a restart. -/
def halfFreq (fnom : Nat) (prev : Option HalfRec) (k ang : Nat) : Nat :=
  match prev with
  | some p =>
    if p.num + 1 = k ∧ f32Finite p.ang ∧ f32Finite ang then
      ratToF32 ((fnom : Rat) + reduceAngle (f32ToRat ang - f32ToRat p.ang) * (fnom : Rat) / piRat)
    else f32NaN
  | none => f32NaN

/-- The first half-cycle from one on whose centre lies after an instant. -/
def halfPast (fnom k t : Nat) : Nat :=
  let h := halfNumber fnom t
  max k (if t < halfInstant fnom h then h else h + 1)

/-- The next half-cycle that a phasor owes after one already made or marked; none whose centre lies in a span that was skipped (R152). -/
def State.halfAfter (s : State) (m j from_ : Nat) : Nat :=
  let a := match (s.halfLink m j).last with
    | some k => max from_ (k + 1)
    | none => from_
  s.phasor.skips.foldl (fun k x => if x.1 < halfInstant s.fNom k ∧ halfInstant s.fNom k ≤ x.2 then halfPast s.fNom k x.2 else k)
    (halfPast s.fNom a (s.fnLink m).since)

/-- The phasor over a rectangular half-cycle window, corrected for the tracked frequency. -/
def State.halfPhasor (s : State) (m j k : Nat) : Nat × Nat :=
  let step : Rat := 1000000000 / ((2 * s.fNom : Nat) : Rat)
  let c := ((k : Rat) + 1 / 2) * step
  let freq := (s.fnLink m).freq.getD (s.fNom : Rat)
  let parts := ((s.phasorTerms m).getD j []).map fun e =>
    let xs := (s.inputSamples m e.1 (s.phasorFrom m j ((k : Rat) * step)) (((k + 1 : Nat) : Rat) * step)).filter fun x => decide (x.1 < ((k + 1 : Nat) : Rat) * step)
    (demodulate freq c (xs.map fun x => (1, x.1, x.2))).map (cxMul e.2)
  let z := if parts.all Option.isSome then Config.halfCorrection s.fNom freq ((parts.filterMap id).foldl cxAdd (0, 0)) else Config.emptyWindow m j
  shownPhasor s.fNom c z

/-- The bytes of a half-cycle record (R151). -/
def halfBytes (m j : Nat) (r : HalfRec) : List Byte :=
  stampBytes ⟨r.instant, r.qual⟩ ++ leBytes 2 m ++ leBytes 1 j ++ leBytes 1 r.flags ++ leBytes 4 r.mag ++ leBytes 4 r.ang ++ leBytes 4 r.freq ++
  leBytes 4 r.seq

/-- The last whole ns of a half-cycle's window. -/
def halfEnd (fnom k : Nat) : Nat := ((k + 1) * 1000000000 + 2 * fnom - 1) / (2 * fnom) - 1

/-- A function gives half-cycle estimates of a phasor. -/
def State.halfOn (s : State) (m j : Nat) : Bool := s.fnOn m && s.flag (PE_FN_CFG_H_EN m) && decide (j < s.localPhasors m) && !s.cold

/-- The oldest owed half-cycle of a phasor that is not yet marked has missed its deadline (R154): 250 µs after its latest input's. -/
def State.halfOverdue (s : State) (m j : Nat) : Option Nat :=
  let k := s.halfAfter m j ((s.halfLink m j).late.foldl (fun a x => max a (x + 1)) 0)
  let hi := halfEnd s.fNom k
  let good := (s.phasorChains m j).filter fun n => !s.chainBad n
  let expired := if good.isEmpty then s.ranFor (s.dueFrom hi) 250001 else good.all fun n => s.ranFor (s.dueFrom (s.lastHold n hi)) 290001
  if s.halfOn m j ∧ expired then some k else none

/-- One phasor's miss, counted. -/
def State.halfMissed (s : State) (m j k : Nat) : State :=
  let l := s.halfLink m j
  (((s.setHalfLink m j { l with late := l.late ++ [k] }).count (peCnt m 6)).raise EV_PE_H_DEADLINE sevMajor m m).deviceMiss 3

/-- HALF_CYCLE_DEADLINE_MISS: every phasor of a function whose half-cycle is overdue. -/
def State.halfLate (s : State) (m : Nat) : State :=
  s.forEach 8 fun j s => match s.halfOverdue m j with
    | some k => s.halfMissed m j k
    | none => s

/-- HALF_CYCLE_DEADLINE_MISS. -/
def execHalfCycleDeadlineMiss (m : Nat) (s : State) : Host.Outcome State Fault Refusal :=
  onEngines (.halfCycleDeadlineMiss m) s fun s => s.halfLate m

/-- The half-cycle estimate of phasor j of local function m, once its inputs have arrived or its deadline has passed without them, kept for
the island watchers. DESIGN CHOICE (log 207): it advances SRC_BAD and H_DEADLINE of PE_FN_CNT alone and raises no PE_FREQ_RANGE. -/
def State.halfEstimate (s : State) (m j : Nat) : State :=
  let k := s.halfAfter m j 0
  let hi := halfEnd s.fNom k
  let arrived : Bool := decide (hi < s.jobTai) && (s.phasorChains m j).all fun n =>
    s.chainBad n || ((s.chainView n).outputs.head?.map fun o => decide (s.lastHold n hi ≤ o.1 + s.get (FC_DELAY_DELAY n))).getD false
  if ¬ s.halfOn m j ∨ ¬ (arrived ∨ (s.halfOverdue m j).isSome ∨ (s.halfLink m j).late.contains k) then s
  else
    let s := match s.halfOverdue m j with
      | some x => s.halfMissed m j x
      | none => s
    let l := s.halfLink m j
    let s := s.deviceMet 3 (l.late.contains k)
    let (mag, ang) := s.halfPhasor m j k
    let freq := halfFreq s.fNom l.recs.head? k ang
    let lo : Rat := ((k * 1000000000 : Nat) : Rat) / ((2 * s.fNom : Nat) : Rat)
    let chains := s.phasorChains m j
    let out := f32Finite freq && freqOut s.fNom (s.fnM m) (f32ToRat freq)
    let flags := s.windowFlags m [j] [] lo (hi : Rat) ||| (if out then peFreqRange else 0) ||| (if l.late.contains k then peLate else 0)
    let s := s.when (chains.any fun n => s.chainWasBad n lo) fun s => s.count (peCnt m 1)
    let seq := (l.seq + 1) % 2 ^ 32
    let t := halfInstant s.fNom k
    s.setHalfLink m j { recs := (⟨k, t, s.qualAt t, flags, mag, ang, freq, seq⟩ :: l.recs).take 16, last := some k, seq, late := l.late.filter fun x => x != k }

/-- HALF_CYCLE_ESTIMATE. -/
def execHalfWindow (m j : Nat) (s : State) : Host.Outcome State Fault Refusal :=
  onEngines (.halfWindow m j) s fun s => s.halfEstimate m j

/-! ### Restarts (R149, R152) -/

/-- A time step from an instant, or the end of a class W reset that began at one, restarts every function: windows are discarded, sequence
counters stand, and what lies from that instant to now is skipped. Time that a backward step brings again is skipped no more. -/
def State.phasorRestart (s : State) (from_ : Nat) : State :=
  let now := s.jobTai
  { s with phasor := {
      fns := (s.phasor.fns.map fun (e : Nat × PhasorLink) => (e.1, { e.2 with since := min e.2.since now, freq := none })).filter
        fun (e : Nat × PhasorLink) => e.2 != ({} : PhasorLink)
      restartAt := some now
      skips := ((s.phasor.skips.map fun k => (k.1, min k.2 now)) ++ [(from_, now)]).filter fun k => decide (k.1 < k.2) && decide (now < k.2 + 60000000000)
      halves := (s.phasor.halves.map fun (e : Nat × HalfLink) => (e.1, { e.2 with recs := [] })).filter fun (e : Nat × HalfLink) => e.2 != ({} : HalfLink) } }

/-- A chain's preset has changed: the windows of the phasors that use it restart (R149), and the half-cycles of those phasors (R152). -/
def State.presetRestart (s : State) (n : Nat) : State :=
  let s := s.setChainView n fun v => { v with outputs := [], presetAt := some s.jobTai }
  s.forEach 16 fun m s => s.forEach 8 fun j s =>
    if (s.phasorChains m j).contains n ∧ (s.halfLink m j).recs ≠ [] then s.setHalfLink m j { s.halfLink m j with recs := [] } else s

/-! ### Register writes -/

/-- Phasor estimates/s that a function's configuration word adds (R142). -/
def State.fnLoad (s : State) (f : Nat) (w : Word) : Nat :=
  if w.field 0 0 = 0 then 0
  else
    let r := frameRate s.fNom (w.field 4 2)
    if isLocal f then (w.field 7 5 + 1) * (r + w.field 11 11 * 2 * s.fNom) else lanePhasors w * r

/-- The configured load with one function's word changed. -/
def State.phasorLoad (s : State) (f : Nat) (w : Word) : Nat :=
  s.get PE_G_LOAD_LOAD + s.fnLoad f w - s.fnLoad f (if isLocal f then s.reg (PE_FN_CFG f) else s.reg (PE_LF_CFG (f - 16)))

/-- The slot of a function has a ring of the function's rate (R169). -/
def State.slotFits (s : State) (f rate : Nat) : Bool := s.get (AE_SLOT_CFG_RATE (8192 + f)) == rate

/-- Why an enable of a function is refused, if it is (R142, R143, R169). -/
def State.fnEnableBad (s : State) (f : Nat) (w : Word) : Option Nat :=
  let bad : Bool :=
    if isLocal f then
      decide (w.field 7 5 < w.field 10 8) || (List.range (w.field 7 5 + 1)).any fun j => (s.phasorChains f j).any fun n => s.chainBad n
    else
      let n := f - 16
      decide (lanePhasors w ≤ w.field 7 5) || decide (lanePhasors w = 0) || decide (8 < lanePhasors w) || s.flag (LN_CFG_DC n) ||
      (decide (w.field 16 16 = 1) && decide (s.get (LN_CFG_NQ n) + 1 < 3)) || (decide (w.field 17 17 = 1) && decide (s.get (LN_CFG_NQ n) + 1 < 6))
  if bad ∨ ¬ s.slotFits f (w.field 4 2) then some reasonState
  else if limitPhasor s.point < s.phasorLoad f w then some reasonLoad else none

/-- Why a write of a function's word is refused, if it is. -/
def State.fnGuard (s : State) (f : Nat) (old w : Word) : Option Nat :=
  if 4 < w.field 4 2 then some reasonRange
  else if old.field 0 0 = 1 ∧ w.field (if isLocal f then 11 else 17) 1 ≠ old.field (if isLocal f then 11 else 17) 1 then some reasonState
  else if old.field 0 0 = 0 ∧ w.field 0 0 = 1 then s.fnEnableBad f w else none

/-- Any function, output stream, alignment or metered lane runs (R141, R167, R233). -/
def State.frequencyHeld (s : State) : Bool :=
  (List.range 272).any (fun f => s.fnOn f) || (List.range 32).any (fun k => s.flag (OS_CFG_EN k)) || s.flag AE_CFG_EN ||
  (List.range 256).any (fun n => s.flag (ME_CFG_EN n))

/-- Why a write to a PE register is refused, if it is. -/
def phasorGuard (s : State) (base : Nat) (ix : List Nat) (w : Word) : Option Nat :=
  match base, ix with
  | 0x160000, _ =>
    let t := s.setReg PE_G_CFG w
    if s.frequencyHeld then some reasonState
    else if limitAlign s.point < t.ingest ∨ limitDeliver s.point < t.delivered then some reasonLoad else none
  | 0x160100, [m] => s.fnGuard m (s.reg (PE_FN_CFG m)) w
  | 0x162000, [n] => s.fnGuard (16 + n) (s.reg (PE_LF_CFG n)) w
  | 0x160110, [m, j] => if s.fnOn m ∧ (w &&& 0x3f3f3f03) ≠ s.reg (PE_PH_SRC m j) then some reasonState else none
  | 0x160114, [m, j] =>
    if ¬ f32Finite w.toNat ∨ w.field 31 31 = 1 ∨ w.toNat = 0 then some reasonRange
    else if s.fnOn m ∧ w ≠ s.reg (PE_PH_SCALE m j) then some reasonState else none
  | _, _ => none

/-- A function switched on or off: its internal slot follows (R169, R175), and instants are owed from now on. -/
def State.fnSwitched (s : State) (f : Nat) (on : Bool) : State :=
  let n := 8192 + f
  let s := (s.put (AE_SLOT_CFG_EN n) (bit on)).setSlotState n (if on then slActive else slDisabled)
  let s := s.setFnLink f fun l => { l with since := s.jobTai, range := false, late := [], freq := none }
  if isLocal f then (List.range 8).foldl (fun s j => s.setHalfLink f j { s.halfLink f j with recs := [], late := [] }) s else s

/-- The configuration held for an internal slot has changed (R162). -/
def State.fnChanged (s : State) (f : Nat) : State := s.setSlotLink (8192 + f) fun l => { l with changed := some s.jobMono }

/-- What an accepted write to those registers does beside storing its fields. -/
def phasorEffect (base : Nat) (ix : List Nat) (old w : Word) (s : State) : State :=
  let word (f : Nat) (top : Nat) : State :=
    let s := s.put PE_G_LOAD_LOAD (s.get PE_G_LOAD_LOAD + s.fnLoad f w - s.fnLoad f old)
    let s := s.when (w.field top 1 != old.field top 1) fun s => s.fnChanged f
    if old.field 0 0 = w.field 0 0 then s else s.fnSwitched f (w.field 0 0 == 1)
  match base, ix with
  | 0x160100, [m] => word m 11
  | 0x162000, [n] => word (16 + n) 17
  | 0x160110, [m, _] => s.when (w &&& 0x3f3f3f03 != old) fun s => s.fnChanged m
  | 0x160114, [m, _] => s.when (w != old) fun s => s.fnChanged m
  | 0x160000, _ => s.put AE_LOAD_LOAD s.ingest
  | 0x150000, [n] =>
    let bad (v : Word) : Bool := v.field 0 0 == 0 || v.field 2 1 == 3
    let s := if old.field 2 1 = w.field 2 1 then s else s.presetRestart n
    if bad old ≠ bad w then s.setChainView n fun v => { v with badAt := some s.jobTai } else s
  | _, _ => s

/-! ### Estimates owed (R154, R326) -/

/-- The first owed report instants of a function whose windows have ended, those marked late left out. -/
def State.owedInstants (s : State) (f : Nat) : Nat → Nat → List Nat
  | 0, _ => []
  | n + 1, from_ =>
    let t := s.instantAfter f from_
    if s.jobTai < s.windowEnd f t then [] else (if (s.fnLink f).late.contains t then [] else [t]) ++ s.owedInstants f n t

/-- The deadline of an estimate (R154), in TAI: 500 µs after the latest deadline among its inputs'. -/
def State.estimateDue (s : State) (f hi : Nat) : Nat :=
  if isLocal f then
    let good := (s.fnChains f).filter fun n => !s.chainBad n
    if good.isEmpty then s.dueFrom hi + 500000 else good.foldl (fun a n => max a (s.dueFrom (s.lastHold n hi) + 540000)) 0
  else s.dueFrom (s.lastPosition (f - 16) hi + s.posSpan (f - 16)) + s.maxLate (f - 16) + 600000

/-- The half-cycles owed by a phasor that have ended, those marked late left out. -/
def State.owedHalves (s : State) (m j : Nat) : Nat → Nat → List Nat
  | 0, _ => []
  | n + 1, from_ =>
    let k := s.halfAfter m j from_
    if s.jobTai < halfEnd s.fNom k then [] else (if (s.halfLink m j).late.contains k then [] else [k]) ++ s.owedHalves m j n (k + 1)

/-- The deadline of a half-cycle estimate (R154), in TAI. -/
def State.halfDue (s : State) (m j k : Nat) : Nat :=
  let hi := halfEnd s.fNom k
  let good := (s.phasorChains m j).filter fun n => !s.chainBad n
  if good.isEmpty then s.dueFrom hi + 250000 else good.foldl (fun a n => max a (s.dueFrom (s.lastHold n hi) + 290000)) 0

end Sys2Proof.Machine
end

