-- ==== Sys2Proof/Machine/Streams.lean ====
section
/-!
DEFINITION. Output streams and the close of buckets (06, R156 to R165; 07, R178, R183): data frames built from closed buckets, the
C37.118.2 commands, connections, and the refusal rules and effects of the OS registers. The field widths and frame types are those
of C37.118.2 (log 30).
-/

namespace Sys2Proof.Machine

/-- The hidden state of a stream. -/
def State.streamLink (s : State) (k : Nat) : StreamLink := Store.get (fun _ => {}) s.streams.links k
@[inherit_doc State.streamLink] def State.setStreamLink (s : State) (k : Nat) (f : StreamLink → StreamLink) : State :=
  { s with streams := { s.streams with links := Store.set (fun _ => {}) s.streams.links k (f (s.streamLink k)) } }

/-- The counters of a stream: 0 LATE, 1 TCP_DROP, 2 CMD_BAD, 3 CMD_GOOD, 4 VALUE_SAT, 5 NO_ROUTE. -/
def osCnt (k i : Nat) : Cnt := ⟨OS_CNT k i, ⟨OS_STATUS k, 8 + i, 8 + i⟩, EV_OS_CNT_SAT, k, k⟩

/-- Bytes a UDP datagram's frame takes on the wire, FCS included. -/
def State.udpLen (s : State) (k len : Nat) : Nat := max 64 (len + 8 + (if s.flag (OS_CFG_IPV6 k) then 40 else 20) + 18)

/-! ### Data frames (R157, R161, R162) -/

/-- The CRC-CCITT of C37.118.2 (log 6). -/
def crcCcitt (bs : List Byte) : Nat :=
  bs.foldl (fun r b => (List.range 8).foldl (fun (r : Nat) _ => if r / 2 ^ 15 % 2 = 1 then (r * 2 % 65536) ^^^ 0x1021 else r * 2 % 65536)
    (r ^^^ (b.toNat * 256))) 0xffff

/-- SOC of a TAI second: less the TAI − UTC offset in force then; an inserted second repeats 23:59:59 (R161). -/
def State.socOf (s : State) (t : Nat) : Nat := (if s.inInserted t then s.utcSecond t - 1 else s.utcSecond t).toNat

/-- The leap bits 28 to 30 of FRACSEC at a TAI second, whenever the frame is built (R161): a leap that the time base has applied since was
pending throughout the UTC day it closed. -/
def State.leapBits (s : State) (t : Nat) : Nat :=
  let u := s.utcSecond t
  let ins := s.inInserted t
  let last := s.time.lastLeap.any fun (m, _, _) => decide ((m : Int) ≤ u) && decide (u < m + 86400)
  let done := s.time.lastLeap.any fun (m, _, _) => decide (u < m) && decide ((m : Int) ≤ u + 86400)
  let down (d : Bool) : Bool := d && s.time.lastLeap.any fun (_, _, i) => !i
  let pending := !ins && (done || (!last && s.jobQual.testBit 8))
  let negative := pending && (if done then down true else s.leapDel)
  bit pending * 2 ^ 28 + bit (ins || last) * 2 ^ 29 + bit (down last || negative) * 2 ^ 30

/-- The time quality indicator (R161). -/
def State.qualityIndicator (s : State) : Nat :=
  let q := s.jobQual % 16
  if s.jobState = 2 then 0 else if q ≤ 7 then q + 3 else 15

/-- FRACSEC of instant k/Fs of a TAI second. -/
def State.fracsec (s : State) (st fs t k : Nat) : Nat :=
  let tb := s.get (OS_TIMEBASE_TIME_BASE st)
  (2 * k * tb + fs) / (2 * fs) % 2 ^ 24 + s.qualityIndicator * 2 ^ 24 + s.leapBits t

/-- The bits of STAT that say how long ago the time state left LOCKED (R162). -/
def State.unlockedBits (s : State) : Nat :=
  if s.jobState = 2 then 0
  else
    match s.streams.leftLocked with
    | some t =>
      let d := (s.time.mono - t) / 1000000000
      if d < 10 then 0 else if d < 100 then 1 else if d < 1000 then 2 else 3
    | none => 3

/-- STAT of a block (R162). `late` says that the frame is late. -/
def State.statWord (s : State) (st n : Nat) (c : Cell) (late : Bool) : Nat :=
  let d := c.data
  let fillInvalid := c.flags.testBit 1
  let held := c.flags.testBit 2 || c.flags.testBit 3
  if n < 8192 then
    let top := max (d.stat / 2 ^ 14 % 4) (if fillInvalid then 2 else 0)
    let w := d.stat % 2 ^ 14
    let w := if w.testBit 12 then w - 2 ^ 12 else w
    top * 2 ^ 14 + (w ||| (bit held * 2 ^ 9) ||| (bit (late && s.flag (OS_CFG_LATE_MARK st)) * 2 ^ 11))
  else
    let f := if fillInvalid then 0 else d.stat
    let top := if f.testBit 0 then 3 else if f.testBit 1 ∨ fillInvalid then 2
      else if f.testBit 2 ∨ f.testBit 3 ∨ f.testBit 4 ∨ f.testBit 5 then 1 else 0
    let trig := if (f.testBit 6 ∨ late) ∧ s.flag (OS_CFG_LATE_MARK st) then 2 ^ 11 + 8 else if f.testBit 7 then 2 ^ 11 + 9 else 0
    let changed : Bool := ((s.slotLink n).changed.map fun t => decide (s.jobMono < t + 60000000000)).getD false
    top * 2 ^ 14 + bit (decide (s.get (OS_CFG_SYNC_Q st) < d.qual)) * 2 ^ 13 + trig + bit changed * 2 ^ 10 + bit held * 2 ^ 9 +
    (if d.qual ≤ 5 then d.qual + 1 else 7) * 64 + s.unlockedBits * 16

/-- A 16-bit word of a value, and whether it saturated. A value that is no number gives the standard's word for none. -/
def wordOf (lo hi : Int) (v : Option Rat) : Nat × Bool :=
  match v with
  | none => (0x8000, false)
  | some x => let r := roundEven x; if r < lo then (codeOf 16 lo, true) else if hi < r then (codeOf 16 hi, true) else (codeOf 16 r, false)

/-- A binary32 word as a number. -/
def f32Value (w : Nat) : Option Rat := if f32Finite w then some (f32ToRat w) else none

/-- A magnitude in steps of PHUNIT; a step of zero makes any magnitude but zero saturate. -/
def inUnits (scale : Nat) (v : Option Rat) : Option Rat :=
  v.map fun x => if scale = 0 then (if x = 0 then 0 else if x < 0 then -1000000 else 1000000) else x * 100000 / (scale : Rat)

/-- One phasor's bytes in a format, and how many values saturated (R157). -/
def phasorBytes (format scale : Nat) (p : Nat × Nat) : List Byte × Nat :=
  let polar := format.testBit 0
  let xy : Option (Rat × Rat) := (f32Value p.1).bind fun _ => (f32Value p.2).map fun _ => rectOf p
  if format.testBit 1 then
    if polar then (beBytes 4 p.1 ++ beBytes 4 p.2, 0)
    else
      match xy with
      | some (x, y) => (beBytes 4 (ratToF32 x) ++ beBytes 4 (ratToF32 y), 0)
      | none => (beBytes 4 f32NaN ++ beBytes 4 f32NaN, 0)
  else
    let (a, b) := if polar then (wordOf 0 65535 (inUnits scale (f32Value p.1)), wordOf (-32768) 32767 ((f32Value p.2).map fun x => x * 10000))
      else (wordOf (-32768) 32767 (inUnits scale (xy.map (·.1))), wordOf (-32768) 32767 (inUnits scale (xy.map (·.2))))
    (beBytes 2 a.1 ++ beBytes 2 b.1, bit a.2 + bit b.2)

/-- FREQ and DFREQ of a block, and how many values saturated (R157). -/
def freqBytes (format fnom freq rocof : Nat) : List Byte × Nat :=
  if format.testBit 3 then (beBytes 4 freq ++ beBytes 4 rocof, 0)
  else
    let a := wordOf (-32768) 32767 ((f32Value freq).map fun f => (f - (fnom : Rat)) * 1000)
    let b := wordOf (-32768) 32767 ((f32Value rocof).map fun f => f * 100)
    (beBytes 2 a.1 ++ beBytes 2 b.1, bit a.2 + bit b.2)

/-- One block of a data frame; a slot with no cell at the instant gives the MARK_INVALID values. DEDUCED (log 32). -/
def State.blockBytes (s : State) (st b : Nat) (late : Bool) (e : Nat × Nat) : List Byte × Nat :=
  let n := e.1
  let c : Cell := (s.goodCell n b).getD { instant := 0, tstate := 0, arrival := none, data := s.invalidData n, flags := 2, slot := n, seq := 0, number := b }
  let f := s.get (OS_CFG_FORMAT st)
  let ph := (s.sentPhasors e).map fun j => phasorBytes f (s.get (AE_SLOT_PHUNIT_SCALE n j)) (c.data.phasors.getD j (0, 0))
  let fr := freqBytes f s.fNom c.data.freq c.data.rocof
  (beBytes 2 (s.statWord st n c late) ++ ph.flatMap (·.1) ++ fr.1, fr.2 + ph.foldl (fun a p => a + p.2) 0)

/-- A frame of a kind (log 30): 0 data, 1 header, 2 CFG-1, 3 CFG-2, 5 CFG-3. -/
def osFrameBytes (kind idcode soc fracsec : Nat) (body : List Byte) : List Byte :=
  let h := beBytes 2 (0xaa02 + kind * 16) ++ beBytes 2 (body.length + 16) ++ beBytes 2 idcode ++ beBytes 4 soc ++ beBytes 4 fracsec ++ body
  h ++ beBytes 2 (crcCcitt h)

/-- The data frame of a bucket, and how many values saturated. -/
def State.dataFrame (s : State) (st b : Nat) (late : Bool) : List Byte × Nat :=
  let fs := frameRate s.fNom (s.get (OS_CFG_RATE st))
  let g := s.gridRate
  let bl := (s.osEntries st).map fun e => s.blockBytes st b late e
  let sec := b / g
  (osFrameBytes 0 (s.get (OS_IDCODE_IDCODE st)) (s.socOf sec) (s.fracsec st fs sec (rateIndex g fs b % fs)) (bl.flatMap (·.1)),
   bl.foldl (fun a p => a + p.2) 0)

/-! ### Sending (R158, R163) -/

/-- The next hop is known: a multicast destination maps directly; else firmware resolves it, with an outcome that is free (log 33). -/
def State.routed (s : State) (k : Nat) : Bool × State :=
  if s.flag (OS_STATUS_ROUTE_OK k) then (true, s)
  else
    let top := s.word (OS_DST_IP k 0)
    let multi := if s.flag (OS_CFG_IPV6 k) then top / 2 ^ 24 == 255 else top / 2 ^ 28 == 14
    let ok := multi || s.drawn % 2 == 1
    (ok, (s.when (!multi) State.draw).put (OS_STATUS_ROUTE_OK k) (bit ok))

/-- Bytes handed to the stream's port and queue, over UDP from and to the ports and address set, or on its connection in TCP segments of
the port's frame length, which then stand unacknowledged. -/
def State.osPut (s : State) (k : Nat) (kind : FrameKind) (bytes : List Byte) (tcp : Bool) : State :=
  let p := s.get (OS_CFG_PORT k)
  let q := s.get (OS_CFG_QUEUE k)
  let dst := (List.range (if s.flag (OS_CFG_IPV6 k) then 4 else 1)).map fun i => s.word (OS_DST_IP k i)
  let s := if tcp then s.emit (.osFrame k kind [] (s.get (OS_TCP_PORT k)) 0 bytes)
    else s.emit (.osFrame k kind dst (s.get (OS_UDP_SRC_PORT k)) (s.get (OS_UDP_DST_PORT k)) bytes)
  if tcp then
    let s := s.setStreamLink k fun l => { l with unacked := l.unacked + bytes.length, idleAt := s.time.mono, probes := 0 }
    let head := (if s.flag (OS_CFG_IPV6 k) then 40 else 20) + 38
    let mss := s.get (NP_FRAME_CFG_MAX_LEN p) - head
    (List.range ((bytes.length + mss - 1) / mss)).foldl (fun s i =>
      let part := (bytes.drop (i * mss)).take mss
      s.txSend p q { kind, length := max 64 (part.length + head), payload := part }) s
  else s.txSend p q { kind, length := s.udpLen k bytes.length, payload := bytes }

/-- A frame sent by UDP, unless its next hop is unresolved. -/
def State.osUdp (s : State) (k : Nat) (kind : FrameKind) (bytes : List Byte) : Bool × State :=
  let (ok, s) := s.routed k
  if ok then (true, s.osPut k kind bytes false) else (false, s.count (osCnt k 5))

/-- A data frame on the connection (MODE 2): dropped whole when 64 KiB stand unacknowledged. How much the peer has acknowledged is
free (log 33). -/
def State.osTcpData (s : State) (k : Nat) (bytes : List Byte) : Bool × State :=
  let l := s.streamLink k
  let left := if l.unacked = 0 then 0 else s.drawn % (l.unacked + 1)
  let s := s.when (l.unacked != 0) State.draw
  if 65536 ≤ left then
    (false, ((s.setStreamLink k fun l => { l with unacked := left }).count (osCnt k 1)).raise EV_OS_TCP_DROP sevWarning k k)
  else
    (true, (s.setStreamLink k fun l => { l with unacked := left }).osPut k (.osData k) bytes true)

/-- The first frame after a cold standby's promotion: OS_TX_SEQ stands at the image's value and the grid instants of the stream's rate that
lie between the image and this frame (R372). -/
def State.resumeSeq (s : State) (k t : Nat) : State :=
  match (s.streamLink k).resume with
  | none => s
  | some (v, snap) =>
    let r := frameRate s.fNom (s.get (OS_CFG_RATE k))
    (s.setStreamLink k fun l => { l with resume := none }).setWord (OS_TX_SEQ k) ((v + bucketAt r t - bucketAt r snap + 2 ^ 32 - 1) % 2 ^ 32)

/-- The data frame of a closed bucket on one stream (R161 to R163): sent by a unit that drives its outputs; a standby only counts
it as built. -/
def State.osData (s : State) (k b : Nat) (late : Bool) : State :=
  let (bytes, sat) := s.dataFrame k b late
  let s := s.cellErrors b ((s.osEntries k).map (·.1))
  let s := (s.countN (osCnt k 4) sat).digestItem 3 (bucketInstant s.gridRate b) k bytes
  if ¬ s.drives then s.bump (whole (OS_TX_SEQ k))
  else
    let (sent, s) := if s.get (OS_CFG_MODE k) = 2 then s.osTcpData k bytes else s.osUdp k (.osData k) bytes
    if sent then (s.resumeSeq k (bucketInstant s.gridRate b)).bump (whole (OS_TX_SEQ k)) else s

/-- The streams that send a frame for a closed bucket release it (R161, R183); it reaches its port queue when the block next idles
(log 181). -/
def State.osFrames (s : State) (b : Nat) (late : Bool) : State :=
  let due := (List.range 32).filter fun k =>
    s.flag (OS_CFG_EN k) && s.flag (OS_STATUS_TX_ON k) && onRate s.gridRate (frameRate s.fNom (s.get (OS_CFG_RATE k))) b
  { s with streams := { s.streams with ready := s.streams.ready ++ due.map fun k => ⟨k, b, late, false, s.jobMono⟩ } }

/-- The released frames handed to their ports. -/
def State.osSend (s : State) : State :=
  s.streams.ready.foldl (fun s r => (s.osData r.stream r.bucket (r.late || r.missed)).deviceMet 5 r.missed) { s with streams := { s.streams with ready := [] } }

/-! ### Closing buckets (R178) -/

/-- A bucket closes and feeds the streams. -/
def State.closeAndSend (s : State) (o : OpenBucket) : State := (s.closeBucket o).osFrames o.number o.late

/-- The oldest open buckets close while the last expected cell of the oldest has arrived; one that expects none closes at once. -/
def State.closeComplete : Nat → State → State
  | 0, s => s
  | n + 1, s =>
    match s.align.opens with
    | o :: _ => if o.expected.all fun k => o.arrived.contains k then State.closeComplete n (s.closeAndSend o) else s
    | [] => s

/-- BUCKET_OPEN: local TAI has reached the next grid instant; a bucket that expects no cell closes as soon as it may (R178). -/
def execBucketOpen (s : State) : Host.Outcome State Fault Refusal :=
  onEngines .bucketOpen s fun s =>
    if s.flag AE_CFG_EN ∧ ¬ s.cold ∧ bucketInstant s.gridRate s.nextBucket ≤ s.jobTai then
      State.closeComplete 512 (s.openBucket s.nextBucket) else s

/-- BUCKET_CLOSE: bucket B, the oldest open one, has its cells or has reached its close instant. -/
def execBucketClose (number : Nat) (s : State) : Host.Outcome State Fault Refusal :=
  onEngines (.bucketClose number) s fun s =>
    if s.cold ∨ ¬ s.flag AE_CFG_EN then s
    else
      match s.closable number with
      | some o => State.closeComplete 512 (s.closeAndSend o)
      | none => s

/-- ALIGN_FRAME_RX: a frame's blocks are filed, and the buckets they complete close. -/
def execAlignFrameRx (f : C37Frame) (s : State) : Host.Outcome State Fault Refusal :=
  onEngines (.alignFrameRx f) s fun s => State.closeComplete 512 (s.alignFrame f)

/-- PMU_ESTIMATE: an estimate is written to its slot, and the buckets it completes close. -/
def execPhasorEstimate (f : Nat) (s : State) : Host.Outcome State Fault Refusal :=
  onEngines (.phasorEstimate f) s fun s => State.closeComplete 512 (s.estimate f)

/-- The released frames, the oldest of a stream that has not missed its deadline marked so. -/
def markReady (k : Nat) : List ReadyFrame → List ReadyFrame
  | [] => []
  | r :: rest => if r.stream = k ∧ ¬ r.missed then { r with missed := true } :: rest else r :: markReady k rest

/-- A released data frame has not reached its port queue in time (R163): it is still sent, with the late mark. -/
def State.osLate (s : State) (k : Nat) : State :=
  if s.streams.ready.any fun r => r.stream == k && !r.missed && decide (r.released + 1000000 < s.jobMono) then
    let s := { s with streams := { s.streams with ready := markReady k s.streams.ready } }
    ((s.count (osCnt k 0)).raise EV_OS_DEADLINE sevMajor k k).deviceMiss 5
  else s

/-- OS_DEADLINE_MISS. -/
def execOsDeadlineMiss (k : Nat) (s : State) : Host.Outcome State Fault Refusal :=
  onEngines (.osDeadlineMiss k) s fun s => s.osLate k

/-! ### Configuration and header frames (R157) -/

/-- FRACSEC of the present instant. -/
def State.fracsecNow (s : State) (k : Nat) : Nat :=
  let ns := s.time.tai % 1000000000
  let tb := s.get (OS_TIMEBASE_TIME_BASE k)
  (2 * ns * tb + 1000000000) / 2000000000 % 2 ^ 24 + s.qualityIndicator * 2 ^ 24 + s.leapBits (s.time.tai / 1000000000)

/-- What a configuration frame states: SOC and FRACSEC of its time, IDCODE, TIME_BASE, the blocks (slot, phasors, format, PHUNIT words,
F_NOM, and for CFG-3 class, window and group delay in µs of an internal slot), the rate, and the count of configuration changes. -/
def State.cfgValues (s : State) (k : Nat) : List Nat :=
  [s.socOf (s.time.tai / 1000000000), s.fracsecNow k, s.get (OS_IDCODE_IDCODE k), s.get (OS_TIMEBASE_TIME_BASE k), (s.osEntries k).length] ++
  (s.osEntries k).flatMap (fun e =>
    let f := e.1 - 8192
    let span := if 8192 ≤ e.1 then s.windowSpan f / 1000 else 0
    [e.1, (s.sentPhasors e).length, s.get (OS_CFG_FORMAT k)] ++ (s.sentPhasors e).map (fun j => s.word (AE_SLOT_PHUNIT e.1 j)) ++
    [s.fNom, bit (decide (8192 ≤ e.1) && s.fnM f), span, span / 2]) ++
  [frameRate s.fNom (s.get (OS_CFG_RATE k)), (s.streamLink k).cfgCnt]

/-- CFG-1, CFG-2 or CFG-3. -/
def State.cfgBytes (s : State) (k v : Nat) : List Byte := Config.cfgFrame v (s.cfgValues k)

/-- The header frame, with the text of OS_HEADER. -/
def State.headerFrame (s : State) (k : Nat) : List Byte :=
  osFrameBytes 1 (s.get (OS_IDCODE_IDCODE k)) (s.socOf (s.time.tai / 1000000000)) (s.fracsecNow k) ((s.table 2 k).map fun v => BitVec.ofNat 8 v)

/-- CFG-2 sent by UDP in MODE 0, and the next one due (R158). -/
def State.cfg2Send (s : State) (k : Nat) : State :=
  let s := if s.drives then (s.osUdp k (.osCfg k 2) (s.cfgBytes k 2)).2 else s
  let e := s.get (OS_CFG_CFG_EVERY k)
  s.setStreamLink k fun l => { l with cfgDue := if e = 0 then none else some (s.time.mono + e * 1000000000) }

/-- OS_CFG2_REPEAT. -/
def execOsCfg2Repeat (k : Nat) (s : State) : Host.Outcome State Fault Refusal :=
  onEngines (.osCfg2Repeat k) s fun s =>
    match (s.streamLink k).cfgDue with
    | some t => if s.flag (OS_CFG_EN k) ∧ s.get (OS_CFG_MODE k) = 0 ∧ t ≤ s.time.mono ∧ ¬ s.cold then s.cfg2Send k else s
    | none => s

/-! ### Commands and connections (R158) -/

/-- A command on a stream's connection. A frame with a wrong check, IDCODE or version, or another code, is dropped and counted. -/
def State.osCommand (s : State) (k : Nat) (c : OsCommand) (code : Nat) : State :=
  if ¬ s.flag (OS_CFG_EN k) ∨ s.cold ∨ s.get (OS_CFG_MODE k) = 0 ∨ ¬ s.flag (OS_STATUS_TCP_CONN k) then s
  else
    let s := s.setStreamLink k fun l => { l with idleAt := s.time.mono, probes := 0 }
    if ¬ c.chkOk ∨ c.idcode ≠ s.get (OS_IDCODE_IDCODE k) ∨ (c.version ≠ 1 ∧ c.version ≠ 2) ∨ code = 0 ∨ 6 < code then s.count (osCnt k 2)
    else
      let s := (s.count (osCnt k 3)).raise EV_OS_CMD sevInfo k k
      if code = 1 then s.put (OS_STATUS_TX_ON k) 0
      else if code = 2 then s.put (OS_STATUS_TX_ON k) 1
      else if code = 3 then s.osPut k (.osHeader k) (s.headerFrame k) true
      else s.osPut k (.osCfg k (code - 3)) (s.cfgBytes k (code - 3)) true

/-- OS_CMD_DATA_OFF. -/
def execOsCmdDataOff (k : Nat) (c : OsCommand) (s : State) : Host.Outcome State Fault Refusal :=
  onEngines (.osCmdDataOff k c) s fun s => s.osCommand k c 1

/-- OS_CMD_DATA_ON. -/
def execOsCmdDataOn (k : Nat) (c : OsCommand) (s : State) : Host.Outcome State Fault Refusal :=
  onEngines (.osCmdDataOn k c) s fun s => s.osCommand k c 2

/-- OS_CMD_HEADER. -/
def execOsCmdHeader (k : Nat) (c : OsCommand) (s : State) : Host.Outcome State Fault Refusal :=
  onEngines (.osCmdHeader k c) s fun s => s.osCommand k c 3

/-- OS_CMD_CFG1. -/
def execOsCmdCfg1 (k : Nat) (c : OsCommand) (s : State) : Host.Outcome State Fault Refusal :=
  onEngines (.osCmdCfg1 k c) s fun s => s.osCommand k c 4

/-- OS_CMD_CFG2. -/
def execOsCmdCfg2 (k : Nat) (c : OsCommand) (s : State) : Host.Outcome State Fault Refusal :=
  onEngines (.osCmdCfg2 k c) s fun s => s.osCommand k c 5

/-- OS_CMD_CFG3. -/
def execOsCmdCfg3 (k : Nat) (c : OsCommand) (s : State) : Host.Outcome State Fault Refusal :=
  onEngines (.osCmdCfg3 k c) s fun s => s.osCommand k c 6

/-- OS_CMD_REJECT: a command of any code, judged as every other. -/
def execOsCmdReject (k : Nat) (c : OsCommand) (code : Nat) (s : State) : Host.Outcome State Fault Refusal :=
  onEngines (.osCmdReject k c code) s fun s => s.osCommand k c code

/-- A connection to a TCP port: a stream listens on OS_TCP.PORT; one connection is served at a time, a further one gets RST. -/
def State.tcpConnect (s : State) (k port : Nat) : State :=
  if ¬ s.flag (OS_CFG_EN k) ∨ s.get (OS_CFG_MODE k) = 0 ∨ ¬ s.drives ∨ port ≠ s.get (OS_TCP_PORT k) then s
  else if s.flag (OS_STATUS_TCP_CONN k) then s.emit (.tcpReset k)
  else (s.put (OS_STATUS_TCP_CONN k) 1).setStreamLink k fun l => { l with unacked := 0, idleAt := s.time.mono, probes := 0 }

/-- OS_TCP_CONNECT. -/
def execOsConnect (k port : Nat) (s : State) : Host.Outcome State Fault Refusal :=
  onEngines (.osConnect k port) s fun s => s.tcpConnect k port

/-- The connection is gone: MODE 2 data stop, MODE 1 data go on. -/
def State.tcpGone (s : State) (k : Nat) : State :=
  if ¬ s.flag (OS_STATUS_TCP_CONN k) then s
  else
    let s := (s.put (OS_STATUS_TCP_CONN k) 0).setStreamLink k fun l => { l with unacked := 0, probes := 0 }
    if s.get (OS_CFG_MODE k) = 2 then s.put (OS_STATUS_TX_ON k) 0 else s

/-- OS_TCP_CLOSE. -/
def execOsTcpClose (k : Nat) (s : State) : Host.Outcome State Fault Refusal :=
  onEngines (.osTcpClose k) s fun s => s.tcpGone k

/-- The keepalive timer: a probe after 30 s of idling and every 10 s while unanswered; after three the connection is closed. -/
def State.tcpKeepalive (s : State) (k : Nat) (answered : Bool) : State :=
  let l := s.streamLink k
  if ¬ s.flag (OS_STATUS_TCP_CONN k) ∨ s.time.mono < l.idleAt + (30 + 10 * l.probes) * 1000000000 then s
  else if l.probes = 3 then (s.emit (.tcpClose k)).tcpGone k
  else
    let s := s.emit (.tcpProbe k)
    s.setStreamLink k fun l => if answered then { l with idleAt := s.time.mono, probes := 0 } else { l with probes := l.probes + 1 }

/-- OS_TCP_KEEPALIVE. -/
def execOsTcpKeepalive (k : Nat) (answered : Bool) (s : State) : Host.Outcome State Fault Refusal :=
  onEngines (.osTcpKeepalive k answered) s fun s => s.tcpKeepalive k answered

/-- Every connection dropped (R164, R384); with `wait`, streams of MODE 1 wait for a new command too. -/
def State.tcpDropAll (s : State) (wait : Bool) : State :=
  State.forEach { s with streams := { s.streams with ready := [] } } 32 fun k s =>
    let s := if s.flag (OS_STATUS_TCP_CONN k) then s.emit (.tcpClose k) else s
    let s := s.tcpGone k
    if wait ∧ s.get (OS_CFG_MODE k) ≠ 0 then s.put (OS_STATUS_TX_ON k) 0 else s

/-! ### Register writes -/

/-- Blocks/s of all enabled streams (R160). -/
def State.osLoad (s : State) : Nat :=
  (List.range 32).foldl (fun a k => if s.flag (OS_CFG_EN k) then a + (s.osEntries k).length * frameRate s.fNom (s.get (OS_CFG_RATE k)) else a) 0

/-- The limit of R160. -/
def limitBlocks (p : Nat) : Nat := atPoint p 900000 1400000 1800000

/-- Why an enable of a stream is refused, if it is (R156, R159, R160, R183). -/
def State.osEnableBad (s : State) (k : Nat) (w : Word) : Option Nat :=
  let t := s.setReg (OS_CFG k) w
  if s.get (OS_IDCODE_IDCODE k) = 0 then some reasonRange
  else if (s.osEntries k).isEmpty ∨ s.gridRate % frameRate s.fNom (w.field 10 8) ≠ 0 then some reasonState
  else if w.field 2 1 ≠ 2 ∧ s.get (NP_FRAME_CFG_MAX_LEN (w.field 4 3)) < t.udpLen k (t.osFrameLen k) then some reasonState
  else if limitBlocks s.point < t.osLoad then some reasonLoad else none

/-- Why a write to an OS register is refused, if it is. -/
def streamGuard (s : State) (base : Nat) (ix : List Nat) (w : Word) : Option Nat :=
  match base, ix with
  | 0x180000, [k] =>
    let old := s.reg (OS_CFG k)
    if w.field 2 1 = 3 ∨ w.field 4 3 = 2 ∨ w.field 7 5 = 7 ∨ 4 < w.field 10 8 then some reasonRange
    else if old.field 0 0 = 1 ∧ w.field 26 1 ≠ old.field 26 1 then some reasonState
    else if old.field 0 0 = 0 ∧ w.field 0 0 = 1 then s.osEnableBad k w else none
  | 0x180004, [k] => if s.flag (OS_CFG_EN k) then some reasonState else none
  | 0x180008, [k] => if s.flag (OS_CFG_EN k) then some reasonState else none
  | 0x18000c, [k] => if s.flag (OS_CFG_EN k) then some reasonState else none
  | 0x180010, [k] => if s.flag (OS_CFG_EN k) then some reasonState else none
  | 0x180020, [k, _] => if s.flag (OS_CFG_EN k) then some reasonState else none
  | _, _ => none

/-- A stream enabled: in MODE 0 its data frames run from now and CFG-2 is sent. -/
def State.osStart (s : State) (k : Nat) : State :=
  let s := (s.put (OS_STATUS_ROUTE_OK k) 0).setStreamLink k fun l => { cfgCnt := l.cfgCnt }
  if s.get (OS_CFG_MODE k) = 0 then (s.put (OS_STATUS_TX_ON k) 1).cfg2Send k else (s.put (OS_STATUS_TX_ON k) 0)

/-- A stream disabled. -/
def State.osStop (s : State) (k : Nat) : State :=
  let s := if s.flag (OS_STATUS_TCP_CONN k) then s.emit (.tcpClose k) else s
  let s := { s with streams := { s.streams with ready := s.streams.ready.filter fun r => r.stream != k } }
  ((s.tcpGone k).put (OS_STATUS_TX_ON k) 0).setStreamLink k fun l => { cfgCnt := l.cfgCnt }

/-- A stream's configuration has changed (CFGCNT of R157's frames, log 31). -/
def State.osChanged (s : State) (k : Nat) : State := s.setStreamLink k fun l => { l with cfgCnt := (l.cfgCnt + 1) % 65536 }

/-- What an accepted write to those registers does beside storing its fields. -/
def streamEffect (base : Nat) (ix : List Nat) (old w : Word) (s : State) : State :=
  match base, ix with
  | 0x180000, [k] =>
    let s := (s.osInfo k).when (w.field 26 1 != old.field 26 1) fun s => s.osChanged k
    if old.field 0 0 = 0 ∧ w.field 0 0 = 1 then s.osStart k else if old.field 0 0 = 1 ∧ w.field 0 0 = 0 then s.osStop k else s
  | 0x160100, [m] => s.osInfos (8192 + m)
  | 0x162000, [n] => s.osInfos (8208 + n)
  | 0x200008, [n] => s.osInfos n
  | 0x180004, [k] | 0x180008, [k] | 0x18000c, [k] | 0x180010, [k] | 0x180020, [k, _] => s.osChanged k
  | _, _ => s

end Sys2Proof.Machine
end

