-- ==== Sys2Proof/Machine/Oscillation.lean ====
section
/-!
DEFINITION. Oscillation watchers (08, R199 to R211, R228, R229): signals, the band-energy detector, the modal estimator, the result
record, restarts, and the load of detection.
-/

namespace Sys2Proof.Machine

/-! ### What detection shares -/

/-- A rational rounded to the nearest binary64 number, ties to even (R206 computes in binary64, log 14). -/
def roundF64 (r : Rat) : Rat :=
  if r = 0 then 0
  else
    let a := ratAbs r
    let e0 : Int := (Nat.log2 a.num.toNat : Int) - Nat.log2 a.den
    let e := if a < pow2 e0 then e0 - 1 else e0
    let v := (roundEven (a * pow2 (52 - e)) : Rat) * pow2 (e - 52)
    if r < 0 then -v else v

/-- The bits that bucket B's evaluations change enter the vector as one update (R223): a change joins the newest update where that is the
same bucket's and neither the router nor the capture units have taken it yet. DEDUCED (log 35): the watchers' jobs are commands of their
own here. -/
def State.bucketConds (s : State) (bits : List (Nat × Bool)) (b : Nat) : State :=
  let joins : Bool := match s.capture.forRules.getLast?, s.capture.forUnits.getLast? with
    | some u, some v => u.bucket == some b && v.bucket == some b && u.new == s.capture.vector && v.new == s.capture.vector
    | _, _ => false
  if joins then
    let v := bits.foldl (fun v b => setBit v b.1 b.2) s.capture.vector
    let put (l : List VecUpdate) : List VecUpdate := l.dropLast ++ (l.getLast?.map fun (u : VecUpdate) => { u with new := v }).toList
    { s with capture := { s.capture with vector := v, forRules := put s.capture.forRules, forUnits := put s.capture.forUnits } }
  else s.setConds bits (s.stampAt (bucketInstant s.gridRate b)) (some b)

/-- A cell that R204 admits, quality aside: present, not stale, STAT[15:14] 00 or 01. -/
def cellSound (c : Cell) : Bool :=
  (c.flags.testBit 0 || ((c.flags.testBit 3 || c.flags.testBit 4) && !c.flags.testBit 5)) && !c.flags.testBit 7 &&
  decide (c.data.stat / 2 ^ 14 % 4 ≤ 1)

/-- Bucket B is closed (R183). -/
def State.bucketClosed (s : State) (b : Nat) : Bool :=
  match s.header b with
  | some h => h.state == 2 || h.state == 3
  | none => false

/-! ### Signals and bands (R203 to R205) -/

/-- The hidden state of a watcher. -/
def State.ow (s : State) (w : Nat) : OwWatcher := Store.get (fun _ => {}) s.detect.ow w
@[inherit_doc State.ow] def State.setOw (s : State) (w : Nat) (f : OwWatcher → OwWatcher) : State :=
  { s with detect := { s.detect with ow := Store.set (fun _ => {}) s.detect.ow w (f (s.ow w)) } }

/-- The counters of a watcher: 0 DEADLINE, 1 MODAL_DEADLINE, 2 SAMPLE_GAP, 3 RESTART, 4 ENERGY_ON, 5 LOW_DAMP_ON, 6 MODAL_FAIL. -/
def owCnt (w i : Nat) : Cnt := ⟨OW_CNT w i, ⟨OW_STATUS w, 8 + i, 8 + i⟩, EV_DE_CNT_SAT, w, w⟩

/-- An entry of OW_SIG_LIST: slot, phasor, quantity, threshold word. -/
structure SigEntry where
  slot : Nat
  ph : Nat
  qty : Nat
  thr : Nat
deriving DecidableEq, Repr

/-- The signal list of a watcher. -/
def State.sigList (s : State) (w : Nat) : List SigEntry :=
  (s.table 4 w).map fun v => ⟨v % 65536, v / 2 ^ 16 % 256, v / 2 ^ 24 % 256, v / 2 ^ 32⟩

/-- The rate of a watcher. -/
def State.owRate (s : State) (w : Nat) : Nat := frameRate s.fNom (s.get (OW_CFG_RATE w))

/-- The edges of the fixed bands in 0.01 Hz (R205). -/
def bandEdges (b : Nat) : Nat × Nat := ([(10, 100), (80, 250), (200, 800), (500, 2000), (1000, 4000)] : List (Nat × Nat)).getD b (10, 100)

/-- The watcher's value of a signal at bucket B, if the sample is valid (R204). -/
def State.sigValue (s : State) (e : SigEntry) (b : Nat) : Option Rat :=
  match s.goodCell e.slot b with
  | none => none
  | some c =>
    if ¬ cellSound c then none
    else
      let p := c.data.phasors.getD e.ph (0, 0)
      f32Value (if e.qty = 0 then p.1 else if e.qty = 1 then p.2 else if e.qty = 2 then c.data.freq else c.data.rocof)

/-! ### The band filter (R206) -/

/-- A section of the filter: the gain of its numerator 1 − z⁻², and the two denominator coefficients after the leading 1. -/
structure Biquad where
  gain : Rat
  a1 : Rat
  a2 : Rat

/-- The section that the bilinear transform makes of B·s / (s² + α·s + β). -/
def biquadOf (b α β : Rat) : Biquad :=
  let d := 1 + α + β
  ⟨roundF64 (b / d), roundF64 (2 * (β - 1) / d), roundF64 ((1 - α + β) / d)⟩

/-- The two sections of the fourth-order Butterworth band-pass at LO and HI (0.01 Hz) and rate Fs, edges pre-warped: each pole
(−1 + j)/√2 of the low-pass prototype gives the poles (pB ± √(−jB² − 4ω₀²))/2, which with their conjugates are the two sections'. -/
def bandCoef (lo hi fs : Nat) : Biquad × Biquad :=
  let tan (f : Nat) : Rat := let a := piRat * (f : Rat) / ((100 * fs : Nat) : Rat); ratSin a / ratCos a
  let w2 := tan lo * tan hi
  let b := tan hi - tan lo
  let p := b / ratSqrt 2
  let r := ratSqrt (16 * w2 * w2 + b * b * b * b)
  let dx := ratSqrt ((r - 4 * w2) / 2)
  let dy := -ratSqrt ((r + 4 * w2) / 2)
  let section_ (x y : Rat) : Biquad := biquadOf b (-2 * x) (x * x + y * y)
  (section_ ((dx - p) / 2) ((p + dy) / 2), section_ ((-p - dx) / 2) ((p - dy) / 2))

/-- One output of a section from its newest input and its last two inputs and outputs, newest first; rounded once (log 182). -/
def Biquad.step (q : Biquad) (xs ys : List Rat) (x : Rat) : Rat :=
  roundF64 (q.gain * (x - xs.getD 1 0) - q.a1 * ys.getD 0 0 - q.a2 * ys.getD 1 0)

/-- What the filter keeps: the last two inputs, outputs of the first section and outputs, newest first. -/
structure BandLine where
  xs : List Rat := []
  mid : List Rat := []
  ys : List Rat := []

/-- One sample through both sections. -/
def BandLine.step (l : BandLine) (c : Biquad × Biquad) (x : Rat) : BandLine :=
  let m := c.1.step l.xs l.mid x
  ⟨(x :: l.xs).take 2, (m :: l.mid).take 2, (c.2.step l.mid l.ys m :: l.ys).take 2⟩

/-- A list of samples, oldest first, through the filter from rest. -/
def bandPass (c : Biquad × Biquad) (samples : List Rat) : List Rat :=
  (samples.foldl (fun (a : BandLine × List Rat) x =>
    let l := a.1.step c x
    (l, l.ys.headD 0 :: a.2)) ({}, [])).2.reverse

/-! ### Samples (R204, R206, R209) -/

/-- Samples in the RMS window, and in the modal window. -/
def State.energySamples (s : State) (w : Nat) : Nat := s.get (OW_ENERGY_ENERGY_WIN w) * s.owRate w / 10
@[inherit_doc State.energySamples] def State.modalSamples (s : State) (w : Nat) : Nat := s.get (OW_MODAL_WIN w) * s.owRate w

/-- A new sample of one signal: `v` is the cell's value, none where missing. -/
def State.sigSample (s : State) (w : Nat) (c : Biquad × Biquad) (e : SigEntry) (g : OwSignal) (v : Option Rat) : OwSignal :=
  let keepHist := s.modalSamples w
  let keepSq := s.energySamples w
  let feed (g : OwSignal) (x : Rat) (n : Nat) : OwSignal :=
    let l := BandLine.step ⟨g.xs, g.mid, g.ys⟩ c x
    let y := l.ys.headD 0
    { g with xs := l.xs, mid := l.mid, ys := l.ys, squares := (y * y :: g.squares).take keepSq, count := g.count + n }
  match v with
  | some raw =>
    let x := if e.qty = 1 then
        (match g.value, g.raw with
         | some a, some r => roundF64 (a + reduceAngle (raw - r))
         | _, _ => raw)
      else raw
    let g := if g.clear then { g with xs := [], mid := [], ys := [], squares := [], count := 0, clear := false, up := false } else g
    feed { g with value := some x, raw := some raw, gap := 0, hist := (some x :: g.hist).take keepHist } x 1
  | none =>
    let g := { g with gap := g.gap + 1, hist := (none :: g.hist).take keepHist }
    let g := if s.get (OW_MODAL_GAP_MAX w) < g.gap then { g with clear := true } else g
    match g.value with
    | some x => feed g x 0
    | none => g

/-- The mean square of a signal's filter output over the RMS window, if the signal takes part in ENERGY. -/
def State.sigMeanSquare (s : State) (w : Nat) (g : OwSignal) : Option Rat :=
  let n := s.energySamples w
  if g.clear ∨ g.count < n then none else some (ratSum g.squares / (n : Rat))

/-- Whether a signal exceeds at this sample, and its state with the fall-back judged. -/
def State.sigJudge (s : State) (w : Nat) (e : SigEntry) (g : OwSignal) : Bool × OwSignal :=
  let t := f32ToRat e.thr
  match s.sigMeanSquare w g with
  | none => (false, { g with up := false })
  | some m => if t * t < m then (true, { g with up := true }) else if m < (64 : Rat) / 100 * t * t then (false, { g with up := false }) else (false, g)

/-- A condition of a watcher as OW_STATUS shows it. -/
def owCond (w c : Nat) : Fld := ⟨OW_STATUS w, c, c⟩

/-- The four bits of a watcher for the vector. -/
def State.owBits (s : State) (w : Nat) : List (Nat × Bool) := (List.range 4).map fun c => (4 * w + c, s.flag (owCond w c))

/-- The three states of a watcher (log 36); IDLE on a cold standby (R202). -/
def State.owState (s : State) (w : Nat) : State :=
  s.put (OW_STATUS_STATE w) (if ¬ s.flag (OW_CFG_EN w) ∨ s.cold then 0 else if s.modalSamples w ≤ (s.ow w).since ∧ s.energySamples w ≤ (s.ow w).since then 2 else 1)

/-- A watcher restarts (R211): filters, RMS windows and the modal window are cleared; its conditions stand. -/
def State.owRestart (s : State) (w : Nat) : State :=
  let s := s.setOw w fun v => { v with
    signals := (s.sigList w).map fun _ => {}
    since := 0
    onRun := 0
    offRun := 0
    lowRun := 0
    clearRun := 0 }
  (s.count (owCnt w 3)).owState w

/-- ENERGY judged at a sample with `n` signals exceeding and `up` that have not fallen back (R206). -/
def State.owEnergy (s : State) (w n up : Nat) : State :=
  let v := s.ow w
  if v.since < s.energySamples w then s
  else
    let need := s.get (OW_ENERGY_MIN_ALARM w)
    let hold := s.get (OW_ENERGY_HOLD w)
    let on := if need ≤ n then v.onRun + 1 else 0
    let off := if up < need then v.offRun + 1 else 0
    let s := s.setOw w fun v => { v with onRun := on, offRun := off }
    if ¬ s.flag (owCond w 0) ∧ hold ≤ on then
      ((s.put (owCond w 0) 1).count (owCnt w 4)).raise EV_OW_ENERGY sevWarning (s.get (OW_CFG_BAND w)) w
    else if s.flag (owCond w 0) ∧ hold ≤ off then s.put (owCond w 0) 0 else s

/-- SIG_LOSS judged with `n` valid signals (R209). -/
def State.owSigLoss (s : State) (w n : Nat) : State :=
  let lost := decide (n < s.get (OW_DAMP_MIN_SIG w))
  let s' := s.put (owCond w 3) (bit lost)
  if lost ∧ ¬ s.flag (owCond w 3) then s'.raise EV_OW_SIG_LOSS sevWarning w w else s'

/-- One watcher sample with the values of its signals. -/
def State.owTake (s : State) (w : Nat) (vals : List (Option Rat)) : State :=
  let es := s.sigList w
  let band := bandCoef (s.get (OW_BAND_LO w)) (s.get (OW_BAND_HI w)) (s.owRate w)
  let gs := (List.range es.length).map fun i =>
    let e := es.getD i ⟨0, 0, 0, 0⟩
    s.sigJudge w e (s.sigSample w band e ((s.ow w).signals.getD i {}) (vals.getD i none))
  let valid := (vals.filter fun v => v.isSome).length
  let exceed := (gs.filter (·.1)).length
  let s := s.setOw w fun v => { v with signals := gs.map (·.2), since := v.since + 1 }
  let s := s.countN (owCnt w 2) (es.length - valid)
  let s := (s.put (OW_VALID_NVALID w) valid).put (OW_VALID_NEXCEED w) exceed
  ((s.owEnergy w exceed ((gs.filter fun g => g.2.up).length)).owSigLoss w valid).owState w

/-- A modal update comes due at a sample whose instant is a whole multiple of UPDATE seconds, once the window holds WIN / 2 seconds
(R207, R211). -/
def State.owDue (s : State) (w b : Nat) : State :=
  let v := s.ow w
  if bucketInstant s.gridRate b % (s.get (OW_MODAL_UPDATE w) * 1000000000) ≠ 0 ∨ 2 * v.since < s.modalSamples w then s
  else
    let n := min v.since (s.modalSamples w)
    s.setOw w fun v => { v with owed := v.owed ++ [⟨b, n, v.signals.map fun g => g.hist.take n, false⟩] }

/-- An evaluation of a closed bucket that comes within its deadline after the close (R228, R327). -/
def State.closeMet (s : State) (m b extra : Nat) : State :=
  s.deviceMet m (((s.detect.closes.find? fun c => c.1 == b).map fun c => decide (c.2 + extra < s.jobMono)).getD true)

/-- A watcher's sample from closed bucket B. Instants it missed since its last sample are missing samples; more of them than GAP_MAX
restart it (R211, R229). -/
def State.owSample (s : State) (w b : Nat) : State :=
  let step := s.gridRate / s.owRate w
  let v := s.ow w
  let old : Bool := (v.last.map fun l => decide (b ≤ l)).getD false
  if ¬ s.flag (OW_CFG_EN w) ∨ s.cold ∨ b % step ≠ 0 ∨ ¬ s.bucketClosed b ∨ old then s
  else
    let gone := (v.last.map fun l => (b - l) / step - 1).getD 0
    let s := if s.get (OW_MODAL_GAP_MAX w) < gone then (s.countN (owCnt w 2) (gone * (s.sigList w).length)).owRestart w
      else (List.range gone).foldl (fun s _ => s.owTake w ((s.sigList w).map fun _ => none)) s
    let s := (s.cellErrors b ((s.sigList w).map (·.slot))).owTake w ((s.sigList w).map fun e => s.sigValue e b)
    let s := ((s.setOw w fun v => { v with last := some b }).owDue w b).closeMet 6 b 2000000
    s.bucketConds (s.owBits w) b

/-- OW_SAMPLE. -/
def execOwSample (w number : Nat) (s : State) : Host.Outcome State Fault Refusal :=
  onEngines (.owSample w number) s fun s => s.owSample w number

/-! ### The modal estimator (R207 to R210) -/

/-- The longest run of missing samples in a list. -/
def longestGap (l : List (Option Rat)) : Nat :=
  (l.foldl (fun (a : Nat × Nat) v => if v.isNone then (a.1 + 1, max a.2 (a.1 + 1)) else (0, a.2)) (0, 0)).2

/-- The present neighbours of each place in a list of samples: (distance, value) back and forward. -/
def bridge (l : List (Option Rat)) : List Rat :=
  let run (l : List (Option Rat)) : List (Option (Nat × Rat)) :=
    (l.foldl (fun (a : Option (Nat × Rat) × List (Option (Nat × Rat))) v =>
      let cur := match v with
        | some x => some (0, x)
        | none => a.1.map fun p => (p.1 + 1, p.2)
      (cur, a.2 ++ [cur])) (none, [])).2
  ((run l).zip (run l.reverse).reverse).map fun p =>
    match p with
    | (some (i, a), some (j, b)) => if i = 0 then a else roundF64 (a + (b - a) * (i : Rat) / ((i + j : Nat) : Rat))
    | (some (_, a), none) => a
    | (none, some (_, b)) => b
    | (none, none) => 0

/-- The windows of an update, each oldest first, bridged, band-passed and normalised by its threshold; none for a signal left out. -/
def State.modalInputs (s : State) (w : Nat) (u : OwUpdate) : List (Option (List Rat)) :=
  let band := bandCoef (s.get (OW_BAND_LO w)) (s.get (OW_BAND_HI w)) (s.owRate w)
  let es := s.sigList w
  (List.range es.length).map fun i =>
    let h := (u.windows.getD i []).reverse
    if s.get (OW_MODAL_GAP_MAX w) < longestGap h ∨ (h.all fun v => v.isNone) then none
    else some ((bandPass band (bridge h)).map fun x => x / f32ToRat (es.getD i ⟨0, 0, 0, 0⟩).thr)

/-- Damping ratio, and frequency in Hz. -/
def OwMode.damping (m : OwMode) : Rat :=
  let r := ratSqrt (m.sigma * m.sigma + m.omega * m.omega)
  if r = 0 then 0 else -m.sigma / r
@[inherit_doc OwMode.damping] def OwMode.freq (m : OwMode) : Rat := m.omega / (2 * piRat)

/-- The included signals' amplitudes and phases put back at the places of the list. -/
def spread (ins : List (Option (List Rat))) (fit : List (Rat × Rat)) : List (Option (Rat × Rat)) :=
  (ins.foldl (fun (a : List (Option (Rat × Rat)) × List (Rat × Rat)) i =>
    match i, a.2 with
    | some _, f :: rest => (a.1 ++ [some f], rest)
    | _, rest => (a.1 ++ [none], rest)) ([], fit)).1

/-- The modes of an update: poles in the band with a damping ratio below 0.5, ranked by ENERGY, at most NMODE. -/
def State.modes (s : State) (w : Nat) (ins : List (Option (List Rat))) : List OwMode :=
  let lo : Rat := (s.get (OW_BAND_LO w) : Rat) / 100
  let hi : Rat := (s.get (OW_BAND_HI w) : Rat) / 100
  let all := (Config.matrixPencil (2 * (s.get (OW_CFG_NMODE w) + 1) + 8) (s.owRate w) (ins.filterMap id)).map fun p =>
    let shape := spread ins p.2.2
    let amp (i : Nat) : Rat := ((shape.getD i none).map (·.1)).getD (-1)
    let peak := (List.range shape.length).foldl (fun a i => if amp a < amp i then i else a) 0
    ({ sigma := p.1, omega := p.2.1, energy := ratSum (p.2.2.map fun x => x.1 * x.1), namp := max 0 (amp peak), peak, shape } : OwMode)
  let kept := all.filter fun m => decide (lo ≤ m.freq) && decide (m.freq ≤ hi) && decide (m.damping < 1 / 2)
  (kept.mergeSort fun a b => decide (b.energy ≤ a.energy)).take (s.get (OW_CFG_NMODE w) + 1)

/-- 32 bits of a rational. -/
def f32Bytes (r : Rat) : List Byte := leBytes 4 (ratToF32 r)

/-- Amplitude and phase of each signal in a mode (R208): phases relative to the reference signal, or to the mode's peak signal when
that is left out; NaN for a signal left out. -/
def OwMode.shapeBytes (m : OwMode) (es : List SigEntry) (ref : Nat) : List Byte :=
  let r := match m.shape.getD ref none with
    | some x => x.2
    | none => ((m.shape.getD m.peak none).map (·.2)).getD 0
  (List.range 512).flatMap fun i =>
    if es.length ≤ i then List.replicate 8 0
    else
      match m.shape.getD i none with
      | some x => f32Bytes (x.1 * f32ToRat (es.getD i ⟨0, 0, 0, 0⟩).thr) ++ f32Bytes (reduceAngle (x.2 - r))
      | none => leBytes 4 f32NaN ++ leBytes 4 f32NaN

/-- The result record (R210). -/
def State.owRecord (s : State) (w gen seq flags n : Nat) (ins : List (Option (List Rat))) (ms : List OwMode) (stamp : Stamp) : List Byte :=
  let es := s.sigList w
  let ref := s.get (OW_CFG_REF_SIG w)
  let refUsed := if (ins.getD ref none).isSome then ref else (ms.head?.map (·.peak)).getD ref
  stampBytes stamp ++ leBytes 4 gen ++ leBytes 4 seq ++ leBytes 2 w ++ leBytes 1 ms.length ++ leBytes 1 flags ++ leBytes 2 es.length ++
  leBytes 2 (ins.filter (·.isSome)).length ++ leBytes 2 refUsed ++ leBytes 2 0 ++ f32Bytes ((n : Rat) / (s.owRate w : Rat)) ++
  f32Bytes ((s.get (OW_BAND_LO w) : Rat) / 100) ++ f32Bytes ((s.get (OW_BAND_HI w) : Rat) / 100) ++ List.replicate 20 0 ++
  (List.range 4).flatMap (fun i =>
    match ms[i]? with
    | some m => f32Bytes m.freq ++ f32Bytes m.damping ++ f32Bytes m.sigma ++ f32Bytes m.namp ++ f32Bytes m.energy ++ leBytes 2 m.peak ++ List.replicate 10 0
    | none => List.replicate 32 0) ++
  (List.range 4).flatMap (fun i =>
    match ms[i]? with
    | some m => m.shapeBytes es ref
    | none => List.replicate 4096 0)

/-- LOW_DAMP and NEG_DAMP judged at an update (R209, R230). -/
def State.owDamp (s : State) (w : Nat) (ms : List OwMode) : State :=
  let sig := ms.filter fun m => decide ((s.get (OW_DAMP_SIG_FRAC w) : Rat) / 100 ≤ m.namp)
  let low := sig.find? fun m => decide (m.damping < (s.get (OW_DAMP_DAMP_THR w) : Rat) / 10000)
  let neg := sig.find? fun m => decide (m.damping < 0)
  let cause (m : OwMode) : Nat := s.get (OW_CFG_BAND w) * 2 ^ 16 + (m.freq * 10).floor.toNat
  let n := s.get (OW_MODAL_DAMP_COUNT w)
  let v := s.ow w
  let lowRun := if low.isSome then v.lowRun + 1 else 0
  let clearRun := if low.isSome then 0 else v.clearRun + 1
  let s := s.setOw w fun v => { v with lowRun, clearRun }
  let s := match low with
    | some m => if ¬ s.flag (owCond w 1) ∧ n ≤ lowRun then ((s.put (owCond w 1) 1).count (owCnt w 5)).raise EV_OW_LOW_DAMP sevMajor (cause m) w else s
    | none => if n ≤ clearRun then s.put (owCond w 1) 0 else s
  match neg with
  | some m => if s.flag (owCond w 2) then s else (s.put (owCond w 2) 1).raise EV_OW_NEG_DAMP sevCritical (cause m) w
  | none => s.put (owCond w 2) 0

/-- The oldest modal update owed is made (R207 to R210); one that has missed its deadline is made all the same (R228). -/
def State.modalUpdate (s : State) (w : Nat) : State :=
  match (s.ow w).owed with
  | [] => s
  | u :: rest =>
    if ¬ s.flag (OW_CFG_EN w) ∨ s.cold then s
    else
      let t := bucketInstant s.gridRate u.bucket
      let n := u.count
      let ins := s.modalInputs w u
      let ms := s.modes w ins
      let used := (List.range ins.length).filter fun i => (ins.getD i none).isSome
      let gap := used.any fun i => (u.windows.getD i []).any (·.isNone)
      let flags := bit u.late + 2 * bit gap + 4 * bit (decide (n < s.modalSamples w)) + 8 * bit (ins.getD (s.get (OW_CFG_REF_SIG w)) none).isNone
      let s := (s.setOw w fun v => { v with owed := rest, seq := (v.seq + 1) % 2 ^ 32 }).deviceMet 7 u.late
      let s := s.when ms.isEmpty fun s => s.count (owCnt w 6)
      let s := if s.detect.resBase = 0 then s
        else
          let gen := (s.word (OW_RES_GEN w) + 2) % 2 ^ 32
          (s.memWrite (s.detect.resBase + 0x8000 * w) (s.owRecord w gen (s.ow w).seq flags n ins ms (s.stampAt t))).setWord (OW_RES_GEN w) gen
      let s := s.owDamp w ms
      (s.setConds (s.owBits w) (s.stampAt t)).fire (64 + w)

/-- OW_MODAL_UPDATE. -/
def execOwModalUpdate (w : Nat) (s : State) : Host.Outcome State Fault Refusal :=
  onEngines (.owModalUpdate w) s fun s => s.modalUpdate w

/-! ### Load and register writes (R200, R201, R203, R205) -/

/-- References enabled of an island watcher. -/
def State.iwRefs (s : State) (k : Nat) : List Nat := (List.range 16).filter fun j => s.flag (IW_REF_EN k j)

/-- Bits set in the low eight of a number. -/
def maskCount (v : Nat) : Nat := ((List.range 8).filter fun j => v.testBit j).length

/-- Watcher signal samples/s of an oscillation watcher's word and of an island watcher's word. -/
def State.owLoad (s : State) (w : Nat) (c : Word) : Nat := if c.field 0 0 = 0 then 0 else (s.table 4 w).length * frameRate s.fNom (c.field 3 1)
@[inherit_doc State.owLoad] def State.iwLoad (s : State) (k : Nat) (c : Word) : Nat :=
  if c.field 0 0 = 0 then 0
  else
    ((s.iwRefs k).length + 1) * frameRate s.fNom (c.field 3 1) +
    (if c.field 9 8 = 0 then 0 else maskCount (s.get (IW_LOC_CFG_PH_MASK k)) * 2 * s.fNom)

/-- Watcher signal samples/s of every watcher enabled (R20). -/
def State.detectLoad (s : State) : Nat :=
  ((List.range 64).map fun w => s.owLoad w (s.reg (OW_CFG w))).sum + ((List.range 16).map fun k => s.iwLoad k (s.reg (IW_CFG k))).sum

/-- A slot gives a sample at every instant of rate `fs` (R203, R212). -/
def State.slotCovers (s : State) (n fs : Nat) : Bool := decide (n < 8464) && s.hasRing n && s.storedRate n % fs == 0

/-- Why an enable of an oscillation watcher is refused, if it is. -/
def State.owEnableBad (s : State) (w : Nat) (c : Word) : Option Nat :=
  let fs := frameRate s.fNom (c.field 3 1)
  let n := (s.table 4 w).length
  let (lo, hi) := if c.field 6 4 = 5 then (s.get (OW_BAND_LO w), s.get (OW_BAND_HI w)) else bandEdges (c.field 6 4)
  if s.gridRate % fs ≠ 0 ∨ n = 0 ∨ n ≤ c.field 24 16 ∨ n < s.get (OW_DAMP_MIN_SIG w) ∨ n < s.get (OW_ENERGY_MIN_ALARM w) ∨
    40 * fs < hi ∨ lo * s.get (OW_MODAL_WIN w) < 500 then some reasonState
  else if limitDetect s.point < s.get DE_LOAD_LOAD + s.owLoad w c then some reasonLoad else none

/-- Why a write to an OW register is refused, if it is. -/
def oscillationGuard (s : State) (base : Nat) (ix : List Nat) (c : Word) : Option Nat :=
  match base, ix with
  | 0x300000, [w] =>
    let old := s.reg (OW_CFG w)
    if 5 < c.field 6 4 ∨ 4 < c.field 3 1 then some reasonRange
    else if old.field 0 0 = 1 ∧ c.field 31 1 ≠ old.field 31 1 then some reasonState
    else if old.field 0 0 = 0 ∧ c.field 0 0 = 1 then s.owEnableBad w c else none
  | 0x300004, [w] =>
    if s.get (OW_CFG_BAND w) ≠ 5 ∨ (s.flag (OW_CFG_EN w) ∧ s.changes (OW_BAND w) c) then some reasonState
    else if c.field 15 0 = 0 ∨ c.field 31 16 ≤ c.field 15 0 then some reasonRange else none
  | 0x300008, [w] | 0x30000c, [w] | 0x300010, [w] =>
    if s.flag (OW_CFG_EN w) ∧ s.changes (base + 0x100 * w) c then some reasonState else none
  | 0x330004, _ | 0x330008, _ =>
    if (List.range 64).any fun w => s.flag (OW_CFG_EN w) then some reasonState
    else
      let a := if base = 0x330004 then 0 else c.field 15 0 * 2 ^ 32 + s.get DE_RES_BASE_LO_BASE_LO * 2 ^ 21
      if a = 0 ∨ (0x000784000000 ≤ a ∧ a ≤ 0x0007ffe00000) then none else some reasonRange
  | _, _ => none

/-- A watcher's conditions, signals and updates owed cleared. -/
def State.owClean (s : State) (w : Nat) : State :=
  ((s.put (OW_STATUS_COND w) 0).setOw w fun v => { seq := v.seq }).owState w

/-- A watcher enabled: every condition starts at 0 and it restarts; on a cold standby it stays idle (R202). -/
def State.owStart (s : State) (w : Nat) : State :=
  let s := s.owClean w
  let s := if s.cold then s else s.owRestart w
  s.setConds (s.owBits w) s.now

/-- A watcher disabled. -/
def State.owStop (s : State) (w : Nat) : State :=
  let s := (s.setWord (OW_VALID w) 0).owClean w
  s.setConds (s.owBits w) s.now

/-- What an accepted write to those registers does beside storing its fields. -/
def oscillationEffect (base : Nat) (ix : List Nat) (old c : Word) (s : State) : State :=
  match base, ix with
  | 0x300000, [w] =>
    let e := bandEdges (c.field 6 4)
    let s := if c.field 6 4 = 5 then s else s.setWord (OW_BAND w) (e.2 * 65536 + e.1)
    let s := s.put DE_LOAD_LOAD (s.get DE_LOAD_LOAD + s.owLoad w c - s.owLoad w old)
    if old.field 0 0 = 0 ∧ c.field 0 0 = 1 then s.owStart w else if old.field 0 0 = 1 ∧ c.field 0 0 = 0 then s.owStop w else s
  | 0x330008, _ => { s with detect := { s.detect with resBase := c.field 15 0 * 2 ^ 32 + s.get DE_RES_BASE_LO_BASE_LO * 2 ^ 21 } }
  | _, _ => s

/-- The end of a class W reset: every watcher restarts with its conditions at 0 (R211, R229). -/
def State.owWarm (s : State) : State :=
  s.forEach 64 fun w s => if s.flag (OW_CFG_EN w) ∧ ¬ s.cold then (s.owClean w).owRestart w else s

end Sys2Proof.Machine
end

