-- ==== Sys2Proof/Machine/Island.lean ====
section
/-!
DEFINITION. Island watchers (08, R212 to R221, R228, R229): the wide-area criteria against a robust reference, the local fast criteria,
states, fall-back and re-entry, and the ISLAND condition.
-/

namespace Sys2Proof.Machine

/-- The hidden state of a watcher. -/
def State.iw (s : State) (k : Nat) : IwWatcher := Store.get (fun _ => {}) s.detect.iw k
@[inherit_doc State.iw] def State.setIw (s : State) (k : Nat) (f : IwWatcher → IwWatcher) : State :=
  { s with detect := { s.detect with iw := Store.set (fun _ => {}) s.detect.iw k (f (s.iw k)) } }

/-- The counters of a watcher: 0 WA_DEADLINE, 1 LOC_DEADLINE, 2 REF_UNUSABLE, 3 REF_OUTLIER, 4 FALLBACK, 5 ISLAND_ON, 6 H_SKIPPED,
7 LOCAL_BAD. -/
def iwCnt (k i : Nat) : Cnt := ⟨IW_CNT k i, ⟨IW_STATUS k, 24 + i, 24 + i⟩, EV_DE_CNT_SAT, 64 + k, k⟩

/-- The states of IW_STATUS.STATE. -/
abbrev iwIdle : Nat := 0
@[inherit_doc iwIdle] abbrev iwLearn : Nat := 1
@[inherit_doc iwIdle] abbrev iwWide : Nat := 2
@[inherit_doc iwIdle] abbrev iwLocal : Nat := 3

/-- A watcher moves to a state; source 128 + k fires at a change. -/
def State.iwTo (s : State) (k st : Nat) : State :=
  if s.get (IW_STATUS_STATE k) = st then s else (s.put (IW_STATUS_STATE k) st).fire (128 + k)

/-- A condition of a watcher (R199): 0 ISLAND, 1 WA_ANGLE, 2 WA_FREQ, 3 WA_ROCOF, 4 LOC_VS, 5 LOC_ROCOF, 6 FALLBACK, 7 HELD. -/
def iwCond (k c : Nat) : Fld := ⟨IW_STATUS k, c, c⟩

/-- A signed number held to n bits of magnitude, as its field code. -/
def saturated (bits : Nat) (v : Int) : Nat :=
  let top : Int := 2 ^ (bits - 1) - 1
  codeOf bits (max (-top - 1) (min top v))

/-! ### Conditions (R220, R221, R230) -/

/-- The criteria 0 to 4 enabled and asserted. -/
def State.iwAsserted (s : State) (k : Nat) : List Nat :=
  (List.range 5).filter fun c => (s.get (IW_CFG_CRIT_EN k)).testBit c && s.flag (iwCond k (c + 1))

/-- HELD and ISLAND follow the criteria; with LATCH, ISLAND stays. -/
def State.iwIsland (s : State) (k : Nat) : State :=
  let s := s.put (iwCond k 7) (bit ((s.iw k).held != 0))
  let on := s.iwAsserted k
  if s.flag (iwCond k 0) then
    if on.isEmpty ∧ ¬ s.flag (IW_STATUS_LATCHED k) then s.put (iwCond k 0) 0 else s
  else
    match on with
    | [] => s
    | c :: _ =>
      let s := (s.put (iwCond k 0) 1).put (IW_STATUS_LATCHED k) (s.get (IW_CFG_LATCH k))
      (s.count (iwCnt k 5)).raise EV_IW_ISLAND sevCritical c k

/-- A criterion asserts. -/
def State.iwAssert (s : State) (k c : Nat) : State :=
  if s.flag (iwCond k (c + 1)) then s else (s.put (iwCond k (c + 1)) 1).raise EV_IW_CRIT sevNotice k k c

/-- The eight bits of a watcher for the vector. -/
def State.iwBits (s : State) (k : Nat) : List (Nat × Bool) := (List.range 8).map fun c => (256 + 8 * k + c, s.flag (iwCond k c))

/-! ### References (R213) -/

/-- The local cell and phasor at bucket B, sound apart from quality: angle, frequency, ROCOF, quality code. -/
def State.phasorAt (s : State) (slot ph b : Nat) : Option (Rat × Rat × Rat × Nat) :=
  match s.goodCell slot b with
  | some c =>
    match f32Value (c.data.phasors.getD ph (0, 0)).2, f32Value c.data.freq, f32Value c.data.rocof with
    | some a, some f, some r => if cellSound c then some (a, f, r, c.data.qual) else none
    | _, _, _ => none
  | none => none

/-- A quality code is usable under REF_Q. -/
def State.qualOk (s : State) (k q : Nat) : Bool := s.get (IW_CFG_REF_Q k) == 15 || decide (q ≤ s.get (IW_CFG_REF_Q k))

/-- The median of a list. -/
def median (l : List Rat) : Rat :=
  let l := l.mergeSort fun a b => decide (a ≤ b)
  let n := l.length
  if n % 2 = 1 then l.getD (n / 2) 0 else (l.getD (n / 2 - 1) 0 + l.getD (n / 2) 0) / 2

/-- The circular median: values rotated by a previous median, and the median rotated back. -/
def circMedian (prev : Rat) (l : List Rat) : Rat := reduceAngle (reduceAngle (median (l.map fun d => reduceAngle (d - prev))) + prev)

/-- Milliradians and millihertz as rationals. -/
def milli (n : Nat) : Rat := (n : Rat) / 1000

/-- What a wide-area evaluation measures: usable references, those that remain, the median, Δf and ΔR. -/
structure WideMeasure where
  usable : List Nat
  valid : Nat
  outliers : Nat
  m : Rat
  df : Rat
  dr : Rat

/-- The measures of bucket B against a local phasor (R213). -/
def State.wideMeasure (s : State) (k b : Nat) (loc : Rat × Rat × Rat × Nat) : WideMeasure :=
  let prev := (s.iw k).prev
  let refs := (s.iwRefs k).filterMap fun j => (s.phasorAt (s.get (IW_REF_SLOT k j)) (s.get (IW_REF_PH k j)) b).bind fun p =>
    if s.qualOk k p.2.2.2 then some (j, reduceAngle (p.1 + (s.getS (IW_REF_OFS_OFS k j) : Rat) / 1000 - loc.1), p.2.1, p.2.2.1) else none
  let m0 := circMedian prev (refs.map fun r => r.2.1)
  let kept := refs.filter fun r => decide (ratAbs (reduceAngle (r.2.1 - m0)) ≤ milli (s.get (IW_WA_THR2_OUTLIER k)))
  let m := if kept.isEmpty then prev else circMedian prev (kept.map fun r => r.2.1)
  { usable := refs.map (·.1), valid := kept.length, outliers := refs.length - kept.length, m,
    df := loc.2.1 - median (kept.map fun r => r.2.2.1), dr := loc.2.2.1 - median (kept.map fun r => r.2.2.2) }

/-! ### Wide-area criteria (R214, R215, R219, R220) -/

/-- Whether a held condition may be released by its criterion: in WIDE, the angle only against a baseline never reseeded since. -/
def State.mayRelease (s : State) (k c : Nat) : Bool :=
  let v := s.iw k
  !v.held.testBit c || (s.get (IW_STATUS_STATE k) == iwWide && (c != 0 || !v.reseeded))

/-- One evaluation of a wide-area criterion c with its count. -/
def State.criterion (s : State) (k c need : Nat) (exceeds : Bool) : State :=
  let v := s.iw k
  let run := if exceeds then v.runs.getD c 0 + 1 else 0
  let clear := if exceeds then 0 else v.clears.getD c 0 + 1
  let s := s.setIw k fun v => { v with runs := v.runs.set c run, clears := v.clears.set c clear }
  if exceeds then (if need ≤ run then s.iwAssert k c else s)
  else if s.flag (iwCond k (c + 1)) ∧ s.get (IW_WA_CNT_CLEAR_COUNT k) ≤ clear ∧ s.mayRelease k c then
    (s.put (iwCond k (c + 1)) 0).setIw k fun v => { v with held := if v.held.testBit c then v.held - 2 ^ c else v.held }
  else s

/-- The baseline set, or invalid. -/
def State.setBase (s : State) (k : Nat) (b : Option Rat) : State :=
  let s := s.setIw k fun v => { v with base := b }
  match b with
  | some x => (s.put (IW_STATUS_BASE_VALID k) 1).setWord (IW_BASE k) (ratToF32 x)
  | none => s.put (IW_STATUS_BASE_VALID k) 0

/-- The baseline invalid: the next evaluation in LEARN seeds it again. -/
def State.baseLost (s : State) (k : Nat) : State :=
  let s := s.setBase k none
  s.setIw k fun v => { v with seedAt := none, reseeded := v.held.testBit 0, runs := v.runs.set 0 0, clears := v.clears.set 0 0 }

/-- The baseline moves toward Δθ (R214). -/
def State.track (s : State) (k : Nat) (dth : Rat) : State :=
  match (s.iw k).base with
  | some b =>
    if s.flag (iwCond k 1) ∨ (s.iw k).runs.getD 0 0 ≠ 0 then s
    else s.setBase k (some (roundF64 (reduceAngle (b + reduceAngle (dth - b) / ((s.get (IW_WA_TIME_BASE_TC k) * frameRate s.fNom (s.get (IW_CFG_RATE k)) : Nat) : Rat)))))
  | none => (s.setBase k (some dth)).setIw k fun v => { v with seedAt := some s.jobMono }

/-- D, where the baseline is valid. -/
def State.deviation (s : State) (k : Nat) (dth : Rat) : Option Rat := (s.iw k).base.map fun b => reduceAngle (dth - b)

/-- An evaluation that is not degraded: `angle` says that the angle criterion is not suspended. -/
def State.soundEval (s : State) (k : Nat) (w : WideMeasure) (angle : Bool) : State :=
  let dth := -w.m
  let st := s.get (IW_STATUS_STATE k)
  let d := s.deviation k dth
  let s := s.setIw k fun v => { v with bad := 0, good := v.good + 1 }
  let s := s.put (IW_DIV_DF k) (saturated 16 (roundEven (w.df * 1000)))
  let s := match d with
    | some x => if angle then s.put (IW_DIV_D k) (saturated 16 (roundEven (x * 1000))) else s
    | none => s
  let within : Bool := match d with
    | some x => angle && decide (ratAbs x ≤ milli (s.get (IW_WA_THR_ANG_THR k)))
    | none => false
  let freqs (s : State) : State :=
    (s.criterion k 1 (s.get (IW_WA_CNT_F_COUNT k)) (decide (milli (s.get (IW_WA_THR_FREQ_THR k)) < ratAbs w.df))).criterion k 2
      (s.get (IW_WA_CNT_R_COUNT k)) (decide (milli (s.get (IW_WA_THR2_ROCOF_THR k)) < ratAbs w.dr))
  if st = iwLearn then freqs (if angle then s.track k dth else s)
  else if st = iwWide then
    let s := if angle ∧ d.isSome then s.criterion k 0 (s.get (IW_WA_CNT_A_COUNT k)) (!within) else s
    freqs (if angle then s.track k dth else s)
  else if st = iwLocal ∧ s.get (IW_WA_TIME2_REENTRY k) ≤ (s.iw k).good then
    let s := (s.put (iwCond k 6) 0).raise EV_IW_REENTRY sevNotice k k
    let s := s.setIw k fun v => { v with good := 0 }
    if within then s.iwTo k iwWide else (s.baseLost k).iwTo k iwLearn
  else s

/-- A degraded evaluation; FB_COUNT of them in a row send the watcher to LOCAL with its asserted conditions held. -/
def State.degradedEval (s : State) (k : Nat) : State :=
  let st := s.get (IW_STATUS_STATE k)
  let s := s.setIw k fun v => { v with bad := v.bad + 1, good := 0 }
  if (st = iwLearn ∨ st = iwWide) ∧ s.get (IW_WA_TIME2_FB_COUNT k) ≤ (s.iw k).bad then
    let held := (List.range 3).foldl (fun a c => if s.flag (iwCond k (c + 1)) then a + 2 ^ c else a) 0
    let s := s.setIw k fun v => { v with held, reseeded := if v.held.testBit 0 then v.reseeded else false }
    let s := ((s.put (iwCond k 6) 1).count (iwCnt k 4)).iwTo k iwLocal
    s.raise EV_IW_FALLBACK sevMajor (s.iw k).lostGroup k
  else s

/-- A wide-area evaluation on closed bucket B. -/
def State.wideEval (s : State) (k b : Nat) : State :=
  let v := s.iw k
  let step := s.gridRate / frameRate s.fNom (s.get (IW_CFG_RATE k))
  let old : Bool := (v.last.map fun l => decide (b ≤ l)).getD false
  if ¬ s.flag (IW_CFG_EN k) ∨ s.cold ∨ b % step ≠ 0 ∨ ¬ s.bucketClosed b ∨ old then s
  else
    let s := s.cellErrors b ((8192 + s.get (IW_CFG_LOCAL_FN k)) :: (s.iwRefs k).map fun j => s.get (IW_REF_SLOT k j))
    let here := s.phasorAt (8192 + s.get (IW_CFG_LOCAL_FN k)) (s.get (IW_CFG_LOCAL_PH k)) b
    let w := s.wideMeasure k b (here.getD (0, 0, 0, 15))
    let lost := v.usable.filter fun j => !w.usable.contains j
    let s := s.countN (iwCnt k 2) ((s.iwRefs k).length - w.usable.length)
    let s := s.setIw k fun v => { v with
      last := some b
      usable := w.usable
      lostGroup := match lost.getLast? with
        | some j => s.get (AE_SLOT_SRC_GROUP (s.get (IW_REF_SLOT k j)))
        | none => v.lostGroup }
    let s := match here with
      | none => ((s.count (iwCnt k 7)).put (IW_STATUS_NVALID k) 0).degradedEval k
      | some p =>
        let s := (s.countN (iwCnt k 3) w.outliers).put (IW_STATUS_NVALID k) w.valid
        let s := if w.valid = 0 then s else s.setIw k fun v => { v with prev := w.m }
        if w.valid < s.get (IW_CFG_MIN_REF k) then s.degradedEval k else s.soundEval k w (s.qualOk k p.2.2.2)
    let s := (s.iwIsland k).closeMet 8 b 1500000
    s.bucketConds (s.iwBits k) b

/-- IW_WA_EVAL. -/
def execIwWaEval (k number : Nat) (s : State) : Host.Outcome State Fault Refusal :=
  onEngines (.iwWaEval k number) s fun s => s.wideEval k number

/-- LEARN seconds have passed since the seed (R219). -/
def State.learnEnd (s : State) (k : Nat) : State :=
  match (s.iw k).seedAt with
  | some t =>
    if s.get (IW_STATUS_STATE k) = iwLearn ∧ (s.iw k).base.isSome ∧ t + s.get (IW_WA_TIME_LEARN k) * 1000000000 ≤ s.jobMono then s.iwTo k iwWide else s
  | none => s

/-- IW_LEARN_END. -/
def execIwLearnEnd (k : Nat) (s : State) : Host.Outcome State Fault Refusal := onEngines (.iwLearnEnd k) s fun s => s.learnEnd k

/-! ### Local fast criteria (R216 to R218) -/

/-- The thresholds in force: those of IW_LOC_FB in LOCAL. -/
def State.vsThr (s : State) (k : Nat) : Rat :=
  milli (if s.get (IW_STATUS_STATE k) = iwLocal then s.get (IW_LOC_FB_VS_THR k) else s.get (IW_LOC_THR_VS_THR k))
@[inherit_doc State.vsThr] def State.rocofThr (s : State) (k : Nat) : Rat :=
  milli (if s.get (IW_STATUS_STATE k) = iwLocal then s.get (IW_LOC_FB_ROCOF_THR k) else s.get (IW_LOC_THR_ROCOF_THR k))

/-- The phasors of PH_MASK. -/
def State.locMask (s : State) (k : Nat) : List Nat := (List.range 8).filter fun j => (s.get (IW_LOC_CFG_PH_MASK k)).testBit j

/-- The half-cycle estimate of a phasor for half-cycle n: none before it exists, and whether it may be used (R218). -/
def State.halfAt (s : State) (m j n : Nat) : Option HalfRec := (s.halfLink m j).recs.find? fun r => r.num == n
@[inherit_doc State.halfAt] def halfUsable (r : HalfRec) : Bool := r.flags &&& 0x8f == 0 && f32Finite r.ang

/-- A phasor of an earlier half-cycle of the local path. -/
def IwWatcher.at (v : IwWatcher) (n i : Nat) : Option LocPhasor := (v.halves.find? fun h => h.num == n).bind fun h => h.phasors.getD i none

/-- The mean of the frequencies used in half-cycles n − 9 to n − 2, once eight half-cycles exist since the restart. -/
def IwWatcher.meanFreq (v : IwWatcher) (n i : Nat) : Option Rat :=
  let fs := (List.range 8).filterMap fun d => (v.at (n - 2 - d) i).bind (·.used)
  if v.since < 9 ∨ fs.isEmpty then none else some (ratSum fs / (fs.length : Rat))

/-- The vector shift of phasor i at n (R216). -/
def vectorShift (v : IwWatcher) (fnom n i : Nat) (ang : Rat) : Option Rat :=
  match v.at (n - 1) i, v.meanFreq n i with
  | some p, some f => some (reduceAngle (ang - p.ang - piRat * (f - (fnom : Rat)) / (fnom : Rat)))
  | _, _ => none

/-- That phasor's last frequency not replaced. -/
def IwWatcher.lastFreq (v : IwWatcher) (i : Nat) : Option Rat :=
  v.halves.foldl (fun a h => match a with
    | some x => some x
    | none => (h.phasors.getD i none).bind fun p => if p.used = p.freq then p.freq else none) none

/-- Half-cycle n of the local path: one entry for each phasor of PH_MASK (R216 to R218). -/
def State.localHalf (s : State) (k n : Nat) : LocHalf :=
  let v := s.iw k
  let m := s.get (IW_CFG_LOCAL_FN k)
  let raw := (s.locMask k).zipIdx.map fun (ji : Nat × Nat) => (s.halfAt m ji.1 n).bind fun r =>
    if halfUsable r then some (f32ToRat r.ang, f32Value r.freq, vectorShift v s.fNom n ji.2 (f32ToRat r.ang), ji.2) else none
  let jump := raw.any fun p => ((p.bind fun x => x.2.2.1).map fun x => decide (s.vsThr k / 2 < ratAbs x)).getD false
  { num := n, phasors := raw.map fun p => p.map fun x => {
      ang := x.1, freq := x.2.1, used := if jump then v.lastFreq x.2.2.2 else x.2.1, shift := x.2.2.1,
      exceed := (x.2.2.1.map fun y => decide (s.vsThr k < ratAbs y)).getD false } }

/-- LOC_VS asserts at half-cycle n (R216). -/
def State.vsFires (s : State) (k : Nat) (h : LocHalf) : Bool :=
  let need := s.get (IW_LOC_CFG_VOTE k) + 1
  let count (f : Nat → LocPhasor → Bool) : Nat :=
    (h.phasors.zipIdx.filter fun (pi : Option LocPhasor × Nat) => (pi.1.map fun p => f pi.2 p).getD false).length
  if s.get (IW_LOC_CFG_VS_CONFIRM k) = 0 then decide (need ≤ count fun _ p => p.exceed)
  else
    let v := s.iw k
    let before (i : Nat) : Option LocPhasor := v.at (h.num - 1) i
    let was := (List.range h.phasors.length).filter fun i => ((before i).map (·.exceed)).getD false
    decide (need ≤ was.length) && decide (need ≤ count fun i p =>
      match before i, p.shift with
      | some q, some x => q.exceed && (q.shift.map fun y => decide (s.vsThr k / 2 < ratAbs (y + x))).getD false
      | _, _ => false)

/-- Phasors whose ROCOF exceeds at half-cycle n (R217); one not used at the half-cycle before takes no part (R218). -/
def State.rocofCount (s : State) (k : Nat) (h : LocHalf) : Nat :=
  let v := s.iw k
  let n := s.get (IW_LOC_CFG_ROCOF_N k)
  (h.phasors.zipIdx.filter fun (pi : Option LocPhasor × Nat) =>
    match pi.1.bind (·.used), (v.at (h.num - n) pi.2).bind (·.used), v.at (h.num - 1) pi.2 with
    | some a, some b, some _ => decide (s.rocofThr k < ratAbs ((a - b) * ((2 * s.fNom : Nat) : Rat) / (n : Rat)))
    | _, _, _ => false).length

/-- The local path restarts (R218): its half-cycles are forgotten, its conditions stand and deassert under their own rules. -/
def State.locRestart (s : State) (k : Nat) : State :=
  s.setIw k fun v => { v with halves := [], since := 0, unused := 0, rocofRun := 0 }

/-- The half-cycle to evaluate next: the oldest after the last evaluated of which any phasor of PH_MASK has an estimate (R228), or the
newest of all where none has been. -/
def State.nextHalf (s : State) (k : Nat) : Option Nat :=
  let nums := (s.locMask k).flatMap fun j => (s.halfLink (s.get (IW_CFG_LOCAL_FN k)) j).recs.map (·.num)
  match (s.iw k).lastHalf with
  | some l => (nums.filter fun n => decide (l < n)).min?
  | none => nums.max?

/-- LOC_ROCOF judged at a half-cycle with `n` phasors exceeding. -/
def State.locRocof (s : State) (k n : Nat) : State :=
  let need := s.get (IW_LOC_CFG_ROCOF_COUNT k)
  let v := s.iw k
  let exceeds := decide (s.get (IW_LOC_CFG_VOTE k) + 1 ≤ n)
  let run := if exceeds then v.rocofRun + 1 else 0
  let off := if exceeds then 0 else v.rocofOff + 1
  let s := s.setIw k fun v => { v with rocofRun := run, rocofOff := off }
  if need ≤ run then s.iwAssert k 4 else if need ≤ off then s.put (iwCond k 5) 0 else s

/-- Half-cycles that no phasor has an estimate of: none exceeds in them (R217). -/
def State.locMissed (s : State) (k skipped : Nat) : State :=
  if skipped = 0 then s
  else
    let off := (s.iw k).rocofOff + skipped
    let s := s.setIw k fun v => { v with rocofRun := 0, rocofOff := off }
    if s.get (IW_LOC_CFG_ROCOF_COUNT k) ≤ off then s.put (iwCond k 5) 0 else s

/-- A local evaluation at half-cycle n; a half-cycle without an estimate is an unused one (R218). -/
def State.localAt (s : State) (k n : Nat) : State :=
  let m := s.get (IW_CFG_LOCAL_FN k)
  let recs := (s.locMask k).map fun j => s.halfAt m j n
  let step := recs.any fun r => (r.map fun r => r.flags.testBit 7).getD false
  let bad := (recs.filter fun r => !((r.map halfUsable).getD false)).length
  let s := s.countN (iwCnt k 6) bad
  let skipped : Nat := ((s.iw k).lastHalf.map fun l => n - l - 1).getD 0
  let none_ := decide (bad = recs.length)
  let run := (s.iw k).unused + skipped + bit none_
  let over_ := step || decide (2 < run)
  let s := (s.setIw k fun v => { v with lastHalf := some n, unused := if none_ then run else 0 }).locMissed k skipped
  let s := if over_ then s.locRestart k else s
  if step ∨ (over_ ∧ none_) then s.locRocof k 0
  else
    let h := s.localHalf k n
    let vs := s.vsFires k h
    let rc := s.rocofCount k h
    let s := s.setIw k fun v => { v with halves := (h :: v.halves).take 64, since := v.since + (if over_ then 0 else skipped) + 1 }
    let s := if vs then (s.iwAssert k 3).setIw k fun v => { v with vsEnds := some (s.jobMono + s.get (IW_LOC_HOLD_VS_HOLD k) * 1000000) } else s
    s.locRocof k rc

/-- A local evaluation on the half-cycle estimates of the local function. -/
def State.localEval (s : State) (k : Nat) : State :=
  if ¬ s.flag (IW_CFG_EN k) ∨ s.cold then s
  else
    match s.nextHalf k with
    | some n =>
      let due := (s.locMask k).foldl (fun a j => max a (s.halfDue (s.get (IW_CFG_LOCAL_FN k)) j n + 100000)) 0
      let s := ((s.localAt k n).iwIsland k).deviceMet 9 (decide (due < s.jobTai))
      s.setConds (s.iwBits k) (s.stampAt (halfInstant s.fNom n))
    | none => s

/-- IW_LOCAL_EVAL. -/
def execIwLocalEval (k : Nat) (s : State) : Host.Outcome State Fault Refusal := onEngines (.iwLocalEval k) s fun s => s.localEval k

/-- VS_HOLD after its last assertion, LOC_VS deasserts (R216). -/
def State.vsHoldEnd (s : State) (k : Nat) : State :=
  match (s.iw k).vsEnds with
  | some t =>
    if t ≤ s.jobMono then
      let s := (s.put (iwCond k 4) 0).setIw k fun v => { v with vsEnds := none }
      (s.iwIsland k).setConds ((s.iwIsland k).iwBits k) s.now
    else s
  | none => s

/-- LOC_VS_HOLD_END. -/
def execLocVsHoldEnd (k : Nat) (s : State) : Host.Outcome State Fault Refusal := onEngines (.locVsHoldEnd k) s fun s => s.vsHoldEnd k

/-! ### Register writes, time steps, resets (R200, R201, R212, R219 to R221, R229) -/

/-- Why an enable of an island watcher is refused, if it is. -/
def State.iwEnableBad (s : State) (k : Nat) (c : Word) : Option Nat :=
  let fs := frameRate s.fNom (c.field 3 1)
  let refs := s.iwRefs k
  let fn := c.field 13 10
  let fast := decide (c.field 9 8 ≠ 0)
  let badFast := fast && ((s.locMask k).any (fun j => decide (s.localPhasors fn ≤ j)) ||
    decide (maskCount (s.get (IW_LOC_CFG_PH_MASK k)) < s.get (IW_LOC_CFG_VOTE k) + 1) || !s.flag (PE_FN_CFG_H_EN fn))
  if s.gridRate % fs ≠ 0 ∨ refs.isEmpty ∨ refs.length < c.field 21 17 ∨ ¬ s.slotCovers (8192 + fn) fs ∨
    (refs.any fun j => !s.slotCovers (s.get (IW_REF_SLOT k j)) fs) ∨ badFast then some reasonState
  else if limitDetect s.point < s.get DE_LOAD_LOAD + s.iwLoad k c then some reasonLoad else none

/-- Why a write to an IW register is refused, if it is. -/
def islandGuard (s : State) (base : Nat) (ix : List Nat) (c : Word) : Option Nat :=
  match base, ix with
  | 0x310000, [k] =>
    let old := s.reg (IW_CFG k)
    if 4 < c.field 3 1 ∨ c.field 21 17 = 0 ∨ 16 < c.field 21 17 ∨ (7 < c.field 25 22 ∧ c.field 25 22 ≠ 15) then some reasonRange
    else if old.field 0 0 = 1 ∧ c.field 31 1 ≠ old.field 31 1 then some reasonState
    else if old.field 0 0 = 0 ∧ c.field 0 0 = 1 then s.iwEnableBad k c else none
  | 0x310104, [k, j] =>
    let o := signedOf 16 (c.field 15 0)
    if o < -3142 ∨ 3142 < o then some reasonRange else if s.flag (IW_CFG_EN k) ∧ s.changes (IW_REF_OFS k j) c then some reasonState else none
  | 0x310004, [k] | 0x310008, [k] | 0x31000c, [k] | 0x310010, [k] | 0x310014, [k] | 0x310018, [k] | 0x31001c, [k] | 0x310020, [k]
  | 0x310024, [k] => if s.flag (IW_CFG_EN k) ∧ s.changes (base + 0x200 * k) c then some reasonState else none
  | 0x310100, [k, j] => if s.flag (IW_CFG_EN k) ∧ s.changes (IW_REF k j) c then some reasonState else none
  | _, _ => none

/-- A watcher's conditions, holds, latch and baseline cleared, in a state. -/
def State.iwClean (s : State) (k st : Nat) : State :=
  let s := (s.put (IW_STATUS_COND k) 0).put (IW_STATUS_LATCHED k) 0
  ((s.setIw k fun _ => {}).setBase k none).iwTo k st

/-- A watcher enabled: conditions 0, baseline invalid, LEARN; IDLE on a cold standby (R202). -/
def State.iwStart (s : State) (k : Nat) : State :=
  let s := s.iwClean k (if s.cold then iwIdle else iwLearn)
  s.setConds (s.iwBits k) s.now

/-- A watcher disabled: conditions, holds and latch cleared, IDLE. -/
def State.iwStop (s : State) (k : Nat) : State :=
  let s := s.iwClean k iwIdle
  s.setConds (s.iwBits k) s.now

/-- IW_CTRL.CLEAR (R220, R221): in WIDE or LEARN the held conditions whose criterion no longer holds are released; the latch goes
when every enabled condition is 0. -/
def State.iwClear (s : State) (k : Nat) : State :=
  let st := s.get (IW_STATUS_STATE k)
  let s := if st = iwWide ∨ st = iwLearn then
      (List.range 3).foldl (fun s c =>
        if (s.iw k).held.testBit c ∧ (s.iw k).runs.getD c 0 = 0 then
          (s.put (iwCond k (c + 1)) 0).setIw k fun v => { v with held := v.held - 2 ^ c }
        else s) s
    else s
  let s := if (s.iwAsserted k).isEmpty then s.put (IW_STATUS_LATCHED k) 0 else s
  let s := s.iwIsland k
  s.setConds (s.iwBits k) s.now

/-- What an accepted write to those registers does beside storing its fields. -/
def islandEffect (base : Nat) (ix : List Nat) (old c : Word) (s : State) : State :=
  match base, ix with
  | 0x310000, [k] =>
    let s := s.put DE_LOAD_LOAD (s.get DE_LOAD_LOAD + s.iwLoad k c - s.iwLoad k old)
    if old.field 0 0 = 0 ∧ c.field 0 0 = 1 then s.iwStart k else if old.field 0 0 = 1 ∧ c.field 0 0 = 0 then s.iwStop k else s
  | 0x310028, [k] => if c.field 0 0 = 1 ∧ s.flag (IW_CFG_EN k) then s.iwClear k else s
  | _, _ => s

/-- A time step (R219, R229): the baselines are invalid and the local paths restart; a watcher not in LOCAL learns again. -/
def State.islandStep (s : State) : State :=
  s.forEach 16 fun k s =>
    if s.flag (IW_CFG_EN k) ∧ ¬ s.cold then
      let s := (s.baseLost k).locRestart k
      if s.get (IW_STATUS_STATE k) = iwLocal then s else s.iwTo k iwLearn
    else s

/-- The end of a class W reset (R219, R221, R229): as a time step, and conditions neither held nor latched start at 0. In LOCAL the
FALLBACK condition stands with the state (log 37). -/
def State.islandWarm (s : State) : State :=
  (s.forEach 16 fun k s =>
    if s.flag (IW_CFG_EN k) ∧ ¬ s.cold then
      let v := s.iw k
      let keep := bit (s.flag (IW_STATUS_LATCHED k)) + v.held % 8 * 2 + bit (s.get (IW_STATUS_STATE k) == iwLocal) * 64
      (s.put (IW_STATUS_COND k) keep).setIw k fun v => { v with runs := [0, 0, 0], clears := [0, 0, 0], bad := 0, good := 0, prev := 0, vsEnds := none, last := none, lastHalf := none }
    else s).islandStep.forEach 16 fun k s => if s.flag (IW_CFG_EN k) ∧ ¬ s.cold then s.iwIsland k else s

end Sys2Proof.Machine
end

