-- ==== Sys2Proof/Machine/Alarm.lean ====
section
/-!
DEFINITION. The alarm router (08, R222 to R230): rules, pins, injected-trigger lines, records, and the deadlines of detection.
-/

namespace Sys2Proof.Machine

/-! ### Pins (R224, R425) -/

/-- The level a pin has: AL_PIN_CFG.POL applied to its computed level where pins are driven, to the inactive level elsewhere. -/
def State.pinLevel (s : State) (p : Nat) : Bool := (s.flag AL_STATUS_DRIVE && (s.get AL_STATUS_PINS).testBit p) != s.flag (AL_PIN_CFG_POL p)

/-- The levels of the eight pins. -/
def State.pinLevels (s : State) : List Bool := (List.range 8).map s.pinLevel

/-- Every pin whose level differs from one before is stamped, and the computed levels enter the vector, with what else the cause of the
change gives the vector. -/
def State.settlePins (s : State) (before : List Bool) (more : List (Nat × Bool) := []) (data : Option Stamp := none) : State :=
  let s := s.forEach 8 fun p s =>
    if s.pinLevel p = before.getD p false then s
    else
      let sec := s.time.tai / 1000000000
      let s := (s.put (AL_PIN_TS_NS_NS p) (s.time.tai % 1000000000)).setWord (AL_PIN_TS_SEC_LO p) sec
      (s.put (AL_PIN_TS_SEC_HI_SEC_HI p) (sec / 2 ^ 32)).emit (.alarmPin p (s.pinLevel p))
  s.setConds (more ++ (List.range 8).map fun p => (464 + p, (s.get AL_STATUS_PINS).testBit p)) (data.getD s.now)

/-- The level the rules and the force give a pin. -/
def State.computedPin (s : State) (p : Nat) : Bool :=
  if s.flag (AL_PIN_CFG_FORCE_EN p) then s.flag (AL_PIN_CFG_FORCE_LVL p)
  else (List.range 32).any fun r => (s.get (AL_RULE_CFG_PIN_MASK r)).testBit p && s.flag (AL_RULE_STAT_ON r)

/-- AL_STATUS made to show the computed levels, held while the levels of a class W reset stand, and whether the pins are driven. -/
def State.computePins (s : State) : State :=
  let levels := match s.detect.pinsHeld with
    | some v => v
    | none => ((List.range 8).map fun p => bit (s.computedPin p) * 2 ^ p).sum
  (s.put AL_STATUS_PINS levels).put AL_STATUS_DRIVE (bit (s.drives && s.meter.configLoaded))

/-- The pins brought to the levels that now hold. -/
def State.refreshPins (s : State) : State := s.computePins.settlePins s.pinLevels

/-- A class W reset takes effect: every pin takes its RESET_LVL. -/
def State.pinsWarm (s : State) : State :=
  let one (p : Nat) : Bool :=
    if s.get (AL_PIN_CFG_RESET_LVL p) = 0 then (s.get AL_STATUS_PINS).testBit p else s.get (AL_PIN_CFG_RESET_LVL p) == 2
  State.refreshPins { s with detect := { s.detect with pinsHeld := some ((List.range 8).map fun p => bit (one p) * 2 ^ p).sum } }

/-! ### Rules (R222) -/

/-- What the router remembers of a rule. -/
def State.rule (s : State) (r : Nat) : RuleLink := Store.get (fun _ => {}) s.detect.rules r
@[inherit_doc State.rule] def State.setRule (s : State) (r : Nat) (f : RuleLink → RuleLink) : State :=
  { s with detect := { s.detect with rules := Store.set (fun _ => {}) s.detect.rules r (f (s.rule r)) } }

/-- A counter of the router. -/
def alCnt (i : Nat) : Cnt := ⟨AL_CNT i, ⟨AL_SAT, i, i⟩, EV_DE_CNT_SAT, 0xff, i⟩

/-- Source i of a rule: enabled, inverted, vector bit. -/
def State.ruleSource (s : State) (r i : Nat) : Bool × Bool × Nat :=
  let h := s.word (AL_RULE_SRC r (i / 2)) / 2 ^ (16 * (i % 2))
  (h.testBit 15, h.testBit 14, h % 512)

/-- The enabled sources of a rule that are true under a vector, as a mask. -/
def State.trueSources (s : State) (r vector : Nat) : Nat :=
  ((List.range 8).map fun i =>
    let (en, inv, b) := s.ruleSource r i
    bit (en && (vector.testBit b != inv)) * 2 ^ i).sum

/-- Enabled sources of a rule. -/
def State.enabledSources (s : State) (r : Nat) : Nat := ((List.range 8).filter fun i => (s.ruleSource r i).1).length

/-- An edge of a rule's ON: the rule, whether it rose, whether its latch held ON. -/
structure RuleEdge where
  rule : Nat
  rise : Bool
  latched : Bool
deriving DecidableEq, Repr

/-- ON of a rule brought to what its raw state, MIN_ON and latch give; the edge, if it made one. A rule with EN = 0 is off. -/
def State.settleRule (s : State) (r : Nat) : State × Option RuleEdge :=
  let v := s.rule r
  let on := s.flag (AL_RULE_STAT_ON r)
  let latched := s.flag (AL_RULE_STAT_LATCHED r)
  let held := (v.onUntil.map fun t => decide (s.jobMono < t)).getD false
  let now := s.flag (AL_RULE_CFG_EN r) && (v.raw || latched || held)
  let t := if now then s else (s.put (AL_RULE_STAT_LATCHED r) 0).setRule r fun v => { v with onUntil := none }
  if now = on then (t, none)
  else
    let t := t.put (AL_RULE_STAT_ON r) (bit now)
    let t := if now then t.setRule r fun v => { v with onUntil := some (s.jobMono + s.get (AL_RULE_MINON_MIN_ON r) * 1000000) } else t
    (t, some ⟨r, now, latched⟩)

/-- A rule evaluated on a vector: its raw state, and the latch that takes over where the raw state falls while LATCH is 1. -/
def State.evalRule (s : State) (r vector : Nat) : State × Option RuleEdge :=
  let srcs := s.trueSources r vector
  let n := ((List.range 8).filter fun i => srcs.testBit i).length
  let raw := s.flag (AL_RULE_CFG_EN r) && decide (s.get (AL_RULE_CFG_COUNT r) ≤ n)
  let was := (s.rule r).raw
  let s := (s.put (AL_RULE_STAT_TRUE_COUNT r) n).setRule r fun v => { v with raw := raw, sources := srcs }
  let s :=
    if raw then s.put (AL_RULE_STAT_LATCHED r) 0
    else if was ∧ s.flag (AL_RULE_STAT_ON r) ∧ s.flag (AL_RULE_CFG_LATCH r) then s.put (AL_RULE_STAT_LATCHED r) 1 else s
  s.settleRule r

/-! ### Edges (R225 to R227) -/

/-- The bit of the first true source in list order. -/
def State.causeBit (s : State) (r : Nat) : Nat :=
  match (List.range 8).find? fun i => (s.rule r).sources.testBit i with
  | some i => (s.ruleSource r i).2.2
  | none => 0xffff

/-- The 64 bytes of a router record. -/
def State.alarmRecord (s : State) (e : RuleEdge) (late : Bool) (data : Stamp) : List Byte :=
  let forced := (List.range 8).any fun p => s.flag (AL_PIN_CFG_FORCE_EN p)
  stampBytes s.now ++ stampBytes data ++ leBytes 2 e.rule ++ leBytes 1 (bit e.rise) ++ leBytes 1 (s.get (AL_RULE_CFG_SEVERITY e.rule)) ++
    leBytes 4 s.detect.seq ++ leBytes 2 (if e.rise then s.causeBit e.rule else 0xffff) ++ leBytes 1 (s.get AL_STATUS_PINS) ++
    leBytes 1 (bit late + 2 * bit e.latched + 4 * bit forced) ++ leBytes 1 (s.rule e.rule).sources ++ List.replicate 27 0

/-- A router record placed in its ring, or dropped (R227); the record counter counts either way. -/
def State.alarmDeliver (s : State) (e : RuleEdge) (late : Bool) (data : Stamp) : State :=
  if ¬ s.flag (AL_RULE_CFG_DLV_EN e.rule) then s
  else
    let ring := s.get (AL_RULE_CFG_DLV_RING e.rule)
    let bytes := s.alarmRecord e late data
    let s := { s with detect := { s.detect with seq := (s.detect.seq + 1) % 2 ^ 32 } }
    if s.drFits ring 64 then s.drPlace ring 2 0 bytes
    else ((s.drDropped ring).count (alCnt 1)).raise EV_AL_DLV_FULL sevWarning ring ring

/-- What an edge of ON does beside the pins and lines. -/
def State.ruleEdge (s : State) (e : RuleEdge) (late : Bool) (data : Stamp) : State :=
  let s :=
    if e.rise then ((s.count (alCnt 2)).raise EV_AL_RULE_ON (s.get (AL_RULE_CFG_SEVERITY e.rule)) e.rule e.rule).fire (16 + e.rule)
    else s.raise EV_AL_RULE_OFF sevInfo e.rule e.rule
  s.alarmDeliver e late data

/-- The edges of one cause: the pins and the rules' bits of the vector (R199) first, then one pulse per line, then each edge's events
and record. -/
def State.ruleEdges (s : State) (es : List RuleEdge) (late : Bool) (data : Stamp) : State :=
  let s := s.computePins.settlePins s.pinLevels (es.map fun e => (384 + e.rule, e.rise)) (some data)
  let s := s.forEach 8 fun l s => if es.any fun e => e.rise && (s.get (AL_RULE_CFG_LINE_MASK e.rule)).testBit l then s.injLine l else s
  es.foldl (fun s e => s.ruleEdge e late data) s

/-- One update evaluated by every rule (R223). -/
def State.evalRules (s : State) (u : VecUpdate) : State :=
  let late := s.detect.late
  let (s, es) := (List.range 32).foldl (fun (a : State × List RuleEdge) r =>
    let (t, e) := a.1.evalRule r u.new
    (t, a.2 ++ e.toList)) (s, [])
  let s := s.deviceMet 10 late
  State.ruleEdges { s with detect := { s.detect with late := false, data := u.data, pinsHeld := none } } es late u.data

/-- The oldest update that the router has not evaluated, in every pair role (R223, R224). -/
def State.ruleEval (s : State) : State :=
  match s.capture.forRules with
  | [] => s
  | u :: rest =>
    State.evalRules { s with capture := { s.capture with forRules := rest } } u

/-- RULE_EVAL. -/
def execRuleEval (s : State) : Host.Outcome State Fault Refusal := onEngines .ruleEval s State.ruleEval

/-- A rule settled outside an evaluation: at the end of MIN_ON, by CLEAR, by EN = 0. -/
def State.resettle (s : State) (r : Nat) : State :=
  let (t, e) := s.settleRule r
  match e with
  | some e => t.ruleEdges [e] false t.detect.data
  | none => t

/-- RULE_MIN_ON_END. -/
def execRuleMinOnEnd (r : Nat) (s : State) : Host.Outcome State Fault Refusal := onEngines (.ruleMinOnEnd r) s fun s => s.resettle r

/-! ### Register writes -/

/-- Why a write to a router register is refused, if it is. -/
def alarmGuard (s : State) (base : Nat) (ix : List Nat) (c : Word) : Option Nat :=
  match base, ix with
  | 0x320100, [r] =>
    let n := c.field 4 1
    if c.field 8 6 = 7 ∨ n = 0 ∨ 8 < n then some reasonRange
    else if c.field 0 0 = 1 ∧ s.enabledSources r < n then some reasonState else none
  | 0x320104, _ => if 60000 < c.field 15 0 then some reasonRange else none
  | 0x320108, _ =>
    let bad (h : Nat) : Bool := decide (384 ≤ h % 512) && decide (h % 512 ≤ 415)
    if bad c.toNat || bad (c.toNat / 65536) then some reasonRange else none
  | 0x320800, _ => if c.field 2 1 = 3 then some reasonRange else none
  | _, _ => none

/-- What an accepted write to those registers does beside storing its fields. -/
def alarmEffect (base : Nat) (ix : List Nat) (old c : Word) (s : State) : State :=
  match base, ix with
  | 0x320100, [r] =>
    let s := if c.field 0 0 = 0 then s.setRule r fun v => { v with raw := false } else s
    let s := if c.field 5 5 = 0 then s.put (AL_RULE_STAT_LATCHED r) 0
      else if old.field 5 5 = 0 ∧ s.flag (AL_RULE_STAT_ON r) ∧ ¬ (s.rule r).raw then s.put (AL_RULE_STAT_LATCHED r) 1 else s
    (s.resettle r).refreshPins
  | 0x320118, [r] =>
    if c.field 0 0 = 1 ∧ ¬ (s.rule r).raw then (s.put (AL_RULE_STAT_LATCHED r) 0).resettle r else s
  | 0x320800, [p] =>
    let before := (s.setReg (AL_PIN_CFG p) old).pinLevels
    let s := s.computePins.settlePins before
    if old.field 3 3 = 0 ∧ c.field 3 3 = 1 then s.raise EV_AL_PIN_FORCED sevWarning p p else s
  | _, _ => s

/-! ### Deadlines (R228) -/

/-- The oldest update owed that is not yet late has missed its deadline. -/
def markLate : List OwUpdate → List OwUpdate
  | [] => []
  | u :: rest => if u.late then u :: markLate rest else { u with late := true } :: rest

/-- DETECTION_DEADLINE_MISS: 0 watcher sample, 1 modal update, 2 wide-area evaluation, 3 local evaluation, 4 rule evaluation. -/
def State.detectionMiss (s : State) (kind i : Nat) : State :=
  if kind = 0 then ((s.count (owCnt i 0)).raise EV_OW_DEADLINE sevMajor i i).deviceMiss 6
  else if kind = 1 then (((s.setOw i fun v => { v with owed := markLate v.owed }).count (owCnt i 1)).raise EV_OW_DEADLINE sevMajor i i).deviceMiss 7
  else if kind = 2 then ((s.count (iwCnt i 0)).raise EV_IW_DEADLINE sevMajor i i).deviceMiss 8
  else if kind = 3 then ((s.count (iwCnt i 1)).raise EV_IW_DEADLINE sevMajor i i).deviceMiss 9
  else (State.count { s with detect := { s.detect with late := true } } (alCnt 0)).raise EV_AL_DEADLINE sevMajor |>.deviceMiss 10

/-- DETECTION_DEADLINE_MISS. -/
def execDetectionDeadlineMiss (kind index : Nat) (s : State) : Host.Outcome State Fault Refusal :=
  onEngines (.detectionDeadlineMiss kind index) s fun s => s.detectionMiss kind index

/-! ### Class W reset (R229) -/

/-- The vector bits 0 to 383 as the watchers show them. -/
def State.watcherBits (s : State) : List (Nat × Bool) :=
  (List.range 64).flatMap s.owBits ++ (List.range 16).flatMap s.iwBits

/-- A unit that becomes a cold standby holds every watcher idle with every condition at 0 (R202). -/
def State.detectCold (s : State) : State :=
  let s := (s.forEach 64 fun w s => s.owClean w).forEach 16 fun k s => s.iwClean k iwIdle
  s.setConds s.watcherBits s.now

/-- Detection at the end of a class W reset: the watchers restart and their conditions enter the vector together; the rules keep
their latches and judge it at the next evaluation. -/
def State.detectWarm (s : State) : State :=
  let s := s.owWarm.islandWarm
  s.setConds s.watcherBits s.now

end Sys2Proof.Machine
end

