-- ==== Sys2Proof/Machine/Ledger.lean ====
section
/-!
DEFINITION. Ledger records and the legal core record (09, R233, R245 to R259, R265, R433): open intervals and sessions, closing,
queueing, signing and placing records, the save slots and the restore.
-/

namespace Sys2Proof.Machine

/-! ### Fields of records -/

/-- The number of `n` bytes from an offset of a record, and as a signed 32-bit one. -/
def numAt (bs : List Byte) (off n : Nat) : Nat := leNat ((bs.drop off).take n)
@[inherit_doc numAt] def intAt (bs : List Byte) (off : Nat) : Int := signedOf 32 (numAt bs off 4)

/-- The stamp at an offset of a record. -/
def stampAt (bs : List Byte) (off : Nat) : Stamp := ⟨numAt bs off 6 * 1000000000 + numAt bs (off + 6) 4, numAt bs (off + 10) 2⟩

/-! ### Boundaries -/

/-- Minutes of ME_G_CFG.INTERVAL. -/
def intervalMinutes (v : Nat) : Nat := ([1, 5, 10, 15, 30, 60] : List Nat).getD v 60

/-- The latest interval boundary at or before a TAI instant (R255). While second 60 of a leap day is shown, midnight has not
passed. -/
def State.lastBoundary (s : State) (t : Nat) : Nat :=
  let step : Int := intervalMinutes (s.get ME_G_CFG_INTERVAL) * 60
  let u : Int := (t / 1000000000 : Nat) - s.utcOffset - (if s.inserting (t / 1000000000) then 1 else 0)
  ((u / step * step + s.utcOffset).toNat) * 1000000000

/-- The first interval boundary after a TAI instant. -/
def State.boundaryAfter (s : State) (t : Nat) : Nat :=
  s.lastBoundary t + intervalMinutes (s.get ME_G_CFG_INTERVAL) * 60000000000

/-- The lane can produce records (R255). -/
def State.ableNow (s : State) (n : Nat) : Bool :=
  s.flag (LN_CFG_LEGAL n) && s.flag (ME_CFG_EN n) && s.flag ME_G_CFG_LEDGER_EN

/-- The next metering-block boundary of a lane in the stream it releases. -/
def State.laneBound (s : State) (n : Nat) : Nat :=
  match (s.laneMeter n).cur with
  | some b => b.stop
  | none => s.nextBound n s.jobTai

/-! ### Bodies -/

/-- The bytes of a body before its CRC (R256). -/
def ledgerHead (b : LedgerBody) : List Byte :=
  leBytes 2 1 ++ leBytes 1 b.type ++ leBytes 1 b.mode ++ leBytes 2 b.lane ++ leBytes 2 b.flags ++ leBytes 8 b.recordSeq ++
  leBytes 8 b.queueSeq ++ stampBytes b.start ++ stampBytes b.stop ++ b.regs.flatMap (leBytes 8) ++ b.deltas.flatMap (leBytes 8) ++
  leBytes 8 b.headId ++ beBytes 32 b.mcfgDigest ++ leBytes 4 b.sealNo ++ leBytes 4 b.gapMs ++ leBytes 4 b.outageMs ++
  leBytes 4 b.lossBound ++ leBytes 8 b.deviceId ++ leBytes 8 b.pairId ++ (b.context ++ List.replicate 16 0).take 16 ++
  leBytes 4 b.blocks ++ leBytes 4 b.creepBlocks ++ leBytes 1 b.signSlot ++ leBytes 1 0 ++ leBytes 2 b.signGen ++
  leBytes 4 b.fwVer ++ beBytes 32 b.prevHash ++ leBytes 4 0

@[inherit_doc ledgerHead] def ledgerBytes (b : LedgerBody) : List Byte := ledgerHead b ++ leBytes 4 (crc32c (ledgerHead b))

/-- The digest of a lane's metrology configuration (R256): its RWL registers, held descriptors and ME_G_CFG. DEDUCED (log 17):
in address order, each word little-endian. -/
def State.mcfgDigest (s : State) (n : Nat) : Nat :=
  let words := [LN_CFG n, LN_HEAD_ID_LO n, LN_HEAD_ID_HI n, LN_KEY n] ++
    (List.range 8).flatMap (fun q => if s.flag (LN_DESC_INFO_VALID n q) then
      [LN_DESC_ID n q, LN_DESC_RATED n q, LN_DESC_INFO n q] ++
        (List.range 8).flatMap (fun k => [LN_DESC_SEG_A n q k, LN_DESC_SEG_B n q k]) else []) ++
    [ME_CFG n, ME_ELEM n, ME_PMAX n, ME_CREEP n, ME_REV n] ++ (List.range 8).map (ME_GAIN n) ++
    (List.range 8).map (ME_OFFSET n) ++ (List.range 8).map (ME_DELAY n) ++ [ME_G_CFG]
  sha256 (words.flatMap fun w => leBytes 4 (s.word w))

/-- ME_G_STATUS of the queue (R258). -/
def State.showQueue (s : State) : State :=
  let n := s.meter.queue.length
  ((s.put ME_G_STATUS_QUEUED n).put ME_G_STATUS_QUEUE_LOW (bit (decide (16384 < n + 512)))).put SE_STATUS_LEDGER_PENDING
    ((s.meter.queue.filter fun b => b.signature.isNone).length)

/-- Fewer than 512 bodies are free (R258). -/
def State.reserve (s : State) : Bool := decide (16384 < s.meter.queue.length + 512)

/-- The fields the signing unit fills (R371), and the lane's hash chain. -/
def State.fillBody (s : State) (b : QueuedBody) : QueuedBody × State :=
  let n := b.body.lane
  let m := s.laneMeter n
  let body := { b.body with
    sealNo := s.word LA_SEAL,
    deviceId := s.pair GL_SERIAL_LO GL_SERIAL_HI, signSlot := s.get ME_G_CFG_LEDGER_SLOT,
    signGen := s.keyGen (s.get ME_G_CFG_LEDGER_SLOT) % 65536, fwVer := s.word GL_FW_VER, prevHash := m.prevHash }
  ({ b with body, filled := true },
   s.setMeter n fun m => { m with prevHash := sha256 (ledgerBytes body) })

/-- A body put in the ledger queue with the next RECORD_SEQ and QUEUE_SEQ (R256, R258). A unit that does not sign leaves the
fields of R371 zero; the first record a promoted unit closes for a lane carries TAKEOVER (R259). -/
def State.pushBody (s : State) (b : LedgerBody) : State :=
  let n := b.lane
  let rs := s.pair (ME_REC_SEQ_LO n) (ME_REC_SEQ_HI n)
  let qs := s.pair ME_LEDGER_HEAD_LO ME_LEDGER_HEAD_HI
  let q : QueuedBody := { body := { b with recordSeq := rs, queueSeq := qs }, closedAt := s.jobMono, filled := false }
  let s := s.digestItem 6 b.stop.tai n (ledgerHead q.body)
  let took := s.drives && (s.laneMeter n).takeover
  let q := if took then { q with body := { q.body with flags := q.body.flags ||| rfTakeover } } else q
  let (q, s) := if s.drives then (s.when took fun s => s.setMeter n fun m => { m with takeover := false }).fillBody q else (q, s)
  let s := (s.setPair (ME_REC_SEQ_LO n) (ME_REC_SEQ_HI n) (rs + 1)).setPair ME_LEDGER_HEAD_LO ME_LEDGER_HEAD_HI (qs + 1)
  let s := { s with meter := { s.meter with queue := s.meter.queue ++ [q] } }
  s.showQueue.fire 219

/-- What every record takes from the state at its close. -/
def State.bodyFrame (s : State) (n type flags : Nat) (start stop : Stamp) : LedgerBody :=
  { type, mode := s.get ME_G_STATUS_MODE, lane := n,
    flags := flags ||| (s.laneMeter n).nextFlags ||| (if s.flag LA_STATUS_LOST then rfLaLost else 0),
    recordSeq := 0, queueSeq := 0, start, stop, regs := s.energies n, deltas := [0, 0, 0, 0],
    headId := s.pair (LN_HEAD_ID_LO n) (LN_HEAD_ID_HI n), mcfgDigest := s.mcfgDigest n, sealNo := 0, gapMs := 0, outageMs := 0,
    lossBound := 0, deviceId := 0, pairId := if s.get CW_STATUS_ROLE = 0 then 0 else s.pair CW_PAIR_ID_LO CW_PAIR_ID_HI,
    context := [], blocks := 0, creepBlocks := 0, signSlot := 0, signGen := 0, fwVer := 0, prevHash := 0 }

/-- The outage a span has seen by an instant, the outage in progress included (R248). -/
def State.outageOf (s : State) (a : SpanAcc) (stop : Nat) : Nat :=
  a.outage + match s.meter.cutAt with
    | some c => stop - max c a.start.tai
    | none => 0

/-- The body of an open interval or session closed at an instant (R255, R256). -/
def State.spanBody (s : State) (n type : Nat) (a : SpanAcc) (stop : Nat) (flags : Nat) (context : List Byte) : LedgerBody :=
  let regs := s.energies n
  let base := a.base.getD regs
  let out := s.outageOf a stop
  let fl := a.flags ||| flags ||| (if 0 < out then rfOutage else 0) ||| (if s.flag (ME_STATUS_REVERSE n) then rfReverse else 0)
  { s.bodyFrame n type fl a.start (s.stampAt stop) with
    deltas := List.zipWith (fun r b => (r + 2 ^ 64 - b) % 2 ^ 64) regs base,
    gapMs := min ((stop - a.start.tai - out - a.covered) / 1000000) 0xffffffff,
    outageMs := min (out / 1000000) 0xffffffff, context, blocks := a.blocks, creepBlocks := a.creep }

/-- A span that starts at an instant, reverse power declared or not as it stands (R240); the registers at its start are those before the
first block in it is booked (R256). -/
def State.openSpan (s : State) (n t : Nat) : SpanAcc :=
  { isOpen := true, start := s.stampAt t, flags := if s.flag (ME_STATUS_REVERSE n) then rfReverse else 0 }

/-- A body queued, and the command that asked for it completed (R255). -/
def State.pushRecord (s : State) (b : LedgerBody) (cmd : Option (Nat × Word)) : State :=
  let rs := s.pair (ME_REC_SEQ_LO b.lane) (ME_REC_SEQ_HI b.lane)
  let qs := s.pair ME_LEDGER_HEAD_LO ME_LEDGER_HEAD_HI
  let s := s.pushBody b
  match cmd with
  | some (sq, tag) => s.complete { tag, sq, opcode := 0x20, status := stOk, res0 := rs, res1 := qs }
  | none => s

/-- The bodies that wait for room in the queue take it, oldest first, as far as the reserve lets them (R258, log 210). -/
def State.pushHeld : Nat → State → State
  | 0, s => s
  | k + 1, s =>
    match s.meter.held with
    | [] => s
    | h :: rest => if s.reserve then s else State.pushHeld k (State.pushRecord { s with meter := { s.meter with held := rest } } h.1 h.2)

/-- A close that meets the reserve (R258): an interval goes on with EXTENDED, counted at a boundary, and a session goes on, its command
completed with E_BUSY. -/
def State.extendRecord (s : State) (n : Nat) (p : PendClose) : State :=
  if p.type = 1 then
    let s := s.setMeter n fun m => { m with interval := { m.interval with flags := m.interval.flags ||| rfExtended } }
    s.when (s.lastBoundary p.stop == p.stop) fun s => s.count (meGCnt 2)
  else
    match p.cmd with
    | some (sq, tag) => s.complete { tag, sq, opcode := 0x20, status := stBusy }
    | none => s

/-- One close performed: the body queued, the next span opened, the command completed (R255); an interval after one that a time step
lies in carries TIME_STEPPED too (R265). In the reserve no open record closes, and one that ends for good waits for room. -/
def State.closeRecord (s : State) (n : Nat) (p : PendClose) : State :=
  let m := s.laneMeter n
  let a := if p.type = 1 then m.interval else m.session
  if ¬ a.isOpen then s
  else if s.reserve ∧ p.reopen.isSome then s.extendRecord n p
  else
    let b := s.spanBody n p.type a p.stop p.flags p.context
    let s := if s.reserve then { s with meter := { s.meter with held := s.meter.held ++ [(b, p.cmd)] } } else s.pushRecord b p.cmd
    let next : SpanAcc := match p.reopen with
      | some t =>
        let x := s.openSpan n t
        { x with flags := x.flags ||| (if a.stepped && p.type == 1 then rfStepped else 0) }
      | none => {}
    s.setMeter n fun m => if p.type = 1 then { m with interval := next, nextFlags := 0 } else { m with session := next, nextFlags := 0 }

/-- The last block ending at or before an instant has been booked (R255): every earlier block is booked, and the lane has
booked up to it, has a later block, or releases nothing. -/
def State.bookedTo (s : State) (n t : Nat) : Bool :=
  let m := s.laneMeter n
  let st := s.get (LN_STATUS_STATE n)
  decide (t ≤ s.jobTai) && m.ready.all (fun b => decide (t ≤ b.start)) &&
  (decide (t ≤ m.lastBlock) ||
    match m.cur with
    | some b => decide (t ≤ b.start)
    | none => (st != 2 && st != 3) || !s.metering n)

/-- The lane's closes that are due, oldest first; `force` is the start of a block about to be booked. -/
def State.closeDue (n : Nat) (force : Nat) : Nat → State → State
  | 0, s => s
  | k + 1, s =>
    match (s.laneMeter n).closes with
    | [] => s
    | p :: rest =>
      if p.stop ≤ force ∨ s.bookedTo n p.stop then
        State.closeDue n force k ((s.setMeter n fun m => { m with closes := rest }).closeRecord n p)
      else s

@[inherit_doc State.closeDue] def State.tryClose (s : State) (n : Nat) : State :=
  State.closeDue n 0 (s.laneMeter n).closes.length s

/-- A close added in the order of its instant. -/
def addClose (p : PendClose) : List PendClose → List PendClose
  | [] => [p]
  | q :: rest => if p.stop < q.stop then p :: q :: rest else q :: addClose p rest

/-- Record flags set on both open records of a lane. -/
def State.markRecords (s : State) (n flags : Nat) : State :=
  let g (a : SpanAcc) : SpanAcc := if a.isOpen then { a with flags := a.flags ||| flags } else a
  s.setMeter n fun m => { m with interval := g m.interval, session := g m.session }

/-- A lane that is no longer able drops what is open, and its waiting command completes with E_STATE (R255). -/
def State.dropAble (s : State) (n : Nat) : State :=
  let m := s.laneMeter n
  let s := s.setMeter n fun m => { m with able := false, interval := {}, session := {}, closes := [] }
  m.closes.foldl (fun s p => match p.cmd with
    | some (sq, tag) => s.complete { tag, sq, opcode := 0x20, status := stState }
    | none => s) s

/-- A lane that has just become able opens its records at its next block boundary; one that is no longer able drops them. The records that
a restart has restored stay open while configuration load makes their lanes able again (R255). -/
def State.refreshAble (s : State) (n : Nat) : State :=
  let now := s.ableNow n
  if now = (s.laneMeter n).able then s
  else if now then
    let t := s.laneBound n
    s.setMeter n fun m => { m with able := true, interval := s.openSpan n t, session := s.openSpan n t }
  else if s.meter.configLoaded then s.dropAble n
  else s

/-- A mode change closes every open interval at the next block boundary of its lane, and marks the records that span it
(R245, R246). DEDUCED (log 18): the interval so closed carries MODE_CHANGED too. -/
def State.modeCloses (s : State) : State :=
  s.forEach 256 fun n s =>
    if (s.laneMeter n).interval.isOpen then
      let t := s.laneBound n
      let s := s.markRecords n rfMode
      s.setMeter n fun m => { m with closes := addClose { type := 1, stop := t, reopen := some t } m.closes }
    else s

/-- The device mode becomes RECOVERY on its own in service (R243, R365): as any change it closes the open intervals (R245). -/
def State.recoverLedger (s : State) : State := if s.get ME_G_STATUS_MODE = 3 then s else s.toRecovery.modeCloses

/-! ### Booking -/

/-- In lockstep a lane keeps the digest window and the end of each block for 8 s (R365). -/
def State.noteBooked (s : State) (n stop : Nat) : State :=
  s.when s.lockstep fun s => s.setMeter n fun m => { m with
    booked := (max (stop / 10000000) s.pair_.window, stop) :: m.booked.filter fun e => decide (stop < e.2 + 8000000000) }

/-- The oldest complete block of a lane compared and booked (R236, R243), with the closes that fall due before and after; with no block to
book, those that are due. -/
def State.bookNext (s : State) (n : Nat) (mismatch again : Bool) : State :=
  match (s.laneMeter n).ready with
  | [] => s.tryClose n
  | b :: rest =>
    let s := State.closeDue n b.start (s.laneMeter n).closes.length s
    let (s, extra) := s.dualCheck n b mismatch again
    let s := if extra = 0 then s else s.recoverLedger
    let s := (s.setMeter n fun m => { m with ready := rest }).deviceMet 11 b.late
    let s := s.bookBlock n b extra
    let s := (s.noteBooked n b.stop).digestItem 5 b.stop n ((s.energies n).flatMap (leBytes 8) ++ (s.laneMeter n).frac.flatMap (leBytes 4))
    let s := s.digestItem 7 b.stop n ((List.range 8).flatMap fun p =>
      leBytes 4 (s.word (PO_COUNT p)) ++ leBytes 4 (Store.get (fun _ => {}) s.meter.pulses p).due.length)
    s.tryClose n

/-- BLOCK_BOOK. -/
def execBlockBook (n : Nat) (mismatch again : Bool) (s : State) : Host.Outcome State Fault Refusal :=
  onEngines (.blockBook n mismatch again) s fun s => s.bookNext n mismatch again

/-- Every complete block of a lane booked. -/
def State.bookAll (s : State) (n : Nat) : State :=
  (List.range (s.laneMeter n).ready.length).foldl (fun s _ => s.bookNext n false false) s

/-- A block not booked by its deadline, 500 µs after that of its last position (R244). -/
def State.blockLate (s : State) (n : Nat) : State :=
  match (s.laneMeter n).ready with
  | b :: rest =>
    if b.late ∨ s.jobMono ≤ b.due + 500000 then s
    else
      let s := s.setMeter n fun m => { m with ready := { b with late := true } :: rest }
      ((s.count (meCnt n 2)).raise EV_ME_DEADLINE sevMajor n n).deviceMiss 11
  | [] => s

/-- ME_BLOCK_DEADLINE_MISS. -/
def execMeBlockDeadlineMiss (n : Nat) (s : State) : Host.Outcome State Fault Refusal :=
  onEngines (.meBlockDeadlineMiss n) s fun s => s.blockLate n

/-- Every block in progress ends as a partial block and is booked (R248). -/
def State.cutBlocks (s : State) : State :=
  s.forEach 256 fun n s =>
    let s := s.setMeter n fun m => { m with cutBlock := false }
    if (s.laneMeter n).cur.isSome ∨ (s.laneMeter n).ready ≠ [] then (s.endBlock n true).bookAll n else s

/-- The lane leaves UP and DEGRADED: the block in progress is complete as it stands and its closes are tried (R233). -/
def State.laneStops (s : State) (n : Nat) : State := (s.endBlock n false).tryClose n

/-- The end of a lane's last released position. -/
def State.lastReleased (s : State) (n : Nat) : Nat :=
  let m := s.laneMeter n
  match m.cur, m.ready.getLast? with
  | some b, _ => b.lastEnd
  | none, some b => if b.partialBlock then b.lastEnd else b.stop
  | none, none => max m.lastBlock m.interval.start.tai

/-- Metering of a lane ends (R233): a partial block, and both records closed at the end of its last position with PARTIAL. -/
def State.meterEnd (s : State) (n : Nat) : State :=
  let stop := s.lastReleased n
  let s := (s.endBlock n true).bookAll n
  let first := ((s.laneMeter n).closes.find? fun p => p.type == 2)
  let s := State.closeDue n stop (s.laneMeter n).closes.length s
  let s := if (s.laneMeter n).able then
    let s := s.closeRecord n { type := 1, stop, flags := rfPartial }
    s.closeRecord n { type := 2, stop, flags := rfPartial, context := (first.map (·.context)).getD [], cmd := first.bind (·.cmd) }
    else s
  let s := s.setMeter n fun m => { m with closes := m.closes.filter fun p => first != some p }
  let s := (s.put (ME_STATUS_QTYPE_ERR n) 0).put (ME_STATUS_ACTIVE n) 0
  if (s.laneMeter n).able then s.dropAble n else s

/-! ### Intervals, sessions and modes -/

/-- An interval boundary passed (R255, R258): every interval open before it closes there; in the reserve it is extended
instead. -/
def State.passBoundary (s : State) (b : Nat) : State :=
  let s := { s with meter := { s.meter with boundary := b } }
  s.forEach 256 fun n s =>
    let m := s.laneMeter n
    if m.interval.isOpen ∧ m.interval.start.tai < b then
      if s.reserve then (s.setMeter n fun m => { m with interval := { m.interval with flags := m.interval.flags ||| rfExtended } }).count (meGCnt 2)
      else (s.setMeter n fun m => { m with closes := addClose { type := 1, stop := b, reopen := some b } m.closes }).tryClose n
    else s

/-- The latest boundary is processed once. -/
def State.intervalBoundary (s : State) : State :=
  let b := s.lastBoundary s.jobTai
  if s.meter.boundary < b ∧ ¬ s.cold then s.passBoundary b else s

/-- INTERVAL_BOUNDARY. -/
def execIntervalBoundary (s : State) : Host.Outcome State Fault Refusal := onEngines .intervalBoundary s State.intervalBoundary

/-- A session close taken at an instant. -/
def State.sessionClose (s : State) (n at_ : Nat) (context : List Byte) (cmd : Option (Nat × Word)) : State :=
  let last := (s.laneMeter n).closes.foldl (fun a p => if p.type = 2 then max a p.stop else a) 0
  let stop := (s.blockBounds n (max last at_)).2
  s.setMeter n fun m => { m with closes := addClose { type := 2, stop, context, reopen := some stop, cmd } m.closes }

/-- LANE_RECORD_CLOSE accepted (R255, R258, R357, R361): the session closes at the next block boundary, or the one after that of an
earlier close. -/
def State.recordClose (s : State) (h : CmdHeader) (n : Nat) (context : List Byte) : State :=
  if ¬ (s.laneMeter n).able ∨ s.get CW_STATUS_ROLE = 2 then s.finish h 0x20 stState 24
  else if s.reserve then s.finish h 0x20 stBusy
  else
    let effect := if s.orderOn then s.nextTick else s.jobTai
    (s.orderLog (.command 0x20 n effect context)).sessionClose n effect context (some (h.sq, h.tag))

/-- LANE_RECORD_CLOSE. -/
def execLaneRecordClose (h : CmdHeader) (lane : Nat) (context : List Byte) (s : State) : Host.Outcome State Fault Refusal :=
  onCore (.laneRecordClose h lane context) s fun s => s.command h 0x20 (if 255 < lane then some 24 else none) none fun s => s.recordClose h lane context

/-- The service mode changed (R245, R246): the test registers are cleared on entry to TEST, and the open intervals close. -/
def State.modeTo (s : State) (mode : Nat) : State :=
  let s := s.put ME_G_STATUS_MODE mode
  let s := s.when (mode == 2) fun s => s.forEach 256 fun n s =>
    ((s.setPair (ME_TEST_IMP_LO n) (ME_TEST_IMP_HI n) 0).setPair (ME_TEST_EXP_LO n) (ME_TEST_EXP_HI n) 0).setMeter n fun m => { m with testFrac := [0, 0] }
  s.modeCloses.modeConds

/-- A mode change counted and logged (R254). -/
def State.modeAudit (s : State) (old mode : Nat) : State := (s.sealBy 1).auditAdd { type := 6, master := 0, count := 1, detail := [old, mode] }

/-- METROLOGY_MODE (R245); with a partner it is logged, and takes effect at the next TICK on both units (R357, R361). One that names the
mode in force is accepted and changes nothing. -/
def State.setMode (s : State) (h : CmdHeader) (mode : Nat) : State :=
  let old := s.get ME_G_STATUS_MODE
  let e : OrderEntry := .command 0x21 0 s.nextTick [BitVec.ofNat 8 mode]
  if s.get CW_STATUS_ROLE = 2 then s.finish h 0x21 stState 24 old else
  if mode = old then (s.orderLog e).finish h 0x21 stOk 0 old (s.word LA_SEAL)
  else if mode = 1 ∨ (mode = 2 ∧ old ≠ 0) ∨ (mode = 0 ∧ old = 1 ∧ ¬ s.meter.configLoaded) then s.finish h 0x21 stState 24 old
  else if s.auditFull then s.finish h 0x21 stAuditFull 0 old
  else
    let s := s.modeAudit old mode
    let s := if s.orderOn then
        let t := s.orderLog e
        { t with order := { t.order with effects := t.order.effects ++ [{ entry := e, audited := true }] } }
      else s.modeTo mode
    s.finish h 0x21 stOk 0 old (s.word LA_SEAL)

/-- METROLOGY_MODE. -/
def execMetrologyMode (h : CmdHeader) (mode : Nat) (s : State) : Host.Outcome State Fault Refusal :=
  onCore (.metrologyMode h mode) s fun s => s.command h 0x21 (if 3 < mode then some 24 else none) none fun s => s.setMode h mode

/-- A time step on the records (R265): called after the new time is in force and the lanes have left UP. -/
def State.ledgerTimeStep (s : State) (old : Nat) : State :=
  let now := s.jobTai
  s.forEach 256 fun n s =>
    let s := (s.endBlock n true).bookAll n
    if ¬ (s.laneMeter n).able then s
    else
      let s := (s.markRecords n rfStepped).setMeter n fun m => { m with interval := { m.interval with stepped := m.interval.isOpen } }
      let b := s.boundaryAfter old
      if old < now ∧ b ≤ now then
        (State.closeDue n b (s.laneMeter n).closes.length s).closeRecord n { type := 1, stop := b, reopen := some (s.lastBoundary now) }
      else s

/-! ### Signing, placing, acknowledging -/

/-- The oldest unsigned body (R257): the device holds it on die, so what becomes of its copy in MRAM does not matter. -/
def State.unsigned (s : State) : Option QueuedBody := s.meter.queue.find? fun b => b.signature.isNone

/-- A queued body replaced. -/
def State.setBody (s : State) (q : Nat) (f : QueuedBody → QueuedBody) : State :=
  { s with meter := { s.meter with queue := s.meter.queue.map fun b => if b.body.queueSeq = q then f b else b } }

/-- The oldest unsigned body is signed with the ledger key (R257, R371), by a unit that drives, with LEDGER_EN at 1. -/
def State.signNext (s : State) : State :=
  if ¬ s.drives ∨ ¬ s.flag ME_G_CFG_LEDGER_EN then s
  else
    match s.unsigned with
    | none => s
    | some b =>
      let (b, s) := if b.filled then (b, s) else s.fillBody b
      let (sig, s) := s.slhSignature 4 (s.keyOf (s.get ME_G_CFG_LEDGER_SLOT)) (ledgerBytes b.body)
      ((s.setBody b.body.queueSeq fun _ => { b with signature := some sig }).deviceMet 13 b.late).showQueue

/-- LEDGER_SIGN. -/
def execLedgerSign (s : State) : Host.Outcome State Fault Refusal := onEngines .ledgerSign s State.signNext

/-- A body unsigned 5 s after its close (R257). -/
def State.signLate (s : State) : State :=
  match s.meter.queue.find? fun b => b.signature.isNone && !b.late && decide (b.closedAt + 5000000000 < s.jobMono) with
  | none => s
  | some b =>
    let s := s.setBody b.body.queueSeq fun b => { b with late := true }
    ((s.count (meGCnt 1)).raise EV_ME_SIGN_LATE sevMajor).deviceMiss 13

/-- SIGN_DEADLINE_MISS. -/
def execSignDeadlineMiss (s : State) : Host.Outcome State Fault Refusal :=
  onEngines .signDeadlineMiss s fun s => if s.drives then s.signLate else s

/-- A LEDGER_NOTE payload (R371). -/
def noteBytes (kind q hash : Nat) : List Byte := beBytes 1 kind ++ beBytes 7 0 ++ beBytes 8 q ++ beBytes 32 hash

/-- The oldest record not placed goes into its delivery ring when it is signed and has room (R258), and the partner is told
(R371). -/
def State.placeNext (s : State) : State :=
  match s.meter.queue.find? fun b => !b.placed with
  | none => s
  | some b =>
    match b.signature with
    | none => s
    | some sig =>
      let r := s.get ME_G_CFG_DLV_RING
      let bytes := (ledgerBytes b.body) ++ sig
      if ¬ s.drives ∨ s.flag FU_STATUS_SWITCHING ∨ ¬ s.drFits r bytes.length then s
      else
        let s := s.drPlace r 3 (bit b.resent) bytes
        let s := s.setBody b.body.queueSeq fun b => { b with placed := true }
        if s.get CW_STATUS_ROLE = 1 then s.cwSend 6 (noteBytes 1 b.body.queueSeq (sha256 (ledgerBytes b.body))) else s

/-- LEDGER_PLACE. -/
def execLedgerPlace (s : State) : Host.Outcome State Fault Refusal := onEngines .ledgerPlace s State.placeNext

/-- Bodies at or below an acknowledged QUEUE_SEQ freed (R258). -/
def State.freeBodies (s : State) (q : Nat) : State :=
  let s := State.showQueue { s with meter := { s.meter with acked := q, queue := s.meter.queue.filter fun b => decide (q < b.body.queueSeq) } }
  State.pushHeld s.meter.held.length s

/-- The value a write of ME_LEDGER_ACK_HI makes effective is out of range (09). -/
def State.ackBad (s : State) (hi : Nat) : Bool :=
  let v := hi * 2 ^ 32 + s.word ME_LEDGER_ACK_LO
  decide (v < s.meter.acked) || decide (s.pair ME_LEDGER_HEAD_LO ME_LEDGER_HEAD_HI ≤ v)

/-- An accepted write of ME_LEDGER_ACK_HI; a primary tells its standby (R371). -/
def State.ackWritten (s : State) : State :=
  let q := s.pair ME_LEDGER_ACK_LO ME_LEDGER_ACK_HI
  let s := s.freeBodies q
  if s.get CW_STATUS_ROLE = 1 then s.cwSend 6 (noteBytes 2 q 0) else s

/-! ### The legal core record -/

/-- A lane's entry (R251) in a save of a CAUSE. -/
def State.coreEntry (s : State) (cause n : Nat) : CoreEntry :=
  let m := s.laneMeter n
  { regs := s.energies n, recSeq := s.pair (ME_REC_SEQ_LO n) (ME_REC_SEQ_HI n), reverse := s.flag (ME_STATUS_REVERSE n),
    legal := s.flag (LN_CFG_LEGAL n), metered := s.flag (ME_CFG_EN n), cut := decide (0 < cause) && m.cutBlock, meter := { m with cur := none, ready := [], history := [], fine := [] } }

/-- An entry as its bytes state it. -/
def CoreEntry.toLane (e : CoreEntry) (n : Nat) : ImageLane :=
  { lane := n, regs := e.regs, frac := e.meter.frac, interval := e.meter.interval.base.getD e.regs, session := e.meter.session.base.getD e.regs,
    intervalStart := e.meter.interval.start.tai, sessionStart := e.meter.session.start.tai, recSeq := e.recSeq, revCount := e.meter.revCount,
    reverse := e.reverse, legal := e.legal, metered := e.metered, cut := e.cut, intervalFlags := e.meter.interval.flags,
    sessionFlags := e.meter.session.flags, lastBlock := e.meter.lastBooked }

/-- The record flags that an entry can hold as pending, in 13 bits (R251). -/
def pendingBits (f : Nat) : Nat := f % 16 + f / 64 % 256 * 16 + f / 2 ^ 15 % 2 * 4096

/-- The 128 bytes of a lane entry (R251). -/
def laneBytes (e : ImageLane) : List Byte :=
  let b := (List.range 4).flatMap (fun i => leBytes 8 (e.regs.getD i 0)) ++ (List.range 4).flatMap (fun i => leBytes 4 (e.frac.getD i 0)) ++
    leBytes 8 (e.interval.getD 0 0) ++ leBytes 8 (e.interval.getD 1 0) ++ leBytes 8 (e.session.getD 0 0) ++ leBytes 8 (e.session.getD 1 0) ++
    leBytes 8 (e.intervalStart / 1000000000 % 2 ^ 48) ++
    leBytes 8 (e.sessionStart / 1000000000 % 2 ^ 48 + e.sessionStart / 1000000 % 1000 * 2 ^ 48) ++
    leBytes 8 e.recSeq ++ leBytes 4 (e.revCount % 256 + bit e.reverse * 256) ++
    leBytes 4 (bit e.legal + bit e.metered * 2 + bit e.cut * 4 + pendingBits e.intervalFlags * 8 + pendingBits e.sessionFlags * 65536) ++
    stampBytes ⟨e.lastBlock, 0⟩
  b ++ leBytes 4 (crc32c b)

/-- The 32,832 bytes of a legal core record (R250, R251), as a save slot and a state image hold it. -/
def coreBytes (seq cause mode sealNo laCount pairId queueSeq : Nat) (time : Stamp) (lanes : List ImageLane) : List Byte :=
  let body := (List.range 256).flatMap fun n => laneBytes ((lanes.find? fun e => e.lane == n).getD { lane := n })
  let h := leBytes 4 0x434c5a4b ++ leBytes 2 1 ++ leBytes 2 256 ++ leBytes 8 seq ++ stampBytes time ++ leBytes 1 cause ++
    leBytes 1 mode ++ leBytes 2 0 ++ leBytes 4 sealNo ++ leBytes 4 laCount ++ leBytes 8 pairId ++ leBytes 8 queueSeq ++
    leBytes 4 (crc32c body)
  h ++ leBytes 4 (crc32c h) ++ body

/-- The bytes of a save. -/
def CoreSave.bytes (v : CoreSave) : List Byte :=
  coreBytes v.seq v.cause v.mode v.sealNo v.laCount v.pairId v.queueSeq v.time (v.lanes.map fun e => e.2.toLane e.1)

/-- A snapshot taken into a save being written (R247, R248). -/
def State.snapshot (s : State) (cause : Nat) : State :=
  let seq := s.meter.lastSeq + 1
  let v : CoreSave := {
    seq, time := s.stampAt s.jobTai, mono := s.jobMono, cause, mode := s.get ME_G_STATUS_MODE, sealNo := s.word LA_SEAL,
    laCount := s.get LA_COUNT_USED, pairId := if s.get CW_STATUS_ROLE = 0 then 0 else s.pair CW_PAIR_ID_LO CW_PAIR_ID_HI,
    queueSeq := s.pair ME_LEDGER_HEAD_LO ME_LEDGER_HEAD_HI,
    lanes := ((List.range 256).map fun n => (n, s.coreEntry cause n)).filter fun e => e.2 != {} }
  { s with meter := { s.meter with
      lastSeq := seq, saving := s.meter.saving ++ [v], saves := s.meter.saves.filter fun o => o.seq % 64 != seq % 64 } }

/-- The next periodic save is that of the first whole monotonic second from now (R247). -/
def State.nextSave (s : State) : State := { s with meter := { s.meter with saveDue := (s.jobMono / 1000000000 + 1) * 1000000000 } }

/-- The periodic save at each whole monotonic second, not in HOLDUP (R247). -/
def State.periodicSave (s : State) : State :=
  if s.holdup ∨ s.cold ∨ s.jobMono < s.meter.saveDue then s
  else s.nextSave.snapshot 0

/-- SAVE_SNAPSHOT. -/
def execSaveSnapshot (s : State) : Host.Outcome State Fault Refusal := onEngines .saveSnapshot s State.periodicSave

/-- What a save leaves in its slot where its header, which is written last, never came: the slot fails its check (R247). DEDUCED (log 209):
the header's bytes are zero. -/
def CoreSave.unfinished (v : CoreSave) : CoreSave := { v with raw := some (List.replicate 64 0 ++ v.bytes.drop 64) }

/-- A periodic save in progress abandoned (R248). -/
def State.abandonSaves (s : State) : State :=
  { s with meter := { s.meter with
      saves := s.meter.saves ++ (s.meter.saving.filter fun v => v.cause == 0).map CoreSave.unfinished
      saving := s.meter.saving.filter fun v => v.cause != 0 } }

/-- The header written: the save is committed (R247). -/
def State.commitSave (s : State) : State :=
  match s.meter.saving with
  | [] => s
  | v :: rest =>
    let s := { s with meter := { s.meter with saving := rest, saves := s.meter.saves ++ [v], lastSave := some v.mono } }
    let s := s.deviceMet 12 v.late
    (s.setPair ME_SAVE_SEQ_LO ME_SAVE_SEQ_HI v.seq).fire 218

/-- SAVE_COMMIT. -/
def execSaveCommit (s : State) : Host.Outcome State Fault Refusal := onCore .saveCommit s State.commitSave

/-- A save not committed 200 ms after its snapshot (R247). -/
def State.saveLate (s : State) : State :=
  match s.meter.saving.find? fun v => !v.late && decide (v.mono + 200000000 < s.jobMono) with
  | none => s
  | some v =>
    let s := { s with meter := { s.meter with saving := s.meter.saving.map fun (o : CoreSave) => if o.seq = v.seq then { o with late := true } else o } }
    ((s.count (meGCnt 0)).raise EV_ME_SAVE_LATE sevMajor).deviceMiss 12

/-- SAVE_DEADLINE_MISS. -/
def execSaveDeadlineMiss (s : State) : Host.Outcome State Fault Refusal := onCore .saveDeadlineMiss s State.saveLate

/-- The save slots that a write, or an uncorrectable word, touches fail their check; one that reaches the first 64 bytes fails its header's
(R249, R250). -/
def State.spoilSaves (s : State) (off len : Nat) : State :=
  let hit (v : CoreSave) (from_ size : Nat) : Bool :=
    let a := v.seq % 64 * 0x80000 + from_
    decide (off < a + size) && decide (a < off + len)
  { s with meter := { s.meter with saves := s.meter.saves.map fun (v : CoreSave) =>
      { v with ok := v.ok && !hit v 0 32832, headOk := v.headOk && !hit v 0 64 } } }

/-- The queued bodies so touched fail their CRC (R258). -/
def State.spoilQueue (s : State) (off len : Nat) : State :=
  { s with meter := { s.meter with queue := s.meter.queue.map fun (b : QueuedBody) =>
      let a := 0x3000000 + 256 * (b.body.queueSeq % 16384)
      { b with crcOk := b.crcOk && !(decide (off < a + 256) && decide (a < off + len)) } } }

/-! ### Restore (R249, R263, R433) -/

/-- A body passes its CRC: neither an uncorrectable word nor a write has changed it. -/
def QueuedBody.good (b : QueuedBody) : Bool := b.crcOk && b.raw.isNone

/-- The record flags that a 13-bit group of a lane entry holds (R251). -/
def pendingFlags (g : Nat) : Nat := g % 16 + g / 16 % 256 * 64 + g / 4096 % 2 * 2 ^ 15

/-- The lane entry that 128 bytes spell; none where its CRC fails. -/
def laneOf (n : Nat) (b : List Byte) : Option ImageLane :=
  if numAt b 124 4 ≠ crc32c (b.take 124) then none
  else
    let start (v ms : Nat) : Nat := v % 2 ^ 48 * 1000000000 + ms * 1000000
    let flags := numAt b 108 4
    some {
      lane := n, regs := (List.range 4).map fun i => numAt b (8 * i) 8, frac := (List.range 4).map fun i => numAt b (32 + 4 * i) 4
      interval := [numAt b 48 8, numAt b 56 8], session := [numAt b 64 8, numAt b 72 8]
      intervalStart := start (numAt b 80 8) 0, sessionStart := start (numAt b 88 8) (numAt b 88 8 / 2 ^ 48 % 1024)
      recSeq := numAt b 96 8, revCount := numAt b 104 1, reverse := (numAt b 104 4).testBit 8
      legal := flags.testBit 0, metered := flags.testBit 1, cut := flags.testBit 2
      intervalFlags := pendingFlags (flags / 8), sessionFlags := pendingFlags (flags / 65536), lastBlock := (stampAt b 112).tai }

/-- A lane's entry with what its bytes spell; the rest, which firmware keeps for itself (R251), as the slot was saved. -/
def CoreEntry.reread (old : CoreEntry) (e : ImageLane) : CoreEntry :=
  let able := e.legal && e.metered && (old.meter.able || !(old.legal && old.metered))
  let span (a : SpanAcc) (base : List Nat) (start unit flags : Nat) : SpanAcc :=
    { a with
      isOpen := able, flags, start := if a.start.tai / unit = start / unit then a.start else ⟨start, 0⟩
      base := some (base ++ ((a.base.getD e.regs).drop 2)) }
  { regs := e.regs, recSeq := e.recSeq, reverse := e.reverse, legal := e.legal, metered := e.metered, cut := e.cut
    meter := { old.meter with
      frac := e.frac, revCount := e.revCount, lastBooked := e.lastBlock, able
      lastBlock := if old.meter.lastBooked = e.lastBlock then old.meter.lastBlock else e.lastBlock
      interval := span old.meter.interval e.interval e.intervalStart 1000000000 e.intervalFlags
      session := span old.meter.session e.session e.sessionStart 1000000 e.sessionFlags } }

/-- The record that the bytes of a slot spell (R250); none where its header fails. -/
def CoreSave.reread (old : Option CoreSave) (b : List Byte) : Option CoreSave :=
  if numAt b 0 4 ≠ 0x434c5a4b ∨ numAt b 4 2 ≠ 1 ∨ numAt b 6 2 ≠ 256 ∨ numAt b 60 4 ≠ crc32c (b.take 60) then none
  else
    let entry (n : Nat) : CoreEntry := (((old.map (·.lanes)).getD []).find? fun e => e.1 == n).map (·.2) |>.getD {}
    let read := (List.range 256).map fun n => (n, laneOf n ((b.drop (64 + 128 * n)).take 128))
    some {
      seq := numAt b 8 8, time := stampAt b 16, mono := (old.map (·.mono)).getD 0, cause := numAt b 28 1, mode := numAt b 29 1
      sealNo := numAt b 32 4, laCount := numAt b 36 4, pairId := numAt b 40 8, queueSeq := numAt b 48 8
      lanes := (read.filterMap fun r => r.2.map fun e => (r.1, (entry r.1).reread e)).filter fun e => e.2 != {}
      ok := ((old.map (·.ok)).getD true) && (read.all fun r => r.2.isSome) && numAt b 56 4 == crc32c ((b.drop 64).take 32768)
      headOk := (old.map (·.headOk)).getD true }

/-- The slots as firmware finds them (R249): those saved, as their bytes now stand, and those that writes of memory have filled. -/
def State.slots (s : State) : List CoreSave :=
  let kept := s.meter.saves.filterMap fun v => match v.raw with
    | none => some v
    | some b => CoreSave.reread (some v) b
  let addr (k : Nat) : Nat := 0x100000000000 + k * 0x80000
  let other := (List.range 64).filter fun k =>
    (s.mem.any fun c => decide (addr k ≤ c.1) && decide (c.1 < addr k + 32832)) && !s.meter.saves.any fun v => v.seq % 64 == k
  kept ++ other.filterMap fun k => CoreSave.reread none (s.memRead (addr k) 32832)

/-- The valid save with the highest SAVE_SEQ. -/
def bestSave (saves : List CoreSave) : Option CoreSave :=
  saves.foldl (fun b v =>
    if ¬ (v.ok && v.headOk) then b
    else match b with
      | some w => if w.seq < v.seq then some v else b
      | none => some v) none

/-- A lane's entry restored. -/
def State.restoreLane (s : State) (n : Nat) (e : CoreEntry) : State :=
  let s := (s.setPair (ME_IMP_ACT_LO n) (ME_IMP_ACT_HI n) (e.regs.getD 0 0)).setPair (ME_EXP_ACT_LO n) (ME_EXP_ACT_HI n) (e.regs.getD 1 0)
  let s := (s.setPair (ME_IMP_REACT_LO n) (ME_IMP_REACT_HI n) (e.regs.getD 2 0)).setPair (ME_EXP_REACT_LO n) (ME_EXP_REACT_HI n) (e.regs.getD 3 0)
  let s := (s.setPair (ME_REC_SEQ_LO n) (ME_REC_SEQ_HI n) e.recSeq).put (ME_STATUS_REVERSE n) (bit e.reverse)
  s.setMeter n fun _ => { e.meter with levels := [], closes := [], testFrac := [0, 0] }

/-- The counters continue above the bodies in the queue that pass their CRC; an unsigned body that fails it is lost (R249,
R258). -/
def State.restoreQueue (s : State) (qs : Nat) : State :=
  let good := s.meter.queue.filter (·.good)
  let s := (s.meter.queue.filter fun b => !b.good && b.signature.isNone).foldl
    (fun s b => s.raise EV_ME_LEDGER_LOST sevLegal b.body.lane b.body.lane b.body.recordSeq) s
  let s := good.foldl (fun s b =>
    let n := b.body.lane
    let s := if s.pair (ME_REC_SEQ_LO n) (ME_REC_SEQ_HI n) ≤ b.body.recordSeq then
      s.setPair (ME_REC_SEQ_LO n) (ME_REC_SEQ_HI n) (b.body.recordSeq + 1) else s
    s.setMeter n fun m => { m with prevHash := sha256 (ledgerBytes b.body) }) s
  let head := max 1 (good.foldl (fun a b => max a (b.body.queueSeq + 1)) qs)
  let s := s.setPair ME_LEDGER_HEAD_LO ME_LEDGER_HEAD_HI head
  let ack := min s.meter.acked (head - 1)
  let s := s.setPair ME_LEDGER_ACK_LO ME_LEDGER_ACK_HI ack
  let s := { s with meter := { s.meter with acked := ack, queue := (s.meter.queue.filter fun (b : QueuedBody) => b.good || b.signature.isSome).map fun (b : QueuedBody) => { b with closedAt := s.jobMono } } }
  s.ledgerAgain.showQueue

/-- The registers restored at a class C or P reset (R249): the newest valid slot, its mode rules, and what the restart records
will say. `cut` is the TAI of the newest OUTAGE_START, `flags` the record flags of the copied outage entries. -/
def State.restoreCore (s : State) (cut : Option Nat) (flags : Nat) : State :=
  let slots := s.slots
  let top := slots.foldl (fun a v => if v.headOk then max a v.seq else a) 0
  let s := s.nextSave.auditAdd { type := 8, master := 10 }
  match bestSave slots with
  | none =>
    let s := (s.put ME_G_STATUS_MODE 1).toRecovery.raise EV_ME_CORE_LOST sevLegal
    let s := { s with meter := { s.meter with lastSeq := top, savedAt := none, restart := some ⟨none, s.jobTai, false, flags, s.now⟩ } }
    s.restoreQueue 1
  | some v =>
    let older := slots.any fun o => o.headOk && !o.ok && decide (v.seq < o.seq)
    let tcut := match cut with
      | some t => if v.time.tai < t then t else v.time.tai + 1000000000
      | none => v.time.tai + 1000000000
    let s := v.lanes.foldl (fun s e => s.restoreLane e.1 e.2) s
    let s := (s.put ME_G_STATUS_MODE 1).put ME_G_STATUS_SAVE_INCOMPLETE (bit (v.cause == 0))
    let s := (s.put ME_G_STATUS_RESTORED_OLDER (bit older)).setPair ME_SAVE_SEQ_LO ME_SAVE_SEQ_HI v.seq
    let fl := flags ||| (if v.cause = 0 then rfIncomplete else 0)
    let s := { s with meter := { s.meter with lastSeq := top, savedAt := some v.time.tai, restart := some ⟨some v.time, tcut, v.cause == 0, fl, s.now⟩ } }
    (s.when older State.toRecovery).restoreQueue v.queueSeq

/-- LOSS_BOUND of a restart record (R249): PMAX in units of 100 W, none when the stored configuration does not give it. -/
def lossBound (r : RestartInfo) (pmax : Nat) : Nat :=
  match r.saveTime with
  | none => 0xffffffff
  | some t =>
    if ¬ r.incomplete then 0
    else if pmax = 0 then 0xffffffff
    else min ((pmax * 100 * (r.cut - t.tai) + 3599999999) / 3600000000) 0xffffffff

/-- The restart records, queued before the stored configuration is applied (R249, R433), and the intervals open at the cut
closed at a boundary that has passed (R255). `stored` gives a register's value in the stored configuration. -/
def State.restartRecords (s : State) (stored : Nat → Nat) : State :=
  match s.meter.restart with
  | none => s
  | some r =>
    let s := { s with meter := { s.meter with restart := none, boundary := s.lastBoundary s.jobTai } }
    s.forEach 256 fun n s =>
      let m := s.laneMeter n
      let legal := if r.saveTime.isSome then m.able
        else (stored (LN_CFG n)).testBit 3 && (stored (ME_CFG n)).testBit 0 && (stored ME_G_CFG).testBit 16
      if ¬ legal then s
      else
        let out := if r.saveTime.isSome then r.at_.tai - r.cut else 0
        let b := { s.bodyFrame n 3 (r.flags ||| (if 0 < out then rfOutage else 0)) (r.saveTime.getD ⟨0, 0⟩) r.at_ with
          outageMs := min (out / 1000000) 0xffffffff, lossBound := lossBound r (stored (ME_PMAX n) % 2 ^ 14) }
        let s := (s.pushBody b).setMeter n fun m => { m with nextFlags := 0 }
        if ¬ m.interval.isOpen then s
        else
          let add (t : Nat) (a : SpanAcc) : SpanAcc := { a with outage := a.outage + t, flags := a.flags ||| rfOutage }
          let first := s.boundaryAfter m.interval.start.tai
          let s := s.setMeter n fun m => { m with session := add out m.session }
          if first ≤ s.jobTai then
            let last := s.lastBoundary s.jobTai
            let s := s.setMeter n fun m => { m with interval := add (first - r.cut) m.interval }
            let s := s.closeRecord n { type := 1, stop := first, reopen := some last }
            s.setMeter n fun m => { m with interval := add (s.jobTai - max last r.cut) m.interval }
          else s.setMeter n fun m => { m with interval := add out m.interval }

end Sys2Proof.Machine
end

