-- ==== Sys2Proof/Machine/Lanes.lean ====
section
/-!
DEFINITION. Measurement lanes (04, R90 to R114): the checks of R99, key rollover, descriptors, lane states, releases, gaps, silence,
and the refusal rules and effects of the LN registers.
-/

namespace Sys2Proof.Machine

/-- What a lane remembers of its stream. -/
def State.link (s : State) (n : Nat) : LaneLink := Store.get (fun _ => {}) s.links n

/-- A lane's memory changed. -/
def State.setLink (s : State) (n : Nat) (f : LaneLink → LaneLink) : State :=
  { s with links := Store.set (fun _ => {}) s.links n (f (s.link n)) }

/-- The counters of a lane and of the lane block (04). -/
def lnCnt (n i : Nat) : Cnt := ⟨LN_CNT n i, ⟨LN_CNT_SAT n, i, i⟩, EV_LN_CNT_SAT, n, n⟩
/-- The counters of the lane block, which have no lane: their saturation event folds on 0xffff. DESIGN CHOICE (log 174). -/
def lnGCnt (i : Nat) : Cnt := ⟨LN_G_CNT i, ⟨LN_G_SAT, i, i⟩, EV_LN_CNT_SAT, 0xffff, i⟩

/-- The states of a lane (LN_STATUS). -/
abbrev lnDown : Nat := 0
@[inherit_doc lnDown] abbrev lnSyncing : Nat := 1
@[inherit_doc lnDown] abbrev lnUp : Nat := 2
@[inherit_doc lnDown] abbrev lnDegraded : Nat := 3
@[inherit_doc lnDown] abbrev lnFault : Nat := 4

/-- A lane's state. -/
def State.laneState (s : State) (n : Nat) : Nat := s.get (LN_STATUS_STATE n)

/-- Positions are released in UP and DEGRADED only (R107). -/
def State.releasing (s : State) (n : Nat) : Bool := s.laneState n == lnUp || s.laneState n == lnDegraded

/-- A descriptor is held for every quantity of the lane (R104). -/
def State.descsHeld (s : State) (n : Nat) : Bool := (List.range (s.laneNq n)).all fun q => s.flag (LN_DESC_INFO_VALID n q)

/-- DESC_COMPLETE and NEXT_PENDING of a lane brought up to date. -/
def State.showLane (s : State) (n : Nat) : State :=
  (s.put (LN_STATUS_DESC_COMPLETE n) (bit (s.descsHeld n))).put (LN_STATUS_NEXT_PENDING n)
    (bit (s.flag (LN_KEY_NEXT_EN n) && !(s.link n).matched))

/-- The counts of lanes in UP and DEGRADED. -/
def State.countLanes (s : State) : State :=
  (s.put LN_G_STATUS_UP_COUNT ((List.range 256).filter fun n => s.laneState n == lnUp).length).put LN_G_STATUS_DEGRADED_COUNT
    ((List.range 256).filter fun n => s.laneState n == lnDegraded).length

/-- The severity of a lane's change to a state, none where R114 raises no event. -/
def laneSeverity (st : Nat) : Option Nat :=
  if st = lnUp then some sevNotice else if st = lnDegraded then some sevWarning else if st = lnFault then some sevMajor else none

/-- A lane enters a state, or stays in it with a further reason (R105, R114): REASON never falls within DEGRADED and FAULT; a
lane that leaves UP and DEGRADED stops releasing. -/
def State.laneTo (s : State) (n st why : Nat) : State :=
  let old := s.laneState n
  if old = st then s.put (LN_STATUS_REASON n) (max why (s.get (LN_STATUS_REASON n)))
  else
    let was := s.releasing n
    let s := (s.put (LN_STATUS_STATE n) st).put (LN_STATUS_REASON n) why
    let s := s.setLink n fun l => { l with clean := 0 }
    let s := if was ∧ ¬ s.releasing n then (s.setLink n fun l => { l with rel := none }).laneStops n else s
    let s := match laneSeverity st with
      | some v => s.raise EV_LN_STATE_CHANGE v n n st
      | none => s
    (s.countLanes.laneConds).fire (224 + n / 8)

/-- Continuity forgotten (R105): the released positions are still known after a time step, where none is released again. DESIGN
CHOICE (log 177): the last DSEQ is forgotten too but at a time step; (log 178) the held confRev stays until EN = 0 or a reset. -/
def State.forget (s : State) (n : Nat) (step : Bool) : State :=
  s.setLink n fun l => { l with
    seq := none
    t0 := 0
    rel := none
    run := 0
    gapped := false
    clean := 0
    spans := if step then l.spans else []
    dseq := if step then l.dseq else none }

/-! ### Releases (R101, R107, R108) -/

/-- T0 of the position with a sequence number. -/
def State.posT0 (s : State) (n p : Nat) : Nat :=
  if s.isSv n then p * 1000000000 / s.laneRate n
  else
    let l := s.link n
    l.t0 + p * 1000000 - l.seq.getD 0 * 1000000

/-- A position of a T0 has been released already (R105). -/
def State.wasReleased (s : State) (n t0 : Nat) : Bool := (s.link n).spans.any fun p => decide (p.1 ≤ t0) && decide (t0 < p.2)

/-- The spans of released positions with one more; a position that follows the newest span extends it. -/
def addSpan (t0 span : Nat) : List (Nat × Nat) → List (Nat × Nat)
  | [] => [(t0, t0 + span)]
  | (a, b) :: rest => if b ≤ t0 ∧ t0 ≤ b + 1 then (a, t0 + span) :: rest else (t0, t0 + span) :: (a, b) :: rest

/-- A position kept for the estimation windows that may reach it (R145). -/
def State.keepPos (s : State) (n : Nat) (p : LanePos) : State :=
  { s with phasor := { s.phasor with
      lanes := Store.set (fun _ => []) s.phasor.lanes n
        ((p :: Store.get (fun _ => []) s.phasor.lanes n).filter fun q => decide (p.t0 < q.t0 + 2000000000)) } }

/-- A sample as the consumers compute with it: none where it gives no value. -/
def LaneSample.read (x : LaneSample) : Option Int := if x.invalid then none else some x.value

/-- The bytes of a sample as a digest takes them: its value with INVALID and OVR. -/
def LaneSample.bytes (x : LaneSample) : List Byte := leBytes 4 (codeOf 32 x.value) ++ leBytes 1 (bit x.invalid + 2 * bit x.ovr)

/-- One position released to the consumers (R107, R108): its flags are the block's with DEGRADED and LATE_RELEASE; a position
released already is not released again (R105). -/
def State.release (s : State) (n p t0 flags : Nat) (rows : List (List LaneSample)) : State :=
  let s := s.setLink n fun l => { l with rel := some (p + s.posUnit n) }
  if s.wasReleased n t0 then s
  else
    let span := s.posSpan n
    let s := s.setLink n fun l => { l with spans := addSpan t0 span l.spans }
    let wait := s.maxLate n + 100000
    let late := s.ranFor (t0 + span) (wait + 1)
    let s := s.when (flags.testBit 1) fun s => s.count (lnCnt n 6)
    let s := if late then ((s.count (lnCnt n 13)).raise EV_LN_DEADLINE sevMajor n n).deviceMiss 1 else s.deviceMet 1 false
    let fl := flags + (if s.laneState n = lnDegraded then 4 else 0) + (if late then 16 else 0)
    let s := s.digestItem 0 t0 n (leBytes 8 t0 ++ leBytes 1 fl ++ rows.flatten.flatMap LaneSample.bytes)
    let s := s.keepPos n ⟨t0, fl, rows⟩
    let gap := fl.testBit 1
    s.meterPosition n t0 span (s.jobMono + (t0 + span + wait) - s.jobTai) fl (rows.map fun r => r.map fun x => if gap then none else x.read)

/-- The rows of a gap: samples of zero (R107). -/
def State.gapRows (s : State) (n : Nat) : List (List LaneSample) :=
  List.replicate (if s.isSv n then s.asdu n else s.laneRate n / 1000) (List.replicate (s.laneNq n) {})

/-- A gap position released (R105, R107): GAP_DEGRADE of them in a row take the lane from UP to DEGRADED, or raise REASON in DEGRADED,
with reason 3, and one restarts the count in DEGRADED. -/
def State.releaseGap (s : State) (n p t0 : Nat) : State :=
  if s.wasReleased n t0 then s.setLink n fun l => { l with rel := some (p + s.posUnit n) }
  else
    let s := s.setLink n fun l => { l with gapped := true, run := l.run + 1 }
    let s := if s.laneState n = lnDegraded then s.setLink n fun l => { l with clean := 0 } else s
    let s := if s.get (LN_TMO_GAP_DEGRADE n) ≤ (s.link n).run then s.laneTo n lnDegraded 3 else s
    s.release n p t0 2 (s.gapRows n)

/-- The next position with no block, when MAX_LATE + extra ns have run since the end of its span (R37, R107). -/
def State.gapDue (s : State) (n extra : Nat) : State :=
  match (s.link n).rel with
  | some p =>
    let t0 := s.posT0 n p
    if s.releasing n ∧ s.ranFor (t0 + s.posSpan n) (s.maxLate n + extra) then s.releaseGap n p t0 else s
  | none => s

/-- GAP_POSITION_RELEASE. -/
def execGapPositionRelease (n : Nat) (s : State) : Host.Outcome State Fault Refusal :=
  onEngines (.gapPositionRelease n) s fun s => s.gapDue n 0

/-- LANE_DEADLINE_MISS: a position still unreleased after its deadline is released late (R108). -/
def execLaneDeadlineMiss (n : Nat) (s : State) : Host.Outcome State Fault Refusal :=
  onEngines (.laneDeadlineMiss n) s fun s => s.gapDue n 100001

/-- No accepted block for SILENCE ms in an enabled state (R105, R106). A block stamped at the expiry instant still wins: the timer
acts once that instant has passed. -/
def State.laneSilent (s : State) (n : Nat) : State :=
  match (s.link n).silentFrom with
  | some t =>
    if t + s.get (LN_TMO_SILENCE n) * 1000000 < s.jobMono then
      let s := s.setLink n fun l => { l with silentFrom := none }
      if 1 ≤ s.laneState n ∧ s.laneState n ≤ 3 then
        ((s.raise EV_LN_SILENT sevMajor 2 n).setLink n fun l => { l with run := 0, gapped := false }).laneTo n lnDown 0
      else s
    else s
  | none => s

/-- LANE_SILENCE. -/
def execLaneSilence (n : Nat) (s : State) : Host.Outcome State Fault Refusal :=
  onEngines (.laneSilence n) s fun s => s.laneSilent n

/-! ### Accepted positions (R101, R105) -/

/-- What an accepted block or frame gives the lane: its sequence number, T0, receive stamp, age in ns, FLAGS and quality as the
status shows them, the highest reason it is not clean (0 when it is), release flags, samples and their OVR count. -/
structure Accepted where
  seq : Nat
  t0 : Nat
  stamp : Nat
  age : Int
  show_ : Option (Nat × Nat)
  why : Nat
  tamper : Bool
  flags : Nat
  rows : List (List LaneSample)

/-- The lane may leave SYNCING: a legal lane holds every descriptor (R104). -/
def State.mayUp (s : State) (n : Nat) : Bool := !s.flag (LN_CFG_LEGAL n) || s.descsHeld n

/-- The status registers and the silence timer after an accepted block (R106, R114, 04). DESIGN CHOICE (log 176): LN_HEAD_TAMPER goes by
accepted sample blocks, and a first one with TAMPER raises it. -/
def State.noteAccepted (s : State) (n : Nat) (a : Accepted) : State :=
  let us := min (a.age.toNat / 1000) 0xffff
  let s := (s.put (LN_LATENCY_LAST n) us).put (LN_LATENCY_MAX n) (max us (s.get (LN_LATENCY_MAX n)))
  let s := s.setPair (LN_LAST_SEQ_LO n) (LN_LAST_SEQ_HI n) a.seq
  let s := match a.show_ with
    | some (fl, q) => (s.put (LN_STATUS_HEAD_FLAGS n) fl).put (LN_STATUS_HEAD_Q n) q
    | none => s
  let first := a.tamper && !(s.link n).tamper
  let s := s.setLink n fun l => { l with tamper := a.tamper, silentFrom := some (s.jobMono + a.stamp - s.jobTai) }
  let s := s.when a.tamper fun s => s.markRecords n rfTamper
  s.when first fun s => s.raise EV_LN_HEAD_TAMPER sevLegal n n

/-- Every position between the next to release and an accepted block is released as a gap at once (R101). -/
def State.closeGaps (s : State) (n seq : Nat) : State :=
  match (s.link n).rel with
  | some p =>
    let u := s.posUnit n
    if s.releasing n then (List.range ((seq - p) / u)).foldl (fun s j => s.releaseGap n (p + j * u) (s.posT0 n (p + j * u))) s else s
  | none => s

/-- The accepted block becomes the last one. -/
def State.holdBlock (s : State) (n : Nat) (a : Accepted) : State :=
  s.setLink n fun l => { l with seq := some a.seq, t0 := a.t0, gapped := false }

/-- The block released as a GOOD position. -/
def State.releaseGood (s : State) (n : Nat) (a : Accepted) : State :=
  (s.setLink n fun l => { l with run := 0 }).release n a.seq a.t0 a.flags a.rows

/-- An accepted block in a lane (R101, R105). In FAULT it is counted only. -/
def State.accept (s : State) (n : Nat) (a : Accepted) : State :=
  let s := (s.count (lnCnt n 0)).countN (lnCnt n 11) (a.rows.flatten.filter LaneSample.ovr).length
  if s.laneState n = lnFault then s
  else
    let s := s.noteAccepted n a
    let sync := s.get (LN_TMO_SYNC_BLOCKS n)
    let clean0 := a.why == 0
    if s.laneState n = lnDown then
      let s := (s.holdBlock n a).setLink n fun l => { l with run := 0 }
      if clean0 ∧ sync = 1 ∧ s.mayUp n then (s.laneTo n lnUp 0).releaseGood n a
      else (s.laneTo n lnSyncing 0).setLink n fun l => { l with clean := bit clean0 }
    else
      let jump : Bool := match (s.link n).seq with
        | some q => decide (q + s.posUnit n < a.seq)
        | none => false
      let s := s.closeGaps n a.seq
      let clean := clean0 && !jump && !(s.link n).gapped
      let k := (s.link n).clean + 1
      if s.laneState n = lnSyncing then
        let s := (s.holdBlock n a).setLink n fun l => { l with clean := if clean then k else 0 }
        if clean ∧ sync ≤ k ∧ s.mayUp n then (s.laneTo n lnUp 0).releaseGood n a else s
      else if s.laneState n = lnUp then
        let s := s.holdBlock n a
        (if clean0 then s else s.laneTo n lnDegraded a.why).releaseGood n a
      else
        let s := (s.holdBlock n a).setLink n fun l => { l with clean := if clean then k else 0 }
        let s := if clean ∧ sync ≤ k then s.laneTo n lnUp 0 else if clean then s else s.laneTo n lnDegraded a.why
        s.releaseGood n a

/-- A failure at step 6 or 8 of R99: counted, and the lane goes to FAULT, from DOWN too. -/
def State.laneFault (s : State) (n cnt why : Nat) : State := (s.count (lnCnt n cnt)).laneTo n lnFault why

/-! ### Reed blocks (R93 to R102) -/

/-- The bytes of a sample block that its tag covers (R93, R96). -/
def reedAad (b : ReedBlock) : List Byte :=
  beBytes 1 b.subtype ++ beBytes 1 b.version ++ beBytes 2 b.length ++ beBytes 8 b.headId ++ beBytes 1 b.lane ++ beBytes 1 b.nq ++
  beBytes 1 b.rate ++ beBytes 1 b.flags ++ beBytes 8 b.seq ++ beBytes 6 (b.t0 / 1000000000) ++ beBytes 4 (b.t0 % 1000000000) ++
  beBytes 2 b.t0Qual ++ beBytes 2 b.keyGen ++ beBytes 2 0 ++ b.samples.flatMap fun w => beBytes 4 w.toNat

/-- The bytes of a descriptor that its tag covers (R95, R96). -/
def descAad (d : DescBlock) : List Byte :=
  beBytes 1 2 ++ beBytes 1 d.version ++ beBytes 2 d.length ++ beBytes 8 d.headId ++ beBytes 1 d.lane ++ beBytes 1 d.qidx ++
  beBytes 1 d.qtype ++ beBytes 1 d.flags ++ beBytes 8 d.dseq ++ beBytes 4 d.calId ++ beBytes 4 d.rated ++ beBytes 2 d.keyGen ++
  beBytes 2 0 ++ d.segments.flatMap fun g => beBytes 2 g.brk ++ beBytes 2 g.phase ++ beBytes 4 g.gain

/-- The 96-bit IV of R96. -/
def laneIv (subtype headId seq : Nat) : Nat := subtype * 2 ^ 88 + headId % 2 ^ 24 * 2 ^ 64 + seq % 2 ^ 64

/-- Samples per quantity of a block with a RATE code (R93). -/
def perMs (rate : Nat) : Nat := 8 * 2 ^ rate

/-- Step 1 for a sample block (R93, R94). -/
def reedFormat (b : ReedBlock) : Bool :=
  b.version == 1 && b.length == b.payloadLen && decide (1 ≤ b.nq) && decide (b.nq ≤ 8) && decide (b.rate ≤ 2) &&
  b.length == 56 + 4 * perMs b.rate * b.nq && b.samples.length == perMs b.rate * b.nq && decide (b.flags < 16) && b.zeroOk &&
  b.samples.all fun w => w.field 29 24 == 0

/-- Step 1 for a descriptor (R95). -/
def descFormat (d : DescBlock) : Bool :=
  d.version == 1 && d.length == 116 && d.payloadLen == 116 && decide (d.qidx ≤ 7) && decide (d.flags < 16) && d.zeroOk &&
  d.segments.length == 8

/-- The candidate slots of step 4, each with whether it is NEXT. -/
def State.candidates (s : State) (n gen : Nat) : List (Nat × Bool) :=
  let c (k : Nat) (next : Bool) : List (Nat × Bool) := if s.keyGen k % 65536 = gen then [(k, next)] else []
  c (s.get (LN_KEY_SLOT n)) false ++ (if s.flag (LN_KEY_NEXT_EN n) then c (s.get (LN_KEY_NEXT n)) true else [])

/-- The tag verifies under a slot that still admits INGEST_AUTH (R96, R97, R332). -/
def State.tagUnder (s : State) (k iv : Nat) (aad : List Byte) (tag : Nat) : Bool :=
  s.admits k 3 && s.keyAlg k == 1 && s.keyUsage k == 4 && gcmTag 16 (s.keyOf k) iv aad [] == tag

/-- Steps 2 to 5 of R99: the slot the block verified under is SLOT or NEXT, or the block is disposed of. -/
def State.authenticate (s : State) (n headId gen iv : Nat) (aad : List Byte) (tag : Nat) : State × Option Bool :=
  if ¬ s.flag (LN_CFG_EN n) ∨ s.isSv n then (s.count (lnGCnt 1), none)
  else if headId ≠ (s.link n).headId then (s.count (lnCnt n 1), none)
  else
    match s.candidates n gen with
    | [] => (s.count (lnCnt n 2), none)
    | cs =>
      match cs.find? fun c => s.tagUnder c.1 iv aad tag with
      | none => ((s.count (lnCnt n 3)).raise EV_LN_AUTH_FAIL sevMajor n n, none)
      | some (_, next) => (if next then (s.setLink n fun l => { l with matched := true }).showLane n else s, some next)

/-- The lane changes keys (R102): NEXT becomes SLOT, logged without a seal count; none when the audit log is full. DESIGN CHOICE (log 205):
the stored configuration keeps the host's last LN_KEY. -/
def State.keySwap (s : State) (n : Nat) : Option State :=
  if s.auditFull then none
  else
    let old := s.word (LN_KEY n)
    let k := s.get (LN_KEY_NEXT n)
    let s := ((s.put (LN_KEY_SLOT n) k).put (LN_KEY_NEXT_EN n) 0)
    let addr := bar0Base + LN_KEY n
    let s := s.auditAdd { type := 5, master := 11, addrFirst := addr, addrLast := addr, old, new := s.word (LN_KEY n), lane := n }
    some (((s.setLink n fun l => { l with matched := false }).showLane n).showService (old % 256) |>.showService k)

/-- The age of step 9 lies in −MAX_EARLY to +MAX_LATE. -/
def State.ageOk (s : State) (n : Nat) (age : Int) : Bool :=
  decide (-(s.get (LN_TIMING_MAX_EARLY n) * 1000 : Int) ≤ age) && decide (age ≤ (s.maxLate n : Int))

/-- The reasons of R105 a reed block is not clean for, the highest of them, 0 when none. -/
def State.reedWhy (s : State) (n : Nat) (b : ReedBlock) : Nat :=
  let q := s.get (LN_CFG_MIN_Q n)
  if b.flags.testBit 3 then 6 else if b.flags.testBit 2 then 4 else if ¬ b.flags.testBit 0 then 2
  else if q ≠ 15 ∧ q < b.t0Qual % 16 then 1 else 0

/-- A sample word of a block (R94). -/
def sampleOf (w : Word) : LaneSample := ⟨signedOf 24 (w.field 23 0), w.field 30 30 == 1, w.field 31 31 == 1⟩

/-- A list cut into rows. -/
def rowsOf {α : Type} : Nat → Nat → List α → List (List α)
  | 0, _, _ => []
  | k + 1, w, l => l.take w :: rowsOf k w (l.drop w)

/-- Steps 6 to 9 for an authenticated sample block, and its acceptance. -/
def State.sampleSteps (s : State) (n : Nat) (b : ReedBlock) : State :=
  let l := s.link n
  if b.nq ≠ s.laneNq n ∨ b.rate ≠ s.get (LN_CFG_RATE n) then s.laneFault n 4 8
  else if (l.seq.map fun q => decide (b.seq ≤ q)).getD false then s.count (lnCnt n 5)
  else
    let follows : Bool := match l.seq with
      | some q => s.laneState n == lnDown || (b.t0 : Int) - l.t0 == ((b.seq : Int) - q) * 1000000
      | none => true
    if b.t0 % 1000000 ≠ 0 ∨ ¬ follows then s.laneFault n 7 9
    else
      let age : Int := (b.stamp : Int) - (b.t0 + 1000000)
      if ¬ s.ageOk n age then s.count (lnCnt n 8)
      else
        s.accept n { seq := b.seq, t0 := b.t0, stamp := b.stamp, age, show_ := some (b.flags, b.t0Qual % 16), why := s.reedWhy n b,
                     tamper := b.flags.testBit 3, flags := 1 + (if b.flags.testBit 1 then 8 else 0),
                     rows := rowsOf (perMs b.rate) b.nq (b.samples.map sampleOf) }

/-- A sample block received on the LANE path (R93 to R102). -/
def State.sampleBlock (s : State) (b : ReedBlock) : State :=
  if s.cold ∨ s.net.pathsClosed then s
  else if b.subtype ≠ 1 then s.count (lnGCnt 2)
  else if ¬ (reedFormat b) then s.count (lnGCnt 0)
  else
    let n := b.lane
    match s.authenticate n b.headId b.keyGen (laneIv 1 b.headId b.seq) (reedAad b) b.tag with
    | (s, none) => s
    | (s, some false) => s.sampleSteps n b
    | (s, some true) =>
      match s.keySwap n with
      | some t => t.sampleSteps n b
      | none => (s.count (lnCnt n 2)).raise EV_LN_KEY_SWAP_REFUSED sevMajor n n

/-- SAMPLE_BLOCK_RX: a poisoned frame never reaches the lane block (R88). -/
def execSampleBlockRx (b : ReedBlock) (s : State) : Host.Outcome State Fault Refusal :=
  onEngines (.sampleBlockRx b) s fun s => if b.poisoned then s else s.sampleBlock b

/-! ### Descriptors (R103) -/

/-- The held descriptor of a quantity has this content. -/
def State.descSame (s : State) (n : Nat) (d : DescBlock) : Bool :=
  let q := d.qidx
  s.flag (LN_DESC_INFO_VALID n q) && s.get (LN_DESC_INFO_QTYPE n q) == d.qtype && s.word (LN_DESC_ID n q) == d.calId &&
  s.word (LN_DESC_RATED n q) == d.rated &&
  (List.range 8).all fun k =>
    let g := d.segments.getD k default
    s.word (LN_DESC_SEG_A n q k) == g.brk * 65536 + g.phase && s.word (LN_DESC_SEG_B n q k) == g.gain

/-- A descriptor stored in the registers of its quantity. -/
def State.storeDesc (s : State) (n : Nat) (d : DescBlock) : State :=
  let q := d.qidx
  let s := ((s.setWord (LN_DESC_ID n q) d.calId).setWord (LN_DESC_RATED n q) d.rated).setWord (LN_DESC_INFO n q) (256 + d.qtype)
  let s := s.forEach 8 fun k s =>
    let g := d.segments.getD k default
    (s.setWord (LN_DESC_SEG_A n q k) (g.brk * 65536 + g.phase)).setWord (LN_DESC_SEG_B n q k) g.gain
  s.showLane n

/-- An accepted descriptor (R103). -/
def State.acceptDesc (s : State) (n : Nat) (d : DescBlock) : State :=
  let s := s.setLink n fun l => { l with dseq := some d.dseq }
  if s.descSame n d then s.count (lnCnt n 9)
  else if s.auditFull then
    let s := s.count (lnCnt n 10)
    if s.releasing n then s.laneTo n lnDegraded 5 else s
  else
    let addr := bar0Base + LN_DESC_ID n d.qidx
    let s := (s.storeDesc n d).sealBy 1
    let s := s.auditAdd { type := 4, master := 11, count := 1, addrFirst := addr, addrLast := addr, lane := n, digest := sha256 (descAad d) }
    s.count (lnCnt n 9)

/-- A descriptor block received on the LANE path (R95 to R103). -/
def State.descriptor (s : State) (d : DescBlock) : State :=
  if s.cold ∨ s.net.pathsClosed then s
  else if ¬ (descFormat d) then s.count (lnGCnt 0)
  else
    let n := d.lane
    match s.authenticate n d.headId d.keyGen (laneIv 2 d.headId d.dseq) (descAad d) d.tag with
    | (s, none) => s
    | (s, some _) =>
      if s.laneNq n ≤ d.qidx then s.laneFault n 4 8
      else if ((s.link n).dseq.map fun q => decide (d.dseq ≤ q)).getD false then s.count (lnCnt n 5)
      else s.acceptDesc n d

/-- DESCRIPTOR_RX. -/
def execDescriptorRx (d : DescBlock) (s : State) : Host.Outcome State Fault Refusal :=
  onEngines (.descriptorRx d) s fun s => s.descriptor d

/-! ### Sampled values (R110, R111) -/

/-- The lane an 0x88BA frame belongs to: enabled, of KIND 1, with its APPID and source address. DESIGN CHOICE (log 206): of several such
lanes, the lowest. -/
def State.svLane (s : State) (f : SvFrame) : Option Nat :=
  (List.range 256).find? fun n =>
    s.flag (LN_CFG_EN n) && s.isSv n && s.get (LN_SV_APPID n) == f.appid && (s.link n).headId % 2 ^ 48 == f.src

/-- The extended sample count of a frame (R111). -/
def State.svCount (s : State) (n : Nat) (f : SvFrame) : Nat :=
  let rate := s.laneRate n
  let c := (f.asdus.headD {}).smpCnt
  ((f.stamp + s.get (LN_TIMING_MAX_EARLY n) * 1000) * rate - c * 1000000000) / (1000000000 * rate) * rate + c

/-- The samples of a frame as rows: the first NQ of each ASDU, INVALID where the quality is not good. -/
def State.svRows (s : State) (n : Nat) (f : SvFrame) : List (List LaneSample) :=
  f.asdus.map fun a => (a.samples.take (s.laneNq n)).map fun x => ⟨x.1, !x.2, false⟩

/-- A sampled-value frame on the LANE path (R110, R111). DESIGN CHOICE (log 20): a frame whose noASDU differs from LN_SV.ASDU
fails as a configuration mismatch, as a changed confRev does; a simulated frame that is not admitted is dropped uncounted. -/
def State.svFrame (s : State) (f : SvFrame) : State :=
  if s.cold ∨ s.net.pathsClosed then s
  else if ¬ f.formatOk ∨ f.secured ∨ f.asdus.isEmpty ∨ 8 < f.asdus.length ∨ f.asdus.any (fun a => a.samples.length != 8) then s.count (lnGCnt 0)
  else
    match s.svLane f with
    | none => s.count (lnGCnt 1)
    | some n =>
      let l := s.link n
      let rate := s.laneRate n
      let e := s.svCount n f
      let c := (f.asdus.headD {}).smpCnt
      if f.simulated ∧ ¬ s.flag (LN_SV_SIM_OK n) then s
      else if f.asdus.length ≠ s.asdu n ∨ (l.confRev.map fun v => v != f.confRev).getD false then s.laneFault n 4 8
      else if (l.seq.map fun q => decide (e ≤ q)).getD false then s.count (lnCnt n 5)
      else
        let counts := ((List.range f.asdus.length).zip f.asdus).all fun (j, a) => a.smpCnt == (c + j) % rate
        let multiple : Bool := match l.seq with
          | some q => (e - q) % s.asdu n == 0
          | none => true
        if ¬ counts ∨ (¬ multiple ∧ s.laneState n ≠ lnDown) then s.laneFault n 7 9
        else
          let age : Int := (f.stamp : Int) - ((e + s.asdu n) * 1000000000 / rate : Nat)
          if ¬ s.ageOk n age then s.count (lnCnt n 8)
          else
            let rows := s.svRows n f
            let bad := rows.foldl (fun a r => a + (r.filter LaneSample.invalid).length) 0
            let s := s.setLink n fun l => { l with confRev := some (l.confRev.getD f.confRev) }
            let s := s.countN (lnCnt n 12) bad
            s.accept n { seq := e, t0 := e * 1000000000 / rate, stamp := f.stamp, age, show_ := none,
                         why := if f.asdus.all (fun a => a.smpSynch == 2) then 0 else 7, tamper := false, flags := 1, rows }

/-- SV_FRAME_RX. -/
def execSvFrameRx (f : SvFrame) (s : State) : Host.Outcome State Fault Refusal :=
  onEngines (.svFrameRx f) s fun s => s.svFrame f

/-! ### Register writes (R90 to R92, R97, R109) -/

/-- A slot named by a lane admits INGEST_AUTH, and no other enabled lane names it (R97). DEDUCED (log 21): as written, for
lanes of both kinds. -/
def State.laneSlotOk (s : State) (n k : Nat) : Bool :=
  s.admits k 3 && (List.range 256).all fun m =>
    m == n || !s.flag (LN_CFG_EN m) ||
      (s.get (LN_KEY_SLOT m) != k && !(s.flag (LN_KEY_NEXT_EN m) && s.get (LN_KEY_NEXT m) == k))

/-- Why a write to an LN register is refused, if it is. -/
def laneGuard (s : State) (base : Nat) (ix : List Nat) (w : Word) : Option Nat :=
  match base, ix with
  | 0x100000, [n] =>
    let old := s.reg (LN_CFG n)
    let fixed (v : Word) : Nat := v.field 12 8 * 32 + v.field 4 1
    let q := w.field 19 16
    if 7 < q ∧ q ≠ 15 then some reasonRange
    else if w.field 2 1 = 1 ∧ (1 < w.field 12 11 ∨ w.field 3 3 = 1) then some reasonRange
    else if w.field 2 1 = 0 ∧ w.field 12 11 = 3 then some reasonRange
    else if old.field 0 0 = 1 ∧ fixed old ≠ fixed w then some reasonState
    else if old.field 0 0 = 1 ∨ w.field 0 0 = 0 then none
    else if (s.link n).headId = 0 ∨ ¬ s.laneSlotOk n (s.get (LN_KEY_SLOT n)) then some reasonState
    else if limitLane s.point (s.flag ME_G_CFG_DUAL) < s.laneLoad n w ∨ limitFrames s.point < s.laneFrames n w (s.reg (LN_SV n)) then
      some reasonLoad
    else none
  | 0x100004, [n] => if s.flag (LN_CFG_EN n) ∧ w ≠ s.reg (LN_HEAD_ID_LO n) then some reasonState else none
  | 0x100008, [n] =>
    if s.flag (LN_CFG_EN n) ∧ w.toNat * 2 ^ 32 + s.word (LN_HEAD_ID_LO n) ≠ (s.link n).headId then some reasonState else none
  | 0x10000c, [n] =>
    if ¬ s.flag (LN_CFG_EN n) then none
    else if w.field 7 0 ≠ s.get (LN_KEY_SLOT n) then some reasonState
    else if w.field 16 16 = 1 ∧ ¬ s.laneSlotOk n (w.field 15 8) then some reasonState else none
  | 0x100018, [n] =>
    if s.flag (LN_CFG_EN n) ∧ limitFrames s.point < s.laneFrames n (s.reg (LN_CFG n)) w then some reasonLoad else none
  | _, _ => none

/-- A lane disabled (R105, R106): releases stop, continuity and descriptors are forgotten, DOWN. -/
def State.laneOff (s : State) (n : Nat) : State :=
  let s := s.laneTo n lnDown 0
  let s := s.setLink n fun l => { headId := l.headId }
  let s := s.forEach 8 fun q s =>
    let s := ((s.setWord (LN_DESC_ID n q) 0).setWord (LN_DESC_RATED n q) 0).setWord (LN_DESC_INFO n q) 0
    s.forEach 8 fun k s => (s.setWord (LN_DESC_SEG_A n q k) 0).setWord (LN_DESC_SEG_B n q k) 0
  s.showLane n

/-- What an accepted write to an LN register does beside storing its fields. -/
def laneEffect (base : Nat) (ix : List Nat) (old w : Word) (s : State) : State :=
  match base, ix with
  | 0x100000, [n] =>
    let s := if old.field 0 0 = 1 ∧ w.field 0 0 = 0 then s.laneOff n else s
    let s := s.put ME_LOAD_LOAD (s.laneLoad n w)
    let s := (s.showService (s.get (LN_KEY_SLOT n))).showService (s.get (LN_KEY_NEXT n))
    (s.refreshAble n).showLane n
  | 0x100008, [n] => s.setLink n fun l => { l with headId := w.toNat * 2 ^ 32 + s.word (LN_HEAD_ID_LO n) }
  | 0x10000c, [n] =>
    let s := if old.field 16 8 = w.field 16 8 then s else s.setLink n fun l => { l with matched := false }
    let s := [old.field 7 0, old.field 15 8, w.field 7 0, w.field 15 8].foldl State.showService s
    s.showLane n
  | 0x10001c, [n] =>
    if w.field 0 0 = 1 ∧ s.laneState n = lnFault then (s.forget n false).laneTo n lnDown 0 else s
  | 0x10004c, [n] => s.put (LN_LATENCY_MAX n) 0
  | _, _ => s

/-! ### Time step and resets -/

/-- A time step (R48, R105): every enabled state goes to SYNCING and continuity is forgotten. -/
def State.lanesStep (s : State) : State :=
  s.forEach 256 fun n s =>
    if 1 ≤ s.laneState n ∧ s.laneState n ≤ 3 then (s.forget n true).laneTo n lnSyncing 0 else s

/-- A class W reset (R113): every lane DOWN with continuity forgotten; descriptors, configuration and counters stay. -/
def State.lanesWarm (s : State) : State :=
  s.forEach 256 fun n s =>
    let s := if s.laneState n = lnDown then s else s.laneTo n lnDown 0
    if s.link n = {} then s else s.setLink n fun l => { headId := l.headId, matched := l.matched, tamper := l.tamper }

end Sys2Proof.Machine
end

