-- ==== Sys2Proof/Machine/Capture.lean ====
section
/-!
DEFINITION. Capture units (10, R268 to R284): slots, rows, triggers, records and their measurements, and the two host commands.
-/

namespace Sys2Proof.Machine

/-- The states of a unit (CP_STATUS). -/
abbrev cpIdle : Nat := 0
@[inherit_doc cpIdle] abbrev cpPre : Nat := 1
@[inherit_doc cpIdle] abbrev cpArmed : Nat := 2
@[inherit_doc cpIdle] abbrev cpPost : Nat := 3
@[inherit_doc cpIdle] abbrev cpHoldoff : Nat := 4
@[inherit_doc cpIdle] abbrev cpFull : Nat := 5

/-- What a unit remembers. -/
def State.cu (s : State) (u : Nat) : CaptureUnit := Store.get (fun _ => {}) s.capture.units u
@[inherit_doc State.cu] def State.setCu (s : State) (u : Nat) (f : CaptureUnit → CaptureUnit) : State :=
  { s with capture := { s.capture with units := Store.set (fun _ => {}) s.capture.units u (f (s.cu u)) } }

/-- The record of a slot. -/
def State.slotRec (s : State) (u k : Nat) : CaptureRecord := Store.get (fun _ => {}) (s.cu u).records k
@[inherit_doc State.slotRec] def State.setSlotRec (s : State) (u k : Nat) (f : CaptureRecord → CaptureRecord) : State :=
  s.setCu u fun v => { v with records := Store.set (fun _ => {}) v.records k (f (s.slotRec u k)) }

/-- The record being gathered. -/
def State.curRec (s : State) (u : Nat) : CaptureRecord := s.slotRec u (s.cu u).slot
@[inherit_doc State.curRec] def State.setCurRec (s : State) (u : Nat) (f : CaptureRecord → CaptureRecord) : State :=
  s.setSlotRec u (s.cu u).slot f

/-- A counter of a unit. -/
def cpCnt (u i : Nat) : Cnt := ⟨CP_CNT u i, ⟨CP_STATUS u, 8 + i, 8 + i⟩, EV_CP_CNT_SAT, u, u⟩

/-- A unit's state. -/
def State.cuState (s : State) (u : Nat) : Nat := s.get (CP_STATUS_STATE u)

/-! ### Geometry (R271, R272, R278) -/

/-- Channels, bytes of a row, bytes of a record, and slots of the region. -/
def State.cuChannels (s : State) (u : Nat) : Nat := s.get (CP_CFG_NCH u) + 1
@[inherit_doc State.cuChannels] def State.rowBytes (s : State) (u : Nat) : Nat :=
  4 * s.cuChannels u + (if s.get (CP_CFG_NST u) = 0 then 0 else 4)
@[inherit_doc State.cuChannels] def State.recordBytes (s : State) (u : Nat) : Nat :=
  (1024 + s.rowBytes u * (s.get (CP_PRE_PRE u) + s.get (CP_POST_POST u)) + 4095) / 4096 * 4096
@[inherit_doc State.cuChannels] def State.cuSlots (s : State) (u : Nat) : Nat := s.get (CP_POOL_SIZE u) * 2 ^ 20 / s.recordBytes u

/-- The rate of a channel in samples per second. -/
def State.channelRate (s : State) (u c : Nat) : Nat :=
  let i := s.get (CP_CH_INDEX u c)
  if s.get (CP_CH_KIND u c) = 0 then (presetOf (s.get (FC_CFG_PRESET i))).rate
  else if s.get (CP_CH_KIND u c) = 1 then 256000 else s.laneRate i

/-- A channel's source can be recorded. -/
def State.channelOk (s : State) (u c : Nat) : Bool :=
  let i := s.get (CP_CH_INDEX u c)
  if s.get (CP_CH_KIND u c) = 0 then decide (i < 64) && s.flag (FC_CFG_EN i)
  else if s.get (CP_CH_KIND u c) = 1 then decide (i < 64) && (s.regList (i / 8)).contains (i % 8)
  else s.flag (LN_CFG_EN i) && decide (s.get (CP_CH_Q u c) < s.laneNq i)

/-- The condition bit of status channel b. -/
def State.statusBit (s : State) (u b : Nat) : Nat := if b % 2 = 0 then s.get (CP_ST_BIT_EVEN u (b / 2)) else s.get (CP_ST_BIT_ODD u (b / 2))

/-- The capture load of a unit with a configuration word. -/
def State.cuLoad (s : State) (u : Nat) (c : Word) : Nat :=
  if c.field 0 0 = 0 then 0 else (c.field 11 8 + 1 + (if c.field 17 12 = 0 then 0 else 1)) * s.channelRate u 0

/-- The capture load of all units, and CP_G_LOAD that shows it (R272). -/
def State.captureLoad (s : State) : Nat := ((List.range 16).map fun u => s.cuLoad u (s.reg (CP_CFG u))).sum
@[inherit_doc State.captureLoad] def State.showCaptureLoad (s : State) : State := s.put CP_G_LOAD_LOAD s.captureLoad

/-- The region of a unit meets that of another enabled unit, or runs beyond the pool. -/
def State.regionBad (s : State) (u : Nat) : Bool :=
  let b := s.get (CP_POOL_BASE u)
  let e := b + s.get (CP_POOL_SIZE u)
  decide (2048 < e) || (List.range 16).any fun v =>
    v != u && s.flag (CP_CFG_EN v) && decide (b < s.get (CP_POOL_BASE v) + s.get (CP_POOL_SIZE v)) && decide (s.get (CP_POOL_BASE v) < e)

/-- CP_INFO and FREE as they stand. A region of more than 65535 slots shows 65535. -/
def State.showCu (s : State) (u : Nat) : State :=
  let n := min (s.cuSlots u) 65535
  let s := (s.put (CP_INFO_SLOTS u) n).put (CP_INFO_ROW_BYTES u) (s.rowBytes u)
  s.put (CP_STATUS_FREE u) (n - ((s.cu u).records.filter fun e => e.2.state == 3).length)

/-! ### Slots (R276, R278) -/

/-- The slot the next record goes to: the first free one that no CAPTURE_READ copies from, going round from the present slot; with
FULL_MODE 1 and none free, the complete record with the lowest RSEQ that no CAPTURE_READ copies. -/
def State.nextSlot (s : State) (u : Nat) : Option Nat :=
  let n := s.cuSlots u
  let v := s.cu u
  match (List.range n).find? fun i => (s.slotRec u ((v.slot + i) % n)).state != 3 && !v.reading.contains ((v.slot + i) % n) with
  | some i => some ((v.slot + i) % n)
  | none =>
    if s.get (CP_CFG_FULL_MODE u) = 0 then none
    else
      (v.records.foldl (fun (b : Option (Nat × Nat)) e =>
        if e.2.state = 3 ∧ ¬ v.reading.contains e.1 then
          match b with
          | some (_, q) => if e.2.rseq < q then some (e.1, e.2.rseq) else b
          | none => some (e.1, e.2.rseq)
        else b) none).map (·.1)

/-- A record begun in a slot: GEN odd while it is gathered. ST_LAG is a free value: the spec gives no number. -/
def State.beginRecord (s : State) (u k : Nat) : State :=
  let s := s.setCu u fun v => { v with slot := k }
  (s.setCurRec u fun r => { gen := (r.gen + 1 + r.gen % 2) % 2 ^ 32, state := 1, lag := s.drawn }).draw.showCu u

/-- The unit's state set. -/
def State.cuTo (s : State) (u st : Nat) : State := s.put (CP_STATUS_STATE u) st

/-- Gathering into the next slot with a state, or FULL with its event. -/
def State.gather (s : State) (u st : Nat) : State :=
  match s.nextSlot u with
  | some k => (s.beginRecord u k).cuTo u st
  | none => (s.cuTo u cpFull).raise EV_CP_FULL sevWarning u u

/-! ### Patterns (R274) -/

/-- A 512-bit mask held in 16 registers. -/
def State.mask512 (s : State) (off : Nat → Nat) : Nat := ((List.range 16).map fun i => s.word (off i) * 2 ^ (32 * i)).sum

/-- The lowest bit of a mask. -/
def lowBit (m : Nat) : Option Nat := (List.range 512).find? fun b => m.testBit b

/-- A unit's pattern judged on an update: whether it matches, and the bit that made it (0xffff for a level pattern). -/
def State.matches (s : State) (u old new : Nat) : Option Nat :=
  let pat := s.mask512 (CP_PAT u)
  let care := s.mask512 (CP_CARE u)
  let edge := care &&& s.mask512 (CP_EDGE u)
  if (new ^^^ pat) &&& care ≠ 0 then none
  else if edge = 0 then some 0xffff
  else lowBit ((old ^^^ new) &&& edge)

/-- The vector as the units have evaluated it. -/
def State.unitVector (s : State) : Nat := match s.capture.forUnits with
  | u :: _ => u.old
  | [] => s.capture.vector

/-- The bits 496 to 511 as the units now stand: those that one cause changed enter together (R268, R270). -/
def State.unitConds (s : State) (data : Stamp) : State :=
  s.setConds ((List.range 16).map fun u => (496 + u, s.cuState u == cpPost)) data

/-- A trigger: the record enters POST (R274 to R276); what its TRIGGERED bit is part of enters the vector with it. -/
def State.trigger (s : State) (u flags causeBit vector : Nat) (time : Stamp) : State :=
  let s := s.setCurRec u fun r => { r with
    state := 2
    flags := r.flags ||| flags
    preAct := r.rows.length
    trigTime := time
    causeBit := causeBit
    vector := vector }
  ((s.cuTo u cpPost).count (cpCnt u 0)).raise EV_CP_TRIGGER sevInfo u u

/-- A unit in PRE with PRE rows becomes ARMED, and a level pattern that already holds triggers it at once. -/
def State.armIfReady (s : State) (u : Nat) : State :=
  if s.cuState u = cpPre ∧ s.get (CP_PRE_PRE u) ≤ (s.curRec u).rows.length then
    let s := s.cuTo u cpArmed
    if s.mask512 (CP_CARE u) &&& s.mask512 (CP_EDGE u) = 0 ∧ (s.matches u s.unitVector s.unitVector).isSome then
      s.trigger u 0 0xffff s.unitVector s.now
    else s
  else s

/-- The hold-off ended (R277): the unit gathers in PRE; one in FULL waits for its slot alone. -/
def State.holdoffOver (s : State) (u : Nat) : State :=
  let clear (s : State) : State := s.setCu u fun v => { v with holdoffEnds := none, holdoffLeft := 0 }
  if s.cuState u = cpHoldoff then ((clear s).cuTo u cpPre).armIfReady u
  else if s.cuState u = cpFull then clear s
  else s

/-- A hold-off still runs (R277): in ms of monotonic time, or in matches. -/
def State.holdoffRuns (s : State) (u : Nat) : Bool :=
  (((s.cu u).holdoffEnds.map fun t => decide (s.time.mono < t)).getD false) || decide (0 < (s.cu u).holdoffLeft)

/-! ### Measurements and the header (R279, R280) -/

/-- The valid samples of channel c: instant in ns and value in LSBs. -/
def rowSamples (kind at_ : Nat) (rows : List CaptureRow) : List (Rat × Int) :=
  rows.filterMap fun r =>
    let w := r.words.getD at_ 0
    let bad := if kind = 0 then w.field 26 26 else if kind = 1 then w.field 31 31 else w.field 30 30
    if bad = 1 then none else some ((r.time.tai : Rat), if kind = 1 then signedOf 18 (w.field 17 0) else signedOf 24 (w.field 23 0))

/-- The instants of the positive-going zero crossings, interpolated. -/
def crossings : List (Rat × Int) → List Rat
  | (t0, v0) :: (t1, v1) :: rest =>
    let r := crossings ((t1, v1) :: rest)
    if v0 < 0 ∧ 0 ≤ v1 then (t0 + (t1 - t0) * ((-v0 : Int) : Rat) / ((v1 - v0 : Int) : Rat)) :: r else r
  | _ => []

/-- PERIOD, AMP, RMS, MEAN, MIN, MAX as binary32 words, and NVALID. -/
def measure (scale : Rat) (xs : List (Rat × Int)) : List Nat :=
  match xs with
  | [] => [f32NaN, f32NaN, f32NaN, f32NaN, f32NaN, f32NaN, 0]
  | x :: rest =>
    let n : Nat := xs.length
    let lo := rest.foldl (fun a p => min a p.2) x.2
    let hi := rest.foldl (fun a p => max a p.2) x.2
    let mean : Rat := ratSum (xs.map fun p => (p.2 : Rat)) / (n : Rat)
    let sq : Rat := ratSum (xs.map fun p => ((p.2 * p.2 : Int) : Rat)) / (n : Rat)
    let cs := crossings xs
    let period := match cs, cs.getLast? with
      | a :: _ :: _, some b => ratToF32 ((b - a) / ((cs.length - 1 : Nat) : Rat) / 1000000000)
      | _, _ => f32NaN
    [period, ratToF32 (((hi - lo : Int) : Rat) / 2 * scale), ratToF32 (ratSqrt (sq * scale * scale)), ratToF32 (mean * scale),
     ratToF32 ((lo : Rat) * scale), ratToF32 ((hi : Rat) * scale), n]

/-- A record's header (R279); one that is still open has no measurements yet, and its PRE_ACT before the trigger is what it holds. -/
def State.recordHead (s : State) (u : Nat) (r : CaptureRecord) : List Byte :=
  let nch := s.cuChannels u
  let nst := s.get (CP_CFG_NST u)
  let pre := s.get (CP_PRE_PRE u)
  let first := match r.rows with
    | x :: _ => x
    | [] => ⟨s.now, [], [], []⟩
  let preAct := if r.state = 1 then r.rows.length else r.preAct
  let at_ (c : Nat) : Nat := c + (if nst = 0 then 0 else 1)
  let chan (c : Nat) : List Byte :=
    if c < nch then
      leBytes 1 (s.get (CP_CH_KIND u c)) ++ leBytes 1 (s.get (CP_CH_INDEX u c)) ++
      leBytes 1 (if s.get (CP_CH_KIND u c) = 2 then s.get (CP_CH_Q u c) else 0) ++ leBytes 1 (first.gains.getD c 0) ++
      leBytes 4 (s.word (CP_SCALE u c)) ++ leBytes 4 (codeOf 32 (first.skews.getD c 0)) ++ leBytes 4 0
    else List.replicate 16 0
  let meas (c : Nat) : List Byte :=
    if c < nch ∧ r.state = 3 then
      (measure (f32ToRat (s.word (CP_SCALE u c))) (rowSamples (s.get (CP_CH_KIND u c)) (at_ c) r.rows)).flatMap (leBytes 4) ++ leBytes 4 0
    else List.replicate 32 0
  leBytes 4 0x50435a4b ++ leBytes 4 r.gen ++ leBytes 1 r.state ++ leBytes 1 u ++ leBytes 2 r.flags ++ leBytes 4 r.rseq ++
  stampBytes first.time ++ stampBytes r.trigTime ++ leBytes 4 (s.channelRate u 0) ++ leBytes 1 nch ++ leBytes 1 nst ++
  leBytes 2 (s.rowBytes u) ++ leBytes 4 pre ++ leBytes 4 preAct ++ leBytes 4 r.rows.length ++ leBytes 4 r.retrig ++
  leBytes 8 (s.pair GL_SERIAL_LO GL_SERIAL_HI) ++ leBytes 4 r.lag ++ leBytes 1 (s.get PE_G_CFG_F_NOM) ++ leBytes 3 0 ++
  leBytes 2 r.causeBit ++ leBytes 2 0 ++ leBytes 4 (if preAct < pre ∨ pre = 0 then 0 else r.count % pre) ++ leBytes 8 0 ++
  leBytes 64 r.vector ++ (List.range 32).flatMap (fun b => leBytes 2 (if b < nst then s.statusBit u b else 0)) ++ leBytes 32 0 ++
  (List.range 16).flatMap chan ++ (List.range 16).flatMap meas

/-- The header of a record slot: of an open record as it stands now. -/
def State.headOf (s : State) (u : Nat) (r : CaptureRecord) : List Byte := if r.state = 1 ∨ r.state = 2 then s.recordHead u r else r.head

/-- A record freed: its bytes stay, its STATE is FREE. -/
def CaptureRecord.freed (r : CaptureRecord) : CaptureRecord := { r with state := 0, head := r.head.set 8 0 }

/-- A record closed (R281): measured, COMPLETE under an even GEN, RSEQ counted, the unit out of POST, source 48 + u fired. Its TRIGGERED
bit falls with what the cause of the close changes beside it. -/
def State.closeQuiet (s : State) (u flags : Nat) : State :=
  let s := (s.bump (whole (CP_RSEQ u))).deviceMet 14 ((s.curRec u).flags &&& 16 != 0)
  let s := s.setCurRec u fun r =>
    let r := { r with gen := (r.gen + 1) % 2 ^ 32, state := 3, rseq := s.word (CP_RSEQ u), flags := r.flags ||| flags }
    { r with head := s.recordHead u r }
  ((s.showCu u).cuTo u cpHoldoff).fire (48 + u)

/-- A record closed by its unit alone. -/
def State.closeCapture (s : State) (u flags : Nat) : State := (s.closeQuiet u flags).unitConds s.now

/-- What follows a close (R276, R277): IDLE, or the next record under the hold-off. -/
def State.afterClose (s : State) (u : Nat) : State :=
  if ¬ s.flag (CP_CFG_AUTO_REARM u) then s.cuTo u cpIdle
  else
    let mode := s.get (CP_CFG_HOLDOFF_MODE u)
    let value := s.get (CP_HOLDOFF_VALUE u)
    let s := s.setCu u fun v => { v with
      holdoffEnds := if mode = 1 then some (s.time.mono + value * 1000000) else none
      holdoffLeft := if mode = 2 then value else 0 }
    let s := s.gather u cpHoldoff
    if mode = 0 then s.holdoffOver u else s

/-- The present record abandoned: its slot is free. -/
def State.dropRecord (s : State) (u : Nat) : State :=
  (s.setCurRec u fun r =>
    if r.state = 3 ∨ r.state = 0 then r
    else { r with gen := (r.gen + r.gen % 2) % 2 ^ 32, state := 0, head := (s.headOf u r).set 8 0 }).showCu u

/-- DISARM (R276): a record in POST closes with ABORTED. -/
def State.disarmQuiet (s : State) (u : Nat) : State :=
  let st := s.cuState u
  if st = cpIdle then s
  else
    let s := if st = cpPost then s.closeQuiet u 4 else s.dropRecord u
    (s.setCu u fun v => { v with holdoffEnds := none, holdoffLeft := 0, lastRow := none }).cuTo u cpIdle
@[inherit_doc State.disarmQuiet] def State.disarm (s : State) (u : Nat) : State := (s.disarmQuiet u).unitConds s.now

/-- ARM (R276, R277). -/
def State.arm (s : State) (u : Nat) : State :=
  if s.cuState u = cpIdle then
    match s.nextSlot u with
    | some k => (((s.beginRecord u k).cuTo u cpPre).armIfReady u).unitConds s.now
    | none => s
  else (s.holdoffOver u).unitConds s.now

/-- A TRIG write (R274): ARMED or PRE trigger, with SW_TRIG and in PRE SHORT_PRE; elsewhere it is counted. -/
def State.softTrigger (s : State) (u : Nat) : State :=
  if s.cuState u = cpArmed then (s.trigger u 32 0xffff s.unitVector s.now).unitConds s.now
  else if s.cuState u = cpPre then (s.trigger u 33 0xffff s.unitVector s.now).unitConds s.now
  else s.count (cpCnt u 4)

/-- A unit in FULL with a slot freed gathers again (R276), still under a hold-off that has not run out (R277). -/
def State.leaveFull (s : State) (u : Nat) : State :=
  if s.cuState u = cpFull then
    match s.nextSlot u with
    | some k =>
      let s := (s.beginRecord u k).cuTo u cpHoldoff
      if s.holdoffRuns u then s else (s.holdoffOver u).unitConds s.now
    | none => s
  else s

/-- RELEASE_ALL (R278): every complete record is freed; the slot of one that a CAPTURE_READ still copies takes no other until then. -/
def State.releaseAll (s : State) (u : Nat) : State :=
  let s := s.setCu u fun v => { v with records := v.records.map fun (e : Nat × CaptureRecord) => if e.2.state = 3 then (e.1, e.2.freed) else e }
  (s.showCu u).leaveFull u

/-- A unit that may run: enabled, the role not COLD_STANDBY. -/
def State.cuOn (s : State) (u : Nat) : Bool := s.flag (CP_CFG_EN u) && !s.cold

/-- The bits of CP_CTRL, DISARM first. A unit that may not run is IDLE: ARM finds nothing to gather with, TRIG is counted. -/
def State.cuControl (s : State) (u : Nat) (c : Word) : State :=
  if ¬ s.cuOn u then
    let s := if c.field 3 3 = 1 then s.releaseAll u else s
    if c.field 2 2 = 1 then s.softTrigger u else s
  else
    let s := if c.field 1 1 = 1 then s.disarm u else s
    let s := if c.field 3 3 = 1 then s.releaseAll u else s
    let s := if c.field 0 0 = 1 then s.arm u else s
    if c.field 2 2 = 1 then s.softTrigger u else s

/-! ### Matches (R274 to R277) -/

/-- One update judged by one unit; a match during a hold-off is counted, also while the unit waits in FULL (R277). -/
def State.matchUnit (s : State) (v : VecUpdate) (u : Nat) : State :=
  if ¬ s.cuOn u then s
  else
    match s.matches u v.old v.new with
    | none => s
    | some b =>
      let st := s.cuState u
      if st = cpArmed then s.trigger u 0 b v.new v.time
      else if st = cpPre then s.count (cpCnt u 2)
      else if st = cpPost then
        (s.setCurRec u fun r => { r with flags := r.flags ||| 2, retrig := (r.retrig + 1) % 2 ^ 32 }).count (cpCnt u 1)
      else if st = cpHoldoff ∨ (st = cpFull ∧ s.holdoffRuns u = true) then
        let s := s.count (cpCnt u 2)
        if s.get (CP_CFG_HOLDOFF_MODE u) = 2 then
          if (s.cu u).holdoffLeft ≤ 1 then s.holdoffOver u else s.setCu u fun v => { v with holdoffLeft := v.holdoffLeft - 1 }
        else s
      else s

/-- The oldest update the units have not evaluated: the units it triggers enter the vector as one update (R270). -/
def State.captureMatch (s : State) : State :=
  match s.capture.forUnits with
  | [] => s
  | v :: rest => (State.forEach { s with capture := { s.capture with forUnits := rest } } 16 fun u s => s.matchUnit v u).unitConds v.time

/-- CAPTURE_MATCH. -/
def execCaptureMatch (s : State) : Host.Outcome State Fault Refusal := onEngines .captureMatch s State.captureMatch

/-- The updates waiting when a row completes, so that a row after an update falls after its trigger (R275). -/
def State.drainMatches (s : State) : State := s.forEach s.capture.forUnits.length fun _ s => s.captureMatch

/-! ### Rows (R273) -/

/-- ns of half a sample period of a channel. -/
def State.halfPeriod (s : State) (u c : Nat) : Nat := 500000000 / max 1 (s.channelRate u c)

/-- A sample found of a channel: its instant, and its word where it has one. -/
abbrev RowSample : Type := Nat × Option Word

/-- The samples that the source of a channel has delivered (R271), newest first: outputs of its chain, regular results of its input, words
of its lane's quantity. A position released as a gap holds no sample. DEDUCED (log 211). -/
def State.channelSamples (s : State) (u c : Nat) : List RowSample :=
  let i := s.get (CP_CH_INDEX u c)
  if s.get (CP_CH_KIND u c) = 0 then (s.chainView i).outputs.map fun o => (o.1, some o.2)
  else if s.get (CP_CH_KIND u c) = 1 then (s.chain i).raws.map fun o => (frameInstant o.1, some o.2)
  else
    let word (x : LaneSample) : Word := BitVec.ofNat 32 (codeOf 24 x.value + bit x.invalid * 2 ^ 30 + bit x.ovr * 2 ^ 31)
    (Store.get (fun _ => []) s.phasor.lanes i).flatMap fun p =>
      (p.rows.zipIdx.map fun r => (p.t0 + r.2 * 1000000000 / s.laneRate i,
        if p.flags.testBit 1 then none else r.1[s.get (CP_CH_Q u c)]?.map word)).reverse

/-- The sample of a channel that belongs to a row of an instant: the one within half a period of it. -/
def State.channelSample (s : State) (u c t : Nat) : Option RowSample :=
  let h := s.halfPeriod u c
  (s.channelSamples u c).find? fun o => decide (t ≤ o.1 + h) && decide (o.1 < t + h)

/-- The deadline of a channel's sample of an instant (R108, R137, R273): of a chain output its hold instant plus 40 µs, of a raw result its
frame instant plus 40 µs, of a lane's sample the end of its position plus MAX_LATE and 100 µs. -/
def State.sampleDeadline (s : State) (u c t : Nat) : Nat :=
  let i := s.get (CP_CH_INDEX u c)
  if s.get (CP_CH_KIND u c) = 0 then t + s.get (FC_DELAY_DELAY i) + 40000
  else if s.get (CP_CH_KIND u c) = 1 then t + 40000
  else
    let span := max 1 (s.posSpan i)
    let last : Nat := ((s.link i).spans.head?.map fun p => p.2).getD (t / 1000000000 * 1000000000)
    (if t < last then t else last + ((t - last) / span + 1) * span) + s.maxLate i + 100000

/-- The instant a row is due at: one period of channel 0 after the last row; before any row the newest sample of channel 0, and with none
the present instant on the grid of the TAI second. DESIGN CHOICE (log 211). -/
def State.rowDue (s : State) (u : Nat) : Nat :=
  let r := max 1 (s.channelRate u 0)
  match (s.cu u).lastRow with
  | some t => if s.get (CP_CH_KIND u 0) = 1 then frameInstant (frameOf (t + 1) + 1) else t + 1000000000 / r
  | none =>
    match (s.channelSamples u 0).head? with
    | some o => o.1
    | none => s.jobTai / 1000000000 * 1000000000 + s.jobTai % 1000000000 * r / 1000000000 * 1000000000 / r

/-- The instant of the next row: that of channel 0's sample, or where it should lie (R273). -/
def State.rowInstant (s : State) (u : Nat) : Nat := ((s.channelSample u 0 (s.rowDue u)).map fun o => o.1).getD (s.rowDue u)

/-- The next row is complete (R273): every channel's sample has arrived, or the deadline of a missing one has passed. -/
def State.rowComplete (s : State) (u : Nat) : Bool :=
  let t := s.rowInstant u
  (List.range (s.cuChannels u)).all fun c => (s.channelSample u c t).isSome || decide (s.sampleDeadline u c t < s.jobTai)

/-- The words of the channels in the next row; none where a sample is missing. -/
def State.rowWords (s : State) (u : Nat) : List (Option Word) :=
  (List.range (s.cuChannels u)).map fun c => (s.channelSample u c (s.rowInstant u)).bind fun o => o.2

/-- The row made of one sample per channel; a missing one is zero with its mark. -/
def State.makeRow (s : State) (u : Nat) (words : List (Option Word)) : CaptureRow :=
  let t := s.rowInstant u
  let nch := s.cuChannels u
  let nst := s.get (CP_CFG_NST u)
  let status := ((List.range nst).map fun b => bit (s.capture.vector.testBit (s.statusBit u b)) * 2 ^ b).sum
  let sample (c : Nat) : Word :=
    let k := s.get (CP_CH_KIND u c)
    (words.getD c none).getD (BitVec.ofNat 32 (if k = 0 then 2 ^ 26 else if k = 1 then 2 ^ 31 else 2 ^ 30))
  { time := s.stampAt t
    words := (if nst = 0 then [] else [BitVec.ofNat 32 status]) ++ (List.range nch).map sample
    gains := (List.range nch).map fun c => if s.get (CP_CH_KIND u c) = 2 then 0 else (s.chain (s.get (CP_CH_INDEX u c))).gain
    skews := (List.range nch).map fun c => (((s.channelSample u c t).map fun o => o.1).getD t : Int) - t }

/-- A row before the trigger: the last PRE rows stay. -/
def State.preRow (s : State) (u : Nat) (row : CaptureRow) (flags : Nat) : State :=
  let pre := s.get (CP_PRE_PRE u)
  s.setCurRec u fun r =>
    let rows := r.rows ++ [row]
    { r with rows := rows.drop (rows.length - pre), count := r.count + 1, flags := r.flags ||| flags }

/-- A row completed: it falls after the updates that wait. In FULL, a slot that has come free meanwhile is taken. -/
def State.captureRow (s : State) (u : Nat) : State :=
  if s.cuOn u = false ∨ s.rowComplete u = false then s
  else
    let s := s.drainMatches
    let words := s.rowWords u
    let row := s.makeRow u words
    let flags := if words.contains none then 64 else 0
    let s := s.setCu u fun v => { v with lastRow := some row.time.tai }
    let st := s.cuState u
    if st = cpPost then
      let s := s.setCurRec u fun r => { r with rows := r.rows ++ [row], post := r.post + 1, flags := r.flags ||| flags }
      if s.get (CP_POST_POST u) ≤ (s.curRec u).post then ((s.closeCapture u 0).afterClose u).unitConds s.now else s
    else if st = cpPre ∨ st = cpArmed ∨ st = cpHoldoff then ((s.preRow u row flags).armIfReady u).unitConds s.now
    else s.leaveFull u

/-- CAPTURE_ROW. The words come from the sources as State holds them: the operand adds nothing (log 211). -/
def execCaptureRow (u : Nat) (words : List (Option Word)) (s : State) : Host.Outcome State Fault Refusal :=
  onEngines (.captureRow u words) s fun s => s.captureRow u

/-- CAPTURE_HOLDOFF_END. -/
def execCaptureHoldoffEnd (u : Nat) (s : State) : Host.Outcome State Fault Refusal :=
  onEngines (.captureHoldoffEnd u) s fun s =>
    match (s.cu u).holdoffEnds with
    | some t => if t ≤ s.time.mono then (s.holdoffOver u).unitConds s.now else s
    | none => s

/-- The instant a record in POST is due COMPLETE (R281): 1 ms after the latest deadline among the samples of its last row. -/
def State.recordDue (s : State) (u : Nat) : Nat :=
  let t := (s.cu u).lastRow.getD (s.curRec u).trigTime.tai + (s.get (CP_POST_POST u) - (s.curRec u).post) * 1000000000 / max 1 (s.channelRate u 0)
  (List.range (s.cuChannels u)).foldl (fun a c => max a (s.sampleDeadline u c t)) t + 1000000

/-- The record in POST is not complete in time (R281): LATE, counted, raised. -/
def State.captureLate (s : State) (u : Nat) : State :=
  if s.cuState u = cpPost ∧ (s.curRec u).flags &&& 16 = 0 ∧ s.recordDue u < s.jobTai then
    ((((s.setCurRec u fun r => { r with flags := r.flags ||| 16 }).count (cpCnt u 3)).raise EV_CP_DEADLINE sevMajor u u)).deviceMiss 14
  else s

/-- CAPTURE_DEADLINE_MISS. -/
def execCaptureDeadlineMiss (u : Nat) (s : State) : Host.Outcome State Fault Refusal :=
  onEngines (.captureDeadlineMiss u) s fun s => s.captureLate u

/-! ### Register writes -/

/-- Why an enable of a unit is refused, if it is (R271, R272). -/
def State.cuEnableBad (s : State) (u : Nat) (c : Word) : Option Nat :=
  let t := s.setReg (CP_CFG u) c
  let nch := c.field 11 8 + 1
  let nst := c.field 17 12
  if ((List.range nch).any fun ch => t.channelRate u ch != t.channelRate u 0 || !t.channelOk u ch) ∨
    ((List.range nst).any fun b => t.statusBit u b == 496 + u) ∨ t.regionBad u ∨ t.cuSlots u < 2 then some reasonState
  else if limitCapture s.point < t.captureLoad then some reasonLoad else none

/-- A hold-off value that its mode does not take (CP_HOLDOFF). -/
def holdoffBad (mode value : Nat) : Bool := (mode == 1 && (value == 0 || decide (3600000 < value))) || (mode == 2 && value == 0)

/-- A write that changes a register of an enabled unit (R271; log 44 for the row counts and scales). -/
def State.cuLocked (s : State) (u off : Nat) (c : Word) : Option Nat :=
  if s.flag (CP_CFG_EN u) ∧ s.changes off c then some reasonState else none

/-- Why a write to a CP register is refused, if it is. -/
def captureGuard (s : State) (base : Nat) (ix : List Nat) (c : Word) : Option Nat :=
  match base, ix with
  | 0x370000, [u] =>
    let old := s.reg (CP_CFG u)
    if 32 < c.field 17 12 ∨ c.field 4 3 = 3 then some reasonRange
    else if c.field 0 0 = 1 ∧ holdoffBad (c.field 4 3) (s.get (CP_HOLDOFF_VALUE u)) then some reasonRange
    else if old.field 0 0 = 1 ∧ c.field 17 8 ≠ old.field 17 8 then some reasonState
    else if old.field 0 0 = 0 ∧ c.field 0 0 = 1 then s.cuEnableBad u c else none
  | 0x370004, [u] => if 8388608 < c.field 23 0 then some reasonRange else s.cuLocked u (CP_PRE u) c
  | 0x370008, [u] => if c.field 23 0 = 0 ∨ 8388608 < c.field 23 0 then some reasonRange else s.cuLocked u (CP_POST u) c
  | 0x37000c, [u] => if holdoffBad (s.get (CP_CFG_HOLDOFF_MODE u)) (c.field 23 0) then some reasonRange else none
  | 0x370010, [u] => if 2048 < c.field 27 16 then some reasonRange else s.cuLocked u (CP_POOL u) c
  | 0x370040, [u, i] => if c.field 17 16 = 3 then some reasonRange else s.cuLocked u (CP_CH u i) c
  | 0x370080, [u, i] => if ¬ f32Finite c.toNat ∨ f32ToRat c.toNat ≤ 0 then some reasonRange else s.cuLocked u (CP_SCALE u i) c
  | 0x3700c0, [u, i] => s.cuLocked u (CP_ST u i) c
  | 0x378104, [i] => if signedOf 24 (c.field 23 0) < s.getS (CP_LEVEL_LO_LEVEL i) then some reasonState else none
  | 0x378108, [i] => if s.getS (CP_LEVEL_HI_LEVEL i) < signedOf 24 (c.field 23 0) then some reasonState else none
  | _, _ => none

/-- A unit enabled: its records stay only where they were laid out with the same geometry; one that a CAPTURE_READ copies is kept for it. -/
def State.cuStart (s : State) (u : Nat) : State :=
  let g := [s.get (CP_POOL_BASE u), s.get (CP_POOL_SIZE u), s.recordBytes u]
  (s.setCu u fun v => { slot := 0, records := if v.geometry = g then v.records else (v.records.filter fun e => v.reading.contains e.1).map fun (e : Nat × CaptureRecord) => (e.1, e.2.freed), reading := v.reading, geometry := g }).cuTo u cpIdle

/-- What an accepted write to those registers does beside storing its fields. -/
def captureEffect (base : Nat) (ix : List Nat) (old c : Word) (s : State) : State :=
  match base, ix with
  | 0x370000, [u] =>
    let s := s.showCaptureLoad
    let s :=
      if old.field 0 0 = 0 ∧ c.field 0 0 = 1 then s.cuStart u
      else if old.field 0 0 = 1 ∧ c.field 0 0 = 0 then s.disarm u
      else if c.field 0 0 = 1 then (s.holdoffOver u).unitConds s.now else s
    s.showCu u
  | 0x370004, [u] | 0x370008, [u] | 0x370010, [u] => s.showCu u
  | 0x370014, [u] => s.cuControl u c
  | 0x378004, _ => s.softConds
  | 0x378040, _ => s.laneConds
  | _, _ => s

/-! ### Host commands (R276, R282) -/

/-- The configuration partition that host writes go to (R382): the new one while PROVISIONAL, else the old one. -/
def State.partition (s : State) : StoredConfig :=
  if s.get FU_STATUS_STATE = 3 then s.fw.storedNew.getD s.fw.stored else s.fw.stored
@[inherit_doc State.partition] def State.setPartition (s : State) (c : StoredConfig) : State :=
  if s.get FU_STATUS_STATE = 3 then { s with fw := { s.fw with storedNew := some c } } else { s with fw := { s.fw with stored := c } }

/-- Whether a unit is stored armed (R284), as its ARM and DISARM by the host leave it: an entry for CP_CTRL. DEDUCED (log 184). -/
def State.storeArm (s : State) (u : Nat) (arm disarm : Bool) : State :=
  if ¬ arm ∧ ¬ disarm then s
  else
    let c := s.partition
    s.setPartition { c with writes := (c.writes.filter fun e => e.1 != CP_CTRL u) ++ (if arm then [(CP_CTRL u, 1)] else []) }

/-- CAPTURE_ARM: as the bits of CP_CTRL; ARM in IDLE with no free slot completes with E_BUSY; a unit that is not enabled, or held
IDLE in COLD_STANDBY, with E_STATE unless the action is RELEASE_ALL. -/
def State.captureArm (s : State) (h : CmdHeader) (u action : Nat) : State :=
  let op := 0x30
  if action ≠ 3 ∧ ¬ s.cuOn u then s.finish h op stState 24
  else if action = 0 ∧ s.cuState u = cpIdle ∧ s.nextSlot u = none then s.finish h op stBusy
  else
    let s := (s.cuControl u (BitVec.ofNat 32 ([1, 2, 4, 8].getD action 0))).storeArm u (action == 0) (action == 1)
    s.finish h op stOk 0 (s.word (CP_RSEQ u)) (s.cuState u)

/-- CAPTURE_ARM. -/
def execCaptureArm (h : CmdHeader) (unit action : Nat) (s : State) : Host.Outcome State Fault Refusal :=
  onCore (.captureArm h unit action) s fun s =>
    s.command h 0x30 (if 15 < unit then some 24 else if 3 < action then some 25 else none) none fun s => s.captureArm h unit action

/-- The bytes between the record slots of a unit, by the geometry it was enabled with. -/
def State.slotBytes (s : State) (u : Nat) : Nat := (s.cu u).geometry.getD 2 (s.recordBytes u)

/-- The internal address of a record slot (R278), by the geometry its unit was enabled with. -/
def State.recordAddr (s : State) (u slot : Nat) : Nat :=
  0x600000000 + (s.cu u).geometry.getD 0 (s.get (CP_POOL_BASE u)) * 2 ^ 20 + slot * s.slotBytes u

/-- The rows a CAPTURE_READ copies. -/
def readRows (r : CaptureRecord) (first rows : Nat) : Nat := if rows = 0 then r.rows.length - first else rows

/-- Bytes of a row of a record, by its header. -/
def CaptureRecord.rowSize (r : CaptureRecord) : Nat := leNat ((r.head.drop 46).take 2)

/-- The physical row of a logical row of a record (R279), by PRE, PRE_ACT and PRE_HEAD of its header. -/
def CaptureRecord.physRow (r : CaptureRecord) (k : Nat) : Nat :=
  let word (off : Nat) : Nat := leNat ((r.head.drop off).take 4)
  if k < word 52 then (word 84 + k) % max 1 (word 48) else word 48 + k - word 52

/-- Bytes a CAPTURE_READ copies: the header, then the rows asked for unless HEADER_ONLY. -/
def CaptureRecord.readSize (r : CaptureRecord) (first rows : Nat) (headerOnly : Bool) : Nat :=
  1024 + (if headerOnly then 0 else readRows r first rows * r.rowSize)

/-- CAPTURE_READ accepted: the slot's state checked, then begun; the record is not reused meanwhile. -/
def State.captureReadStart (s : State) (h : CmdHeader) (unit flags slot first rows dst : Nat) : State :=
  let op := 0x31
  let r := s.slotRec unit slot
  let headerOnly := flags.testBit 1
  if r.state ≠ 3 then s.finish h op stState 28
  else
    (s.setCu unit fun v => { v with reading := v.reading ++ [slot] }).startJob h op
      (.captureRead unit slot first (if headerOnly then 0 else readRows r first rows) dst (flags.testBit 0) headerOnly)
      (if headerOnly then 1 else max 1 (readRows r first rows)) r.rowSize

/-- CAPTURE_READ. -/
def execCaptureRead (h : CmdHeader) (unit flags slot first rows dst dstLen : Nat) (s : State) : Host.Outcome State Fault Refusal :=
  onCore (.captureRead h unit flags slot first rows dst dstLen) s fun s =>
    let r := s.slotRec unit slot
    s.command h 0x31 (if 15 < unit then some 24 else if 3 < flags then some 25 else if s.cuSlots unit ≤ slot then some 28
        else if r.state = 3 ∧ (r.rows.length < first ∨ r.rows.length < first + rows) then some 32 else none)
      (if r.state = 3 ∧ dstLen < r.readSize first rows (flags.testBit 1) then some 48 else none)
      fun s => s.captureReadStart h unit flags slot first rows dst

/-- Units `lo` to `hi − 1` of a CAPTURE_READ copied: the header with the first. -/
def State.captureReadUnits (s : State) (unit slot first rows dst lo hi : Nat) : State :=
  let r := s.slotRec unit slot
  let s := s.when (lo == 0) fun s => s.emit (.hostWrite dst r.head)
  let part := ((r.rows.drop (first + lo)).take (min hi rows - lo)).flatMap fun x => x.words.flatMap fun w => leBytes 4 w.toNat
  if rows ≤ lo then s else s.emit (.hostWrite (dst + 1024 + lo * r.rowSize) part)

/-- A CAPTURE_READ over: the record may be reused once no other copies it, and is freed when the flag asks so and it was copied whole. -/
def State.captureReadEnd (s : State) (unit slot : Nat) (release : Bool) : State :=
  let s := s.setCu unit fun v => { v with reading := v.reading.erase slot }
  let s := s.when release fun s => (s.setSlotRec unit slot fun r => if r.state = 3 then r.freed else r).showCu unit
  s.leaveFull unit

/-! ### Time steps and resets (R284) -/

/-- A time step: the records in POST close with TIME_STEP, pre-trigger rows go. The bits that fall enter the vector together (R270). -/
def State.captureStep (s : State) : State :=
  let posts := (List.range 16).filter fun u => s.cuState u == cpPost
  let s := (s.forEach 16 fun u s =>
    let s := s.setCu u fun v => { v with lastRow := none }
    if s.cuState u = cpPost then s.closeQuiet u 8 else s).unitConds s.now
  let s := s.forEach 16 fun u s =>
    let st := s.cuState u
    if posts.contains u then s.afterClose u
    else if st = cpPre ∨ st = cpArmed then
      ((s.setCurRec u fun r => { r with rows := [], count := 0, flags := 0 }).cuTo u cpPre).armIfReady u
    else if st = cpHoldoff then s.setCurRec u fun r => { r with rows := [], count := 0, flags := 0 }
    else s
  s.unitConds s.now

/-- Units sent to IDLE: at a class W reset, and on entering COLD_STANDBY. -/
def State.captureIdle (s : State) : State := (s.forEach 16 fun u s => s.disarmQuiet u).unitConds s.now

/-- A class W reset: as a DISARM of every unit; the jobs that were copying records are lost. -/
def State.captureWarm (s : State) : State :=
  s.captureIdle.forEach 16 fun u s => s.setCu u fun v => { v with reading := [] }

end Sys2Proof.Machine
end

