-- ==== Sys2Proof/Machine/Time.lean ====
section
/-!
DEFINITION. The time base and its servo (02, R36 to R55): the quality code, the time states, steps, PTP, PPS and time of day.
-/

namespace Sys2Proof.Machine

/-! ### The quality code (R39, R40) -/

/-- The counters of the time base. -/
def tbPpsMiss : Cnt := ⟨TB_PPS_MISS, TB_STATUS_SAT_PPS, EV_TB_CNT_SAT, 0, 0⟩
@[inherit_doc tbPpsMiss] def tbTodErr : Cnt := ⟨TB_TOD_ERR, TB_STATUS_SAT_TOD, EV_TB_CNT_SAT, 1, 1⟩
@[inherit_doc tbPpsMiss] def tbPtpBad : Cnt := ⟨TB_PTP_RX_BAD, TB_STATUS_SAT_PTP, EV_TB_CNT_SAT, 2, 2⟩

/-- The code of an error bound: the smallest bound of R39 that is at least it. -/
def boundCode (e : Nat) : Nat := ((List.range 8).find? fun i => decide (e ≤ 100 * 10 ^ i)).getD 15

/-- The states of TB_STATUS.STATE (02). -/
abbrev tsFreerun : Nat := 0
@[inherit_doc tsFreerun] abbrev tsAcquire : Nat := 1
@[inherit_doc tsFreerun] abbrev tsLocked : Nat := 2
@[inherit_doc tsFreerun] abbrev tsHoldover : Nat := 3
@[inherit_doc tsFreerun] abbrev tsFault : Nat := 4

/-- The error bound grows with time: in HOLDOVER, in FAULT without a source, and while another port is awaited (R40, R43, R50). -/
def State.boundGrows (s : State) : Bool :=
  s.timeState == tsHoldover || (s.timeState == tsFault && !s.flag TB_STATUS_SRC_VALID) || s.time.waitEnds.isSome

/-- The error bound now: as last set, plus DRIFT parts in 10⁹ of the time since while it grows, rounded up. -/
def State.boundNow (s : State) : Option Nat :=
  s.time.bound.map fun b => if s.boundGrows then b + (s.get TB_HOLD_CFG_DRIFT * (s.time.mono - s.time.boundAt) + 999999999) / 1000000000 else b

/-- PPS_OUT may pulse: driven, not in FREERUN, and the quality code no worse than OUT_MIN_Q (R55). -/
def State.ppsAllowed (s : State) : Bool :=
  s.flag TB_CTRL_PPS_OUT_EN && s.timeState != tsFreerun && decide (s.get TB_STATUS_QUALITY ≤ s.get TB_PPS_CFG_OUT_MIN_Q)

/-- A pulse in progress ends when PPS_OUT must be inactive (R55). -/
def State.ppsHold (s : State) : State :=
  if s.time.ppsOutEnds.isSome ∧ ¬ s.ppsAllowed then
    State.emit { s with time := { s.time with ppsOutEnds := none } } (.ppsOut (s.flag TB_PPS_CFG_OUT_POL))
  else s

/-- TB_STATUS.QUALITY recomputed. -/
def State.showQuality (s : State) : State :=
  (s.put TB_STATUS_QUALITY (if s.timeState = tsFreerun then 15 else (s.boundNow.map boundCode).getD 15)).ppsHold.noteQual

/-- The bound set at this instant. -/
def State.setBound (s : State) (b : Option Nat) : State := { s with time := { s.time with bound := b, boundAt := s.time.mono } }

/-- Nanoseconds a PTP clockAccuracy stands for, none when unknown. PRESUMED (log 39): the codes of IEEE 1588, which the spec names. -/
def accuracyNs (code : Nat) : Option Nat :=
  if 0x20 ≤ code ∧ code ≤ 0x30 then
    some (([25, 100, 250, 1000, 2500, 10000, 25000, 100000, 250000, 1000000, 2500000, 10000000, 25000000, 100000000, 250000000,
      1000000000, 10000000000] : List Nat).getD (code - 0x20) 0)
  else none

/-- The clockAccuracy code of a bound (R50). -/
def accuracyCode (q : Nat) : Nat := ([0x21, 0x23, 0x25, 0x27, 0x29, 0x2b, 0x2d, 0x2f] : List Nat).getD q 0xfe

/-! ### Leap seconds pending (R56) -/

/-- TB_STATUS.LEAP_PENDING brought up to date, with since when a leap is pending. -/
def State.showLeap (s : State) : State :=
  let on := s.leapIns || s.leapDel
  let s := { s with time := { s.time with leapFrom := if on then some (s.time.leapFrom.getD s.time.tai) else none } }
  s.put TB_STATUS_LEAP_PENDING (bit on)

/-! ### Calendar commits (R57, R58, R62) -/

/-- Date and time of a count of calendar seconds match an alarm (02). -/
def State.alarmDate (s : State) (n days : Nat) : Bool :=
  let (y, m, d) := dateOf days
  let a := s.word (CAL_ALM_DATE n)
  let k := s.get (CAL_ALM_CTRL_MASK n)
  (k.testBit 0 || a % 65536 == y) && (k.testBit 1 || a / 2 ^ 16 % 16 == m) && (k.testBit 2 || a / 2 ^ 20 % 32 == d)
@[inherit_doc State.alarmDate] def State.alarmTime (s : State) (n hour min sec : Nat) : Bool :=
  let a := s.word (CAL_ALM_TIME n)
  let k := s.get (CAL_ALM_CTRL_MASK n)
  (k.testBit 3 || a % 32 == hour) && (k.testBit 4 || a / 2 ^ 5 % 64 == min) && (k.testBit 5 || a / 2 ^ 11 % 64 == sec)

/-- A second of the calendar, counted from 2000-01-01, is a match instant. -/
def State.alarmAt (s : State) (n sec : Nat) : Bool :=
  s.alarmTime n (sec % 86400 / 3600) (sec / 60 % 60) (sec % 60) && s.alarmDate n (sec / 86400)

/-- A match instant lies after one tick count and not after another. -/
def State.alarmBetween (s : State) (n a b : Nat) : Bool :=
  let lo := a / 32768 + 1
  let hi := b / 32768
  decide (lo ≤ hi) && (List.range (hi / 86400 + 1 - lo / 86400)).any fun i =>
    let d := lo / 86400 + i
    s.alarmDate n d && (List.range 86400).any fun t =>
      let x := d * 86400 + t
      decide (lo ≤ x) && decide (x ≤ hi) && s.alarmTime n (t / 3600) (t / 60 % 60) (t % 60)

/-- An alarm fires (R62); the event and source 11 + n exist only while the core domain runs. -/
def State.alarmFire (s : State) (n : Nat) (skipped replayed : Bool) : State :=
  let s := s.when (s.flag (CAL_ALM_STAT_FIRED n)) fun s => s.put (CAL_ALM_STAT_OVERRUN n) 1
  let s := ((s.put (CAL_ALM_STAT_FIRED n) 1).put (CAL_ALM_STAT_SKIPPED n) (bit skipped)).put (CAL_ALM_STAT_REPLAYED n) (bit replayed)
  s.when s.coreOn fun s => (s.raise (EV_CAL_ALARM0 + n) sevInfo).fire (11 + n)

/-- The tick of the midnight that closes a leap which the calendar has begun to count and the time base still has to apply. -/
def CalState.leapMidnight (c : CalState) : Nat := (c.ticks / dayTicks + bit c.inLeap) * dayTicks

/-- A tick count lies in the UTC day that the last leap of the time base closed. -/
def State.beforeLeap (s : State) (t : Nat) : Bool :=
  match s.time.lastLeap with
  | some (m, _, _) => let mid := (m - 946684800) * 32768
    decide (t < mid) && decide (mid ≤ t + dayTicks)
  | none => false

/-- The calendar takes a new tick count, between two ticks: a forward move over match instants fires each alarm once, a backward one
exposes again those it moves behind. No alarm matches while halted. A leap that only one of calendar and time base has applied stays
so where the count committed lies on the same side of it, and otherwise counts as applied by neither or by both. -/
def State.calCommit (s : State) (t : Nat) : State :=
  let a := s.cal.ticks
  let s := { s with cal := { s.cal with
    ticks := t
    inLeap := false
    leapTicks := 0
    matched := [none, none]
    leapDue := if s.beforeLeap t then s.cal.leapDue else 0
    leapDone := if s.cal.leapMidnight ≤ t then s.cal.leapDone else 0
    replayFrom := if t < a then t else s.cal.replayFrom
    replayTo := if t < a then max a s.cal.replayTo else s.cal.replayTo } }
  let s := (s.put CAL_STATUS_VALID 1).put CAL_STATUS_OSC_FAIL 0
  if a < t ∧ ¬ s.flag CAL_CTRL_HALT then
    s.forEach 2 fun n s => if s.flag (CAL_ALM_CTRL_EN n) ∧ s.alarmBetween n a t then
      State.alarmFire { s with cal := { s.cal with matched := s.cal.matched.set n (if t % 32768 = 0 then some (2 * (t / 32768)) else none) } } n true false else s
  else s

/-- Calendar ticks of a date word and a time word. -/
def calTicks (d t : Nat) : Nat :=
  (daysOf (d % 65536) (d / 2 ^ 16 % 16) (d / 2 ^ 20 % 32) * 86400 + t % 32 * 3600 + t / 2 ^ 5 % 64 * 60 + t / 2 ^ 11 % 64) * 32768 + t / 2 ^ 17

/-- Calendar ticks that TAI and the offset give; an inserted second counts as the second after midnight. -/
def State.utcTicks (s : State) : Nat :=
  let ns : Int := (s.time.tai : Int) - (946684800 + s.utcOffset) * 1000000000
  ns.toNat * 32768 / 1000000000

/-- Where the calendar stands on that scale: a leap second that one of calendar and time base has applied and the other has not is
counted, so that the two agree around a leap when they name the same instant (R56, R57). -/
def State.calPos (s : State) : Int :=
  if s.cal.inLeap then s.cal.ticks + s.cal.leapTicks + 32768 * s.cal.leapDone
  else s.cal.ticks + 32768 * (s.cal.leapDone - s.cal.leapDue)

/-- AUTO_SET on entry to LOCKED: UTC committed when the calendar differs by more than 1 ms. In an inserted second it is second 60 that
is committed. -/
def State.calAuto (s : State) : State :=
  let t := s.utcTicks
  if s.flag CAL_CTRL_AUTO_SET ∧ 32768 < ((t : Int) - s.calPos).natAbs * 1000 then
    if s.inserting (s.time.tai / 1000000000) then
      let u := s.calCommit (t / 32768 * 32768 - 32768)
      { u with cal := { u.cal with inLeap := true, leapTicks := t % 32768, leapDone := 1 } }
    else s.calCommit t
  else s

/-! ### Time states (R41 to R47) -/

/-- The cause attribute of a change of state: the grandmaster, or the ingress port when it is unknown (R47): the code of SRC less one,
which for PPS_IN and TOD names no port of the network; without a source, that of the source last lost, so that a loss of quality folds
with the loss of source before it. -/
def State.sourceCause (s : State) : Nat :=
  let gm := s.pair TB_GM_ID_LO TB_GM_ID_HI
  if gm ≠ 0 then gm else (if s.get TB_STATUS_SRC = 0 then s.time.srcLost else s.get TB_STATUS_SRC) - 1

/-- A change of state: TB_STATE_CHANGE, source 10, the condition bits; a PTP trim measurement ends when LOCKED is left, and the
streams count from then; AUTO_SET acts on entry to LOCKED. -/
def State.timeTo (s : State) (st : Nat) : State :=
  let old := s.timeState
  if old = st then s.showQuality
  else
    let s := s.when (st == tsLocked) State.kickPassed
    let s := (s.put TB_STATUS_STATE st).showQuality
    let s := s.raise EV_TB_STATE_CHANGE (if st = tsHoldover then sevWarning else if st = tsFault then sevMajor else sevNotice) s.sourceCause 0 st
    let s := (s.timeConds false).fire 10
    let s := s.when (old == tsLocked) fun s => { s with streams := { s.streams with leftLocked := some s.time.mono } }
    let s := s.when (old == tsLocked && s.get CAL_TRIM_CTRL_SRC == 0) State.trimAbort
    s.when (st == tsLocked) State.calAuto

/-- TB_RATE, within ±500 ppm. -/
def maxRate : Int := 2147484
@[inherit_doc maxRate] def State.setRate (s : State) (r : Int) : State :=
  let r := max (-maxRate) (min maxRate r)
  let s := s.setWord TB_RATE (codeOf 32 r)
  { s with time := { s.time with rates := (s.time.rates.filter fun e => decide (s.time.mono < e.1 + 64000000000)) ++ [(s.time.mono, r)] } }

/-- The rate of the last 64 s: the mean over the updates in it, the last one before it counting as the first (log 40). -/
def State.meanRate (s : State) : Int :=
  let l := s.time.rates.filter fun e => decide (s.time.mono < e.1 + 64000000000)
  if l.isEmpty then s.rate else (l.foldl (fun a e => a + e.2) 0) / (l.length : Int)

/-- A slew ended: the clock runs at the rate correction before it (R43). -/
def State.slewEnd (s : State) : State :=
  if s.time.slewing then
    State.setWord { s with time := { s.time with slewing := false, slewEnds := none } } TB_RATE (codeOf 32 s.time.rateBefore)
  else s

/-- Entry to ACQUIRE grants the step allowance; no bound is known until an offset has been measured. DESIGN CHOICE (log 160): where
TIME_ACQUIRE ends a slew of FAULT, TB_RATE goes back to the rate before the slew; the rules do not say. -/
def State.acquire (s : State) : State :=
  let s := s.slewEnd
  let s := { s with time := { s.time with lockRun := 0 } }
  ((s.put TB_STATUS_STEP_USED 0).setBound none).timeTo tsAcquire

/-- Into FREERUN; with a source valid and AUTO_ACQ the table's next row leads on to ACQUIRE (R45). -/
def State.freerun (s : State) : State :=
  let s := s.timeTo tsFreerun
  if s.flag TB_STATUS_SRC_VALID ∧ s.flag TB_CTRL_AUTO_ACQ then s.acquire else s

/-- A source has become valid (R45): from FREERUN with AUTO_ACQ; slewing in FAULT resumes with the next offset. A bound that has grown
stays as it has become until an offset is measured (R43, R50). -/
def State.sourceFound (s : State) (src : Nat) : State :=
  let s := s.when s.boundGrows fun s => s.setBound s.boundNow
  let s := ((s.put TB_STATUS_SRC src).put TB_STATUS_SRC_VALID 1).showLeap
  let s := { s with time := { s.time with waitEnds := none } }
  if s.timeState = tsFreerun ∧ s.flag TB_CTRL_AUTO_ACQ then s.acquire else s

/-- The source is lost (R43, R45). The bound reached stands as the bound at entry. -/
def State.sourceLost (s : State) : State :=
  if ¬ s.flag TB_STATUS_SRC_VALID then s
  else
    let s := s.setBound s.boundNow
    let s := { s with time := { s.time with waitEnds := none, lockRun := 0, srcLost := s.get TB_STATUS_SRC } }
    let s := (s.put TB_STATUS_SRC_VALID 0).showLeap
    let s :=
      if s.timeState = tsAcquire then s.freerun
      else if s.timeState = tsLocked then (s.setRate s.meanRate).timeTo tsHoldover
      else s.slewEnd.showQuality
    s.put TB_STATUS_SRC 0

/-! ### Steps (R41, R44, R48) -/

/-- What the blocks that compute on pair time do at a step from an earlier time of theirs (R48). -/
def State.stepBlocks (s : State) (old : Nat) : State :=
  (((((s.ledgerTimeStep old).lanesStep).alignTimeStep old).phasorRestart old).islandStep)

/-- The clock steps by a signed number of nanoseconds; a second's boundary that it comes to again is one again (R55). A standby's lockstep
blocks step with the order log, not with its clock (R361). -/
def State.stepBy (s : State) (d : Int) : State :=
  let old := s.time.tai
  let new := ((old : Int) + d).toNat
  let s := { s with time := { s.time with tai := new, lastSecond := (new - 1) / 1000000000 } }
  let s := s.setWord TB_LAST_STEP_SEC (codeOf 32 (Int.tdiv d 1000000000))
  let s := s.setWord TB_LAST_STEP_NS (codeOf 32 (Int.tmod d 1000000000))
  let s := s.bump (whole TB_STEP_COUNT)
  let s := (s.raise EV_TB_STEP sevNotice).fire 9
  let s := s.orderLog (.step (s.stampAt old) (s.stampAt new))
  let s := if s.get CW_STATUS_ROLE = 2 then s else s.stepBlocks old
  ((s.analogueStep (decide (d < 0))).captureStep).timeConds true |>.timeConds false

/-! ### The servo (R40 to R45) -/

/-- Slewing toward the source at ±500 ppm. DEDUCED (log 161): a slew of an offset o ends after the time 500 ppm takes to remove it, as in
the worked example of chapter 02, and the clock then runs at the rate before the slew until the next offset. -/
def State.slew (s : State) (o : Int) : State :=
  let s := if s.time.slewing then s else { s with time := { s.time with slewing := true, rateBefore := s.rate } }
  let s := { s with time := { s.time with slewEnds := if o = 0 then none else some (s.time.mono + 2000 * o.natAbs) } }
  s.setWord TB_RATE (codeOf 32 (if 0 < o then -maxRate else if o < 0 then maxRate else s.time.rateBefore))

/-- The offset has been removed. -/
def State.slewDone (s : State) : State :=
  match s.time.slewEnds with
  | some t =>
    if t ≤ s.time.mono then State.setWord { s with time := { s.time with slewEnds := none } } TB_RATE (codeOf 32 s.time.rateBefore) else s
  | none => s

/-- Into FAULT. -/
def State.fault (s : State) (o : Int) : State :=
  let s := s.raise EV_TB_FAULT sevMajor s.sourceCause
  (s.slew o).timeTo tsFault

/-- A newly measured offset, local minus source, with the source's inaccuracy in ns (none: unknown). In FREERUN no source is in use. -/
def State.servo (s : State) (o : Int) (inaccuracy : Option Nat) : State :=
  let mag := o.natAbs
  let restep := s.get TB_SERVO_CFG_RESTEP_THR * 1000
  let follow (s : State) : State := s.setRate (Config.servoRate s.rate o)
  if s.timeState = tsFreerun then s
  else
    let s := s.setWord TB_OFFSET (codeOf 32 (max (-2147483647) (min 2147483647 o)))
    let s := s.setBound (inaccuracy.map fun i => mag + Config.servoUncertainty mag + i)
    if s.timeState = tsAcquire then
      if s.get TB_SERVO_CFG_STEP_THR < mag ∧ ¬ s.flag TB_STATUS_STEP_USED then
        let s := (s.put TB_STATUS_STEP_USED 1).showQuality
        State.stepBy { s with time := { s.time with lockRun := 0 } } (-o)
      else if restep < mag ∧ s.flag TB_STATUS_STEP_USED then s.fault o
      else
        let run := if mag < s.get TB_LOCK_CFG_LOCK_THR then s.time.lockRun + 1 else 0
        let s := follow { s with time := { s.time with lockRun := run } }
        if s.get TB_LOCK_CFG_LOCK_COUNT ≤ run then (s.put TB_STATUS_STEP_USED 1).timeTo tsLocked else s.showQuality
    else if s.timeState = tsLocked then (if restep < mag then s.fault o else (follow s).showQuality)
    else if s.timeState = tsHoldover then (if restep < mag then s.fault o else (follow s).timeTo tsLocked)
    else (s.slew o).showQuality

/-! ### PTP (R49 to R52) -/

/-- One port's PTP state. -/
def State.ptp (s : State) (p : Nat) : PtpPort := Store.get (fun _ => {}) s.time.ptp p
@[inherit_doc State.ptp] def State.setPtp (s : State) (p : Nat) (f : PtpPort → PtpPort) : State :=
  { s with time := { s.time with ptp := Store.set (fun _ => {}) s.time.ptp p (f (s.ptp p)) } }

/-- A WA port that follows a master. -/
def State.ptpSlave (s : State) (p : Nat) : Bool := decide (p < 2) && s.flag (TB_PORT_CFG_EN p) && !s.flag (TB_PORT_CFG_ROLE p) && !s.flag TB_CTRL_GM_MODE

/-- A port that is a master: HN0 in every state, a WA port with ROLE in grandmaster mode. -/
def State.ptpMaster (s : State) (p : Nat) : Bool :=
  s.flag (TB_PORT_CFG_EN p) && (p == 2 || (decide (p < 2) && s.flag TB_CTRL_GM_MODE && s.flag (TB_PORT_CFG_ROLE p)))

/-- The port the best master clock algorithm places in SLAVE. -/
def State.bestPort (s : State) : Option Nat :=
  let q (p : Nat) : Bool := s.ptpSlave p && (s.ptp p).gm.isSome
  if q 0 ∧ q 1 then some (if Config.bmcaBetter (s.ptp 1).rank (s.ptp 0).rank then 1 else 0)
  else if q 0 then some 0 else if q 1 then some 1 else none

/-- PORT_STATE of a port: DISABLED 2 as the register table gives it. PRESUMED (log 39): the other codes are those of IEEE 1588. -/
def State.showPort (s : State) (p : Nat) : State :=
  let v :=
    if ¬ s.flag (TB_PORT_CFG_EN p) then 2
    else if s.ptpMaster p then 6
    else if s.bestPort = some p then 9
    else if s.ptpSlave p ∧ (s.ptp p).gm.isSome then 7 else 4
  let s := s.put (TB_PORT_STAT_PORT_STATE p) v
  if s.flag (TB_PORT_CFG_EN p) then s else s.put (TB_PORT_STAT_PATH_DELAY p) 0xffff

/-- Roles placed after a change; a port newly in SLAVE is the source, and names its grandmaster. -/
def State.placePorts (s : State) : State :=
  let s := s.forEach 3 fun p s => s.showPort p
  match s.bestPort with
  | some p =>
    let gm := ((s.ptp p).gm).getD 0
    let s := s.setPair TB_GM_ID_LO TB_GM_ID_HI gm
    if s.ptpValid ∧ s.get TB_STATUS_SRC = p + 1 ∧ s.time.waitEnds.isNone then s.showLeap else s.sourceFound (p + 1)
  | none => s

/-- A port has lost its master (R50, R52): the other becomes SLAVE, or is awaited for ANN_TMO of its announce intervals. -/
def State.portLost (s : State) (p : Nat) : State :=
  let was := s.ptpValid && s.get TB_STATUS_SRC == p + 1 && s.time.waitEnds.isNone
  let s := s.setPtp p fun q => { q with gm := none }
  let other := 1 - p
  if ¬ was then s.forEach 3 fun p s => s.showPort p
  else if s.bestPort.isSome then s.placePorts
  else
    let s := s.forEach 3 fun p s => s.showPort p
    if s.ptpSlave other then
      State.setBound { s with time := { s.time with waitEnds := some (s.time.mono + s.get (TB_PORT_CFG_ANN_TMO other) * 2 ^ s.get (TB_PORT_CFG_LOG_ANN other) * 1000000000) } } s.boundNow
    else s.sourceLost

/-- A PTP message's fields are in range (R51). -/
def State.ptpBad (s : State) (m : PtpMessage) : Bool :=
  !m.formatOk || m.version != 2 || m.domain != s.get TB_PTP_CFG_DOMAIN || !m.nsOk || !m.lengthOk

/-- The measured offset, from the raw transit of a Sync (its receive instant less its origin and correction): the fixed receive latency,
the mean link delay and the asymmetry taken off (R53), in whole nanoseconds; none before a link delay is known. -/
def State.measured (s : State) (p : Nat) (raw : Int) : Option Int :=
  (s.ptp p).delay.map fun d => (16 * raw - (s.get (TB_PORT_RXLAT_LAT p) : Int) - d - s.getS (whole (TB_PORT_ASYM p))) / 16

/-- The mean link delay in 1/16 ns, from the raw turn-around of a peer-delay exchange (response receive less request transmit, less what
the peer held it): the transmit stamp has TXLAT added and the receive stamp RXLAT subtracted (R53). -/
def State.linkDelay (s : State) (p : Nat) (turn : Int) : Int :=
  (16 * turn - (s.get (TB_PORT_RXLAT_LAT p) : Int) - (s.get (TB_PORT_TXLAT_LAT p) : Int)) / 2

/-- PATH_DELAY of a mean link delay: 0xffff when unknown or above 65,534 ns. -/
def pathDelay (d : Option Int) : Nat :=
  match d with
  | some v => if v < 0 ∨ 65534 < v / 16 then 0xffff else (v / 16).toNat
  | none => 0xffff

/-- A message used by its port. One Announce qualifies its master (log 41); the IEEE_C37_238 TLV counts under that profile alone (R49). -/
def State.ptpUse (s : State) (p : Nat) (b : PtpBody) : State :=
  match b with
  | .management => s
  | .peerDelay turn =>
    let d := turn.map (s.linkDelay p)
    (s.setPtp p fun q => { q with delay := d }).put (TB_PORT_STAT_PATH_DELAY p) (pathDelay d)
  | .announce gm p1 cls acc p2 steps ti l61 l59 off =>
    if ¬ s.ptpSlave p then s
    else
      let fresh := (s.ptp p).gm.isNone
      let ti := if s.get TB_PTP_CFG_PROFILE = 1 then ti else none
      let s := s.setPtp p fun q => { q with gm := some gm, rank := [p1, cls, acc, p2, gm, steps], accuracy := acc, timeInaccuracy := ti,
                                            lastAnnounce := s.time.mono, lastSync := if fresh then s.time.mono else q.lastSync }
      let s := if s.bestPort = some p then { s with time := { s.time with leap61 := l61, leap59 := l59, utcOffset := some off } } else s
      s.placePorts
  | .sync o =>
    let s := s.setPtp p fun q => { q with lastSync := s.time.mono }
    if s.ptpValid ∧ s.get TB_STATUS_SRC = p + 1 ∧ s.time.waitEnds.isNone then
      let q := s.ptp p
      match s.measured p o with
      | some v =>
        s.servo v (match q.timeInaccuracy with
          | some t => some t
          | none => accuracyNs q.accuracy)
      | none => s
    else s

/-- PTP_MESSAGE_RX: a port that takes no part, and MG0, ignore it; so does every port a message by another transport than TRANSPORT
names (R49). -/
def execPtpMessageRx (p : Nat) (m : PtpMessage) (s : State) : Host.Outcome State Fault Refusal :=
  onCore (.ptpMessageRx p m) s fun s =>
    if ¬ s.flag (TB_PORT_CFG_EN p) ∨ m.transport ≠ s.get TB_PTP_CFG_TRANSPORT then s
    else if s.ptpBad m then s.count tbPtpBad
    else s.ptpUse p m.body

/-- ANNOUNCE_TIMEOUT: nothing until ANN_TMO intervals have passed (R52). -/
def execAnnounceTimeout (p : Nat) (s : State) : Host.Outcome State Fault Refusal :=
  onCore (.announceTimeout p) s fun s =>
    let q := s.ptp p
    if s.ptpSlave p ∧ q.gm.isSome ∧ q.lastAnnounce + s.get (TB_PORT_CFG_ANN_TMO p) * 2 ^ s.get (TB_PORT_CFG_LOG_ANN p) * 1000000000 ≤ s.time.mono
    then s.portLost p else s

/-- SYNC_TIMEOUT: nothing until three Sync intervals have passed (R52). -/
def execSyncTimeout (p : Nat) (s : State) : Host.Outcome State Fault Refusal :=
  onCore (.syncTimeout p) s fun s =>
    let q := s.ptp p
    if s.ptpSlave p ∧ q.gm.isSome ∧ q.lastSync + 3 * 1000000000 / 2 ^ (-(s.getS (TB_PORT_CFG_LOG_SYNC p))).toNat ≤ s.time.mono
    then s.portLost p else s

/-- PORT_QUALIFY_WAIT_END: no port has qualified (R50). -/
def execPortQualifyWaitEnd (s : State) : Host.Outcome State Fault Refusal :=
  onCore .portQualifyWaitEnd s fun s =>
    match s.time.waitEnds with
    | some t => if t ≤ s.time.mono then s.sourceLost else s
    | none => s

/-- QUALITY_TICK: the code while the bound grows; beyond LIMIT, HOLDOVER becomes FREERUN (R40, R45). -/
def execQualityTick (s : State) : Host.Outcome State Fault Refusal :=
  onCore .qualityTick s fun s =>
    if ¬ s.boundGrows then s
    else
      let s := s.showQuality
      if s.timeState = tsHoldover ∧ s.get TB_HOLD_CFG_LIMIT < s.get TB_STATUS_QUALITY then s.freerun else s

/-- What an Announce of a master port states (R50, R368): priority1 (255 on a standby's HN0), clockClass 248 in FREERUN and FAULT and
otherwise a value the spec does not give (log 3), clockAccuracy of the quality code, currentUtcOffset; under C37.238 the IEEE_C37_238
TLV with the bound of the quality code (R49, log 162). -/
def State.announced (s : State) (p : Nat) : List Byte :=
  let pr := if p = 2 ∧ 2 ≤ s.get CW_STATUS_ROLE then 255 else s.get (TB_PORT_CFG_PRIORITY1 p)
  let cls := if s.timeState = tsFreerun ∨ s.timeState = tsFault then 248 else s.drawn % 256
  leBytes 1 pr ++ leBytes 1 cls ++ leBytes 1 (accuracyCode (s.get TB_STATUS_QUALITY)) ++ beBytes 2 (s.get CAL_UTC_OFFSET) ++
  (if s.get TB_PTP_CFG_PROFILE = 1 then
    beBytes 4 (if s.get TB_STATUS_QUALITY < 8 then 100 * 10 ^ s.get TB_STATUS_QUALITY else 0xffffffff) else [])

/-- Bytes that the transport adds to a PTP message on Layer 2: IPv4 or IPv6 and UDP headers (R49). -/
def State.ptpExtra (s : State) : Nat := if s.get TB_PTP_CFG_TRANSPORT = 1 then 28 else if s.get TB_PTP_CFG_TRANSPORT = 2 then 48 else 0

/-- A PTP frame of a message of so many bytes, by the transport in use; its first payload byte names the transport. -/
def State.ptpFrame (s : State) (k : FrameKind) (msg : Nat) (payload : List Byte) : TxFrame :=
  { kind := k, length := max 64 (18 + s.ptpExtra + msg), payload := BitVec.ofNat 8 (s.get TB_PTP_CFG_TRANSPORT) :: payload }

/-- PTP_MASTER_TX: Sync (0) and Announce (1) by a master port, peer delay (2) by any port in use; queue 7 (R49, R73). -/
def execPtpMasterTx (p kind : Nat) (s : State) : Host.Outcome State Fault Refusal :=
  onCore (.ptpMasterTx p kind) s fun s =>
    if kind = 2 then (if s.flag (TB_PORT_CFG_EN p) then s.txOffer p 7 (s.ptpFrame .ptpPeerDelay 54 []) else s)
    else if ¬ s.ptpMaster p then s
    else if kind = 1 then 
      (s.txOffer p 7 (s.ptpFrame .ptpAnnounce (if s.get TB_PTP_CFG_PROFILE = 1 then 88 else 64) (s.announced p))).draw
    else
      let s := s.txOffer p 7 (s.ptpFrame .ptpSync 44 [])
      if s.flag TB_PTP_CFG_TWO_STEP_TX then s.txOffer p 7 (s.ptpFrame .ptpSync 44 [1]) else s

/-! ### PPS and time of day (R54, R55) -/

/-- The TAI second a UTC second of a sentence stands for; during an inserted second, and before a deleted one, the offset to come
applies. -/
def State.namedTai (s : State) (u : Nat) (sixty : Bool) : Nat :=
  ((u : Int) + s.utcOffset +
    (if sixty then 0 else if s.inserting (s.time.tai / 1000000000) then 1 else if s.leapDel ∧ u % 86400 = 0 then -1 else 0)).toNat

/-- Two missed windows in a row: the source is lost, and edges start anew. -/
def State.ppsMiss (s : State) : State :=
  let s := s.count tbPpsMiss
  let s := { s with time := { s.time with ppsMissed := s.time.ppsMissed + 1, ppsWindow := s.time.ppsWindow + 1000000000 } }
  if 2 ≤ s.time.ppsMissed then
    let s := { s with time := { s.time with ppsLast := none, ppsTai := none, ppsMissed := 0 } }
    if s.get TB_STATUS_SRC = 3 then s.sourceLost else s
  else s

/-- An accepted edge begins a TAI second: the one the last sentence names, else the one after the last edge's. -/
def State.ppsAccept (s : State) : State :=
  let next := match s.time.todTai with
    | some t => some t
    | none => s.time.ppsTai.map (· + 1)
  let s := { s with time := { s.time with ppsLast := some s.time.mono, ppsMissed := 0, ppsWindow := s.time.mono + 1001000000, ppsTai := next, todTai := none } }
  match next with
  | none => s
  | some t =>
    if s.time.todLast.isNone then s
    else
      let s := if s.flag TB_STATUS_SRC_VALID then s else s.sourceFound 3
      s.servo ((s.time.tai : Int) - t * 1000000000) (some 100)

/-- PPS_IN_EDGE: the edge that marks the second is judged; the other edge marks nothing. -/
def execPpsInEdge (rising : Bool) (heldUs : Nat) (s : State) : Host.Outcome State Fault Refusal :=
  onCore (.ppsInEdge rising heldUs) s fun s =>
    if ¬ s.flag TB_CTRL_GM_MODE ∨ rising = s.flag TB_PPS_CFG_IN_POL then s
    else
      let inWindow : Bool := match s.time.ppsLast with
        | none => true
        | some t => decide (t + 999000000 ≤ s.time.mono) && decide (s.time.mono ≤ t + 1001000000)
      if s.get TB_PPS_CFG_DEGLITCH ≤ heldUs ∧ inWindow then s.ppsAccept else s.count tbPpsMiss

/-- PPS_WINDOW_MISS: nothing until the window has passed. -/
def execPpsWindowMiss (s : State) : Host.Outcome State Fault Refusal :=
  onCore .ppsWindowMiss s fun s => if s.flag TB_CTRL_GM_MODE ∧ s.time.ppsWindow ≤ s.time.mono then s.ppsMiss else s

/-- TOD_SENTENCE_RX: a sentence is malformed, fails its checksum, disagrees with the second counted, or is held for the next edge. -/
def execTodSentenceRx (z : Zda) (s : State) : Host.Outcome State Fault Refusal :=
  onCore (.todSentenceRx z) s fun s =>
    if ¬ s.flag TB_CTRL_GM_MODE then s
    else
      let t := s.namedTai z.utcSecond z.sixty
      let agrees : Bool := match s.time.ppsTai with
        | none => true
        | some p => t == p + 1
      if ¬ z.wellFormed ∨ ¬ z.checksumOk ∨ ¬ agrees then s.count tbTodErr
      else { s with time := { s.time with todLast := some s.time.mono, todTai := some t } }

/-- TOD_TIMEOUT: nothing until TOD_TMO seconds have passed without a valid sentence. -/
def execTodTimeout (s : State) : Host.Outcome State Fault Refusal :=
  onCore .todTimeout s fun s =>
    match s.time.todLast with
    | some t =>
      if s.flag TB_CTRL_GM_MODE ∧ t + s.get TB_TOD_CFG_TOD_TMO * 1000000000 ≤ s.time.mono then
        let s := { s with time := { s.time with todLast := none, todTai := none, ppsTai := none } }
        if s.get TB_STATUS_SRC = 3 then s.sourceLost else s
      else s
    | none => s

/-- TAI_SECOND: the boundary of a second not yet acted on: source 8, and the pulse where it is permitted. -/
def execTaiSecond (s : State) : Host.Outcome State Fault Refusal :=
  onCore .taiSecond s fun s =>
    let sec := s.time.tai / 1000000000
    if 16 ≤ s.time.tai % 1000000000 ∨ sec = s.time.lastSecond then s
    else
      let s := State.fire { s with time := { s.time with lastSecond := sec } } 8
      if s.ppsAllowed then
        State.emit { s with time := { s.time with
          ppsOutEnds := some (s.time.mono + s.get TB_PPS_CFG_OUT_WIDTH * 1000000)
          todTxFrom := some s.time.mono } } (.ppsOut (!s.flag TB_PPS_CFG_OUT_POL))
      else s

/-- PPS_OUT_END. -/
def execPpsOutEnd (s : State) : Host.Outcome State Fault Refusal :=
  onCore .ppsOutEnd s fun s =>
    match s.time.ppsOutEnds with
    | some t => if t ≤ s.time.mono then State.emit { s with time := { s.time with ppsOutEnds := none } } (.ppsOut (s.flag TB_PPS_CFG_OUT_POL)) else s
    | none => s

/-- The UTC second that a TAI second to come will be, and whether it is second 60 of a leap pending (R55, R56). -/
def State.utcNamed (s : State) (sec : Nat) : Nat × Bool :=
  let u := ((sec : Int) - s.utcOffset).toNat
  if s.inserting sec then (u, true)
  else if s.inserting (sec - 1) then (u - 1, false)
  else if s.leapDel ∧ (u + 1) % 86400 = 0 ∧ s.leapBefore sec then (u + 1, false)
  else (u, false)

/-- TOD_TX_SEND: between 100 and 500 ms after a pulse, the UTC second of the next pulse. -/
def execTodTxSend (s : State) : Host.Outcome State Fault Refusal :=
  onCore .todTxSend s fun s =>
    match s.time.todTxFrom with
    | some t =>
      if s.flag TB_CTRL_TOD_TX_EN ∧ t + 100000000 ≤ s.time.mono ∧ s.time.mono ≤ t + 500000000 then
        State.emit { s with time := { s.time with todTxFrom := none } }
          (.todSentence (s.utcNamed (s.time.tai / 1000000000 + 1)).1 (s.utcNamed (s.time.tai / 1000000000 + 1)).2)
      else s
    | none => s

/-! ### Host commands (R44, R311) -/

/-- TIME_ACQUIRE. -/
def execTimeAcquire (h : CmdHeader) (s : State) : Host.Outcome State Fault Refusal :=
  onCore (.timeAcquire h) s fun s => s.command h 0x80 none none fun s =>
    if (s.timeState = tsFreerun ∨ s.timeState = tsFault) ∧ s.flag TB_STATUS_SRC_VALID then
      let s := s.acquire
      s.finish h 0x80 stOk 0 (s.word TB_STATUS)
    else s.finish h 0x80 stState 0 (s.word TB_STATUS)

/-- Why the fields of TIME_STEP are out of range, if they are. -/
def stepField (mode : Nat) (sec ns : Int) : Option Nat :=
  if 1 < mode then some 24
  else if mode = 1 then
    (if sec < 0 ∨ 2 ^ 48 ≤ sec then some 32 else if ns < 0 ∨ 999999999 < ns then some 40 else none)
  else if ns < -999999999 ∨ 999999999 < ns ∨ (0 < sec ∧ ns < 0) ∨ (sec < 0 ∧ 0 < ns) then some 40 else none

/-- A 64-bit signed result, saturating. -/
def result64 (v : Int) : Nat := codeOf 64 (max (-(2 ^ 63)) (min (2 ^ 63 - 1) v))

/-- TIME_STEP: in ACQUIRE it uses the allowance; in FREERUN it sets the clock. -/
def execTimeStep (h : CmdHeader) (mode : Nat) (sec ns : Int) (s : State) : Host.Outcome State Fault Refusal :=
  onCore (.timeStep h mode sec ns) s fun s => s.command h 0x81 (stepField mode sec ns) none fun s =>
    if ¬ (s.timeState = tsFreerun ∨ (s.timeState = tsAcquire ∧ ¬ s.flag TB_STATUS_STEP_USED)) then s.finish h 0x81 stState
    else
      let v := sec * 1000000000 + ns
      let d := if mode = 1 then v - s.time.tai else v
      let new := (s.time.tai : Int) + d
      if new < 0 ∨ (2 ^ 48 : Int) * 1000000000 ≤ new then s.finish h 0x81 stRange 32
      else
        let s := s.when (s.timeState == tsAcquire) fun s => s.put TB_STATUS_STEP_USED 1
        let s := s.stepBy d
        s.finish h 0x81 stOk 0 (s.word TB_STEP_COUNT) (result64 d)

end Sys2Proof.Machine
end

