-- ==== Sys2Proof/Machine/Calendar.lean ====
section
/-!
DEFINITION. The calendar (02, R56 to R62): leap seconds, alarms, the trim measurement, its tick, and the register writes of the
time base and the calendar.
-/

namespace Sys2Proof.Machine

/-! ### Leap seconds (R56) -/

/-- The leap applied at a UTC midnight: the offset changes by one, the flags clear, the instant and the old offset are kept. -/
def State.completeLeap (s : State) (d : Int) (midnight : Nat) : State :=
  let old := s.utcOffset
  let new := old + d
  let s := ((s.put CAL_UTC_OFFSET (codeOf 16 new)).put CAL_UTC_LEAP61 0).put CAL_UTC_LEAP59 0
  State.showLeap { s with time := { s.time with
    lastLeap := some (midnight, old, decide (0 < d))
    leap61 := false
    leap59 := false
    utcOffset := some new } }

/-- The time base completes a leap at this instant of TAI. A calendar that has not come to it yet applies it when it does. -/
def State.taiLeap (s : State) (d : Int) : State :=
  let s := if s.cal.leapDone ≠ 0 then { s with cal := { s.cal with leapDone := 0 } } else { s with cal := { s.cal with leapDue := d } }
  s.completeLeap d (((s.time.tai / 1000000000 : Nat) : Int) - (s.utcOffset + d)).toNat

/-- Local TAI lies in the first second of a UTC day under an offset. -/
def State.firstSecond (s : State) (off : Int) : Bool := (((s.time.tai / 1000000000 : Nat) : Int) - off) % 86400 == 0

/-- UTC midnight: a pending leap completes, else the PTP offset is copied while a PTP source is valid. -/
def State.utcMidnight (s : State) : State :=
  let off := s.utcOffset
  let sec := s.time.tai / 1000000000
  if s.leapIns ∧ s.firstSecond (off + 1) ∧ s.leapBefore (sec - 1) then s.taiLeap 1
  else if s.leapDel ∧ s.firstSecond (off - 1) ∧ s.leapBefore sec then s.taiLeap (-1)
  else if s.firstSecond off ∧ ¬ s.leapIns ∧ ¬ s.leapDel ∧ s.ptpValid then
    match s.time.utcOffset with
    | some v => s.put CAL_UTC_OFFSET (codeOf 16 v)
    | none => s
  else s

/-- UTC_MIDNIGHT: nothing at any other time. -/
def execUtcMidnight (s : State) : Host.Outcome State Fault Refusal := onCore .utcMidnight s State.utcMidnight

/-! ### Alarms (R62) -/

/-- The calendar second being shown matches an alarm; second 60 of an inserted leap is 23:59:60 of its day. -/
def State.alarmNow (s : State) (n : Nat) : Bool :=
  if s.cal.inLeap then s.alarmTime n 23 59 60 && s.alarmDate n (s.cal.ticks / dayTicks)
  else s.alarmAt n (s.cal.ticks / 32768)

/-- A count that names the second being shown; an inserted second has a name of its own. -/
def State.secondName (s : State) : Nat := 2 * (s.cal.ticks / 32768) + bit s.cal.inLeap

/-- The tick that begins a second. -/
def State.secondStart (s : State) : Bool := if s.cal.inLeap then s.cal.leapTicks % 32768 == 0 else s.cal.ticks % 32768 == 0

/-- CAL_ALARM: an enabled alarm matches at the first tick of a second, once; it is a replay where a backward commit has exposed the
instant again, and not at the instant committed (R62). -/
def execCalAlarm (n : Nat) (s : State) : Host.Outcome State Fault Refusal :=
  checked (.calAlarm n) s fun s =>
    if s.power.phase = .unpowered ∨ s.flag CAL_CTRL_HALT ∨ ¬ s.flag (CAL_ALM_CTRL_EN n) ∨ ¬ s.secondStart ∨ ¬ s.alarmNow n ∨
        s.cal.matched.getD n none = some s.secondName then s
    else
      State.alarmFire { s with cal := { s.cal with matched := s.cal.matched.set n (some s.secondName) } } n false
        (decide (s.cal.replayFrom < s.cal.ticks) && decide (s.cal.ticks ≤ s.cal.replayTo))

/-! ### Rate trim (R61) -/

/-- A measurement begun: the PTP reference needs LOCKED. DESIGN CHOICE (log 163): started with it in another state, the measurement reads
aborted at once; the rules give START there no outcome. -/
def State.trimBegin (s : State) : State :=
  let s := s.setWord CAL_TRIM_RES 0
  if s.get CAL_TRIM_CTRL_SRC = 0 ∧ s.timeState ≠ tsLocked then s.put CAL_TRIM_CTRL_STATE 3
  else
    let s := s.put CAL_TRIM_CTRL_STATE 1
    { s with
      time := { s.time with trim := some ⟨s.time.tai + 1000000000000, s.cal.osc⟩ }
      afe := { s.afe with mains := { last := some s.time.mono } } }

/-- 1000 s of reference time have passed: of PTP time, or so many whole cycles of the mains input after the crossing that began them. -/
def State.trimOver (s : State) : Bool :=
  match s.time.trim with
  | none => false
  | some t => if s.get CAL_TRIM_CTRL_SRC = 0 then decide (t.ends ≤ s.time.tai) else
      decide ((if s.flag CAL_TRIM_CTRL_MAINS_60 then 60000 else 50000) < s.afe.mains.count)

/-- The result of a number of RTC ticks counted: the negated rate error in units of 2⁻²⁴, to the nearest unit. -/
def trimResult (ticks : Nat) : Int := -((((ticks : Int) - 32768000) * 2 ^ 24 * 2 + 32768000) / (2 * 32768000))

/-- A mains measurement whose input has shown no crossing for more than two nominal cycles. -/
def State.trimSilent (s : State) : Bool :=
  s.time.trim.isSome && s.get CAL_TRIM_CTRL_SRC == 1 &&
  (s.afe.mains.last.map fun t => decide (t + (if s.flag CAL_TRIM_CTRL_MAINS_60 then 33333334 else 40000000) < s.time.mono)).getD false

/-- No measurement runs any more. -/
def State.trimEnd (s : State) : State := { s with time := { s.time with trim := none } }

/-- TRIM_DONE: the crystal's ticks over the reference time give the result. A mains input that has fallen silent aborts. -/
def execTrimFinish (s : State) : Host.Outcome State Fault Refusal :=
  onCore .trimFinish s fun s =>
    if ¬ s.trimOver then (if s.trimSilent then s.trimAbort else s)
    else
      let r := trimResult (s.cal.osc - (s.time.trim.map (·.from_)).getD 0)
      let bad : Bool := decide (2047 < r.natAbs)
      let s := s.trimEnd.put CAL_TRIM_CTRL_STATE 2
      let s := (s.put CAL_TRIM_RES_RESULT (codeOf 16 (max (-32768) (min 32767 r)))).put CAL_TRIM_RES_VALID 1
      let s := s.put CAL_TRIM_RES_OUT_OF_RANGE (bit bad)
      if s.flag CAL_TRIM_CTRL_AUTO_WRITE ∧ ¬ bad then s.put CAL_TRIM_RATE (codeOf 12 r) else s

/-! ### The calendar's tick (R56, R58) -/

/-- The counter of ticks lost while halted. -/
def calHalt : Cnt := ⟨CAL_HALT_TICKS, CAL_STATUS_HALT_SAT, EV_CAL_CNT_SAT, 0, 0⟩

/-- The calendar has come to a leap: one that the time base has applied already is done with; any other is left for it to complete. -/
def State.leapMet (s : State) (d : Int) : State :=
  if s.cal.leapDue ≠ 0 then { s with cal := { s.cal with leapDue := 0 } } else { s with cal := { s.cal with leapDone := d } }

/-- In the battery domain alone the calendar completes the leap that it has come to, once second 60 has ended. -/
def State.leapAlone (s : State) : State :=
  if s.coreOn ∨ s.cal.inLeap ∨ s.cal.leapDone = 0 then s
  else State.completeLeap { s with cal := { s.cal with leapDone := 0 } } s.cal.leapDone (946684800 + s.cal.leapMidnight / 32768)

/-- The leap that the calendar meets at its next midnight: one the time base has applied already, else the one pending. -/
def State.calIns (s : State) : Bool := s.cal.leapDue == 1 || (s.cal.leapDue == 0 && s.cal.leapDone == 0 && s.leapIns)
@[inherit_doc State.calIns] def State.calDel (s : State) : Bool := s.cal.leapDue == -1 || (s.cal.leapDue == 0 && s.cal.leapDone == 0 && s.leapDel)

/-- One tick of 1/32768 s counted: an inserted second runs before midnight (the count stands at 23:59:59 of the day while it does), a
deleted second 59 is skipped, and an alarm match it removes fires with SKIPPED, once with a match at 00:00:00. After 2199 the count starts
anew (log 42). -/
def State.calCount (s : State) : State :=
  if s.cal.inLeap then
    if s.cal.leapTicks + 1 < 32768 then { s with cal := { s.cal with leapTicks := s.cal.leapTicks + 1 } }
    else { s with cal := { s.cal with ticks := s.cal.ticks + 32768, inLeap := false, leapTicks := 0 } }
  else
    let t := s.cal.ticks + 1
    let r := t % dayTicks
    if r = 0 ∧ s.calIns then
      State.leapMet { s with cal := { s.cal with ticks := t - 32768, inLeap := true, leapTicks := 0 } } 1
    else if r = dayTicks - 32768 ∧ s.calDel then
      let s := { s with cal := { s.cal with ticks := t + 32768 } }
      let s := s.forEach 2 fun n s =>
        if s.flag (CAL_ALM_CTRL_EN n) ∧ s.alarmAt n (t / 32768) then
          State.alarmFire { s with cal := { s.cal with matched := s.cal.matched.set n (some s.secondName) } } n true false
        else s
      s.leapMet (-1)
    else { s with cal := { s.cal with ticks := if t < yearStart 200 * dayTicks then t else 0 } }

/-- A tick of the calendar's oscillator: the partitions age (R391), and the calendar counts unless halted. -/
def State.calTick (s : State) : State :=
  let s := { s with cal := { s.cal with total := s.cal.total + 1 } }
  let s := s.when (s.coreOn || s.flag CAL_STATUS_VALID) fun s => { s with fw := { s.fw with ages := s.fw.ages.map (· + 1) } }
  if s.flag CAL_CTRL_HALT then (if s.coreOn then s.count calHalt else s.countRaw calHalt) else s.calCount.leapAlone

/-! ### Register writes (02) -/

/-- A staged date and time name an instant (R57). -/
def stagedOk (d t : Nat) : Bool := decide (d / 2 ^ 20 % 32 ≤ monthDays (d % 65536) (d / 2 ^ 16 % 16)) && decide (t / 2 ^ 11 % 64 ≤ 59)

/-- Why a write to a TB or CAL register is refused, beside the ranges of its fields. -/
def timeGuard (s : State) (base : Nat) (ix : List Nat) (w : Word) : Option Nat :=
  match base, ix with
  | 0x20014, _ => if w.field 31 16 * 1000 < 2 * w.field 15 0 then some reasonRange else none
  | 0x2003c, _ => if 239 < w.field 15 8 ∧ w.field 15 8 ≠ 254 then some reasonRange else none
  | 0x20100, [p] =>
    if p = 2 then (if w.field 1 1 = 0 then some reasonRange else none)
    else if w.field 1 1 = 1 ∧ ¬ s.flag TB_CTRL_GM_MODE then some reasonRange else none
  | 0x3000c, _ => if w.field 17 17 = 1 ∧ w.field 16 16 = 1 then some reasonRange else none
  | 0x30018, _ => if w.field 0 0 = 1 ∧ ¬ stagedOk (s.word CAL_SET_DATE) (s.word CAL_SET_TIME) then some reasonRange else none
  | 0x30034, _ => if w.field 0 0 = 1 ∧ s.get CAL_TRIM_CTRL_STATE = 1 then some reasonRange else none
  | _, _ => none

/-- A change of grandmaster mode: the source in use is lost, and the other kind starts anew. -/
def State.gmSwitched (s : State) : State :=
  let s := s.sourceLost
  let s := { s with time := { s.time with
    ptp := []
    leap61 := false
    leap59 := false
    ppsLast := none
    ppsTai := none
    ppsMissed := 0
    ppsWindow := s.time.mono + 1001000000
    todLast := none
    todTai := none } }
  (s.setPair TB_GM_ID_LO TB_GM_ID_HI 0).forEach 3 fun p s => s.showPort p

/-- What an accepted write to a TB or CAL register does beside storing its fields. -/
def timeEffect (base : Nat) (ix : List Nat) (old w : Word) (s : State) : State :=
  match base, ix with
  | 0x20000, _ =>
    let s := s.when (old.field 1 1 != w.field 1 1) State.gmSwitched
    let s := s.ppsHold
    if old.field 0 0 = 0 ∧ w.field 0 0 = 1 ∧ s.timeState = tsFreerun ∧ s.flag TB_STATUS_SRC_VALID then s.acquire else s
  | 0x20040, _ =>
    (s.when (old.field 25 25 != w.field 25 25) fun s => s.emit (.ppsOut (s.time.ppsOutEnds.isSome != (w.field 25 25 == 1)))).ppsHold
  | 0x20100, [p] =>
    if w.field 0 0 = 0 ∨ w.field 1 1 = 1 then (s.portLost p).showPort p else s.showPort p
  | 0x30000, _ => s.put CAL_STATUS_RUNNING (1 - w.field 0 0)
  | 0x3000c, _ => s.showLeap
  | 0x30018, _ => if w.field 0 0 = 1 then s.calCommit (calTicks (s.word CAL_SET_DATE) (s.word CAL_SET_TIME)) else s
  | 0x30034, _ => if w.field 0 0 = 1 then s.trimBegin else s
  | _, _ => s

end Sys2Proof.Machine
end

