-- ==== Sys2Proof/Machine/Flags.lean ====
section
/-!
DEFINITION. The statistics counters (R10, R11): the SAT bit of each, by the offset of its register.
-/

namespace Sys2Proof.Machine

/-- The SAT bit of the statistics counter in a register row at its indices; none for a register that is no statistics counter. -/
def satOf (base : Nat) (ix : List Nat) : Option Fld :=
  match base, ix with
  | 0x30008, _ => some CAL_STATUS_HALT_SAT
  | 0x20048, _ => some TB_STATUS_SAT_PPS
  | 0x2004c, _ => some TB_STATUS_SAT_TOD
  | 0x20050, _ => some TB_STATUS_SAT_PTP
  | 0x40400, [p, i] => some ⟨NP_CNT_SAT p, i, i⟩
  | 0x50008, [i] => some (SL_STATUS_SAT_CECC i)
  | 0x5000c, [i] => some (SL_STATUS_SAT_UECC i)
  | 0x50010, [i] => some (SL_STATUS_SAT_DISCARD i)
  | 0x100080, [n, i] => some ⟨LN_CNT_SAT n, i, i⟩
  | 0x100384, [i] => some ⟨LN_G_SAT, i, i⟩
  | 0x140134, [c] => some (AF_CNT_SAT_SAT_DROP c)
  | 0x140138, [c] => some (AF_CNT_SAT_SAT_OVF c)
  | 0x140500, [i] => some ⟨AF_OVR_SAT (i / 32), i % 32, i % 32⟩
  | 0x150020, [n, i] => some ⟨FC_STAT n, 16 + i, 16 + i⟩
  | 0x160160, [m, i] => some ⟨PE_FN_STAT m, 16 + i, 16 + i⟩
  | 0x162010, [n, i] => some ⟨PE_LF_STAT n, 16 + i, 16 + i⟩
  | 0x180040, [k, i] => some ⟨OS_STATUS k, 8 + i, 8 + i⟩
  | 0x290000, [n, i] => some ⟨AE_SLOT_STAT n, 28 + i, 28 + i⟩
  | 0x2f0040, [i] => some ⟨AE_G_SAT, i, i⟩
  | 0x2f0084, [r] => some ⟨AE_G_SAT, 8 + r, 8 + r⟩
  | 0x300040, [w, i] => some ⟨OW_STATUS w, 8 + i, 8 + i⟩
  | 0x310060, [k, i] => some ⟨IW_STATUS k, 24 + i, 24 + i⟩
  | 0x320f00, [i] => some ⟨AL_SAT, i, i⟩
  | 0x3400e8, [n, i] => some ⟨ME_CNT_SAT n, i, i⟩
  | 0x350040, [i] => some ⟨ME_G_SAT, i, i⟩
  | 0x3701c0, [u, i] => some ⟨CP_STATUS u, 8 + i, 8 + i⟩
  | 0x380040, [i] => some ⟨PL_SAT, i, i⟩
  | 0x380060, _ => some PL_SAT_SAT_EVICT
  | 0x380064, _ => some PL_SAT_SAT_FILTERED
  | 0x392040, [i] => some ⟨HI_SAT, i, i⟩
  | 0x3a500c, [c, i] => some ⟨SC_CORE_STAT c, 16 + i, 16 + i⟩
  | 0x3b001c, [m] => some (DL_STAT_SAT m)
  | 0x3c0010, [i] => some ⟨SE_SAT, i, i⟩
  | 0x3d0040, [i] => some ⟨CW_SAT, i, i⟩
  | 0x3e0060, [i] => some ⟨FU_SAT, i, i⟩
  | 0x3f0004, _ => some IG_STATUS_SAT_REJ
  | 0x3f0040, [i] => some ⟨IG_SAT, i, i⟩
  | 0x10010, _ => some PW_STATUS_SAT
  | _, _ => none

end Sys2Proof.Machine
end

