-- ==== Sys2Proof/Machine/Certificate.lean ====
section
/-!
DEFINITION. The X.509 certificate of a ledger key, in DER (R346, R347; log 217).
-/

namespace Sys2Proof.Machine

/-! ### DER -/

/-- The octets of a number, most significant first, none for zero. -/
def octets (n : Nat) : List Byte := beBytes ((n.log2 + 8) / 8) n |>.dropWhile (· == 0)

/-- A DER value: tag, length, contents. -/
def der (tag : Nat) (contents : List Byte) : List Byte :=
  let n := contents.length
  BitVec.ofNat 8 tag :: ((if n < 128 then [BitVec.ofNat 8 n] else BitVec.ofNat 8 (128 + (octets n).length) :: octets n) ++ contents)

/-- A sequence of DER values. -/
def derSeq (parts : List (List Byte)) : List Byte := der 0x30 parts.flatten

/-- A non-negative integer. -/
def derNat (n : Nat) : List Byte :=
  let b := octets n
  der 2 (if b.isEmpty ∨ (b.headD 0).toNat ≥ 128 then 0 :: b else b)

/-- An object identifier by its contents. -/
def derOid (b : List Nat) : List Byte := der 6 (b.map (BitVec.ofNat 8))

/-- A bit string of whole octets. -/
def derBits (b : List Byte) : List Byte := der 3 (0 :: b)

/-- The characters of text, and a number in decimal of `w` digits at least. -/
def textBytes (s : String) : List Byte := s.toList.map fun c => BitVec.ofNat 8 c.toNat
@[inherit_doc textBytes] def decimal (w n : Nat) : List Byte :=
  let d := Nat.toDigits 10 n
  (List.replicate (w - d.length) '0' ++ d).map fun c => BitVec.ofNat 8 c.toNat

/-! ### The fields of R347 -/

/-- id-slh-dsa-sha2-192s, 2.16.840.1.101.3.4.3.22, and id-slh-dsa-sha2-128f, 2.16.840.1.101.3.4.3.21, with parameters absent. -/
def algorithm192s : List Byte := derSeq [derOid [0x60, 0x86, 0x48, 1, 0x65, 3, 4, 3, 22]]
@[inherit_doc algorithm192s] def algorithm128f : List Byte := derSeq [derOid [0x60, 0x86, 0x48, 1, 0x65, 3, 4, 3, 21]]

/-- An attribute of a name: 2.5.4.n, as printable text. -/
def nameAttribute (n : Nat) (text : List Byte) : List Byte := der 0x31 (derSeq [derOid [0x55, 4, n], der 0x13 text])

/-- The serialNumber of a device: GL_SERIAL as 16 lowercase hexadecimal digits (R346). -/
def serialText (serial : Nat) : List Byte :=
  let d := Nat.toDigits 16 serial
  (List.replicate (16 - d.length) '0' ++ d).map fun c => BitVec.ofNat 8 c.toNat

/-- LEDGER-Sslot-Ggeneration, in decimal. -/
def ledgerName (slot gen : Nat) : List Byte := textBytes "LEDGER-S" ++ decimal 1 slot ++ textBytes "-G" ++ decimal 1 gen

/-- The time of a validity: to the end of 2049 with two digits of the year, later with four. -/
def derTime (date time : Nat) : List Byte :=
  let y := date % 2 ^ 16
  let rest := decimal 2 (date / 2 ^ 16 % 16) ++ decimal 2 (date / 2 ^ 20 % 32) ++ decimal 2 (time % 32) ++ decimal 2 (time / 2 ^ 5 % 64) ++
    decimal 2 (time / 2 ^ 11 % 64) ++ textBytes "Z"
  if y < 2050 then der 0x17 (decimal 2 (y % 100) ++ rest) else der 0x18 (decimal 4 y ++ rest)

/-- What a ledger certificate states, before its signature: version 3; serial number; algorithm; issuer; validity from the UTC of the
commit; subject; the public key; keyUsage digitalSignature; basicConstraints with cA false. -/
def ledgerTbs (serial slot gen date time : Nat) (pub : List Byte) : List Byte :=
  let device := nameAttribute 5 (serialText serial)
  derSeq [
    der 0xa0 (derNat 2), derNat (Config.certificateSerial slot gen), algorithm192s, derSeq [device],
    derSeq [derTime date time, der 0x18 (textBytes "99991231235959Z")],
    derSeq [device, nameAttribute 3 (ledgerName slot gen)],
    derSeq [algorithm128f, derBits pub],
    der 0xa3 (derSeq [
      derSeq [derOid [0x55, 0x1d, 15], der 1 [0xff], der 4 (der 3 [7, 0x80])],
      derSeq [derOid [0x55, 0x1d, 19], der 1 [0xff], der 4 (derSeq [])]])]

/-- A certificate from what it states and its signature. -/
def certificate (tbs sig : List Byte) : List Byte := derSeq [tbs, algorithm192s, derBits sig]

/-- The certificate of the ledger key in a slot, issued and signed by slot 0: one more signature of the device. -/
def State.ledgerCertificate (s : State) (k : Nat) : List Byte × State :=
  let tbs := ledgerTbs (s.pair GL_SERIAL_LO GL_SERIAL_HI) k (s.keyGen k) s.calDate s.calTime (slhPublic 4 (s.keyOf k))
  let (sig, s) := s.slhSignature 5 (s.keyOf 0) tbs
  (certificate tbs sig, s)

end Sys2Proof.Machine
end

