-- ==== Sys2Proof/Machine/Images.lean ====
section
/-!
DEFINITION. The layout of an image (15, R380).
-/

namespace Sys2Proof.Machine

/-- A little-endian field of an image. -/
def imgField (i : Image) (off n : Nat) : Nat := leNat ((i.drop off).take n)

/-- The fields of R380 that the checks and the states use. -/
def imgKind (i : Image) : Nat := imgField i 6 1
@[inherit_doc imgKind] def imgSlot (i : Image) : Nat := imgField i 7 1
@[inherit_doc imgKind] def imgVersion (i : Image) : Nat := imgField i 12 4
@[inherit_doc imgKind] def imgFormat (i : Image) : Nat := imgField i 16 2
@[inherit_doc imgKind] def imgFrom (i : Image) : Nat := imgField i 18 2
@[inherit_doc imgKind] def imgBodyLen (i : Image) : Nat := imgField i 24 8
@[inherit_doc imgKind] def imgEntry (i : Image) (c : Nat) : Nat := imgField i (32 + 8 * c) 8

/-- The body. -/
def imgBody (i : Image) : List Byte := (i.drop 256).take (imgBodyLen i)

/-- The bytes the signature stands over, the signature, and the image digest. -/
def imgSigned (i : Image) : List Byte := i.take (256 + imgBodyLen i)
@[inherit_doc imgSigned] def imgSignature (i : Image) : List Byte := (i.drop (256 + imgBodyLen i)).take 16224
@[inherit_doc imgSigned] def imgDigest (i : Image) : Nat := sha256 (imgSigned i)

/-- The longest image of a kind. -/
def longestImage (kind : Nat) : Nat := if kind = 0 then 268435456 else 67108864

/-- The first 8 bytes of a digest: RES1 of FW_STAGE and the SESSION of R387. -/
def sessionOf (digest : Nat) : Nat := digest / 2 ^ 192 % 2 ^ 64

/-- Chunks of an image of a length (R387). -/
def chunksOf (length : Nat) : Nat := (length + 8191) / 8192

end Sys2Proof.Machine
end

