-- ==== Sys2Proof/Machine/Pulses.lean ====
section
/-!
DEFINITION. Pulse outputs, battery sentinel, outage log and tamper inputs (09, R260 to R264), and the refusal rules and effects of
the metrology registers (R232, R240, R242, R257, R258, R261, R262).
-/

namespace Sys2Proof.Machine

/-! ### Pulse outputs -/

/-- One pulse output's hidden state. -/
def State.pulse (s : State) (p : Nat) : PulseState := Store.get (fun _ => {}) s.meter.pulses p

/-- One pulse output's hidden state set. -/
def State.setPulse (s : State) (p : Nat) (v : PulseState) : State :=
  { s with meter := { s.meter with pulses := Store.set (fun _ => {}) s.meter.pulses p v } }

/-- PO_STATUS.DRIVEN of every output (R259, R261). -/
def State.showDriven (s : State) : State :=
  s.forEach 8 fun p s => s.put (PO_STATUS_DRIVEN p) (bit (s.drives && s.flag (PO_CFG_EN p)))

/-- The next pulse of an output, once its instant has come and the last one has ended (R260, R261). A standby counts it and
drives nothing (R259). -/
def State.pulseEmit (s : State) (p : Nat) : State :=
  let st := s.pulse p
  match st.due with
  | [] => s
  | t :: rest =>
    if ¬ s.flag (PO_CFG_EN p) ∨ st.high.isSome ∨ s.jobMono < t then s
    else
      let s := s.setPulse p { st with due := rest, high := some (s.jobMono + s.get (PO_CFG_WIDTH p) * 1000) }
      let s := (s.bump (whole (PO_COUNT p))).put (PO_STATUS_BACKLOG p) rest.length
      s.when s.drives fun s => s.emit (.pulse p true)

/-- PULSE_EMIT. -/
def execPulseEmit (p : Nat) (s : State) : Host.Outcome State Fault Refusal :=
  onEngines (.pulseEmit p) s fun s => s.pulseEmit p

/-- The width of a pulse has expired (R260). -/
def State.pulseEnd (s : State) (p : Nat) : State :=
  match (s.pulse p).high with
  | some t =>
    if t ≤ s.jobMono then (s.setPulse p { s.pulse p with high := none }).when s.drives fun s => s.emit (.pulse p false) else s
  | none => s

/-- PULSE_WIDTH_END. -/
def execPulseWidthEnd (p : Nat) (s : State) : Host.Outcome State Fault Refusal :=
  onEngines (.pulseWidthEnd p) s fun s => s.pulseEnd p

/-- Every pulse in progress ends: the outputs are held inactive (R261). -/
def State.pulsesHold (s : State) : State :=
  s.forEach 8 fun p s => if (s.pulse p).high.isSome then (s.setPulse p { s.pulse p with high := none }).emit (.pulse p false) else s

/-! ### Outage log, sentinel, tamper -/

/-- An outage-log entry written at CAL_OLOG_SEQ mod 16 (R263). -/
def State.outageLog (s : State) (type detail hi lo : Nat) : State :=
  let q := s.word CAL_OLOG_SEQ
  let e := q % 16
  let s := s.setWord (CAL_OLOG e 0) (q % 65536 * 65536 + detail * 256 + type)
  let s := (s.setWord (CAL_OLOG e 1) s.calDate).setWord (CAL_OLOG e 2) s.calTime
  (s.setWord (CAL_OLOG e 3) (hi * 65536 + lo)).bump (whole CAL_OLOG_SEQ)

/-- OUTAGE_START with its source: 0 PFAIL_n, 1 the VIN monitor (R248, R263). The battery domain's second count is noted. -/
def State.outageStart (s : State) (src : Nat) : State :=
  let s := s.outageLog 1 src 0 0
  let s := s.forEach 4 fun i s => s.put (CAL_SENT_RMS_MAX i) 0
  { s with meter := { s.meter with olStart := some s.cal.total, sentEntry := [], inOutage := true } }

/-- OUTAGE_END with the outage's length in seconds. -/
def State.outageEnd (s : State) : State :=
  match s.meter.olStart with
  | some t =>
    let s := s.outageLog 2 0 0 (min ((s.cal.total - t) / 32768) 65535)
    { s with meter := { s.meter with olStart := none, sentEntry := [], inOutage := false } }
  | none => s

/-- One sentinel channel's second (R262): the shown RMS; above THR the outage's entry is written or brought up to date. -/
def State.sentinelChannel (s : State) (i rms : Nat) : State :=
  if ¬ s.flag (CAL_SENT_IN_EN i) then s
  else
    let rms := min rms 65535
    let s := (s.put (CAL_SENT_RMS_LAST i) rms).put (CAL_SENT_RMS_MAX i) (max rms (s.get (CAL_SENT_RMS_MAX i)))
    if rms ≤ s.get (CAL_SENT_IN_THR i) then s
    else
      match s.meter.sentEntry.find? (·.1 == i) with
      | none =>
        let q := s.word CAL_OLOG_SEQ
        let s := s.outageLog 3 i 1 rms
        { s with meter := { s.meter with sentEntry := s.meter.sentEntry ++ [(i, q, 1)] } }
      | some (_, q, n) =>
        let s := { s with meter := { s.meter with sentEntry := s.meter.sentEntry.map fun e => if e.1 = i then (i, q, n + 1) else e } }
        if s.word CAL_OLOG_SEQ ≤ q + 16 then
          s.setWord (CAL_OLOG (q % 16) 3) (min (n + 1) 65535 * 65536 + max rms (s.word (CAL_OLOG (q % 16) 3) % 65536))
        else s

/-- SENTINEL_SAMPLE: only while VIN is absent and the sentinel is enabled. -/
def execSentinelSample (rms : List Nat) (s : State) : Host.Outcome State Fault Refusal :=
  checked (.sentinelSample rms) s fun s =>
    if s.power.phase = .battery ∧ s.flag CAL_SENT_CFG_EN then s.forEach 4 fun i s => s.sentinelChannel i (rms.getD i 0) else s

/-- A tamper input at a level, after its filter (R264). -/
def State.tamper (s : State) (pin : Nat) (level : Bool) : State :=
  let en := s.flag ⟨CAL_TAMP_CFG, pin, pin⟩
  let active := level != s.flag ⟨CAL_TAMP_CFG, 2 + pin, 2 + pin⟩
  let lev : Fld := ⟨CAL_TAMP_STAT, 8 + pin, 8 + pin⟩
  let was := s.flag lev
  if ¬ en then s
  else
    let s := s.put lev (bit active)
    if ¬ active ∨ was then s
    else
      let s := (s.put ⟨CAL_TAMP_STAT, pin, pin⟩ 1).outageLog 4 pin 0 0
      if s.power.phase = .battery then s
      else (s.auditAdd { type := 10, master := 12, detail := [pin] }).raise EV_ME_TAMPER sevLegal pin pin

/-- TAMPER_INPUT: in every supply state. -/
def execTamperInput (pin : Nat) (level : Bool) (s : State) : Host.Outcome State Fault Refusal :=
  checked (.tamperInput pin level) s fun s => if s.power.phase = .unpowered then s else s.tamper pin level

/-- TAI nanoseconds of a date word and a time word of the calendar. -/
def State.taiOfCal (s : State) (d t : Nat) : Nat :=
  let days := daysOf (d % 65536) (d / 2 ^ 16 % 16) (d / 2 ^ 20 % 32)
  let sec := t % 32 * 3600 + t / 2 ^ 5 % 64 * 60 + t / 2 ^ 11 % 64
  ((946684800 + days * 86400 + sec : Nat) + s.utcOffset).toNat * 1000000000 + t / 2 ^ 17 * 1000000000 / 32768

/-- The TAI of the newest OUTAGE_START in the log (R249). -/
def State.cutInstant (s : State) : Option Nat :=
  let q := s.word CAL_OLOG_SEQ
  ((List.range (min q 16)).map fun j => (q - 1 - j) % 16).find? (fun e => s.word (CAL_OLOG e 0) % 256 == 1) |>.map fun e =>
    s.taiOfCal (s.word (CAL_OLOG e 1)) (s.word (CAL_OLOG e 2))

/-- Outage entries newer than the last one copied go into the legal audit log as TYPE 9 entries, the first of a gap saying
so (R263). The record flags they give each lane's next record, and the state after. -/
def State.copyOutages (s : State) : Nat × State :=
  let q := s.word CAL_OLOG_SEQ
  let lo := max s.meter.olCopied (q - 16)
  let es := (List.range (q - lo)).map fun j => (lo + j) % 16
  let gap := if s.meter.olCopied < lo then [s.meter.olCopied, lo] else []
  let t := ((List.range es.length).zip es).foldl (fun (s : State) (je : Nat × Nat) =>
    s.auditAdd { type := 9, master := 12, detail := ((List.range 4).map fun w => s.word (CAL_OLOG je.2 w)) ++ (if je.1 = 0 then gap else []) }) s
  let has (ty : Nat) : Bool := es.any fun e => s.word (CAL_OLOG e 0) % 256 == ty
  ((if has 3 then rfCurrent else 0) ||| (if has 1 then rfOutage else 0), { t with meter := { t.meter with olCopied := q } })

/-! ### Register writes -/

/-- The pulse rate of an output stays within R261. -/
def pulseOk (pmax const width : Nat) : Bool :=
  decide (pmax * const ≤ 360000000000) && decide (width * 2 * pmax * const ≤ 36000000000000)

/-- A ledger key slot signs records (R257): usage LEDGER, and its destination mask admits SE_SLH. -/
def State.ledgerKey (s : State) (k : Nat) : Bool := s.keyUsage k == 3 && s.admits k 2

/-- An ME_CFG word with EN at 1 may be written (R232). -/
def State.meCfgOk (s : State) (n : Nat) (w : Word) : Bool :=
  w.field 7 4 != 0 && s.get (ME_PMAX_PMAX n) != 0 &&
  (List.range 4).all fun e => !(w.field 7 4).testBit e || (decide ((s.elem n e).1 < s.laneNq n) && decide ((s.elem n e).2 < s.laneNq n))

/-- Why a write to an ME, PO or CAL sentinel register is refused, if it is. -/
def meterGuard (s : State) (base : Nat) (ix : List Nat) (w : Word) : Option Nat :=
  match base, ix with
  | 0x340000, [n] =>
    if s.flag (ME_CFG_EN n) ∧ w.field 7 4 ≠ s.get (ME_CFG_ELEM_EN n) then some reasonState
    else if w.field 0 0 = 1 ∧ ¬ s.meCfgOk n w then some reasonState else none
  | 0x340004, [n] => if s.flag (ME_CFG_EN n) ∧ s.changes (ME_ELEM n) w then some reasonState else none
  | 0x340010, [_] => if w.field 11 0 < w.field 23 12 then some reasonRange else none
  | 0x350000, _ =>
    if w.field 16 16 = 1 ∧ ¬ s.ledgerKey (w.field 15 8) then some reasonState
    else if limitLane s.point (w.field 3 3 == 1) < s.get ME_LOAD_LOAD then some reasonLoad else none
  | 0x350024, _ => if s.ackBad w.toNat then some reasonRange else none
  | 0x360000, [p] =>
    if w.field 0 0 = 1 ∧ ¬ pulseOk (s.get (ME_PMAX_PMAX (w.field 8 1))) (s.get (PO_CONST_CONST p)) (w.field 31 16) then some reasonRange
    else none
  | 0x360004, [p] =>
    if s.flag (PO_CFG_EN p) ∧ ¬ pulseOk (s.get (ME_PMAX_PMAX (s.get (PO_CFG_LANE p)))) (w.field 29 0) (s.get (PO_CFG_WIDTH p)) then
      some reasonRange
    else none
  | 0x30214, [i] =>
    if w.field 6 6 = 0 then none
    else if ¬ s.flag (AF_IN_CFG_CURRENT (w.field 5 0)) then some reasonState
    else if (List.range 4).any (fun j => j != i && s.flag (CAL_SENT_IN_EN j) && s.get (CAL_SENT_IN_AIN j) == w.field 5 0) then some reasonState
    else none
  | _, _ => none

/-- What an accepted write to those registers does beside storing its fields. -/
def meterEffect (base : Nat) (ix : List Nat) (old w : Word) (s : State) : State :=
  match base, ix with
  | 0x340000, [n] =>
    if old.field 0 0 = 0 ∧ w.field 0 0 = 1 then
      let fresh := s.meter.configLoaded
      (s.setMeter n fun m => { m with
        cur := none, ready := [], history := [], fine := []
        revCount := if fresh then 0 else m.revCount
        fwdCount := if fresh then 0 else m.fwdCount }).refreshAble n
    else if old.field 0 0 = 1 ∧ w.field 0 0 = 0 then s.meterEnd n else s
  | 0x350000, _ =>
    let s := s.put ME_G_STATUS_DUAL_ACTIVE (w.field 3 3)
    let s := s.when (old.field 2 0 != w.field 2 0) fun s =>
      { s with meter := { s.meter with boundary := max s.meter.boundary (s.lastBoundary s.jobTai) } }
    let svc := (s.forEach 256 fun n s => s.refreshAble n)
    (svc.showService (old.field 15 8)).showService (w.field 15 8)
  | 0x350024, _ => s.ackWritten
  | 0x350028, _ => s.when (w.field 0 0 == 1) State.ledgerAgain
  | 0x360000, [p] =>
    let s := if old.field 0 0 = 0 ∧ w.field 0 0 = 1 then ((s.setPulse p {}).put (PO_STATUS_OVERRUN p) 0).put (PO_STATUS_BACKLOG p) 0 else s
    let s := if old.field 0 0 = 1 ∧ w.field 0 0 = 0 ∧ (s.pulse p).high.isSome then (s.setPulse p { s.pulse p with high := none }).emit (.pulse p false) else s
    s.showDriven
  | _, _ => s

end Sys2Proof.Machine
end

