-- ==== Sys2Proof/Machine/Keys.lean ====
section
/-!
DEFINITION. The key commands, signatures, attestation, the random generator and the power-up resolution of the key cells (13,
R336 to R349).
-/

namespace Sys2Proof.Machine

/-! ### Jobs on a slot (R338, R343) -/

/-- The slots a job works on, its own first, and whether it writes them: the one a blob is wrapped under is read. -/
def JobKind.slotsOf : JobKind → List (Nat × Bool)
  | .keyGenerate k _ _ _ _ => [(k, true)]
  | .keyImport k w _ => [(k, true), (w, false)]
  | .keyUpdate k w _ _ _ => (k, true) :: (if w = 0xff then [] else [(w, false)])
  | .attest k _ _ _ _ => [(k, false)]
  | .sign k _ _ _ _ => [(k, false)]
  | .verify k _ _ _ => [(k, false)]
  | _ => []

/-- Two jobs must not overlap: both work on a slot that one of them writes. -/
def JobKind.clashes (a b : JobKind) : Bool := a.slotsOf.any fun x => b.slotsOf.any fun y => x.1 == y.1 && (x.2 || y.2)

/-- A job waits: an earlier one works on a slot of it, and one of the two writes it. -/
def State.slotBlocked (s : State) (j : Job) : Bool := (s.host.jobs.takeWhile fun o => o.sq != j.sq).any fun o => o.kind.clashes j.kind

/-- A job in progress writes a slot: what a command on it finds is known only at its first step. -/
def State.slotWritten (s : State) (k : Nat) : Bool := s.host.jobs.any fun j => j.kind.slotsOf.contains (k, true)

/-- SLH-DSA work that runs in steps (R343). -/
def State.slhWork (s : State) : JobKind → Bool
  | .keyGenerate _ alg _ _ _ => alg == 4 || alg == 5
  | .keyUpdate k w _ _ _ => w == 0xff && (s.keyAlg k == 4 || s.keyAlg k == 5)
  | .attest _ flags _ _ _ => flags == 1
  | .sign _ _ _ _ _ | .verify _ _ _ _ => true
  | _ => false

/-- A ledger record waits for its signature, which takes precedence over command work at every step boundary (R343). -/
def State.ledgerFirst (s : State) : Bool := s.enginesOn && s.drives && s.flag ME_G_CFG_LEDGER_EN && s.unsigned.isSome

/-- SLH-DSA work of a command that would be applied at once must let a ledger record go first. -/
def State.ledgerBars (s : State) (k : JobKind) : Bool := s.slhWork k && s.ledgerFirst

/-- A slot has a job in progress. -/
def State.slotBusy (s : State) (k : Nat) : Bool := s.host.jobs.any fun j => (j.kind.slotsOf.head?.map (·.1)) == some k

/-- KS_SLOT_STAT.BUSY brought up to date. -/
def State.showBusy (s : State) (k : Nat) : State := s.put (KS_SLOT_STAT_BUSY k) (bit (s.slotBusy k))

/-- Bytes hashed in one step. -/
def hashSteps (len : Nat) : Nat := (len + 131071) / 131072
/-- Steps of a signature, a verification and a key generation (R343). -/
def signSteps (alg len : Nat) : Nat := (if alg = 4 then 11 else 312) + 2 * hashSteps len
@[inherit_doc signSteps] def generateSteps (alg usage : Nat) : Nat :=
  if alg = 4 then (if usage = 3 then 314 else 1) else if alg = 5 then 13 else 1

/-- A job of so many steps begun on a slot. -/
def State.startSlotJob (s : State) (h : CmdHeader) (op : Nat) (kind : JobKind) (steps : Nat) : State :=
  let s := s.startJob h op kind steps (2 ^ 30)
  match kind.slotsOf with
  | (k, _) :: _ => s.showBusy k
  | [] => s

/-- A job ended with its final completion. -/
def State.endJob (s : State) (j : Job) (status : Nat) (detail res0 res1 : Nat := 0) : State :=
  let s := { s with host := { s.host with jobs := s.host.jobs.filter (·.sq != j.sq) } }
  let s := match j.kind.slotsOf with
    | (k, _) :: _ => s.showBusy k
    | [] => s
  s.complete { tag := j.tag, sq := j.sq, opcode := j.opcode, status, detail, res0, res1, steps := j.steps }

/-! ### Random generator (R348) -/

/-- The DRBG instantiated with 384 bits of entropy input and nonce, at a class C or P reset. -/
def State.instantiate (s : State) : State :=
  let s := State.draw { s with keys := { s.keys with
    drbg := some (drbgInstantiate (Config.entropy s.free)), requests := 0, reseedAt := s.time.mono } }
  s.put SE_STATUS_DRBG_READY 1

/-- The DRBG reseeded with 256 bits of entropy input. -/
def State.reseed (s : State) : State :=
  State.bump (State.draw { s with keys := { s.keys with
    drbg := s.keys.drbg.map (drbgReseed (Config.entropy s.free)), requests := 0, reseedAt := s.time.mono } }) (whole SE_RESEED)

/-- DRBG_RESEED: after 65,536 requests or 60 s. -/
def State.reseedDue (s : State) : State :=
  if s.flag SE_STATUS_DRBG_READY ∧ (65536 ≤ s.keys.requests ∨ s.keys.reseedAt + 60000000000 ≤ s.time.mono) then s.reseed else s

/-- DRBG_RESEED. -/
def execDrbgReseed (s : State) : Host.Outcome State Fault Refusal := onCore .drbgReseed s State.reseedDue

/-- A health test fails: the DRBG is uninstantiated until the next class C or P reset, and signatures are deterministic (R342). -/
def State.entropyFail (s : State) : State :=
  let s := (s.count (seCnt 3)).put SE_STATUS_ES_FAIL 1
  let s := (s.put SE_STATUS_DRBG_READY 0).put SE_STATUS_DETERMINISTIC 1
  State.raise { s with keys := { s.keys with drbg := none } } EV_SE_ENTROPY_FAIL sevCritical

/-- ENTROPY_FAIL. -/
def execEntropyFail (s : State) : Host.Outcome State Fault Refusal := onCore .entropyFail s State.entropyFail

/-! ### Writes to slots (R339 to R341, R347) -/

/-- The public key or the certificate of a slot's key (R339, R347), and the state after. -/
def State.publicOf (s : State) (k : Nat) : List Byte × State :=
  if s.keyUsage k = 3 then s.ledgerCertificate k
  else if s.keyAlg k = 4 ∨ s.keyAlg k = 5 then (slhPublic (s.keyAlg k) (s.keyOf k), s)
  else ([], s)

/-- The public key that a slot of an ALG verifies under. -/
def verifyKey (alg v : Nat) : List Byte := if alg = 4 ∨ alg = 5 then slhPublic alg v else beBytes (keyBytes alg) v

/-- Bytes PUB_LEN must hold. -/
def publicSize (alg usage : Nat) : Nat := if usage = 3 then 16896 else if alg = 4 then 32 else if alg = 5 then 48 else 0

/-- Random bytes that a key of an ALG takes: the three seeds of a private SLH-DSA key, or the key itself. -/
def randomBytes (alg : Nat) : Nat := if alg = 4 ∨ alg = 5 then keyBytes alg / 4 * 3 else keyBytes alg

/-- A key of an ALG from its random bytes: the root of a private SLH-DSA key is computed (R332, R342). -/
def generatedKey (alg v : Nat) : Nat := if alg = 4 ∨ alg = 5 then slhKeygen alg v else beNat (beBytes (keyBytes alg) v)

/-- A generated key committed: the DRBG reseeded, the key drawn and written, its public part delivered. -/
def State.generateInto (s : State) (k alg usage dest pubDst : Nat) : State × Nat :=
  let (v, s) := s.reseed.random (randomBytes alg)
  let (pub, s) := (s.keyWrite k alg usage dest (generatedKey alg v)).publicOf k
  (if pub.isEmpty then s else s.emit (.hostWrite pubDst pub), pub.length)

/-- Why KEY_GENERATE does not act on the slot as it stands (R334, R335, R339). -/
def State.generateBad (s : State) (k alg : Nat) : Bool :=
  decide (k ≤ 1) || s.inService k || (if alg = 0 then s.keyAlg k == 0 else s.keyAlg k != 0 || !s.flag SE_STATUS_DRBG_READY)

/-- KEY_GENERATE applied: status, RES0 and RES1 with the state after. A commit that HOLDUP forestalls does not happen, and the alternate
cell is erased (R337). -/
def State.generateRun (s : State) (k alg usage dest pubDst : Nat) : State × Nat × Nat × Nat :=
  if s.generateBad k alg then (s, stState, 0, 0)
  else if s.holdup then (s.eraseAlternate k, stNotCommitted, 0, 0)
  else if alg = 0 then
    let s := (s.when (s.flag SE_STATUS_DRBG_READY) State.reseed).keyWrite k 0 0 0 0
    (s, stOk, s.keyGen k, 0)
  else
    let (s, n) := s.generateInto k alg usage dest pubDst
    (s, stOk, s.keyGen k, n)

/-- A slot that blobs may be wrapped under (R333). -/
def State.wrapSlot (s : State) (k : Nat) : Bool := s.keyAlg k == 2 && s.keyUsage k == 7 && s.admits k 1

/-- Why a wrapped blob is refused, in the order of R340: its status and DETAIL; 0xffff stands for a fault in the blob. -/
def State.blobBad (s : State) (k wrap : Nat) (b : KeyBlob) : Option (Nat × Nat) :=
  let row := keyRow b.alg b.usage b.dest
  let aad := leBytes 4 0x574b5a4b ++ leBytes 1 b.version ++ leBytes 1 b.alg ++ leBytes 1 b.usage ++ leBytes 1 b.slot ++ leBytes 2 b.dest ++
    leBytes 2 b.klen ++ leBytes 4 b.targetGen ++ leBytes 8 b.deviceId ++ leBytes 12 b.iv
  if b.readFailed then some (stIntegrity, 0)
  else if ¬ s.wrapSlot wrap then some (stRange, 25)
  else if b.ct.length ≠ b.klen then some (stRange, 28)
  else if ¬ b.magicOk ∨ b.version ≠ 1 ∨ b.klen ≠ keyBytes b.alg ∨ ¬ ((row.map (·.canImport)).getD false) ∨ b.slot ≠ k then some (stRange, 0xffff)
  else if b.deviceId ≠ s.pair GL_SERIAL_LO GL_SERIAL_HI then some (stAuth, 0)
  else if gcmTag 32 (s.keyOf wrap) b.iv aad b.ct ≠ b.tag then some (stAuth, 1)
  else if b.targetGen ≠ (s.keyGen k + 1) % 2 ^ 32 then some (stState, 0xffff) else none

/-- A blob's key written. -/
def State.blobInto (s : State) (k wrap : Nat) (b : KeyBlob) : State × Nat × Nat × Nat × Nat :=
  match s.blobBad k wrap b with
  | some (st, d) => (s.when (st == stAuth && d == 1) fun s => s.count (seCnt 2), st, if st = stAuth then 0 else d, 0, 0)
  | none =>
    if s.holdup then (s.eraseAlternate k, stNotCommitted, 0, 0, 0)
    else
      let s := s.keyWrite k b.alg b.usage b.dest (beNat (gcmStream 32 (s.keyOf wrap) b.iv b.ct))
      (s, stOk, 0, s.keyGen k, 0)

/-- Why KEY_IMPORT does not act on the slot as it stands: status and DETAIL. -/
def State.importBad (s : State) (k : Nat) : Option (Nat × Nat) :=
  if k ≤ 1 ∨ s.inService k ∨ s.keyAlg k ≠ 0 then some (stState, 24) else none

/-- KEY_IMPORT applied: status, DETAIL, RES0, RES1 with the state after. -/
def State.importRun (s : State) (k wrap : Nat) (b : KeyBlob) : State × Nat × Nat × Nat × Nat :=
  match s.importBad k with
  | some (st, d) => (s, st, d, 0, 0)
  | none => s.blobInto k wrap b

/-- Why KEY_UPDATE does not act on the slot as it stands (R334, R335, R341; R308 for PUB_LEN). -/
def State.updateBad (s : State) (k wrap pubLen : Nat) : Option (Nat × Nat) :=
  if k = 0 ∨ (k = 1 ∧ wrap ≠ 1) ∨ s.inService k ∨ s.keyAlg k = 0 then some (stState, 24)
  else if wrap ≠ 0xff then none
  else if ¬ ((keyRow (s.keyAlg k) (s.keyUsage k) (s.keyDest k)).map (·.generate)).getD false then some (stRange, 24)
  else if pubLen < publicSize (s.keyAlg k) (s.keyUsage k) then some (stRange, 48)
  else if ¬ s.flag SE_STATUS_DRBG_READY then some (stState, 0) else none

/-- KEY_UPDATE applied: from a blob, or with WRAP_SLOT 0xff generated under the slot's own attributes (R341). -/
def State.updateRun (s : State) (k wrap : Nat) (b : KeyBlob) (pubDst pubLen : Nat) : State × Nat × Nat × Nat × Nat :=
  match s.updateBad k wrap pubLen with
  | some (st, d) => (s, st, d, 0, 0)
  | none =>
    if wrap ≠ 0xff then s.blobInto k wrap b
    else if s.holdup then (s.eraseAlternate k, stNotCommitted, 0, 0, 0)
    else
      let (t, n) := s.generateInto k (s.keyAlg k) (s.keyUsage k) (s.keyDest k) pubDst
      (t, stOk, 0, t.keyGen k, n)

/-- A field of KEY_GENERATE out of range (R332). -/
def generateField (k alg usage dest : Nat) : Option Nat :=
  if 255 < k then some 24 else if 7 < alg then some 25 else if 8 < usage then some 26 else if 63 < dest then some 28
  else if alg = 0 then (if usage ≠ 0 then some 26 else if dest ≠ 0 then some 28 else none)
  else if ((keyRow alg usage dest).map (·.generate)).getD false then none else some 25

/-- KEY_GENERATE: an erase, or a key of one step, is applied at once when its slot is free; a longer one, or one that must wait for
its slot or for a ledger signature, runs in steps. -/
def execKeyGenerate (h : CmdHeader) (slot alg usage dest pubDst pubLen : Nat) (s : State) : Host.Outcome State Fault Refusal :=
  onCore (.keyGenerate h slot alg usage dest pubDst pubLen) s fun s =>
    let kind : JobKind := .keyGenerate slot alg usage dest pubDst
    s.command h 0x50 (generateField slot alg usage dest) (if pubLen < publicSize alg usage then some 40 else none) fun s =>
      if s.slotBusy slot ∨ ¬ s.dmaOn then s.startSlotJob h 0x50 kind (generateSteps alg usage)
      else if s.generateBad slot alg then s.finish h 0x50 stState 24
      else if generateSteps alg usage = 1 ∧ ¬ s.ledgerBars kind then
        let (s, st, r0, r1) := s.generateRun slot alg usage dest pubDst
        s.finish h 0x50 st (if st = stState then 24 else 0) r0 r1
      else s.startSlotJob h 0x50 kind (generateSteps alg usage)

/-- A WRAP_SLOT that cannot unwrap, so far as it is known at arrival (R333, R338). -/
def State.wrapField (s : State) (wrap : Nat) : Bool := decide (255 < wrap) || (!s.slotWritten wrap && !s.wrapSlot wrap)

/-- KEY_IMPORT: one step, at once when its slots are free. -/
def execKeyImport (h : CmdHeader) (slot wrapSlot : Nat) (blob : KeyBlob) (s : State) : Host.Outcome State Fault Refusal :=
  onCore (.keyImport h slot wrapSlot blob) s fun s =>
    s.command h 0x51 (if 255 < slot then some 24 else if s.wrapField wrapSlot then some 25 else none) none fun s =>
      if s.slotBusy slot ∨ s.slotWritten wrapSlot ∨ ¬ s.dmaOn then s.startSlotJob h 0x51 (.keyImport slot wrapSlot blob) 1
      else
        let (s, st, d, r0, r1) := s.importRun slot wrapSlot blob
        s.finish h 0x51 st d r0 r1

/-- The steps of a KEY_UPDATE on its slot as it stands. -/
def State.updateSteps (s : State) (slot wrap : Nat) : Nat := if wrap = 0xff then generateSteps (s.keyAlg slot) (s.keyUsage slot) else 1

/-- KEY_UPDATE: as KEY_IMPORT, or as KEY_GENERATE with WRAP_SLOT 0xff. -/
def execKeyUpdate (h : CmdHeader) (slot wrapSlot : Nat) (blob : KeyBlob) (pubDst pubLen : Nat) (s : State) : Host.Outcome State Fault Refusal :=
  onCore (.keyUpdate h slot wrapSlot blob pubDst pubLen) s fun s =>
    let kind : JobKind := .keyUpdate slot wrapSlot blob pubDst pubLen
    let steps := s.updateSteps slot wrapSlot
    s.command h 0x52 (if 255 < slot then some 24 else if wrapSlot ≠ 0xff ∧ s.wrapField wrapSlot then some 25 else none)
      (if wrapSlot = 0xff ∧ ¬ s.slotWritten slot ∧ pubLen < publicSize (s.keyAlg slot) (s.keyUsage slot) then some 48 else none) fun s =>
        if s.slotBusy slot ∨ (wrapSlot ≠ 0xff ∧ s.slotWritten wrapSlot) ∨ steps ≠ 1 ∨ s.ledgerBars kind ∨ ¬ s.dmaOn then
          s.startSlotJob h 0x52 kind steps
        else
          let (s, st, d, r0, r1) := s.updateRun slot wrapSlot blob pubDst pubLen
          s.finish h 0x52 st d r0 r1

/-! ### Attestation (R344, R345) -/

/-- The image that runs from a firmware slot. -/
def State.firmware (s : State) (k : Nat) : Option Image := s.fw.slots.getD k none

/-- The digest and the configuration format of the running firmware, and the digest of the active customer image. -/
def State.fwDigest (s : State) : Nat := ((s.firmware s.fw.slot).map imgDigest).getD (Config.factoryDigest s.fw.slot)
@[inherit_doc State.fwDigest] def State.fwFormat (s : State) : Nat := ((s.firmware s.fw.slot).map imgFormat).getD Config.factoryFormat
@[inherit_doc State.fwDigest] def State.custDigest (s : State) : Nat :=
  ((s.fw.bank.bind fun b => s.fw.banks.getD b none).map imgDigest).getD 0

/-- MCFG_DIGEST over every lane's digest, ME_G_CFG and the pulse outputs. -/
def State.mcfgAll (s : State) : Nat :=
  sha256 (((List.range 256).flatMap fun n => beBytes 32 (s.mcfgDigest n)) ++ leBytes 4 (s.word ME_G_CFG) ++
    (List.range 8).flatMap fun p => leBytes 4 (s.word (PO_CFG p)) ++ leBytes 4 (s.word (PO_CONST p)))

/-- Bytes 0 to 191 of a quote. -/
def State.quote (s : State) (slot flags challenge : Nat) : List Byte :=
  let body := leBytes 4 0x51415a4b ++ leBytes 2 1 ++ leBytes 1 (flags % 2 + 2 * bit (!s.flag SE_STATUS_DRBG_READY)) ++ leBytes 1 slot ++
    leBytes 16 challenge ++ leBytes 8 (s.pair GL_SERIAL_LO GL_SERIAL_HI) ++ beBytes 32 s.fwDigest ++ beBytes 32 s.custDigest ++
    beBytes 32 s.mcfgAll ++ leBytes 4 (s.word LA_SEAL) ++ leBytes 4 (s.get LA_COUNT_USED) ++ stampBytes s.now ++
    leBytes 4 (s.keyGen slot) ++ leBytes 4 (s.word GL_FW_VER) ++ leBytes 1 (s.get ME_G_STATUS_MODE) ++ leBytes 1 (s.get CW_STATUS_ROLE) ++ leBytes 2 0
  body ++ beBytes 32 (hmacSha256 (s.keyOf slot) body)

/-- The slot an ATTEST may name (R333). -/
def State.attestSlot (s : State) (k : Nat) : Bool := s.keyAlg k == 3 && s.keyUsage k == 6 && s.admits k 5

/-- ATTEST: an HMAC quote is one step; a signed one adds a signature by slot 0. -/
def execAttest (h : CmdHeader) (slot flags dst dstLen challenge : Nat) (s : State) : Host.Outcome State Fault Refusal :=
  onCore (.attest h slot flags dst dstLen challenge) s fun s =>
    s.command h 0x53 (if 255 < slot ∨ (¬ s.slotWritten slot ∧ ¬ s.attestSlot slot) then some 24 else if 1 < flags then some 25 else none)
      (if dstLen < (if flags = 1 then 16416 else 192) then some 40 else none) fun s =>
        if s.slotBusy slot ∨ flags = 1 ∨ ¬ s.dmaOn then
          s.startSlotJob h 0x53 (.attest slot flags dst challenge none) (1 + (if flags = 1 then signSteps 5 192 else 0))
        else
          let q := s.quote slot flags challenge
          (s.emit (.hostWrite dst q)).finish h 0x53 stOk 0 192 (s.word LA_SEAL)

/-! ### SIGN and VERIFY (R342, R343) -/

/-- The signature size of an ALG. -/
def signatureSize (alg : Nat) : Nat := if alg = 4 ∨ alg = 7 then 17088 else 16224

/-- The slots SIGN and VERIFY may name. -/
def State.signSlot (s : State) (k : Nat) : Bool := (s.keyAlg k == 4 || s.keyAlg k == 5) && s.keyUsage k == 1 && s.admits k 2
@[inherit_doc State.signSlot] def State.verifySlot (s : State) (k : Nat) : Bool := (s.keyAlg k == 6 || s.keyAlg k == 7) && s.keyUsage k == 1 && s.admits k 2

/-- SIGN. -/
def execSign (h : CmdHeader) (slot : Nat) (message : List Byte) (dst dstLen : Nat) (s : State) : Host.Outcome State Fault Refusal :=
  onCore (.sign h slot message dst dstLen) s fun s =>
    s.command h 0x54 (if 255 < slot ∨ (slot ≠ 0 ∧ ¬ s.slotWritten slot ∧ ¬ s.signSlot slot) then some 24 else if message.length = 0 ∨ 16777216 < message.length then some 28 else none)
      (if slot ≠ 0 ∧ ¬ s.slotWritten slot ∧ dstLen < signatureSize (s.keyAlg slot) then some 48 else none) fun s =>
        if slot = 0 then s.finish h 0x54 stState 24
        else s.startSlotJob h 0x54 (.sign slot none dst dstLen message) (signSteps (s.keyAlg slot) message.length)

/-- VERIFY. -/
def execVerify (h : CmdHeader) (slot : Nat) (message sig : List Byte) (s : State) : Host.Outcome State Fault Refusal :=
  onCore (.verify h slot message sig) s fun s =>
    s.command h 0x55 (if 255 < slot ∨ (¬ s.slotWritten slot ∧ ¬ s.verifySlot slot) then some 24 else none) none fun s =>
      s.startSlotJob h 0x55 (.verify slot none message sig) (1 + hashSteps message.length)

/-! ### Steps of key jobs -/

/-- Why a key job ends at its first step: its slot as it stands then does not admit it (R333, R338). -/
def State.loadBad (s : State) (k : JobKind) : Option (Nat × Nat) :=
  match k with
  | .keyGenerate slot alg _ _ _ => if s.generateBad slot alg then some (stState, 24) else none
  | .keyImport slot _ _ => s.importBad slot
  | .keyUpdate slot wrap _ _ pubLen => s.updateBad slot wrap pubLen
  | .attest slot _ _ _ _ => if s.attestSlot slot then none else some (stRange, 24)
  | .sign slot _ _ dstLen _ =>
    if ¬ s.signSlot slot then some (stRange, 24) else if dstLen < signatureSize (s.keyAlg slot) then some (stRange, 48) else none
  | .verify slot _ _ _ => if s.verifySlot slot then none else some (stRange, 24)
  | _ => none

/-- What the first step of a key job takes: the key it will use to its end, or the quote (R338, R344); and the steps it has. -/
def State.loadJob (s : State) (j : Job) : Job :=
  match j.kind with
  | .sign slot none dst n m => { j with kind := .sign slot (some (s.keyAlg slot, s.keyOf slot)) dst n m, all := signSteps (s.keyAlg slot) m.length }
  | .verify slot none m sig => { j with kind := .verify slot (some (s.keyAlg slot, s.keyOf slot)) m sig }
  | .attest slot flags dst ch none => { j with kind := .attest slot flags dst ch (some (s.quote slot flags ch)) }
  | .keyUpdate slot wrap _ _ _ => { j with all := s.updateSteps slot wrap }
  | _ => j

/-- The last step of a key job. -/
def State.endKeyJob (s : State) (j : Job) : State :=
  match j.kind with
  | .keyGenerate k alg usage dest pubDst =>
    let (s, st, r0, r1) := s.generateRun k alg usage dest pubDst
    s.endJob j st (if st = stState then 24 else 0) r0 r1
  | .keyImport k wrap blob =>
    let (s, st, d, r0, r1) := s.importRun k wrap blob
    s.endJob j st d r0 r1
  | .keyUpdate k wrap blob pubDst pubLen =>
    let (s, st, d, r0, r1) := s.updateRun k wrap blob pubDst pubLen
    s.endJob j st d r0 r1
  | .attest _ flags dst _ quote =>
    let q := quote.getD []
    let (sig, s) := if flags = 1 then s.slhSignature 5 (s.keyOf 0) q else ([], s)
    (s.emit (.hostWrite dst (q ++ sig))).endJob j stOk 0 (192 + (if flags = 1 then 16224 else 0)) (leNat ((q.drop 128).take 4))
  | .sign _ key dst _ message =>
    let (alg, v) := key.getD (0, 0)
    let (sig, s) := s.slhSignature alg v message
    (s.emit (.hostWrite dst sig)).endJob j stOk 0 (signatureSize alg)
  | .verify _ key message sig =>
    let (alg, v) := key.getD (0, 0)
    if sig.length = signatureSize alg ∧ slhVerify alg (verifyKey alg v) message sig then s.endJob j stOk
    else (s.count (seCnt 1)).endJob j stAuth
  | _ => s

/-! ### Power-up (R337, R346, R349) -/

/-- A cell that holds nothing: erased or never written. -/
def KeyCell.blank (c : KeyCell) : Bool := c == {}

/-- What the resolution of a slot finds: the slot after, whether a cell failed or the generations were too far apart, and whether
the slot is lost. -/
def KeySlot.resolve (v : KeySlot) : KeySlot × Bool × Bool :=
  let useA : KeySlot := { v with b := {}, second := false }
  let useB : KeySlot := { v with a := {}, second := true }
  let lost : KeySlot := { a := KeyCell.seal {} }
  let same : Bool := v.a.value == v.b.value && v.a.attr == v.b.attr
  if v.a.ok ∧ v.b.ok then
    if v.a.gen = v.b.gen then (if same then (useA, false, false) else (lost, false, true))
    else if v.a.gen = (v.b.gen + 1) % 2 ^ 32 then (useA, false, false)
    else if v.b.gen = (v.a.gen + 1) % 2 ^ 32 then (useB, false, false)
    else if (v.a.gen + 2 ^ 32 - v.b.gen) % 2 ^ 32 < 2 ^ 31 then (useA, true, false)
    else (useB, true, false)
  else if v.a.ok then (useA, !v.b.blank, false)
  else if v.b.ok then (useB, !v.a.blank, false)
  else (lost, false, true)

/-- Every slot resolved. One that has never been written since manufacture stands as it left the factory, its one cell sealed. -/
def State.resolveKeys (s : State) : State :=
  let s := s.forEach 256 fun k s =>
    match Store.get (fun _ => none) s.keys.slots k with
    | none => s.showSlot k (factorySlot k)
    | some v =>
      let (v, cut, lost) := v.resolve
      let s := s.setSlot k v
      let s := if cut then (s.put (KS_SLOT_STAT_CUT k) 1).raise EV_KS_UPDATE_CUT sevWarning k k else s
      if lost then (s.put (KS_SLOT_STAT_LOST k) 1).raise EV_KS_SLOT_LOST sevCritical k k else s
  s.put KS_STATUS_READY 1

/-- Keys at power-up: resolution, the DRBG instantiated, the chain checked. -/
def State.keysPowerUp (s : State) : State :=
  let s := s.resolveKeys.instantiate
  if s.chainGood then s else (s.put KS_STATUS_CERT_BAD 1).raise EV_KS_CERT_BAD sevMajor

/-- IN_SERVICE of every slot brought up to date. -/
def State.showServices (s : State) : State := s.forEach 256 fun k s => s.showService k

end Sys2Proof.Machine
end

