-- ==== Sys2Proof/Machine/Roles.lean ====
section
/-!
DEFINITION. The roles of a pair (14, R351, R352, R377), the request for a class W reset (01, R34, R35, R413), and the refusal rules
and effects of the GL, CW, FU and IG registers.
-/

namespace Sys2Proof.Machine

/-- The counters of the causeway link. -/
def cwCnt (i : Nat) : Cnt := ⟨CW_CNT i, ⟨CW_SAT, i, i⟩, EV_CW_CNT_SAT, i, i⟩

/-- The role codes of CW_STATUS. -/
abbrev roleSolo : Nat := 0
@[inherit_doc roleSolo] abbrev rolePrimary : Nat := 1
@[inherit_doc roleSolo] abbrev roleStandby : Nat := 2
@[inherit_doc roleSolo] abbrev roleCold : Nat := 3
@[inherit_doc roleSolo] abbrev syNone : Nat := 0
@[inherit_doc roleSolo] abbrev syResync : Nat := 1
@[inherit_doc roleSolo] abbrev syIn : Nat := 2
@[inherit_doc roleSolo] abbrev syLost : Nat := 3

/-- The pair role. -/
def State.role (s : State) : Nat := s.get CW_STATUS_ROLE

/-- What a unit that becomes a cold standby leaves idle (R202, R416): blocks in progress are booked as partial ones, lanes go DOWN,
alignment stands still, watchers and captures are idle. DESIGN CHOICE (log 191) for blocks, lanes and alignment. -/
def State.coldIdle (s : State) : State := (((s.cutBlocks.lanesWarm).alignPause).detectCold).captureIdle

/-- A change of role (R352, R379, R418): its stamp, the event, source 220, and what only a serving unit drives. -/
def State.setRole (s : State) (role sev : Nat) : State :=
  let s := s.put CW_STATUS_ROLE role
  let s := { s with pair_ := { s.pair_ with since := s.now } }
  let s := s.setPair CW_ROLE_SINCE_LO CW_ROLE_SINCE_HI (s.time.tai / 1000000000)
  let s := (s.raise EV_CW_ROLE_CHANGE sev).fire 220
  let s := if s.drives then s else s.pulsesHold
  let s := if s.cold then s.coldIdle else s
  s.modeConds.showDriven.refreshPins

/-- The causeway slot holds ALG 2 with USAGE CAUSEWAY (R352). -/
def State.causewayKey (s : State) (k : Nat) : Bool := s.keyAlg k == 2 && s.keyUsage k == 5

/-- Why a write to a GL, CW, FU or PW register is refused, beside the ranges of its fields. -/
def roleGuard (s : State) (base : Nat) (ix : List Nat) (w : Word) : Option Nat :=
  match base, ix with
  | 0x1c, _ =>
    if w.field 31 16 ≠ 0x5a17 ∨ w.field 0 0 = 0 then some reasonRange
    else if ¬ s.flag GL_STATUS_BOOT_DONE ∨ s.holdup ∨ s.flag FU_STATUS_SWITCHING then some reasonState else none
  | 0x3d0000, _ =>
    if s.flag CW_CFG_PAIR_EN then
      if w.field 15 8 ≠ s.get CW_CFG_KEY_SLOT then some reasonState
      else if w.field 0 0 = 0 ∧ s.role = rolePrimary ∧ s.flag CW_STATUS_PARTNER then some reasonState else none
    else if w.field 0 0 = 1 ∧ (s.pair CW_PAIR_ID_LO CW_PAIR_ID_HI = 0 ∨ ¬ s.causewayKey (w.field 15 8)) then some reasonState else none
  | 0x3d0004, _ => if s.flag CW_CFG_PAIR_EN ∧ w ≠ s.reg CW_PAIR_ID_LO then some reasonState else none
  | 0x3d0008, _ => if s.flag CW_CFG_PAIR_EN ∧ w ≠ s.reg CW_PAIR_ID_HI then some reasonState else none
  | 0x3e0008, _ => if w.field 14 13 = 2 then some reasonRange else none
  | _, _ => none

/-- A class W reset is requested (R35, R413): the blocks in progress are booked as partial ones and the registers saved with
CAUSE 2. A request during one of equal or higher class is ignored (R414). While the boot ROM waits for an image (R410) there is no
core record to save. -/
def State.requestWarm (s : State) (cause : Nat) : State :=
  if s.power.pendingReset.isSome ∨ (s.power.phase ≠ .running ∧ ¬ s.power.bootHeld) then s
  else
    let s := if s.power.bootHeld then s else (s.cutBlocks.abandonSaves).snapshot 2
    { s with power := { s.power with pendingReset := some .w, warmCause := cause } }

/-- The fault table's entries open (R401). -/
def State.showOpen (s : State) : State :=
  s.put IG_STATUS_OPEN ((List.range 32).filter fun i => s.flag (IG_FAULT_OPEN i)).length

/-- What an accepted write to those registers does beside storing its fields. -/
def roleEffect (base : Nat) (ix : List Nat) (old w : Word) (s : State) : State :=
  match base, ix with
  | 0x1c, _ => s.requestWarm 3
  | 0x3d0000, _ =>
    if old.field 0 0 = 0 ∧ w.field 0 0 = 1 then
      if s.role = roleSolo then
        State.setRole { s with pair_ := { s.pair_ with keepAt := s.time.mono, healthAt := s.time.mono } } rolePrimary sevNotice
      else s
    else if old.field 0 0 = 1 ∧ w.field 0 0 = 0 then
      if s.role = rolePrimary then (s.put CW_STATUS_SYNC syNone).setRole roleSolo sevNotice
      else if s.role = roleSolo then s else s.syncLost
    else s
  | 0x3d0018, _ => s.put CW_LAG_MAX 0
  | 0x3f0100, _ => s.showOpen
  | _, _ => s

end Sys2Proof.Machine
end

