-- ==== Sys2Proof/Machine/Sched.lean ====
section
/-!
DEFINITION. Cores, scheduler, deadline monitors and the operating point's own events (12, R317 to R329; R24, R26).
-/

namespace Sys2Proof.Machine

/-! ### What software on a core reads of it (R316) -/

/-- misa of every core: MXL 2, and the extensions I, M, A, F, D and C with user mode (U). -/
def misa : Nat := 2 * 2 ^ 62 + 2 ^ 0 + 2 ^ 2 + 2 ^ 3 + 2 ^ 5 + 2 ^ 8 + 2 ^ 12 + 2 ^ 20

/-- mhartid of a core: its index. -/
def mhartid (c : Nat) : Nat := c

/-- The time CSR: the monotonic count in units of 8 ns, which no time step alters (R37). -/
def State.timeCsr (s : State) : Nat := s.time.mono / 8

/-! ### Refusal rules and effects of the SC and DL registers -/

/-- The timer settings a write would leave are in range (R325): PHASE below PERIOD, and a TAI timer's PERIOD at most 10⁶. -/
def timerOk (base period phase : Nat) : Bool := decide (phase < period) && (base == 0 || decide (period ≤ 1000000))

/-- Why the scheduler refuses a register write, if it does (R317, R318, R320, R324, R325, R328). -/
def schedGuard (s : State) (base : Nat) (ix : List Nat) (w : Word) : Option Nat :=
  match base, ix with
  | 0x3a0000, [t] =>
    let core := w.field 4 2
    if (t < 256 ∧ 3 < core) ∨ (256 ≤ t ∧ core < 4) then some reasonRange
    else if s.flag (SC_THR_CFG_EN t) ∧ ¬ (w.field 4 2 = s.get (SC_THR_CFG_CORE t) ∧ w.field 13 8 = s.get (SC_THR_CFG_PRIO t) ∧
      w.field 1 1 = s.get (SC_THR_CFG_DISPATCH t)) then some reasonState
    else none
  | 0x3a0008, [t] => if w.field 0 0 = 1 ∧ s.word (SC_THR_MASK t) = 0 then some reasonRange else none
  | 0x3a4000, [_] =>
    if 255 < w.field 8 0 then some reasonRange
    else if w.field 31 31 = 1 ∧ w.field 24 16 < 256 then some reasonRange else none
  | 0x3a5000, [c] =>
    if c < 4 ∧ w.field 0 0 = 0 then some reasonRange
    else if 4 ≤ c ∧ w.field 0 0 = 1 ∧ ¬ s.sched.customerImage then some reasonState else none
  | 0x3a6000, [i] => if timerOk (w.field 1 1) (s.get (SC_TMR_PERIOD_PERIOD i)) (s.get (SC_TMR_PHASE_PHASE i)) then none else some reasonRange
  | 0x3a6004, [i] => if timerOk (s.get (SC_TMR_CFG_BASE i)) (w.field 23 0) (s.get (SC_TMR_PHASE_PHASE i)) then none else some reasonRange
  | 0x3a6008, [i] => if timerOk (s.get (SC_TMR_CFG_BASE i)) (s.get (SC_TMR_PERIOD_PERIOD i)) (w.field 23 0) then none else some reasonRange
  | 0x3b0000, [m] => 
    if m < 64 then some reasonState
    else if (96 ≤ m ∧ w.field 10 2 < 256) ∨ (w.field 0 0 = 1 ∧ w.field 1 1 = 1 ∧ s.get (DL_PERIOD_PERIOD m) = 0) then some reasonRange else none
  | 0x3b0004, [m] => if s.get (DL_CFG_MODE m) = 1 ∧ (w.field 23 0 = 0 ∨ 16000000 < w.field 23 0) then some reasonRange else none
  | 0x3b0008, [m] => if m < 64 then some reasonState else if 96 ≤ m ∧ s.get (DL_CFG_THREAD m) < 256 then some reasonState else none
  | 0x3b0010, [m] => if m < 64 then none else if 96 ≤ m ∧ s.get (DL_CFG_THREAD m) < 256 then some reasonState else none
  | _, _ => none

/-- A thread taken off its ready list. -/
def State.unready (s : State) (t : Nat) : State := { s with sched := { s.sched with ready := s.sched.ready.filter (· != t) } }

/-- A thread's wait begun (R319 to R321): met at once it is consumed and the thread runs on; else the thread leaves its core
and waits. A wait by a thread that is not RUNNING has no transition in R319 and changes nothing (log 11). -/
def State.beginWait (s : State) (t : Nat) (andMode consume : Bool) : State :=
  if s.get (SC_THR_STAT_STATE t) ≠ thrRunning then s
  else
    let w : ThreadWait := ⟨s.word (SC_THR_MASK t), andMode, consume⟩
    if w.met (s.word (SC_THR_FLAGS t)) then s.setWord (SC_THR_FLAGS t) (w.leave (s.word (SC_THR_FLAGS t)))
    else
      let c := s.get (SC_THR_CFG_CORE t)
      let s := { s with sched := { s.sched with waits := Store.set (fun _ => none) s.sched.waits t (some w) } }
      let s := s.put (SC_THR_STAT_STATE t) thrWaiting
      s.when (s.get (SC_CORE_STAT_CUR c) == t) fun s => s.put (SC_CORE_STAT_CUR_VALID c) 0

/-- The next instant of a TAI timer after a TAI time (R325): whole second + PHASE + m·PERIOD µs, before the next second. -/
def taiTimerNext (tai period phase : Nat) : Nat :=
  let sec := tai / 1000000000
  let us := tai % 1000000000 / 1000
  let k := if us < phase then phase else phase + ((us - phase) / period + 1) * period
  if k < 1000000 then sec * 1000000000 + k * 1000 else (sec + 1) * 1000000000 + phase * 1000

/-- A timer set to its next instant. -/
def State.timerSet (s : State) (i : Nat) (d : Option Nat) : State :=
  { s with sched := { s.sched with timers := Store.set (fun _ => none) s.sched.timers i d } }

/-- A timer armed by the write that sets EN (R325). -/
def State.timerArm (s : State) (i : Nat) : State :=
  if s.get (SC_TMR_CFG_BASE i) = 0 then s.timerSet i (some (s.time.mono + s.get (SC_TMR_PERIOD_PERIOD i) * 1000))
  else s.timerSet i (some (taiTimerNext s.time.tai (s.get (SC_TMR_PERIOD_PERIOD i)) (s.get (SC_TMR_PHASE_PHASE i))))

/-- A thread monitor armed at a due time, replacing the one it held (R328). -/
def State.monitorArm (s : State) (m due : Nat) : State :=
  let s := { s with sched := { s.sched with dues := Store.set (fun _ => []) s.sched.dues m [due], missed := s.sched.missed.filter (· != m) } }
  let s := s.setPair (DL_DUE_LO m) (DL_DUE_HI m) (due / 1000)
  (s.put (DL_STAT_ARMED m) 1).put (DL_STAT_OUTSTANDING m) 1

/-- A thread monitor disarmed. -/
def State.monitorDisarm (s : State) (m : Nat) : State :=
  let s := { s with sched := { s.sched with dues := Store.set (fun _ => []) s.sched.dues m [], missed := s.sched.missed.filter (· != m) } }
  (s.put (DL_STAT_ARMED m) 0).put (DL_STAT_OUTSTANDING m) 0

/-- A thread monitor's due time passes (R327): once for each due time, DL_MISS and the flag of its thread. -/
def State.threadMiss (s : State) (m : Nat) : State :=
  match Store.get (fun _ => []) s.sched.dues m with
  | [] => s
  | due :: _ =>
    if s.time.mono ≤ due ∨ s.sched.missed.contains m ∨ ¬ s.flag (DL_CFG_EN m) then s
    else
      let s := { s with sched := { s.sched with missed := s.sched.missed ++ [m] } }
      ((s.monitorMiss m).raise EV_DL_MISS sevMajor m m).setFlags (s.get (DL_CFG_THREAD m)) (2 ^ s.get (DL_CFG_FLAG m))

/-- A DONE received (R328): a due time passed before it has been missed first; met when not after it; one-shot disarms, periodic advances
the due time by PERIOD from the previous due time; ignored when not armed. -/
def State.monitorDone (s : State) (m : Nat) : State :=
  let s := s.threadMiss m
  match Store.get (fun _ => []) s.sched.dues m with
  | [] => s
  | due :: _ =>
    let s := s.when (decide (s.time.mono ≤ due)) fun s => s.put (DL_STAT_LAST_MISS m) 0
    if s.get (DL_CFG_MODE m) = 0 then s.monitorDisarm m else s.monitorArm m (due + s.get (DL_PERIOD_PERIOD m) * 1000)

/-- What an accepted write to an SC or DL register does beside storing its fields. A TAI timer that runs goes on with the grid that a new
PERIOD or PHASE gives (R325); a MONO timer keeps the instant it waits for and takes the new PERIOD after it (DESIGN CHOICE, log 216). -/
def schedEffect (base : Nat) (ix : List Nat) (old w : Word) (s : State) : State :=
  match base, ix with
  | 0x3a0000, [t] =>
    if old.field 0 0 = 0 ∧ w.field 0 0 = 1 then s.makeReady t
    else if old.field 0 0 = 1 ∧ w.field 0 0 = 0 then
      let s := { s with sched := { s.sched with waits := Store.set (fun _ => none) s.sched.waits t none } }
      (s.unready t).put (SC_THR_STAT_STATE t) thrDisabled
    else s
  | 0x3a0008, [t] => s.when (w.field 0 0 == 1) fun s => s.beginWait t (w.field 1 1 == 1) (w.field 2 2 == 1)
  | 0x3a000c, [t] => s.checkWait t
  | 0x3a0010, [t] =>
    let f := s.word (SC_THR_FLAGS t)
    s.setWord (SC_THR_FLAGS t) (f - (f &&& w.toNat))
  | 0x3a5000, [c] =>
    let s := s.when (4 ≤ c) fun s =>
      if w.field 0 0 = 0 then s.put (SC_CORE_STAT_STATE c) 0
      else if old.field 0 0 = 0 ∧ s.sched.customerCores.contains c then s.put (SC_CORE_STAT_STATE c) 1 else s
    let t := s.get (SC_CORE_STAT_CUR c)
    if w.field 1 1 = 1 ∧ s.flag (SC_CORE_STAT_CUR_VALID c) ∧ s.get (SC_THR_STAT_STATE t) = thrRunning then
      s.makeReady t
    else s
  | 0x3a6000, [i] =>
    if w.field 0 0 = 0 then s.timerSet i none else if old.field 0 0 = 0 ∨ old.field 1 1 ≠ w.field 1 1 then s.timerArm i else s
  | 0x3a6004, [i] | 0x3a6008, [i] => if s.flag (SC_TMR_CFG_EN i) ∧ s.get (SC_TMR_CFG_BASE i) = 1 then s.timerArm i else s
  | 0x3a7000, _ => s.forEach 32 fun i s => s.when (w.field i i == 1) fun s => s.fire (168 + i)
  | 0x3b0008, [m] => (s.threadMiss m).monitorArm m (s.time.mono + w.field 23 0 * 1000)
  | 0x3b0010, [m] => if m < 64 then s else (s.threadMiss m).monitorArm m (s.pair (DL_DUE_LO m) (DL_DUE_HI m) * 1000)
  | 0x3b0014, [m] => if m < 64 ∨ w.field 0 0 = 0 then s else s.monitorDone m
  | _, _ => s

/-! ### Claims, traps, timers, misses -/

/-- The ready thread of a core that a claim considers: highest priority, first in its list (R323). -/
def State.bestReady (s : State) (c : Nat) : Option Nat :=
  s.sched.ready.foldl (fun b t =>
    if s.get (SC_THR_CFG_CORE t) = c then
      match b with
      | none => some t
      | some u => if s.get (SC_THR_CFG_PRIO u) < s.get (SC_THR_CFG_PRIO t) then some t else b
    else b) none

/-- The current thread of a core when it is RUNNING. -/
def State.currentRunning (s : State) (c : Nat) : Option Nat :=
  let t := s.get (SC_CORE_STAT_CUR c)
  if s.flag (SC_CORE_STAT_CUR_VALID c) ∧ s.get (SC_THR_STAT_STATE t) = thrRunning then some t else none

/-- The word a claim returns. -/
def claimWord (valid same : Bool) (prio thread : Nat) : Nat := bit valid * 2 ^ 31 + bit same * 2 ^ 30 + prio * 2 ^ 10 + thread

/-- A claim for a core (R319, R323): the current thread wins a tie; a displaced one goes to the head of its level; the
pending scheduler interrupt is cleared; an empty claim is counted. The word returned and the state after. -/
def State.claim (s : State) (c : Nat) : Nat × State :=
  let s := s.put (SC_CORE_STAT_MEIP c) 0
  match s.bestReady c, s.currentRunning c with
  | none, none => (0, (s.put (SC_CORE_STAT_CUR_VALID c) 0).count (scCnt c 2))
  | none, some u => (claimWord true true (s.get (SC_THR_CFG_PRIO u)) u, s)
  | some t, none =>
    (claimWord true false (s.get (SC_THR_CFG_PRIO t)) t,
     (((s.unready t).put (SC_THR_STAT_STATE t) thrRunning).put (SC_CORE_STAT_CUR c) t).put (SC_CORE_STAT_CUR_VALID c) 1)
  | some t, some u =>
    if s.get (SC_THR_CFG_PRIO t) ≤ s.get (SC_THR_CFG_PRIO u) then (claimWord true true (s.get (SC_THR_CFG_PRIO u)) u, s)
    else
      let s' := s.unready t
      let s' := { s' with sched := { s'.sched with ready := u :: s'.sched.ready } }
      (claimWord true false (s.get (SC_THR_CFG_PRIO t)) t,
       (((s'.put (SC_THR_STAT_STATE u) thrReady).put (SC_THR_STAT_STATE t) thrRunning).put (SC_CORE_STAT_CUR c) t).put
         (SC_CORE_STAT_CUR_VALID c) 1)

/-- A read of SC_CORE_CLAIM by a master. -/
def State.claimRead (s : State) (m : Master) (c : Nat) : State :=
  if !s.answers (SC_CORE_CLAIM c) || !s.reaches m (SC_CORE_CLAIM c) then s.emit (.readData m (SC_CORE_CLAIM c) 0)
  else
    let (v, t) := s.claim c
    t.emit (.readData m (SC_CORE_CLAIM c) (BitVec.ofNat 32 v))

/-- CORE_CLAIM. -/
def execCoreClaim (m : Master) (c : Nat) (s : State) : Host.Outcome State Fault Refusal :=
  onCore (.coreClaim m c) s fun s => s.claimRead m c

/-- A held forced trap taken (R322): code 24, counted. -/
def State.preemptTrap (s : State) (c : Nat) : State :=
  if s.flag (SC_CORE_STAT_PREEMPT_HELD c) then
    ((s.put (SC_CORE_STAT_PREEMPT_HELD c) 0).count (scCnt c 0)).emit (.trap c 0x8000000000000018)
  else s

/-- PREEMPT_TRAP. -/
def execPreemptTrap (c : Nat) (s : State) : Host.Outcome State Fault Refusal :=
  onCore (.preemptTrap c) s fun s => s.preemptTrap c

/-- A timer that has reached its instant fires source 200 + i and moves to its next one (R325). -/
def State.timerFire (s : State) (i : Nat) : State :=
  match Store.get (fun _ => none) s.sched.timers i with
  | none => s
  | some d =>
    if s.get (SC_TMR_CFG_BASE i) = 0 then
      if d ≤ s.time.mono then (s.timerSet i (some (d + s.get (SC_TMR_PERIOD_PERIOD i) * 1000))).fire (200 + i) else s
    else if d ≤ s.time.tai then
      (s.timerSet i (some (taiTimerNext s.time.tai (s.get (SC_TMR_PERIOD_PERIOD i)) (s.get (SC_TMR_PHASE_PHASE i))))).fire (200 + i)
    else s

/-- SCHED_TIMER. -/
def execSchedTimer (i : Nat) (s : State) : Host.Outcome State Fault Refusal :=
  onCore (.schedTimer i) s fun s => s.timerFire i

/-- THREAD_DEADLINE_MISS. -/
def execThreadDeadlineMiss (d : Nat) (s : State) : Host.Outcome State Fault Refusal :=
  onCore (.threadDeadlineMiss d) s fun s => s.threadMiss d

/-! ### Operating point and temperature -/

/-- The ramp ends (R24, 12): the target point's limits hold, OP_SWITCH is raised, source 13 fires, and the waiting OP_SET
completes with the point before. OP_VCORE then shows a measured value, which is free (log 3). -/
def State.switchEnd (s : State) : State :=
  match s.power.switchStart with
  | none => s
  | some t0 =>
    let s := s.put OP_STATUS_POINT (s.get OP_STATUS_TARGET)
    let s := s.put OP_STATUS_SWITCHING 0
    let s := s.bump (whole OP_SWITCH_SEQ)
    let s := s.put OP_LAST_US_US (min ((s.time.mono - t0) / 1000) 2000)
    let s := (s.put OP_VCORE_MV s.drawn).draw
    let s := { s with power := { s.power with switchStart := none } }
    let s := (s.raise EV_OP_SWITCH sevNotice).fire 13
    match s.host.jobs.find? fun j => j.opcode == 0x82 with
    | some j => s.complete { tag := j.tag, sq := j.sq, opcode := 0x82, status := stOk, res0 := match j.kind with | .opSet b => b | _ => 0 }
    | none => s

/-- OP_SWITCH_END. -/
def execOpSwitchEnd (s : State) : Host.Outcome State Fault Refusal := onCore .opSwitchEnd s State.switchEnd

/-- GL_TEMP updated (R26): NOW and the highest since the class C reset, in 1/16 °C; a rise above 120 °C raises OP_THERMAL and
the point is kept. -/
def State.tempUpdate (s : State) (t : Int) : State :=
  let hot := decide (1920 < t)
  let was := s.flag OP_STATUS_THERMAL
  let s := s.put GL_TEMP_NOW (codeOf 16 t)
  let s := s.when (!s.power.tempSeen || decide (s.getS GL_TEMP_MAX < t)) fun s => s.put GL_TEMP_MAX (codeOf 16 t)
  let s := { s with power := { s.power with tempSeen := true } }
  let s := s.put OP_STATUS_THERMAL (bit hot)
  s.when (hot && !was) fun s => s.raise EV_OP_THERMAL sevWarning

/-- TEMP_UPDATE. -/
def execTempUpdate (t : Int) (s : State) : Host.Outcome State Fault Refusal :=
  onCore (.tempUpdate t) s fun s => s.tempUpdate t

/-! ### Resets (R329) -/

/-- A class W reset on the scheduler (the flags are class W registers): waits cleared, every enabled thread READY in thread order, thread
monitors disarmed, device monitors emptied, cores restarted. -/
def State.schedWarm (s : State) : State :=
  let s := { s with sched := { s.sched with ready := [], waits := [], dues := [], missed := [] } }
  let s := s.forEach 8 fun c s => ((s.put (SC_CORE_STAT_CUR_VALID c) 0).put (SC_CORE_STAT_MEIP c) 0).put (SC_CORE_STAT_PREEMPT_HELD c) 0
  let s := s.forEach 128 fun m s => (s.put (DL_STAT_ARMED m) 0).put (DL_STAT_OUTSTANDING m) 0
  s.forEach 512 fun t s =>
    if s.flag (SC_THR_CFG_EN t) then s.makeReady t else s

end Sys2Proof.Machine
end

