-- ==== Sys2Proof/Machine/Bus.lean ====
section
/-!
DEFINITION. A register write from any master, whole: width, decoding, ranges, the refusal rules of every block, the audit of RWL
registers, storing, and what the block does (00, R2, R5 to R11; 01, R21, R29; 09, R252 to R254; 16, R398); sets of writes (R309,
R411); and configuration that follows a primary (14, R360).
-/

namespace Sys2Proof.Machine

/-! ### Checks -/

/-- A write that changes the rate of a source and so takes the capture load above its limit is refused (R21, R272). -/
def captureLoadGuard (s : State) (base : Nat) (ix : List Nat) (w : Word) : Option Nat :=
  let over_ (off : Nat) : Option Nat :=
    let t := (s.setReg off w).captureLoad
    if s.get CP_G_LOAD_LOAD < t ∧ limitCapture s.point < t then some reasonLoad else none
  if base = LN_CFG 0 then over_ (LN_CFG (ix.headD 0)) else if base = FC_CFG 0 then over_ (FC_CFG (ix.headD 0)) else none

/-- A change of F_NOM that takes the watchers' samples above their limit is refused (R20, R21). -/
def watcherLoadGuard (s : State) (base : Nat) (w : Word) : Option Nat :=
  if base = PE_G_CFG ∧ limitDetect s.point < (s.setReg PE_G_CFG w).detectLoad then some reasonLoad else none

/-- Why a block refuses a write to one of its registers, if it does. -/
def State.guards (s : State) (base : Nat) (ix : List Nat) (w : Word) : Option Nat :=
  [schedGuard s base ix w, hostGuard s base ix w, netGuard s base ix w, laneGuard s base ix w, analogueGuard s base ix w,
   phasorGuard s base ix w, streamGuard s base ix w, alignGuard s base ix w, oscillationGuard s base ix w, islandGuard s base ix w,
   alarmGuard s base ix w, meterGuard s base ix w, captureGuard s base ix w, timeGuard s base ix w, captureLoadGuard s base ix w,
   watcherLoadGuard s base w, roleGuard s base ix w].findSome? id

/-- What an accepted write does beside storing its fields; each block knows its own registers. -/
def State.effects (s : State) (base : Nat) (ix : List Nat) (old w : Word) : State :=
  let s := netEffect base ix old w (hostEffect base ix old w (schedEffect base ix old w s))
  let s := phasorEffect base ix old w (analogueEffect base ix old w (laneEffect base ix old w s))
  let s := oscillationEffect base ix old w (alignEffect base ix old w (streamEffect base ix old w s))
  let s := meterEffect base ix old w (alarmEffect base ix old w (islandEffect base ix old w s))
  let s := timeEffect base ix old w (captureEffect base ix old w s)
  let s := s.when (base == LN_CFG 0 || base == FC_CFG 0) State.showCaptureLoad
  let s := s.when (base == PE_G_CFG) fun s => s.put DE_LOAD_LOAD s.detectLoad
  (roleEffect base ix old w s).when (base == 0x3d0000) fun s => (s.showService (old.field 15 8)).showService (w.field 15 8)

/-- What a refused write does beside being recorded (R117, R133, R167, R303). -/
def State.refusedEffects (s : State) (layout : Option Nat) (base : Nat) (ix : List Nat) (w : Word) : State :=
  (analogueRefused base ix w (hostRefused base ix s)).layoutShown layout

/-- A register row has an RWL field (R6). -/
def RegSpec.legal (r : RegSpec) : Bool := r.fields.any fun f => f.acc == .rwl

/-- A row holds configuration: a field that a write sets and that no reset action consumes. -/
def RegSpec.config (r : RegSpec) : Bool := r.fields.any fun f => f.acc == .rwl || f.acc == .rw

/-- Why a write to a register is refused, if it is (R5, R8, R21). A statistics counter takes any write (R10). -/
def State.checkWrite (s : State) (r : RegSpec) (ix : List Nat) (w : Word) : Option Nat :=
  if (satOf r.base ix).isSome then none
  else if r.fields.any fun f => !f.inRange w then some reasonRange
  else
    match s.guards r.base ix w with
    | some k => some k
    | none => if r.legal ∧ s.auditFull then some reasonAudit else none

/-! ### Storing -/

/-- An accepted write stored, with what it does. -/
def State.storeWrite (s : State) (r : RegSpec) (ix : List Nat) (off : Nat) (w : Word) : State :=
  match satOf r.base ix with
  | some sat => s.clearCount off sat
  | none =>
    let old := s.reg off
    (s.setReg off (r.written old w)).effects r.base ix old w

/-- The digest of a change set (R253). -/
def setDigest (ws : List (Nat × Nat)) : Nat := sha256 (ws.flatMap fun p => leBytes 8 (bar0Base + p.1) ++ leBytes 4 p.2)

/-- The lane an RWL register concerns. -/
def laneOfReg (r : RegSpec) (ix : List Nat) : Nat :=
  if (0x100000 ≤ r.base ∧ r.base < 0x140000) ∨ (0x340000 ≤ r.base ∧ r.base < 0x350000) then ix.headD 0xffff else 0xffff

/-- The audit entry of a single RWL write (R8, R253, R254). -/
def State.auditWrite (s : State) (m : Master) (r : RegSpec) (ix : List Nat) (off : Nat) (old new w : Word) : State :=
  (s.sealBy 1).auditAdd {
    type := 1, master := masterCode m, count := 1, addrFirst := bar0Base + off, addrLast := bar0Base + off, old := old.toNat,
    new := new.toNat, lane := laneOfReg r ix, digest := setDigest [(off, w.toNat)] }

/-- The audit entry of the RWL writes of a set, in their order (R253). -/
def State.auditSet (s : State) (m : Master) (ws : List (Nat × Nat)) : State :=
  match ws with
  | [] => s
  | w :: _ => (s.sealBy ws.length).auditAdd {
      type := 2, master := masterCode m, count := ws.length, addrFirst := bar0Base + w.1,
      addrLast := bar0Base + ((ws.getLast?.map (·.1)).getD w.1), digest := setDigest ws }

/-! ### Stored configuration (R382) -/

/-- An accepted host write to a configuration register outside the HI and GL blocks is stored; of CP_CTRL, whether the unit is armed. -/
def State.remember (s : State) (m : Master) (r : RegSpec) (ix : List Nat) (off : Nat) (w : Word) : State :=
  if m = .host ∧ r.base = CP_CTRL 0 then s.storeArm (ix.headD 0) (w.field 0 0 == 1) (w.field 1 1 == 1)
  else if m = .host ∧ r.config ∧ (satOf r.base ix).isNone ∧ 0x10000 ≤ off ∧ ¬ (0x390000 ≤ off ∧ off < 0x3a0000) then
    let c := s.partition
    s.setPartition { c with writes := (c.writes.filter fun e => e.1 != off) ++ [(off, w.toNat)] }
  else s

/-- An accepted write carried out: audited where the register is RWL and no set has, stored, and remembered. -/
def State.acceptWrite (s : State) (m : Master) (r : RegSpec) (ix : List Nat) (off : Nat) (w : Word) (audited : Bool) : State :=
  let old := s.reg off
  let s := s.when (r.legal && !audited) fun s => s.auditWrite m r ix off old (r.written old w) w
  (s.storeWrite r ix off w).remember m r ix off w

/-! ### Tables (R309) -/

/-- A table replaced whole, with what shows or follows it (R156, R195, R203). -/
def State.putTable (s : State) (t i : Nat) (vs : List Nat) : State :=
  let was := if t = 4 then s.owLoad i (s.reg (OW_CFG i)) else 0
  let s := { s with tables := Store.set (fun _ => []) s.tables (64 * t + i) vs }
  if t = 1 then s.osInfo i
  else if t = 3 then s.put (FS_DLV_CFG_NSLOT i) vs.length
  else if t = 4 then
    let s := s.put (OW_STATUS_NSIG i) vs.length
    s.put DE_LOAD_LOAD (s.get DE_LOAD_LOAD + s.owLoad i (s.reg (OW_CFG i)) - was)
  else s

/-- A table that the host has written: replaced, and stored (R382). -/
def State.acceptTable (s : State) (t i : Nat) (vs : List Nat) : State :=
  let c := s.partition
  (s.putTable t i vs).setPartition { c with tables := (c.tables.filter fun e => !(e.1 == t && e.2.1 == i)) ++ [(t, i, vs)] }

/-- Why a table's new entries are turned away, as a completion status, if they are (R156, R183, R195, R196, R203). -/
def State.tableBad (s : State) (t i : Nat) (vs : List Nat) : Option Nat :=
  if t = 1 then
    if s.flag (OS_CFG_EN i) then some stState
    else if vs.any fun v => v / 65536 % 256 = 0 || v / 16777216 != 0 || !s.slotCovers (v % 65536) (frameRate s.fNom (s.get (OS_CFG_RATE i))) then
      some stRange
    else none
  else if t = 2 then (if s.flag (OS_CFG_EN i) then some stState else none)
  else if t = 3 then
    if vs.any fun v => decide (8463 < v) then some stRange
    else if limitDeliver s.point < s.deliverLoad i (s.reg (FS_DLV_CFG i)) vs.length then some stRange else none
  else
    let fs := s.owRate i
    let bad (v : Nat) : Bool :=
      !s.slotCovers (v % 65536) fs || decide (7 < v / 2 ^ 16 % 256) || decide (3 < v / 2 ^ 24 % 256) ||
      !f32Finite (v / 2 ^ 32) || decide (f32ToRat (v / 2 ^ 32) ≤ 0)
    if s.flag (OW_CFG_EN i) then some stState else if vs.any bad then some stRange else none

/-! ### Configuration follows the primary (R360) -/

/-- A register whose host writes follow the primary: the blocks LN to CP, statistics counters excepted. -/
def follows (base off : Nat) (ix : List Nat) : Bool := decide (0x100000 ≤ off) && decide (off < 0x380000) && (satOf base ix).isNone

/-- A standby in RESYNC or IN_SYNC takes no such write from its host. -/
def State.followsPrimary (s : State) : Bool := s.role == roleStandby && (s.get CW_STATUS_SYNC == syResync || s.get CW_STATUS_SYNC == syIn)

/-- One waiting change applied. What the primary has audited at its acceptance, the standby audits now; with its audit log full it
refuses the change (R252). -/
def State.applyEffect (s : State) (e : ConfigEffect) : State :=
  match e.entry with
  | .config 0 _ _ off v =>
    match lookup off with
    | some (r, ix) =>
      if r.legal ∧ ¬ e.audited ∧ s.auditFull then s.refuse e.master 0 off reasonAudit else s.acceptWrite e.master r ix off v e.audited
    | none => s
  | .config t i _ _ _ => s.acceptTable t i e.values
  | .command 0x20 n effect context => s.sessionClose n effect context none
  | .command 0x21 _ _ context =>
    let mode := (context.getD 0 0).toNat
    if mode = s.get ME_G_STATUS_MODE then s
    else (s.when (!e.audited) fun s => s.modeAudit (s.get ME_G_STATUS_MODE) mode).modeTo mode
  | _ => s

/-- The state as the changes waiting for their TICK will leave it: what a further write is checked against. -/
def State.settled (s : State) : State := s.order.effects.foldl State.applyEffect { s with order := { s.order with effects := [] } }

/-- The bytes of a table's entries (R309). -/
def tableBytes (t : Nat) (vs : List Nat) : List Byte :=
  vs.flatMap fun v => leBytes (if t = 1 then 4 else if t = 2 then 1 else if t = 3 then 2 else 8) v

/-- A table kept for 200 ms with its CONFIG entry, as a FRAME_COPY carries it (R359). -/
def State.keepTable (s : State) (e : ConfigEffect) : State :=
  match e.entry with
  | .config t _ _ len v =>
    if t = 0 then s
    else
      let f : HeldFrame := { path := 0, length := len, crc := v.toNat, stamp := s.time.tai, at_ := s.time.mono, payload := tableBytes t e.values }
      { s with order := { s.order with frames := s.order.frames ++ [(s.order.next, f)] } }
  | _ => s

/-- A change logged as a CONFIG entry, to apply at the next TICK. -/
def State.deferConfig (s : State) (e : ConfigEffect) : State :=
  let s := (s.when s.orderOn fun s => s.keepTable e).orderLog e.entry
  { s with order := { s.order with effects := s.order.effects ++ [e] } }

/-- A write that has passed its checks: a host write of a primary with a partner waits for the TICK where it follows R360. -/
def State.carryOut (s : State) (m : Master) (r : RegSpec) (ix : List Nat) (off : Nat) (w : Word) (audited : Bool) : State :=
  if m = .host ∧ s.orderOn ∧ follows r.base off ix then
    let old := s.settled.reg off
    let s := s.when (r.legal && !audited) fun s => s.auditWrite m r ix off old (r.written old w) w
    s.deferConfig { entry := .config 0 0 s.nextTick off w, master := m, audited := true }
  else s.acceptWrite m r ix off w audited

/-- The state a further write or table is checked against. -/
def State.ahead (s : State) : State := if s.order.effects.isEmpty then s else s.settled

/-- Why a write is refused, if it is, R360 included. -/
def State.refusal (s : State) (m : Master) (r : RegSpec) (ix : List Nat) (off : Nat) (w : Word) : Option Nat :=
  if m = .host ∧ s.followsPrimary ∧ follows r.base off ix then some reasonState
  else s.ahead.checkWrite r ix w

/-! ### The bus -/

/-- A write that would enable a ring (R296). -/
def enablesRing (off : Nat) (w : Word) : Bool :=
  match lookup off with
  | some (r, _) => (r.base == HI_SQ_CFG 0 || r.base == HI_CQ_CFG 0 || r.base == HI_DR_CFG 0) && w.field 0 0 == 1
  | none => false

/-- A write of a register by a master; a misaligned one of a core traps (R316). Before BOOT_DONE a write that would enable a ring is
refused, as R296 says, where other writes are ignored (R409). DESIGN CHOICE (log 197): of wrong width or alignment it is refused with reason
5 even where no register answers; R2's refusal and R29's decode miss are not ordered. -/
def State.busWrite (s : State) (m : Master) (off width value : Nat) : State :=
  if coreTraps m off width then s.misTrap m true
  else if width ≠ 4 ∨ off % 4 ≠ 0 then s.refuse m 0 off reasonWidth
  else if !s.reaches m off then s
  else if !s.answers off then s.when (enablesRing off (BitVec.ofNat 32 value)) fun s => s.refuse m 0 off reasonState
  else
    match lookup off with
    | none => s.decodeMiss (bar0Base + off)
    | some (r, ix) =>
      let w : Word := BitVec.ofNat 32 value
      match s.refusal m r ix off w with
      | some k => (s.refuse m 0 off k).refusedEffects (s.ahead.layoutRefused r.base w) r.base ix w
      | none => s.carryOut m r ix off w false

/-! ### Sets of writes (R309, R411) -/

/-- Every load limit holds at an operating point (R20, R22, R109, R160, R196, R272). -/
def State.loadsFit (s : State) (p : Nat) : Bool :=
  s.withinLoad p && decide (s.laneFrames 0 (s.reg (LN_CFG 0)) (s.reg (LN_SV 0)) ≤ limitFrames p) && decide (s.osLoad ≤ limitBlocks p) &&
  decide (s.deliverLoad 8 0 0 ≤ limitDeliver p)

/-- What a set has come to: the state its entries leave, the RWL writes so far, and the first entry refused with its offset and
reason. -/
structure SetRun where
  state : State
  legal : List (Nat × Nat) := []
  bad : Option (Nat × Nat × Nat) := none
deriving DecidableEq, Repr

/-- One entry of a REG_SET tried on the state the earlier ones leave; loads are judged at the end, the audit log before. -/
def SetRun.entry (run : SetRun) (m : Master) (i : Nat) (e : Nat × Nat) : SetRun :=
  if run.bad.isSome then run
  else
    let fail (k : Nat) : SetRun := { run with bad := some (i, e.1, k) }
    if e.1 % 4 ≠ 0 then fail reasonWidth
    else if e.1 = GL_RESET ∨ (0x390000 ≤ e.1 ∧ e.1 < 0x3a0000) then fail reasonRange
    else
      match lookup e.1 with
      | none => { run with state := run.state.decodeMiss (bar0Base + e.1) }
      | some (r, ix) =>
        let w : Word := BitVec.ofNat 32 e.2
        let go : SetRun := {
          state := run.state.storeWrite r ix e.1 w, legal := if r.legal then run.legal ++ [(e.1, w.toNat)] else run.legal }
        if m = .host ∧ run.state.followsPrimary ∧ follows r.base e.1 ix then fail reasonState
        else
          match run.state.checkWrite r ix w with
          | some k => if k = reasonLoad ∨ k = reasonAudit then go else fail k
          | none => go

/-- A REG_SET tried whole. -/
def State.trySet (s : State) (m : Master) (es : List (Nat × Nat)) : SetRun :=
  let run := (es.zipIdx).foldl (fun (run : SetRun) e => run.entry m e.2 e.1) { state := s.settled }
  if run.bad.isNone ∧ ¬ run.state.loadsFit run.state.point then { run with bad := some (es.length, (es.getLast?.map (·.1)).getD 0, reasonLoad) } else run

/-- An accepted REG_SET carried out, its RWL writes as one change set. -/
def State.runSet (s : State) (m : Master) (es : List (Nat × Nat)) (legal : List (Nat × Nat)) : State :=
  let s := es.foldl (fun (s : State) e =>
    match lookup e.1 with
    | none => s.decodeMiss (bar0Base + e.1)
    | some (r, ix) => s.carryOut m r ix e.1 (BitVec.ofNat 32 e.2) true) s
  s.auditSet m legal

/-- A converter that configuration load enables before the reference is ready waits for it (R117). -/
def State.awaitsReference (s : State) (m : Master) (r : RegSpec) (w : Word) : Bool :=
  m == .configLoad && r.base == 0x140100 && w.field 0 0 == 1 && !s.flag AF_REF_READY

/-- Entries of a load: an entry refused is skipped and recorded with the master's code (R411). With the state comes the list of RWL
writes so far, for the change set. -/
def State.loadEntries (m : Master) (run : State × List (Nat × Nat)) (es : List (Nat × Nat)) : State × List (Nat × Nat) :=
  es.foldl (fun (run : State × List (Nat × Nat)) e =>
    let s := run.1
    if e.1 % 4 ≠ 0 then (s.refuse m 0 e.1 reasonWidth, run.2)
    else
      match lookup e.1 with
      | none => (s.decodeMiss (bar0Base + e.1), run.2)
      | some (r, ix) =>
        let w : Word := BitVec.ofNat 32 e.2
        if s.awaitsReference m r w then
          ({ s with afe := { s.afe with waiting := s.afe.waiting ++ ix } }, run.2)
        else match s.checkWrite r ix w with
        | some k => ((s.refuse m 0 e.1 k).refusedEffects (s.layoutRefused r.base w) r.base ix w, run.2)
        | none => (s.storeWrite r ix e.1 w, if r.legal then run.2 ++ [(e.1, w.toNat)] else run.2)) run

/-- A load's entry that would be refused as things stand. -/
def State.loadHeld (s : State) (m : Master) (e : Nat × Nat) : Bool :=
  e.1 % 4 == 0 && (lookup e.1).any fun r =>
    let w : Word := BitVec.ofNat 32 e.2
    !s.awaitsReference m r.1 w && (s.checkWrite r.1 r.2 w).isSome

/-- One pass over a load's entries: those admitted as things stand are applied, and the others come back in their order. -/
def State.loadPass (m : Master) : List (Nat × Nat) → State × List (Nat × Nat) → (State × List (Nat × Nat)) × List (Nat × Nat)
  | [], run => (run, [])
  | e :: es, run =>
    if run.1.loadHeld m e then
      let p := State.loadPass m es run
      (p.1, e :: p.2)
    else State.loadPass m es (State.loadEntries m run [e])

/-- A load's entries applied, each after all that its refusal rules read (R411): an entry refused is tried again as long as a pass admits
others, `n` passes at most, and refused for good where none does. -/
def State.loadInOrder (m : Master) : Nat → List (Nat × Nat) → State × List (Nat × Nat) → State × List (Nat × Nat)
  | 0, es, run => State.loadEntries m run es
  | n + 1, es, run =>
    let p := State.loadPass m es run
    if p.2.length < es.length then State.loadInOrder m n p.2 p.1 else State.loadEntries m run es

/-- The enable bit of a register that a load first writes with it clear, so that what the enable is judged by is there (R164, R197):
a slot's, a stream's, a watcher's. -/
def enableFirst (off : Nat) : Bool :=
  match lookup off with
  | some (r, _) => r.base == AE_SLOT_CFG 0 || r.base == OS_CFG 0 || r.base == OW_CFG 0
  | none => false

/-- Those registers of a load written with their enable bit clear; one refused so is refused again, and recorded, when it is enabled. -/
def State.loadDisabled (s : State) (es : List (Nat × Nat)) : State :=
  es.foldl (fun s e =>
    match lookup e.1 with
    | some (r, ix) =>
      let w : Word := BitVec.ofNat 32 (e.2 - e.2 % 2)
      if enableFirst e.1 ∧ (s.checkWrite r ix w).isNone then s.storeWrite r ix e.1 w else s
    | none => s) s

/-- Tables of the kinds named, loaded from a partition; entries turned away are skipped. -/
def State.loadTables (s : State) (kinds : List Nat) (ts : List (Nat × Nat × List Nat)) : State :=
  (ts.filter fun e => kinds.contains e.1).foldl (fun s e => if (s.tableBad e.1 e.2.1 e.2.2).isSome then s else s.putTable e.1 e.2.1 e.2.2) s

end Sys2Proof.Machine
end

