-- ==== Sys2Proof/Machine/Lockstep.lean ====
section
/-!
DEFINITION. The causeway link and lockstep by input (14, R353 to R361): checks of received frames, the order log of a primary, and
a standby that applies it.
-/

namespace Sys2Proof.Machine

/-! ### Frames received (R353, R356) -/

/-- The first check of R356, steps 1 to 3, that a frame fails, as its counter. `opens` says that the frame may come from a unit that
is not yet the partner. -/
def State.cwFault (s : State) (c : CwHeader) (opens : Bool) : Option Nat :=
  let k := s.get CW_CFG_KEY_SLOT
  let from_ : Bool := (c.sender == s.partner && s.partner != 0) || (opens && !s.flag CW_STATUS_PARTNER)
  if ¬ c.crcOk then some 0
  else if ¬ (c.typeOk ∧ c.version = 1 ∧ c.length ≤ 16384 ∧ c.pairId = s.pair CW_PAIR_ID_LO CW_PAIR_ID_HI ∧ c.keyGen = s.keyGen k ∧ from_) then
    some 2
  else if ¬ (c.tagOk ∧ s.causewayKey k ∧ s.admits k 4) then some 1
  else none

/-- A lane has delivered a good copy (R353). -/
def State.laneHeard (s : State) (l : Nat) : State :=
  let s := { s with pair_ := { s.pair_ with laneLast := s.pair_.laneLast.set l (some s.time.mono) } }
  (s.put ⟨CW_STATUS, 6 + l, 6 + l⟩ 1).put (CW_LANE_STAT_UP l) 1

/-- What has been accepted from a sender. -/
def State.heardOf (s : State) (sender : Nat) : RxWindow := (s.pair_.heard.find? fun w => w.sender == sender).getD { sender }

/-- A frame with this FSEQ has been accepted from its sender. -/
def State.hasHeard (s : State) (c : CwHeader) : Bool := (s.heardOf c.sender).seen.any fun k => k / 2 == c.fseq

/-- A good copy noted (R353, R356): its FSEQ with its lane, the highest of its sender, and the lane it came by. -/
def State.noteFrame (s : State) (c : CwHeader) : State :=
  let w := s.heardOf c.sender
  let top := max w.highest c.fseq
  let w : RxWindow := ⟨c.sender, top, (2 * c.fseq + c.lane % 2) :: w.seen.filter fun k => decide (top < k / 2 + 1024)⟩
  State.laneHeard { s with pair_ := { s.pair_ with heard := (s.pair_.heard.filter fun v => v.sender != c.sender) ++ [w] } } (c.lane % 2)

/-- A frame received (R353, R356, R366): checked, taken once by its FSEQ, and then used. A second copy that comes by the other lane is
dropped silently. A partner that the spent key has cost stays lost (R355). -/
def State.cwTake (s : State) (c : CwHeader) (opens : Bool) (run : State → State) : State :=
  let l := c.lane % 2
  match s.cwFault c opens with
  | some 1 => (s.count (cwCnt 1)).raise EV_CW_AUTH_FAIL sevMajor l l
  | some k => (s.count (cwCnt k)).when (k == 0) fun s => s.ctDiscard 9 (52 + c.length)
  | none =>
    let w := s.heardOf c.sender
    if w.seen.contains (2 * c.fseq + l) then s.count (cwCnt 2)
    else if s.hasHeard c then s.noteFrame c
    else if c.fseq + 1024 ≤ w.highest then s.count (cwCnt 2)
    else
      let known := c.sender == s.partner && !(s.pair_.exhausted && s.get CW_STATUS_ROLE == 1)
      let s := s.noteFrame c
      let s := { s with pair_ := { s.pair_ with lastFrame := some s.time.mono } }
      run (s.when known fun s => s.put CW_STATUS_PARTNER 1)

/-- A frame that reaches the receiver through sluice 9 (R15, R16, R82, R88): a stopped sluice passes none, and one that it poisons is
discarded. -/
def State.cwRx (s : State) (c : CwHeader) (opens : Bool) (run : State → State) : State :=
  if s.flag (SL_STATUS_STOPPED 9) then s
  else
    let s := s.sluiceEcc 9 c.corrected c.poisoned
    if c.poisoned then s.count (slDiscard 9) else s.cwTake c opens run

/-- A lane that has delivered nothing for 3 ms while the other does is down (R353). -/
def State.laneDown (s : State) (l : Nat) : State :=
  let heard (i : Nat) : Bool := match s.pair_.laneLast.getD i none with
    | some t => decide (s.time.mono < t + 3000000)
    | none => false
  if ¬ s.flag (CW_LANE_STAT_UP l) ∨ heard l ∨ ¬ heard (1 - l) then s
  else ((s.put ⟨CW_STATUS, 6 + l, 6 + l⟩ 0).put (CW_LANE_STAT_UP l) 0).raise EV_CW_LANE_DOWN sevWarning l l

/-- CW_LANE_SILENCE. -/
def execCwLaneSilence (l : Nat) (s : State) : Host.Outcome State Fault Refusal :=
  onEngines (.cwLaneSilence l) s fun s => s.laneDown l

/-! ### The order log of a primary (R357, R359, R360) -/

/-- The 32 bytes of an entry (R357). -/
def orderBytes (e : OrderEntry) : List Byte :=
  let b := match e with
    | .input path len crc t prp port flags =>
      [1] ++ beBytes 1 path ++ beBytes 2 len ++ beBytes 4 crc ++ stampBE t ++ beBytes 2 prp ++ beBytes 1 port ++ beBytes 1 flags
    | .chain n hold ws => [2] ++ beBytes 1 n ++ beBytes 1 ws.length ++ beBytes 1 0 ++ stampBE hold ++ ws.flatMap fun w => beBytes 4 w.toNat
    | .tick t mono => [3] ++ beBytes 3 0 ++ stampBE t ++ beBytes 8 mono
    | .step before after => [4] ++ beBytes 3 0 ++ stampBE before ++ stampBE after
    | .command op lane effect context => [5] ++ beBytes 1 op ++ beBytes 2 lane ++ stampBE ⟨effect, 0⟩ ++ context
    | .config t i effect off v => [6] ++ beBytes 1 t ++ beBytes 2 i ++ stampBE ⟨effect, 0⟩ ++ beBytes 4 off ++ beBytes 4 v.toNat
  (b ++ List.replicate 32 0).take 32

/-- An ORDER frame with these entries, when there are any. -/
def State.orderSend (s : State) (l : List OrderRec) : State :=
  match l with
  | [] => s
  | r :: _ => s.cwSend 2 (beBytes 8 r.num ++ beBytes 2 l.length ++ beBytes 6 0 ++ l.flatMap fun e => orderBytes e.entry)

/-- The entries waiting go out 20 µs after the first of them, or once there are 511 (R357). -/
def State.orderFlush (s : State) : State :=
  match s.order.unsent with
  | [] => s
  | r :: _ =>
    if s.time.mono < r.at_ + 20000 ∧ s.order.unsent.length < 511 then s
    else State.orderSend { s with order := { s.order with unsent := s.order.unsent.drop 511 } } (s.order.unsent.take 511)

/-- ORDER_FLUSH. -/
def execOrderFlush (s : State) : Host.Outcome State Fault Refusal := onEngines .orderFlush s State.orderFlush

/-- Every waiting change takes effect. -/
def State.effectsNow (s : State) : State :=
  s.order.effects.foldl State.applyEffect { s with order := { s.order with effects := [] } }

/-- The entries waiting sent, in frames of 511 at most. -/
def State.sendEntries : Nat → List OrderRec → State → State
  | 0, _, s => s
  | n + 1, l, s => if l.isEmpty then s else State.sendEntries n (l.drop 511) (s.orderSend (l.take 511))

/-- What a receive stamp can lie before the instant of its frame: the largest TB_PORT_RXLAT (R53), in ns. -/
def stampLag : Nat := 4095

/-- A TICK logged, of the instant it is due at: the waiting changes take effect, and what is older than 200 ms is let go (R357, R360). -/
def State.tickNow (s : State) : State :=
  let late := s.time.mono - s.order.tickAt
  let s := (s.orderLog (.tick ⟨s.nextTick, s.qualWord⟩ (s.jobMono - late))).effectsNow
  { s with order := { s.order with
      tickAt := s.order.tickAt + 100000
      kept := s.order.kept.filter fun r => decide (s.time.mono < r.at_ + 200000000)
      frames := s.order.frames.filter fun f => decide (s.time.mono < f.2.at_ + 200000000) } }

/-- The order log stops: what waits for a TICK takes effect at once, and nothing of the comparison stands (R366). -/
def State.stopLog (s : State) : State := s.effectsNow.dropLog

/-- Every 100 µs of the monotonic count a TICK (R357), logged once no input stamped before it can still come. A primary whose log the
spent key has stopped (R355) applies what waits for a TICK. -/
def State.orderTick (s : State) : State :=
  if s.order.tickAt + stampLag ≤ s.time.mono then
    if s.orderOn then s.tickNow else s.when (s.role == rolePrimary) State.effectsNow
  else s

/-- ORDER_TICK. -/
def execOrderTick (s : State) : Host.Outcome State Fault Refusal :=
  onEngines .orderTick s State.orderTick

/-- A FETCH served (R359): entries re-sent as far as the store holds them, or the frame or table of one entry. -/
def State.serveFetch (s : State) (first count : Nat) : State :=
  if ¬ s.orderOn then s
  else if 0 < count then
    let l := s.order.kept.filter fun r => decide (first ≤ r.num) && decide (r.num < first + count)
    s.sendEntries l.length l
  else
    match s.order.frames.find? fun f => f.1 == first with
    | some f => s.cwSend 4 (beBytes 8 first ++ f.2.head ++ f.2.payload)
    | none => s

/-- CW_FETCH_RX. -/
def execCwFetchRx (c : CwHeader) (first count : Nat) (s : State) : Host.Outcome State Fault Refusal :=
  onEngines (.cwFetchRx c first count) s fun s => s.cwRx c false fun s => s.serveFetch first count

/-! ### The standby (R358, R359, R361) -/

/-- The unit is a STANDBY that computes, in RESYNC or IN_SYNC. -/
def State.following (s : State) : Bool := s.role == roleStandby && (s.get CW_STATUS_SYNC == syResync || s.get CW_STATUS_SYNC == syIn)

/-- The TAI at which an entry of a change applies. -/
def effectOf (e : OrderEntry) : Nat :=
  match e with
  | .command _ _ t _ => t
  | .config _ _ t _ _ => t
  | _ => 0

/-- A TICK taken: pair time, and the changes it covers (R360, R361). -/
def State.pairTick (s : State) (t : Stamp) (mono : Nat) : State :=
  let due := s.order.effects.filter fun e => decide (effectOf e.entry ≤ t.tai)
  let s := { s with order := { s.order with
    tick := some (t.tai, mono)
    qual := t.qual
    effects := s.order.effects.filter fun e => decide (t.tai < effectOf e.entry) } }
  due.foldl State.applyEffect s.noteQual

/-- The prefix of a held frame with the primary's stamp, PRP sequence number, port and flags (R358). -/
def rehead (head : List Byte) (t : Stamp) (prp port flags : Nat) : List Byte :=
  stampBytes t ++ (head.drop 12).take 2 ++ leBytes 2 prp ++ leBytes 1 port ++ leBytes 1 flags ++ head.drop 18

/-- Chain outputs of the primary feed the phasor engines and the comparators (R358). -/
def State.chainEntry (s : State) (n : Nat) (hold : Stamp) (ws : List Word) : State :=
  (ws.zipIdx).foldl (fun s e =>
    let rep := hold.tai + e.2 * 1000000000 / max 1 (presetOf (s.chain n).preset).rate - s.get (FC_DELAY_DELAY n)
    (s.keepOutput n rep e.1).levels n (signedOf 24 (e.1.field 23 0)) ⟨rep, hold.qual⟩) s

/-- A change waits for its TICK. -/
def State.awaitTick (s : State) (e : OrderEntry) (values : List Nat) : State :=
  { s with order := { s.order with effects := s.order.effects ++ [{ entry := e, values }] } }

/-- One entry applied; none when it lacks its frame or table, unless what it lacks is to be passed by. -/
def State.takeEntry (s : State) (e : OrderEntry) (pass : Bool) : Option State :=
  match e with
  | .input path len crc t prp port flags =>
    match s.order.held.find? fun h => h.path == path && h.length == len && h.crc == crc with
    | some h =>
      some (State.emit { s with order := { s.order with held := s.order.held.erase h } } (.deliver path (rehead h.head t prp port flags) h.payload))
    | none => if pass then some s else none
  | .chain n hold ws => some (s.chainEntry n hold ws)
  | .tick t mono => some (s.pairTick t mono)
  | .step before after => some ((State.stepBlocks { s with order := { s.order with tick := s.order.tick.map fun p => (after.tai, p.2) } } before.tai))
  | .command _ _ _ _ => some (s.awaitTick e [])
  | .config t _ _ _ _ => if t = 0 then some (s.awaitTick e []) else if pass then some s else none

/-- The entry at the head is done with. -/
def State.entryDone (s : State) (num : Nat) : State :=
  { s with order := { s.order with
      waiting := s.order.waiting.filter fun r => decide (num < r.num)
      want := num + 1
      fetched := s.order.fetched.filter fun k => decide (2 * num + 1 < k) } }

/-- The entries held are applied in order as far as they go; with `pass`, to the end (R358, R368). -/
def State.drain (pass : Bool) : Nat → State → State
  | 0, s => s
  | n + 1, s =>
    match s.order.waiting with
    | [] => s
    | r :: _ =>
      if r.num ≠ s.order.want ∧ ¬ pass then s
      else
        match s.takeEntry r.entry pass with
        | some t => State.drain pass n (t.entryDone r.num)
        | none => s

/-- CW_LAG (14): how far processing stands behind the newest TICK received. -/
def State.showLag (s : State) : State :=
  let now := (s.order.tick.map (·.2)).getD 0
  let newest := s.order.waiting.foldl (fun a r => match r.entry with
    | .tick _ mono => max a mono
    | _ => a) now
  let lag := if s.order.tick.isSome then min ((newest - now) / 1000) 65535 else 0
  (s.put CW_LAG_LAG lag).put CW_LAG_MAX (max lag (s.get CW_LAG_MAX))

/-- The entries held go on as far as they can. -/
def State.advance (s : State) : State := (State.drain false s.order.waiting.length s).showLag

/-- An entry put among those waiting, by number, once. -/
def addEntry (l : List OrderRec) (r : OrderRec) : List OrderRec :=
  match l with
  | [] => [r]
  | q :: rest => if r.num < q.num then r :: q :: rest else if r.num = q.num then q :: rest else q :: addEntry rest r

/-- The first entry number not received. -/
def State.frontier (s : State) : Nat := s.order.waiting.foldl (fun f r => if r.num = f then f + 1 else f) s.order.want

/-- A FETCH sent once for what is lacking (R359): an even key names a frame or table, an odd one a gap. -/
def State.fetch (s : State) (key first count : Nat) : State :=
  if s.order.fetched.contains key then s
  else
    let s := { s with order := { s.order with fetched := s.order.fetched ++ [key] } }
    (s.cwSend 3 (beBytes 8 first ++ beBytes 4 count ++ beBytes 4 0)).count (cwCnt 4)

/-- ORDER entries received: a gap before them is counted and fetched, and the entries are applied in order (R358, R359). A joining
unit keeps them until its image is loaded. -/
def State.orderRx (s : State) (first : Nat) (es : List OrderEntry) : State :=
  if ¬ (s.following ∨ s.pair_.receiving.isSome) then s
  else
    let gap := s.frontier
    let s := if s.following ∧ gap < first ∧ ¬ s.order.fetched.contains (2 * gap + 1) then
        (s.count (cwCnt 3)).fetch (2 * gap + 1) gap (first - gap)
      else s
    let recs := (es.zipIdx.map fun e => (⟨first + e.2, s.time.mono, e.1⟩ : OrderRec)).filter fun r => decide (s.order.want ≤ r.num)
    let s := { s with order := { s.order with waiting := recs.foldl addEntry s.order.waiting } }
    if s.following then s.advance else s

/-- CW_ORDER_RX. -/
def execCwOrderRx (c : CwHeader) (first : Nat) (entries : List OrderEntry) (s : State) : Host.Outcome State Fault Refusal :=
  onEngines (.cwOrderRx c first entries) s fun s => s.cwRx c false fun s => s.orderRx first entries

/-- A FRAME_COPY for the entry that waits (R359): its prefix and frame, or its table, used when its CRC-32C, and a table's length too, are
the entry's. -/
def State.frameCopy (s : State) (index : Nat) (payload : List Byte) (table : List Nat) : State :=
  match s.order.waiting with
  | [] => s
  | r :: _ =>
    if ¬ s.following ∨ r.num ≠ index ∨ r.num ≠ s.order.want then s
    else
      match r.entry with
      | .input path _ crc t prp port flags =>
        if crc32c (payload.drop 24) ≠ crc then s
        else ((s.emit (.deliver path (rehead (payload.take 24) t prp port flags) (payload.drop 24))).entryDone index).advance
      | .config t _ _ len v =>
        if t = 0 ∨ (tableBytes t table).length ≠ len ∨ crc32c (tableBytes t table) ≠ v.toNat then s
        else ((s.awaitTick r.entry table).entryDone index).advance
      | _ => s

/-- CW_FRAME_COPY_RX. -/
def execCwFrameCopyRx (c : CwHeader) (index : Nat) (payload : List Byte) (table : List Nat) (s : State) : Host.Outcome State Fault Refusal :=
  onEngines (.cwFrameCopyRx c index payload table) s fun s => s.cwRx c false fun s => s.frameCopy index payload table

/-- The entry that waits has waited 2 ms, and its frame or table is fetched; what the primary cannot have in its 200 ms store any
more sends the standby to LOST (R359). -/
def State.fetchTimer (s : State) : State :=
  match s.order.waiting with
  | [] => s
  | r :: _ =>
    if ¬ s.following then s
    else if r.at_ + 200000000 ≤ s.time.mono then (s.count (cwCnt 5)).syncLost
    else if r.num = s.order.want ∧ r.at_ + 2000000 ≤ s.time.mono then s.fetch (2 * r.num) r.num 0
    else s

/-- FETCH_TIMER. -/
def execFetchTimer (s : State) : Host.Outcome State Fault Refusal := onEngines .fetchTimer s State.fetchTimer

/-- Held frames that no entry has named within MATCH_MS are discarded and counted (R358). -/
def State.matchExpire (s : State) : State :=
  let limit := s.get CW_CFG_MATCH_MS * 1000000
  let old (h : HeldFrame) : Bool := decide (h.at_ + limit ≤ s.time.mono)
  let n := (s.order.held.filter old).length
  State.countN { s with order := { s.order with held := s.order.held.filter fun h => !old h } } (cwCnt 6) n

/-- ORDER_MATCH_EXPIRE. -/
def execOrderMatchExpire (s : State) : Host.Outcome State Fault Refusal := onEngines .orderMatchExpire s State.matchExpire

end Sys2Proof.Machine
end

