-- ==== Sys2Proof/Machine/Pair.lean ====
section
/-!
DEFINITION. The pair (14, R362 to R378): digests and divergence, keepalives and promotion, joining, the cold standby, health
reports and proofs of the output paths.
-/

namespace Sys2Proof.Machine

/-! ### Health (R376) -/

/-- The RW and RWL fields of a register. -/
def RegSpec.stored (r : RegSpec) (w : Word) : Nat :=
  r.fields.foldl (fun a f => if f.acc = .rw ∨ f.acc = .rwl then a + w.field f.hi f.lo * 2 ^ f.lo else a) 0

/-- CFG_DIGEST: over the configuration of the blocks LN to CP in offset order, counters excepted, then tables 1 to 4. DEDUCED
(log 44): each register that has such a field as one little-endian word, each table's entries as WRITE_TABLE brings them. -/
def State.cfgDigest (s : State) : Nat :=
  let words := (List.range 0xa0000).flatMap fun i =>
    let off := 0x100000 + 4 * i
    match lookup off with
    | some (r, ix) => if r.config ∧ (satOf r.base ix).isNone then leBytes 4 (r.stored (s.reg off)) else []
    | none => []
  let tables := (([(1, 32), (2, 32), (3, 8), (4, 64)] : List (Nat × Nat)).flatMap fun p =>
    (List.range p.2).flatMap fun i => tableBytes p.1 (s.table p.1 i))
  sha256 (words ++ tables)

/-- A HEALTH report (R376). -/
def State.healthBytes (s : State) : List Byte :=
  stampBE s.now ++ beBytes 1 s.role ++ beBytes 1 (s.get CW_STATUS_SYNC) ++ beBytes 1 s.timeState ++ beBytes 1 s.point ++
  beBytes 4 (s.word GL_FW_VER) ++ beBytes 4 (s.word LA_SEAL) ++ beBytes 32 s.cfgDigest ++ beBytes 4 s.pair_.stPass ++ beBytes 4 s.pair_.stFail ++
  beBytes 4 s.pair_.scrubDram ++ beBytes 4 s.pair_.scrubMram ++ beBytes 2 (s.get (CW_LANE_STAT_EYE 0)) ++ beBytes 2 (s.get (CW_LANE_STAT_EYE 1)) ++
  beBytes 2 (s.get GL_TEMP_NOW) ++ beBytes 2 0 ++ beBytes 4 s.pair_.cecc ++ beBytes 4 (s.get IG_STATUS_OPEN) ++ beBytes 4 (s.get CW_LAG_LAG) ++
  List.replicate 36 0

/-- CFG_DIGEST of this unit's latest HEALTH report. -/
def State.sentDigest (s : State) : Nat :=
  match s.integ.health with
  | b :: _ => beNat ((b.drop 24).take 32)
  | [] => s.cfgDigest

/-- The latest HEALTH reports of both units state one configuration (R364): a suspension of the comparison ends 1 s from now. -/
def State.cfgAgrees (s : State) : State :=
  let until_ := if s.pair_.differing then s.time.mono + 1000000000 else s.pair_.suspendUntil
  State.put { s with pair_ := { s.pair_ with differ := 0, differing := false, suspendUntil := until_ } } CW_STATUS_CFG_DIFFER 0

/-- This unit's report against the partner's latest (R364): a difference suspends the comparison from here on. -/
def State.cfgCompare (s : State) : State :=
  match s.pair_.partnerCfg with
  | none => s
  | some cfg =>
    if ¬ s.lockstep then s
    else if cfg = s.sentDigest then s.cfgAgrees else { s with pair_ := { s.pair_ with differing := true } }

/-- A report made, kept among the last 7680 (R402), sent, and held against the partner's; corrected errors count afresh. -/
def State.healthTx (s : State) : State :=
  if s.time.mono < s.pair_.healthAt then s
  else
    let b := s.healthBytes
    let s := { s with
      integ := { s.integ with health := (b :: s.integ.health).take 7680 }
      pair_ := { s.pair_ with healthAt := s.time.mono + 1000000000, cecc := 0 } }
    (s.cwSend 7 b).cfgCompare

/-- HEALTH_TX: every unit reports in every role. -/
def execHealthTx (s : State) : Host.Outcome State Fault Refusal := onEngines .healthTx s State.healthTx

/-! ### The partner lost or LOST (R364 to R366) -/

/-- The standby is out of step: a standby goes to LOST; a primary shows its partner LOST and stops the order log. -/
def State.pairLost (s : State) : State :=
  if s.role = roleStandby then s.syncLost else if s.role = rolePrimary then (s.put CW_STATUS_SYNC syLost).stopLog else s

/-- A HEALTH report of the partner (R364, R390): configurations that differ suspend the comparison, for 1 s after they agree, and at
the third report running send the standby to LOST; so does a firmware version that differs. -/
def State.healthRx (s : State) (cfg ver : Nat) : State :=
  let s := { s with pair_ := { s.pair_ with partnerVer := some ver, partnerCfg := some cfg } }
  if ¬ s.lockstep then { s with pair_ := { s.pair_ with split := s.pair_.split && ver != s.word GL_FW_VER } }
  else if ver ≠ s.word GL_FW_VER then
    let s := if s.pair_.split then s else s.raise EV_FU_PAIR_SPLIT sevMajor (s.get FU_STATUS_KIND)
    State.pairLost { s with pair_ := { s.pair_ with split := true } }
  else
    let s := { s with pair_ := { s.pair_ with split := false } }
    if cfg = s.sentDigest then s.cfgAgrees
    else
      let s := { s with pair_ := { s.pair_ with differ := s.pair_.differ + 1, differing := true } }
      if s.pair_.differ < 3 then s
      else ((s.put CW_STATUS_CFG_DIFFER 1).raise EV_CW_CFG_DIFFER sevMajor).pairLost

/-- CW_HEALTH_RX. -/
def execCwHealthRx (c : CwHeader) (role sync cfgDigest fwVer : Nat) (s : State) : Host.Outcome State Fault Refusal :=
  onEngines (.cwHealthRx c role sync cfgDigest fwVer) s fun s => s.cwRx c false fun s => s.healthRx cfgDigest fwVer

/-! ### Promotion (R367, R368, R372) -/

/-- Buckets whose close instants have passed close, oldest first. -/
def State.closePassed : Nat → State → State
  | 0, s => s
  | n + 1, s =>
    match s.align.opens with
    | [] => s
    | o :: _ => if (s.closable o.number).isSome then State.closePassed n (s.closeAndSend o) else s

/-- A lane's entry of an image in force (R251, R375). -/
def State.loadLane (s : State) (e : ImageLane) (hash : Nat) : State :=
  let span (base : List Nat) (start flags : Nat) (open_ : Bool) : SpanAcc :=
    { isOpen := open_, start := s.stampAt start, base := some ((List.range 4).map fun i => base.getD i (e.regs.getD i 0)), flags }
  let able := e.legal && e.metered && s.flag ME_G_CFG_LEDGER_EN
  s.restoreLane e.lane { regs := e.regs, recSeq := e.recSeq, reverse := e.reverse, legal := e.legal, metered := e.metered, meter := {
    frac := e.frac
    revCount := e.revCount
    interval := span e.interval e.intervalStart e.intervalFlags able
    session := span e.session e.sessionStart e.sessionFlags able
    lastBlock := e.lastBlock
    lastBooked := e.lastBlock
    prevHash := hash
    able } }

/-- The legal core record, the hash chains and the queue of an image in force. -/
def State.loadCore (s : State) (i : StateImage) : State :=
  let s := i.lanes.foldl (fun s e => s.loadLane e (i.prevHash.getD e.lane 0)) s
  let s := s.setPair ME_LEDGER_HEAD_LO ME_LEDGER_HEAD_HI i.queueSeq
  let s := s.setPair ME_LEDGER_ACK_LO ME_LEDGER_ACK_HI i.ack
  let queue := i.bodies.map fun b => ({ body := b, closedAt := s.jobMono, filled := false } : QueuedBody)
  State.showQueue { s with meter := { s.meter with acked := i.ack, queue } }

/-- A COLD_STANDBY begins to serve (R372): the image's legal core record with a RESTART record for each legal lane, lanes DOWN,
alignment with an empty history, and the streams' sequence numbers to go on from the image's. -/
def State.coldStart (s : State) : State :=
  let s := match s.pair_.checkpoint with
    | none => s
    | some i =>
      let s := ((s.loadCore i).put ME_G_STATUS_MODE i.mode).put ME_G_STATUS_SAVE_INCOMPLETE 1
      let s := { s with meter := { s.meter with restart := some ⟨some i.snapTime, s.time.tai, true, rfIncomplete ||| rfTakeover, s.now⟩ } }
      let s := s.restartRecords fun off => s.word off
      s.forEach 32 fun k s => s.setStreamLink k fun l => { l with resume := some (i.osSeq.getD k 0, i.snapTime.tai) }
  (((s.lanesWarm.alignRestart).phasorRestart 0).detectWarm).laneConds.modeConds

/-- The entries held up to the last TICK among them. -/
def upToTick (l : List OrderRec) : List OrderRec :=
  (l.reverse.dropWhile fun r => match r.entry with
    | .tick _ _ => false
    | _ => true).reverse

/-- A promotion (R367, R368): the order log applied up to the last TICK held, the unit's own inputs from there on, pair time moved to its
own time base, the outputs taken over. With `keep` the old primary follows as STANDBY and the order log goes on. -/
def State.promote (s : State) (sev : Nat) (keep : Bool) : State :=
  let cold := s.role == roleCold
  let next := s.frontier
  let log := upToTick s.order.waiting
  let s := State.drain true log.length { s with order := { s.order with waiting := log } }
  let t0 := (s.order.tick.map (·.1)).getD s.time.tai
  let ins (h : HeldFrame) : List HeldFrame → List HeldFrame := fun l => l.takeWhile (fun q => decide (q.stamp ≤ h.stamp)) ++ [h] ++ l.dropWhile fun q => decide (q.stamp ≤ h.stamp)
  let mine := (s.order.held.filter fun h => decide (t0 < h.stamp)).foldl (fun l h => ins h l) []
  let s := mine.foldl (fun s h => s.emit (.deliver h.path h.head h.payload)) s.effectsNow
  let off : Int := match s.order.tick with
    | some (_, mono) => (mono : Int) - s.time.mono
    | none => s.pair_.monoOff
  let queue := s.meter.queue.map fun (b : QueuedBody) =>
    if b.signature.isNone then { b with body := { b.body with flags := b.body.flags ||| rfTakeover } } else b
  let s := { s with
    order := { running := keep, next, tickAt := (s.time.mono / 100000 + 1) * 100000 }
    meter := { s.meter with queue }
    pair_ := { s.pair_ with monoOff := off, promote := none, items := [], own := [], theirs := [], equalRun := 0, diverge := none, window := s.time.tai / 10000000 + 1, provedAt := s.time.mono } }
  let s := s.forEach 256 fun n s => if (s.laneMeter n).able then s.setMeter n fun m => { m with takeover := true } else s
  let s := ((s.when (!keep) fun s => s.put CW_STATUS_SYNC syNone).put CW_PROOF_PROVEN 0).count (cwCnt 10)
  let s := s.setRole rolePrimary sev
  let s := s.when cold State.coldStart
  State.closePassed s.align.opens.length s

/-- A primary gives up its role (R367, R369, R418): it becomes STANDBY with a sync state. -/
def State.demote (s : State) (sync : Nat) : State :=
  let s := s.stopLog
  let s := { s with
    order := { want := s.order.next, tick := if sync = syLost then none else some (s.time.tai, s.jobMono), qual := s.qualWord }
    pair_ := { s.pair_ with promote := none } }
  (s.put CW_STATUS_SYNC sync).setRole roleStandby sevNotice

/-- PROMOTE sent: EFFECT (0: at once) and REASON. -/
def State.sendPromote (s : State) (effect reason : Nat) : State :=
  s.cwSend 0x0a (stampBE ⟨effect, 0⟩ ++ beBytes 1 reason ++ beBytes 3 0)

/-- A scheduled change of roles taken: this unit up, or down with the sync state it shows, what it has logged being sent first; a drill
counts for both (CW_PROOF.DAYS). -/
def State.changeRole (s : State) (up : Bool) (reason : Nat) : State :=
  if up then s.promote sevNotice s.following
  else
    let s := State.demote (s.sendEntries s.order.unsent.length s.order.unsent) (s.get CW_STATUS_SYNC)
    if reason = 2 then { s with pair_ := { s.pair_ with provedAt := s.time.mono } } else s

/-- A unit that silence or a PROMOTE promotes (R367, R372): a standby in step, or a cold standby that is not in LOST. -/
def State.mayPromote (s : State) : Bool := s.following || (s.role == roleCold && s.get CW_STATUS_SYNC != syLost)

/-- EFFECT of a change of roles is reached: on a primary with an order log, by the newest TICK in it, which its partner goes by. -/
def State.effectReached (s : State) (t : Nat) : Bool := if s.orderOn then decide (t + 100000 ≤ s.nextTick) else decide (t ≤ s.jobTai)

/-- A PROMOTE accepted (R365, R367): by a primary, which goes down, in LOST after a divergence it failed; by a standby in step, which
goes up. -/
def State.promoteRx (s : State) (reason effect : Nat) : State :=
  if s.role = rolePrimary then
    if reason = 3 then
      let mask := (s.pair_.diverge.map (·.classes)).getD 0
      (s.demote syLost).raise EV_CW_SELFTEST_FAIL sevCritical mask
    else if effect = 0 ∨ s.effectReached effect then s.changeRole false reason
    else { s with pair_ := { s.pair_ with promote := some (effect, reason, false) } }
  else if s.mayPromote then
    if effect ≤ s.jobTai then s.changeRole true reason else { s with pair_ := { s.pair_ with promote := some (effect, reason, true) } }
  else s

/-- CW_PROMOTE_RX. -/
def execCwPromoteRx (c : CwHeader) (reason effect : Nat) (s : State) : Host.Outcome State Fault Refusal :=
  onEngines (.cwPromoteRx c reason effect) s fun s => s.cwRx c false fun s => s.promoteRx reason effect

/-- The EFFECT of an accepted PROMOTE is reached. -/
def State.promoteEffect (s : State) : State :=
  match s.pair_.promote with
  | none => s
  | some (t, reason, up) =>
    if ¬ s.effectReached t then s
    else
      let s := { s with pair_ := { s.pair_ with promote := none } }
      if (up ∧ s.mayPromote) ∨ (¬ up ∧ s.role = rolePrimary) then s.changeRole up reason else s

/-- PROMOTE_EFFECT. -/
def execPromoteEffect (s : State) : Host.Outcome State Fault Refusal := onEngines .promoteEffect s State.promoteEffect

/-- PAIR_PROMOTE (R367, R373): a standby, warm or cold, promotes at once. -/
def execPairPromote (h : CmdHeader) (s : State) : Host.Outcome State Fault Refusal :=
  onCore (.pairPromote h) s fun s => s.command h 0x71 none none fun s =>
    if s.role = roleStandby ∨ s.role = roleCold then
      ((s.sendPromote 0 1).promote sevNotice s.following).finish h 0x71 stOk 0 rolePrimary
    else s.finish h 0x71 stState 0 s.role

/-- The TAI of the newest TICK: logged by a primary, taken by a standby. -/
def State.lastTick (s : State) : Nat := if s.orderOn then s.nextTick - 100000 else s.jobTai

/-- PAIR_DRILL (R367): on either unit of an IN_SYNC pair, the roles change at the TICK 20 ms ahead. -/
def State.drill (s : State) (h : CmdHeader) : State :=
  let pairIn := s.get CW_STATUS_SYNC == syIn && (s.role == roleStandby || (s.orderOn))
  if ¬ pairIn then s.finish h 0x72 stState 0 s.role
  else
    let effect := s.lastTick + 20000000
    let s := s.sendPromote effect 2
    let s := { s with pair_ := { s.pair_ with promote := some (effect, 2, s.role == roleStandby) } }
    s.finish h 0x72 stOk 0 s.role

/-- PAIR_DRILL. -/
def execPairDrill (h : CmdHeader) (s : State) : Host.Outcome State Fault Refusal :=
  onCore (.pairDrill h) s fun s => s.command h 0x72 none none fun s => s.drill h

/-! ### Keepalives (R366, R369) -/

/-- A KEEPALIVE every 250 µs, by a unit in a pair. -/
def State.keepaliveTx (s : State) : State :=
  if s.role = roleSolo ∨ s.time.mono < s.pair_.keepAt then s
  else
    let s := { s with pair_ := { s.pair_ with keepAt := (s.time.mono / 250000 + 1) * 250000 } }
    s.cwSend 1 (beBytes 1 s.role ++ beBytes 1 (s.get CW_STATUS_SYNC) ++ beBytes 2 0 ++ stampBE s.pair_.since)

/-- CW_KEEPALIVE_TX. -/
def execCwKeepaliveTx (s : State) : Host.Outcome State Fault Refusal := onEngines .cwKeepaliveTx s State.keepaliveTx

/-- A KEEPALIVE received: a primary shows its partner's sync state and stops the order log for a partner in LOST; two primaries
settle which of them demotes (R351, R369). -/
def State.keepaliveRx (s : State) (role sync : Nat) (since : Stamp) : State :=
  let older : Bool := decide (since.tai < s.pair_.since.tai) || (since.tai == s.pair_.since.tai && decide (s.partner < s.serial))
  let s := { s with pair_ := { s.pair_ with partnerRole := role } }
  if s.role ≠ rolePrimary then s.put CW_STATUS_DUAL_PRIMARY 0
  else if role = rolePrimary then
    let s := (s.put CW_STATUS_DUAL_PRIMARY 1).raise EV_CW_DUAL_PRIMARY sevCritical
    if older then s.demote syLost else s
  else
    let s := (s.put CW_STATUS_DUAL_PRIMARY 0).put CW_STATUS_SYNC sync
    if sync = syLost then s.stopLog else s

/-- CW_KEEPALIVE_RX. -/
def execCwKeepaliveRx (c : CwHeader) (role sync : Nat) (since : Stamp) (s : State) : Host.Outcome State Fault Refusal :=
  onEngines (.cwKeepaliveRx c role sync since) s fun s => s.cwRx c false fun s => s.keepaliveRx role sync since

/-- 3 ms without a frame of the partner (R366, R367, R372): a primary goes on alone; a standby in step and a cold standby promote. -/
def State.partnerSilent (s : State) : State :=
  let quiet : Bool := match s.pair_.lastFrame with
    | some t => decide (t + 3000000 ≤ s.time.mono)
    | none => false
  if ¬ s.flag CW_STATUS_PARTNER ∨ ¬ quiet then s
  else
    let s := s.put CW_STATUS_PARTNER 0
    if s.role = rolePrimary then (s.raise EV_CW_PARTNER_LOST sevMajor).stopLog
    else if s.mayPromote then s.promote sevMajor false
    else s

/-- PARTNER_SILENCE. -/
def execPartnerSilence (s : State) : Host.Outcome State Fault Refusal := onEngines .partnerSilence s State.partnerSilent

/-! ### Digests (R362 to R364) -/

/-- An item put in its place: by governing instant, then index. -/
def addItem (l : List DigestItem) (i : DigestItem) : List DigestItem :=
  match l with
  | [] => [i]
  | q :: rest => if i.at_ < q.at_ ∨ (i.at_ = q.at_ ∧ i.index < q.index) then i :: q :: rest else q :: addItem rest i

/-- The digest of a class in a window: the first 8 bytes of SHA-256 over its items. -/
def State.classDigest (s : State) (w c : Nat) : Nat :=
  let items := (s.pair_.items.filter fun i => i.window == w && i.cls == c).foldl addItem []
  sha256 (items.flatMap (·.bytes)) / 2 ^ 192

/-- The longest history a class can depend on, in ns: the modal windows and LEARN of the watchers that run, and not less than 1 s
(R375). DESIGN CHOICE (log 45): one span for all classes. -/
def State.longestHistory (s : State) : Nat :=
  let win := (List.range 64).foldl (fun a w => if s.flag (OW_CFG_EN w) then max a (s.get (OW_MODAL_WIN w)) else a) 1
  let learn := (List.range 16).foldl (fun a k => if s.flag (IW_CFG_EN k) then max a (s.get (IW_WA_TIME_LEARN k)) else a) 0
  (win + learn) * 1000000000

/-- The instant at which a window's DIGEST is sent (R363). -/
def State.digestDue (s : State) (w : Nat) : Nat := (w + 1) * 10000000 + s.get AE_CFG_WAIT * 1000000 + 520000000

/-- What one comparison of a window finds: the classes equal, and those that differ. -/
def equalClasses (a b : WindowDigest) (same : Bool) : Nat :=
  ((List.range 8).filter fun c => a.valid.testBit c && b.valid.testBit c && (a.digests.getD c 0 == b.digests.getD c 0) == same).foldl (fun m c => m + 2 ^ c) 0

/-- A window judged (R364, R365, R375): CLASS_SYNC; a mismatch is counted, and outside a suspension starts a divergence; 100 windows
equal in every class put the standby IN_SYNC. -/
def State.judge (s : State) (a b : WindowDigest) : State :=
  let same := equalClasses a b true
  let bad := equalClasses a b false
  let s := s.put CW_STATUS_CLASS_SYNC same
  let s := { s with pair_ := { s.pair_ with equalRun := if same = 255 then s.pair_.equalRun + 1 else 0 } }
  if bad = 0 then
    if s.following ∧ s.get CW_STATUS_SYNC = syResync ∧ 100 ≤ s.pair_.equalRun then s.put CW_STATUS_SYNC syIn else s
  else
    let s := s.count (cwCnt 7)
    if s.pair_.differing ∨ s.time.mono < s.pair_.suspendUntil ∨ s.pair_.diverge.isSome then s
    else { s with pair_ := { s.pair_ with diverge := some { window := a.window, classes := bad } } }

/-- The oldest window that both units have digested is judged. -/
def State.compare (s : State) : State :=
  match s.pair_.own.find? fun o => s.pair_.theirs.any fun t => t.window == o.window with
  | none => s
  | some o =>
    match s.pair_.theirs.find? fun t => t.window == o.window with
    | none => s
    | some t =>
      let s := { s with pair_ := { s.pair_ with
        own := s.pair_.own.filter fun d => d.window != o.window
        theirs := s.pair_.theirs.filter fun d => decide (o.window < d.window) } }
      s.judge o t

/-- The next window's DIGEST sent, once pair time has passed its send time. -/
def State.digestSend (s : State) : State :=
  let w := s.pair_.window
  if ¬ s.lockstep ∨ s.jobTai < s.digestDue w then s
  else
    let ds := (List.range 8).map fun c => s.classDigest w c
    let valid := if s.pair_.judgeFrom ≤ w * 10000000 then 255 else 0
    let s := { s with pair_ := { s.pair_ with
      window := w + 1
      items := s.pair_.items.filter fun i => decide (w < i.window)
      own := s.pair_.own ++ [(⟨w, valid, ds, s.time.mono⟩ : WindowDigest)] } }
    let s := s.deviceMet 16 (s.pair_.lateDigest == w + 1)
    (s.cwSend 5 (beBytes 8 w ++ beBytes 1 valid ++ beBytes 7 0 ++ ds.flatMap (beBytes 8))).compare

/-- DIGEST_SEND. -/
def execDigestSend (s : State) : Host.Outcome State Fault Refusal := onEngines .digestSend s State.digestSend

/-- A DIGEST not sent 10 ms after its send time, reported once for its window (R363). -/
def State.digestLate (s : State) : State :=
  let w := s.pair_.window
  if ¬ s.lockstep ∨ s.jobTai < s.digestDue w + 10000000 ∨ s.pair_.lateDigest = w + 1 then s
  else (State.count { s with pair_ := { s.pair_ with lateDigest := w + 1 } } (cwCnt 9)).deviceMiss 16

/-- DIGEST_LATE. -/
def execDigestLate (s : State) : Host.Outcome State Fault Refusal := onEngines .digestLate s State.digestLate

/-- The oldest DIGEST of this unit that has waited 100 ms for the partner's is not judged (R363). -/
def State.digestMissing (s : State) : State :=
  match s.pair_.own with
  | [] => s
  | o :: rest =>
    if s.time.mono < o.sentAt + 100000000 then s else State.count { s with pair_ := { s.pair_ with own := rest } } (cwCnt 8)

/-- DIGEST_MISSING. -/
def execDigestMissing (s : State) : Host.Outcome State Fault Refusal := onEngines .digestMissing s State.digestMissing

/-- A DIGEST of the partner: kept until the unit's own, unless that has been given up. -/
def State.digestRx (s : State) (w valid : Nat) (ds : List Nat) : State :=
  if ¬ s.lockstep ∨ (w < s.pair_.window ∧ ¬ (s.pair_.own.any fun o => o.window == w)) then s
  else State.compare { s with pair_ := { s.pair_ with theirs := s.pair_.theirs ++ [(⟨w, valid, ds, s.time.mono⟩ : WindowDigest)] } }

/-- CW_DIGEST_RX. -/
def execCwDigestRx (c : CwHeader) (window valid : Nat) (digests : List Nat) (s : State) : Host.Outcome State Fault Refusal :=
  onEngines (.cwDigestRx c window valid digests) s fun s => s.cwRx c false fun s => s.digestRx window valid digests

/-! ### Divergence (R365) -/

/-- DUAL_MISMATCH on every record that holds a block of a digest window (R365): the open records, and the closed ones not signed yet. -/
def State.markWindow (s : State) (w : Nat) : State :=
  let ends (n : Nat) : List Nat := ((s.laneMeter n).booked.filter fun e => e.1 == w).map (·.2)
  let body (b : LedgerBody) : LedgerBody :=
    if (ends b.lane).any fun e => decide (b.start.tai < e) && decide (e ≤ b.stop.tai) then { b with flags := b.flags ||| rfDual } else b
  let span (n : Nat) (a : SpanAcc) : SpanAcc :=
    if a.isOpen && (ends n).any fun e => decide (a.start.tai < e) then { a with flags := a.flags ||| rfDual } else a
  let t := { s with meter := { s.meter with
    queue := s.meter.queue.map fun (b : QueuedBody) => if b.signature.isNone then { b with body := body b.body } else b
    held := s.meter.held.map fun (h : LedgerBody × Option (Nat × Word)) => (body h.1, h.2) } }
  t.forEach 256 fun n t => if (t.laneMeter n).booked.isEmpty then t
    else t.setMeter n fun m => { m with interval := span n m.interval, session := span n m.session }

/-- Both results are known: the table of R365. -/
def State.settleDivergence (s : State) : State :=
  match s.pair_.diverge with
  | some ⟨w, mask, some own, some theirs⟩ =>
    let prim := s.role == rolePrimary
    let p := if prim then own else theirs
    let q := if prim then theirs else own
    let legal := mask.testBit 5 || mask.testBit 6
    let s := s.when (legal && !(p && !q)) fun s =>
      ((s.markWindow w).raise EV_ME_DUAL_MISMATCH sevLegal).recoverLedger
    if p ∧ q then ({ s with pair_ := { s.pair_ with diverge := none } }.raise EV_CW_DIVERGE (if legal then sevLegal else sevMajor) mask).pairLost
    else if p then
      let s := { s with pair_ := { s.pair_ with diverge := none } }
      (s.when (!prim) fun s => s.raise EV_CW_SELFTEST_FAIL sevCritical mask).pairLost
    else if q then
      if prim then s
      else (State.sendPromote { s with pair_ := { s.pair_ with diverge := none } } 0 3).promote sevNotice false
    else ({ s with pair_ := { s.pair_ with diverge := none } }.raise EV_CW_SELFTEST_FAIL sevCritical mask).pairLost
  | _ => s

/-- The known-answer test of the engines concerned has ended: its result goes to the partner. -/
def State.selftest (s : State) (ok : Bool) : State :=
  match s.pair_.diverge with
  | some d =>
    if d.own.isSome then s
    else
      let s := { s with pair_ := { s.pair_ with diverge := some { d with own := some ok } } }
      ((s.cwSend 0x0b (beBytes 8 d.window ++ beBytes 1 d.classes ++ beBytes 1 (bit (!ok)) ++ beBytes 6 0)).count (cwCnt 11)).settleDivergence
  | none => s

/-- SELFTEST_RESULT. -/
def execSelftestResult (ok : Bool) (s : State) : Host.Outcome State Fault Refusal := onEngines (.selftestResult ok) s fun s => s.selftest ok

/-- The partner's result; where this unit has seen no mismatch of its own, the partner's window and classes are tested. -/
def State.divergeRx (s : State) (window classes result : Nat) : State :=
  if ¬ s.lockstep then s
  else
    let d := s.pair_.diverge.getD { window, classes }
    if d.window ≠ window then s
    else State.settleDivergence { s with pair_ := { s.pair_ with diverge := some { d with theirs := some (result == 0) } } }

/-- CW_DIVERGE_RX. -/
def execCwDivergeRx (c : CwHeader) (window classes result : Nat) (s : State) : Host.Outcome State Fault Refusal :=
  onEngines (.cwDivergeRx c window classes result) s fun s => s.cwRx c false fun s => s.divergeRx window classes result

/-! ### Ledger notes (R371) -/

/-- A body signed by the partner is discarded and gives the lane's PREV_HASH; an acknowledgement frees the queue. -/
def State.ledgerNote (s : State) (kind q hash : Nat) : State :=
  if s.role ≠ roleStandby then s
  else if kind = 1 then
    let s := match s.meter.queue.find? fun b => b.body.queueSeq == q with
      | some b => s.setMeter b.body.lane fun m => { m with prevHash := hash }
      | none => s
    State.showQueue { s with meter := { s.meter with queue := s.meter.queue.filter fun b => b.body.queueSeq != q } }
  else if kind = 2 then (s.setPair ME_LEDGER_ACK_LO ME_LEDGER_ACK_HI q).freeBodies q
  else s

/-- CW_LEDGER_NOTE_RX. -/
def execCwLedgerNoteRx (c : CwHeader) (kind queueSeq bodyHash : Nat) (s : State) : Host.Outcome State Fault Refusal :=
  onEngines (.cwLedgerNoteRx c kind queueSeq bodyHash) s fun s => s.cwRx c false fun s => s.ledgerNote kind queueSeq bodyHash

/-! ### State images (R372, R374, R375) -/

/-- A lane as an image carries it. -/
def State.imageLane (s : State) (n : Nat) : ImageLane := (s.coreEntry 0 n).toLane n

/-- The sequence counter of a PMU function: local 0 to 15, then lanes. -/
def fnSeqReg (f : Nat) : Nat := if f < 16 then PE_FN_SEQ f else PE_LF_SEQ (f - 16)

/-- The state image of this instant, stamped `t`. -/
def State.image (s : State) (snapId : Nat) (t : Stamp) : StateImage :=
  let mask (n : Nat) (f : Nat → Bool) : Nat := (List.range n).foldl (fun a i => a + bit (f i) * 2 ^ i) 0
  { snapId, snapTime := t, entry := s.order.next, saveSeq := s.meter.lastSeq, sealNo := s.word LA_SEAL,
    laCount := s.get LA_COUNT_USED, pairId := s.pair CW_PAIR_ID_LO CW_PAIR_ID_HI, mode := s.get ME_G_STATUS_MODE,
    queueSeq := s.pair ME_LEDGER_HEAD_LO ME_LEDGER_HEAD_HI, lanes := (List.range 256).map s.imageLane,
    osSeq := (List.range 32).map fun k => s.word (OS_TX_SEQ k), prevHash := (List.range 256).map fun n => (s.laneMeter n).prevHash,
    pulses := (List.range 8).map fun p => ((s.pulse p).acc, (s.pulse p).due.length, s.word (PO_COUNT p)),
    iwHeld := (List.range 16).map fun k => (s.iw k).held, iwLatched := mask 16 fun k => s.flag (IW_STATUS_LATCHED k),
    alLatched := mask 32 fun r => s.flag (AL_RULE_STAT_LATCHED r), slotSeq := (List.range 8464).map fun n => s.word (AE_SLOT_SEQ n),
    fnSeq := (List.range 272).map fun f => s.word (fnSeqReg f), ack := s.meter.acked,
    bodies := (s.meter.queue.filter fun b => !b.placed).map fun b => { b.body with
      flags := b.body.flags - (b.body.flags &&& rfTakeover), sealNo := 0, deviceId := 0, signSlot := 0, signGen := 0, fwVer := 0, prevHash := 0 } }

/-- An image's bytes (R375), and the data bytes of one STATE frame. -/
def imageSize (i : StateImage) : Nat := 76368 + 256 * i.bodies.length
@[inherit_doc imageSize] abbrev stateChunk : Nat := 16368

/-- The bytes of an image (R375). DEDUCED (log 190): its CORE is a legal core record of this instant with CAUSE 0 and the number of the
newest save. -/
def imageBytes (i : StateImage) : List Byte :=
  leBytes 4 0x53505a4b ++ leBytes 2 1 ++ leBytes 2 0 ++ leBytes 8 i.snapId ++ stampBytes i.snapTime ++ leBytes 4 0 ++ leBytes 8 i.entry ++
  leBytes 24 0 ++ coreBytes i.saveSeq 0 i.mode i.sealNo i.laCount i.pairId i.queueSeq i.snapTime i.lanes ++
  (List.range 32).flatMap (fun k => leBytes 4 (i.osSeq.getD k 0)) ++ (List.range 256).flatMap (fun n => beBytes 32 (i.prevHash.getD n 0)) ++
  (List.range 8).flatMap (fun p => let v := i.pulses.getD p (0, 0, 0); leBytes 8 v.1 ++ leBytes 4 v.2.1 ++ leBytes 4 v.2.2) ++
  (List.range 16).flatMap (fun k => leBytes 1 (i.iwHeld.getD k 0)) ++ leBytes 2 i.iwLatched ++ leBytes 4 i.alLatched ++ leBytes 42 0 ++
  (List.range 8464).flatMap (fun n => leBytes 4 (i.slotSeq.getD n 0)) ++ (List.range 272).flatMap (fun f => leBytes 4 (i.fnSeq.getD f 0)) ++
  leBytes 8 i.ack ++ leBytes 8 i.bodies.length ++ i.bodies.flatMap fun b => ledgerHead b ++ leBytes 4 0

/-- The STATE frame at an offset of the image being sent. -/
def State.sendChunk (s : State) (i : StateImage) (offset : Nat) : State :=
  State.cwSend { s with pair_ := { s.pair_ with sending := some (i, offset) } } 8
    (beBytes 8 i.snapId ++ beBytes 4 offset ++ beBytes 4 (imageSize i) ++ ((imageBytes i).drop offset).take stateChunk)

/-- An image of this instant, stamped `t`, is taken and begins to go out. -/
def State.sendImage (s : State) (t : Stamp) : State :=
  let id := s.pair_.snapId + 1
  let i := s.image id t
  State.sendChunk { s with pair_ := { s.pair_ with snapId := id } } i 0

/-- A STATE_ACK moves the sending on. -/
def State.stateAck (s : State) (snapId offset : Nat) : State :=
  match s.pair_.sending with
  | some (i, _) =>
    if i.snapId ≠ snapId then s
    else if offset < imageSize i then s.sendChunk i offset
    else { s with pair_ := { s.pair_ with sending := none } }
  | none => s

/-- CW_STATE_ACK_RX. -/
def execCwStateAckRx (c : CwHeader) (snapId offset : Nat) (s : State) : Host.Outcome State Fault Refusal :=
  onEngines (.cwStateAckRx c snapId offset) s fun s => s.cwRx c false fun s => s.stateAck snapId offset

/-- A checkpoint to a cold standby every CKPT_S seconds (R372). -/
def State.checkpointTx (s : State) : State :=
  if s.role = rolePrimary ∧ s.flag CW_STATUS_PARTNER ∧ s.pair_.partnerRole = roleCold ∧ s.pair_.ckptAt ≤ s.time.mono then
    State.sendImage { s with pair_ := { s.pair_ with ckptAt := s.time.mono + s.get CW_CFG_CKPT_S * 1000000000 } } s.now
  else s

/-- CHECKPOINT_TX. -/
def execCheckpointTx (s : State) : Host.Outcome State Fault Refusal := onEngines .checkpointTx s State.checkpointTx

/-- A joiner loads the image (R375): everything it carries, from the TICK it was taken at; the audit log notes the primary. -/
def State.loadImage (s : State) (i : StateImage) : State :=
  let s := (s.loadCore i).put ME_G_STATUS_MODE i.mode
  let s := (i.osSeq.zipIdx).foldl (fun s e => s.setWord (OS_TX_SEQ e.2) e.1) s
  let s := (i.pulses.zipIdx).foldl (fun s e =>
    let (acc, n, count) := e.1
    ((s.setPulse e.2 { s.pulse e.2 with acc, due := List.replicate n s.jobMono }).setWord (PO_COUNT e.2) count).put (PO_STATUS_BACKLOG e.2) n) s
  let s := (i.iwHeld.zipIdx).foldl (fun s e => s.setIw e.2 fun v => { v with held := e.1 }) s
  let s := s.forEach 16 fun k s => s.put (IW_STATUS_LATCHED k) (bit (i.iwLatched.testBit k))
  let s := s.forEach 32 fun r s => s.put (AL_RULE_STAT_LATCHED r) (bit (i.alLatched.testBit r))
  let s := (i.slotSeq.zipIdx).foldl (fun s e => s.setWord (AE_SLOT_SEQ e.2) e.1) s
  let s := (i.fnSeq.zipIdx).foldl (fun s e => s.setWord (fnSeqReg e.2) e.1) s
  let s := s.auditAdd { type := 8, master := 10, detail := [s.partner % 2 ^ 32, s.partner / 2 ^ 32] }
  let s := { s with
    order := { s.order with want := i.entry, waiting := s.order.waiting.filter fun r => decide (i.entry ≤ r.num) }
    pair_ := { s.pair_ with items := [], own := [], theirs := [], equalRun := 0, window := i.snapTime.tai / 10000000 + 1, judgeFrom := i.snapTime.tai + s.longestHistory } }
  (s.put CW_STATUS_SYNC syResync).laneConds.modeConds.advance

/-! ### Joining (R373, R374) -/

/-- The join in progress completes. -/
def State.endJoin (s : State) (status detail res0 : Nat) : State :=
  match s.pair_.join with
  | some w =>
    let s : State := { s with pair_ := { s.pair_ with join := none } }
    match s.host.jobs.find? fun j => j.sq == w.sq with
    | some j => s.endJob j status detail res0
    | none => s
  | none => s

/-- A join given up: a unit that was SOLO leaves the pair again. -/
def State.dropJoin (s : State) (before : Nat) : State :=
  let s := { s with pair_ := { s.pair_ with receiving := none } }
  if s.role = roleSolo then ((s.put CW_CFG_PAIR_EN 0).setPair CW_PAIR_ID_LO CW_PAIR_ID_HI before).showService (s.get CW_CFG_KEY_SLOT) else s

/-- A registers' entry of a KZ1024 checkpoint that the unit takes (R373): the bindings of slots 0 to 1023, the streams' configuration,
IDCODEs, slot and name lists and OS_TX_SEQ. -/
def checkpointReg (off : Nat) : Bool :=
  (decide (0x200000 ≤ off) && decide (off < 0x200000 + 0x40 * 1024)) || (decide (0x180000 ≤ off) && decide (off < 0x182000))

/-- A checkpoint written by KZ1024 firmware imported: the unit stands by cold, and the host supervises the partner. -/
def State.importCheckpoint (s : State) (pairId : Nat) (v : Checkpoint) : State :=
  let s := ((s.setPair CW_PAIR_ID_LO CW_PAIR_ID_HI pairId).put CW_CFG_PAIR_EN 1).showService (s.get CW_CFG_KEY_SLOT)
  let s := v.tables.foldl (fun s e => if (e.1 = 1 ∨ e.1 = 2) ∧ e.2.1 < 32 then s.putTable e.1 e.2.1 e.2.2 else s) s
  let s := v.regs.foldl (fun s e =>
    match lookup e.1 with
    | some (r, ix) =>
      if ¬ checkpointReg e.1 then s else if r.config then s.storeWrite r ix e.1 e.2 else if r.base = OS_TX_SEQ 0 then s.setReg e.1 e.2 else s
    | none => s) s
  let s := s.forEach 32 fun k s => s.setStreamLink k fun l => { l with resume := some (s.word (OS_TX_SEQ k), v.snapTime) }
  if s.role = roleCold then s else s.setRole roleCold sevNotice

/-- PAIR_JOIN may be taken (R352, R373, R378): from SOLO; by a standby that rejoins from LOST; by a cold standby in its role again. -/
def State.mayJoin (s : State) (role : Nat) : Bool :=
  s.pair_.join.isNone && s.causewayKey (s.get CW_CFG_KEY_SLOT) &&
  (s.role == roleSolo || (s.role == roleStandby && role == roleStandby && s.get CW_STATUS_SYNC == syLost) || (s.role == roleCold && role == roleCold))

/-- PAIR_JOIN accepted (R307): a checkpoint is read from its buffer in steps; else there is one step, that sends JOIN. -/
def State.pairJoin (s : State) (h : CmdHeader) (role pairId ckpt ckptLen : Nat) (import_ : Option Checkpoint) : State :=
  let before := s.pair CW_PAIR_ID_LO CW_PAIR_ID_HI
  if ¬ s.mayJoin role then s.finish h 0x70 stState
  else if role = roleCold ∧ ckpt ≠ 0 then s.startJob h 0x70 (.pairJoin role before pairId (some import_)) (max 1 ckptLen) 1
  else s.startJob h 0x70 (.pairJoin role before pairId none) 1 1

/-- The last step of PAIR_JOIN (R352, R373, R374): a checkpoint is imported where its CRC holds; else JOIN is sent, and the command waits for
the reply and the image. -/
def State.joinRun (s : State) (j : Job) (role pairId : Nat) (image : Option (Option Checkpoint)) : State :=
  if ¬ s.mayJoin role then s.endJob j stState
  else
    match image with
    | some (some v) => (s.importCheckpoint pairId v).endJob j stOk 0 pairId
    | some none => s.endJob j stIntegrity
    | none =>
      let s := ((s.setPair CW_PAIR_ID_LO CW_PAIR_ID_HI pairId).put CW_CFG_PAIR_EN 1).showService (s.get CW_CFG_KEY_SLOT)
      let s := { s with pair_ := { s.pair_ with join := some ⟨j.sq, j.tag, role⟩, receiving := none } }
      s.cwSend 0x0c (beBytes 1 role ++ beBytes 3 0 ++ beBytes 4 (s.word GL_FW_VER) ++ beBytes 32 s.fwDigest ++ beBytes 32 s.cfgDigest)

/-- PAIR_JOIN. -/
def execPairJoin (h : CmdHeader) (role pairId ckpt ckptLen : Nat) (import_ : Option Checkpoint) (s : State) : Host.Outcome State Fault Refusal :=
  let field := if role < 2 ∨ 3 < role then some 24 else if pairId = 0 then some 32 else none
  onCore (.pairJoin h role pairId ckpt ckptLen import_) s fun s => s.command h 0x70 field none fun s => s.pairJoin h role pairId ckpt ckptLen import_

/-- A primary answers JOIN (R374, R375): the first condition that fails is the RESULT; on acceptance the partner is taken, the order
log starts for a STANDBY from the last TICK before which no input is stamped any more, and a state image goes out. -/
def State.joinRx (s : State) (c : CwHeader) (role fwDigest cfgDigest : Nat) : State :=
  if s.role ≠ rolePrimary then s
  else
    let taken := s.flag CW_STATUS_PARTNER && s.order.running && (s.get CW_STATUS_SYNC == syResync || s.get CW_STATUS_SYNC == syIn)
    let result := if taken ∨ role < 2 ∨ 3 < role then 1
      else if role = roleStandby ∧ cfgDigest ≠ s.cfgDigest then 2
      else if fwDigest ≠ s.fwDigest then 3
      else if s.pair_.exhausted then 4 else 0
    if result ≠ 0 then s.cwSend 0x0d (beBytes 1 result ++ beBytes 7 0 ++ beBytes 8 0)
    else
      let s := (s.stopLog.setPair CW_PARTNER_LO CW_PARTNER_HI c.sender).put CW_STATUS_PARTNER 1
      let s := { s with pair_ := { s.pair_ with
        partnerRole := role
        differ := 0
        differing := false
        window := s.time.tai / 10000000 + 1
        judgeFrom := s.time.tai + s.longestHistory
        ckptAt := s.time.mono + s.get CW_CFG_CKPT_S * 1000000000 } }
      let s := (s.put CW_STATUS_SYNC syNone).cwSend 0x0d (beBytes 8 0 ++ beBytes 8 (s.pair_.snapId + 1))
      if role = roleStandby then
        let s := { s with order := { s.order with running := true, tickAt := (s.time.mono - stampLag) / 100000 * 100000 } }
        (s.sendImage ⟨s.nextTick, s.qualWord⟩).tickNow
      else s.sendImage s.now

/-- CW_JOIN_RX: JOIN may come from a unit that is not the partner, while there is none (R356). -/
def execCwJoinRx (c : CwHeader) (role fwVer fwDigest cfgDigest : Nat) (s : State) : Host.Outcome State Fault Refusal :=
  onEngines (.cwJoinRx c role fwVer fwDigest cfgDigest) s fun s => s.cwRx c true fun s => s.joinRx c role fwDigest cfgDigest

/-- JOIN_REPLY (R374): a refusal completes PAIR_JOIN; an acceptance takes the sender as partner and the role asked for, and the image
is awaited. -/
def State.joinReply (s : State) (c : CwHeader) (result snapId : Nat) : State :=
  match s.pair_.join with
  | none => s
  | some w =>
    if result ≠ 0 then
      let before := match s.host.jobs.find? fun j => j.sq == w.sq with
        | some j => (match j.kind with | .pairJoin _ b _ _ => b | _ => 0)
        | none => 0
      (s.dropJoin before).endJoin stState result 0
    else
      let s := (s.setPair CW_PARTNER_LO CW_PARTNER_HI c.sender).put CW_STATUS_PARTNER 1
      let s := { s with
        order := {}
        pair_ := { s.pair_ with receiving := some (snapId, 0), differ := 0, differing := false, keepAt := s.time.mono } }
      let s := s.put CW_STATUS_SYNC syNone
      if s.role = w.role then s else s.setRole w.role sevNotice

/-- CW_JOIN_REPLY_RX. DEDUCED (log 46): a unit that waits for the reply has no partner yet, so the exemption of R356 for JOIN holds for
the reply too, and for its copy by the other lane. -/
def execCwJoinReplyRx (c : CwHeader) (result snapId : Nat) (s : State) : Host.Outcome State Fault Refusal :=
  onEngines (.cwJoinReplyRx c result snapId) s fun s => s.cwRx c (s.pair_.join.isSome || s.hasHeard c) fun s => s.joinReply c result snapId

/-- A chunk of an image: taken in order and acknowledged; the last one completes the image, which a STANDBY loads and a COLD_STANDBY
keeps. -/
def State.stateRx (s : State) (snapId offset len total : Nat) (i : StateImage) : State :=
  let cur := if s.role = roleCold ∧ offset = 0 then some (snapId, 0) else s.pair_.receiving
  match cur with
  | none => s
  | some (id, got) =>
    if id ≠ snapId then s
    else
      let got := if offset = got then got + len else got
      let s := { s with pair_ := { s.pair_ with receiving := some (id, got) } }
      let s := s.cwSend 9 (beBytes 8 snapId ++ beBytes 4 got)
      if got < total then s
      else
        let s := { s with pair_ := { s.pair_ with receiving := none } }
        if ¬ i.formatOk then s.endJoin stIntegrity 0 0
        else
          let s := if s.role = roleCold then { s with pair_ := { s.pair_ with checkpoint := some i } } else s.loadImage i
          s.endJoin stOk 0 (s.pair CW_PAIR_ID_LO CW_PAIR_ID_HI)

/-- CW_STATE_RX. -/
def execCwStateRx (c : CwHeader) (snapId offset len total : Nat) (image : StateImage) (s : State) : Host.Outcome State Fault Refusal :=
  onEngines (.cwStateRx c snapId offset len total image) s fun s => s.cwRx c false fun s => s.stateRx snapId offset len total image

/-! ### Proof of the output paths (R377) -/

/-- A path proven after a promotion, or failed. -/
def State.pathCheck (s : State) (path : Nat) (ok : Bool) : State :=
  if s.role ≠ rolePrimary then s
  else if ok then s.put ⟨CW_PROOF, path, path⟩ 1
  else (s.put ⟨CW_PROOF, 8 + path, 8 + path⟩ 1).raise EV_CW_PATH_FAIL sevCritical path path

/-- PATH_CHECK. -/
def execPathCheck (path : Nat) (ok : Bool) (s : State) : Host.Outcome State Fault Refusal :=
  onEngines (.pathCheck path ok) s fun s => s.pathCheck path ok

end Sys2Proof.Machine
end

