-- ==== Sys2Proof/Machine/Resets.lean ====
section
/-!
DEFINITION. What several resets and loads share: configuration load (R411), and the class C and P reset (R415).
-/

namespace Sys2Proof.Machine

/-! ### Configuration load (R411) -/

/-- The place of a register in the order of R411, with R197's order of the slots, their layout and their enables. Each step comes after
all that its refusal rules read: a lane's, a meter's and a pulse output's enable after what it is judged by. Registers that the rule does
not list come last, with the customer cores. -/
def loadRank (off : Nat) : Nat :=
  let base := (lookup off).map fun r => r.1.base
  if off = PE_G_CFG then 2
  else if off < 0x10000 then 19
  else if 0x20000 ≤ off ∧ off < 0x60000 ∧ ¬ (0x30000 ≤ off ∧ off < 0x40000) then 1
  else if 0x140000 ≤ off ∧ off < 0x160000 then 3
  else if 0x100000 ≤ off ∧ off < 0x140000 then (if base = some (LN_CFG 0) then 5 else 4)
  else if 0x340000 ≤ off ∧ off < 0x360000 then (if base = some (ME_CFG 0) then 7 else 6)
  else if 0x360000 ≤ off ∧ off < 0x370000 then (if base = some (PO_CFG 0) then 8 else 6)
  else if 0x200000 ≤ off ∧ off < 0x300000 then
    (if off = AE_CFG then 10 else if off < 0x2f0000 ∧ off % 64 = 0 then 11 else if FS_DLV_CFG 0 ≤ off ∧ off ≤ FS_DLV_CFG 7 then 12 else 9)
  else if 0x160000 ≤ off ∧ off < 0x180000 then 13
  else if 0x180000 ≤ off ∧ off < 0x190000 then 14
  else if 0x300000 ≤ off ∧ off < 0x340000 then (if base.any fun b => decide (AL_RULE_CFG 0 ≤ b) then 15 else 16)
  else if 0x370000 ≤ off ∧ off < 0x380000 then (if off < 0x374000 ∧ off % 0x400 = 0x14 then 18 else 17)
  else if 0x3d0000 ≤ off ∧ off < 0x3e0000 then 18
  else 19

/-- A partition's writes of one place in the order of R411, as stored. -/
def ranked (k : Nat) (ws : List (Nat × Nat)) : List (Nat × Nat) := ws.filter fun e => loadRank e.1 == k

/-- A partition applied (R411): slots, streams and watchers are first written with EN 0, tables come before the enables judged by
them, and the RWL writes form one audit change set. -/
def State.applyConfig (s : State) (c : StoredConfig) : State :=
  let part (run : State × List (Nat × Nat)) (lo hi : Nat) :=
    (List.range (hi + 1 - lo)).foldl (fun run i => State.loadInOrder .configLoad c.writes.length (ranked (lo + i) c.writes) run) run
  let run := part (s, []) 1 8
  let run := part (run.1.loadDisabled (ranked 11 c.writes), run.2) 9 11
  let run := part (run.1.loadTables [3] c.tables, run.2) 12 13
  let run := part ((run.1.loadDisabled (ranked 14 c.writes)).loadTables [1, 2] c.tables, run.2) 14 15
  let run := part ((run.1.loadDisabled (ranked 16 c.writes)).loadTables [4] c.tables, run.2) 16 19
  run.1.auditSet .configLoad run.2

/-- What a partition holds after later stores: a register's or table's newest entry stands. -/
def StoredConfig.merge (old new : StoredConfig) : StoredConfig where
  writes := (old.writes.filter fun e => !(new.writes.any fun q => q.1 == e.1)) ++ new.writes
  tables := (old.tables.filter fun e => !(new.tables.any fun q => q.1 == e.1 && q.2.1 == e.2.1)) ++ new.tables

/-! ### Class C and P resets (R9, R415) -/

/-- The MRAM fields that a register of class C shows (10, 15, 16). -/
def mramBits (off : Nat) : Nat :=
  if off = FU_STATUS then 0x004f00f7 else if off = IG_STATUS then 8 else if off = PL_TAIL_SEQ then 0xffffffff else 0

/-- A register after a reset that covers it: its reset value, but for the bits that show MRAM. -/
def coldWord (off : Nat) (w : Word) : Word :=
  let m : Word := BitVec.ofNat 32 (mramBits off)
  (resetWord off &&& ~~~ m) ||| (w &&& m)

/-- The registers after a reset of class C or P. -/
def State.coldRegs (s : State) (cls : ResetClass) : Store Word :=
  s.regs.foldl (fun a e =>
    if e.1 = HI_STATUS then a
    else if cls.covers (resetClassOf e.1) then Store.set resetWord a e.1 (coldWord e.1 e.2)
    else Store.set resetWord a e.1 e.2) []

/-- Whether a device address lies in MRAM (01). -/
def inMram (addr : Nat) : Bool := decide (0x100000000000 ≤ addr) && decide (addr < 0x100008000000)

/-- A class C or P reset: everything but MRAM, NAND, OTP and key cells takes its reset value; class C keeps the battery domain. DRAM and
on-die SRAM lose their contents (log 2). The block then boots, or waits in reset while RST_n is low. -/
def State.coldReset (s : State) (cls : ResetClass) (held : Bool) : State where
  regs := s.coldRegs cls
  mem := s.mem.filter fun c => inMram c.1
  time := { tai := s.time.tai, lastLeap := if cls = .p then none else s.time.lastLeap }
  cal := if cls = .p then {} else s.cal
  peat := { tail := s.peat.tail }
  power := { phase := if held then .held else .booting, classP := cls == .p }
  meter := {
    saves := s.meter.saves ++ s.meter.saving.map CoreSave.unfinished
    lastSeq := s.meter.lastSeq
    queue := s.meter.queue
    audit := s.meter.audit
    auditRaw := s.meter.auditRaw
    acked := s.meter.acked
    olCopied := if cls = .p then 0 else s.meter.olCopied
    olStart := if cls = .p then none else s.meter.olStart
    sentEntry := if cls = .p then [] else s.meter.sentEntry
    inOutage := if cls = .p then false else s.meter.inOutage }
  keys := { s.keys with drbg := none, requests := 0, reseedAt := 0 }
  host := { perst := s.host.perst }
  fw := { s.fw with verifying := none, copying := none, receive := none, sends := [], startEnds := none, cfgWaiting := [] }
  integ := { capsule := s.integ.capsule, bad := s.integ.bad.filter inMram }
  free := s.free
  out := s.out ++ [.linesFloat]
  pending := s.pending

end Sys2Proof.Machine
end

