-- ==== Sys2Proof/Machine/Firmware.lean ====
section
/-!
DEFINITION. Firmware update along the chain (15, R380 to R391).
-/

namespace Sys2Proof.Machine

/-- The firmware states (R383). -/
abbrev fuRunning : Nat := 0
@[inherit_doc fuRunning] abbrev fuStaged : Nat := 1
@[inherit_doc fuRunning] abbrev fuArmed : Nat := 2
@[inherit_doc fuRunning] abbrev fuProvisional : Nat := 3
@[inherit_doc fuRunning] def State.fuState (s : State) : Nat := s.get FU_STATUS_STATE
@[inherit_doc fuRunning] def State.fuKind (s : State) : Nat := s.get FU_STATUS_KIND

/-- Verification's steps (R381). -/
def verifySteps (i : Image) : Nat := 1 + (i.length + 131071) / 131072

/-! ### Verification (R381) -/

/-- The first check an image fails, as a completion status and a RESULT. DESIGN CHOICE (log 47): a body that fails its digest counts
as E_INTEGRITY and RESULT 2. -/
def State.imageFault (s : State) (i : Image) : Option (Nat × Nat) :=
  let kind := imgKind i
  if imgField i 0 4 ≠ 0x49465a4b ∨ imgField i 4 2 ≠ 1 ∨ 2 < kind ∨ longestImage kind < i.length ∨ i.length ≠ 16480 + imgBodyLen i then some (stRange, 2)
  else if imgField i 8 2 ≠ 0x8192 ∨ s.get GL_ID_STEP < imgField i 10 1 ∨ (kind = 0 ∧ (s.fwFormat < imgFrom i ∨ imgFormat i < s.fwFormat)) then some (stRange, 4)
  else if beNat ((i.drop 64).take 32) ≠ sha256 (imgBody i) then some (stIntegrity, 2)
  else
    let k := imgSlot i
    let signed := if kind = 0 then slhVerify 6 (beBytes 48 Config.firmwareKey) (imgSigned i) (imgSignature i)
      else s.keyAlg k == 6 && s.keyUsage k == 8 && slhVerify 6 (beBytes 48 (s.keyOf k)) (imgSigned i) (imgSignature i)
    if signed then none else some (stAuth, 1)

/-! ### Relay packets (R387, R388) -/

/-- FU_STATUS.RELAY brought up to date. -/
def State.showRelay (s : State) : State :=
  let v := match s.fw.verifying with
    | some r => if r.command.isNone then 2 else 0
    | none => 0
  let v := if v ≠ 0 then v else if s.fw.receive.isSome then 1 else if s.fw.sends.any fun x => !x.verified then 3 else 0
  s.put FU_STATUS_RELAY v

/-- The bytes of a relay packet (R387). -/
def State.relayBytes (s : State) (type session index : Nat) (data : List Byte) : List Byte :=
  let b := beBytes 4 0x46524c59 ++ beBytes 1 1 ++ beBytes 1 type ++ beBytes 2 0 ++ beBytes 8 session ++ beBytes 8 s.serial ++
    beBytes 4 index ++ beBytes 4 data.length ++ data
  b ++ beBytes 4 (crc32c b)

/-- A relay packet sent over the causeway, or by UDP to the neighbour up or down the chain on the port and UDP port of FU_RELAY_CFG
(R388). DESIGN CHOICE (log 188): its source port is that UDP port too. -/
def State.relayOut (s : State) (causeway up : Bool) (type session index : Nat) (data : List Byte) : State :=
  let b := s.relayBytes type session index data
  if causeway then s.cwSend 0x0e b
  else
    let v6 := s.flag FU_RELAY_CFG_IPV6
    let dst := (List.range (if v6 then 4 else 1)).map fun k => s.word (if up then FU_UP_IP k else FU_DN_IP k)
    (s.emit (.relay dst (s.get FU_RELAY_CFG_UDP_PORT) b)).txSend (s.get FU_RELAY_CFG_PORT) (Config.relayQueue % 7)
      { kind := .relay, length := max 64 (b.length + 8 + (if v6 then 40 else 20) + 18), payload := b }

/-- The chunks a receiver lacks: NEXT and MASK. -/
def RelayReceive.ack (r : RelayReceive) : List Byte :=
  let n := chunksOf r.length
  let has (i : Nat) : Bool := r.held.any fun h => h.1 == i
  let next := ((List.range n).find? fun i => !has i).getD n
  beBytes 4 next ++ beBytes 4 ((List.range 32).foldl (fun a i => a + bit (has (next + 1 + i)) * 2 ^ i) 0)

/-- The image that the chunks held make up. -/
def RelayReceive.image (r : RelayReceive) : Image :=
  (List.range (chunksOf r.length)).flatMap fun i => ((r.held.find? fun h => h.1 == i).map (·.2)).getD []

/-- An ACK of what the receiver holds. -/
def State.relayAck (s : State) : State :=
  match s.fw.receive with
  | none => s
  | some r =>
    let s := { s with fw := { s.fw with receive := some { r with sinceAck := 0, acked := true } } }
    s.relayOut r.causeway true 3 r.session 0 r.ack

/-- One chunk of an image sent. -/
def State.relaySendChunk (s : State) (x : RelaySend) (i : Nat) : State :=
  s.relayOut x.causeway false 2 x.session i ((x.image.drop (8192 * i)).take 8192)

/-- Chunks sent until 64 are unacknowledged or none is left; `n` at most. -/
def State.relayFill (s : State) : Nat → RelaySend → State × RelaySend
  | 0, x => (s, x)
  | n + 1, x =>
    if 64 ≤ x.unacked.length ∨ chunksOf x.image.length ≤ x.next then (s, x)
    else State.relayFill (s.relaySendChunk x x.next) n { x with unacked := x.unacked ++ [(x.next, s.time.mono)], next := x.next + 1 }

/-- A session to one receiver put in place of the one before it. -/
def State.setSend (s : State) (x : RelaySend) : State :=
  { s with fw := { s.fw with sends := (s.fw.sends.filter fun y => y.causeway != x.causeway) ++ [x] } }

/-- An OFFER and the first chunks. -/
def State.relayStart (s : State) (causeway : Bool) (i : Image) (hops : Nat) : State :=
  let d := imgDigest i
  let s := s.relayOut causeway false 1 (sessionOf d) 0 (beBytes 8 i.length ++ beBytes 1 (imgKind i) ++ beBytes 1 hops ++ beBytes 6 0 ++ beBytes 32 d)
  let (s, x) := s.relayFill 64 { session := sessionOf d, causeway, image := i, hops, progress := s.time.mono }
  s.setSend x

/-- A verified image forwarded (R388). DEDUCED (log 49): FWD_EN governs the downstream neighbour; a PRIMARY sends to its partner
whenever hops are left, and the host's own image only where it asked for forwarding. -/
def State.relayForward (s : State) (r : StageRun) : State :=
  if ¬ r.forward ∨ r.hops = 0 then s
  else
    let s := s.when (s.flag FU_RELAY_CFG_FWD_EN) fun s => s.relayStart false r.image r.hops
    s.when (s.role == rolePrimary && s.flag CW_STATUS_PARTNER) fun s => s.relayStart true r.image r.hops

/-- An ARM with its kick-off. -/
def State.relaySendArm (s : State) (x : RelaySend) (kick : Nat) : State := s.relayOut x.causeway false 6 x.session 0 (stampBE ⟨kick, 0⟩)

/-- ARM to each receiver that has verified the staged image (R389). -/
def State.relayArm (s : State) (kick : Nat) : State :=
  match s.fw.staged with
  | none => s
  | some i => (s.fw.sends.filter fun x => x.verified && x.session == sessionOf (imgDigest i)).foldl (fun s x => s.relaySendArm x kick) s

/-! ### Staging (R381 to R383) -/

/-- A RESULT answered to whoever offered the image. -/
def State.relayResult (s : State) (causeway : Bool) (digest status : Nat) : State :=
  s.relayOut causeway true 4 (sessionOf digest) 0 (beBytes 1 status ++ beBytes 7 0 ++ beBytes 32 digest)

/-- What ends the FW_STAGE that waits for an image, if one does. -/
def State.endStage (s : State) (r : StageRun) (status res0 res1 : Nat) : State :=
  match r.command with
  | none => s
  | some (q, tag) =>
    match s.host.jobs.find? fun j => j.sq == q && j.opcode == 0x60 with
    | some j => s.endJob j status (if status = stRange then 0xffff else 0) res0 res1
    | none => s.complete { tag, sq := q, opcode := 0x60, status, res0, res1 }

/-- An image turned away. -/
def State.rejectImage (s : State) (r : StageRun) (status result : Nat) : State :=
  let s := { s with fw := { s.fw with verifying := none, receive := if r.command.isNone then none else s.fw.receive } }
  let s := s.when (status == stAuth) fun s => (s.count (fuCnt 2)).raise EV_FU_SIG_FAIL sevMajor r.sender
  (match r.command with
    | some _ => s.endStage r status 0 0
    | none => s.relayResult r.causeway r.digest result).showRelay

/-- Verification ends (R381, R388): a rejection is answered; a verified image is forwarded and its copy begins. An image whose firmware
state has become ARMED or PROVISIONAL meanwhile is turned away with E_STATE (R383). -/
def State.imageVerified (s : State) : State :=
  match s.fw.verifying with
  | none => s
  | some r =>
    let ready : Bool := match r.command with
      | none => true
      | some (q, _) => s.host.jobs.any fun j => j.sq == q && j.opcode == 0x60 && j.done == j.all
    if ¬ ready then s
    else if fuArmed ≤ s.fuState then s.rejectImage r stState 3
    else
      match s.imageFault r.image with
      | some (st, result) => s.rejectImage r st result
      | none =>
        let s := { s with fw := { s.fw with verifying := none, copying := some r, receive := if r.command.isNone then none else s.fw.receive } }
        let s := s.when r.command.isNone fun s => s.relayResult r.causeway r.digest 0
        (s.relayForward r).showRelay

/-- IMAGE_VERIFIED. -/
def execImageVerified (s : State) : Host.Outcome State Fault Refusal := onCore .imageVerified s State.imageVerified

/-- The slot or bank that an image is copied to: the one that does not run. -/
def putAt (l : List (Option Image)) (k : Nat) (i : Image) : List (Option Image) := l.set k (some i)

/-- The bank that is not active. -/
def State.freeBank (s : State) : Nat := if s.fw.bank = some 0 then 1 else 0

/-- A verified image in its place (R382). What a configuration image's body states is left free (log 189). -/
def State.placeImage (s : State) (i : Image) : State :=
  if imgKind i = 0 then { s with fw := { s.fw with slots := putAt s.fw.slots (1 - s.fw.slot) i } }
  else if imgKind i = 1 then { s with fw := { s.fw with banks := putAt s.fw.banks s.freeBank i } }
  else { s with fw := { s.fw with storedNew := some { writes := Config.configWrites (imgBody i), tables := Config.configTables (imgBody i) } } }

/-- The copy ends: the image is STAGED, replacing the one staged before, and FW_STAGE completes (R382, R383). Where neither slot verified
at the start, a firmware image goes to slot A and the module restarts itself (R410). -/
def State.imageCopied (s : State) : State :=
  match s.fw.copying with
  | none => s
  | some r =>
    let i := r.image
    if s.power.bootHeld ∧ imgKind i = 0 then
      let s := { s with fw := { s.fw with copying := none, slots := putAt s.fw.slots 0 i, slot := 0, staged := none } }
      let s := (s.endStage r stOk (imgVersion i) (sessionOf (imgDigest i))).setWord (FU_VER 0) (imgVersion i)
      (s.emit .selfReset).coldReset .c false
    else
      let s := State.placeImage { s with fw := { s.fw with copying := none, staged := some i, storedNew := none } } i
      let s := ((s.put FU_STATUS_STATE fuStaged).put FU_STATUS_KIND (imgKind i)).setWord (FU_VER 1) (imgVersion i)
      (s.raise EV_FU_STAGED sevNotice (imgKind i)).endStage r stOk (imgVersion i) (sessionOf (imgDigest i))

/-- IMAGE_COPY_DONE. -/
def execImageCopyDone (s : State) : Host.Outcome State Fault Refusal := onCore .imageCopyDone s State.imageCopied

/-- FW_STAGE (R383): the receive buffer holds one image at a time. -/
def State.imageStage (s : State) (h : CmdHeader) (forward : Bool) (i : Image) (readOk : Bool) : State :=
  if ¬ readOk then s.finish h 0x60 stIntegrity
  else if fuArmed ≤ s.fuState then s.finish h 0x60 stState
  else if s.fw.verifying.isSome ∨ s.fw.copying.isSome ∨ s.fw.receive.isSome then s.finish h 0x60 stBusy
  else
    let run : StageRun := { image := i, digest := imgDigest i, sender := 0, hops := s.get FU_RELAY_CFG_HOPS, forward, command := some (h.sq, h.tag) }
    State.startJob { s with fw := { s.fw with verifying := some run } } h 0x60 (.imageStage i forward) (verifySteps i) (2 ^ 30)

/-- FW_STAGE. -/
def execImageStage (h : CmdHeader) (kind flags : Nat) (image : Image) (readOk : Bool) (s : State) : Host.Outcome State Fault Refusal :=
  let field := if 2 < kind ∨ (imgField image 0 4 = 0x49465a4b ∧ imgKind image ≠ kind) then some 24 else if 1 < flags then some 25 else none
  onCore (.imageStage h kind flags image readOk) s fun s => s.command h 0x60 field none fun s => s.imageStage h (flags == 1) image readOk

/-! ### Kick-off (R383, R384) -/

/-- The staged image armed at a kick-off. -/
def State.armKick (s : State) (kick : Nat) : State :=
  let sec := kick / 1000000000
  let s := ((s.setWord FU_KICK_NS (kick % 1000000000)).setWord FU_KICK_SEC_LO (sec % 2 ^ 32)).setWord FU_KICK_SEC_HI (sec / 2 ^ 32 % 65536)
  ((s.put FU_STATUS_STATE fuArmed).put FU_STATUS_MISSED 0).relayArm kick

/-- The staged image may be armed at a kick-off: MIN_LEAD s ahead. -/
def State.leadOk (s : State) (kick : Nat) : Bool := decide (s.jobTai + s.get FU_CFG_MIN_LEAD * 1000000000 ≤ kick)

/-- FW_ARM. DESIGN CHOICE (log 50): while another image is copied over the staged one, E_BUSY. -/
def State.fwArm (s : State) (h : CmdHeader) (kick : Nat) : State :=
  if s.fuState ≠ fuStaged ∧ s.fuState ≠ fuArmed then s.finish h 0x61 stState
  else if s.fw.copying.isSome then s.finish h 0x61 stBusy
  else if ¬ s.leadOk kick then s.finish h 0x61 stRange 24
  else (s.armKick kick).finish h 0x61 stOk 0 (s.word (FU_VER 1))

/-- FW_ARM. -/
def execFwArm (h : CmdHeader) (kickoff : Nat) (s : State) : Host.Outcome State Fault Refusal :=
  onCore (.fwArm h kickoff) s fun s => s.command h 0x61 none none fun s => s.fwArm h kickoff

/-- A TYPE 11 audit entry with the old and new VERSION (R384, R386). DESIGN CHOICE (log 51): its MASTER is AC0. -/
def State.auditActivation (s : State) (old new : Nat) : State := s.auditAdd { type := 11, master := 1, detail := [old, new] }

/-- The threads of a core group start again: waits cleared, enabled threads READY in thread order, no thread current. -/
def State.restartThreads (s : State) (customer : Bool) : State :=
  let mine (t : Nat) : Bool := decide (256 ≤ t) == customer
  let s := { s with sched := { s.sched with
    ready := s.sched.ready.filter fun t => !mine t
    waits := s.sched.waits.filter fun e => !mine e.1 } }
  let base := if customer then 4 else 0
  let s := s.forEach 4 fun c s => ((s.put (SC_CORE_STAT_CUR_VALID (base + c)) 0).put (SC_CORE_STAT_MEIP (base + c)) 0).put (SC_CORE_STAT_PREEMPT_HELD (base + c)) 0
  s.forEach 256 fun k s =>
    let t := if customer then 256 + k else k
    if s.flag (SC_THR_CFG_EN t) then s.makeReady t else s

/-- The firmware cores started on the running slot (R384): its version and slot shown. -/
def State.startFirmware (s : State) (version : Nat) : State :=
  let s := ((s.setWord GL_FW_VER version).put GL_STATUS_SLOT s.fw.slot).restartThreads false
  s.forEach 4 fun c s => (s.put (SC_CORE_CTRL_RUN c) 1).put (SC_CORE_STAT_STATE c) 1

/-- AC4 to AC7 started on the active bank (R317): each core the image names runs from its entry, the others stay in reset. DEDUCED
(log 52): RUN shows which run. -/
def State.startCustomer (s : State) : State :=
  let img := s.fw.bank.bind fun b => s.fw.banks.getD b none
  let named := match img with
    | none => []
    | some i => ((List.range 4).filter fun c => imgEntry i c != 0).map (4 + ·)
  let s := State.restartThreads { s with sched := { s.sched with customerImage := img.isSome, customerCores := named } } true
  s.forEach 4 fun c s =>
    let on := bit (named.contains (4 + c))
    (s.put (SC_CORE_CTRL_RUN (4 + c)) on).put (SC_CORE_STAT_STATE (4 + c)) on

/-- A start of the provisional firmware counted (R385). -/
def State.countStart (s : State) : State :=
  let s := s.put FU_STATUS_BOOT_TRIES (min 15 (s.get FU_STATUS_BOOT_TRIES + 1))
  { s with fw := { s.fw with startEnds := some (s.time.mono + s.get FU_CFG_START_S * 1000000000) } }

/-- SERVICE set (R385, R411): a provisional start has succeeded if within START_S; source 222 fires. -/
def State.serviceOn (s : State) : State :=
  let ok : Bool := match s.fw.startEnds with
    | some t => decide (s.time.mono ≤ t)
    | none => false
  let s := s.when ok fun s => s.put FU_STATUS_BOOT_TRIES 0
  let s := s.when (!s.flag GL_STATUS_SERVICE) fun s => (s.put GL_STATUS_SERVICE 1).fire 222
  { s with fw := { s.fw with startEnds := none } }

/-- The staged image becomes PROVISIONAL. -/
def State.toProvisional (s : State) (i : Image) (old : Nat) : State :=
  let s := (s.put FU_STATUS_STATE fuProvisional).auditActivation old (imgVersion i)
  let s := { s with fw := { s.fw with storedNew := some (s.fw.storedNew.getD s.fw.stored) } }
  (s.raise EV_FU_ACTIVATED sevNotice (imgKind i)).fire 221

/-- Firmware activated: the switch begins (R384). -/
def State.activateFirmware (s : State) (i : Image) : State :=
  let old := s.word GL_FW_VER
  let s := { s with fw := { s.fw with slot := 1 - s.fw.slot } }
  let s := (s.toProvisional i old).put FU_STATUS_SWITCHING 1
  let s := s.when (s.flag GL_STATUS_SERVICE) fun s => (s.put GL_STATUS_SERVICE 0).fire 222
  let s := { s with host := { s.host with hbDue := none } }
  ((s.startFirmware (imgVersion i)).countStart).tcpDropAll true

/-- A customer image activated. -/
def State.activateCustomer (s : State) (i : Image) : State :=
  let old := s.word (FU_VER 2)
  let s := { s with fw := { s.fw with oldBank := s.fw.bank, bank := some s.freeBank } }
  ((s.toProvisional i old).setWord (FU_VER 2) (imgVersion i)).startCustomer

/-- The RWL writes of a configuration. -/
def legalWrites (ws : List (Nat × Nat)) : Bool := ws.any fun e => (lookup e.1).any fun r => r.1.legal

/-- A configuration image activated as one load and one change set; with RWL writes and the audit log full it stays STAGED. -/
def State.activateConfig (s : State) (i : Image) : State :=
  let c := s.fw.storedNew.getD {}
  if legalWrites c.writes ∧ s.auditFull then (s.put FU_STATUS_STATE fuStaged).raise EV_FU_AUDIT_FULL sevMajor 2
  else
    let s := (s.toProvisional i s.fw.cfgVer).applyConfig c
    { s with fw := { s.fw with cfgVer := imgVersion i, oldCfgVer := s.fw.cfgVer } }

/-- The kick-off reached (R383, R390, R408). Commands already fetched complete before the cores switch to new firmware (R384, log 227). -/
def State.kickOff (s : State) : State :=
  if s.fuState ≠ fuArmed ∨ s.jobTai < s.kickTai then s
  else if s.timeState ≠ tsLocked ∨ s.holdup then s.missKick
  else
    match s.fw.staged with
    | none => s.missKick
    | some i => if imgKind i = 0 ∧ ¬ s.host.started.isEmpty then s else if imgKind i = 0 then s.activateFirmware i else if imgKind i = 1 then s.activateCustomer i else s.activateConfig i

/-- KICKOFF. -/
def execKickoff (s : State) : Host.Outcome State Fault Refusal := onEngines .kickoff s State.kickOff

/-- The switch ends (R384): the firmware serves, frames that waited are compared, the heartbeat timer starts again. -/
def State.switchOver (s : State) : State :=
  let s := (s.put FU_STATUS_SWITCHING 0).serviceOn
  let frames := s.fw.cfgWaiting
  let hb := if s.host.hbTimeout = 0 then none else some (s.time.mono + s.host.hbTimeout * 1000000)
  let s := { s with
    fw := { s.fw with cfgWaiting := [] }
    host := { s.host with hbDue := hb } }
  frames.foldl State.cfgCheck s

/-- ACTIVATION_END. -/
def execActivationEnd (s : State) : Host.Outcome State Fault Refusal :=
  onCore .activationEnd s fun s => if s.flag FU_STATUS_SWITCHING then s.switchOver else s

/-! ### Confirmation and fall-back (R385, R386) -/

/-- FW_CONFIRM: the copy of the configuration runs in the background; what it will leave is what the partition already reads as. -/
def State.fwConfirm (s : State) (h : CmdHeader) : State :=
  if s.fuState ≠ fuProvisional then s.finish h 0x62 stState
  else
    let v := s.word (FU_VER 1)
    let s := s.when (s.fuKind == 0) fun s => s.setWord (FU_VER 0) v
    let s := { s with fw := { s.fw with stored := s.fw.storedNew.getD s.fw.stored, staged := none, oldBank := none } }
    ((s.put FU_STATUS_STATE fuRunning).put FU_STATUS_COPYING 1).finish h 0x62 stOk 0 v

/-- FW_CONFIRM. -/
def execFwConfirm (h : CmdHeader) (s : State) : Host.Outcome State Fault Refusal :=
  onCore (.fwConfirm h) s fun s => s.command h 0x62 none none fun s => s.fwConfirm h

/-- The copy into 0x2000_0000 ends. A configuration image staged meanwhile stays in its partition. -/
def State.configCopied (s : State) : State :=
  if ¬ s.flag FU_STATUS_COPYING then s
  else
    let s := if s.fuState = fuRunning then { s with fw := { s.fw with storedNew := none } } else s
    s.put FU_STATUS_COPYING 0

/-- CONFIG_COPY_DONE. -/
def execConfigCopyDone (s : State) : Host.Outcome State Fault Refusal := onCore .configCopyDone s State.configCopied

/-- The version that a fall-back returns to. -/
def State.oldVersion (s : State) : Nat :=
  if s.fuKind = 0 then s.word (FU_VER 0)
  else if s.fuKind = 1 then ((s.fw.oldBank.bind fun b => s.fw.banks.getD b none).map imgVersion).getD 0
  else s.fw.oldCfgVer

/-- A fall-back's change of slot or bank, without the restart: the entry, the event and the state. -/
def State.fallBackTo (s : State) (data : Nat) : State :=
  let old := s.oldVersion
  let kind := s.fuKind
  let s := s.auditActivation (s.word (FU_VER 1)) old
  let s := if kind = 0 then { s with fw := { s.fw with slot := 1 - s.fw.slot } }
    else if kind = 1 then State.setWord { s with fw := { s.fw with bank := s.fw.oldBank } } (FU_VER 2) old
    else { s with fw := { s.fw with cfgVer := old } }
  let s := { s with fw := { s.fw with storedNew := none, staged := none, oldBank := none, startEnds := none } }
  let s := ((s.put FU_STATUS_STATE fuRunning).put FU_STATUS_BOOT_TRIES 0).put FU_STATUS_SWITCHING 0
  s.raise EV_FU_FALLBACK sevMajor kind 0 data

/-- A fall-back of a module that runs (R386): the cores restarted, the configuration loaded again as one audit set. -/
def State.fallBack (s : State) (data : Nat) : State :=
  let kind := s.fuKind
  let old := s.oldVersion
  let s := s.fallBackTo data
  let s := if kind = 0 then ((s.startFirmware old).tcpDropAll true).switchOver else if kind = 1 then s.startCustomer else s
  s.applyConfig s.fw.stored

/-- FW_FALLBACK: the completion is posted before the restart (R386). -/
def State.fwFallback (s : State) (h : CmdHeader) : State :=
  if s.fuState ≠ fuProvisional then s.finish h 0x63 stState else (s.finish h 0x63 stOk 0 s.oldVersion).fallBack 0

/-- FW_FALLBACK. -/
def execFwFallback (h : CmdHeader) (s : State) : Host.Outcome State Fault Refusal :=
  onCore (.fwFallback h) s fun s => s.command h 0x63 none none fun s => s.fwFallback h

/-- START_S passes without SERVICE (R385): the next start, or the boot loader's own fall-back. -/
def State.startLimit (s : State) : State :=
  match s.fw.startEnds with
  | none => s
  | some t =>
    if s.fuState ≠ fuProvisional ∨ s.time.mono < t ∨ s.flag GL_STATUS_SERVICE then s
    else if s.get FU_CFG_BOOT_MAX ≤ s.get FU_STATUS_BOOT_TRIES then s.fallBack 1
    else (s.startFirmware (s.word (FU_VER 1))).countStart

/-- START_LIMIT_EXPIRE. -/
def execStartLimitExpire (s : State) : Host.Outcome State Fault Refusal := onCore .startLimitExpire s State.startLimit

/-! ### The relay's receiver (R388, R389) -/

/-- A packet taken: from the sender's side only from upstream while ACCEPT is 1; from a receiver, not from upstream. One that fails its
CRC or format is dropped and counted. DEDUCED (log 53): ACKs and RESULTs come from downstream. -/
def State.relayRx (s : State) (causeway : Bool) (r : RelayHeader) (fromSender : Bool) (run : State → State) : State :=
  let admitted := if fromSender then s.flag FU_RELAY_CFG_ACCEPT && (causeway || r.fromUpstream) else causeway || !r.fromUpstream
  if ¬ admitted then s else if ¬ r.crcOk ∨ ¬ r.formatOk then s.count (fuCnt 0) else run s

/-- OFFER: one whose SESSION is not that of its digest fails its format. -/
def State.relayOffer (s : State) (causeway : Bool) (r : RelayHeader) (length kind hops digest : Nat) : State :=
  let busy : Bool := s.fw.verifying.isSome || s.fw.copying.isSome || s.fw.receive.isSome || decide (fuArmed ≤ s.fuState)
  let same : Bool := match s.fw.receive with
    | some x => x.session == r.session && x.causeway == causeway
    | none => false
  if r.session ≠ sessionOf digest then s.count (fuCnt 0)
  else if same then { s with fw := { s.fw with receive := s.fw.receive.map fun (x : RelayReceive) => { x with progress := s.time.mono } } }
  else if busy then s.relayResult causeway digest 3
  else if 2 < kind ∨ longestImage kind < length ∨ length < 16480 then s.relayResult causeway digest 2
  else
    let x : RelayReceive := { session := r.session, sender := r.sender, causeway, length, kind, digest, hops, lastAt := s.time.mono, progress := s.time.mono, acked := true }
    State.showRelay { s with fw := { s.fw with receive := some x } }

/-- RELAY_OFFER_RX. -/
def execRelayOfferIn (r : RelayHeader) (length kind hops digest : Nat) (s : State) : Host.Outcome State Fault Refusal :=
  onEngines (.relayOfferIn r length kind hops digest) s fun s => s.relayRx false r true fun s => s.relayOffer false r length kind hops digest

/-- A chunk of the session in progress, as long as its place asks; the last one starts verification. -/
def State.relayChunk (s : State) (causeway : Bool) (r : RelayHeader) (data : List Byte) : State :=
  match s.fw.receive with
  | none => s
  | some x =>
    let n := chunksOf x.length
    if x.session ≠ r.session ∨ x.causeway ≠ causeway ∨ s.fw.verifying.isSome then s
    else if n ≤ r.index ∨ data.length ≠ min 8192 (x.length - 8192 * r.index) then s.count (fuCnt 0)
    else if x.held.any fun h => h.1 == r.index then s
    else
      let x := { x with held := x.held ++ [(r.index, data)], lastAt := s.time.mono, progress := s.time.mono, sinceAck := x.sinceAck + 1, acked := false }
      let s := { s with fw := { s.fw with receive := some x } }
      let s := s.when (x.sinceAck == 16) State.relayAck
      if x.held.length < n then s
      else
        let run : StageRun := { image := x.image, digest := x.digest, sender := x.sender, causeway, hops := x.hops - 1, forward := true }
        State.showRelay { s with fw := { s.fw with verifying := some run } }

/-- RELAY_CHUNK_RX. -/
def execRelayChunkIn (r : RelayHeader) (data : List Byte) (s : State) : Host.Outcome State Fault Refusal :=
  onEngines (.relayChunkIn r data) s fun s => s.relayRx false r true fun s => s.relayChunk false r data

/-- ARM: armed under R383 when ACCEPT_ARM is set, and passed on (R389). -/
def State.relayArmed (s : State) (r : RelayHeader) (kick : Nat) : State :=
  let same : Bool := match s.fw.staged with
    | some i => sessionOf (imgDigest i) == r.session
    | none => false
  if ¬ s.flag FU_RELAY_CFG_ACCEPT_ARM ∨ ¬ same ∨ (s.fuState ≠ fuStaged ∧ s.fuState ≠ fuArmed) ∨ s.fw.copying.isSome ∨ ¬ s.leadOk kick then s
  else s.armKick kick

/-- RELAY_ARM_RX. -/
def execRelayArmRx (r : RelayHeader) (kickoff : Nat) (s : State) : Host.Outcome State Fault Refusal :=
  onEngines (.relayArmRx r kickoff) s fun s => s.relayRx false r true fun s => s.relayArmed r kickoff

/-- 10 ms after the last chunk, an ACK. -/
def State.ackTimer (s : State) : State :=
  match s.fw.receive with
  | some x => if x.acked ∨ s.time.mono < x.lastAt + 10000000 then s else s.relayAck
  | none => s

/-- RELAY_ACK_TIMER. -/
def execRelayAckTimer (s : State) : Host.Outcome State Fault Refusal := onEngines .relayAckTimer s State.ackTimer

/-! ### The relay's sender -/

/-- The session being sent that a packet belongs to. -/
def State.sendOf (s : State) (causeway : Bool) (session : Nat) : Option RelaySend :=
  s.fw.sends.find? fun x => x.causeway == causeway && x.session == session && !x.verified

/-- ACK: NEXT and MASK free the window, which fills again. -/
def State.relayAcked (s : State) (causeway : Bool) (r : RelayHeader) (next mask : Nat) : State :=
  match s.sendOf causeway r.session with
  | none => s
  | some x =>
    let left := x.unacked.filter fun u => decide (next ≤ u.1) && !(decide (next < u.1) && decide (u.1 ≤ next + 32) && mask.testBit (u.1 - next - 1))
    let progress := if left.length < x.unacked.length then s.time.mono else x.progress
    let (s, x) := s.relayFill 64 { x with unacked := left, progress }
    s.setSend x

/-- RELAY_ACK_RX. -/
def execRelayAckRx (r : RelayHeader) (next mask : Nat) (s : State) : Host.Outcome State Fault Refusal :=
  onEngines (.relayAckRx r next mask) s fun s => s.relayRx false r false fun s => s.relayAcked false r next mask

/-- RESULT: 0 ends the sending, and an ARMED unit passes its kick-off on (R389); any other ends the session. -/
def State.relayResulted (s : State) (causeway : Bool) (r : RelayHeader) (status : Nat) : State :=
  match s.sendOf causeway r.session with
  | none => s
  | some x =>
    if status ≠ 0 then
      State.showRelay { s with fw := { s.fw with sends := s.fw.sends.filter fun y => y.causeway != causeway } }
    else
      let s := (s.setSend { x with verified := true, unacked := [], progress := s.time.mono }).showRelay
      let same : Bool := match s.fw.staged with
        | some i => sessionOf (imgDigest i) == x.session
        | none => false
      if s.fuState = fuArmed ∧ same then s.relaySendArm x s.kickTai else s

/-- RELAY_RESULT_RX. -/
def execRelayResultRx (r : RelayHeader) (status : Nat) (s : State) : Host.Outcome State Fault Refusal :=
  onEngines (.relayResultRx r status) s fun s => s.relayRx false r false fun s => s.relayResulted false r status

/-- ABORT: REASON 1 ends what is received, 2 what is sent. -/
def State.relayAborted (s : State) (causeway : Bool) (r : RelayHeader) (reason : Nat) : State :=
  if reason = 2 then
    State.showRelay { s with fw := { s.fw with sends := s.fw.sends.filter fun x => x.causeway != causeway || x.session != r.session || x.verified } }
  else
    match s.fw.receive with
    | some x =>
      if x.session = r.session ∧ x.causeway = causeway ∧ s.fw.verifying.isNone then
        State.showRelay { s with fw := { s.fw with receive := none } }
      else s
    | none => s

/-- RELAY_ABORT_RX. -/
def execRelayAbortRx (r : RelayHeader) (reason : Nat) (s : State) : Host.Outcome State Fault Refusal :=
  onEngines (.relayAbortRx r reason) s fun s => s.relayRx false r (reason != 2) fun s => s.relayAborted false r reason

/-- Chunks not acknowledged within RTO × 10 ms sent again. -/
def State.retransmit (s : State) : State :=
  let rto := s.get FU_RELAY_CFG_RTO * 10000000
  s.fw.sends.foldl (fun s x =>
    let due := x.unacked.filter fun u => decide (u.2 + rto ≤ s.time.mono)
    if due.isEmpty then s
    else
      let s := due.foldl (fun s u => (s.relaySendChunk x u.1).count (fuCnt 1)) s
      s.setSend { x with unacked := x.unacked.map fun u => if due.contains u then (u.1, s.time.mono) else u }) s

/-- RELAY_RETRANSMIT. -/
def execRelayRetransmit (s : State) : Host.Outcome State Fault Refusal := onEngines .relayRetransmit s State.retransmit

/-- 30 s without progress. -/
def State.giveUp (s : State) : State :=
  let idle (p : Nat) : Bool := decide (p + 30000000000 ≤ s.time.mono)
  let s := match s.fw.receive with
    | some x =>
      if idle x.progress ∧ s.fw.verifying.isNone then
        (State.relayOut { s with fw := { s.fw with receive := none } } x.causeway true 5 x.session 0 (beBytes 1 2 ++ beBytes 7 0)).count (fuCnt 3)
      else s
    | none => s
  (s.fw.sends.foldl (fun (s : State) x =>
    if x.verified ∨ ¬ idle x.progress then s
    else
      (State.relayOut { s with fw := { s.fw with sends := s.fw.sends.filter fun y => y.causeway != x.causeway } } x.causeway false 5 x.session 0 (beBytes 1 1 ++ beBytes 7 0)).count (fuCnt 3)) s).showRelay

/-- RELAY_GIVE_UP. -/
def execRelayGiveUp (s : State) : Host.Outcome State Fault Refusal := onEngines .relayGiveUp s State.giveUp

/-- CW_RELAY_RX: the partner's relay packets (R356, R388). -/
def State.relayPartner (s : State) (r : RelayHeader) (b : RelayBody) : State :=
  match b with
  | .offer length kind hops digest => s.relayRx true r true fun s => s.relayOffer true r length kind hops digest
  | .chunk data => s.relayRx true r true fun s => s.relayChunk true r data
  | .ack next mask => s.relayRx true r false fun s => s.relayAcked true r next mask
  | .result status => s.relayRx true r false fun s => s.relayResulted true r status
  | .abort reason => s.relayRx true r (reason != 2) fun s => s.relayAborted true r reason
  | .arm kick => s.relayRx true r true fun s => s.relayArmed r kick

/-- CW_RELAY_RX. -/
def execCwRelayRx (c : CwHeader) (r : RelayHeader) (body : RelayBody) (s : State) : Host.Outcome State Fault Refusal :=
  onEngines (.cwRelayRx c r body) s fun s => s.cwRx c false fun s => s.relayPartner r body

/-! ### NAND refresh (R391) -/

/-- The partition that staging writes: 0 and 1 the slots, 2 and 3 the configurations, 4 the staging area. -/
def State.stagingWrites (s : State) (p : Nat) : Bool :=
  let copy : Bool := match s.fw.copying with
    | some r => if imgKind r.image = 0 then p == 1 - s.fw.slot else if imgKind r.image = 1 then p == 4 else p == 3
    | none => false
  copy || (p == 4 && (s.fw.receive.isSome || s.fw.verifying.isSome)) || (p == 2 && s.flag FU_STATUS_COPYING)

/-- The first partition 365 days old begins its refresh, unless staging writes it. -/
def State.refresh (s : State) : State :=
  if s.fw.refreshing.isSome then s
  else
    match (List.range 5).find? fun p => decide (365 * dayTicks ≤ s.fw.ages.getD p 0) && !s.stagingWrites p with
    | some p => { s with fw := { s.fw with refreshing := some p } }
    | none => s

/-- NAND_REFRESH. -/
def execNandRefresh (s : State) : Host.Outcome State Fault Refusal := onCore .nandRefresh s State.refresh

/-- The pass ends; the blocks it read with more than 16 corrected bits per 1 KiB were rewritten at once and count. -/
def State.refreshEnd (s : State) (blocks : Nat) : State :=
  match s.fw.refreshing with
  | some p => State.raise { s.countN (fuCnt 5) blocks with fw := { s.fw with refreshing := none, ages := s.fw.ages.set p 0 } } EV_FU_REFRESH_DONE sevInfo p
  | none => s

/-- NAND_REFRESH_END. -/
def execRefreshPassed (blocks : Nat) (s : State) : Host.Outcome State Fault Refusal :=
  onCore (.refreshPassed blocks) s fun s => s.refreshEnd blocks

end Sys2Proof.Machine
end

