-- ==== Sys2Proof/Machine/Integrity.lean ====
section
/-!
DEFINITION. Self-tests, scrubbing and eye margins (R376, R394, R395), and the return capsule (R402).
-/

namespace Sys2Proof.Machine

/-- The known-answer test of an engine ends (R376): its bit of ST_PASS or ST_FAIL; a failure is an IG fault. -/
def State.knownAnswer (s : State) (engine : Nat) (pass : Bool) : State :=
  let s := { s with pair_ := { s.pair_ with stPass := setBit s.pair_.stPass engine pass, stFail := setBit s.pair_.stFail engine (!pass) } }
  if pass then s else (s.count (igCnt 7)).raise EV_IG_SELFTEST_FAIL sevCritical engine engine

/-- KAT_RUN. -/
def execKatRun (engine : Nat) (pass : Bool) (s : State) : Host.Outcome State Fault Refusal :=
  onEngines (.katRun engine pass) s fun s => s.knownAnswer engine pass

/-- A word that a scrub finds uncorrectable: reported, and it stays so until it is written (R394). A record of MRAM that holds it is no
longer valid (R249, R337, R346). -/
def State.scrubBad (s : State) (w : Nat) : State :=
  let s := s.uecc w
  let s := { s with integ := { s.integ with bad := if s.integ.bad.contains w then s.integ.bad else s.integ.bad ++ [w] } }
  if w < 0x100000000000 then s
  else
    let off := w - 0x100000000000
    (s.spoilSaves off 8).spoilQueue off 8

/-- A scrub pass of DRAM or MRAM (R376, R394, R395): the words corrected, each written back, and the words found uncorrectable. -/
def State.scrub (s : State) (mram : Bool) (corrected bad : List Nat) : State :=
  let s := { s with pair_ := { s.pair_ with
    scrubDram := s.pair_.scrubDram + bit (!mram)
    scrubMram := s.pair_.scrubMram + bit mram
    cecc := s.pair_.cecc + corrected.length } }
  let s := corrected.foldl (fun s w =>
    (s.count (igCnt (if mram then 3 else 1))).raise (if mram then EV_IG_MRAM_CECC else EV_IG_DRAM_CECC) sevInfo (w / 2 ^ 20)) s
  bad.foldl State.scrubBad s

/-- MEMORY_SCRUB. -/
def execScrubPass (mram : Bool) (corrected bad : List Nat) (s : State) : Host.Outcome State Fault Refusal :=
  onEngines (.scrubPass mram corrected bad) s fun s => s.scrub mram corrected bad

/-- EYE_MEASURE: a lane's eye margin in mUI (R376). -/
def execEyeMeasure (l eye : Nat) (s : State) : Host.Outcome State Fault Refusal :=
  onEngines (.eyeMeasure l eye) s fun s => s.put (CW_LANE_STAT_EYE l) eye

/-! ### The return capsule (R402) -/

/-- Bytes of the capsule. -/
def capsuleSize : Nat := 5242880

/-- The capsule of this instant. -/
def State.capsule (s : State) : Capsule where
  time := s.now
  mono := s.time.mono
  status := [GL_STATUS, OP_STATUS, TB_STATUS, CW_STATUS, ME_G_STATUS, GL_TEMP].map s.reg
  integrity := (List.range 128).map fun i => s.reg (IG_STATUS + 4 * i)
  passed := s.pair_.stPass
  failed := s.pair_.stFail
  health := s.integ.health
  peat := (s.peat.entries.map (·.2)).filter fun e => decide (s.peat.nextSeq ≤ e.seq + 65536)

/-- The capsule written and committed. -/
def State.capsuleEnd (s : State) (j : Job) : State :=
  let s := { s with integ := { s.integ with capsule := some s.capsule } }
  ((s.put IG_STATUS_CAPSULE 1).raise EV_IG_CAPSULE sevNotice).endJob j stOk 0 capsuleSize

/-- RETURN_CAPSULE begun. -/
def State.returnCapsule (s : State) (h : CmdHeader) : State :=
  if s.flag IG_STATUS_CAPSULE then s.finish h 0x90 stState
  else if s.host.jobs.any fun j => j.opcode == 0x90 then s.finish h 0x90 stBusy
  else s.startJob h 0x90 .returnCapsule (capsuleSize / 4096) 4096

/-- RETURN_CAPSULE. -/
def execReturnCapsule (h : CmdHeader) (confirm : Nat) (s : State) : Host.Outcome State Fault Refusal :=
  let field := if confirm = 0x63617073 then none else some 24
  onCore (.returnCapsule h confirm) s fun s => s.command h 0x90 field none fun s => s.returnCapsule h

end Sys2Proof.Machine
end

