-- ==== Sys2Proof/Machine/PeatLog.lean ====
section
/-!
DEFINITION. The peat log (10, R285 to R294): the writer, the fold windows, the non-volatile tail, and what the reset classes
do to them.
-/

namespace Sys2Proof.Machine

/-- Positions of the log (R286). -/
def peatSize : Nat := 1048576

/-- The bytes of an entry (R286). -/
def PeatEntry.body (e : PeatEntry) : List Byte :=
  leBytes 2 e.code ++ leBytes 1 e.severity ++
  leBytes 1 (bit e.inTail + 2 * bit e.foldSat + 4 * bit e.droppedBefore + 8 * bit e.utcInvalid) ++ leBytes 8 e.seq ++
  leBytes 4 e.utcDate ++ leBytes 4 e.utcTime ++ stampBytes e.time ++ leBytes 4 e.lastOfs ++ leBytes 4 e.fold ++
  leBytes 8 e.cause ++ leBytes 2 e.inst ++ leBytes 2 0 ++ leBytes 8 e.data

@[inherit_doc PeatEntry.body] def PeatEntry.bytes (e : PeatEntry) : List Byte := e.raw.getD (leBytes 4 e.gen ++ e.body)

/-- The entry at a position. -/
def PeatState.at (p : PeatState) (pos : Nat) : PeatEntry := Store.get (fun _ => {}) p.entries pos

/-- An entry stored at a position. -/
def PeatState.store (p : PeatState) (pos : Nat) (e : PeatEntry) : PeatState :=
  { p with entries := Store.set (fun _ => {}) p.entries pos e }

/-- The tail copy of an entry: IN_TAIL set, and the CRC in place of GEN (R286, R290). -/
def PeatEntry.tailCopy (e : PeatEntry) : PeatEntry :=
  let t := { e with inTail := true, raw := none }
  { t with gen := crc32c t.body }

/-- The tail copy of the entry at a position rewritten, when it has one (R290). -/
def PeatState.rewriteTail (p : PeatState) (pos : Nat) : PeatState :=
  match p.tailOf.find? (·.1 == pos) with
  | some (_, i) => { p with tail := Store.set (fun _ => {}) p.tail i (p.at pos).tailCopy }
  | none => p

/-- A fold window closed: the tail copy of its entry is rewritten once when FOLD is above 1 (R290). -/
def PeatState.closeWindow (p : PeatState) (w : FoldWindow) : PeatState :=
  let p := { p with windows := p.windows.filter (· != w) }
  if 1 < (p.at w.pos).fold then p.rewriteTail w.pos else p

/-- The PL registers that show the log (10). -/
def State.showPeat (s : State) : State :=
  let newest := s.peat.entries.foldl (fun a e => max a e.2.seq) 0
  let oldest := s.peat.entries.foldl (fun a e => min a e.2.seq) newest
  let s := s.put PL_STATUS_USED s.peat.used
  let s := s.put PL_STATUS_FULL (bit (s.peat.used == peatSize))
  let s := s.setPair PL_NEWEST_LO PL_NEWEST_HI newest
  let s := s.setPair PL_OLDEST_LO PL_OLDEST_HI oldest
  s.put PL_OPEN_WINDOWS s.peat.windows.length

/-- The window that folds an occurrence (R288). -/
def PeatState.windowFor (p : PeatState) (o : Occurrence) : Option FoldWindow :=
  p.windows.find? fun w => w.code == o.code && w.cause == o.cause && decide (o.mono < w.ends)

/-- An occurrence folded into its entry (R288): FOLD, LAST_OFS and a higher SEVERITY, under a new even GEN. An entry so
raised to MAJOR or above is due a tail copy (R290). -/
def State.peatFold (s : State) (w : FoldWindow) (o : Occurrence) : State :=
  let e := s.peat.at w.pos
  let sat := e.fold == 0xffffffff
  let e' := { e with gen := (e.gen + 2) % 2 ^ 32, fold := if sat then e.fold else e.fold + 1,
                     foldSat := e.foldSat || sat || e.fold + 1 == 0xffffffff,
                     lastOfs := min ((o.mono - e.mono) / 1000) 0xffffffff, severity := max e.severity o.sev, raw := none }
  let p := s.peat.store w.pos e'
  { s with peat := if e.severity < sevMajor ∧ sevMajor ≤ e'.severity then { p with toCopy := p.toCopy ++ [w.pos] } else p }

/-- The position a new entry takes (R286, R289): the next unused one; in a full log that of the lowest SEQ among entries
not above its severity, LEGAL ones excepted. -/
def PeatState.place (p : PeatState) (sev : Nat) : Option Nat :=
  if p.used < peatSize then some p.used
  else (p.entries.foldl (fun (b : Option (Nat × Nat)) e =>
    if e.2.severity ≤ sev ∧ e.2.severity ≠ sevLegal then
      match b with
      | some (_, q) => if e.2.seq < q then some (e.1, e.2.seq) else b
      | none => some (e.1, e.2.seq)
    else b) none).map (·.1)

/-- The counter of windows evicted (R288). -/
def plEvict : Cnt := ⟨PL_FOLD_EVICT, PL_SAT_SAT_EVICT, EV_PL_CNT_SAT, 0xff, 8⟩

/-- The oldest entry due one is copied into the tail, and IN_TAIL set in the log (R290). -/
def State.copyTail (s : State) : State :=
  match s.peat.toCopy with
  | [] => s
  | pos :: rest =>
    let i := s.word PL_TAIL_SEQ % 4096
    let e := s.peat.at pos
    let p := s.peat.store pos { e with inTail := true, gen := (e.gen + 2) % 2 ^ 32, raw := none }
    let p := { p with toCopy := rest, tail := Store.set (fun _ => {}) p.tail i e.tailCopy,
                      tailOf := (p.tailOf.filter fun x => x.1 != pos && x.2 != i) ++ [(pos, i)] }
    State.bump { s with peat := p } (whole PL_TAIL_SEQ)

/-- The `n` oldest entries due a tail copy have it. -/
def State.copyDue (s : State) : Nat → State
  | 0 => s
  | n + 1 => s.copyTail.copyDue n

/-- The window of an entry about to be overwritten closes (R288). -/
def PeatState.vacate (p : PeatState) (pos : Nat) : PeatState :=
  let p := (p.windows.filter (·.pos == pos)).foldl (fun q w => q.closeWindow w) p
  { p with tailOf := p.tailOf.filter (·.1 != pos), toCopy := p.toCopy.filter (· != pos) }

/-- A fold window opened; with 1024 open, the one that would end soonest closes first (R288). -/
def State.openWindow (s : State) (w : FoldWindow) : State :=
  let s :=
    if s.peat.windows.length < 1024 then s
    else
      match s.peat.windows with
      | [] => s
      | a :: rest =>
        let soon := rest.foldl (fun b c => if c.ends < b.ends then c else b) a
        State.count { s with peat := s.peat.closeWindow soon } plEvict
  { s with peat := { s.peat with windows := s.peat.windows ++ [w] } }

/-- The detection interrupt (R226): its vector, and source 15. -/
def State.detectionInterrupt (s : State) : State :=
  (s.when (s.flag HI_VEC_MISC_DET_EN) fun s => s.message (s.get HI_VEC_MISC_DET_VEC)).fire 15

/-- A new entry made of an occurrence (R286 to R291): dropped and counted when no position admits it; else written with the
next SEQ, with its fold window opened, a tail copy due at MAJOR or above, and the peat-log interrupt at INT_SEV or above. -/
def State.peatCreate (s : State) (o : Occurrence) : State :=
  match s.peat.place o.sev with
  | none =>
    let t := State.count { s with peat := { s.peat with dropped := true } } (plDrop o.sev)
    if t.dropDue o.sev then (t.dropNoted o.sev).log EV_PL_DROP sevWarning o.sev o.sev 0 else t
  | some pos =>
    let s := if s.peat.toCopy.contains pos then s.copyDue s.peat.toCopy.length else s
    let p := s.peat.vacate pos
    let e : PeatEntry := {
      gen := ((p.at pos).gen + 2) % 2 ^ 32, code := o.code, severity := o.sev, droppedBefore := p.dropped,
      utcInvalid := o.utcInvalid, seq := p.nextSeq, utcDate := o.utcDate, utcTime := o.utcTime, time := o.stamp, fold := 1,
      cause := o.cause, inst := o.inst, data := o.data, mono := o.mono }
    let p := { p.store pos e with used := max p.used (pos + 1), nextSeq := (p.nextSeq + 1) % 2 ^ 64, dropped := false }
    let s := { s with peat := if sevMajor ≤ o.sev then { p with toCopy := p.toCopy ++ [pos] } else p }
    let s := s.openWindow ⟨o.code, o.cause, pos, o.mono + s.get PL_CFG_FOLD_MS * 1000000⟩
    let s := s.when (o.code == EV_AL_RULE_ON && s.flag (AL_RULE_CFG_INT o.cause)) State.detectionInterrupt
    if s.get PL_CFG_INT_SEV ≤ o.sev then
      (s.when (s.flag HI_VEC_MISC_PL_EN) fun s => s.message (s.get HI_VEC_MISC_PL_VEC)).fire 14
    else s

/-- The writer takes the oldest queued occurrence; a held LEGAL occurrence takes the place freed (R287). -/
def State.peatWriteOne (s : State) : State :=
  match s.peat.queue with
  | [] => s
  | o :: rest =>
    let p := match s.peat.held with
      | [] => { s.peat with queue := rest }
      | h :: hs => { s.peat with queue := rest ++ [h], held := hs }
    let s := { s with peat := p }
    match p.windowFor o with
    | some w => (s.peatFold w o).showPeat
    | none => (s.peatCreate o).showPeat

/-- PEAT_ENTRY_WRITE. -/
def execPeatEntryWrite (s : State) : Host.Outcome State Fault Refusal := onCore .peatEntryWrite s State.peatWriteOne

/-- Every window that has ended closes (R288, R290). -/
def State.closeEnded (s : State) : State :=
  State.showPeat { s with peat := (s.peat.windows.filter fun w => decide (w.ends ≤ s.time.mono)).foldl (fun p w => p.closeWindow w) s.peat }

/-- FOLD_WINDOW_CLOSE. -/
def execFoldWindowClose (s : State) : Host.Outcome State Fault Refusal := onCore .foldWindowClose s State.closeEnded

/-- TAIL_COPY. -/
def execTailCopy (s : State) : Host.Outcome State Fault Refusal := onCore .tailCopy s State.copyTail

/-- Every queued occurrence written, `n` at most. -/
def State.peatDrain : Nat → State → State
  | 0, s => s
  | n + 1, s => State.peatDrain n s.peatWriteOne

/-- A class W reset closes every fold window and writes the queue first; it keeps the log (R293). -/
def State.peatWarm (s : State) : State :=
  let s := State.peatDrain (2 * (s.peat.queue.length + s.peat.held.length)) s
  State.showPeat { s with peat := s.peat.windows.foldl (fun p w => p.closeWindow w) s.peat }

/-- A class C or P reset empties the log during boot; SEQ resumes one above the highest in the tail (R293). -/
def State.peatBoot (s : State) : State :=
  let top := s.peat.tail.foldl (fun a e => if e.2.gen = crc32c e.2.body then max a (e.2.seq + 1) else a) 0
  State.showPeat { s with peat := { queue := s.peat.queue, held := s.peat.held, tail := s.peat.tail, nextSeq := top % 2 ^ 64 } }

/-- In HOLDUP the open windows of tail entries are rewritten after the power-fail save (R290). -/
def State.peatHoldup (s : State) : State :=
  { s with peat := s.peat.windows.foldl (fun p w => if 1 < (p.at w.pos).fold then p.rewriteTail w.pos else p) s.peat }

end Sys2Proof.Machine
end

