-- ==== Sys2Proof/Machine/Power.lean ====
section
/-!
DEFINITION. Supplies, start-up and resets (17, R405 to R418): the power-up sequence, configuration load, HOLDUP, the battery domain alone,
class W resets and the heartbeat.
-/

namespace Sys2Proof.Machine

/-- PW_HOLDUP_CNT. -/
def pwCnt : Cnt := ⟨PW_HOLDUP_CNT, PW_STATUS_SAT, EV_PW_CNT_SAT, 0, 0⟩

/-- Every save being written is committed. -/
def State.commitAll (s : State) : State := s.forEach s.meter.saving.length fun _ s => s.commitSave

/-! ### The power-up sequence (R409, R410) -/

/-- A firmware slot that does not verify, reported: 1 fails its BCH check, 2 its digest or signature. -/
def State.slotBad (s : State) (k code : Nat) : State :=
  if code = 1 then (s.count (igCnt 5)).raise EV_IG_NAND_UNCORR sevMajor k else s.raise EV_FU_SIG_FAIL sevMajor s.serial

/-- The slot to start: a provisional image counts this start, or is given up at BOOT_MAX (R385). -/
def State.wantedSlot (s : State) : State :=
  if s.fuState = fuProvisional ∧ s.fuKind = 0 then
    if s.get FU_CFG_BOOT_MAX ≤ s.get FU_STATUS_BOOT_TRIES then s.fallBackTo 1 else s.countStart
  else s

/-- The other slot started because the wanted one does not verify. DESIGN CHOICE (log 54): a provisional image so passed over is given
up, and a staged one in the slot that now runs is no longer staged. -/
def State.otherSlot (s : State) : State :=
  if s.fuState = fuProvisional ∧ s.fuKind = 0 then s.fallBackTo 1
  else
    let s := { s with fw := { s.fw with slot := 1 - s.fw.slot } }
    if s.fuKind = 0 ∧ s.fuState ≠ fuRunning then State.put { s with fw := { s.fw with staged := none } } FU_STATUS_STATE fuRunning else s

/-- The boot loader's choice; `codes` are those of slots A and B, 0 for one that verifies. -/
def State.bootSlot (s : State) (codes : List Nat) : State :=
  let s := s.wantedSlot
  let k := s.fw.slot
  let code (k : Nat) : Nat := codes.getD k 0
  let start (s : State) : State := s.startFirmware (((s.firmware s.fw.slot).map imgVersion).getD (s.word (FU_VER 0)))
  if code k = 0 then start s
  else
    let s := s.slotBad k (code k)
    if code (1 - k) = 0 then start s.otherSlot
    else
      let s := s.slotBad (1 - k) (code (1 - k))
      { s with power := { s.power with bootHeld := true } }

/-- The TAI that the time base starts from (R45, R409). -/
def State.seedTai (s : State) : Nat := if s.flag CAL_STATUS_VALID then s.taiOfCal s.calDate s.calTime else resetTai

/-- The converter trim checked, at each class C or P reset (R118). -/
def State.trimCheck (s : State) : State :=
  s.when Config.trimBad fun s => (s.put AF_STATUS_TRIM_BAD 1).raise EV_AF_TRIM_BAD sevCritical

/-- Sluices started with the test of their start (R87, R89; `failed` names those that fail it), time base seeded, link trained, key store
resolved, epoch advanced. DEDUCED (log 55): the causeway's sluices start with them. -/
def State.bootHardware (s : State) (failed : List Nat) : State :=
  let s := s.forEach 17 fun i s =>
    if failed.contains (9 + i) then s.sluiceFail (9 + i) else s.sluiceActive (9 + i) true
  let s := State.showLeap { s with time := { s.time with tai := s.seedTai, leapFrom := some 0 } }
  let s := if s.host.perst then s else s.linkTrain
  (s.keysPowerUp).setWord CW_EPOCH (min 0xffffff (s.word CW_EPOCH + 1))

/-- What firmware does once it runs: the peat log emptied, BOOT_DONE, the legal core record restored, the outage log copied, a
kick-off that has passed missed, a cut configuration copy resumed. -/
def State.bootFirmware (s : State) : State :=
  let s := s.peatBoot.put GL_STATUS_BOOT_DONE 1
  let s := ((s.restoreCore s.cutInstant s.copyOutages.1).copyOutages.2).laneConds.modeConds
  let s := if s.fuState = fuArmed ∧ s.kickTai ≤ s.time.tai then s.missKick else s
  let s := s.when (s.fuState == fuRunning && s.fw.storedNew.isSome) fun s => s.put FU_STATUS_COPYING 1
  { s with power := { s.power with phase := .running } }

/-- The sequence from the release of the reset. -/
def State.bootUp (s : State) (testmode : Bool) (codes failed : List Nat) : State :=
  if (s.power.phase ≠ .booting ∧ s.power.phase ≠ .held) ∨ s.flag GL_STATUS_BOOT_DONE ∨ s.power.testmode then s
  else
    let s := State.lastReset { s with power := { s.power with phase := .booting, testmode, classP := false } } (if s.power.classP then 1 else 2)
    let s := (s.put GL_STATUS_TESTMODE_HIGH (bit testmode)).trimCheck
    if testmode then s.raise EV_GL_TESTMODE_PIN sevCritical
    else
      let s := (s.bootHardware failed).bootSlot codes
      if s.power.bootHeld then (s.peatBoot.put GL_STATUS_BOOT_DONE 1).modeConds else s.bootFirmware

/-- POWER_UP. -/
def execBootUp (testmode : Bool) (slotA slotB : Nat) (failed : List Nat) (s : State) : Host.Outcome State Fault Refusal :=
  checked (.bootUp testmode slotA slotB failed) s fun s => s.bootUp testmode [slotA, slotB] failed

/-! ### Configuration load (R411) -/

/-- The stored configuration: what the partition held before the model's first store, then what has been stored since (log 56). -/
def State.readPartition (s : State) (writes : List (Nat × Nat)) (tables : List (Nat × Nat × List Nat)) : StoredConfig :=
  StoredConfig.merge { writes, tables } s.partition

/-- Configuration load: restart records first, for they need the stored PMAX; then the entries; then the customer cores and SERVICE. -/
def State.configLoad (s : State) (ok : Bool) (writes : List (Nat × Nat)) (tables : List (Nat × Nat × List Nat)) : State :=
  if s.power.phase ≠ .running ∨ s.meter.configLoaded then s
  else
    let c := if ok then s.readPartition writes tables else {}
    let stored (off : Nat) : Nat := ((c.writes.find? fun e => e.1 == off).map (·.2)).getD (resetWord off).toNat
    let s := s.restartRecords stored
    let s := if ok then (s.setPartition c).applyConfig c
      else (s.count (igCnt 5)).raise EV_IG_NAND_UNCORR sevMajor (if s.fuState = fuProvisional then 3 else 2)
    let s := State.forEach { s with meter := { s.meter with configLoaded := true } } 256 fun n s => s.refreshAble n
    (s.startCustomer.showServices).refreshPins.serviceOn

/-- CONFIG_LOAD. -/
def execConfigLoad (partitionOk : Bool) (writes : List (Nat × Nat)) (tables : List (Nat × Nat × List Nat)) (s : State) :
    Host.Outcome State Fault Refusal :=
  onCore (.configLoad partitionOk writes tables) s fun s => s.configLoad partitionOk writes tables

/-! ### HOLDUP (R248, R406 to R408) -/

/-- Commands whose non-volatile commit has not started complete with E_NOT_COMMITTED. -/
def State.notCommitted (s : State) : State :=
  (s.host.jobs.filter fun j => commits j.opcode).foldl (fun s j => s.endJob j stNotCommitted) s

/-- The monitor trips (R248, R407). Which of VIN and VAUX fell is a free value where the monitor tripped itself. -/
def State.trip (s : State) (monitor : Bool) : State :=
  if ¬ s.coreOn ∨ s.holdup then s
  else
    let src := bit monitor
    let s := s.outageStart src
    let s := s.when s.meter.configLoaded fun s => (s.cutBlocks.abandonSaves).snapshot 1
    let low := if ¬ monitor then PW_STATUS_PFAIL else if s.drawn % 2 = 0 then PW_STATUS_VIN_LOW else PW_STATUS_VAUX_LOW
    let s := (((s.put PW_STATUS_STATE 1).put PW_STATUS_SOURCE src).put low 1).draw
    let s := (s.put ME_G_STATUS_HOLDUP 1).notCommitted
    let s := { s with
      meter := { s.meter with cutAt := some s.jobTai }
      host := { s.host with hbDue := none } }
    let s := (s.count pwCnt).raise EV_PW_HOLDUP sevMajor src
    s.peatHoldup.modeConds

/-- SUPPLY_TRIP. -/
def execSupplyTrip (monitor : Bool) (s : State) : Host.Outcome State Fault Refusal :=
  checked (.supplyTrip monitor) s fun s => s.trip monitor

/-- The outage that ends is counted in the records open, up to each lane's next block boundary. -/
def State.countOutage (s : State) : State :=
  match s.meter.cutAt with
  | none => s
  | some c =>
    let s := { s with meter := { s.meter with resumeAt := s.jobTai, cutAt := none } }
    s.forEach 256 fun n s =>
      if (s.laneMeter n).interval.isOpen ∨ (s.laneMeter n).session.isOpen then
        let stop := s.resumesAt n
        let add (a : SpanAcc) : SpanAcc := if a.isOpen then { a with outage := a.outage + (stop - max c a.start.tai), flags := a.flags ||| rfOutage } else a
        s.setMeter n fun m => { m with interval := add m.interval, session := add m.session }
      else s

/-- The return conditions have held for RECOVER_MS. -/
def State.recover (s : State) : State :=
  if ¬ s.coreOn ∨ ¬ s.holdup then s
  else
    let s := (s.outageEnd.countOutage).nextSave.put ME_G_STATUS_HOLDUP 0
    let s := (((s.put PW_STATUS_STATE 0).put PW_STATUS_PFAIL 0).put PW_STATUS_VIN_LOW 0).put PW_STATUS_VAUX_LOW 0
    let hb := if s.host.hbTimeout = 0 then none else some (s.time.mono + s.host.hbTimeout * 1000000)
    let s := { s with host := { s.host with hbDue := hb } }
    (s.raise EV_PW_HOLDUP_END sevNotice (s.get PW_STATUS_SOURCE)).modeConds

/-- SUPPLY_RECOVER. -/
def execSupplyRecover (s : State) : Host.Outcome State Fault Refusal := checked .supplyRecover s State.recover

/-! ### The battery domain alone (R405, R407, R430) -/

/-- VIN or VAUX below the stop limit. The monitor trips on the way down where it has not. -/
def State.coreStop (s : State) : State :=
  if s.power.phase = .battery ∨ s.power.phase = .unpowered then s
  else
    let s := s.trip true
    let s := if s.meter.inOutage then s else s.outageStart 1
    let s := s.emit .linesFloat
    { s with power := { phase := .battery, classP := s.power.classP } }

/-- CORE_DOMAIN_STOP. -/
def execCoreDomainStop (s : State) : Host.Outcome State Fault Refusal := checked .coreDomainStop s State.coreStop

/-- VIN and VAUX return: OUTAGE_END, and a class C reset; where a class P reset has not yet been followed by a start, that one. -/
def State.vinReturn (s : State) : State :=
  if s.power.phase ≠ .battery then s
  else
    let p := s.power.classP
    let s := s.outageEnd.coldReset .c false
    { s with power := { s.power with classP := p } }

/-- VIN_RETURN. -/
def execVinReturn (s : State) : Host.Outcome State Fault Refusal := checked .vinReturn s State.vinReturn

/-- The battery domain receives supply after none, from VIN or from VBAT alone (R405). -/
def State.powerOn (s : State) (vin : Bool) : State :=
  if s.power.phase ≠ .unpowered then s
  else
    let s := s.coldReset .p false
    if vin then s else { s with power := { s.power with phase := .battery } }

/-- BATTERY_POWER_ON. -/
def execBatteryPowerOn (vin : Bool) (s : State) : Host.Outcome State Fault Refusal :=
  checked (.batteryPowerOn vin) s fun s => s.powerOn vin

/-- BATTERY_LOSS: in BATTERY, the battery domain stops; with VIN present it runs on. -/
def execBatteryLoss (s : State) : Host.Outcome State Fault Refusal :=
  checked .batteryLoss s fun s => if s.power.phase = .battery then { s with power := { s.power with phase := .unpowered } } else s

/-- VBAT below 2.5 V: the event on each rise of the bit. -/
def State.vbatLow (s : State) (mv : Nat) : State :=
  let s := s.put PW_VBAT_VBAT (min mv 65535)
  let low := decide (mv < 2500)
  let was := s.flag PW_STATUS_VBAT_LOW
  (s.put PW_STATUS_VBAT_LOW (bit low)).when (low && !was) fun s => s.raise EV_PW_VBAT_LOW sevWarning

/-- VBAT_LOW. -/
def execVbatLow (mv : Nat) (s : State) : Host.Outcome State Fault Refusal := onCore (.vbatLow mv) s fun s => s.vbatLow mv

/-- VBAT_INSERT: VBAT applied with VIN present; no reset. -/
def execVbatInsert (s : State) : Host.Outcome State Fault Refusal := onCore .vbatInsert s fun s => s.put PW_STATUS_VBAT_LOW 0

/-- RST_n low after its deglitch (R412): the save of R248 first where metrology runs, then the class C reset, in which the device stays
while the pin is low. -/
def State.resetPin (s : State) : State :=
  if ¬ s.coreOn then s
  else
    let s := s.when (s.meter.configLoaded && !s.holdup) fun s => (s.cutBlocks.abandonSaves).snapshot 1
    s.commitAll.coldReset .c true

/-- RST_N_ASSERT. -/
def execRstNAssert (s : State) : Host.Outcome State Fault Refusal := checked .rstNAssert s State.resetPin

/-! ### Class W resets (R35, R413, R415) -/

/-- What a class W reset does to the pair (R378). -/
def State.pairWarm (s : State) : State :=
  let s := { s.setWord CW_EPOCH (min 0xffffff (s.word CW_EPOCH + 1)) with pair_ := { s.pair_ with fcount := 0 } }
  if (s.role = roleStandby ∨ s.role = roleCold) ∧ ¬ s.flag CW_CFG_PAIR_EN then (s.put CW_STATUS_SYNC syNone).setRole roleSolo sevNotice
  else s.pairLost

/-- The reset takes effect once the save has committed. -/
def State.warmReset (s : State) : State :=
  if s.power.pendingReset ≠ some .w ∨ (s.power.phase ≠ .running ∧ ¬ s.power.bootHeld) then s
  else
    let s := s.commitAll.peatWarm
    let s := (s.captureWarm.hostClear).tcpDropAll true
    let s := ((s.lanesWarm.analogueWarm).alignPause).schedWarm
    let s := (s.pulsesHold.pinsWarm).pairWarm
    { s with
      regs := s.regs.filter fun e => !ResetClass.covers .w (resetClassOf e.1)
      latches := []
      phasor := { s.phasor with stopAt := some s.jobTai }
      net := { s.net with pathsClosed := true }
      fw := { s.fw with receive := none, sends := [], verifying := none }
      power := { s.power with phase := .warm, pendingReset := none } }

/-- WARM_RESET_TAKE_EFFECT. -/
def execWarmResetTakeEffect (s : State) : Host.Outcome State Fault Refusal := checked .warmResetTakeEffect s State.warmReset

/-- The reset ends: firmware cores restarted, paths reopened, source 223 (R413); what waited for the end restarts. A unit that waits for
an image (R410) waits on. -/
def State.warmEnd (s : State) : State :=
  if s.power.phase ≠ .warm then s
  else
    let s := { s with
      net := { s.net with pathsClosed := false }
      power := { s.power with phase := if s.power.bootHeld then .booting else .running } }
    let s := (s.lastReset s.power.warmCause).ledgerAgain.nextSave
    ((s.alignRestart.phasorRestart (s.phasor.stopAt.getD 0)).detectWarm.showRelay).fire 223

/-- WARM_RESET_END. -/
def execWarmResetEnd (s : State) : Host.Outcome State Fault Refusal := checked .warmResetEnd s State.warmEnd

/-- The host heartbeat expired (R313, R384, R408). -/
def State.heartbeat (s : State) : State :=
  match s.host.hbDue with
  | none => s
  | some t =>
    if s.time.mono < t ∨ s.holdup ∨ s.flag FU_STATUS_SWITCHING then s
    else State.requestWarm ({ s with host := { s.host with hbDue := none } }.raise EV_HI_HB_LOST sevCritical) 4

/-- HB_TIMEOUT. -/
def execHbTimeout (s : State) : Host.Outcome State Fault Refusal := onEngines .hbTimeout s State.heartbeat

end Sys2Proof.Machine
end

