-- ==== Sys2Proof/Machine/Commands.lean ====
section
/-!
DEFINITION. Commands over shared blocks: WRITE_TABLE and READ_TABLE (R309), LOG_READ (R292), OP_SET (R22 to R25), and the steps of stepped
commands (R298, R300, R307).
-/

namespace Sys2Proof.Machine

/-! ### Tables (R309) -/

/-- Entries of tables 1 to 4 at least and at most, and how many tables of the kind there are. -/
def tableShape (t : Nat) : Nat × Nat × Nat :=
  if t = 1 then (1, 1024, 32) else if t = 2 then (0, 1024, 32) else if t = 3 then (1, 1024, 8) else (1, 512, 64)

/-- A table's COUNT or INDEX out of range, as the offset of its field. -/
def tableField (t i count : Nat) : Option Nat :=
  if 4 < t then some 24
  else if t = 0 then (if i ≠ 0 then some 26 else if count = 0 ∨ 4096 < count then some 28 else none)
  else
    let (lo, hi, n) := tableShape t
    if n ≤ i then some 26 else if count < lo ∨ hi < count then some 28 else none

/-- RES1 of a set or table refused by a load limit. -/
def noEntry : Nat := 0xffffffffffffffff

/-- A REG_SET (R309): tried whole; a refused entry is recorded once, and nothing takes effect. -/
def State.regSet (s : State) (h : CmdHeader) (es : List (Nat × Nat)) : State :=
  let run := s.trySet .host es
  match run.bad with
  | some (i, off, k) =>
    let t := s.refuse .host 0 off k
    let t := match es[i]?, lookup off with
      | some e, some (r, ix) => t.refusedEffects (run.state.layoutRefused r.base (BitVec.ofNat 32 e.2)) r.base ix (BitVec.ofNat 32 e.2)
      | _, _ => t
    t.finish h 0x02 stRange 0xffff 0 (if es.length ≤ i then noEntry else i)
  | none =>
    if run.legal ≠ [] ∧ s.auditFull then s.finish h 0x02 stAuditFull
    else (s.runSet .host es run.legal).finish h 0x02 stOk 0 es.length

/-- A table replaced whole: at the next TICK on a primary with a partner; never by the host of a standby that follows (R309, R360). -/
def State.setTable (s : State) (h : CmdHeader) (t i : Nat) (vs : List Nat) : State :=
  if s.followsPrimary then s.finish h 0x02 stState 24
  else
    let now := s.ahead
    match now.tableBad t i vs with
    | some st =>
      if st = stRange then
        let one := vs.findIdx? fun v => now.tableBad t i [v] == some stRange
        s.finish h 0x02 stRange 0xffff 0 (one.getD noEntry)
      else s.finish h 0x02 st 26
    | none =>
      let bytes := tableBytes t vs
      let s := if s.orderOn then s.deferConfig { entry := .config t i s.nextTick bytes.length (BitVec.ofNat 32 (crc32c bytes)), values := vs }
        else s.acceptTable t i vs
      s.finish h 0x02 stOk 0 vs.length

/-- WRITE_TABLE: an entry is its low word and its high word; the buffer that holds them may fail to be read (R304). -/
def execTableSet (h : CmdHeader) (table index : Nat) (entries : List (Nat × Nat)) (readOk : Bool) (s : State) :
    Host.Outcome State Fault Refusal :=
  onCore (.tableSet h table index entries readOk) s fun s =>
    s.command h 0x02 (tableField table index entries.length) none fun s =>
      if ¬ readOk then s.finish h 0x02 stIntegrity
      else if table = 0 then s.regSet h entries else s.setTable h table index (entries.map fun e => e.1 + e.2 * 2 ^ 32)

/-- A table copied to the host, once DMA flows (R295). -/
def State.getTable (s : State) (h : CmdHeader) (t i dst : Nat) : State :=
  let bytes := tableBytes t (s.table t i)
  if ¬ s.dmaOn then s
  else (s.emit (.hostWrite dst bytes)).finish h 0x03 stOk 0 bytes.length (s.table t i).length

/-- READ_TABLE. -/
def execReadTable (h : CmdHeader) (table index dst dstLen : Nat) (s : State) : Host.Outcome State Fault Refusal :=
  onCore (.readTable h table index dst dstLen) s fun s =>
    let field := if table = 0 ∨ 4 < table then some 24 else if (tableShape table).2.2 ≤ index then some 26 else none
    s.command h 0x03 field (if dstLen < (tableBytes table (s.table table index)).length then some 28 else none) fun s => s.getTable h table index dst

/-! ### LOG_READ (R292) -/

/-- The entries a LOG_READ may return. -/
def State.logEntries (s : State) (fromTail : Bool) : List PeatEntry := (if fromTail then s.peat.tail else s.peat.entries).map (·.2)

/-- The next entry in SEQ order. -/
def nextEntry (es : List PeatEntry) (cursor minSev : Nat) : Option PeatEntry :=
  es.foldl (fun b e =>
    if e.seq < cursor ∨ e.severity < minSev then b
    else match b with
      | some c => if e.seq < c.seq then some e else b
      | none => some e) none

/-- LOG_READ accepted. DEDUCED (log 57): entries count as overwritten when the lowest SEQ held lies above FROM_SEQ. -/
def State.logRead (s : State) (h : CmdHeader) (fromSeq dst max_ minSev : Nat) (fromTail : Bool) : State :=
  let lowest := (s.logEntries fromTail).foldl (fun a e => min a e.seq) s.peat.nextSeq
  s.startJob h 0x40 (.logRead fromSeq dst minSev fromTail (decide (fromSeq < lowest))) max_ 64

/-- LOG_READ. -/
def execLogRead (h : CmdHeader) (fromSeq dst dstLen max_ minSev src : Nat) (s : State) : Host.Outcome State Fault Refusal :=
  let field := if 7 < minSev then some 48 else if 1 < src then some 49 else none
  onCore (.logRead h fromSeq dst dstLen max_ minSev src) s fun s =>
    s.command h 0x40 field (if dstLen < 64 * max_ then some 40 else none) fun s => s.logRead h fromSeq dst max_ minSev (src == 1)

/-! ### OP_SET (R22 to R25, R408) -/

/-- OP_SET accepted: the ramp begins and the lower point's limits hold; the command waits for its end. DEDUCED (log 58): a set to the
present point completes at once. -/
def State.opSet (s : State) (h : CmdHeader) (target : Nat) : State :=
  let before := s.point
  if s.flag OP_STATUS_SWITCHING then s.finish h 0x82 stBusy
  else if s.holdup then s.finish h 0x82 stState
  else if target < before ∧ ¬ s.loadsFit target then s.finish h 0x82 stRange 0xffff 0 noEntry
  else if target = before then s.finish h 0x82 stOk 0 before
  else
    let s := ((s.put OP_STATUS_SWITCHING 1).put OP_STATUS_TARGET target).put OP_STATUS_POINT (min before target)
    let s := { s with power := { s.power with switchStart := some s.time.mono } }
    s.startJob h 0x82 (.opSet before) 1 1

/-- OP_SET. -/
def execOpSet (h : CmdHeader) (point : Nat) (s : State) : Host.Outcome State Fault Refusal :=
  onCore (.opSet h point) s fun s => s.command h 0x82 (if 2 < point then some 24 else none) none fun s => s.opSet h point

/-! ### Steps (R298, R307) -/

/-- A job's record replaced. -/
def State.setJob (s : State) (j : Job) : State :=
  { s with host := { s.host with jobs := s.host.jobs.map fun o => if o.sq = j.sq then j else o } }

/-- How much a job that stops has copied, in the units of its RES0. -/
def State.copied (s : State) (j : Job) : Nat :=
  match j.kind with
  | .fenQuery _ _ _ _ _ _ => j.done - j.noCells
  | .captureRead unit slot _ rows _ _ _ => if j.done = 0 then 0 else 1024 + min j.done rows * (s.slotRec unit slot).rowSize
  | .logRead _ _ _ _ _ => j.done
  | _ => 0

/-- A job stopped at a step boundary with E_TIMEOUT or E_INTEGRITY: it commits nothing (R300). -/
def State.stopJob (s : State) (j : Job) (status : Nat) : State :=
  let n := s.copied j
  let s := match j.kind with
    | .fenPin _ _ _ pin => s.setPin pin none
    | .captureRead unit slot _ _ _ _ _ => s.captureReadEnd unit slot false
    | .imageStage _ _ =>
      let drop (r : Option StageRun) : Option StageRun := r.filter fun x => x.command != some (j.sq, j.tag)
      { s with fw := { s.fw with verifying := drop s.fw.verifying, copying := drop s.fw.copying } }
    | .pairJoin _ before _ _ =>
      if j.waits then
        let s := s.dropJoin before
        { s with pair_ := { s.pair_ with join := none } }
      else s
    | _ => s
  s.endJob j status 0 n

/-- Entries of a LOG_READ copied, `n` at most: the state, where the cursor stands, and how many were found. -/
def State.logCopy (es : List PeatEntry) (dst minSev : Nat) : Nat → State × Nat × Nat → State × Nat × Nat
  | 0, r => r
  | n + 1, (s, cursor, k) =>
    match nextEntry es cursor minSev with
    | some e => State.logCopy es dst minSev n (s.emit (.hostWrite (dst + 64 * k) e.bytes), e.seq + 1, k + 1)
    | none => (s, max cursor s.peat.nextSeq, k)

/-- The units `lo` to `hi − 1` of a job worked on: the state, and the job with what they change in it beside its progress. -/
def State.workUnits (s : State) (j : Job) (lo hi : Nat) : State × Job :=
  match j.kind with
  | .fenQuery first _ slots dst includeOpen pin =>
    (List.range (hi - lo)).foldl (fun (sj : State × Job) i =>
      let (bytes, without) := sj.1.queryUnit slots (first + lo + i) includeOpen pin
      (sj.1.emit (.hostWrite (dst + (lo + i) * (64 + 128 * slots.length)) bytes), { sj.2 with noCells := sj.2.noCells + bit without })) (s, j)
  | .fenPin first _ slots pin => ((List.range (hi - lo)).foldl (fun s i => s.pinUnit slots pin (first + lo + i)) s, j)
  | .captureRead unit slot first rows dst _ _ => (s.captureReadUnits unit slot first rows dst lo hi, j)
  | .logRead cursor dst minSev fromTail lost =>
    let (s, cursor, k) := State.logCopy (s.logEntries fromTail) dst minSev (hi - lo) (s, cursor, lo)
    (s, { j with kind := .logRead cursor dst minSev fromTail lost, all := if k < hi then k else j.all })
  | _ => (s, j)

/-- A job's last step done: its final completion. A staged image waits for its verification to end and its copy. -/
def State.jobEnds (s : State) (j : Job) : State :=
  match j.kind with
  | .fenQuery _ _ _ _ _ _ => s.endJob j stOk 0 (j.all - j.noCells) j.noCells
  | .fenPin _ _ _ pin => (s.showPins).endJob j stOk 0 j.all (((s.pinOf pin).map (·.bytes)).getD 0)
  | .captureRead unit slot first rows _ release headerOnly =>
    let r := s.slotRec unit slot
    (s.captureReadEnd unit slot release).endJob j stOk 0 (r.readSize first rows headerOnly) r.rseq
  | .logRead cursor _ _ _ lost => s.endJob j stOk (bit lost) j.all cursor
  | .returnCapsule => s.capsuleEnd j
  | .pairJoin role _ pairId image => s.joinRun j role pairId image
  | .imageStage _ _ | .opSet _ => s
  | _ => s.endKeyJob j

/-- The entry that a LOG_READ reaches `k` entries on. -/
def nthEntry (es : List PeatEntry) (minSev : Nat) : Nat → Nat → Option PeatEntry
  | 0, cursor => nextEntry es cursor minSev
  | k + 1, cursor => (nextEntry es cursor minSev).bind fun e => nthEntry es minSev k (e.seq + 1)

/-- The areas of DRAM and MRAM that unit `i` of a job reads, `lo` being the unit its step begins with. -/
def State.unitAreas (s : State) (j : Job) (lo i : Nat) : List (Nat × Nat) :=
  let bucket (slots : List Nat) (b : Nat) (includeOpen : Bool) : List (Nat × Nat) :=
    let (_, cs, _) := s.copyBucket slots b includeOpen
    (if (s.header b).isSome then [(64 * (b % s.depth), 64)] else []) ++
      (List.zip slots cs).filterMap fun e => e.2.map fun _ => (128 * s.cellAddr e.1 b, 128)
  match j.kind with
  | .fenQuery first _ slots _ includeOpen none => bucket slots (first + i) includeOpen
  | .fenPin first _ slots _ => bucket slots (first + i) false
  | .captureRead unit slot first rows _ _ _ =>
    let a := s.recordAddr unit slot
    let r := s.slotRec unit slot
    (if i = 0 then [(a, 1024)] else []) ++ (if i < rows then [(a + 1024 + r.physRow (first + i) * r.rowSize, r.rowSize)] else [])
  | .logRead cursor _ minSev fromTail _ =>
    let l := if fromTail then s.peat.tail else s.peat.entries
    match nthEntry (l.map (·.2)) minSev (i - lo) cursor with
    | none => []
    | some e => (l.filter fun p => p.2 == e).map fun p => ((if fromTail then 0x100002200000 else 0x780000000) + 64 * p.1, 64)
  | _ => []

/-- The first unit of a step that meets an uncorrectable word (R394), and that word. -/
def State.badUnit (s : State) (j : Job) (lo hi : Nat) : Option (Nat × Nat) :=
  if s.integ.bad.isEmpty then none
  else (List.range (hi - lo)).findSome? fun k =>
    ((s.unitAreas j lo (lo + k)).findSome? fun a => s.badWord a.1 a.2).map fun w => (lo + k, w)

/-- A step that stops at a unit with an uncorrectable word: what comes before it stands (R300, R394). -/
def State.stopBad (s : State) (j : Job) (unit w : Nat) : State :=
  let (s, j) := s.workUnits j j.done unit
  let j := { j with done := unit }
  ((s.setJob j).uecc w).stopJob j stIntegrity

/-- One step of a ring's stepped command, when it is the ring's turn (R298). A job whose key slot is in use waits, and SLH-DSA work
waits for ledger signatures (R343); one past LIMIT_MS
stops; a failed read of its parameter buffer ends it (R304). -/
def State.commandStep (s : State) (q : Nat) (readOk : Bool) : State :=
  match s.host.jobs.find? (·.sq == q) with
  | none => s
  | some j =>
    let past : Bool := match j.deadline with
      | some t => decide (t ≤ s.time.mono)
      | none => false
    if j.waits then (if past ∧ j.opcode ≠ 0x82 then s.stopJob j stTimeout else s)
    else if ¬ s.ringTurn q then s
    else
      let s := s.turnTaken q
      if s.slotBlocked j ∨ (s.slhWork j.kind ∧ s.ledgerFirst) then s
      else if past then s.stopJob j stTimeout
      else if ¬ readOk then s.stopJob j stIntegrity
      else
        let first : Bool := j.steps == 0
        match (if first then s.loadBad j.kind else none) with
        | some (st, d) => s.endJob { j with steps := 1 } st d
        | none =>
        let j := if first then { s.loadJob j with deadline := s.limitEnds j.limit } else j
        let hi := min j.all (j.done + j.perStep)
        match s.badUnit j j.done hi with
        | some (unit, w) => s.stopBad j unit w
        | none =>
          let (s, j) := s.workUnits j j.done hi
          let j := { j with done := min j.all hi, steps := j.steps + 1 }
          let s := (s.setJob j).deviceMet 15 false
          if j.done = j.all then s.jobEnds j
          else
            match j.progEvery with
            | some n => if j.steps % n = 0 then
                s.progress { tag := j.tag, sq := q, opcode := j.opcode, status := stProgress, res0 := j.done, res1 := j.all, steps := j.steps, final := false }
              else s
            | none => s

/-- COMMAND_STEP. -/
def execCommandStep (q : Nat) (readOk : Bool) (s : State) : Host.Outcome State Fault Refusal :=
  onCore (.commandStep q readOk) s fun s => s.commandStep q readOk

end Sys2Proof.Machine
end

