-- ==== Sys2Proof/Machine/Reads.lean ====
section
/-!
DEFINITION. Reads of registers by a master (01, R12, R13, R29): the values that are computed, among them what the deadline monitors show of
the jobs outstanding (12, R326), and what a read does.
-/

namespace Sys2Proof.Machine

/-! ### Deadlines outstanding (R326) -/

/-- The positions that a releasing lane owes, as their deadlines (R108), in TAI. -/
def State.positionDues (s : State) (n : Nat) : List Nat :=
  if s.laneState n ≠ lnUp ∧ s.laneState n ≠ lnDegraded then []
  else
    match (s.link n).rel with
    | none => []
    | some p => ((List.range 64).map fun k => s.posT0 n (p + k * s.posUnit n)).filterMap fun t0 =>
        if t0 ≤ s.jobTai then some (t0 + s.posSpan n + s.maxLate n + 100000) else none

/-- The due times that a device monitor's class has outstanding (R326): chain outputs; lane positions; estimates and half-cycle estimates;
bucket closes; output-stream frames; watcher samples, modal updates, wide-area and local evaluations, rule evaluations; metering blocks,
saves and ledger signatures; capture records; the DIGEST (R363). A command step runs within one command, and the numbers from 17 up are
unused. DEDUCED (log 186). -/
def State.deviceDues (s : State) (m : Nat) : List Nat :=
  let closes (last : Option Nat) (step extra : Nat) : List Nat := s.detect.closes.filterMap fun c =>
    if c.1 % max 1 step = 0 ∧ ¬ (last.map fun l => decide (c.1 ≤ l)).getD false then some (c.2 + extra) else none
  if m = 0 then
    s.afe.chains.flatMap fun e => (e.2.due.filter fun d => !d.late).map fun d => d.held + 40000
  else if m = 1 then (List.range 256).flatMap fun n => (s.positionDues n).map s.monoOf
  else if m = 2 then
    (List.range 272).flatMap fun f => if s.fnOn f && !s.cold then (s.owedInstants f 32 0).map fun t => s.monoOf (s.estimateDue f (s.windowEnd f t)) else []
  else if m = 3 then
    (List.range 128).flatMap fun i => if s.halfOn (i / 8) (i % 8) then (s.owedHalves (i / 8) (i % 8) 8 0).map fun k => s.monoOf (s.halfDue (i / 8) (i % 8) k) else []
  else if m = 4 then
    (s.align.opens.filter fun o => !o.late).map fun o => (o.reachedAt.getD (s.monoOf o.closeAt)) + 1000000
  else if m = 5 then (s.streams.ready.filter fun r => !r.missed).map fun r => r.released + 1000000
  else if m = 6 then
    (List.range 64).flatMap fun w => if s.flag (OW_CFG_EN w) && !s.cold then closes (s.ow w).last (s.gridRate / s.owRate w) 2000000 else []
  else if m = 7 then
    (List.range 64).flatMap fun w => (s.ow w).owed.filterMap fun u =>
      if u.late then none else (s.detect.closes.find? fun c => c.1 == u.bucket).map fun c => c.2 + 500000000
  else if m = 8 then
    (List.range 16).flatMap fun k =>
      if s.flag (IW_CFG_EN k) && !s.cold then closes (s.iw k).last (s.gridRate / frameRate s.fNom (s.get (IW_CFG_RATE k))) 1500000 else []
  else if m = 9 then
    (List.range 16).filterMap fun k =>
      if s.flag (IW_CFG_EN k) && !s.cold then
        (s.nextHalf k).map fun n => (s.locMask k).foldl (fun a j => max a (s.monoOf (s.halfDue (s.get (IW_CFG_LOCAL_FN k)) j n) + 100000)) 0
      else none
  else if m = 10 then s.capture.forRules.map fun u => s.monoOf u.time.tai + 50000
  else if m = 11 then s.meter.lanes.flatMap fun e => (e.2.ready.filter fun b => !b.late).map fun b => b.due + 500000
  else if m = 12 then (s.meter.saving.filter fun v => !v.late).map fun v => v.mono + 200000000
  else if m = 13 then (s.meter.queue.filter fun b => b.signature.isNone && !b.late).map fun b => b.closedAt + 5000000000
  else if m = 14 then
    ((List.range 16).filter fun u => s.cuState u == cpPost && (s.curRec u).flags &&& 16 == 0).map fun u => s.monoOf (s.recordDue u)
  else if m = 16 then (if s.lockstep && s.pair_.lateDigest != s.pair_.window + 1 then [s.monoOf (s.digestDue s.pair_.window + 10000000)] else [])
  else []

/-- A monitor's earliest outstanding due time in µs; a thread monitor's DUE as written. -/
def State.dueOf (s : State) (m : Nat) : Nat :=
  if m < 64 then (match s.deviceDues m with | [] => 0 | d :: rest => rest.foldl min d / 1000)
  else s.pair (DL_DUE_LO m) (DL_DUE_HI m)

/-! ### Reads -/

/-- What a read of a register returns, apart from what the read does: the registers that show a running count or another
block's state are computed, a write-only field reads zero (R6), every other reads the register file. -/
def State.readWord (s : State) (off : Nat) : Nat :=
  if off = TB_TIME_NS then s.time.tai % 1000000000
  else if off = TB_TIME_SEC_LO then s.time.tai / 1000000000 % 2 ^ 32
  else if off = TB_TIME_SEC_HI then s.time.tai / 1000000000 / 2 ^ 32 % 2 ^ 16
  else if off = GL_UPTIME_LO then s.uptime % 2 ^ 32
  else if off = GL_UPTIME_HI then s.uptime / 2 ^ 32 % 2 ^ 32
  else if off = CAL_SNAP_CMD then s.get CAL_CTRL_HALT * 2 ^ 31 + s.calTime / 2 ^ 17
  else if off = CAL_SNAP_DATE then s.calDate
  else if off = CAL_SNAP_TIME then s.calTime
  else if off = ME_SAVE_AGE then s.saveAge
  else
    match lookup off with
    | none => 0
    | some (r, ix) =>
      match r.base, ix with
      | 0x330010, [i] => s.vectorWord i
      | 0x378200, [i] => s.vectorWord (13 + i)
      | 0x3a0010, [t] => s.word (SC_THR_FLAGS t)
      | 0x150010, [n] => codeOf 32 (s.coefficient n)
      | 0x3c0810, [i] => Config.chainOffset i % 2 ^ 32
      | 0x3c0814, [i] => Config.chainLength i % 2 ^ 16
      | 0x3d0028, _ => s.word off % 2 ^ 16 + min 65535 ((s.time.mono - s.pair_.provedAt) / 86400000000000) * 2 ^ 16
      | 0x3e0080, _ => min 65535 (s.fw.ages.foldl max 0 / dayTicks)
      | 0x3b000c, [m] => s.dueOf m % 2 ^ 32
      | 0x3b0010, [m] => s.dueOf m / 2 ^ 32 % 2 ^ 32
      | 0x3b0018, [m] => if m < 64 then s.word off % 2 ^ 16 + min (s.deviceDues m).length 0xffff * 2 ^ 16 else s.word off
      | _, _ => r.fields.foldl (fun a f => if f.acc = .wo then a else a + (s.reg off).field f.hi f.lo * 2 ^ f.lo) 0

/-- A read of a mapped register by a master: the value and the state after. A latching read latches its partners as they stand; a partner
returns the unused latch and uses it up, or the live value with TORN_READ set and counted (R12, R60). A misaligned read gives zero and
changes nothing (R2). -/
def State.busRead (s : State) (m : Master) (off : Nat) : Nat × State :=
  if off % 4 ≠ 0 ∨ !s.answers off ∨ !s.reaches m off then (0, s)
  else
    match lookup off with
    | none => (0, s.decodeMiss (bar0Base + off))
    | some (r, ix) =>
      let live := s.readWord off
      let s := if r.base = 0x150010 then s.coefStep (ix.headD 0) else s
      match s.latchOf m off with
      | some w => (w.toNat, s.dropLatch m off)
      | none =>
        let s := s.when (latchedBy off).isSome fun s => (s.put IG_STATUS_TORN_READ 1).count (igCnt 9)
        (live, (latchPartners off).foldl (fun t p => t.setLatch m p (s.readWord p)) s)

/-- A read whose value goes out to the master. -/
def State.readOut (s : State) (m : Master) (off : Nat) : State :=
  if coreTraps m off 4 then s.misTrap m false
  else
    let (v, t) := s.busRead m off
    t.emit (.readData m off (BitVec.ofNat 32 v))

end Sys2Proof.Machine
end

