-- ==== Sys2Proof/Machine/Views.lean ====
section
/-!
DEFINITION. The records that lie in DRAM and MRAM as the bytes of their addresses (01, R28 to R32): fen store (R188 to R191), capture
pools (R279), peat log and tail (R286, R290), audit log (R252), ledger queue (R258), save slots (R247) and
certificate chain (R346). Where a record lies, its bytes
are what a read gives and what a write changes (log 28).
-/

namespace Sys2Proof.Machine

/-! ### Where the records lie -/

/-- The internal addresses of the areas. -/
abbrev annexBase : Nat := 0x4000000
@[inherit_doc annexBase] abbrev peatBase : Nat := 0x780000000
@[inherit_doc annexBase] abbrev mramBase : Nat := 0x100000000000
@[inherit_doc annexBase] abbrev auditBase : Nat := mramBase + 0x2000000
@[inherit_doc annexBase] abbrev tailBase : Nat := mramBase + 0x2200000
@[inherit_doc annexBase] abbrev queueBase : Nat := mramBase + 0x3000000
@[inherit_doc annexBase] abbrev chainBase : Nat := mramBase + 0x37f0000

/-- The address of a queued body, and of a save. -/
def QueuedBody.addr (b : QueuedBody) : Nat := queueBase + 256 * (b.body.queueSeq % 16384)
@[inherit_doc QueuedBody.addr] def CoreSave.addr (v : CoreSave) : Nat := mramBase + v.seq % 64 * 0x80000

/-- The bytes of a record slot of a capture unit, with its header: that, and its rows at their physical rows. -/
def CaptureRecord.byteAt (r : CaptureRecord) (k : Nat) : Option Byte :=
  if k < 1024 then r.head[k]?
  else
    let rowBytes := r.rowSize
    let j := (k - 1024) / max 1 rowBytes
    match (List.range r.rows.length).find? fun i => r.physRow i == j with
    | none => none
    | some i => (((r.rows[i]?.map fun x => x.words).getD []).flatMap fun w => leBytes 4 w.toNat)[(k - 1024) % max 1 rowBytes]?

/-! ### Reads -/

/-- The byte that a record of DRAM gives at an address; none where no record lies. -/
def State.dramByte (s : State) (a : Nat) : Option Byte :=
  if a < 64 * s.depth then (Store.get (fun _ => none) s.align.headers (a / 64)).bind fun h => (headerBytes h)[a % 64]?
  else if annexBase ≤ a ∧ a < annexBase + 160 * s.get FS_ANNEX_INFO_ENTRIES then
    (Store.get (fun _ => none) s.align.annex ((a - annexBase) / 160)).bind fun e => e.bytes[(a - annexBase) % 160]?
  else if a < 0x600000000 then (Store.get (fun _ => none) s.align.cells (a / 128)).bind fun c => (cellBytes c)[a % 128]?
  else if peatBase ≤ a ∧ a < peatBase + 64 * peatSize then
    let pos := (a - peatBase) / 64
    if pos < s.peat.used then (s.peat.at pos).bytes[a % 64]? else none
  else if a < peatBase then
    (List.range 16).findSome? fun u =>
      let at_ := s.recordAddr u 0
      let size := max 1 (s.slotBytes u)
      let slot := (a - at_) / size
      let r := s.slotRec u slot
      if a < at_ then none else CaptureRecord.byteAt { r with head := s.headOf u r } ((a - at_) % size)
  else none

/-- The byte that a record of MRAM gives at an address. -/
def State.mramByte (s : State) (a : Nat) : Option Byte :=
  if auditBase ≤ a ∧ a < tailBase then (s.auditBytes ((a - auditBase) / 256)).bind fun b => b[(a - auditBase) % 256]?
  else if tailBase ≤ a ∧ a < tailBase + 64 * 4096 then
    let i := (a - tailBase) / 64
    let e := Store.get (fun _ => ({} : PeatEntry)) s.peat.tail i
    if e = {} then none else e.bytes[(a - tailBase) % 64]?
  else if queueBase ≤ a ∧ a < queueBase + 256 * 16384 then
    (s.meter.queue.find? fun b => decide (b.addr ≤ a) && decide (a < b.addr + 256)).bind fun b => (b.raw.getD (ledgerBytes b.body))[a - b.addr]?
  else if chainBase ≤ a ∧ a < chainBase + 0x10000 then some (s.chainByte (a - chainBase))
  else
    (s.meter.saves.find? fun v => decide (v.addr ≤ a) && decide (a < v.addr + 0x80000)).map fun v =>
      if a < v.addr + 32832 then (v.raw.getD v.bytes).getD (a - v.addr) 0 else Store.get unlistedByte v.tail (a - v.addr)

/-- The byte that device memory holds at an address: of the record that lies there, else as last written. -/
def State.viewByte (s : State) (a : Nat) : Byte :=
  ((if a < mramBase then s.dramByte a else s.mramByte a).getD (s.memByte a))

/-- `n` bytes of device memory from an address up. -/
def State.viewRead (s : State) (a n : Nat) : List Byte := (List.range n).map fun i => s.viewByte (a + i)

/-! ### Writes -/

/-- A write of `bytes` from `at_` up, as it falls on what lies from `base` up. -/
def overlay (base : Nat) (old : List Byte) (at_ : Nat) (bytes : List Byte) : List Byte :=
  old.mapIdx fun i b => if at_ ≤ base + i ∧ base + i < at_ + bytes.length then bytes.getD (base + i - at_) 0 else b

/-- A write of `len` bytes from `at_` up touches the `size` bytes from `base` up. -/
def touches (base size at_ len : Nat) : Bool := decide (base < at_ + len) && decide (at_ < base + size)

/-- The cell that 128 bytes spell (R189). -/
def cellOf (bs : List Byte) : Cell :=
  let t := stampAt bs 0
  { instant := t.tai, tstate := t.qual / 16
    arrival := if numAt bs 12 4 = 0x7fffffff then none else some (intAt bs 12)
    data := {
      stat := numAt bs 16 2, qual := t.qual % 16, nph := numAt bs 22 1, srcNph := numAt bs 23 1, freq := numAt bs 24 4, rocof := numAt bs 28 4
      phasors := (List.range (min 8 (numAt bs 22 1))).map fun j => (numAt bs (32 + 8 * j) 4, numAt bs (36 + 8 * j) 4) }
    flags := numAt bs 18 2, slot := numAt bs 20 2, seq := numAt bs 96 4, number := numAt bs 104 8, cgen := numAt bs 100 4, raw := some bs }

/-- The header that 64 bytes spell (R190). -/
def headerOf (bs : List Byte) : BucketHeader :=
  let t := stampAt bs 8
  { number := numAt bs 0 8, instant := t.tai, qual := t.qual % 16, tstate := t.qual / 16, state := numAt bs 20 1, flags := numAt bs 21 1
    gen := numAt bs 24 4, expected := numAt bs 28 4, arrived := numAt bs 32 4, filled := numAt bs 36 4, extra := numAt bs 40 4
    openOfs := intAt bs 44, closeOfs := numAt bs 48 4
    lastOfs := if numAt bs 52 4 = 0x7fffffff then none else some (intAt bs 52)
    skipped := numAt bs 56 4, raw := some bs }

/-- The peat entry that 64 bytes spell (R286); what is not in its bytes stays. -/
def peatOf (e : PeatEntry) (bs : List Byte) : PeatEntry :=
  let f := numAt bs 7 1
  { e with
    gen := numAt bs 0 4, code := numAt bs 4 2, severity := numAt bs 6 1, inTail := f.testBit 0, foldSat := f.testBit 1
    droppedBefore := f.testBit 2, utcInvalid := f.testBit 3, seq := numAt bs 8 8, utcDate := numAt bs 16 4, utcTime := numAt bs 20 4
    time := stampAt bs 24, lastOfs := numAt bs 36 4, fold := numAt bs 40 4, cause := numAt bs 44 8, inst := numAt bs 52 2
    data := numAt bs 56 8, raw := some bs }

/-- A write as it falls on the cells, headers and annex of the fen store: the locations of rings and index that it touches hold what
their bytes then spell. -/
def State.patchFen (s : State) (a : Nat) (bs : List Byte) : State :=
  let n := bs.length
  let units (base size : Nat) : List Nat :=
    let first := (a - base) / size
    (List.range ((a + n - base + size - 1) / size - first)).map (first + ·)
  let headers := ((units 0 64).filter fun i => decide (i < s.depth)).foldl
    (fun m i => Store.set (fun _ => none) m i (some (headerOf (overlay (64 * i) (s.viewRead (64 * i) 64) a bs)))) s.align.headers
  let ringEnd := (s.align.layout.map fun (l : FenLayout) => l.cfg % 128 * 2 ^ 21).getD 0
  let ringBase := (s.align.layout.map fun (l : FenLayout) => (2 ^ 26 + annexBytes (l.cfg / 256 % 4) + l.cfg / 4096 % 16 * 2 ^ 28) / 128).getD 0
  let cells := ((units 0 128).filter fun k => decide (ringBase ≤ k) && decide (k < ringEnd)).foldl
    (fun m k => Store.set (fun _ => none) m k (some (cellOf (overlay (128 * k) (s.viewRead (128 * k) 128) a bs)))) s.align.cells
  let annex := s.align.annex.map fun (e : Nat × Option AnnexEntry) =>
    let base := annexBase + 160 * e.1
    if touches base 160 a n then (e.1, e.2.map fun v => { v with raw := some (overlay base v.bytes a bs) }) else e
  { s with align := { s.align with headers, cells, annex } }

/-- A write as it falls on the records of the capture pools. -/
def State.patchCapture (s : State) (a : Nat) (bs : List Byte) : State :=
  s.forEach 16 fun u s => s.setCu u fun v =>
    { v with records := v.records.map fun (e : Nat × CaptureRecord) =>
      let base := s.recordAddr u e.1
      let r : CaptureRecord := { e.2 with head := s.headOf u e.2 }
      if ¬ touches base (s.slotBytes u) a bs.length then e
      else
        let row (i : Nat) (x : CaptureRow) : CaptureRow :=
          let at_ := base + 1024 + r.physRow i * r.rowSize
          { x with words := x.words.mapIdx fun j w => BitVec.ofNat 32 (leNat (overlay (at_ + 4 * j) (leBytes 4 w.toNat) a bs)) }
        (e.1, { r with head := overlay base r.head a bs, rows := r.rows.mapIdx row }) }

/-- A write as it falls on the peat log and its tail. -/
def State.patchPeat (s : State) (a : Nat) (bs : List Byte) : State :=
  let one (base : Nat) (l : Store PeatEntry) : Store PeatEntry := l.map fun (e : Nat × PeatEntry) =>
    if touches (base + 64 * e.1) 64 a bs.length then (e.1, peatOf e.2 (overlay (base + 64 * e.1) e.2.bytes a bs)) else e
  { s with peat := { s.peat with entries := one peatBase s.peat.entries, tail := one tailBase s.peat.tail } }

/-- A write as it falls on the records of metrology: audit log, queued bodies, saves. What it leaves as it was keeps its check. -/
def State.patchMeter (s : State) (a : Nat) (bs : List Byte) : State :=
  let raw (base : Nat) (made now : List Byte) : Option (List Byte) :=
    let v := overlay base now a bs
    if v = made then none else some v
  { s with meter := { s.meter with
    auditRaw := (List.range ((a + bs.length - auditBase + 255) / 256 - (a - auditBase) / 256)).foldl (fun l k =>
      let i := (a - auditBase) / 256 + k
      match s.auditBytes i with
      | some b => (l.filter fun p => p.1 != i) ++ [(i, overlay (auditBase + 256 * i) b a bs)]
      | none => l) s.meter.auditRaw
    queue := s.meter.queue.map fun (b : QueuedBody) =>
      if touches b.addr 256 a bs.length then { b with raw := raw b.addr (ledgerBytes b.body) (b.raw.getD (ledgerBytes b.body)) } else b
    saves := s.meter.saves.map fun (v : CoreSave) =>
      let v := if touches v.addr 32832 a bs.length then { v with raw := raw v.addr v.bytes (v.raw.getD v.bytes) } else v
      { v with tail := bs.zipIdx.foldl (fun t b =>
        let k := a + b.2 - v.addr
        if v.addr + 32832 ≤ a + b.2 ∧ k < 0x80000 then Store.set unlistedByte t k b.1 else t) v.tail } } }

/-- A write as it falls on the certificate chain (R346). -/
def State.patchChain (s : State) (a : Nat) (bs : List Byte) : State :=
  { s with keys := { s.keys with chain := bs.zipIdx.foldl (fun m b =>
      let k := a + b.2
      if chainBase ≤ k ∧ k < chainBase + 0x10000 then Store.set (fun _ => none) m (k - chainBase) (some b.1) else m) s.keys.chain } }

/-- Bytes stored from an address up: as memory, and as what they change of the records that lie there. -/
def State.viewWrite (s : State) (a : Nat) (bs : List Byte) : State :=
  let s := if a < mramBase then (s.patchFen a bs).patchCapture a bs else (s.patchMeter a bs).patchChain a bs
  (s.patchPeat a bs).memWrite a bs

end Sys2Proof.Machine
end

