-- ==== Sys2Proof/Machine/Writes.lean ====
section
/-!
DEFINITION. The commands that read or write a register or a memory (00, R2 to R13; 01, R29 to R32): each dedicated write row is the
write of its register, and the block's own guard and effect say what the write does.
-/

namespace Sys2Proof.Machine

/-! ### Register writes and reads -/

/-- REGISTER_WRITE. -/
def execRegisterWrite (m : Master) (off width value : Nat) (s : State) : Host.Outcome State Fault Refusal :=
  onCore (.registerWrite m off width value) s fun s => s.busWrite m off width value

/-- STAT_COUNTER_CLEAR: a write to a statistics counter clears it and its SAT bit (R10, R11). -/
def execStatCounterClear (m : Master) (off value : Nat) (s : State) : Host.Outcome State Fault Refusal :=
  onCore (.statCounterClear m off value) s fun s => s.busWrite m off 4 value

/-- A read of any register: a misaligned one of a core traps (R316); of another width than four bytes it gives zero and changes nothing
(R2); of SC_CORE_CLAIM it is a claim (R323). -/
def State.readAny (s : State) (m : Master) (off width : Nat) : State :=
  if coreTraps m off width then s.misTrap m false
  else if width ≠ 4 then s.emit (.readData m off 0)
  else
    match lookup off with
    | some (r, ix) => if r.base = SC_CORE_CLAIM 0 then s.claimRead m (ix.headD 0) else s.readOut m off
    | none => s.readOut m off

/-- LATCHING_READ (R12, R13). -/
def execLatchRead (m : Master) (off width : Nat) (s : State) : Host.Outcome State Fault Refusal :=
  onCore (.latchRead m off width) s fun s => s.readAny m off width

/-- LATCHED_PARTNER_READ (R12, R13). -/
def execPartnerRead (m : Master) (off width : Nat) (s : State) : Host.Outcome State Fault Refusal :=
  onCore (.partnerRead m off width) s fun s => s.readAny m off width

/-- CAL_SNAP_READ: one calendar instant, whose date and time are latched for the reader (R59). -/
def execCalSnapRead (m : Master) (s : State) : Host.Outcome State Fault Refusal :=
  onCore (.calSnapRead m) s fun s => s.readOut m CAL_SNAP_CMD

/-! ### Memory -/

/-- An internal address lies in no target (01, R29): DRAM, MRAM, SRAM, NAND buffers, an assigned register, host memory. -/
def unmapped (addr : Nat) : Bool :=
  if addr < 0x800000000 then false
  else if bar4Base ≤ addr ∧ addr < bar4Base + 0xa000000 then false
  else if bar4Base + 0xc000000 ≤ addr ∧ addr < bar4Base + 0xc100000 then false
  else if bar0Base ≤ addr ∧ addr < bar0Base + 0x4000000 then (lookup ((addr - bar0Base) / 4 * 4)).isNone
  else decide (addr < 0x800000000000)

/-- The digest of a write of MRAM (R253): its words from its address up, each an address and a value; DEDUCED (log 61). -/
def mramDigest (addr : Nat) (bytes : List Byte) : Nat :=
  sha256 ((List.range ((bytes.length + 3) / 4)).flatMap fun i => leBytes 8 (addr + 4 * i) ++ leBytes 4 (leNat ((bytes.drop (4 * i)).take 4)))

/-- A write into MRAM offsets 0 to 0x21f_ffff (R32): the engines' own is carried out; another master's is logged and counted, or
dropped and recorded when the audit log is full. -/
def State.mramWrite (s : State) (m : Master) (off : Nat) (bytes : List Byte) : State :=
  if m.isMetrology then s.viewWrite (bar4Base + off) bytes
  else if s.auditFull then s.refuse m 1 off reasonAudit
  else
    let last := bar4Base + off + (bytes.length - 1) / 4 * 4
    let s := (s.sealBy 1).auditAdd {
      type := 3, master := masterCode m, count := 1, addrFirst := bar4Base + off, addrLast := last, digest := mramDigest (bar4Base + off) bytes }
    s.viewWrite (bar4Base + off) bytes

/-- MRAM_LEGAL_WRITE. -/
def execMramLegalWrite (m : Master) (off : Nat) (bytes : List Byte) (s : State) : Host.Outcome State Fault Refusal :=
  onCore (.mramLegalWrite m off bytes) s fun s => s.mramWrite m off bytes

/-- MRAM that is not decoded, and the return capsule: both read zero and ignore writes (01). -/
def mramSilent (addr : Nat) : Bool :=
  (decide (bar4Base + 0x2240000 ≤ addr) && decide (addr < bar4Base + 0x3000000)) ||
  (decide (bar4Base + 0x3800000 ≤ addr) && decide (addr < bar4Base + 0x4000000))

/-- Bytes stored in device memory by a master (R28, R30, R32). -/
def State.memStore (s : State) (m : Master) (addr : Nat) (bytes : List Byte) : State :=
  if bar4Base ≤ addr ∧ addr < bar4Base + 0x2200000 then s.mramWrite m (addr - bar4Base) bytes
  else if mramSilent addr then s
  else s.viewWrite addr bytes

/-- `n` bytes of device memory as a master reads them (R30). -/
def State.memLoad (s : State) (addr n : Nat) : List Byte :=
  if mramSilent addr then List.replicate n 0 else s.viewRead addr n

/-- An access of any master at an internal address (R28 to R30), which a core makes at a multiple of its width or takes a trap for (R316): a
register by the bus, host memory by PCIe, the rest device memory; an address outside the targets reads zero, ignores a write and is
captured; a read that meets an uncorrectable word is answered with poison (R394). What host memory answers is a free value (log 3). A DRAM
sluice that has stopped passes nothing (R17, log 192). -/
def State.access (s : State) (m : Master) (addr : Nat) (write : Bool) (bytes : List Byte) : State :=
  if coreTraps m addr bytes.length then s.misTrap m write
  else if unmapped addr then (s.decodeMiss addr).when (!write) fun s => s.emit (.readData m addr 0)
  else if bar0Base ≤ addr ∧ addr < bar0Base + 0x4000000 then
    if write then s.busWrite m (addr - bar0Base) bytes.length (leNat bytes) else s.readAny m (addr - bar0Base) bytes.length
  else if 0x800000000000 ≤ addr then
    if write then s.emit (.hostWrite (addr - 0x800000000000) bytes)
    else (s.emit (.memData m addr (leBytes bytes.length s.drawn) false)).draw
  else if addr < 0x800000000 ∧ s.flag (SL_STATUS_STOPPED (if write then 23 else 24)) then s
  else if write then s.memStore m addr bytes
  else
    match s.badWord addr bytes.length with
    | some w => (s.uecc w).emit (.memData m addr [] true)
    | none => s.emit (.memData m addr (s.memLoad addr bytes.length) false)

/-- UNMAPPED_ACCESS, and every access by internal address that has no row of its own. -/
def execInternalAccess (m : Master) (addr : Nat) (write : Bool) (bytes : List Byte) (s : State) : Host.Outcome State Fault Refusal :=
  onCore (.internalAccess m addr write bytes) s fun s => s.access m addr write bytes

/-! ### The dedicated write rows -/

/-- GL_RESET: a write of GL_RESET. -/
def execGlReset (m : Master) (value : Nat) (s : State) : Host.Outcome State Fault Refusal :=
  onCore (.glReset m value) s fun s => s.busWrite m GL_RESET 4 value

/-- CAL_COMMIT: a write of CAL_COMMIT. -/
def execCalCommit (m : Master) (value : Nat) (s : State) : Host.Outcome State Fault Refusal :=
  onCore (.calCommit m value) s fun s => s.busWrite m CAL_COMMIT 4 value

/-- TRIM_START: a write of CAL_TRIM_CTRL. -/
def execTrimStart (m : Master) (value : Nat) (s : State) : Host.Outcome State Fault Refusal :=
  onCore (.trimStart m value) s fun s => s.busWrite m CAL_TRIM_CTRL 4 value

/-- LANE_RESYNC: a write of LN_CTRL. -/
def execLaneResync (m : Master) (n value : Nat) (s : State) : Host.Outcome State Fault Refusal :=
  onCore (.laneResync m n value) s fun s => s.busWrite m (LN_CTRL n) 4 value

/-- LANE_ENABLE: a write of LN_CFG. -/
def execLaneEnable (m : Master) (n value : Nat) (s : State) : Host.Outcome State Fault Refusal :=
  onCore (.laneEnable m n value) s fun s => s.busWrite m (LN_CFG n) 4 value

/-- LANE_DISABLE: a write of LN_CFG. -/
def execLaneDisable (m : Master) (n value : Nat) (s : State) : Host.Outcome State Fault Refusal :=
  onCore (.laneDisable m n value) s fun s => s.busWrite m (LN_CFG n) 4 value

/-- INJ_SOFT_TRIGGER: a write of AF_INJ_TRIG. -/
def execInjSoftTrigger (m : Master) (c value : Nat) (s : State) : Host.Outcome State Fault Refusal :=
  onCore (.injSoftTrigger m c value) s fun s => s.busWrite m (AF_INJ_TRIG c) 4 value

/-- FC_SWAP: a write of FC_CTRL. -/
def execFcSwap (m : Master) (n value : Nat) (s : State) : Host.Outcome State Fault Refusal :=
  onCore (.fcSwap m n value) s fun s => s.busWrite m (FC_CTRL n) 4 value

/-- FC_LOAD_FACTORY: a write of FC_CTRL. -/
def execFcLoadFactory (m : Master) (n value : Nat) (s : State) : Host.Outcome State Fault Refusal :=
  onCore (.fcLoadFactory m n value) s fun s => s.busWrite m (FC_CTRL n) 4 value

/-- FC_COEF_WRITE: a write of FC_COEF_DATA. -/
def execFcCoefWrite (m : Master) (n value : Nat) (s : State) : Host.Outcome State Fault Refusal :=
  onCore (.fcCoefWrite m n value) s fun s => s.busWrite m (FC_COEF_DATA n) 4 value

/-- OS_ENABLE: a write of OS_CFG. -/
def execOsEnable (m : Master) (i value : Nat) (s : State) : Host.Outcome State Fault Refusal :=
  onCore (.osEnable m i value) s fun s => s.busWrite m (OS_CFG i) 4 value

/-- SLOT_ENABLE: a write of AE_SLOT_CFG. -/
def execSlotEnable (m : Master) (n value : Nat) (s : State) : Host.Outcome State Fault Refusal :=
  onCore (.slotEnable m n value) s fun s => s.busWrite m (AE_SLOT_CFG n) 4 value

/-- ALIGN_ENABLE: a write of AE_CFG. -/
def execAlignEnable (m : Master) (value : Nat) (s : State) : Host.Outcome State Fault Refusal :=
  onCore (.alignEnable m value) s fun s => s.busWrite m AE_CFG 4 value

/-- ALIGN_DISABLE: a write of AE_CFG. -/
def execAlignDisable (m : Master) (value : Nat) (s : State) : Host.Outcome State Fault Refusal :=
  onCore (.alignDisable m value) s fun s => s.busWrite m AE_CFG 4 value

/-- RULE_CLEAR: a write of AL_RULE_CTRL. -/
def execRuleClear (m : Master) (r value : Nat) (s : State) : Host.Outcome State Fault Refusal :=
  onCore (.ruleClear m r value) s fun s => s.busWrite m (AL_RULE_CTRL r) 4 value

/-- IW_CLEAR: a write of IW_CTRL. -/
def execIwClear (m : Master) (k value : Nat) (s : State) : Host.Outcome State Fault Refusal :=
  onCore (.iwClear m k value) s fun s => s.busWrite m (IW_CTRL k) 4 value

/-- OW_ENABLE: a write of OW_CFG. -/
def execOwEnable (m : Master) (w value : Nat) (s : State) : Host.Outcome State Fault Refusal :=
  onCore (.owEnable m w value) s fun s => s.busWrite m (OW_CFG w) 4 value

/-- IW_ENABLE: a write of IW_CFG. -/
def execIwEnable (m : Master) (k value : Nat) (s : State) : Host.Outcome State Fault Refusal :=
  onCore (.iwEnable m k value) s fun s => s.busWrite m (IW_CFG k) 4 value

/-- IW_DISABLE: a write of IW_CFG. -/
def execIwDisable (m : Master) (k value : Nat) (s : State) : Host.Outcome State Fault Refusal :=
  onCore (.iwDisable m k value) s fun s => s.busWrite m (IW_CFG k) 4 value

/-- LEDGER_ACK: a write of ME_LEDGER_ACK_HI. -/
def execLedgerAck (m : Master) (value : Nat) (s : State) : Host.Outcome State Fault Refusal :=
  onCore (.ledgerAck m value) s fun s => s.busWrite m ME_LEDGER_ACK_HI 4 value

/-- LEDGER_RESEND: a write of ME_LEDGER_CTRL. -/
def execLedgerResend (m : Master) (value : Nat) (s : State) : Host.Outcome State Fault Refusal :=
  onCore (.ledgerResend m value) s fun s => s.busWrite m ME_LEDGER_CTRL 4 value

/-- METER_DISABLE: a write of ME_CFG. -/
def execMeterDisable (m : Master) (n value : Nat) (s : State) : Host.Outcome State Fault Refusal :=
  onCore (.meterDisable m n value) s fun s => s.busWrite m (ME_CFG n) 4 value

/-- CP_ARM: a write of CP_CTRL. -/
def execCpArm (m : Master) (u value : Nat) (s : State) : Host.Outcome State Fault Refusal :=
  onCore (.cpArm m u value) s fun s => s.busWrite m (CP_CTRL u) 4 value

/-- CP_DISARM: a write of CP_CTRL. -/
def execCpDisarm (m : Master) (u value : Nat) (s : State) : Host.Outcome State Fault Refusal :=
  onCore (.cpDisarm m u value) s fun s => s.busWrite m (CP_CTRL u) 4 value

/-- CP_TRIG: a write of CP_CTRL. -/
def execCpTrig (m : Master) (u value : Nat) (s : State) : Host.Outcome State Fault Refusal :=
  onCore (.cpTrig m u value) s fun s => s.busWrite m (CP_CTRL u) 4 value

/-- CP_RELEASE_ALL: a write of CP_CTRL. -/
def execCpReleaseAll (m : Master) (u value : Nat) (s : State) : Host.Outcome State Fault Refusal :=
  onCore (.cpReleaseAll m u value) s fun s => s.busWrite m (CP_CTRL u) 4 value

/-- SQ_DOORBELL: a write of HI_SQ_DB. -/
def execSqDoorbell (m : Master) (q value : Nat) (s : State) : Host.Outcome State Fault Refusal :=
  onCore (.sqDoorbell m q value) s fun s => s.busWrite m (HI_SQ_DB q) 4 value

/-- CQ_DOORBELL: a write of HI_CQ_DB. -/
def execCqDoorbell (m : Master) (q value : Nat) (s : State) : Host.Outcome State Fault Refusal :=
  onCore (.cqDoorbell m q value) s fun s => s.busWrite m (HI_CQ_DB q) 4 value

/-- DR_DOORBELL: a write of HI_DR_DB. -/
def execDrDoorbell (m : Master) (r value : Nat) (s : State) : Host.Outcome State Fault Refusal :=
  onCore (.drDoorbell m r value) s fun s => s.busWrite m (HI_DR_DB r) 4 value

/-- RING_ENABLE: a write of the ring configuration register. -/
def execRingEnable (m : Master) (off value : Nat) (s : State) : Host.Outcome State Fault Refusal :=
  onCore (.ringEnable m off value) s fun s => s.busWrite m off 4 value

/-- RING_DISABLE: a write of the ring configuration register. -/
def execRingDisable (m : Master) (off value : Nat) (s : State) : Host.Outcome State Fault Refusal :=
  onCore (.ringDisable m off value) s fun s => s.busWrite m off 4 value

/-- MSIX_UNMASK: a write of MSIX_CTRL. -/
def execMsixUnmask (m : Master) (v value : Nat) (s : State) : Host.Outcome State Fault Refusal :=
  onCore (.msixUnmask m v value) s fun s => s.busWrite m (MSIX_CTRL v) 4 value

/-- HB_WRITE: a write of HI_HB. -/
def execHbWrite (m : Master) (value : Nat) (s : State) : Host.Outcome State Fault Refusal :=
  onCore (.hbWrite m value) s fun s => s.busWrite m HI_HB 4 value

/-- THREAD_FLAG_SET: a write of SC_THR_FLAGS. -/
def execThreadFlagSet (m : Master) (t value : Nat) (s : State) : Host.Outcome State Fault Refusal :=
  onCore (.threadFlagSet m t value) s fun s => s.busWrite m (SC_THR_FLAGS t) 4 value

/-- THREAD_FLAG_CLEAR: a write of SC_THR_FCLR. -/
def execThreadFlagClear (m : Master) (t value : Nat) (s : State) : Host.Outcome State Fault Refusal :=
  onCore (.threadFlagClear m t value) s fun s => s.busWrite m (SC_THR_FCLR t) 4 value

/-- THREAD_WAIT: a write of SC_THR_WAIT. -/
def execThreadWait (m : Master) (t value : Nat) (s : State) : Host.Outcome State Fault Refusal :=
  onCore (.threadWait m t value) s fun s => s.busWrite m (SC_THR_WAIT t) 4 value

/-- THREAD_ENABLE: a write of SC_THR_CFG. -/
def execThreadEnable (m : Master) (t value : Nat) (s : State) : Host.Outcome State Fault Refusal :=
  onCore (.threadEnable m t value) s fun s => s.busWrite m (SC_THR_CFG t) 4 value

/-- THREAD_DISABLE: a write of SC_THR_CFG. -/
def execThreadDisable (m : Master) (t value : Nat) (s : State) : Host.Outcome State Fault Refusal :=
  onCore (.threadDisable m t value) s fun s => s.busWrite m (SC_THR_CFG t) 4 value

/-- CORE_YIELD: a write of SC_CORE_CTRL. -/
def execCoreYield (m : Master) (c value : Nat) (s : State) : Host.Outcome State Fault Refusal :=
  onCore (.coreYield m c value) s fun s => s.busWrite m (SC_CORE_CTRL c) 4 value

/-- CORE_RUN: a write of SC_CORE_CTRL. -/
def execCoreRun (m : Master) (c value : Nat) (s : State) : Host.Outcome State Fault Refusal :=
  onCore (.coreRun m c value) s fun s => s.busWrite m (SC_CORE_CTRL c) 4 value

/-- SOFTWARE_EVENT: a write of SC_SWEVT. -/
def execSoftwareEvent (m : Master) (value : Nat) (s : State) : Host.Outcome State Fault Refusal :=
  onCore (.softwareEvent m value) s fun s => s.busWrite m SC_SWEVT 4 value

/-- DL_ARM: a write of DL_ARM. -/
def execDlArm (m : Master) (d value : Nat) (s : State) : Host.Outcome State Fault Refusal :=
  onCore (.dlArm m d value) s fun s => s.busWrite m (DL_ARM d) 4 value

/-- DL_DUE_ARM: a write of DL_DUE_HI. -/
def execDlDueArm (m : Master) (d value : Nat) (s : State) : Host.Outcome State Fault Refusal :=
  onCore (.dlDueArm m d value) s fun s => s.busWrite m (DL_DUE_HI d) 4 value

/-- DL_DONE: a write of DL_DONE. -/
def execDlDone (m : Master) (d value : Nat) (s : State) : Host.Outcome State Fault Refusal :=
  onCore (.dlDone m d value) s fun s => s.busWrite m (DL_DONE d) 4 value

/-- PAIR_ENABLE: a write of CW_CFG. -/
def execPairEnable (m : Master) (value : Nat) (s : State) : Host.Outcome State Fault Refusal :=
  onCore (.pairEnable m value) s fun s => s.busWrite m CW_CFG 4 value

/-- PAIR_DISABLE: a write of CW_CFG. -/
def execPairDisable (m : Master) (value : Nat) (s : State) : Host.Outcome State Fault Refusal :=
  onCore (.pairDisable m value) s fun s => s.busWrite m CW_CFG 4 value

end Sys2Proof.Machine
end

