-- ==== Sys2Proof/Machine/Forms.lean ====
section
/-!
DEFINITION. Short forms: fifteen commands and their meanings under the operands that the host's own reading of exec's arms
gives them, each an abbreviation of the constructor or meaning it stands for. The machine uses none of them.
-/

namespace Sys2Proof

open Machine

/-- `latchRead`, with the operands this form leaves out at plain values. -/
abbrev Instr.latchingRead (m : Master) (off : Nat) : Instr := .latchRead m off 4

/-- `partnerRead`, with the operands this form leaves out at plain values. -/
abbrev Instr.latchedPartnerRead (m : Master) (off : Nat) : Instr := .partnerRead m off 4

/-- `internalAccess`, with the operands this form leaves out at plain values. -/
abbrev Instr.unmappedAccess (m : Master) (addr : Nat) (write : Bool) : Instr := .internalAccess m addr write [0]

/-- `trimFinish`, with the operands this form leaves out at plain values. -/
abbrev Instr.trimDone (_ : Unit) : Instr := .trimFinish

/-- `txBegin`, with the operands this form leaves out at plain values. -/
abbrev Instr.txFrameStart (p : Nat) : Instr := .txBegin p 0 false

/-- `phasorEstimate`, with the operands this form leaves out at plain values. -/
abbrev Instr.pmuEstimate (f : Nat) (_ : Unit) : Instr := .phasorEstimate f

/-- `halfWindow`, with the operands this form leaves out at plain values. -/
abbrev Instr.halfCycleEstimate (m j : Nat) (_ : Unit) : Instr := .halfWindow m j

/-- `osConnect`, with the operands this form leaves out at plain values. -/
abbrev Instr.osTcpConnect (k : Nat) : Instr := .osConnect k 0

/-- `tableSet`, with the operands this form leaves out at plain values. -/
abbrev Instr.writeTable (h : CmdHeader) (table index : Nat) (entries : List (Nat × Nat)) : Instr := .tableSet h table index entries true

/-- `scrubPass`, with the operands this form leaves out at plain values. -/
abbrev Instr.memoryScrub (mram : Bool) (_ : Unit) (corrected bad : List Nat) : Instr := .scrubPass mram corrected bad

/-- `imageStage`, with the operands this form leaves out at plain values. -/
abbrev Instr.fwStage (h : CmdHeader) (kind flags : Nat) (image : Image) : Instr := .imageStage h kind flags image true

/-- `relayOfferIn`, with the operands this form leaves out at plain values. -/
abbrev Instr.relayOfferRx (r : RelayHeader) (image : Image) (hops : Nat) : Instr := .relayOfferIn r image.length (imgKind image) hops (imgDigest image)

/-- `relayChunkIn`, with the operands this form leaves out at plain values. -/
abbrev Instr.relayChunkRx (r : RelayHeader) : Instr := .relayChunkIn r []

/-- `refreshPassed`, with the operands this form leaves out at plain values. -/
abbrev Instr.nandRefreshEnd : Instr := .refreshPassed 0

/-- `bootUp`, with the operands this form leaves out at plain values. -/
abbrev Instr.powerUp (testmode : Bool) (slotA slotB : Nat) : Instr := .bootUp testmode slotA slotB []

namespace Machine

/-- `execLatchRead` under the short form. -/
abbrev execLatchingRead (m : Master) (off : Nat) (s : State) : Host.Outcome State Fault Refusal := execLatchRead m off 4 s

/-- `execPartnerRead` under the short form. -/
abbrev execLatchedPartnerRead (m : Master) (off : Nat) (s : State) : Host.Outcome State Fault Refusal := execPartnerRead m off 4 s

/-- `execInternalAccess` under the short form. -/
abbrev execUnmappedAccess (m : Master) (addr : Nat) (write : Bool) (s : State) : Host.Outcome State Fault Refusal := execInternalAccess m addr write [0] s

/-- `execTrimFinish` under the short form. -/
abbrev execTrimDone (_ : Unit) (s : State) : Host.Outcome State Fault Refusal := execTrimFinish s

/-- `execTxBegin` under the short form. -/
abbrev execTxFrameStart (p : Nat) (s : State) : Host.Outcome State Fault Refusal := execTxBegin p 0 false s

/-- `execPhasorEstimate` under the short form. -/
abbrev execPmuEstimate (f : Nat) (_ : Unit) (s : State) : Host.Outcome State Fault Refusal := execPhasorEstimate f s

/-- `execHalfWindow` under the short form. -/
abbrev execHalfCycleEstimate (m j : Nat) (_ : Unit) (s : State) : Host.Outcome State Fault Refusal := execHalfWindow m j s

/-- `execOsConnect` under the short form. -/
abbrev execOsTcpConnect (k : Nat) (s : State) : Host.Outcome State Fault Refusal := execOsConnect k 0 s

/-- `execTableSet` under the short form. -/
abbrev execWriteTable (h : CmdHeader) (table index : Nat) (entries : List (Nat × Nat)) (s : State) : Host.Outcome State Fault Refusal := execTableSet h table index entries true s

/-- `execScrubPass` under the short form. -/
abbrev execMemoryScrub (mram : Bool) (_ : Unit) (corrected bad : List Nat) (s : State) : Host.Outcome State Fault Refusal := execScrubPass mram corrected bad s

/-- `execImageStage` under the short form. -/
abbrev execFwStage (h : CmdHeader) (kind flags : Nat) (image : Image) (s : State) : Host.Outcome State Fault Refusal := execImageStage h kind flags image true s

/-- `execRelayOfferIn` under the short form. -/
abbrev execRelayOfferRx (r : RelayHeader) (image : Image) (hops : Nat) (s : State) : Host.Outcome State Fault Refusal := execRelayOfferIn r image.length (imgKind image) hops (imgDigest image) s

/-- `execRelayChunkIn` under the short form. -/
abbrev execRelayChunkRx (r : RelayHeader) (s : State) : Host.Outcome State Fault Refusal := execRelayChunkIn r [] s

/-- `execRefreshPassed` under the short form. -/
abbrev execNandRefreshEnd (s : State) : Host.Outcome State Fault Refusal := execRefreshPassed 0 s

/-- `execBootUp` under the short form. -/
abbrev execPowerUp (testmode : Bool) (slotA slotB : Nat) (s : State) : Host.Outcome State Fault Refusal := execBootUp testmode slotA slotB [] s

end Machine

end Sys2Proof
end

