-- ==== Sys2Proof/Machine/Dispatch.lean ====
section
/-!
DEFINITION. One arm per command: each is one direct call of the command's meaning.
-/

namespace Sys2Proof.Machine

/-- The effect of a command on everything but the queue. -/
def exec (i : Instr) (s : State) : Host.Outcome State Fault Refusal :=
  match i with
  | .registerWrite m off width value => Sys2Proof.Machine.execRegisterWrite m off width value s
  | .statCounterClear m off value => Sys2Proof.Machine.execStatCounterClear m off value s
  | .latchRead m off width => Sys2Proof.Machine.execLatchRead m off width s
  | .partnerRead m off width => Sys2Proof.Machine.execPartnerRead m off width s
  | .internalAccess m addr write bytes => Sys2Proof.Machine.execInternalAccess m addr write bytes s
  | .mramLegalWrite m off bytes => Sys2Proof.Machine.execMramLegalWrite m off bytes s
  | .sluiceSelftest k pass => Sys2Proof.Machine.execSluiceSelftest k pass s
  | .opSet h point => Sys2Proof.Machine.execOpSet h point s
  | .tempUpdate sixteenths => Sys2Proof.Machine.execTempUpdate sixteenths s
  | .glReset m value => Sys2Proof.Machine.execGlReset m value s
  | .ptpMessageRx p msg => Sys2Proof.Machine.execPtpMessageRx p msg s
  | .announceTimeout p => Sys2Proof.Machine.execAnnounceTimeout p s
  | .syncTimeout p => Sys2Proof.Machine.execSyncTimeout p s
  | .ptpMasterTx p kind => Sys2Proof.Machine.execPtpMasterTx p kind s
  | .ppsInEdge rising heldUs => Sys2Proof.Machine.execPpsInEdge rising heldUs s
  | .todSentenceRx z => Sys2Proof.Machine.execTodSentenceRx z s
  | .timeAcquire h => Sys2Proof.Machine.execTimeAcquire h s
  | .timeStep h mode sec ns => Sys2Proof.Machine.execTimeStep h mode sec ns s
  | .calCommit m value => Sys2Proof.Machine.execCalCommit m value s
  | .calSnapRead m => Sys2Proof.Machine.execCalSnapRead m s
  | .calAlarm n => Sys2Proof.Machine.execCalAlarm n s
  | .trimStart m value => Sys2Proof.Machine.execTrimStart m value s
  | .ethFrameRx p f => Sys2Proof.Machine.execEthFrameRx p f s
  | .pauseHoldEnd p => Sys2Proof.Machine.execPauseHoldEnd p s
  | .txBegin p corrected poisoned => Sys2Proof.Machine.execTxBegin p corrected poisoned s
  | .phyLinkLoss p => Sys2Proof.Machine.execPhyLinkLoss p s
  | .linkDownReport p => Sys2Proof.Machine.execLinkDownReport p s
  | .linkUpReport p => Sys2Proof.Machine.execLinkUpReport p s
  | .rxSilenceExpire p => Sys2Proof.Machine.execRxSilenceExpire p s
  | .rxBadRateCheck p => Sys2Proof.Machine.execRxBadRateCheck p s
  | .txqStarve p q => Sys2Proof.Machine.execTxqStarve p q s
  | .pauseHighWm p level => Sys2Proof.Machine.execPauseHighWm p level s
  | .pauseRepeat p => Sys2Proof.Machine.execPauseRepeat p s
  | .pauseLowWm p level => Sys2Proof.Machine.execPauseLowWm p level s
  | .sampleBlockRx b => Sys2Proof.Machine.execSampleBlockRx b s
  | .descriptorRx d => Sys2Proof.Machine.execDescriptorRx d s
  | .svFrameRx f => Sys2Proof.Machine.execSvFrameRx f s
  | .gapPositionRelease n => Sys2Proof.Machine.execGapPositionRelease n s
  | .laneDeadlineMiss n => Sys2Proof.Machine.execLaneDeadlineMiss n s
  | .laneSilence n => Sys2Proof.Machine.execLaneSilence n s
  | .laneResync m n value => Sys2Proof.Machine.execLaneResync m n value s
  | .laneEnable m n value => Sys2Proof.Machine.execLaneEnable m n value s
  | .laneDisable m n value => Sys2Proof.Machine.execLaneDisable m n value s
  | .converterFrame c => Sys2Proof.Machine.execConverterFrame c s
  | .conversionEnd c code ovr poisoned full => Sys2Proof.Machine.execConversionEnd c code ovr poisoned full s
  | .injTimerTrigger c => Sys2Proof.Machine.execInjTimerTrigger c s
  | .injSoftTrigger m c value => Sys2Proof.Machine.execInjSoftTrigger m c value s
  | .chainOutput n => Sys2Proof.Machine.execChainOutput n s
  | .chainDeadlineMiss n => Sys2Proof.Machine.execChainDeadlineMiss n s
  | .fcSwap m n value => Sys2Proof.Machine.execFcSwap m n value s
  | .fcLoadFactory m n value => Sys2Proof.Machine.execFcLoadFactory m n value s
  | .fcCoefWrite m n value => Sys2Proof.Machine.execFcCoefWrite m n value s
  | .phasorEstimate f => Sys2Proof.Machine.execPhasorEstimate f s
  | .halfWindow m j => Sys2Proof.Machine.execHalfWindow m j s
  | .pmuDeadlineMiss f => Sys2Proof.Machine.execPmuDeadlineMiss f s
  | .halfCycleDeadlineMiss m => Sys2Proof.Machine.execHalfCycleDeadlineMiss m s
  | .osDeadlineMiss k => Sys2Proof.Machine.execOsDeadlineMiss k s
  | .osCmdDataOff k c => Sys2Proof.Machine.execOsCmdDataOff k c s
  | .osCmdDataOn k c => Sys2Proof.Machine.execOsCmdDataOn k c s
  | .osCmdHeader k c => Sys2Proof.Machine.execOsCmdHeader k c s
  | .osCmdCfg1 k c => Sys2Proof.Machine.execOsCmdCfg1 k c s
  | .osCmdCfg2 k c => Sys2Proof.Machine.execOsCmdCfg2 k c s
  | .osCmdCfg3 k c => Sys2Proof.Machine.execOsCmdCfg3 k c s
  | .osCmdReject k c code => Sys2Proof.Machine.execOsCmdReject k c code s
  | .osConnect k port => Sys2Proof.Machine.execOsConnect k port s
  | .osTcpClose k => Sys2Proof.Machine.execOsTcpClose k s
  | .osTcpKeepalive k answered => Sys2Proof.Machine.execOsTcpKeepalive k answered s
  | .osCfg2Repeat k => Sys2Proof.Machine.execOsCfg2Repeat k s
  | .osEnable m k value => Sys2Proof.Machine.execOsEnable m k value s
  | .alignFrameRx f => Sys2Proof.Machine.execAlignFrameRx f s
  | .cfgFrameCheck f => Sys2Proof.Machine.execCfgFrameCheck f s
  | .bucketClose number => Sys2Proof.Machine.execBucketClose number s
  | .bucketDeadlineMiss number => Sys2Proof.Machine.execBucketDeadlineMiss number s
  | .slotStale n => Sys2Proof.Machine.execSlotStale n s
  | .slotEnable m n value => Sys2Proof.Machine.execSlotEnable m n value s
  | .alignEnable m value => Sys2Proof.Machine.execAlignEnable m value s
  | .alignDisable m value => Sys2Proof.Machine.execAlignDisable m value s
  | .fenQuery h first last dst dstLen slots flags pin => Sys2Proof.Machine.execFenQuery h first last dst dstLen slots flags pin s
  | .fenPin h first last slots pin => Sys2Proof.Machine.execFenPin h first last slots pin s
  | .fenUnpin h first last slots pin => Sys2Proof.Machine.execFenUnpin h first last slots pin s
  | .owSample w number => Sys2Proof.Machine.execOwSample w number s
  | .owModalUpdate w => Sys2Proof.Machine.execOwModalUpdate w s
  | .iwWaEval k number => Sys2Proof.Machine.execIwWaEval k number s
  | .iwLocalEval k => Sys2Proof.Machine.execIwLocalEval k s
  | .iwLearnEnd k => Sys2Proof.Machine.execIwLearnEnd k s
  | .locVsHoldEnd k => Sys2Proof.Machine.execLocVsHoldEnd k s
  | .ruleMinOnEnd r => Sys2Proof.Machine.execRuleMinOnEnd r s
  | .ruleClear m r value => Sys2Proof.Machine.execRuleClear m r value s
  | .iwClear m k value => Sys2Proof.Machine.execIwClear m k value s
  | .owEnable m w value => Sys2Proof.Machine.execOwEnable m w value s
  | .iwEnable m k value => Sys2Proof.Machine.execIwEnable m k value s
  | .iwDisable m k value => Sys2Proof.Machine.execIwDisable m k value s
  | .detectionDeadlineMiss kind index => Sys2Proof.Machine.execDetectionDeadlineMiss kind index s
  | .blockBook n mismatch mismatchAgain => Sys2Proof.Machine.execBlockBook n mismatch mismatchAgain s
  | .meBlockDeadlineMiss n => Sys2Proof.Machine.execMeBlockDeadlineMiss n s
  | .supplyTrip monitor => Sys2Proof.Machine.execSupplyTrip monitor s
  | .laneRecordClose h lane context => Sys2Proof.Machine.execLaneRecordClose h lane context s
  | .metrologyMode h mode => Sys2Proof.Machine.execMetrologyMode h mode s
  | .ledgerAck m value => Sys2Proof.Machine.execLedgerAck m value s
  | .ledgerResend m value => Sys2Proof.Machine.execLedgerResend m value s
  | .meterDisable m n value => Sys2Proof.Machine.execMeterDisable m n value s
  | .pulseEmit p => Sys2Proof.Machine.execPulseEmit p s
  | .pulseWidthEnd p => Sys2Proof.Machine.execPulseWidthEnd p s
  | .sentinelSample rms => Sys2Proof.Machine.execSentinelSample rms s
  | .tamperInput pin level => Sys2Proof.Machine.execTamperInput pin level s
  | .captureRow u words => Sys2Proof.Machine.execCaptureRow u words s
  | .captureHoldoffEnd u => Sys2Proof.Machine.execCaptureHoldoffEnd u s
  | .captureDeadlineMiss u => Sys2Proof.Machine.execCaptureDeadlineMiss u s
  | .cpArm m u value => Sys2Proof.Machine.execCpArm m u value s
  | .cpDisarm m u value => Sys2Proof.Machine.execCpDisarm m u value s
  | .cpTrig m u value => Sys2Proof.Machine.execCpTrig m u value s
  | .cpReleaseAll m u value => Sys2Proof.Machine.execCpReleaseAll m u value s
  | .captureArm h unit action => Sys2Proof.Machine.execCaptureArm h unit action s
  | .captureRead h unit flags slot first rows dst dstLen => Sys2Proof.Machine.execCaptureRead h unit flags slot first rows dst dstLen s
  | .logRead h fromSeq dst dstLen max minSev src => Sys2Proof.Machine.execLogRead h fromSeq dst dstLen max minSev src s
  | .sqDoorbell m q value => Sys2Proof.Machine.execSqDoorbell m q value s
  | .cqDoorbell m q value => Sys2Proof.Machine.execCqDoorbell m q value s
  | .drDoorbell m r value => Sys2Proof.Machine.execDrDoorbell m r value s
  | .ringEnable m off value => Sys2Proof.Machine.execRingEnable m off value s
  | .ringDisable m off value => Sys2Proof.Machine.execRingDisable m off value s
  | .commandStart q fetch opcode tag => Sys2Proof.Machine.execCommandStart q fetch opcode tag s
  | .commandStep q readOk => Sys2Proof.Machine.execCommandStep q readOk s
  | .stepDeadlineMiss q => Sys2Proof.Machine.execStepDeadlineMiss q s
  | .msixCoalesceTimer src => Sys2Proof.Machine.execMsixCoalesceTimer src s
  | .msixUnmask m v value => Sys2Proof.Machine.execMsixUnmask m v value s
  | .hbWrite m value => Sys2Proof.Machine.execHbWrite m value s
  | .nop h => Sys2Proof.Machine.execNop h s
  | .tableSet h table index entries readOk => Sys2Proof.Machine.execTableSet h table index entries readOk s
  | .readTable h table index dst dstLen => Sys2Proof.Machine.execReadTable h table index dst dstLen s
  | .threadFlagSet m t value => Sys2Proof.Machine.execThreadFlagSet m t value s
  | .threadFlagClear m t value => Sys2Proof.Machine.execThreadFlagClear m t value s
  | .threadWait m t value => Sys2Proof.Machine.execThreadWait m t value s
  | .threadEnable m t value => Sys2Proof.Machine.execThreadEnable m t value s
  | .threadDisable m t value => Sys2Proof.Machine.execThreadDisable m t value s
  | .preemptTrap c => Sys2Proof.Machine.execPreemptTrap c s
  | .coreClaim m c => Sys2Proof.Machine.execCoreClaim m c s
  | .coreYield m c value => Sys2Proof.Machine.execCoreYield m c value s
  | .coreRun m c value => Sys2Proof.Machine.execCoreRun m c value s
  | .softwareEvent m value => Sys2Proof.Machine.execSoftwareEvent m value s
  | .schedTimer n => Sys2Proof.Machine.execSchedTimer n s
  | .dlArm m d value => Sys2Proof.Machine.execDlArm m d value s
  | .dlDueArm m d value => Sys2Proof.Machine.execDlDueArm m d value s
  | .dlDone m d value => Sys2Proof.Machine.execDlDone m d value s
  | .threadDeadlineMiss d => Sys2Proof.Machine.execThreadDeadlineMiss d s
  | .keyGenerate h slot alg usage dest pubDst pubLen => Sys2Proof.Machine.execKeyGenerate h slot alg usage dest pubDst pubLen s
  | .keyImport h slot wrapSlot blob => Sys2Proof.Machine.execKeyImport h slot wrapSlot blob s
  | .keyUpdate h slot wrapSlot blob pubDst pubLen => Sys2Proof.Machine.execKeyUpdate h slot wrapSlot blob pubDst pubLen s
  | .attest h slot flags dst dstLen challenge => Sys2Proof.Machine.execAttest h slot flags dst dstLen challenge s
  | .sign h slot message dst dstLen => Sys2Proof.Machine.execSign h slot message dst dstLen s
  | .verify h slot message sig => Sys2Proof.Machine.execVerify h slot message sig s
  | .pairEnable m value => Sys2Proof.Machine.execPairEnable m value s
  | .pairDisable m value => Sys2Proof.Machine.execPairDisable m value s
  | .pairJoin h role pairId ckpt ckptLen import_ => Sys2Proof.Machine.execPairJoin h role pairId ckpt ckptLen import_ s
  | .pairPromote h => Sys2Proof.Machine.execPairPromote h s
  | .pairDrill h => Sys2Proof.Machine.execPairDrill h s
  | .cwKeepaliveRx c role sync since => Sys2Proof.Machine.execCwKeepaliveRx c role sync since s
  | .cwOrderRx c first entries => Sys2Proof.Machine.execCwOrderRx c first entries s
  | .cwFetchRx c first count => Sys2Proof.Machine.execCwFetchRx c first count s
  | .cwFrameCopyRx c index payload table => Sys2Proof.Machine.execCwFrameCopyRx c index payload table s
  | .cwDigestRx c window valid digests => Sys2Proof.Machine.execCwDigestRx c window valid digests s
  | .cwLedgerNoteRx c kind queueSeq bodyHash => Sys2Proof.Machine.execCwLedgerNoteRx c kind queueSeq bodyHash s
  | .cwHealthRx c role sync cfgDigest fwVer => Sys2Proof.Machine.execCwHealthRx c role sync cfgDigest fwVer s
  | .cwStateRx c snapId offset len total image => Sys2Proof.Machine.execCwStateRx c snapId offset len total image s
  | .cwStateAckRx c snapId offset => Sys2Proof.Machine.execCwStateAckRx c snapId offset s
  | .cwPromoteRx c reason effect => Sys2Proof.Machine.execCwPromoteRx c reason effect s
  | .cwDivergeRx c window classes result => Sys2Proof.Machine.execCwDivergeRx c window classes result s
  | .cwJoinRx c role fwVer fwDigest cfgDigest => Sys2Proof.Machine.execCwJoinRx c role fwVer fwDigest cfgDigest s
  | .cwJoinReplyRx c result snapId => Sys2Proof.Machine.execCwJoinReplyRx c result snapId s
  | .cwRelayRx c r body => Sys2Proof.Machine.execCwRelayRx c r body s
  | .cwLaneSilence l => Sys2Proof.Machine.execCwLaneSilence l s
  | .selftestResult ok => Sys2Proof.Machine.execSelftestResult ok s
  | .katRun engine pass => Sys2Proof.Machine.execKatRun engine pass s
  | .scrubPass mram corrected bad => Sys2Proof.Machine.execScrubPass mram corrected bad s
  | .eyeMeasure l eye => Sys2Proof.Machine.execEyeMeasure l eye s
  | .pathCheck path ok => Sys2Proof.Machine.execPathCheck path ok s
  | .imageStage h kind flags image readOk => Sys2Proof.Machine.execImageStage h kind flags image readOk s
  | .fwArm h kickoff => Sys2Proof.Machine.execFwArm h kickoff s
  | .fwConfirm h => Sys2Proof.Machine.execFwConfirm h s
  | .fwFallback h => Sys2Proof.Machine.execFwFallback h s
  | .relayOfferIn r length kind hops digest => Sys2Proof.Machine.execRelayOfferIn r length kind hops digest s
  | .relayChunkIn r data => Sys2Proof.Machine.execRelayChunkIn r data s
  | .relayAckRx r next mask => Sys2Proof.Machine.execRelayAckRx r next mask s
  | .relayResultRx r status => Sys2Proof.Machine.execRelayResultRx r status s
  | .relayAbortRx r reason => Sys2Proof.Machine.execRelayAbortRx r reason s
  | .relayArmRx r kickoff => Sys2Proof.Machine.execRelayArmRx r kickoff s
  | .refreshPassed blocks => Sys2Proof.Machine.execRefreshPassed blocks s
  | .returnCapsule h confirm => Sys2Proof.Machine.execReturnCapsule h confirm s
  | .batteryPowerOn vin => Sys2Proof.Machine.execBatteryPowerOn vin s
  | .bootUp testmode slotA slotB failed => Sys2Proof.Machine.execBootUp testmode slotA slotB failed s
  | .configLoad partitionOk writes tables => Sys2Proof.Machine.execConfigLoad partitionOk writes tables s
  | .vbatLow mv => Sys2Proof.Machine.execVbatLow mv s
  | .phyLinkUp p controlWord speed => Sys2Proof.Machine.execPhyLinkUp p controlWord speed s
  | .configSpaceWrite d3hot msix busMaster => Sys2Proof.Machine.execConfigSpaceWrite d3hot msix busMaster s
  | .opSwitchEnd => Sys2Proof.Machine.execOpSwitchEnd s
  | .warmResetTakeEffect => Sys2Proof.Machine.execWarmResetTakeEffect s
  | .warmResetEnd => Sys2Proof.Machine.execWarmResetEnd s
  | .portQualifyWaitEnd => Sys2Proof.Machine.execPortQualifyWaitEnd s
  | .qualityTick => Sys2Proof.Machine.execQualityTick s
  | .ppsWindowMiss => Sys2Proof.Machine.execPpsWindowMiss s
  | .todTimeout => Sys2Proof.Machine.execTodTimeout s
  | .taiSecond => Sys2Proof.Machine.execTaiSecond s
  | .ppsOutEnd => Sys2Proof.Machine.execPpsOutEnd s
  | .todTxSend => Sys2Proof.Machine.execTodTxSend s
  | .trimFinish => Sys2Proof.Machine.execTrimFinish s
  | .utcMidnight => Sys2Proof.Machine.execUtcMidnight s
  | .prpDdExpire => Sys2Proof.Machine.execPrpDdExpire s
  | .prpSupervisionTx => Sys2Proof.Machine.execPrpSupervisionTx s
  | .refReady => Sys2Proof.Machine.execRefReady s
  | .bucketOpen => Sys2Proof.Machine.execBucketOpen s
  | .ruleEval => Sys2Proof.Machine.execRuleEval s
  | .saveSnapshot => Sys2Proof.Machine.execSaveSnapshot s
  | .saveCommit => Sys2Proof.Machine.execSaveCommit s
  | .saveDeadlineMiss => Sys2Proof.Machine.execSaveDeadlineMiss s
  | .supplyRecover => Sys2Proof.Machine.execSupplyRecover s
  | .coreDomainStop => Sys2Proof.Machine.execCoreDomainStop s
  | .intervalBoundary => Sys2Proof.Machine.execIntervalBoundary s
  | .ledgerSign => Sys2Proof.Machine.execLedgerSign s
  | .ledgerPlace => Sys2Proof.Machine.execLedgerPlace s
  | .signDeadlineMiss => Sys2Proof.Machine.execSignDeadlineMiss s
  | .captureMatch => Sys2Proof.Machine.execCaptureMatch s
  | .peatEntryWrite => Sys2Proof.Machine.execPeatEntryWrite s
  | .foldWindowClose => Sys2Proof.Machine.execFoldWindowClose s
  | .tailCopy => Sys2Proof.Machine.execTailCopy s
  | .completionPost => Sys2Proof.Machine.execCompletionPost s
  | .hbTimeout => Sys2Proof.Machine.execHbTimeout s
  | .functionLevelReset => Sys2Proof.Machine.execFunctionLevelReset s
  | .perstAssert => Sys2Proof.Machine.execPerstAssert s
  | .drbgReseed => Sys2Proof.Machine.execDrbgReseed s
  | .entropyFail => Sys2Proof.Machine.execEntropyFail s
  | .cwKeepaliveTx => Sys2Proof.Machine.execCwKeepaliveTx s
  | .partnerSilence => Sys2Proof.Machine.execPartnerSilence s
  | .promoteEffect => Sys2Proof.Machine.execPromoteEffect s
  | .orderTick => Sys2Proof.Machine.execOrderTick s
  | .orderFlush => Sys2Proof.Machine.execOrderFlush s
  | .orderMatchExpire => Sys2Proof.Machine.execOrderMatchExpire s
  | .fetchTimer => Sys2Proof.Machine.execFetchTimer s
  | .digestSend => Sys2Proof.Machine.execDigestSend s
  | .digestMissing => Sys2Proof.Machine.execDigestMissing s
  | .healthTx => Sys2Proof.Machine.execHealthTx s
  | .checkpointTx => Sys2Proof.Machine.execCheckpointTx s
  | .imageVerified => Sys2Proof.Machine.execImageVerified s
  | .imageCopyDone => Sys2Proof.Machine.execImageCopyDone s
  | .kickoff => Sys2Proof.Machine.execKickoff s
  | .activationEnd => Sys2Proof.Machine.execActivationEnd s
  | .startLimitExpire => Sys2Proof.Machine.execStartLimitExpire s
  | .configCopyDone => Sys2Proof.Machine.execConfigCopyDone s
  | .relayAckTimer => Sys2Proof.Machine.execRelayAckTimer s
  | .relayRetransmit => Sys2Proof.Machine.execRelayRetransmit s
  | .relayGiveUp => Sys2Proof.Machine.execRelayGiveUp s
  | .nandRefresh => Sys2Proof.Machine.execNandRefresh s
  | .vinReturn => Sys2Proof.Machine.execVinReturn s
  | .rstNAssert => Sys2Proof.Machine.execRstNAssert s
  | .batteryLoss => Sys2Proof.Machine.execBatteryLoss s
  | .perstRelease => Sys2Proof.Machine.execPerstRelease s
  | .digestLate => Sys2Proof.Machine.execDigestLate s
  | .vbatInsert => Sys2Proof.Machine.execVbatInsert s

end Sys2Proof.Machine
end

