-- ==== Sys2Proof/Machine/Tick.lean ====
section
/-!
DEFINITION. One tick of the 125 MHz island (R14, R36, R37): what step does when no command waits (log 1).
-/

namespace Sys2Proof.Machine

/-- 2⁻²⁴ ns in a period of the 32.768 kHz oscillator. -/
def rtcPeriod : Nat := 512000000000

/-- For how long a crystal has stood still, in ns up to the 2 ms that OSC_FAIL tells of. -/
def stillFor (was : Nat) (raw : Int) : Nat := if raw ≤ 0 then min 2000000 (was + 8) else 0

/-- The 32.768 kHz crystal runs on by 8 ns with its own error, and the calendar's oscillator with CAL_TRIM besides (R58, R61). A crystal
that has stood still for 2 ms sets OSC_FAIL (02). -/
def State.rtcRun (s : State) : State :=
  let raw : Int := 8 * 2 ^ 24 + Config.rtcError (s.time.mono / 8)
  let gain : Int := if raw ≤ 0 then 0 else raw + 8 * s.getS CAL_TRIM_RATE
  let still := stillFor s.cal.still raw
  let s := State.when { s with cal := { s.cal with still } } (still == 2000000) fun s => s.put CAL_STATUS_OSC_FAIL 1
  let s := if s.cal.oscPhase + raw.toNat < rtcPeriod then { s with cal := { s.cal with oscPhase := s.cal.oscPhase + raw.toNat } }
    else { s with cal := { s.cal with oscPhase := s.cal.oscPhase + raw.toNat - rtcPeriod, osc := s.cal.osc + 1 } }
  let phase := s.cal.phase + gain.toNat
  if phase < rtcPeriod then { s with cal := { s.cal with phase } }
  else State.calTick { s with cal := { s.cal with phase := phase - rtcPeriod } }

/-- The monotonic count and local TAI run on by 8 ns, TAI at the applied rate correction (R36, R37), which reaches the 16-bit fraction in
whole units (log 146). -/
def State.clockRun (s : State) : State :=
  let fine : Int := s.time.rateAcc + 8 * (2 ^ 32 + s.rate)
  let ns : Int := s.time.frac + fine / 2 ^ 16
  { s with time := { s.time with
    mono := s.time.mono + 8
    tai := s.time.tai + (ns / 2 ^ 16).toNat
    frac := (ns % 2 ^ 16).toNat
    rateAcc := (fine % 2 ^ 16).toNat } }

/-- PW_VIN and PW_VBAT updated every 1 ms (17): the voltages are free values. -/
def State.readSupplies (s : State) : State :=
  let s := (s.setWord PW_VIN (s.drawn % 2 ^ 32)).draw
  (s.put PW_VBAT_VBAT (s.drawn % 65536)).draw

/-- The sluices that no command brings words through: causeway transmit, time stamps, conversion grid, PCIe transmit, DRAM and the
battery domain (03). -/
def quietSluice (i : Nat) : Bool := i == 10 || i == 19 || i == 20 || (decide (22 ≤ i) && decide (i ≤ 25))

/-- The errors that come with the tick, for no command tells of them (R15, R88, R393, log 157): a word that fails its parity is reported
with the engine that receives it, and what holds a poisoned word is discarded. -/
def State.hiddenErrors (s : State) : State :=
  let n := s.time.mono / 8
  let s := match Config.parityError n with
    | some e => (s.count (igCnt 0)).raise EV_IG_PARITY sevMajor e e
    | none => s
  match Config.sluiceError n with
  | some (i, poisoned) =>
    if quietSluice i && s.flag (SL_STATUS_ACTIVE i) then (s.sluiceEcc i (bit (!poisoned)) poisoned).when poisoned fun s => s.count (slDiscard i) else s
  | none => s

/-- One tick: the battery domain runs unless it has no supply, the core domain unless it is off or held in reset; released data frames
reach their port queues (R163, log 181). -/
def State.tick (s : State) : State :=
  if s.power.phase = .unpowered then s
  else
    let s := s.rtcRun
    if ¬ s.coreOn then s
    else
      let s := s.clockRun.slewDone.hiddenErrors
      let s := if s.time.mono % 1000000 = 0 then s.readSupplies else s
      if s.enginesOn then s.osSend else s

end Sys2Proof.Machine
end

