-- ==== Sys2Proof/Safety.lean ====
section
/-!
DEFINITION. The words the statements use: a state in canonical form, a command that completes with an effect, a register write
and a host command that go through, and groups of commands.
-/

namespace Sys2Proof.Machine

/-- The register file lists only registers that differ from reset, in rising order, and memory only bytes that differ from
what an unlisted byte reads as. -/
def State.canonical (s : State) : Bool := Store.wf resetWord s.regs && Memory.wf s.mem

/-- The command answers a next state, and P holds of it. -/
def Runs (c : Instr) (s : State) (P : State → Prop) : Prop := ∃ t, exec c s = .next t ∧ P t

/-- A register write of a master goes through at once: the core domain runs, the register answers (R409), no rule refuses the
write (R5), and it is no change that waits for the partner's TICK (R360). -/
def State.takesWrite (s : State) (m : Master) (off value : Nat) : Bool :=
  s.coreOn && decide (off % 4 = 0) && s.answers off && s.reaches m off &&
  match lookup off with
  | some (r, ix) => (s.refusal m r ix off (BitVec.ofNat 32 value)).isNone && !(m == .host && s.orderOn && follows r.base off ix)
  | none => false

/-- A ring has started this command and none of the checks of R308 turns it away before its own: the core domain runs, the header is
sound, SERVICE is set or the opcode needs none, START_BY has not passed, and HOLDUP does not stop it. -/
def State.serves (s : State) (h : CmdHeader) (op : Nat) : Bool :=
  s.coreOn && s.host.started.contains (h.sq, op) && h.badReserved.isNone && !(h.progEn && h.progEvery == 0) &&
  (s.flag GL_STATUS_SERVICE || servedWithout op) && (h.startBy == 0 || decide (s.time.tai ≤ h.startBy)) && !(s.holdup && commits op)

/-- What stored configuration and the audit log keep aside, a register with a write stored by the access type of each field (R6, R8). -/
def State.stored (s : State) (m : Master) (off value : Nat) : State :=
  match lookup off with
  | some (r, ix) =>
    let w := BitVec.ofNat 32 value
    let t := s.when r.legal fun t => t.auditWrite m r ix off (s.reg off) (r.written (s.reg off) w) w
    t.setReg off (r.written (t.reg off) w)
  | none => s

/-- The write remembered in the stored configuration, where it is one that is (R382). -/
def State.recorded (s : State) (m : Master) (off value : Nat) : State :=
  match lookup off with
  | some (r, ix) => s.remember m r ix off (BitVec.ofNat 32 value)
  | none => s

/-- A stream has a connection on which it takes commands (R158). -/
def State.osConnected (s : State) (k : Nat) : Bool :=
  s.flag (OS_CFG_EN k) && !s.cold && s.get (OS_CFG_MODE k) != 0 && s.flag (OS_STATUS_TCP_CONN k)

/-- A command frame passes its checks (R158). -/
def State.osSound (s : State) (k : Nat) (c : OsCommand) : Bool :=
  c.chkOk && c.idcode == s.get (OS_IDCODE_IDCODE k) && (c.version == 1 || c.version == 2)

/-- A sound command taken: the connection is not idle, and the command is counted and reported. -/
def State.osHeard (s : State) (k : Nat) : State :=
  ((s.setStreamLink k fun l => { l with idleAt := s.time.mono, probes := 0 }).count (osCnt k 3)).raise EV_OS_CMD sevInfo k k

/-- A causeway frame is good and new (R353, R356): the receive sluice passes it, the checks of R356 find nothing against it, and its FSEQ
has not been taken and lies within the window; `opens` as the frame's TYPE has it. -/
def State.cwHears (s : State) (c : CwHeader) (opens : Bool) : Bool :=
  !s.flag (SL_STATUS_STOPPED 9) && !c.poisoned && (s.sluiceEcc 9 c.corrected false).cwFault c opens == none &&
  !s.hasHeard c && decide ((s.heardOf c.sender).highest < c.fseq + 1024)

/-- What taking such a frame leaves: its FSEQ and its lane noted, and the partner present where it comes from the partner, unless the spent
key has cost a primary its partner (R355). -/
def State.cwHeard (s : State) (c : CwHeader) : State :=
  let s := s.sluiceEcc 9 c.corrected false
  let known := c.sender == s.partner && !(s.pair_.exhausted && s.get CW_STATUS_ROLE == 1)
  let s := s.noteFrame c
  let s := { s with pair_ := { s.pair_ with lastFrame := some s.time.mono } }
  s.when known fun s => s.put CW_STATUS_PARTNER 1

end Sys2Proof.Machine

namespace Sys2Proof

/-! ### Groups of commands -/

/-- The commands that can end in a class C or P reset: power returning, the RST_n pin, and a copied customer image that restarts the
unit (R405, R407, R412, R383). -/
def Instr.coldResets (c : Instr) : Bool :=
  match c with
  | .batteryPowerOn _ => true
  | .vinReturn => true
  | .rstNAssert => true
  | .imageCopyDone => true
  | _ => false

/-- The commands that can change device memory: those resets, an access by a master at an internal address (R28, R30), a write into
legal MRAM (R32), and a modal update's record (R210). -/
def Instr.writesMemory (c : Instr) : Bool :=
  match c with
  | .internalAccess _ _ _ _ => true
  | .mramLegalWrite _ _ _ => true
  | .owModalUpdate _ => true
  | c => c.coldResets

/-- The commands that can change the key store: resets, power-up, the key commands, a signature by the ledger, a DRBG reseed and a failed
health test (13), and a write into the certificate chain (R346). -/
def Instr.touchesKeys (c : Instr) : Bool :=
  match c with
  | .bootUp _ _ _ _ => true
  | .keyGenerate _ _ _ _ _ _ _ => true
  | .keyImport _ _ _ _ => true
  | .keyUpdate _ _ _ _ _ _ => true
  | .commandStep _ _ => true
  | .ledgerSign => true
  | .drbgReseed => true
  | .entropyFail => true
  | .internalAccess _ _ _ _ => true
  | c => c.coldResets

/-- The commands that act while only the battery domain runs (R407): its own alarms, sentinel and tamper inputs, the loss of its
supply, and the return of VIN. -/
def Instr.actsInBattery (c : Instr) : Bool :=
  match c with
  | .calAlarm _ => true
  | .sentinelSample _ => true
  | .tamperInput _ _ => true
  | .batteryLoss => true
  | .vinReturn => true
  | _ => false

end Sys2Proof
end

