-- ==== Sys2Proof/Certificates/Slice0/Obligations.lean ====
section
/-!
DEFINITION. The statements for the provers, in the order of OBLIGATIONS.json.
-/

open Sys2Proof Sys2Proof.Machine

/-! ### The machine -/

/-- One step takes the command at the front of the queue and runs it on the state whose queue is the rest. -/
def Obligations.StepRunsFront : Prop :=
  ∀ (c : Instr) (rest : List Instr) (s : State), s.pending = c :: rest → step s = exec c { s with pending := rest }

/-- With no command waiting a step is one tick of 8 ns (the model's choice, log 1): nothing happens without a supply, and where the
core domain runs the monotonic count advances by 8 ns, and nowhere else. -/
def Obligations.IdleStepTicks : Prop :=
  ∀ (s : State), s.pending = [] →
    ∃ t, step s = .next t ∧ (s.power.phase = .unpowered → t = s) ∧
      t.time.mono = s.time.mono + (if s.coreOn then 8 else 0) ∧ t.mem = s.mem ∧ t.keys = s.keys ∧ t.meter = s.meter

/-- Every step keeps the register file and device memory in their canonical forms. -/
def Obligations.StepKeepsCanonical : Prop :=
  ∀ (s t : State), s.canonical = true → step s = .next t → t.canonical = true

/-- The state after reset is in canonical form and no command waits in it. -/
def Obligations.ResetCanonical : Prop := State.reset.canonical = true ∧ State.reset.pending = []

/-- Every command that names something of the device completes, whatever the state, and leaves the queue alone; every other command is
refused as ill formed (the model's choice, log 1). -/
def Obligations.WellFormedCompletes : Prop :=
  ∀ (c : Instr) (s : State),
    (c.wf = true → ∃ t, exec c s = .next t ∧ t.pending = s.pending) ∧ (c.wf = false → exec c s = .refused .illFormed)

/-- No command takes an entry of the legal audit log away or changes one: the log after a step begins with the log before. -/
def Obligations.AuditLogAppendOnly : Prop :=
  ∀ (s t : State), step s = .next t → s.meter.audit <+: t.meter.audit

/-- No command changes the monotonic count, a step of the time base included; a class C or P reset restarts it. -/
def Obligations.MonotonicCountStands : Prop :=
  ∀ (c : Instr) (s t : State), exec c s = .next t → t.time.mono = s.time.mono ∨ (c.coldResets = true ∧ t.time.mono = 0)

/-- Device memory changes in no command but an access at an internal address, of which only a write reaches bytes, and those it writes
alone, a write into legal MRAM, which reaches the bytes written alone, a modal update, which reaches its watcher's record alone, and a
class C or P reset, which keeps MRAM. -/
def Obligations.MemoryFrame : Prop :=
  ∀ (c : Instr) (s t : State), exec c s = .next t →
    (c.writesMemory = false → t.mem = s.mem) ∧
    (∀ (m : Master) (addr : Nat) (write : Bool) (bytes : List Byte) (a : Nat), c = .internalAccess m addr write bytes →
      (write = false ∨ a < addr ∨ addr + bytes.length ≤ a) → t.memByte a = s.memByte a) ∧
    (∀ (m : Master) (off : Nat) (bytes : List Byte) (a : Nat), c = .mramLegalWrite m off bytes →
      (a < bar4Base + off ∨ bar4Base + off + bytes.length ≤ a) → t.memByte a = s.memByte a) ∧
    (∀ (w a : Nat), c = .owModalUpdate w → (a < s.detect.resBase + 0x8000 * w ∨ s.detect.resBase + 0x8000 * (w + 1) ≤ a) →
      t.memByte a = s.memByte a) ∧
    (∀ (a : Nat), c.coldResets = true → s.canonical = true → inMram a = true → t.memByte a = s.memByte a)

/-- The key store changes in no command but the key commands, the signing of a ledger record, a reseed, a failed health test, an access at
an internal address, power-up and a class C or P reset; the measuring, network, event and pair commands, register writes and received frames
all leave it alone. -/
def Obligations.KeyStoreFrame : Prop :=
  ∀ (c : Instr) (s t : State), exec c s = .next t → c.touchesKeys = false → t.keys = s.keys

/-- Without a supply no command does anything but the arrival of one (R405); while only the battery domain runs, none does but the
battery domain's own and the return of VIN (R407). -/
def Obligations.SupplyGates : Prop :=
  ∀ (c : Instr) (s t : State), exec c s = .next t →
    (s.power.phase = .unpowered → (∀ vin, c ≠ .batteryPowerOn vin) → t = s) ∧
    (s.power.phase = .battery → c.actsInBattery = false → t = s)

/-! ### Register access (00, 01) -/

/-- A register write that puts a field outside its stated range is refused as a whole: the register keeps its value, IG_CFG_REJ is
incremented (it saturates, R10), and IG_CFG_REJ_ADDR captures the address. -/
def Obligations.RangeRefused : Prop :=
  ∀ (s : State) (m : Master) (off v : Nat) (r : RegSpec) (ix : List Nat), s.canonical = true → s.coreOn = true → off % 4 = 0 →
    s.answers off = true → s.reaches m off = true → lookup off = some (r, ix) → (satOf r.base ix).isNone = true →
    ¬ (m = .host ∧ s.followsPrimary = true ∧ follows r.base off ix = true) →
    (r.fields.any fun f => !f.inRange (BitVec.ofNat 32 v)) = true →
    Runs (.registerWrite m off 4 v) s fun u =>
      u.reg off = s.reg off ∧ u.word IG_CFG_REJ = min (s.word IG_CFG_REJ + 1) 0xffffffff ∧
      u.get IG_CFG_REJ_ADDR_SPACE = 0 ∧ u.get IG_CFG_REJ_ADDR_OFFSET = off

/-- A write of another width than 32 bits or at an unaligned address is refused with REASON 5, counted in IG_CFG_REJ and captured; a read of
another width or at an unaligned address returns zero and changes nothing. A core whose access is no multiple of its width takes the trap
for it instead (R316), with cause 6 for a store and 4 for a load, and nothing changes. -/
def Obligations.WidthAndAlignment : Prop :=
  (∀ (s : State) (m : Master) (off width v : Nat), s.canonical = true → s.coreOn = true → (width ≠ 4 ∨ off % 4 ≠ 0) → off < 2 ^ 28 →
    coreTraps m off width = false →
    Runs (.registerWrite m off width v) s fun u =>
      u = s.refuse m 0 off reasonWidth ∧ u.get IG_CFG_REJ_ADDR_OFFSET = off ∧ u.get IG_CFG_REJ_INFO_REASON = 5 ∧
      u.word IG_CFG_REJ = min (s.word IG_CFG_REJ + 1) 0xffffffff ∧ u.mem = s.mem) ∧
  (∀ (s : State) (m : Master) (off width : Nat), s.coreOn = true → off < 0x400000 → (width ≠ 4 ∨ off % 4 ≠ 0) →
    coreTraps m off width = false →
    Runs (.latchRead m off width) s (fun u => u = s.emit (.readData m off 0)) ∧
    Runs (.partnerRead m off width) s (fun u => u = s.emit (.readData m off 0))) ∧
  (∀ (s : State) (c off width v : Nat), c < 8 → s.coreOn = true → off < 0x400000 → off % max 1 width ≠ 0 →
    Runs (.registerWrite (.core c) off width v) s (fun u => u = s.emit (.trap c 6)) ∧
    Runs (.latchRead (.core c) off width) s (fun u => u = s.emit (.trap c 4)))

/-- GL_SCRATCH holds the word last written to it. A write to a statistics counter, of any value, clears the counter and its SAT bit, and
touches neither device memory nor an output. -/
def Obligations.RegisterStores : Prop :=
  (∀ (s : State) (m : Master) (v : Nat), s.canonical = true → s.takesWrite m GL_SCRATCH v = true →
    Runs (.registerWrite m GL_SCRATCH 4 v) s fun u => u = s.setReg GL_SCRATCH (BitVec.ofNat 32 v) ∧ u.word GL_SCRATCH = v % 2 ^ 32) ∧
  (∀ (s : State) (m : Master) (off v : Nat) (r : RegSpec) (ix : List Nat) (sat : Fld), s.canonical = true → s.takesWrite m off v = true →
    lookup off = some (r, ix) → satOf r.base ix = some sat → sat.off ≠ off → sat.lo ≤ sat.hi → sat.hi < 32 →
    Runs (.statCounterClear m off v) s fun u => u.word off = 0 ∧ u.get sat = 0 ∧ u.mem = s.mem ∧ u.out = s.out)

/-- Each bus master holds its own latches: a latching read sets the reading master's latch of each partner to the partner's live value,
replacing the one it held; a read of a partner returns the reader's unused latch and uses it up; no read disturbs another master's
latch. -/
def Obligations.LatchesPerMaster : Prop :=
  (∀ (s : State) (m : Master) (off p : Nat) (r : RegSpec) (ix : List Nat), s.coreOn = true → off < 0x400000 → off % 4 = 0 →
    s.answers off = true → s.reaches m off = true → lookup off = some (r, ix) → r.base ≠ SC_CORE_CLAIM 0 → r.base ≠ FC_COEF_DATA 0 →
    p ∈ latchPartners off → latchedBy off = none → s.latchOf m off = none →
    Runs (.latchRead m off 4) s fun u =>
      u.latchOf m p = some (BitVec.ofNat 32 (s.readWord p)) ∧
      u.out = s.out ++ [.readData m off (BitVec.ofNat 32 (s.readWord off))] ∧ u.regs = s.regs ∧
      ∀ m' q, m' ≠ m → u.latchOf m' q = s.latchOf m' q) ∧
  (∀ (s : State) (m : Master) (off : Nat) (w : Word) (r : RegSpec) (ix : List Nat), s.coreOn = true → off < 0x400000 → off % 4 = 0 →
    s.answers off = true → s.reaches m off = true → lookup off = some (r, ix) → r.base ≠ SC_CORE_CLAIM 0 → r.base ≠ FC_COEF_DATA 0 →
    s.latchOf m off = some w →
    Runs (.partnerRead m off 4) s fun u =>
      u.latchOf m off = none ∧ u.out = s.out ++ [.readData m off w] ∧ u.regs = s.regs ∧
      ∀ m' q, m' ≠ m → u.latchOf m' q = s.latchOf m' q) ∧
  (∀ (s : State) (m : Master) (off : Nat) (r : RegSpec) (ix : List Nat), s.canonical = true → s.coreOn = true → off < 0x400000 →
    off % 4 = 0 → s.answers off = true → s.reaches m off = true → lookup off = some (r, ix) → r.base ≠ SC_CORE_CLAIM 0 → (latchedBy off).isSome = true →
    s.latchOf m off = none →
    Runs (.partnerRead m off 4) s fun u => u.flag IG_STATUS_TORN_READ = true ∧
      u.out = s.out ++ [.readData m off (BitVec.ofNat 32 (s.readWord off))])

/-- An access to an internal address that no target decodes reads zero, ignores a write, captures the address and raises IG_DECODE_MISS
(MINOR). -/
def Obligations.DecodeMiss : Prop :=
  ∀ (s : State) (m : Master) (addr : Nat) (write : Bool) (bytes : List Byte), s.canonical = true → s.coreOn = true → 0 < bytes.length →
    addr + bytes.length ≤ 2 ^ 48 → coreTraps m addr bytes.length = false → unmapped addr = true →
    Runs (.internalAccess m addr write bytes) s fun u =>
      u = (if write then s.decodeMiss addr else (s.decodeMiss addr).emit (.readData m addr 0)) ∧
      u.pair IG_DECODE_ADDR_LO IG_DECODE_ADDR_HI = addr ∧ u.mem = s.mem ∧
      s.decodeMiss addr = ((s.setPair IG_DECODE_ADDR_LO IG_DECODE_ADDR_HI addr).count (igCnt 8)).raise EV_IG_DECODE_MISS sevMinor (addr / 2 ^ 20)

/-- A write into legal MRAM by a master other than the metrology engines is carried out while the audit log has room, and is logged and
counted by the seal; with the log full it is refused. -/
def Obligations.LegalMramWrite : Prop :=
  (∀ (s : State) (m : Master) (off : Nat) (bytes : List Byte), s.canonical = true → s.coreOn = true → m.isMetrology = false →
    off + bytes.length ≤ 0x2200000 → 0 < bytes.length → s.get LA_COUNT_USED < 8127 →
    Runs (.mramLegalWrite m off bytes) s fun u =>
      (∀ i < bytes.length, u.memByte (bar4Base + off + i) = bytes.getD i 0) ∧
      u.word LA_SEAL = (s.word LA_SEAL + 1) % 2 ^ 32 ∧ u.get LA_COUNT_USED = s.get LA_COUNT_USED + 1 ∧
      ∃ e, u.meter.audit = s.meter.audit ++ [e] ∧ e.type = 3 ∧ e.master = masterCode m ∧ e.addrFirst = bar4Base + off) ∧
  (∀ (s : State) (m : Master) (off : Nat) (bytes : List Byte), s.coreOn = true → m.isMetrology = false → off + bytes.length ≤ 0x2200000 →
    0 < bytes.length → 8128 ≤ s.get LA_COUNT_USED →
    Runs (.mramLegalWrite m off bytes) s fun u => u = s.refuse m 1 off reasonAudit ∧ u.mem = s.mem ∧ u.meter = s.meter)

/-- A GL_RESET write with KEY other than 0x5a17, or with WARM at 0, is refused as a whole; so is one while GL_STATUS.BOOT_DONE is 0,
when no configuration change waits for a TICK (none does before boot has ended). -/
def Obligations.ResetKey : Prop :=
  ∀ (s : State) (m : Master) (v : Nat), s.canonical = true → s.coreOn = true → v < 2 ^ 32 → s.reaches m GL_RESET = true →
    (v / 65536 ≠ 0x5a17 ∨ v % 2 = 0 ∨ (s.flag GL_STATUS_BOOT_DONE = false ∧ s.order.effects = [])) →
    Runs (.glReset m v) s fun u =>
      u.word IG_CFG_REJ = min (s.word IG_CFG_REJ + 1) 0xffffffff ∧ u.get IG_CFG_REJ_ADDR_OFFSET = GL_RESET ∧
      u.get IG_CFG_REJ_ADDR_SPACE = 0 ∧ u.power = s.power ∧ u.meter = s.meter

/-- An OP_SET that arrives while a switch is in progress completes with E_BUSY and has no effect. -/
def Obligations.OpSetBusy : Prop :=
  ∀ (s : State) (h : CmdHeader) (point : Nat), h.sq < 16 → point < 3 → s.serves h 0x82 = true → s.flag OP_STATUS_SWITCHING = true →
    Runs (.opSet h point) s fun u => u = s.finish h 0x82 stBusy ∧ u.power = s.power ∧ u.get OP_STATUS_POINT = s.get OP_STATUS_POINT ∧
      u.get OP_STATUS_TARGET = s.get OP_STATUS_TARGET

/-- OP_SET to another point starts a switch, during which the lower point holds; to a lower point whose limits the load exceeds it
completes with E_RANGE. At the end of a switch the target holds and OP_SWITCH_SEQ counts. A temperature is shown with its maximum, and
THERMAL above 120 °C. A write of GL_RESET with its key asks for a class W reset with cause 3; a reset that waits takes effect with every
latch gone, the paths closed and no image under verification; it ends with the paths open. -/
def Obligations.OperatingPoint : Prop :=
  (∀ (s : State) (h : CmdHeader) (point : Nat), s.canonical = true → h.sq < 16 → point < 3 → s.serves h 0x82 = true →
    s.flag OP_STATUS_SWITCHING = false → s.holdup = false → point ≠ s.point → (point < s.point → s.loadsFit point = true) →
    Runs (.opSet h point) s fun u =>
      u.get OP_STATUS_POINT = min s.point point ∧ u.get OP_STATUS_TARGET = point ∧ u.flag OP_STATUS_SWITCHING = true ∧
      u.power.switchStart = some s.time.mono ∧ u.out = s.out) ∧
  (∀ (s : State) (h : CmdHeader) (point : Nat), h.sq < 16 → s.serves h 0x82 = true → s.flag OP_STATUS_SWITCHING = false →
    s.holdup = false → point < s.point → s.loadsFit point = false → point < 3 →
    Runs (.opSet h point) s fun u => u = s.finish h 0x82 stRange 0xffff 0 noEntry ∧ u.get OP_STATUS_POINT = s.get OP_STATUS_POINT) ∧
  (∀ (s : State) (t0 : Nat), s.canonical = true → s.coreOn = true → s.power.switchStart = some t0 → s.host.jobs = [] →
    Runs .opSwitchEnd s fun u =>
      u.get OP_STATUS_POINT = s.get OP_STATUS_TARGET ∧ u.flag OP_STATUS_SWITCHING = false ∧ u.power.switchStart = none ∧
      u.word OP_SWITCH_SEQ = (s.word OP_SWITCH_SEQ + 1) % 2 ^ 32) ∧
  (∀ (s : State) (t : Int), s.canonical = true → s.coreOn = true → -32768 ≤ t → t < 32768 →
    Runs (.tempUpdate t) s fun u =>
      u.getS GL_TEMP_NOW = t ∧ u.flag OP_STATUS_THERMAL = decide (1920 < t) ∧ u.get OP_STATUS_POINT = s.get OP_STATUS_POINT ∧
      (s.power.tempSeen = true → u.getS GL_TEMP_MAX = max (s.getS GL_TEMP_MAX) t)) ∧
  (∀ (s : State) (m : Master), s.takesWrite m GL_RESET 0x5a170001 = true → s.power.phase = .running → s.power.pendingReset = none →
    Runs (.glReset m 0x5a170001) s fun u =>
      u.power.pendingReset = some .w ∧ u.power.warmCause = 3 ∧ u.power.phase = .running ∧ u.get OP_STATUS_POINT = s.get OP_STATUS_POINT) ∧
  (∀ (s : State), s.power.phase = .running → s.power.pendingReset = some .w →
    Runs .warmResetTakeEffect s fun u =>
      u.power.phase = .warm ∧ u.power.pendingReset = none ∧ u.latches = [] ∧ u.net.pathsClosed = true ∧ u.fw.verifying = none) ∧
  (∀ (s : State), s.power.phase = .warm →
    Runs .warmResetEnd s fun u => u.power.phase = (if s.power.bootHeld then .booting else .running) ∧ u.net.pathsClosed = false)

/-- Accesses that go through (R6, R28 to R30): a write of a register, by any master, stores each field by its access type, does what the
block's registers do, and is remembered where it is configuration; a legal one is audited first; a memory access at an internal address
reads or stores device memory, or goes out to the host. -/
def Obligations.Accesses : Prop :=
  (∀ (s : State) (m : Master) (off v : Nat) (r : RegSpec) (ix : List Nat), s.takesWrite m off v = true → lookup off = some (r, ix) →
    satOf r.base ix = none →
    let w := BitVec.ofNat 32 v
    let t := s.when r.legal fun t => t.auditWrite m r ix off (s.reg off) (r.written (s.reg off) w) w
    Runs (.registerWrite m off 4 v) s fun u =>
      u = ((t.setReg off (r.written (t.reg off) w)).effects r.base ix (t.reg off) w).remember m r ix off w) ∧
  (∀ (s : State) (m : Master) (addr : Nat) (bytes : List Byte), s.canonical = true → s.coreOn = true → 0 < bytes.length →
    addr + bytes.length ≤ 0x800000000 → coreTraps m addr bytes.length = false → s.flag (SL_STATUS_STOPPED 23) = false →
    s.flag (SL_STATUS_STOPPED 24) = false →
    Runs (.internalAccess m addr true bytes) s (fun u => u = s.viewWrite addr bytes) ∧
    (s.badWord addr bytes.length = none →
      Runs (.internalAccess m addr false bytes) s fun u => u = s.emit (.memData m addr (s.viewRead addr bytes.length) false))) ∧
  (∀ (s : State) (m : Master) (addr : Nat) (bytes : List Byte), s.coreOn = true → 0 < bytes.length → 0x800000000000 ≤ addr →
    addr + bytes.length ≤ 2 ^ 48 → coreTraps m addr bytes.length = false →
    Runs (.internalAccess m addr true bytes) s fun u => u = s.emit (.hostWrite (addr - 0x800000000000) bytes))

/-! ### Time base and calendar (02) -/

/-- What arrives at the time base and completes: a PTP message in range is used by its port, one out of range is counted; an Announce or
Sync overdue loses the port's master; the wait for another port ends in the loss of the source; a port in use sends its peer-delay
message, a master its Announce and Sync; a PPS edge that marks a second, held long enough and in its window, is accepted, another is
counted; a window without an edge is counted; a sound sentence is held for the next edge; sentences overdue end the count of seconds. -/
def Obligations.TimeInputs : Prop :=
  (∀ (s : State) (p : Nat) (m : PtpMessage), p < 3 → s.coreOn = true → s.flag (TB_PORT_CFG_EN p) = true →
    m.transport = s.get TB_PTP_CFG_TRANSPORT →
    Runs (.ptpMessageRx p m) s fun u => u = if s.ptpBad m then s.count tbPtpBad else s.ptpUse p m.body) ∧
  (∀ (s : State) (p : Nat) (m : PtpMessage) (turn : Int), s.canonical = true → p < 3 → s.coreOn = true →
    s.flag (TB_PORT_CFG_EN p) = true → m.transport = s.get TB_PTP_CFG_TRANSPORT → s.ptpBad m = false → m.body = .peerDelay (some turn) →
    Runs (.ptpMessageRx p m) s fun u =>
      (u.ptp p).delay = some (s.linkDelay p turn) ∧ u.get (TB_PORT_STAT_PATH_DELAY p) = pathDelay (some (s.linkDelay p turn))) ∧
  (∀ (s : State) (p : Nat), p < 3 → s.coreOn = true → s.ptpSlave p = true → (s.ptp p).gm.isSome = true →
    (s.ptp p).lastAnnounce + s.get (TB_PORT_CFG_ANN_TMO p) * 2 ^ s.get (TB_PORT_CFG_LOG_ANN p) * 1000000000 ≤ s.time.mono →
    Runs (.announceTimeout p) s fun u => u = s.portLost p) ∧
  (∀ (s : State) (p : Nat), p < 3 → s.coreOn = true → s.ptpSlave p = true → (s.ptp p).gm.isSome = true →
    (s.ptp p).lastSync + 3 * 1000000000 / 2 ^ (-(s.getS (TB_PORT_CFG_LOG_SYNC p))).toNat ≤ s.time.mono →
    Runs (.syncTimeout p) s fun u => u = s.portLost p) ∧
  (∀ (s : State) (t : Nat), s.coreOn = true → s.time.waitEnds = some t → t ≤ s.time.mono →
    Runs .portQualifyWaitEnd s fun u => u = s.sourceLost) ∧
  (∀ (s : State) (p : Nat), p < 3 → s.coreOn = true → s.flag (TB_PORT_CFG_EN p) = true →
    Runs (.ptpMasterTx p 2) s fun u => u = s.txOffer p 7 (s.ptpFrame .ptpPeerDelay 54 [])) ∧
  (∀ (s : State) (p : Nat), p < 3 → s.coreOn = true → s.ptpMaster p = true →
    Runs (.ptpMasterTx p 1) s fun u =>
      u = (s.txOffer p 7 (s.ptpFrame .ptpAnnounce (if s.get TB_PTP_CFG_PROFILE = 1 then 88 else 64) (s.announced p))).draw) ∧
  (∀ (s : State) (p : Nat), p < 3 → s.coreOn = true → s.ptpMaster p = true → s.flag TB_PTP_CFG_TWO_STEP_TX = false →
    (s.txOffer p 7 (s.ptpFrame .ptpSync 44 [])).flag TB_PTP_CFG_TWO_STEP_TX = false →
    Runs (.ptpMasterTx p 0) s fun u => u = s.txOffer p 7 (s.ptpFrame .ptpSync 44 [])) ∧
  (∀ (s : State) (rising : Bool) (us : Nat), s.coreOn = true → s.flag TB_CTRL_GM_MODE = true → rising ≠ s.flag TB_PPS_CFG_IN_POL →
    (∀ t, s.time.ppsLast = some t → t + 999000000 ≤ s.time.mono ∧ s.time.mono ≤ t + 1001000000) →
    Runs (.ppsInEdge rising us) s fun u => u = if s.get TB_PPS_CFG_DEGLITCH ≤ us then s.ppsAccept else s.count tbPpsMiss) ∧
  (∀ (s : State), s.coreOn = true → s.flag TB_CTRL_GM_MODE = true → s.time.ppsWindow ≤ s.time.mono →
    Runs .ppsWindowMiss s fun u => u = s.ppsMiss) ∧
  (∀ (s : State) (z : Zda), s.coreOn = true → s.flag TB_CTRL_GM_MODE = true → z.wellFormed = true → z.checksumOk = true →
    (∀ p, s.time.ppsTai = some p → s.namedTai z.utcSecond z.sixty = p + 1) →
    Runs (.todSentenceRx z) s fun u =>
      u = { s with time := { s.time with todLast := some s.time.mono, todTai := some (s.namedTai z.utcSecond z.sixty) } }) ∧
  (∀ (s : State) (z : Zda), s.coreOn = true → s.flag TB_CTRL_GM_MODE = true → (z.wellFormed = false ∨ z.checksumOk = false) →
    Runs (.todSentenceRx z) s fun u => u = s.count tbTodErr) ∧
  (∀ (s : State) (t : Nat), s.coreOn = true → s.flag TB_CTRL_GM_MODE = true → s.time.todLast = some t →
    t + s.get TB_TOD_CFG_TOD_TMO * 1000000000 ≤ s.time.mono → s.get TB_STATUS_SRC ≠ 3 →
    Runs .todTimeout s fun u => u = { s with time := { s.time with todLast := none, todTai := none, ppsTai := none } }) ∧
  (∀ (s : State) (t : Nat), s.coreOn = true → s.flag TB_CTRL_GM_MODE = true → s.time.todLast = some t →
    t + s.get TB_TOD_CFG_TOD_TMO * 1000000000 ≤ s.time.mono → s.get TB_STATUS_SRC = 3 →
    Runs .todTimeout s fun u => u = State.sourceLost { s with time := { s.time with todLast := none, todTai := none, ppsTai := none } })

/-- What the time base sends and what is commanded of it: at a TAI second a pulse starts where it is permitted, and ends after its
width; the sentence of the next pulse goes out; the quality code follows the growing bound; TIME_ACQUIRE enters ACQUIRE from FREERUN
or FAULT with a valid source; TIME_STEP steps the clock in FREERUN, and in ACQUIRE using up the allowance. -/
def Obligations.TimeOutputs : Prop :=
  (∀ (s : State), s.coreOn = true → s.time.tai % 1000000000 < 16 → s.time.tai / 1000000000 ≠ s.time.lastSecond →
    Runs .taiSecond s fun u =>
      u.time.lastSecond = s.time.tai / 1000000000 ∧
      (s.ppsAllowed = true →
        u.time.ppsOutEnds = some (s.time.mono + s.get TB_PPS_CFG_OUT_WIDTH * 1000000) ∧ u.time.todTxFrom = some s.time.mono ∧
        .ppsOut (!s.flag TB_PPS_CFG_OUT_POL) ∈ u.out) ∧
      (s.ppsAllowed = false → u.time.ppsOutEnds = s.time.ppsOutEnds)) ∧
  (∀ (s : State) (t : Nat), s.coreOn = true → s.time.ppsOutEnds = some t → t ≤ s.time.mono →
    Runs .ppsOutEnd s fun u =>
      u = State.emit { s with time := { s.time with ppsOutEnds := none } } (.ppsOut (s.flag TB_PPS_CFG_OUT_POL))) ∧
  (∀ (s : State) (t : Nat), s.coreOn = true → s.time.todTxFrom = some t → s.flag TB_CTRL_TOD_TX_EN = true →
    t + 100000000 ≤ s.time.mono → s.time.mono ≤ t + 500000000 →
    Runs .todTxSend s fun u =>
      u = State.emit { s with time := { s.time with todTxFrom := none } }
        (.todSentence (s.utcNamed (s.time.tai / 1000000000 + 1)).1 (s.utcNamed (s.time.tai / 1000000000 + 1)).2)) ∧
  (∀ (s : State), s.canonical = true → s.coreOn = true → s.boundGrows = true → s.timeState ≠ tsFreerun →
    (s.timeState = tsHoldover → (s.boundNow.map boundCode).getD 15 ≤ s.get TB_HOLD_CFG_LIMIT) →
    Runs .qualityTick s fun u =>
      u.get TB_STATUS_QUALITY = (s.boundNow.map boundCode).getD 15 ∧ u.get TB_STATUS_STATE = s.get TB_STATUS_STATE) ∧
  (∀ (s : State) (h : CmdHeader), s.canonical = true → h.sq < 16 → s.serves h 0x80 = true →
    (s.timeState = tsFreerun ∨ s.timeState = tsFault) → s.flag TB_STATUS_SRC_VALID = true →
    Runs (.timeAcquire h) s fun u => u = s.acquire.finish h 0x80 stOk 0 (s.acquire.word TB_STATUS) ∧ s.acquire.timeState = tsAcquire) ∧
  (∀ (s : State) (h : CmdHeader) (mode : Nat) (sec ns d : Int), h.sq < 16 → s.serves h 0x81 = true → stepField mode sec ns = none →
    d = sec * 1000000000 + ns - (if mode = 1 then (s.time.tai : Int) else 0) → 0 ≤ (s.time.tai : Int) + d →
    (s.time.tai : Int) + d < (2 ^ 48 : Int) * 1000000000 →
    (s.timeState = tsFreerun →
      Runs (.timeStep h mode sec ns) s fun u =>
        u = (s.stepBy d).finish h 0x81 stOk 0 ((s.stepBy d).word TB_STEP_COUNT) (result64 d)) ∧
    (s.timeState = tsAcquire → s.flag TB_STATUS_STEP_USED = false →
      Runs (.timeStep h mode sec ns) s fun u =>
        u = ((s.put TB_STATUS_STEP_USED 1).stepBy d).finish h 0x81 stOk 0 (((s.put TB_STATUS_STEP_USED 1).stepBy d).word TB_STEP_COUNT)
          (result64 d)))

/-- The calendar: a commit of the staged date and time, an alarm's match, a rate-trim measurement begun and ended, and UTC midnight. -/
def Obligations.CalendarEvents : Prop :=
  (∀ (s : State) (m : Master) (v : Nat), s.canonical = true → v < 2 ^ 32 → v % 2 = 1 → s.takesWrite m CAL_COMMIT v = true →
    Runs (.calCommit m v) s fun u =>
      u.cal.ticks = calTicks (s.word CAL_SET_DATE) (s.word CAL_SET_TIME) ∧ u.cal.inLeap = false ∧ u.get CAL_STATUS_VALID = 1 ∧
      u.time = s.time ∧ u.mem = s.mem) ∧
  (∀ (s : State) (n : Nat), s.canonical = true → n < 2 → s.power.phase ≠ .unpowered → s.flag CAL_CTRL_HALT = false →
    s.flag (CAL_ALM_CTRL_EN n) = true → s.secondStart = true → s.alarmNow n = true → s.cal.matched.getD n none ≠ some s.secondName →
    Runs (.calAlarm n) s fun u =>
      u.flag (CAL_ALM_STAT_FIRED n) = true ∧ u.flag (CAL_ALM_STAT_SKIPPED n) = false ∧
      (s.flag (CAL_ALM_STAT_FIRED n) = true → u.flag (CAL_ALM_STAT_OVERRUN n) = true) ∧
      u.flag (CAL_ALM_STAT_REPLAYED n) = (decide (s.cal.replayFrom < s.cal.ticks) && decide (s.cal.ticks ≤ s.cal.replayTo)) ∧
      u.cal.ticks = s.cal.ticks) ∧
  (∀ (s : State) (m : Master) (v : Nat), s.canonical = true → v < 2 ^ 32 → v % 2 = 1 → s.takesWrite m CAL_TRIM_CTRL v = true →
    (Word.field (BitVec.ofNat 32 v) CAL_TRIM_CTRL_SRC.hi CAL_TRIM_CTRL_SRC.lo ≠ 0 ∨ s.timeState = tsLocked) →
    Runs (.trimStart m v) s fun u =>
      u.get CAL_TRIM_CTRL_STATE = 1 ∧ u.time.trim = some ⟨s.time.tai + 1000000000000, s.cal.osc⟩ ∧ u.word CAL_TRIM_RES = 0) ∧
  (∀ (s : State) (t : TrimRun), s.canonical = true → s.coreOn = true → s.trimOver = true → s.time.trim = some t →
    let r := trimResult (s.cal.osc - t.from_)
    Runs .trimFinish s fun u =>
      u.get CAL_TRIM_CTRL_STATE = 2 ∧ u.time.trim = none ∧ u.get CAL_TRIM_RES_VALID = 1 ∧
      u.getS CAL_TRIM_RES_RESULT = max (-32768) (min 32767 r) ∧
      u.flag CAL_TRIM_RES_OUT_OF_RANGE = decide (2047 < r.natAbs) ∧
      (s.flag CAL_TRIM_CTRL_AUTO_WRITE = true → r.natAbs ≤ 2047 → u.getS CAL_TRIM_RATE = r) ∧
      ((s.flag CAL_TRIM_CTRL_AUTO_WRITE = false ∨ 2047 < r.natAbs) → u.getS CAL_TRIM_RATE = s.getS CAL_TRIM_RATE)) ∧
  (∀ (s : State), s.coreOn = true → s.leapIns = true → s.firstSecond (s.utcOffset + 1) = true →
    s.leapBefore (s.time.tai / 1000000000 - 1) = true → Runs .utcMidnight s fun u => u = s.taiLeap 1) ∧
  (∀ (s : State), s.coreOn = true → s.leapIns = false → s.leapDel = true → s.firstSecond (s.utcOffset - 1) = true →
    s.leapBefore (s.time.tai / 1000000000) = true → Runs .utcMidnight s fun u => u = s.taiLeap (-1)) ∧
  (∀ (s : State) (v : Int), s.coreOn = true → s.leapIns = false → s.leapDel = false → s.firstSecond s.utcOffset = true →
    s.ptpValid = true → s.time.utcOffset = some v → Runs .utcMidnight s fun u => u = s.put CAL_UTC_OFFSET (codeOf 16 v))

/-- A read of CAL_SNAP_CMD latches every calendar field, for the reading master alone, into CAL_SNAP_DATE and CAL_SNAP_TIME; both are of
the one instant at which the read takes place. -/
def Obligations.CalendarSnapshot : Prop :=
  ∀ (s : State) (m : Master), s.coreOn = true → s.flag GL_STATUS_BOOT_DONE = true → s.reaches m CAL_SNAP_CMD = true →
    s.latchOf m CAL_SNAP_CMD = none →
    Runs (.calSnapRead m) s fun u =>
      u.latchOf m CAL_SNAP_DATE = some (BitVec.ofNat 32 s.calDate) ∧ u.latchOf m CAL_SNAP_TIME = some (BitVec.ofNat 32 s.calTime) ∧
      (∀ m' q, m' ≠ m → u.latchOf m' q = s.latchOf m' q) ∧ u.cal = s.cal ∧ u.regs = s.regs ∧
      u.out = s.out ++ [.readData m CAL_SNAP_CMD (BitVec.ofNat 32 (s.get CAL_CTRL_HALT * 2 ^ 31 + s.calTime / 2 ^ 17))]

/-! ### Network ports and sluices (03) -/

/-- A frame a port takes comes to one outcome (R67): handed to its path and counted good, with its entry in the duplicate-discard table
and its count of a wrong LAN where it carries a trailer; taken as a PAUSE; or dropped and counted. Entries leave the table when their
window has passed. -/
def Obligations.FrameReception : Prop :=
  (∀ (s : State) (p : Nat) (f : EthFrame) (a cls : Nat), p < 4 → s.coreOn = true → s.rxRuns p = true → s.classify p f = .path a cls →
    s.rxLoss f a = none →
    let s1 := s.when (((s.trailerOf p f).map fun t => t.lanB != (p == 1)).getD false) fun s => s.count (npCnt p 16)
    let s2 := match s.prpKey p f (.path a cls) with
      | some k => s1.ddAdd p k
      | none => s1
    Runs (.ethFrameRx p f) s fun u => u = (s2.rxEcc p f).rxGood p f a cls) ∧
  (∀ (s : State) (p : Nat) (f : EthFrame), p < 4 → s.coreOn = true → s.rxRuns p = true → s.classify p f = .pause → s.rxLoss f 0 = none →
    Runs (.ethFrameRx p f) s fun u => u = s.pauseRx p f.pauseQuanta) ∧
  (∀ (s : State) (p : Nat) (f : EthFrame) (i : Nat), p < 4 → s.coreOn = true → s.rxRuns p = true → s.classify p f = .drop i → i ≠ 15 →
    s.checkFails p f = none → s.trailerOf p f = none →
    Runs (.ethFrameRx p f) s fun u => u = s.rxDrop p i) ∧
  (∀ (s : State), s.coreOn = true →
    Runs .prpDdExpire s fun u =>
      u = { s with net := { s.net with dd := s.net.dd.filter fun e => decide (s.time.mono < e.ends) } })

/-- At a frame boundary a pending PAUSE goes first, else the highest queue that is not empty starts its next frame (R73); the loss of
the physical link empties every queue and ends a frame on the wire (R75); a queue that has not sent for STARVE ms is reported (R76); the
supervision frame goes out on queue 6 (R65). Flow control (R77, R78): the announced pause of a partner ends; a PAUSE is due, and PAUSING
set, when the receive sluice reaches HIGH_WM; it is due again at half the announced time; one with quanta 0 is due, and PAUSING clear, when
the level falls to LOW_WM. -/
def Obligations.FrameTransmission : Prop :=
  (∀ (s : State) (p corrected q : Nat), p < 4 → s.coreOn = true → s.txRuns p = true → (s.port p).physUp = true →
    (s.port p).sending = none → (s.port p).pausePending = none → s.flag (NP_STATUS_PAUSED p) = false → s.txNext p = some q →
    Runs (.txBegin p corrected false) s fun u => u = (s.sluiceEcc (2 * p + 1) corrected false).txFrom p q) ∧
  (∀ (s : State) (p corrected quanta : Nat) (poisoned : Bool), p < 4 → s.coreOn = true → s.txRuns p = true → (s.port p).physUp = true →
    (s.port p).sending = none → (s.port p).pausePending = some quanta →
    Runs (.txBegin p corrected poisoned) s fun u => u = s.pauseTx p quanta) ∧
  (∀ (s : State) (p : Nat), p < 4 → s.coreOn = true → (s.port p).physUp = true →
    let t := (s.txFlush p).setPort p fun r =>
      { r with physUp := false, controlWord := false, changedAt := s.time.mono, pausePending := none, pauseRepeatAt := none, pausedUntil := none }
    Runs (.phyLinkLoss p) s fun u => u = (t.put (NP_STATUS_PAUSED p) 0).put (NP_STATUS_PAUSING p) 0) ∧
  (∀ (s : State) (p q t : Nat), p < 4 → q < 8 → s.coreOn = true → Store.get (fun _ => none) (s.port p).since q = some t →
    s.get (NP_TXQ_CFG_STARVE p q) ≠ 0 → t + s.get (NP_TXQ_CFG_STARVE p q) * 1000000 ≤ s.time.mono → ¬ q ∈ (s.port p).starved →
    Runs (.txqStarve p q) s fun u =>
      u = (s.setPort p fun r => { r with starved := r.starved ++ [q] }).raise EV_NP_TXQ_STARVE sevWarning (p * 8 + q) p q) ∧
  (∀ (s : State), s.coreOn = true → s.flag NP_PRP_CFG_EN = true → s.net.supervisionAt ≤ s.time.mono →
    Runs .prpSupervisionTx s fun u =>
      u = State.txSend { s with net := { s.net with supervisionAt := s.net.supervisionAt + s.get NP_PRP_CFG_LIFE_CHECK * 100000000 } } 0 6
        { kind := .supervision, length := 64, payload := beBytes 6 s.supAddr }) ∧
  (∀ (s : State) (p t : Nat), p < 4 → s.coreOn = true → (s.port p).pausedUntil = some t → t ≤ s.time.mono →
    Runs (.pauseHoldEnd p) s fun u => u = (s.setPort p fun r => { r with pausedUntil := none }).put (NP_STATUS_PAUSED p) 0) ∧
  (∀ (s : State) (p level : Nat), s.canonical = true → p < 4 → s.coreOn = true → s.portRuns p = true → s.flag (NP_CFG_PAUSE_TX p) = true →
    s.flag (NP_STATUS_PAUSING p) = false → s.get (NP_PAUSE_CFG_HIGH_WM p) * sluiceDepth (s.rxSluice p) ≤ level * 16 →
    Runs (.pauseHighWm p level) s fun u =>
      u.flag (NP_STATUS_PAUSING p) = true ∧ (u.port p).pausePending = some (s.get (NP_PAUSE_CFG_QUANTA p)) ∧
      u.get (SL_STATUS_LEVEL (s.rxSluice p)) = min level (sluiceDepth (s.rxSluice p))) ∧
  (∀ (s : State) (p t : Nat), p < 4 → s.coreOn = true → (s.port p).pauseRepeatAt = some t → t ≤ s.time.mono →
    s.flag (NP_STATUS_PAUSING p) = true →
    Runs (.pauseRepeat p) s fun u =>
      u = s.setPort p fun r => { r with pausePending := some (s.get (NP_PAUSE_CFG_QUANTA p)), pauseRepeatAt := none }) ∧
  (∀ (s : State) (p level : Nat), s.canonical = true → p < 4 → s.coreOn = true → s.flag (NP_STATUS_PAUSING p) = true →
    level * 16 ≤ s.get (NP_PAUSE_CFG_LOW_WM p) * sluiceDepth (s.rxSluice p) →
    Runs (.pauseLowWm p level) s fun u =>
      u.flag (NP_STATUS_PAUSING p) = false ∧ (u.port p).pausePending = some 0 ∧ (u.port p).pauseRepeatAt = none ∧
      u.get (SL_STATUS_LEVEL (s.rxSluice p)) = min level (sluiceDepth (s.rxSluice p)))



/-- Link supervision and sluices: a physical link comes up; a link-down and a link-up that have lasted LINK_HOLD ms are reported (R79);
a link without a good frame for RX_SILENCE ms is marked silent (R80); the drops of a second are held against THR (R81); a sluice's test
at its start puts it in service, one that passes in service changes nothing, and one that fails there has the effect of a failed test. -/
def Obligations.LinkSupervision : Prop :=
  (∀ (s : State) (p speed : Nat) (cw : Bool), p < 4 → s.coreOn = true → s.portRuns p = true → (s.port p).physUp = false →
    Runs (.phyLinkUp p cw speed) s fun u =>
      (u.port p).physUp = true ∧ (u.port p).changedAt = s.time.mono ∧ (u.port p).controlWord = cw) ∧
  (∀ (s : State) (p : Nat), s.canonical = true → p < 4 → s.coreOn = true → s.flag (NP_STATUS_LINK p) = true →
    (s.port p).physUp = false → s.linkHeld p = true →
    Runs (.linkDownReport p) s fun u =>
      u.flag (NP_STATUS_LINK p) = false ∧ u.get (NP_STATUS_SPEED p) = 0 ∧ u.flag (NP_STATUS_RX_SILENT p) = false) ∧
  (∀ (s : State) (p : Nat), s.canonical = true → p < 4 → s.coreOn = true → s.flag (NP_STATUS_LINK p) = false →
    (s.port p).physUp = true → s.linkHeld p = true →
    (s.get (NP_CFG_MODE p) ≠ 2 ∨ s.flag (NP_CFG_AN_EN p) = false ∨ (s.port p).controlWord = true) →
    Runs (.linkUpReport p) s fun u =>
      u.flag (NP_STATUS_LINK p) = true ∧ u.get (NP_STATUS_SPEED p) = s.speedCode p % 4 ∧ (u.port p).silentFrom = some s.time.mono) ∧
  (∀ (s : State) (p t : Nat), p < 4 → s.coreOn = true → (s.port p).silentFrom = some t → s.get (NP_LINK_CFG_RX_SILENCE p) ≠ 0 →
    t + s.get (NP_LINK_CFG_RX_SILENCE p) * 1000000 ≤ s.time.mono → s.flag (NP_STATUS_RX_SILENT p) = false →
    Runs (.rxSilenceExpire p) s fun u => u = (s.put (NP_STATUS_RX_SILENT p) 1).raise EV_NP_RX_SILENT sevWarning p p) ∧
  (∀ (s : State) (p : Nat), p < 4 → s.coreOn = true → (s.port p).dropAt + 1000000000 ≤ s.time.mono →
    let n := (s.port p).drops - (s.port p).dropBase
    let t := s.setPort p fun r => { r with dropBase := r.drops, dropAt := s.time.mono }
    Runs (.rxBadRateCheck p) s fun u =>
      u = if s.get (NP_BAD_THR_THR p) ≠ 0 ∧ s.get (NP_BAD_THR_THR p) ≤ n then t.raise EV_NP_RX_BAD_RATE sevWarning p p n else t) ∧
  (∀ (s : State) (i : Nat), s.canonical = true → i < 26 → s.coreOn = true → s.flag (SL_STATUS_STOPPED i) = false →
    s.flag (SL_STATUS_ACTIVE i) = false → s.sluiceSides i = true →
    Runs (.sluiceSelftest i true) s fun u => u.flag (SL_STATUS_ACTIVE i) = true) ∧
  (∀ (s : State) (i : Nat) (pass : Bool), i < 26 → s.coreOn = true → s.flag (SL_STATUS_STOPPED i) = false →
    s.flag (SL_STATUS_ACTIVE i) = true →
    Runs (.sluiceSelftest i pass) s fun u => u = if s.flag (SL_CFG_TEST_EN i) = true ∧ pass = false then s.sluiceFail i else s)

/-! ### Measurement lanes (04) -/

/-- What a lane does with a block (under the key in use, or after the change to the next one), a descriptor and a sampled-value frame that
pass every check of R99, R103 and R111: it is accepted, or the descriptor is. The frame of a lane's first samples fixes its confRev. -/
def Obligations.LaneInputs : Prop :=
  (∀ (s t : State) (b : ReedBlock), s.enginesOn = true → b.poisoned = false → s.cold = false → s.net.pathsClosed = false →
    b.subtype = 1 → reedFormat b = true →
    (let a := s.authenticate b.lane b.headId b.keyGen (laneIv 1 b.headId b.seq) (reedAad b) b.tag
     a = (t, some false) ∨ a.2 = some true ∧ a.1.keySwap b.lane = some t) →
    b.nq = t.laneNq b.lane → b.rate = t.get (LN_CFG_RATE b.lane) → (∀ q, (t.link b.lane).seq = some q → q < b.seq) →
    b.t0 % 1000000 = 0 →
    (∀ q, (t.link b.lane).seq = some q →
      t.laneState b.lane = lnDown ∨ (b.t0 : Int) - (t.link b.lane).t0 = ((b.seq : Int) - q) * 1000000) →
    t.ageOk b.lane ((b.stamp : Int) - (b.t0 + 1000000)) = true →
    Runs (.sampleBlockRx b) s fun u =>
      u = t.accept b.lane
        { seq := b.seq, t0 := b.t0, stamp := b.stamp, age := (b.stamp : Int) - (b.t0 + 1000000), show_ := some (b.flags, b.t0Qual % 16),
          why := t.reedWhy b.lane b, tamper := b.flags.testBit 3, flags := 1 + (if b.flags.testBit 1 then 8 else 0),
          rows := rowsOf (perMs b.rate) b.nq (b.samples.map sampleOf) }) ∧
  (∀ (s t : State) (d : DescBlock) (next : Bool), s.enginesOn = true → s.cold = false → s.net.pathsClosed = false → descFormat d = true →
    s.authenticate d.lane d.headId d.keyGen (laneIv 2 d.headId d.dseq) (descAad d) d.tag = (t, some next) → d.qidx < t.laneNq d.lane →
    (∀ q, (t.link d.lane).dseq = some q → q < d.dseq) →
    Runs (.descriptorRx d) s fun u => u = t.acceptDesc d.lane d) ∧
  (∀ (s : State) (f : SvFrame) (n : Nat), s.enginesOn = true → s.cold = false → s.net.pathsClosed = false → f.formatOk = true →
    f.secured = false → 0 < f.asdus.length → f.asdus.length ≤ 8 → (∀ a ∈ f.asdus, a.samples.length = 8) → s.svLane f = some n →
    (f.simulated = true → s.flag (LN_SV_SIM_OK n) = true) → f.asdus.length = s.asdu n →
    (∀ v, (s.link n).confRev = some v → v = f.confRev) →
    (∀ q, (s.link n).seq = some q → q < s.svCount n f ∧ (s.svCount n f - q) % s.asdu n = 0) →
    (((List.range f.asdus.length).zip f.asdus).all fun (j, a) => a.smpCnt == ((f.asdus.headD {}).smpCnt + j) % s.laneRate n) = true →
    s.ageOk n ((f.stamp : Int) - ((s.svCount n f + s.asdu n) * 1000000000 / s.laneRate n : Nat)) = true →
    let t := (s.setLink n fun l => { l with confRev := some (l.confRev.getD f.confRev) }).countN (lnCnt n 12)
      ((s.svRows n f).foldl (fun a r => a + (r.filter LaneSample.invalid).length) 0)
    Runs (.svFrameRx f) s fun u =>
      u = t.accept n
        { seq := s.svCount n f, t0 := s.svCount n f * 1000000000 / s.laneRate n, stamp := f.stamp,
          age := (f.stamp : Int) - ((s.svCount n f + s.asdu n) * 1000000000 / s.laneRate n : Nat), show_ := none,
          why := if f.asdus.all (fun a => a.smpSynch == 2) then 0 else 7, tamper := false, flags := 1, rows := s.svRows n f })

/-- A lane's own timers and its register writes: a position without a block is released as a gap when its time is up, and after its
deadline all the same; silence takes the lane DOWN; RESYNC takes a FAULT lane DOWN with its continuity forgotten; EN = 1 sets the enable
and changes no state of the lane; EN = 0 takes the lane DOWN with its descriptors invalid. -/
def Obligations.LaneEvents : Prop :=
  (∀ (s : State) (n p : Nat), n < 256 → s.enginesOn = true → (s.link n).rel = some p → s.releasing n = true →
    s.ranFor (s.posT0 n p + s.posSpan n) (s.maxLate n) = true →
    Runs (.gapPositionRelease n) s fun u => u = s.releaseGap n p (s.posT0 n p)) ∧
  (∀ (s : State) (n p : Nat), n < 256 → s.enginesOn = true → (s.link n).rel = some p → s.releasing n = true →
    s.ranFor (s.posT0 n p + s.posSpan n) (s.maxLate n + 100001) = true →
    Runs (.laneDeadlineMiss n) s fun u => u = s.releaseGap n p (s.posT0 n p)) ∧
  (∀ (s : State) (n t : Nat), s.canonical = true → n < 256 → s.enginesOn = true → (s.link n).silentFrom = some t →
    t + s.get (LN_TMO_SILENCE n) * 1000000 < s.jobMono → 1 ≤ s.laneState n → s.laneState n ≤ 3 →
    Runs (.laneSilence n) s fun u => u.laneState n = lnDown ∧ u.get (LN_STATUS_REASON n) = 0) ∧
  (∀ (s : State) (m : Master) (n v : Nat), s.canonical = true → n < 256 → v < 2 ^ 32 → v % 2 = 1 → s.takesWrite m (LN_CTRL n) v = true →
    s.laneState n = lnFault →
    Runs (.laneResync m n v) s fun u =>
      u.laneState n = lnDown ∧ u = (((s.stored m (LN_CTRL n) v).forget n false).laneTo n lnDown 0).recorded m (LN_CTRL n) v) ∧
  (∀ (s : State) (m : Master) (n v : Nat), s.canonical = true → n < 256 → v < 2 ^ 32 → v % 2 = 1 → s.takesWrite m (LN_CFG n) v = true →
    s.flag (LN_CFG_EN n) = false →
    Runs (.laneEnable m n v) s fun u => u.flag (LN_CFG_EN n) = true ∧ u.laneState n = s.laneState n ∧ u.link n = s.link n) ∧
  (∀ (s : State) (m : Master) (n v : Nat), s.canonical = true → n < 256 → v < 2 ^ 32 → v % 2 = 0 → s.takesWrite m (LN_CFG n) v = true →
    s.flag (LN_CFG_EN n) = true →
    Runs (.laneDisable m n v) s fun u =>
      u.flag (LN_CFG_EN n) = false ∧ u.laneState n = lnDown ∧
      ∀ q < 8, u.flag (LN_DESC_INFO_VALID n q) = false)

/-! ### Analogue front end (05) -/

/-- Converters: a frame instant holds the lists and starts a conversion where the regular list has an input; a conversion's end delivers a
regular result, or keeps an injected one and publishes the sequence it completes unless one of its results was lost, and the next conversion
starts; a trigger of the timer or of software starts an injected sequence at its clock edge; the reference is ready 2 ms after its buffer is
enabled. -/
def Obligations.Converters : Prop :=
  (∀ (s : State) (c : Nat), c < 8 → s.enginesOn = true → s.flag (afRunning c) = true → (s.conv c).notBefore < frameOf s.time.tai →
    s.regList c ≠ [] →
    Runs (.converterFrame c) s fun u =>
      (u.conv c).frame = frameOf s.time.tai ∧ (u.conv c).notBefore = frameOf s.time.tai ∧ (u.conv c).seq = s.regList c ∧
      (u.conv c).inj = s.injList c ∧ (u.conv c).cur.isSome = true) ∧
  (∀ (s : State) (c i : Nat) (code : Int) (ovr full : Bool) (x : Crossing), s.canonical = true → c < 8 → s.enginesOn = true →
    s.flag (afRunning c) = true → s.flag (AF_CTRL_EN c) = true → (s.conv c).cur = some (i, false) → i < 8 →
    Runs (.conversionEnd c code ovr x full) s fun u =>
      u = (((s.setConv c fun v => { v with cur := none }).convCross c x full).regularResult c i (limitCode code) ovr x.poisoned full).nextConversion c) ∧
  (∀ (s : State) (c i : Nat) (code : Int) (ovr full : Bool) (x : Crossing), s.canonical = true → c < 8 → s.enginesOn = true →
    s.flag (afRunning c) = true → s.flag (AF_CTRL_EN c) = true → (s.conv c).cur = some (i, true) → i < 8 →
    let t := ((s.setConv c fun v => { v with cur := none }).convCross c x full).setConv c fun v => { v with
      injWords := v.injWords ++ [resultWord (limitCode code) ovr i (s.chain (8 * c + i)).gain true v.injFrame]
      injBad := v.injBad || x.poisoned || full }
    Runs (.conversionEnd c code ovr x full) s fun u =>
      u = (if (s.conv c).injWork ≠ [] then t else if (t.conv c).injBad then t.count (slDiscard (11 + c)) else t.injPublish c).nextConversion c) ∧
  (∀ (s : State) (c t : Nat), c < 8 → s.enginesOn = true → s.get (AF_INJ_CFG_SRC c) = 1 → 0 < s.get (AF_INJ_PER_PERIOD c) →
    t = s.time.tai / 1000000000 * 1000000000 +
      s.time.tai % 1000000000 / (s.get (AF_INJ_PER_PERIOD c) * 1000) * (s.get (AF_INJ_PER_PERIOD c) * 1000) →
    (s.conv c).injLast < t →
    Runs (.injTimerTrigger c) s fun u => u = (s.setConv c fun v => { v with injLast := t }).injTrigger c (clockEdge t)) ∧
  (∀ (s : State) (m : Master) (c v : Nat), c < 8 → v < 2 ^ 32 → v % 2 = 1 → s.takesWrite m (AF_INJ_TRIG c) v = true →
    Runs (.injSoftTrigger m c v) s fun u =>
      u = ((s.stored m (AF_INJ_TRIG c) v).injTrigger c (clockEdge s.time.tai)).recorded m (AF_INJ_TRIG c) v) ∧
  (∀ (s : State) (t : Nat), s.canonical = true → s.coreOn = true → s.afe.refAt = some t → t + 2000000 ≤ s.time.mono →
    Runs .refReady s fun u => u.flag AF_REF_READY = true ∧ u.afe.waiting = [] ∧ u.time = s.time)

/-- Filter chains: an output with no bank change due carries the filtered value and its flags; a late output is counted and reported; a
swap is requested, the factory coefficients are loaded, and a coefficient is stored. -/
def Obligations.FilterChains : Prop :=
  (∀ (s : State) (n : Nat) (d : ChainDue) (rest : List ChainDue), s.canonical = true → n < 64 → s.enginesOn = true →
    (s.chain n).due = d :: rest → (d.late = true ∨ s.time.mono ≤ d.held + 40000) →
    (s.chain n).noRepeat = none → (s.chain n).swap = false → (s.chain n).fade = none →
    let act := s.get (FC_STAT_ACTIVE_BANK n)
    let left := s.get (FC_STAT_SETTLE_LEFT n)
    let y := sat24 (s.firValue n act d.line)
    let invalid := d.lost || s.flag AF_STATUS_TRIM_BAD
    Runs (.chainOutput n) s fun u =>
      u.reg (FC_LAST n) = outputWord y.1 (bit d.ovr + 2 * bit (decide (0 < left)) + 4 * bit invalid + 8 * bit d.late + 16 * act +
        32 * 0 + 64 * bit y.2) ∧
      u.get (FC_STAT_SETTLE_LEFT n) = left - 1 ∧ (u.chain n).due = rest ∧
      (u.chain n).lastRep = some (frameInstant d.frame - s.get (FC_DELAY_DELAY n))) ∧
  (∀ (s : State) (n : Nat) (d : ChainDue) (rest : List ChainDue), n < 64 → s.enginesOn = true → (s.chain n).due = d :: rest →
    d.late = false → d.held + 40000 < s.time.mono →
    Runs (.chainDeadlineMiss n) s fun u =>
      u = (((s.setChain n fun c => { c with due := { d with late := true } :: rest }).count (fcCnt n 1)).raise
        EV_FC_DEADLINE sevMajor n n).deviceMiss 0) ∧
  (∀ (s : State) (m : Master) (n : Nat), n < 64 → s.takesWrite m (FC_CTRL n) 1 = true →
    Runs (.fcSwap m n 1) s fun u => u = ((s.stored m (FC_CTRL n) 1).swapRequest n).recorded m (FC_CTRL n) 1) ∧
  (∀ (s : State) (m : Master) (n : Nat), n < 64 → s.takesWrite m (FC_CTRL n) 2 = true →
    Runs (.fcLoadFactory m n 2) s fun u =>
      u = ((s.stored m (FC_CTRL n) 2).loadFactory n (s.chain n).preset).recorded m (FC_CTRL n) 2) ∧
  (∀ (s : State) (m : Master) (n v : Nat), n < 64 → v < 2 ^ 32 → s.takesWrite m (FC_COEF_DATA n) v = true →
    let key := (n * 2 + s.get (FC_COEF_SEL_BANK n)) * 128 + s.get (FC_COEF_SEL_TAP n)
    let t := s.stored m (FC_COEF_DATA n) v
    Runs (.fcCoefWrite m n v) s fun u =>
      u = (State.coefStep
        { t with afe := { t.afe with coefs := Store.set (fun _ => none) t.afe.coefs key (some (signedOf 24 (v % 2 ^ 24))) } } n).recorded
          m (FC_COEF_DATA n) v)

/-! ### Phasor estimation and output streams (06) -/

/-- Estimates: once the inputs of the instant owed have arrived in time, the estimate of the samples held is counted, shown and filed, and
the buckets it completes close; a half-cycle estimate becomes the newest of its phasor; an estimate whose deadline has passed is marked
and reported, and so is every half-cycle of a function that is overdue. -/
def Obligations.Estimates : Prop :=
  (∀ (s : State) (f t : Nat), f < 272 → s.enginesOn = true → s.cold = false → s.fnOn f = true → (s.fnLink f).late = [] →
    t = s.instantAfter f 0 → s.inputsArrived f (s.windowEnd f t) = true → s.inputsOverdue f (s.windowEnd f t) 500000 = false →
    let e := (s.computeEstimate f t).1
    let seq := ((if isLocal f then s.word (PE_FN_SEQ f) else s.word (PE_LF_SEQ (f - 16))) + 1) % 2 ^ 32
    let bad := isLocal f && (s.fnChains f).any fun n => s.chainWasBad n (s.centreOf f t - s.halfSpan f)
    let s1 := (s.countFlags f e.flags bad).when (e.flags.testBit 5 && !(s.fnLink f).range) fun s => s.raise EV_PE_FREQ_RANGE sevWarning f f
    let s2 := (s1.deviceMet 2 false).setFnLink f fun l => { l with
      last := some t, range := e.flags.testBit 5, late := l.late.filter fun x => x != t, freq := some (s.computeEstimate f t).2 }
    Runs (.phasorEstimate f) s fun u =>
      u = State.closeComplete 512 ((s2.showEstimate f e.flags seq e.freq).fileEstimate f seq e)) ∧
  (∀ (s : State) (m j k : Nat), m < 16 → j < 8 → s.enginesOn = true → s.halfOn m j = true → k = s.halfAfter m j 0 →
    s.halfOverdue m j = none → halfEnd s.fNom k < s.jobTai →
    (∀ n ∈ s.phasorChains m j, s.chainBad n = true ∨
      ∃ o, (s.chainView n).outputs.head? = some o ∧ s.lastHold n (halfEnd s.fNom k) ≤ o.1 + s.get (FC_DELAY_DELAY n)) →
    Runs (.halfWindow m j) s fun u =>
      (u.halfLink m j).last = some k ∧ (u.halfLink m j).seq = ((s.halfLink m j).seq + 1) % 2 ^ 32 ∧
      ∃ r, (u.halfLink m j).recs.head? = some r ∧ r.num = k ∧ r.instant = halfInstant s.fNom k ∧ (r.mag, r.ang) = s.halfPhasor m j k ∧
        r.freq = halfFreq s.fNom (s.halfLink m j).recs.head? k (s.halfPhasor m j k).2) ∧
  (∀ (s : State) (f t : Nat), f < 272 → s.enginesOn = true → s.cold = false → s.fnOn f = true →
    t = s.instantAfter f ((s.fnLink f).late.foldl max 0) → s.inputsOverdue f (s.windowEnd f t) 500000 = true →
    Runs (.pmuDeadlineMiss f) s fun u =>
      u = (((s.setFnLink f fun l => { l with late := l.late ++ [t] }).count (peCnt f 5)).raise EV_PE_DEADLINE sevMajor f f).deviceMiss 2) ∧
  (∀ (s : State) (m j k : Nat), m < 16 → j < 8 → s.enginesOn = true → s.halfOverdue m j = some k →
    Runs (.halfCycleDeadlineMiss m) s fun u => (u.halfLink m j).late = (s.halfLink m j).late ++ [k])

/-- A command that a stream takes on its connection is counted and reported, and has its effect: data off, data on, the header frame, or a
configuration frame; one that fails its checks, or has another code, is counted as rejected (R158). -/
def Obligations.StreamCommands : Prop :=
  (∀ (s : State) (k : Nat) (c : OsCommand), k < 32 → s.enginesOn = true → s.osConnected k = true → s.osSound k c = true →
    Runs (.osCmdDataOff k c) s (fun u => u = (s.osHeard k).put (OS_STATUS_TX_ON k) 0) ∧
    Runs (.osCmdDataOn k c) s (fun u => u = (s.osHeard k).put (OS_STATUS_TX_ON k) 1) ∧
    Runs (.osCmdHeader k c) s (fun u => u = (s.osHeard k).osPut k (.osHeader k) ((s.osHeard k).headerFrame k) true) ∧
    Runs (.osCmdCfg1 k c) s (fun u => u = (s.osHeard k).osPut k (.osCfg k 1) ((s.osHeard k).cfgBytes k 1) true) ∧
    Runs (.osCmdCfg2 k c) s (fun u => u = (s.osHeard k).osPut k (.osCfg k 2) ((s.osHeard k).cfgBytes k 2) true) ∧
    Runs (.osCmdCfg3 k c) s (fun u => u = (s.osHeard k).osPut k (.osCfg k 3) ((s.osHeard k).cfgBytes k 3) true)) ∧
  (∀ (s : State) (k : Nat) (c : OsCommand) (code : Nat), k < 32 → s.enginesOn = true → s.osConnected k = true →
    (s.osSound k c = false ∨ code = 0 ∨ 6 < code) →
    Runs (.osCmdReject k c code) s fun u =>
      u = (s.setStreamLink k fun l => { l with idleAt := s.time.mono, probes := 0 }).count (osCnt k 2))

/-- Streams: a connection to the listening port is served, or reset while one is; a close ends it; an idle one is probed, and closed after
three unanswered probes; CFG-2 is repeated when due; a released frame that is late is marked and reported; EN = 1 starts the stream, its
data frames at once in MODE 0. -/
def Obligations.StreamEvents : Prop :=
  (∀ (s : State) (k port : Nat), k < 32 → port < 65536 → s.enginesOn = true → s.flag (OS_CFG_EN k) = true → s.get (OS_CFG_MODE k) ≠ 0 →
    s.drives = true → port = s.get (OS_TCP_PORT k) →
    Runs (.osConnect k port) s fun u =>
      u = if s.flag (OS_STATUS_TCP_CONN k) then s.emit (.tcpReset k)
        else (s.put (OS_STATUS_TCP_CONN k) 1).setStreamLink k fun l => { l with unacked := 0, idleAt := s.time.mono, probes := 0 }) ∧
  (∀ (s : State) (k : Nat), k < 32 → s.enginesOn = true → s.flag (OS_STATUS_TCP_CONN k) = true →
    let t := (s.put (OS_STATUS_TCP_CONN k) 0).setStreamLink k fun l => { l with unacked := 0, probes := 0 }
    Runs (.osTcpClose k) s fun u => u = if s.get (OS_CFG_MODE k) = 2 then t.put (OS_STATUS_TX_ON k) 0 else t) ∧
  (∀ (s : State) (k : Nat) (answered : Bool), k < 32 → s.enginesOn = true → s.flag (OS_STATUS_TCP_CONN k) = true →
    (s.streamLink k).idleAt + (30 + 10 * (s.streamLink k).probes) * 1000000000 ≤ s.time.mono →
    Runs (.osTcpKeepalive k answered) s fun u =>
      u = if (s.streamLink k).probes = 3 then (s.emit (.tcpClose k)).tcpGone k
        else (s.emit (.tcpProbe k)).setStreamLink k fun l =>
          if answered then { l with idleAt := s.time.mono, probes := 0 } else { l with probes := l.probes + 1 }) ∧
  (∀ (s : State) (k t : Nat), k < 32 → s.enginesOn = true → (s.streamLink k).cfgDue = some t → s.flag (OS_CFG_EN k) = true →
    s.get (OS_CFG_MODE k) = 0 → t ≤ s.time.mono → s.cold = false → Runs (.osCfg2Repeat k) s fun u => u = s.cfg2Send k) ∧
  (∀ (s : State) (k : Nat), k < 32 → s.enginesOn = true → (s.streams.ready.any fun r => r.stream == k && !r.missed && decide (r.released + 1000000 < s.jobMono)) = true →
    Runs (.osDeadlineMiss k) s fun u =>
      u = ((State.count { s with streams := { s.streams with ready := markReady k s.streams.ready } } (osCnt k 0)).raise
        EV_OS_DEADLINE sevMajor k k).deviceMiss 5) ∧
  (∀ (s : State) (m : Master) (k v : Nat), s.canonical = true → k < 32 → v < 2 ^ 32 → v % 2 = 1 → s.takesWrite m (OS_CFG k) v = true →
    s.flag (OS_CFG_EN k) = false →
    Runs (.osEnable m k v) s fun u =>
      u.flag (OS_CFG_EN k) = true ∧ u.flag (OS_STATUS_TX_ON k) = decide (v / 2 % 4 = 0))

/-! ### Stream alignment (07) -/

/-- Alignment: the blocks of a sound data frame are taken in order and the buckets they complete close; a configuration frame is compared
with every slot of its IDCODE, or waits for the end of a firmware switch; the next bucket opens at its instant; a bucket that may close
closes and feeds the streams; a bucket past its deadline is marked and reported; an ACTIVE slot without a block for STALE ms goes STALE. -/
def Obligations.AlignmentEvents : Prop :=
  (∀ (s : State) (f : C37Frame) (blocks : List (Nat × List Byte)) (left : Bool), s.enginesOn = true → s.cold = false →
    s.net.pathsClosed = false → s.flag AE_CFG_EN = true → f.syncOk = true → (f.version = 1 ∨ f.version = 2) → f.frameSize = f.actualLen →
    f.chkOk = true → f.kind = 0 → s.idHeld f.idcode = true → s.parseBlocks f.idcode 255 0 f.body = some (blocks, left) →
    (left = true ∨ f.body.length + 16 = f.frameSize) →
    Runs (.alignFrameRx f) s fun u =>
      u = State.closeComplete 512 (blocks.foldl (fun s b => s.block f b.1 b.2) (s.when left fun s => s.count (aeGCnt 2)))) ∧
  (∀ (s : State) (f : CfgFrame), s.enginesOn = true → s.flag FU_STATUS_SWITCHING = false → s.flag AE_CFG_EN = true → s.cold = false →
    Runs (.cfgFrameCheck f) s fun u =>
      u = (s.ringSlots.filter fun n => decide (n < 8192) && s.get (AE_SLOT_SRC_IDCODE n) == f.idcode).foldl (fun s n => s.cfgSlot f n) s) ∧
  (∀ (s : State) (f : CfgFrame), s.enginesOn = true → s.flag FU_STATUS_SWITCHING = true →
    Runs (.cfgFrameCheck f) s fun u => u = { s with fw := { s.fw with cfgWaiting := s.fw.cfgWaiting ++ [f] } }) ∧
  (∀ (s : State), s.enginesOn = true → s.flag AE_CFG_EN = true → s.cold = false → bucketInstant s.gridRate s.nextBucket ≤ s.jobTai →
    Runs .bucketOpen s fun u => u = State.closeComplete 512 (s.openBucket s.nextBucket)) ∧
  (∀ (s : State) (b : Nat) (o : OpenBucket), s.enginesOn = true → s.flag AE_CFG_EN = true → s.cold = false → s.closable b = some o →
    Runs (.bucketClose b) s fun u => u = State.closeComplete 512 ((s.closeBucket o).osFrames o.number o.late)) ∧
  (∀ (s : State) (b : Nat) (o : OpenBucket), s.enginesOn = true → s.cold = false → s.opened b = some o → o.late = false →
    o.reachedAt = none → s.ranFor o.closeAt 1000001 = true →
    Runs (.bucketDeadlineMiss b) s fun u =>
      u = (((s.setOpen b fun o => { o with late := true }).count (aeGCnt 3)).raise EV_AE_DEADLINE sevMajor).deviceMiss 4) ∧
  (∀ (s : State) (n t : Nat), n < 8192 → s.enginesOn = true → s.flag AE_CFG_EN = true → s.cold = false → (s.slotLink n).last = some t →
    s.slotState n = slActive → t + s.get (AE_SLOT_TMO_STALE n) * 1000000 ≤ s.jobMono →
    Runs (.slotStale n) s fun u =>
      u = (s.setSlotState n slStale).raise EV_AE_STALE sevWarning (s.get (AE_SLOT_SRC_GROUP n)) n)

/-- Enables of alignment: an external slot enabled enters WAITING and its stale timer starts (R168); AE_CFG.EN = 1 lays the fen store out
and starts alignment (R167); EN = 0 stops it, with no bucket left open (R434). Fen-store commands: a query of buckets that have opened, or
of a pin copied whole, begins its copy; a pin of closed buckets reserves its bytes and begins its copy; a pin copied whole, released, frees
them (R193, R194, R310). -/
def Obligations.AlignmentCommands : Prop :=
  (∀ (s : State) (m : Master) (n v : Nat), s.canonical = true → n < 8192 → v < 2 ^ 32 → v % 2 = 1 →
    s.takesWrite m (AE_SLOT_CFG n) v = true → s.flag (AE_SLOT_CFG_EN n) = false →
    Runs (.slotEnable m n v) s fun u =>
      u.flag (AE_SLOT_CFG_EN n) = true ∧ u.slotState n = slWaiting ∧ (u.slotLink n).last = some s.jobMono) ∧
  (∀ (s : State) (m : Master) (v : Nat), s.canonical = true → v < 2 ^ 32 → v % 2 = 1 → s.takesWrite m AE_CFG v = true →
    s.flag AE_CFG_EN = false →
    Runs (.alignEnable m v) s fun u =>
      u.flag AE_CFG_EN = true ∧ u.flag AE_STATUS_RUNNING = !s.cold ∧ u.flag AE_STATUS_LAYOUT_ERR = false ∧
      u.align.layout = some (s.stored m AE_CFG v).wantedLayout) ∧
  (∀ (s : State) (m : Master) (v : Nat), s.canonical = true → v < 2 ^ 32 → v % 2 = 0 → s.takesWrite m AE_CFG v = true →
    s.flag AE_CFG_EN = true →
    Runs (.alignDisable m v) s fun u =>
      u.flag AE_CFG_EN = false ∧ u.flag AE_STATUS_RUNNING = false ∧ u.align.opens = [] ∧ u.align.layout = s.align.layout) ∧
  (∀ (s : State) (h : CmdHeader) (first last dst dstLen : Nat) (slots : List Nat) (flags pin newest : Nat), h.sq < 16 →
    s.serves h 0x10 = true → queryField first last slots flags pin = none → flags.testBit 1 = false →
    (last + 1 - first) * (64 + 128 * slots.length) ≤ dstLen → s.badSlot slots = none → s.align.newest = some newest → last ≤ newest →
    Runs (.fenQuery h first last dst dstLen slots flags pin) s fun u =>
      u = s.startJob h 0x10 (.fenQuery first last slots dst (flags.testBit 0) none) (last + 1 - first) (64 + 128 * slots.length)) ∧
  (∀ (s : State) (h : CmdHeader) (first last dst dstLen : Nat) (slots : List Nat) (flags pin : Nat) (p : PinCopy), h.sq < 16 →
    s.serves h 0x10 = true → queryField first last slots flags pin = none → flags.testBit 1 = true → s.pinHeld pin = some p →
    p.first ≤ first → last ≤ p.last → (last + 1 - first) * (64 + 128 * p.slots.length) ≤ dstLen →
    Runs (.fenQuery h first last dst dstLen slots flags pin) s fun u =>
      u = s.startJob h 0x10 (.fenQuery first last p.slots dst false (some p)) (last + 1 - first) (64 + 128 * p.slots.length)) ∧
  (∀ (s : State) (h : CmdHeader) (first last : Nat) (slots : List Nat) (pin newest : Nat), h.sq < 16 → s.serves h 0x11 = true →
    queryField first last slots 0 pin = none → s.pinOf pin = none → s.badSlot slots = none → s.align.newest = some newest →
    last ≤ newest → (∀ o ∈ s.align.opens, o.number < first ∨ last < o.number) →
    (last + 1 - first) * (64 + 128 * slots.length) ≤ s.pinFree →
    Runs (.fenPin h first last slots pin) s fun u =>
      u = (s.setPin pin (some { first, last, slots, bytes := (last + 1 - first) * (64 + 128 * slots.length) })).startJob h 0x11
        (.fenPin first last slots pin) (last + 1 - first) (64 + 128 * slots.length)) ∧
  (∀ (s : State) (h : CmdHeader) (pin : Nat) (p : PinCopy), h.sq < 16 → s.serves h 0x11 = true → pin ≤ 15 → s.pinHeld pin = some p →
    Runs (.fenUnpin h 0 0 [] pin) s fun u => u = (s.setPin pin none).finish h 0x11 stOk 0 0 p.bytes)

/-! ### Detection (08) -/

/-- Watchers at work: a sample of a closed bucket is taken after its missing ones, or restarts the watcher where more than GAP_MAX are
missing, and a modal update it owes is noted; the oldest update owed is made, late or not, with a new generation of its record where
results have a place in memory; the wide-area criteria are evaluated on the references that are usable, the local ones at the next
half-cycle; a learning watcher goes WIDE when LEARN seconds have passed since its seed; LOC_VS deasserts at the end of its hold; a missed
deadline is counted and reported, and a modal update and a rule evaluation that missed it are marked. -/
def Obligations.WatcherEvents : Prop :=
  (∀ (s : State) (w b : Nat), w < 64 → s.enginesOn = true → s.flag (OW_CFG_EN w) = true → s.cold = false →
    b % (s.gridRate / s.owRate w) = 0 → s.bucketClosed b = true → (∀ l, (s.ow w).last = some l → l < b) →
    let gone := match (s.ow w).last with
      | some l => (b - l) / (s.gridRate / s.owRate w) - 1
      | none => 0
    let t := if s.get (OW_MODAL_GAP_MAX w) < gone then (s.countN (owCnt w 2) (gone * (s.sigList w).length)).owRestart w
      else (List.range gone).foldl (fun s _ => s.owTake w ((s.sigList w).map fun _ => none)) s
    let t' := (t.cellErrors b ((t.sigList w).map (·.slot))).owTake w ((t.sigList w).map fun e => t.sigValue e b)
    let t'' := ((t'.setOw w fun v => { v with last := some b }).owDue w b).closeMet 6 b 2000000
    Runs (.owSample w b) s fun u => u = t''.bucketConds (t''.owBits w) b ∧ (u.ow w).last = some b) ∧
  (∀ (s : State) (w : Nat) (o : OwUpdate) (rest : List OwUpdate), s.canonical = true → w < 64 → s.enginesOn = true →
    (s.ow w).owed = o :: rest → s.flag (OW_CFG_EN w) = true → s.cold = false →
    let t := bucketInstant s.gridRate o.bucket
    let ins := s.modalInputs w o
    let ms := s.modes w ins
    let gap := ((List.range ins.length).filter fun i => (ins.getD i none).isSome).any fun i => (o.windows.getD i []).any (·.isNone)
    let flags := bit o.late + 2 * bit gap + 4 * bit (decide (o.count < s.modalSamples w)) +
      8 * bit (ins.getD (s.get (OW_CFG_REF_SIG w)) none).isNone
    let s1 := ((s.setOw w fun v => { v with owed := rest, seq := (v.seq + 1) % 2 ^ 32 }).deviceMet 7 o.late).when ms.isEmpty fun s =>
      s.count (owCnt w 6)
    let gen := (s1.word (OW_RES_GEN w) + 2) % 2 ^ 32
    let s2 := if s.detect.resBase = 0 then s1
      else (s1.memWrite (s.detect.resBase + 0x8000 * w)
        (s1.owRecord w gen (((s.ow w).seq + 1) % 2 ^ 32) flags o.count ins ms (s1.stampAt t))).setWord (OW_RES_GEN w) gen
    let s3 := s2.owDamp w ms
    Runs (.owModalUpdate w) s fun u =>
      u = (s3.setConds (s3.owBits w) (s3.stampAt t)).fire (64 + w) ∧
      (u.ow w).owed = rest ∧ (u.ow w).seq = ((s.ow w).seq + 1) % 2 ^ 32 ∧
      u.word (OW_RES_GEN w) = (if s.detect.resBase = 0 then s.word (OW_RES_GEN w) else (s.word (OW_RES_GEN w) + 2) % 2 ^ 32)) ∧
  (∀ (s : State) (k b : Nat), k < 16 → s.enginesOn = true → s.flag (IW_CFG_EN k) = true → s.cold = false →
    b % (s.gridRate / frameRate s.fNom (s.get (IW_CFG_RATE k))) = 0 → s.bucketClosed b = true → (∀ l, (s.iw k).last = some l → l < b) →
    let t := s.cellErrors b ((8192 + s.get (IW_CFG_LOCAL_FN k)) :: (s.iwRefs k).map fun j => s.get (IW_REF_SLOT k j))
    let here := t.phasorAt (8192 + t.get (IW_CFG_LOCAL_FN k)) (t.get (IW_CFG_LOCAL_PH k)) b
    let w := t.wideMeasure k b (here.getD (0, 0, 0, 15))
    let gone := ((s.iw k).usable.filter fun j => !w.usable.contains j).getLast?
    let t' := t.countN (iwCnt k 2) ((t.iwRefs k).length - w.usable.length)
    let t1 := t'.setIw k fun v => { v with
      last := some b
      usable := w.usable
      lostGroup := match gone with
        | some j => t'.get (AE_SLOT_SRC_GROUP (t'.get (IW_REF_SLOT k j)))
        | none => v.lostGroup }
    let t2 := match here with
      | none => ((t1.count (iwCnt k 7)).put (IW_STATUS_NVALID k) 0).degradedEval k
      | some p =>
        let n := (t1.countN (iwCnt k 3) w.outliers).put (IW_STATUS_NVALID k) w.valid
        let n := if w.valid = 0 then n else n.setIw k fun v => { v with prev := w.m }
        if w.valid < n.get (IW_CFG_MIN_REF k) then n.degradedEval k else n.soundEval k w (n.qualOk k p.2.2.2)
    let t3 := (t2.iwIsland k).closeMet 8 b 1500000
    Runs (.iwWaEval k b) s fun u => u = t3.bucketConds (t3.iwBits k) b ∧ (u.iw k).last = some b ∧ u.tables = s.tables) ∧
  (∀ (s : State) (k n : Nat), k < 16 → s.enginesOn = true → s.flag (IW_CFG_EN k) = true → s.cold = false → s.nextHalf k = some n →
    let due := (s.locMask k).foldl (fun a j => max a (s.halfDue (s.get (IW_CFG_LOCAL_FN k)) j n + 100000)) 0
    let t := ((s.localAt k n).iwIsland k).deviceMet 9 (decide (due < s.jobTai))
    Runs (.iwLocalEval k) s fun u => u = t.setConds (t.iwBits k) (t.stampAt (halfInstant t.fNom n))) ∧
  (∀ (s : State) (k t : Nat), s.canonical = true → k < 16 → s.enginesOn = true → (s.iw k).seedAt = some t →
    s.get (IW_STATUS_STATE k) = iwLearn → (s.iw k).base.isSome = true → t + s.get (IW_WA_TIME_LEARN k) * 1000000000 ≤ s.jobMono →
    Runs (.iwLearnEnd k) s fun u => u.get (IW_STATUS_STATE k) = iwWide ∧ u.detect.iw = s.detect.iw) ∧
  (∀ (s : State) (k t : Nat), k < 16 → s.enginesOn = true → (s.iw k).vsEnds = some t → t ≤ s.jobMono →
    let x := ((s.put (iwCond k 4) 0).setIw k fun v => { v with vsEnds := none }).iwIsland k
    Runs (.locVsHoldEnd k) s fun u => u = x.setConds (x.iwBits k) ((s.put (iwCond k 4) 0).setIw k fun v => { v with vsEnds := none }).now) ∧
  (∀ (s : State) (w : Nat), w < 64 → s.enginesOn = true →
    Runs (.detectionDeadlineMiss 0 w) s (fun u => u = ((s.count (owCnt w 0)).raise EV_OW_DEADLINE sevMajor w w).deviceMiss 6) ∧
    Runs (.detectionDeadlineMiss 1 w) s (fun u =>
      u = (((s.setOw w fun v => { v with owed := markLate v.owed }).count (owCnt w 1)).raise EV_OW_DEADLINE sevMajor w w).deviceMiss 7)) ∧
  (∀ (s : State) (k : Nat), k < 16 → s.enginesOn = true →
    Runs (.detectionDeadlineMiss 2 k) s (fun u => u = ((s.count (iwCnt k 0)).raise EV_IW_DEADLINE sevMajor k k).deviceMiss 8) ∧
    Runs (.detectionDeadlineMiss 3 k) s (fun u => u = ((s.count (iwCnt k 1)).raise EV_IW_DEADLINE sevMajor k k).deviceMiss 9)) ∧
  (∀ (s : State), s.enginesOn = true →
    Runs (.detectionDeadlineMiss 4 0) s fun u =>
      u = ((State.count { s with detect := { s.detect with late := true } } (alCnt 0)).raise EV_AL_DEADLINE sevMajor).deviceMiss 10)

/-- Rules and enables of detection: the oldest update that waits is evaluated by every rule; a rule whose raw state is false and which no
latch holds falls at the end of MIN_ON; CLEAR releases a latch, and an island watcher's held conditions; a watcher enabled starts, an
oscillation watcher with every condition at 0, an island watcher in LEARN (on a cold standby IDLE); an island watcher
disabled is IDLE with every condition at 0. -/
def Obligations.RulesAndWatchers : Prop :=
  (∀ (s : State) (x : VecUpdate) (rest : List VecUpdate), s.enginesOn = true → s.capture.forRules = x :: rest →
    Runs .ruleEval s fun u => u = State.evalRules { s with capture := { s.capture with forRules := rest } } x) ∧
  (∀ (s : State) (r : Nat), s.canonical = true → r < 32 → s.enginesOn = true → (s.rule r).raw = false →
    s.flag (AL_RULE_STAT_LATCHED r) = false → (∀ t, (s.rule r).onUntil = some t → t ≤ s.jobMono) →
    Runs (.ruleMinOnEnd r) s fun u => u.flag (AL_RULE_STAT_ON r) = false) ∧
  (∀ (s : State) (m : Master) (r v : Nat), s.canonical = true → r < 32 → v < 2 ^ 32 → v % 2 = 1 → s.takesWrite m (AL_RULE_CTRL r) v = true →
    (s.rule r).raw = false → (s.rule r).onUntil = none →
    Runs (.ruleClear m r v) s fun u => u.flag (AL_RULE_STAT_LATCHED r) = false ∧ u.flag (AL_RULE_STAT_ON r) = false) ∧
  (∀ (s : State) (m : Master) (k v : Nat), s.canonical = true → k < 16 → v < 2 ^ 32 → v % 2 = 1 → s.takesWrite m (IW_CTRL k) v = true →
    s.flag (IW_CFG_EN k) = true →
    Runs (.iwClear m k v) s fun u => u = ((s.stored m (IW_CTRL k) v).iwClear k).recorded m (IW_CTRL k) v) ∧
  (∀ (s : State) (m : Master) (w v : Nat), s.canonical = true → w < 64 → v < 2 ^ 32 → v % 2 = 1 → s.takesWrite m (OW_CFG w) v = true →
    s.flag (OW_CFG_EN w) = false →
    Runs (.owEnable m w v) s fun u =>
      u.flag (OW_CFG_EN w) = true ∧ u.get (OW_STATUS_COND w) = 0) ∧
  (∀ (s : State) (m : Master) (k v : Nat), s.canonical = true → k < 16 → v < 2 ^ 32 → v % 2 = 1 → s.takesWrite m (IW_CFG k) v = true →
    s.flag (IW_CFG_EN k) = false →
    Runs (.iwEnable m k v) s fun u =>
      u.flag (IW_CFG_EN k) = true ∧ u.get (IW_STATUS_COND k) = 0 ∧ u.get (IW_STATUS_STATE k) = (if s.cold then iwIdle else iwLearn)) ∧
  (∀ (s : State) (m : Master) (k v : Nat), s.canonical = true → k < 16 → v < 2 ^ 32 → v % 2 = 0 → s.takesWrite m (IW_CFG k) v = true →
    s.flag (IW_CFG_EN k) = true →
    Runs (.iwDisable m k v) s fun u =>
      u.flag (IW_CFG_EN k) = false ∧ u.get (IW_STATUS_COND k) = 0 ∧ u.get (IW_STATUS_STATE k) = iwIdle)

/-! ### Metering, records, saves and pulses (09) -/

/-- Blocks and intervals of metering: the oldest complete block of a lane is booked, once the results agree (R243); one that its deadline has
passed is marked and reported, once (R244); an interval boundary that has come is passed once, and not on a cold standby (R255). -/
def Obligations.BlocksAndIntervals : Prop :=
  (∀ (s : State) (n : Nat) (b : MeterBlock) (rest : List MeterBlock) (mismatch again : Bool), n < 256 → s.enginesOn = true →
    (s.laneMeter n).ready = b :: rest → (b.dual && mismatch) = false →
    let t := ((State.closeDue n b.start (s.laneMeter n).closes.length s).setMeter n fun m => { m with ready := rest }).deviceMet 11 b.late
    let v := t.bookBlock n b 0
    let v1 := (v.noteBooked n b.stop).digestItem 5 b.stop n ((v.energies n).flatMap (leBytes 8) ++ (v.laneMeter n).frac.flatMap (leBytes 4))
    let v2 := v1.digestItem 7 b.stop n ((List.range 8).flatMap fun p =>
      leBytes 4 (v1.word (PO_COUNT p)) ++ leBytes 4 (Store.get (fun _ => {}) v1.meter.pulses p).due.length)
    Runs (.blockBook n mismatch again) s fun u => u = v2.tryClose n) ∧
  (∀ (s : State) (n : Nat) (b : MeterBlock) (rest : List MeterBlock), n < 256 → s.enginesOn = true →
    (s.laneMeter n).ready = b :: rest → b.late = false → b.due + 500000 < s.jobMono →
    Runs (.meBlockDeadlineMiss n) s fun u =>
      u = (((s.setMeter n fun m => { m with ready := { b with late := true } :: rest }).count (meCnt n 2)).raise
        EV_ME_DEADLINE sevMajor n n).deviceMiss 11) ∧
  (∀ (s : State), s.enginesOn = true → s.cold = false →
    Runs .intervalBoundary s fun u =>
      u = if s.meter.boundary < s.lastBoundary s.jobTai then s.passBoundary (s.lastBoundary s.jobTai) else s)

/-- The commands on records and modes: LANE_RECORD_CLOSE on a lane that is able, outside the reserve and on no cold standby, has its
session close at the instant it takes effect, at the next TICK with a partner; on a lane that is not able it completes with E_STATE, in the
reserve with E_BUSY. METROLOGY_MODE to a mode that may be entered is audited and, without a partner, in force when it completes with the
old mode and the seal; to the mode that is in force it is entered in the order log of a primary with a partner and completes. -/
def Obligations.RecordCommands : Prop :=
  (∀ (s : State) (h : CmdHeader) (n : Nat) (context : List Byte), h.sq < 16 → n < 256 → s.serves h 0x20 = true →
    s.get CW_STATUS_ROLE ≠ 2 →
    Runs (.laneRecordClose h n context) s fun u =>
      u = if (s.laneMeter n).able = false then s.finish h 0x20 stState 24
        else if s.reserve = true then s.finish h 0x20 stBusy
        else
          let effect := if s.orderOn then s.nextTick else s.jobTai
          (s.orderLog (.command 0x20 n effect context)).sessionClose n effect context (some (h.sq, h.tag))) ∧
  (∀ (s : State) (h : CmdHeader) (mode : Nat), h.sq < 16 → s.serves h 0x21 = true → s.get CW_STATUS_ROLE ≠ 2 →
    mode = s.get ME_G_STATUS_MODE → mode ≤ 3 →
    Runs (.metrologyMode h mode) s fun u =>
      u = (s.orderLog (.command 0x21 0 s.nextTick [BitVec.ofNat 8 mode])).finish h 0x21 stOk 0 mode (s.word LA_SEAL)) ∧
  (∀ (s : State) (h : CmdHeader) (mode : Nat), h.sq < 16 → s.serves h 0x21 = true → s.get CW_STATUS_ROLE ≠ 2 →
    mode ≠ s.get ME_G_STATUS_MODE → (mode = 3 ∨ (mode = 2 ∧ s.get ME_G_STATUS_MODE = 0) ∨
      (mode = 0 ∧ (s.get ME_G_STATUS_MODE = 1 → s.meter.configLoaded = true))) → s.auditFull = false → s.orderOn = false →
    let t := (s.modeAudit (s.get ME_G_STATUS_MODE) mode).modeTo mode
    Runs (.metrologyMode h mode) s fun u => u = t.finish h 0x21 stOk 0 (s.get ME_G_STATUS_MODE) (t.word LA_SEAL))

/-- Ledger records: the oldest unsigned body that stands filled is signed with the ledger key (R257); a body unsigned too long after its
close is marked and reported; the oldest record not placed goes, signed, into its delivery ring when that has room, and a primary tells its
partner (R258, R371); an acknowledgement frees what it covers, and RESEND offers the rest again. -/
def Obligations.LedgerRecords : Prop :=
  (∀ (s : State) (b : QueuedBody), s.enginesOn = true → s.drives = true → s.flag ME_G_CFG_LEDGER_EN = true → s.unsigned = some b →
    b.filled = true →
    let p := s.slhSignature 4 (s.keyOf (s.get ME_G_CFG_LEDGER_SLOT)) (ledgerBytes b.body)
    Runs .ledgerSign s fun u => u = ((p.2.setBody b.body.queueSeq fun _ => { b with signature := some p.1 }).deviceMet 13 b.late).showQueue) ∧
  (∀ (s : State) (b : QueuedBody), s.enginesOn = true → s.drives = true →
    (s.meter.queue.find? fun b => b.signature.isNone && !b.late && decide (b.closedAt + 5000000000 < s.jobMono)) = some b →
    Runs .signDeadlineMiss s fun u =>
      u = (((s.setBody b.body.queueSeq fun b => { b with late := true }).count (meGCnt 1)).raise EV_ME_SIGN_LATE sevMajor).deviceMiss 13) ∧
  (∀ (s : State) (b : QueuedBody) (sig : List Byte), s.enginesOn = true → s.drives = true → s.flag FU_STATUS_SWITCHING = false →
    (s.meter.queue.find? fun b => !b.placed) = some b → b.signature = some sig →
    s.drFits (s.get ME_G_CFG_DLV_RING) (ledgerBytes b.body ++ sig).length = true →
    let t := (s.drPlace (s.get ME_G_CFG_DLV_RING) 3 (bit b.resent) (ledgerBytes b.body ++ sig)).setBody b.body.queueSeq fun b =>
      { b with placed := true }
    Runs .ledgerPlace s fun u =>
      u = if t.get CW_STATUS_ROLE = 1 then t.cwSend 6 (noteBytes 1 b.body.queueSeq (sha256 (ledgerBytes b.body))) else t) ∧
  (∀ (s : State) (m : Master) (v : Nat), v < 2 ^ 32 → s.takesWrite m ME_LEDGER_ACK_HI v = true →
    Runs (.ledgerAck m v) s fun u => u = ((s.stored m ME_LEDGER_ACK_HI v).ackWritten).recorded m ME_LEDGER_ACK_HI v) ∧
  (∀ (s : State) (m : Master) (v : Nat), v < 2 ^ 32 → v % 2 = 1 → s.takesWrite m ME_LEDGER_CTRL v = true →
    Runs (.ledgerResend m v) s fun u => u = ((s.stored m ME_LEDGER_CTRL v).ledgerAgain).recorded m ME_LEDGER_CTRL v) ∧
  (∀ (s : State) (m : Master) (n v : Nat), n < 256 → v < 2 ^ 32 → v % 2 = 0 → s.takesWrite m (ME_CFG n) v = true →
    s.flag (ME_CFG_EN n) = true →
    Runs (.meterDisable m n v) s fun u => u = ((s.stored m (ME_CFG n) v).meterEnd n).recorded m (ME_CFG n) v)

/-- Saves of the core record (R247): the periodic snapshot is taken when it is due, outside HOLDUP and on no cold standby, with the next
SAVE_SEQ; writing its header commits the oldest save and fires source 218; a save not committed within 200 ms is marked and reported. A
pulse that is due starts, is counted, and shows in the backlog (R260); it ends when its width has expired; the sentinel takes its channels
in BATTERY while it is enabled (R262); a tamper input that becomes active is shown and logged, and outside BATTERY audited and raised
(R264). -/
def Obligations.SavesAndPulses : Prop :=
  (∀ (s : State), s.enginesOn = true → s.holdup = false → s.cold = false → s.meter.saveDue ≤ s.jobMono →
    Runs .saveSnapshot s fun u =>
      u.meter.lastSeq = s.meter.lastSeq + 1 ∧ u.meter.saveDue = (s.jobMono / 1000000000 + 1) * 1000000000 ∧
      ∃ v, u.meter.saving = s.meter.saving ++ [v] ∧ v.seq = s.meter.lastSeq + 1 ∧ v.cause = 0 ∧ v.mono = s.jobMono ∧
        v.mode = s.get ME_G_STATUS_MODE ∧ v.sealNo = s.word LA_SEAL) ∧
  (∀ (s : State) (v : CoreSave) (rest : List CoreSave), s.coreOn = true → s.meter.saving = v :: rest →
    Runs .saveCommit s fun u =>
      u = (State.setPair (State.deviceMet { s with meter := { s.meter with
        saving := rest, saves := s.meter.saves ++ [v], lastSave := some v.mono } } 12 v.late) ME_SAVE_SEQ_LO ME_SAVE_SEQ_HI v.seq).fire 218) ∧
  (∀ (s : State) (v : CoreSave), s.coreOn = true →
    (s.meter.saving.find? fun v => !v.late && decide (v.mono + 200000000 < s.jobMono)) = some v →
    Runs .saveDeadlineMiss s fun u =>
      u = ((State.count { s with meter := { s.meter with saving := s.meter.saving.map fun o =>
        if o.seq = v.seq then { o with late := true } else o } } (meGCnt 0)).raise EV_ME_SAVE_LATE sevMajor).deviceMiss 12) ∧
  (∀ (s : State) (p t : Nat) (rest : List Nat), s.canonical = true → p < 8 → s.enginesOn = true → s.flag (PO_CFG_EN p) = true →
    (s.pulse p).due = t :: rest → (s.pulse p).high = none → t ≤ s.jobMono →
    Runs (.pulseEmit p) s fun u =>
      (u.pulse p).due = rest ∧ (u.pulse p).high = some (s.jobMono + s.get (PO_CFG_WIDTH p) * 1000) ∧
      u.word (PO_COUNT p) = (s.word (PO_COUNT p) + 1) % 2 ^ 32 ∧ u.get (PO_STATUS_BACKLOG p) = rest.length % 65536 ∧
      u.out = s.out ++ (if s.drives then [.pulse p true] else [])) ∧
  (∀ (s : State) (p t : Nat), p < 8 → s.enginesOn = true → (s.pulse p).high = some t → t ≤ s.jobMono →
    let t := s.setPulse p { s.pulse p with high := none }
    Runs (.pulseWidthEnd p) s fun u => u = if s.drives then t.emit (.pulse p false) else t) ∧
  (∀ (s : State) (rms : List Nat), rms.length = 4 → s.power.phase = .battery → s.flag CAL_SENT_CFG_EN = true →
    Runs (.sentinelSample rms) s fun u => u = s.forEach 4 fun i s => s.sentinelChannel i (rms.getD i 0)) ∧
  (∀ (s : State) (pin : Nat) (level : Bool), pin < 2 → s.power.phase ≠ .unpowered → s.flag ⟨CAL_TAMP_CFG, pin, pin⟩ = true →
    level = !s.flag ⟨CAL_TAMP_CFG, 2 + pin, 2 + pin⟩ → s.flag ⟨CAL_TAMP_STAT, 8 + pin, 8 + pin⟩ = false →
    let t := ((s.put ⟨CAL_TAMP_STAT, 8 + pin, 8 + pin⟩ 1).put ⟨CAL_TAMP_STAT, pin, pin⟩ 1).outageLog 4 pin 0 0
    Runs (.tamperInput pin level) s fun u =>
      u = if s.power.phase = .battery then t
        else (t.auditAdd { type := 10, master := 12, detail := [pin] }).raise EV_ME_TAMPER sevLegal pin pin)

/-! ### Capture and event log (10) -/

/-- Capture units at work (R273 to R281): the next row of an enabled unit, once each of its samples has arrived or missed its deadline, is
made of the samples held, after the updates that wait are judged; in PRE, ARMED or HOLDOFF it joins the pre-trigger rows, in POST it joins
the record, which closes at its last row. The oldest update that waits is judged by every unit, and the units it triggers enter the vector
together; a hold-off of time ends; a record past the instant it is due complete is marked and reported, once. -/
def Obligations.CaptureEvents : Prop :=
  (∀ (s : State) (k : Nat) (words : List (Option Word)), k < 16 → s.enginesOn = true → s.cuOn k = true → s.rowComplete k = true →
    let t := s.drainMatches
    let row := t.makeRow k (t.rowWords k)
    let flags := if (t.rowWords k).contains none then 64 else 0
    let t1 := t.setCu k fun v => { v with lastRow := some row.time.tai }
    let t2 := t1.setCurRec k fun r => { r with rows := r.rows ++ [row], post := r.post + 1, flags := r.flags ||| flags }
    (t1.cuState k = cpPost → t2.get (CP_POST_POST k) ≤ (t2.curRec k).post →
      Runs (.captureRow k words) s fun u => u = ((t2.closeCapture k 0).afterClose k).unitConds t2.now) ∧
    (t1.cuState k = cpPost → (t2.curRec k).post < t2.get (CP_POST_POST k) → Runs (.captureRow k words) s fun u => u = t2) ∧
    (t1.cuState k = cpPre ∨ t1.cuState k = cpArmed ∨ t1.cuState k = cpHoldoff →
      Runs (.captureRow k words) s fun u => u = ((t1.preRow k row flags).armIfReady k).unitConds t1.now)) ∧
  (∀ (s : State) (v : VecUpdate) (rest : List VecUpdate), s.enginesOn = true → s.capture.forUnits = v :: rest →
    Runs .captureMatch s fun u =>
      u = (State.forEach { s with capture := { s.capture with forUnits := rest } } 16 fun k s => s.matchUnit v k).unitConds v.time) ∧
  (∀ (s : State) (k t : Nat), k < 16 → s.enginesOn = true → (s.cu k).holdoffEnds = some t → t ≤ s.time.mono →
    Runs (.captureHoldoffEnd k) s fun u => u = (s.holdoffOver k).unitConds s.now) ∧
  (∀ (s : State) (k : Nat), k < 16 → s.enginesOn = true → s.cuState k = cpPost → (s.curRec k).flags &&& 16 = 0 →
    s.recordDue k < s.jobTai →
    Runs (.captureDeadlineMiss k) s fun u =>
      u = (((s.setCurRec k fun r => { r with flags := r.flags ||| 16 }).count (cpCnt k 3)).raise EV_CP_DEADLINE sevMajor k k).deviceMiss 14)

/-- Control of capture units: a write of CP_CTRL controls the unit by its bits, whichever of them is meant, and CAPTURE_ARM does the same by
its action, on an enabled unit that has a free slot if it is armed in IDLE. CAPTURE_READ of a complete record whose rows and buffer fit
begins, and the record is not reused meanwhile; LOG_READ with room for its entries begins (R276, R282, R292). -/
def Obligations.CaptureCommands : Prop :=
  (∀ (s : State) (m : Master) (k v : Nat), k < 16 → v < 2 ^ 32 → s.takesWrite m (CP_CTRL k) v = true →
    let t := ((s.stored m (CP_CTRL k) v).cuControl k (BitVec.ofNat 32 v)).recorded m (CP_CTRL k) v
    Runs (.cpArm m k v) s (fun u => u = t) ∧ Runs (.cpDisarm m k v) s (fun u => u = t) ∧
    Runs (.cpTrig m k v) s (fun u => u = t) ∧ Runs (.cpReleaseAll m k v) s (fun u => u = t)) ∧
  (∀ (s : State) (h : CmdHeader) (k action : Nat), h.sq < 16 → s.serves h 0x30 = true → k < 16 → action < 4 → s.cuOn k = true →
    (action = 0 → s.cuState k = cpIdle → s.nextSlot k ≠ none) →
    let t := (s.cuControl k (BitVec.ofNat 32 ([1, 2, 4, 8].getD action 0))).storeArm k (action == 0) (action == 1)
    Runs (.captureArm h k action) s fun u => u = t.finish h 0x30 stOk 0 (t.word (CP_RSEQ k)) (t.cuState k)) ∧
  (∀ (s : State) (h : CmdHeader) (k flags slot first rows dst dstLen : Nat), h.sq < 16 → s.serves h 0x31 = true → k < 16 → flags < 4 →
    slot < s.cuSlots k → (s.slotRec k slot).state = 3 → first + rows ≤ (s.slotRec k slot).rows.length →
    (s.slotRec k slot).readSize first rows (flags.testBit 1) ≤ dstLen →
    let n := readRows (s.slotRec k slot) first rows
    Runs (.captureRead h k flags slot first rows dst dstLen) s fun u =>
      u = (s.setCu k fun v => { v with reading := v.reading ++ [slot] }).startJob h 0x31
        (.captureRead k slot first (if flags.testBit 1 then 0 else n) dst (flags.testBit 0) (flags.testBit 1))
        (if flags.testBit 1 then 1 else max 1 n) (s.slotRec k slot).rowSize) ∧
  (∀ (s : State) (h : CmdHeader) (fromSeq dst dstLen most minSev src : Nat), h.sq < 16 → s.serves h 0x40 = true → minSev < 8 → src < 2 →
    64 * most ≤ dstLen →
    let lowest := (s.logEntries (src == 1)).foldl (fun a e => min a e.seq) s.peat.nextSeq
    Runs (.logRead h fromSeq dst dstLen most minSev src) s fun u =>
      u = s.startJob h 0x40 (.logRead fromSeq dst minSev (src == 1) (decide (fromSeq < lowest))) most 64)

/-- The event log (R286 to R290): the writer folds the oldest queued occurrence into the window it falls in, else makes an entry of it, and a
held LEGAL occurrence takes the place freed; the windows that have ended close; an entry due a tail copy is marked, and the tail's count
advances. -/
def Obligations.EventLog : Prop :=
  (∀ (s : State) (o : Occurrence) (rest : List Occurrence), s.coreOn = true → s.peat.queue = o :: rest →
    let p := match s.peat.held with
      | [] => { s.peat with queue := rest }
      | h :: hs => { s.peat with queue := rest ++ [h], held := hs }
    Runs .peatEntryWrite s fun u =>
      u = match p.windowFor o with
        | some w => (State.peatFold { s with peat := p } w o).showPeat
        | none => (State.peatCreate { s with peat := p } o).showPeat) ∧
  (∀ (s : State), s.coreOn = true →
    Runs .foldWindowClose s fun u =>
      u = State.showPeat { s with peat := (s.peat.windows.filter fun w => decide (w.ends ≤ s.time.mono)).foldl (fun p w => p.closeWindow w) s.peat }) ∧
  (∀ (s : State) (pos : Nat) (rest : List Nat), s.canonical = true → s.coreOn = true → s.peat.toCopy = pos :: rest →
    Runs .tailCopy s fun u =>
      u.word PL_TAIL_SEQ = (s.word PL_TAIL_SEQ + 1) % 2 ^ 32 ∧ u.peat.toCopy = rest ∧ (u.peat.at pos).inTail = true ∧
      u.peat.queue = s.peat.queue)

/-! ### Host interface (11) -/

/-- Doorbells and rings (R296, R303): a doorbell write that goes through moves its ring's tail, head or read count; a ring enabled starts
empty, a submission ring IDLE, or BUSY while a command of it has not posted; one disabled keeps nothing of an error, and is DISABLED once no
command of it is out. -/
def Obligations.Rings : Prop :=
  (∀ (s : State) (m : Master) (q v : Nat), s.canonical = true → q < 16 → v < 2 ^ 32 → s.takesWrite m (HI_SQ_DB q) v = true →
    Runs (.sqDoorbell m q v) s fun u => u.get (HI_SQ_STAT_TAIL q) = v % 65536 ∧ u.get (HI_SQ_HEAD_HEAD q) = s.get (HI_SQ_HEAD_HEAD q)) ∧
  (∀ (s : State) (m : Master) (q v : Nat), q < 16 → v < 2 ^ 32 → s.takesWrite m (HI_CQ_DB q) v = true →
    let t := s.stored m (HI_CQ_DB q) v
    Runs (.cqDoorbell m q v) s fun u =>
      u = { t with host := { t.host with cqHead := Store.set (fun _ => 0) t.host.cqHead q (v % 65536) } }) ∧
  (∀ (s : State) (m : Master) (r v : Nat), s.canonical = true → r < 8 → v < 2 ^ 32 → s.takesWrite m (HI_DR_DB r) v = true →
    Runs (.drDoorbell m r v) s fun u => u.word (HI_DR_RP r) = v ∧ u.word (HI_DR_WP r) = s.word (HI_DR_WP r)) ∧
  (∀ (s : State) (m : Master) (q v : Nat), s.canonical = true → q < 16 → v < 2 ^ 32 → v % 2 = 1 →
    (s.takesWrite m (HI_SQ_CFG q) v = true → s.flag (HI_SQ_CFG_EN q) = false →
      Runs (.ringEnable m (HI_SQ_CFG q) v) s fun u =>
        u.flag (HI_SQ_CFG_EN q) = true ∧ u.get (HI_SQ_HEAD_HEAD q) = 0 ∧ u.get (HI_SQ_STAT_TAIL q) = 0 ∧ u.get (HI_SQ_STAT_ERR q) = 0 ∧
        u.get (HI_SQ_STAT_STATE q) = (if s.ringStarted q then sqBusy else sqIdle)) ∧
    (s.takesWrite m (HI_CQ_CFG q) v = true → s.flag (HI_CQ_CFG_EN q) = false →
      Runs (.ringEnable m (HI_CQ_CFG q) v) s fun u =>
        u.flag (HI_CQ_CFG_EN q) = true ∧ u.get (HI_CQ_TAIL_TAIL q) = 0 ∧ u.get (HI_CQ_TAIL_PHASE q) = 1) ∧
    (q < 8 → s.takesWrite m (HI_DR_CFG q) v = true → s.flag (HI_DR_CFG_EN q) = false →
      Runs (.ringEnable m (HI_DR_CFG q) v) s fun u =>
        u.flag (HI_DR_CFG_EN q) = true ∧ u.word (HI_DR_WP q) = 0 ∧ u.word (HI_DR_RP q) = 0)) ∧
  (∀ (s : State) (m : Master) (q v : Nat), s.canonical = true → q < 16 → v < 2 ^ 32 → v % 2 = 0 →
    (s.takesWrite m (HI_SQ_CFG q) v = true → s.flag (HI_SQ_CFG_EN q) = true →
      Runs (.ringDisable m (HI_SQ_CFG q) v) s fun u =>
        u.flag (HI_SQ_CFG_EN q) = false ∧ u.get (HI_SQ_STAT_ERR q) = 0 ∧
        u.get (HI_SQ_STAT_STATE q) = (if s.ringStarted q then sqBusy else sqDisabled)) ∧
    (s.takesWrite m (HI_CQ_CFG q) v = true → Runs (.ringDisable m (HI_CQ_CFG q) v) s fun u => u.flag (HI_CQ_CFG_EN q) = false) ∧
    (q < 8 → s.takesWrite m (HI_DR_CFG q) v = true → Runs (.ringDisable m (HI_DR_CFG q) v) s fun u => u.flag (HI_DR_CFG_EN q) = false))

/-- Commands of the rings (R297 to R309): a ready ring whose turn it is starts the command it fetches, or goes into ERROR when the fetch
fails; a stepped command does a step after its first, and ends with its last; a step that overruns is reported; a completion that waits is
written when its ring has room. NOP completes; a table or a set that nothing is against is written; a table is read. -/
def Obligations.RingCommands : Prop :=
  (∀ (s : State) (q op : Nat) (tag : Word), s.canonical = true → q < 16 → s.coreOn = true → s.ringTurn q = true → op ∈ opcodes →
    Runs (.commandStart q .ok op tag) s fun u =>
      u.get (HI_SQ_HEAD_HEAD q) = (s.get (HI_SQ_HEAD_HEAD q) + 1) % s.sqSize q % 65536 ∧ u.get (HI_SQ_STAT_STATE q) = sqBusy ∧
      u.host.started = s.host.started ++ [(q, op)] ∧ u.host.nextRing = (q + 1) % 16) ∧
  (∀ (s : State) (q op : Nat) (tag : Word), q < 16 → op < 256 → s.coreOn = true → s.ringTurn q = true →
    Runs (.commandStart q .failed op tag) s fun u =>
      u = (((((s.turnTaken q).put (HI_SQ_STAT_STATE q) sqError).put (HI_SQ_STAT_ERR q) 1).count (hiCnt 1)).raise EV_HI_RING_ERR sevMajor q q)) ∧
  (∀ (s : State) (q : Nat) (j : Job), q < 16 → s.coreOn = true → (s.host.jobs.find? fun j => j.sq == q) = some j → j.waits = false →
    s.ringTurn q = true → s.slotBlocked j = false → (s.slhWork j.kind = true → s.ledgerFirst = false) → j.steps ≠ 0 →
    (∀ t, j.deadline = some t → s.time.mono < t) → s.integ.bad = [] →
    let hi := min j.all (j.done + j.perStep)
    let w := (s.turnTaken q).workUnits j j.done hi
    let k := { w.2 with done := min w.2.all hi, steps := w.2.steps + 1 }
    let t := (w.1.setJob k).deviceMet 15 false
    Runs (.commandStep q true) s fun u =>
      u = if k.done = k.all then t.jobEnds k
        else match k.progEvery with
          | some n =>
            if k.steps % n = 0 then t.progress {
              tag := k.tag, sq := q, opcode := k.opcode, status := stProgress, res0 := k.done, res1 := k.all, steps := k.steps, final := false }
            else t
          | none => t) ∧
  (∀ (s : State) (q : Nat), q < 16 → s.coreOn = true → s.ringStarted q = true →
    Runs (.stepDeadlineMiss q) s fun u => u = ((s.count (hiCnt 2)).raise EV_HI_STEP_LATE sevMajor q q).deviceMiss 15) ∧
  (∀ (s : State) (c : Completion), s.coreOn = true →
    (s.host.waiting.find? fun c => decide (0 < s.cqFree (s.cqOf c.sq)) && s.dmaOn) = some c →
    Runs .completionPost s fun u =>
      u = (State.cqWrite { s with host := { s.host with waiting := s.host.waiting.erase c } } c).ringDone c.sq) ∧
  (∀ (s : State) (h : CmdHeader), h.sq < 16 → s.serves h 0x01 = true → Runs (.nop h) s fun u => u = s.finish h 0x01 stOk) ∧
  (∀ (s : State) (h : CmdHeader) (entries : List (Nat × Nat)), h.sq < 16 → s.serves h 0x02 = true → entries ≠ [] → entries.length ≤ 4096 →
    (s.trySet .host entries).bad = none → ((s.trySet .host entries).legal = [] ∨ s.auditFull = false) →
    Runs (.tableSet h 0 0 entries true) s fun u =>
      u = (s.runSet .host entries (s.trySet .host entries).legal).finish h 0x02 stOk 0 entries.length) ∧
  (∀ (s : State) (h : CmdHeader) (t i : Nat) (entries : List (Nat × Nat)), h.sq < 16 → s.serves h 0x02 = true → 0 < t →
    tableField t i entries.length = none → s.followsPrimary = false → s.orderOn = false →
    let vs := entries.map fun e => e.1 + e.2 * 2 ^ 32
    s.ahead.tableBad t i vs = none →
    Runs (.tableSet h t i entries true) s fun u => u = (s.acceptTable t i vs).finish h 0x02 stOk 0 vs.length) ∧
  (∀ (s : State) (h : CmdHeader) (t i dst dstLen : Nat), h.sq < 16 → s.serves h 0x03 = true → 0 < t → t ≤ 4 → i < (tableShape t).2.2 →
    (tableBytes t (s.table t i)).length ≤ dstLen → s.dmaOn = true →
    let bytes := tableBytes t (s.table t i)
    Runs (.readTable h t i dst dstLen) s fun u => u = (s.emit (.hostWrite dst bytes)).finish h 0x03 stOk 0 bytes.length (s.table t i).length)

/-- Messages, heartbeat and the resets of the interface: a coalesced vector of an enabled ring with IEN at 1 is signalled COAL_US after its
first entry (R312); a pending vector goes out when it is unmasked; HI_HB restarts the heartbeat, whose expiry raises HI_HB_LOST and asks for
a class W reset (R313, R384); configuration space follows the host while the link is up; a class F reset loses the commands in flight and no
other memory; PERST holds the link down, and its release lets it train to a speed and a width the partner decides (R295, R314, R426). -/
def Obligations.HostInterface : Prop :=
  (∀ (s : State) (src : Nat), src < 24 → s.coreOn = true →
    let c := Store.get (fun _ => {}) s.host.coalesce src
    (s.reg (coalesceCfg src)).field 0 0 = 1 → (s.reg (coalesceCfg src)).field 6 6 = 1 → 0 < c.count → c.first + (s.reg (coalesceCfg src)).field 30 21 * 1000 ≤ s.time.mono →
    Runs (.msixCoalesceTimer src) s fun u =>
      u = State.message { s with host := { s.host with coalesce := Store.set (fun _ => {}) s.host.coalesce src {} } }
        ((s.reg (coalesceCfg src)).field 12 7)) ∧
  (∀ (s : State) (m : Master) (v value : Nat), s.canonical = true → v < 64 → value < 2 ^ 32 → value % 2 = 0 →
    s.takesWrite m (MSIX_CTRL v) value = true →
    s.flag ⟨MSIX_PBA (v / 32), v % 32, v % 32⟩ = true → s.flag HI_STATUS_MSIX_EN = true → s.dmaOn = true →
    Runs (.msixUnmask m v value) s fun u => u.flag ⟨MSIX_PBA (v / 32), v % 32, v % 32⟩ = false ∧ u.out = s.out ++ [.msix v]) ∧
  (∀ (s : State) (m : Master) (v : Nat), v < 2 ^ 32 → s.takesWrite m HI_HB v = true →
    Runs (.hbWrite m v) s fun u =>
      u.host.hbDue = (if s.get HI_HB_CFG_TIMEOUT_MS = 0 then none else some (s.time.mono + s.get HI_HB_CFG_TIMEOUT_MS * 1000000)) ∧
      u.host.hbTimeout = s.get HI_HB_CFG_TIMEOUT_MS) ∧
  (∀ (s : State) (t : Nat), s.enginesOn = true → s.host.hbDue = some t → t ≤ s.time.mono → s.holdup = false → s.flag FU_STATUS_SWITCHING = false →
    Runs .hbTimeout s fun u =>
      u = State.requestWarm (State.raise { s with host := { s.host with hbDue := none } } EV_HI_HB_LOST sevCritical) 4) ∧
  (∀ (s : State) (d3hot msix busMaster : Bool), s.canonical = true → s.coreOn = true → s.get HI_STATUS_SPEED ≠ 0 →
    Runs (.configSpaceWrite d3hot msix busMaster) s fun u =>
      u.host.d3hot = d3hot ∧ u.flag HI_STATUS_MSIX_EN = msix ∧ u.flag HI_STATUS_BUS_MASTER = busMaster ∧
      u.get HI_STATUS_SPEED = s.get HI_STATUS_SPEED) ∧
  (∀ (s : State), s.canonical = true → s.coreOn = true →
    Runs .functionLevelReset s fun u =>
      u.host.started = [] ∧ u.host.jobs = [] ∧ u.host.waiting = [] ∧ u.flag HI_STATUS_BUS_MASTER = false ∧
      u.get GL_STATUS_LAST_RESET = 5 ∧ u.mem = s.mem ∧ u.meter.audit = s.meter.audit) ∧
  (∀ (s : State), s.canonical = true → s.coreOn = true →
    Runs .perstAssert s fun u =>
      u.host.perst = true ∧ u.get HI_STATUS_SPEED = 0 ∧ u.get HI_STATUS_WIDTH = 0 ∧ u.host.started = [] ∧ u.host.jobs = []) ∧
  (∀ (s : State), s.canonical = true → s.coreOn = true → s.host.perst = true →
    Runs .perstRelease s fun u =>
      u.host.perst = false ∧ 1 ≤ u.get HI_STATUS_SPEED ∧ u.get HI_STATUS_SPEED ≤ 4 ∧ u.get HI_STATUS_WIDTH ∈ [1, 2, 4])

/-! ### Cores, threads and monitors (12) -/

/-- The scheduler's register writes, each as the master that gets its write through sees it. -/
def Obligations.SchedulerWrites : Prop :=
  (∀ (s : State) (m : Master) (t v : Nat), s.canonical = true → t < 512 → v < 2 ^ 32 → s.takesWrite m (SC_THR_FLAGS t) v = true →
    Runs (.threadFlagSet m t v) s fun u => u = s.setFlags t v) ∧
  (∀ (s : State) (m : Master) (t v : Nat), s.canonical = true → t < 512 → v < 2 ^ 32 → s.takesWrite m (SC_THR_FCLR t) v = true →
    Runs (.threadFlagClear m t v) s fun u =>
      u.word (SC_THR_FLAGS t) = s.word (SC_THR_FLAGS t) - (s.word (SC_THR_FLAGS t) &&& v) ∧ u.sched = s.sched) ∧
  (∀ (s : State) (m : Master) (t v : Nat), s.canonical = true → t < 512 → v < 2 ^ 32 → v % 2 = 1 → s.takesWrite m (SC_THR_WAIT t) v = true →
    s.get (SC_THR_STAT_STATE t) = thrRunning →
    let w : ThreadWait := ⟨s.word (SC_THR_MASK t), v / 2 % 2 == 1, v / 4 % 2 == 1⟩
    Runs (.threadWait m t v) s fun u =>
      if w.met (s.word (SC_THR_FLAGS t)) then
        u.get (SC_THR_STAT_STATE t) = thrRunning ∧ u.word (SC_THR_FLAGS t) = w.leave (s.word (SC_THR_FLAGS t)) ∧ u.sched = s.sched
      else
        u.get (SC_THR_STAT_STATE t) = thrWaiting ∧ u.word (SC_THR_FLAGS t) = s.word (SC_THR_FLAGS t) ∧
        Store.get (fun _ => none) u.sched.waits t = some w) ∧
  (∀ (s : State) (m : Master) (t v : Nat), s.canonical = true → t < 512 → v < 2 ^ 32 → v % 2 = 1 → s.takesWrite m (SC_THR_CFG t) v = true →
    s.get (SC_THR_CFG_EN t) = 0 →
    Runs (.threadEnable m t v) s fun u =>
      u.get (SC_THR_CFG_EN t) = 1 ∧ u.get (SC_THR_STAT_STATE t) = thrReady ∧ u.sched.ready = s.sched.ready ++ [t]) ∧
  (∀ (s : State) (m : Master) (t v : Nat), s.canonical = true → t < 512 → v < 2 ^ 32 → v % 2 = 0 → s.takesWrite m (SC_THR_CFG t) v = true →
    s.get (SC_THR_CFG_EN t) = 1 →
    Runs (.threadDisable m t v) s fun u =>
      u.get (SC_THR_CFG_EN t) = 0 ∧ u.get (SC_THR_STAT_STATE t) = thrDisabled ∧ ¬ t ∈ u.sched.ready ∧
      u.word (SC_THR_FLAGS t) = s.word (SC_THR_FLAGS t)) ∧
  (∀ (s : State) (m : Master) (c t v : Nat), s.canonical = true → c < 8 → v < 2 ^ 32 → v / 2 % 2 = 1 → s.takesWrite m (SC_CORE_CTRL c) v = true →
    (4 ≤ c → v % 2 = s.get (SC_CORE_CTRL_RUN c) ∧ v % 2 = 1) → s.currentRunning c = some t →
    Runs (.coreYield m c v) s fun u => u.get (SC_THR_STAT_STATE t) = thrReady ∧ u.sched.ready = s.sched.ready ++ [t]) ∧
  (∀ (s : State) (m : Master) (c v : Nat), s.canonical = true → 4 ≤ c → c < 8 → v < 2 ^ 32 → v % 4 = 1 → s.takesWrite m (SC_CORE_CTRL c) v = true →
    s.get (SC_CORE_CTRL_RUN c) = 0 → s.sched.customerCores.contains c = true →
    Runs (.coreRun m c v) s fun u => u.get (SC_CORE_CTRL_RUN c) = 1 ∧ u.get (SC_CORE_STAT_STATE c) = 1) ∧
  (∀ (s : State) (m : Master) (e : Nat), e < 32 → s.takesWrite m SC_SWEVT (2 ^ e) = true →
    Runs (.softwareEvent m (2 ^ e)) s fun u => u = (s.setWord SC_SWEVT 0).fire (168 + e))

/-- What the scheduler does on its own: claims, traps, timers, and the due times of thread monitors. -/
def Obligations.SchedulerEvents : Prop :=
  (∀ (s : State) (m : Master) (c t : Nat), s.canonical = true → s.coreOn = true → s.answers (SC_CORE_CLAIM c) = true → s.reaches m (SC_CORE_CLAIM c) = true → c < 8 → t < 512 →
    s.bestReady c = some t → s.currentRunning c = none →
    Runs (.coreClaim m c) s fun u =>
      u.get (SC_CORE_STAT_CUR c) = t ∧ u.flag (SC_CORE_STAT_CUR_VALID c) = true ∧ u.get (SC_THR_STAT_STATE t) = thrRunning ∧
      u.sched.ready = s.sched.ready.filter (· != t) ∧ u.flag (SC_CORE_STAT_MEIP c) = false ∧
      u.out = s.out ++ [.readData m (SC_CORE_CLAIM c) (BitVec.ofNat 32 (claimWord true false (s.get (SC_THR_CFG_PRIO t)) t))]) ∧
  (∀ (s : State) (c : Nat), s.coreOn = true → c < 8 → s.flag (SC_CORE_STAT_PREEMPT_HELD c) = true →
    Runs (.preemptTrap c) s fun u =>
      u = ((s.put (SC_CORE_STAT_PREEMPT_HELD c) 0).count (scCnt c 0)).emit (.trap c 0x8000000000000018)) ∧
  (∀ (s : State) (i d : Nat), s.coreOn = true → i < 16 → s.get (SC_TMR_CFG_BASE i) = 0 →
    Store.get (fun _ => none) s.sched.timers i = some d → d ≤ s.time.mono →
    Runs (.schedTimer i) s fun u => u = (s.timerSet i (some (d + s.get (SC_TMR_PERIOD_PERIOD i) * 1000))).fire (200 + i)) ∧
  (∀ (s : State) (i d : Nat), s.coreOn = true → i < 16 → s.get (SC_TMR_CFG_BASE i) = 1 →
    Store.get (fun _ => none) s.sched.timers i = some d → d ≤ s.time.tai →
    Runs (.schedTimer i) s fun u =>
      u = (s.timerSet i (some (taiTimerNext s.time.tai (s.get (SC_TMR_PERIOD_PERIOD i)) (s.get (SC_TMR_PHASE_PHASE i))))).fire (200 + i)) ∧
  (∀ (s : State) (m : Master) (d v : Nat), s.canonical = true → 64 ≤ d → d < 128 → 0 < v → v < 2 ^ 24 → s.takesWrite m (DL_ARM d) v = true →
    Runs (.dlArm m d v) s fun u =>
      Store.get (fun _ => []) u.sched.dues d = [s.time.mono + v * 1000] ∧ u.flag (DL_STAT_ARMED d) = true ∧ ¬ d ∈ u.sched.missed) ∧
  (∀ (s : State) (m : Master) (d v : Nat), s.canonical = true → 64 ≤ d → d < 128 → v < 2 ^ 32 → s.takesWrite m (DL_DUE_HI d) v = true →
    Runs (.dlDueArm m d v) s fun u =>
      Store.get (fun _ => []) u.sched.dues d = [(v * 2 ^ 32 + s.word (DL_DUE_LO d)) * 1000] ∧ u.flag (DL_STAT_ARMED d) = true) ∧
  (∀ (s : State) (m : Master) (d v due : Nat), s.canonical = true → 64 ≤ d → d < 128 → v = 1 → s.takesWrite m (DL_DONE d) v = true →
    Store.get (fun _ => []) s.sched.dues d = [due] →
    Runs (.dlDone m d v) s fun u =>
      if s.get (DL_CFG_MODE d) = 0 then u.flag (DL_STAT_ARMED d) = false ∧ u.flag (DL_STAT_OUTSTANDING d) = false
      else Store.get (fun _ => []) u.sched.dues d = [due + s.get (DL_PERIOD_PERIOD d) * 1000] ∧ u.flag (DL_STAT_ARMED d) = true) ∧
  (∀ (s : State) (d due : Nat), s.canonical = true → s.coreOn = true → 64 ≤ d → d < 128 →
    Store.get (fun _ => []) s.sched.dues d = [due] → due < s.time.mono → s.sched.missed.contains d = false → s.flag (DL_CFG_EN d) = true →
    Runs (.threadDeadlineMiss d) s fun u =>
      d ∈ u.sched.missed ∧ u.flag (DL_STAT_LAST_MISS d) = true ∧ u.word (DL_CNT d) = min (s.word (DL_CNT d) + 1) 0xffffffff ∧
      Store.get (fun _ => []) u.sched.dues d = [due])

/-! ### Key store and random generator (13) -/

/-- Key commands (R332 to R341) on a slot without a job, while DMA flows: an erase leaves the slot EMPTY with the next generation; a
generation that takes one step is applied at once, unless a ledger signature goes first, and a longer one runs in steps; a wrapped blob that
passes every check is written, with the next generation, by KEY_IMPORT into an EMPTY slot and by KEY_UPDATE into one that is not. -/
def Obligations.KeyCommands : Prop :=
  (∀ (s : State) (h : CmdHeader) (k pubDst pubLen : Nat), s.canonical = true → h.sq < 16 → s.serves h 0x50 = true → k < 256 →
    s.slotBusy k = false → s.dmaOn = true → s.generateBad k 0 = false → s.holdup = false →
    Runs (.keyGenerate h k 0 0 0 pubDst pubLen) s fun u =>
      u.get (KS_ATTR_ALG k) = 0 ∧ u.word (KS_GEN k) = ((s.slot k).cell.gen + 1) % 2 ^ 32 ∧ u.flag (KS_SLOT_STAT_VALID k) = false) ∧
  (∀ (s : State) (h : CmdHeader) (k alg usage dest pubDst pubLen : Nat), h.sq < 16 → s.serves h 0x50 = true →
    generateField k alg usage dest = none → publicSize alg usage ≤ pubLen → s.slotBusy k = false → s.dmaOn = true →
    s.generateBad k alg = false →
    let r := s.generateRun k alg usage dest pubDst
    Runs (.keyGenerate h k alg usage dest pubDst pubLen) s fun u =>
      u = if generateSteps alg usage = 1 ∧ s.ledgerBars (.keyGenerate k alg usage dest pubDst) = false then r.1.finish h 0x50 r.2.1 (if r.2.1 = stState then 24 else 0) r.2.2.1 r.2.2.2
        else s.startSlotJob h 0x50 (.keyGenerate k alg usage dest pubDst) (generateSteps alg usage)) ∧
  (∀ (s : State) (h : CmdHeader) (k wrap : Nat) (b : KeyBlob), h.sq < 16 → s.serves h 0x51 = true → 1 < k → k < 256 → wrap < 256 →
    s.wrapSlot wrap = true → s.slotWritten wrap = false → s.slotBusy k = false → s.dmaOn = true → s.inService k = false → s.keyAlg k = 0 →
    s.blobBad k wrap b = none → s.holdup = false →
    let t := s.keyWrite k b.alg b.usage b.dest (beNat (gcmStream 32 (s.keyOf wrap) b.iv b.ct))
    Runs (.keyImport h k wrap b) s fun u => u = t.finish h 0x51 stOk 0 (t.keyGen k) 0) ∧
  (∀ (s : State) (h : CmdHeader) (k wrap pubDst pubLen : Nat) (b : KeyBlob), h.sq < 16 → s.serves h 0x52 = true → 0 < k → k < 256 →
    wrap < 255 → (k = 1 → wrap = 1) → s.wrapSlot wrap = true → s.slotWritten wrap = false → s.slotBusy k = false → s.dmaOn = true → s.inService k = false →
    s.keyAlg k ≠ 0 → s.blobBad k wrap b = none → s.holdup = false →
    let t := s.keyWrite k b.alg b.usage b.dest (beNat (gcmStream 32 (s.keyOf wrap) b.iv b.ct))
    Runs (.keyUpdate h k wrap b pubDst pubLen) s fun u => u = t.finish h 0x52 stOk 0 (t.keyGen k) 0)

/-- Quotes, signatures and the random generator (R342 to R348): an HMAC quote is delivered at once and completes with the seal; a signature
with a signing slot and a verification with a verifying slot begin, in as many steps as the message and the parameter set take; the DRBG is
reseeded after 65,536 requests or 60 s; a health test that fails ends it, and signatures are then deterministic. -/
def Obligations.QuotesAndSignatures : Prop :=
  (∀ (s : State) (h : CmdHeader) (k dst dstLen challenge : Nat), h.sq < 16 → s.serves h 0x53 = true → k < 256 → s.attestSlot k = true →
    192 ≤ dstLen → s.slotBusy k = false → s.dmaOn = true →
    Runs (.attest h k 0 dst dstLen challenge) s fun u =>
      u = (s.emit (.hostWrite dst (s.quote k 0 challenge))).finish h 0x53 stOk 0 192 (s.word LA_SEAL)) ∧
  (∀ (s : State) (h : CmdHeader) (k dst dstLen : Nat) (message : List Byte), h.sq < 16 → s.serves h 0x54 = true → 0 < k → k < 256 →
    s.signSlot k = true → message ≠ [] → message.length ≤ 16777216 → signatureSize (s.keyAlg k) ≤ dstLen →
    Runs (.sign h k message dst dstLen) s fun u =>
      u = s.startSlotJob h 0x54 (.sign k none dst dstLen message) (signSteps (s.keyAlg k) message.length)) ∧
  (∀ (s : State) (h : CmdHeader) (k : Nat) (message sig : List Byte), h.sq < 16 → s.serves h 0x55 = true → k < 256 → s.verifySlot k = true →
    Runs (.verify h k message sig) s fun u => u = s.startSlotJob h 0x55 (.verify k none message sig) (1 + hashSteps message.length)) ∧
  (∀ (s : State), s.canonical = true → s.coreOn = true → s.flag SE_STATUS_DRBG_READY = true →
    (65536 ≤ s.keys.requests ∨ s.keys.reseedAt + 60000000000 ≤ s.time.mono) →
    Runs .drbgReseed s fun u =>
      u.keys.drbg = s.keys.drbg.map (drbgReseed (Config.entropy s.free)) ∧ u.keys.requests = 0 ∧ u.keys.reseedAt = s.time.mono ∧ u.word SE_RESEED = (s.word SE_RESEED + 1) % 2 ^ 32 ∧
      u.keys.slots = s.keys.slots) ∧
  (∀ (s : State), s.canonical = true → s.coreOn = true →
    Runs .entropyFail s fun u =>
      u.flag SE_STATUS_ES_FAIL = true ∧ u.flag SE_STATUS_DRBG_READY = false ∧ u.flag SE_STATUS_DETERMINISTIC = true ∧
      u.keys = { s.keys with drbg := none } ∧ u.word (SE_CNT 3) = min (s.word (SE_CNT 3) + 1) 0xffffffff)

/-! ### The pair (14) -/

/-- A causeway frame that is good and new is used as its TYPE says (R356): keepalives, order entries, fetches, copies of frames, digests,
ledger notes, health reports, state images and their acknowledgements, promotions, divergences, a JOIN, and the reply to one. -/
def Obligations.CausewayFrames : Prop :=
  ∀ (s : State) (c : CwHeader), s.enginesOn = true →
    (s.cwHears c false = true →
      (∀ role sync since, Runs (.cwKeepaliveRx c role sync since) s fun u => u = (s.cwHeard c).keepaliveRx role sync since) ∧
      (∀ first entries, Runs (.cwOrderRx c first entries) s fun u => u = (s.cwHeard c).orderRx first entries) ∧
      (∀ first count, Runs (.cwFetchRx c first count) s fun u => u = (s.cwHeard c).serveFetch first count) ∧
      (∀ index payload table, Runs (.cwFrameCopyRx c index payload table) s fun u => u = (s.cwHeard c).frameCopy index payload table) ∧
      (∀ window valid digests, Runs (.cwDigestRx c window valid digests) s fun u => u = (s.cwHeard c).digestRx window valid digests) ∧
      (∀ kind q hash, Runs (.cwLedgerNoteRx c kind q hash) s fun u => u = (s.cwHeard c).ledgerNote kind q hash) ∧
      (∀ role sync cfg ver, Runs (.cwHealthRx c role sync cfg ver) s fun u => u = (s.cwHeard c).healthRx cfg ver) ∧
      (∀ id offset len total image, Runs (.cwStateRx c id offset len total image) s fun u =>
        u = (s.cwHeard c).stateRx id offset len total image) ∧
      (∀ id offset, Runs (.cwStateAckRx c id offset) s fun u => u = (s.cwHeard c).stateAck id offset) ∧
      (∀ reason effect, Runs (.cwPromoteRx c reason effect) s fun u => u = (s.cwHeard c).promoteRx reason effect) ∧
      (∀ window classes result, Runs (.cwDivergeRx c window classes result) s fun u => u = (s.cwHeard c).divergeRx window classes result)) ∧
    (s.cwHears c true = true → ∀ role ver fw cfg, Runs (.cwJoinRx c role ver fw cfg) s fun u => u = (s.cwHeard c).joinRx c role fw cfg) ∧
    (s.cwHears c s.pair_.join.isSome = true →
      ∀ result id, Runs (.cwJoinReplyRx c result id) s fun u => u = (s.cwHeard c).joinReply c result id)

/-- What a primary and a standby do in time (R353 to R376): a TICK every 100 µs and the entries that wait for it, fetches of what is
lacking, held frames that no entry names, keepalives, health reports, digests, checkpoints, a lane or a partner that has fallen silent. -/
def Obligations.PairTimers : Prop :=
  (∀ (s : State), s.enginesOn = true → s.orderOn = true → s.order.tickAt + stampLag ≤ s.time.mono → Runs .orderTick s fun u => u = s.tickNow) ∧
  (∀ (s : State) (r : OrderRec) (rest : List OrderRec), s.enginesOn = true → s.order.unsent = r :: rest →
    (r.at_ + 20000 ≤ s.time.mono ∨ 511 ≤ (r :: rest).length) →
    Runs .orderFlush s fun u =>
      u = State.orderSend { s with order := { s.order with unsent := (r :: rest).drop 511 } } ((r :: rest).take 511)) ∧
  (∀ (s : State) (r : OrderRec) (rest : List OrderRec), s.enginesOn = true → s.order.waiting = r :: rest → s.following = true →
    s.time.mono < r.at_ + 200000000 → r.num = s.order.want → r.at_ + 2000000 ≤ s.time.mono →
    Runs .fetchTimer s fun u => u = s.fetch (2 * r.num) r.num 0) ∧
  (∀ (s : State), s.enginesOn = true →
    let old (h : HeldFrame) : Bool := decide (h.at_ + s.get CW_CFG_MATCH_MS * 1000000 ≤ s.time.mono)
    Runs .orderMatchExpire s fun u =>
      u = State.countN { s with order := { s.order with held := s.order.held.filter fun h => !old h } } (cwCnt 6) (s.order.held.filter old).length) ∧
  (∀ (s : State), s.enginesOn = true → s.role ≠ roleSolo → s.pair_.keepAt ≤ s.time.mono →
    let t := { s with pair_ := { s.pair_ with keepAt := (s.time.mono / 250000 + 1) * 250000 } }
    Runs .cwKeepaliveTx s fun u =>
      u = t.cwSend 1 (beBytes 1 s.role ++ beBytes 1 (s.get CW_STATUS_SYNC) ++ beBytes 2 0 ++ stampBE s.pair_.since)) ∧
  (∀ (s : State), s.enginesOn = true → s.pair_.healthAt ≤ s.time.mono →
    let t := { s with
      integ := { s.integ with health := (s.healthBytes :: s.integ.health).take 7680 }
      pair_ := { s.pair_ with healthAt := s.time.mono + 1000000000, cecc := 0 } }
    Runs .healthTx s fun u => u = (t.cwSend 7 s.healthBytes).cfgCompare) ∧
  (∀ (s : State), s.enginesOn = true → s.lockstep = true → s.digestDue s.pair_.window ≤ s.jobTai →
    let w := s.pair_.window
    let ds := (List.range 8).map fun c => s.classDigest w c
    let valid := if s.pair_.judgeFrom ≤ w * 10000000 then 255 else 0
    let t : State := { s with pair_ := { s.pair_ with
      window := w + 1
      items := s.pair_.items.filter fun i => decide (w < i.window)
      own := s.pair_.own ++ [⟨w, valid, ds, s.time.mono⟩] } }
    Runs .digestSend s fun u => u = ((t.deviceMet 16 (s.pair_.lateDigest == w + 1)).cwSend 5 (beBytes 8 w ++ beBytes 1 valid ++ beBytes 7 0 ++ ds.flatMap (beBytes 8))).compare) ∧
  (∀ (s : State), s.enginesOn = true → s.lockstep = true → s.digestDue s.pair_.window + 10000000 ≤ s.jobTai →
    s.pair_.lateDigest ≠ s.pair_.window + 1 →
    Runs .digestLate s fun u =>
      u = (State.count { s with pair_ := { s.pair_ with lateDigest := s.pair_.window + 1 } } (cwCnt 9)).deviceMiss 16) ∧
  (∀ (s : State) (o : WindowDigest) (rest : List WindowDigest), s.enginesOn = true → s.pair_.own = o :: rest →
    o.sentAt + 100000000 ≤ s.time.mono →
    Runs .digestMissing s fun u => u = State.count { s with pair_ := { s.pair_ with own := rest } } (cwCnt 8)) ∧
  (∀ (s : State), s.enginesOn = true → s.role = rolePrimary → s.flag CW_STATUS_PARTNER = true → s.pair_.partnerRole = roleCold →
    s.pair_.ckptAt ≤ s.time.mono →
    Runs .checkpointTx s fun u =>
      u = State.sendImage { s with pair_ := { s.pair_ with ckptAt := s.time.mono + s.get CW_CFG_CKPT_S * 1000000000 } } s.now) ∧
  (∀ (s : State) (l t t' : Nat), l < 2 → s.enginesOn = true → s.flag (CW_LANE_STAT_UP l) = true → s.pair_.laneLast.getD l none = some t →
    t + 3000000 ≤ s.time.mono → s.pair_.laneLast.getD (1 - l) none = some t' → s.time.mono < t' + 3000000 →
    Runs (.cwLaneSilence l) s fun u =>
      u = ((s.put ⟨CW_STATUS, 6 + l, 6 + l⟩ 0).put (CW_LANE_STAT_UP l) 0).raise EV_CW_LANE_DOWN sevWarning l l) ∧
  (∀ (s : State) (t : Nat), s.enginesOn = true → s.flag CW_STATUS_PARTNER = true → s.pair_.lastFrame = some t → t + 3000000 ≤ s.time.mono →
    s.role = rolePrimary →
    Runs .partnerSilence s fun u => u = ((s.put CW_STATUS_PARTNER 0).raise EV_CW_PARTNER_LOST sevMajor).stopLog)

/-- Roles (R351, R352, R367 to R378): the promotion agreed on takes place when its EFFECT is reached; a known-answer test of a divergence
is told to the partner and settled with its result; a path is shown proven or failed; a SOLO unit enabled is PRIMARY, a primary disabled
SOLO; a standby promotes by command, an IN_SYNC pair drills 20 ms after its last TICK, and
a unit that may join begins to, in one step, or over the checkpoint it is given. -/
def Obligations.PairRoles : Prop :=
  (∀ (s : State) (t reason : Nat) (up : Bool), s.enginesOn = true → s.pair_.promote = some (t, reason, up) → s.effectReached t = true →
    ((up = true ∧ s.mayPromote = true) ∨ (up = false ∧ s.role = rolePrimary)) →
    Runs .promoteEffect s fun u => u = State.changeRole { s with pair_ := { s.pair_ with promote := none } } up reason) ∧
  (∀ (s : State) (d : Divergence) (ok : Bool), s.enginesOn = true → s.pair_.diverge = some d → d.own = none →
    let t := { s with pair_ := { s.pair_ with diverge := some { d with own := some ok } } }
    Runs (.selftestResult ok) s fun u =>
      u = ((t.cwSend 0x0b (beBytes 8 d.window ++ beBytes 1 d.classes ++ beBytes 1 (bit (!ok)) ++ beBytes 6 0)).count (cwCnt 11)).settleDivergence) ∧
  (∀ (s : State) (path : Nat) (ok : Bool), path < 4 → s.enginesOn = true → s.role = rolePrimary →
    Runs (.pathCheck path ok) s fun u =>
      u = if ok then s.put ⟨CW_PROOF, path, path⟩ 1 else (s.put ⟨CW_PROOF, 8 + path, 8 + path⟩ 1).raise EV_CW_PATH_FAIL sevCritical path path) ∧
  (∀ (s : State) (m : Master) (v : Nat), s.canonical = true → v < 2 ^ 32 → v % 2 = 1 → s.takesWrite m CW_CFG v = true →
    s.flag CW_CFG_PAIR_EN = false → s.role = roleSolo →
    Runs (.pairEnable m v) s fun u => u.flag CW_CFG_PAIR_EN = true ∧ u.role = rolePrimary ∧ u.pair_.keepAt = s.time.mono) ∧
  (∀ (s : State) (m : Master) (v : Nat), s.canonical = true → v < 2 ^ 32 → v % 2 = 0 → s.takesWrite m CW_CFG v = true →
    s.flag CW_CFG_PAIR_EN = true → s.role = rolePrimary →
    Runs (.pairDisable m v) s fun u => u.flag CW_CFG_PAIR_EN = false ∧ u.role = roleSolo ∧ u.get CW_STATUS_SYNC = syNone) ∧
  (∀ (s : State) (h : CmdHeader), h.sq < 16 → s.serves h 0x71 = true → (s.role = roleStandby ∨ s.role = roleCold) →
    Runs (.pairPromote h) s fun u => u = ((s.sendPromote 0 1).promote sevNotice s.following).finish h 0x71 stOk 0 rolePrimary) ∧
  (∀ (s : State) (h : CmdHeader), h.sq < 16 → s.serves h 0x72 = true → s.get CW_STATUS_SYNC = syIn →
    (s.role = roleStandby ∨ s.orderOn = true) →
    let t := s.sendPromote (s.lastTick + 20000000) 2
    let t' := { t with pair_ := { t.pair_ with promote := some (s.lastTick + 20000000, 2, t.role == roleStandby) } }
    Runs (.pairDrill h) s fun u => u = t'.finish h 0x72 stOk 0 t'.role) ∧
  (∀ (s : State) (h : CmdHeader) (role pairId ckpt len : Nat) (image : Option Checkpoint), h.sq < 16 → s.serves h 0x70 = true →
    (role = 2 ∨ role = 3) → pairId ≠ 0 → s.mayJoin role = true →
    let before := s.pair CW_PAIR_ID_LO CW_PAIR_ID_HI
    Runs (.pairJoin h role pairId ckpt len image) s fun u =>
      u = if role = 3 ∧ ckpt ≠ 0 then s.startJob h 0x70 (.pairJoin role before pairId (some image)) (max 1 len) 1
        else s.startJob h 0x70 (.pairJoin role before pairId none) 1 1)

/-! ### Firmware update (15) -/

/-- Firmware commands and what follows them (R381 to R386): a staged image waits for its verification; one that passes is forwarded and
copied, and STAGED when its copy ends; it is armed with its kick-off MIN_LEAD ahead, activated at that instant in LOCKED (new firmware once
the commands already fetched are complete, the model's choice, log 227), and confirmed or left again by command. A switch ends with the firmware serving; a provisional start that serves too late is counted again or falls back. -/
def Obligations.FirmwareCommands : Prop :=
  (∀ (s : State) (h : CmdHeader) (kind flags : Nat) (i : Image), h.sq < 16 → s.serves h 0x60 = true → kind < 3 → flags < 2 →
    imgKind i = kind → s.fuState < fuArmed → s.fw.verifying = none → s.fw.copying = none → s.fw.receive = none →
    let run : StageRun := {
      image := i, digest := imgDigest i, sender := 0, hops := s.get FU_RELAY_CFG_HOPS, forward := flags == 1, command := some (h.sq, h.tag) }
    Runs (.imageStage h kind flags i true) s fun u =>
      u = State.startJob { s with fw := { s.fw with verifying := some run } } h 0x60 (.imageStage i (flags == 1)) (verifySteps i) (2 ^ 30)) ∧
  (∀ (s : State) (r : StageRun), s.coreOn = true → s.fw.verifying = some r → s.fuState < fuArmed →
    (∀ q tag, r.command = some (q, tag) → (s.host.jobs.any fun j => j.sq == q && j.opcode == 0x60 && j.done == j.all) = true) →
    let t := { s with fw := { s.fw with verifying := none, copying := some r, receive := if r.command.isNone then none else s.fw.receive } }
    Runs .imageVerified s fun u =>
      u = match s.imageFault r.image with
        | none => (State.relayForward (t.when r.command.isNone fun s => s.relayResult r.causeway r.digest 0) r).showRelay
        | some (st, result) => s.rejectImage r st result) ∧
  (∀ (s : State) (r : StageRun), s.coreOn = true → s.fw.copying = some r → s.power.bootHeld = false →
    let i := r.image
    let t := State.placeImage { s with fw := { s.fw with copying := none, staged := some i, storedNew := none } } i
    let v := ((t.put FU_STATUS_STATE fuStaged).put FU_STATUS_KIND (imgKind i)).setWord (FU_VER 1) (imgVersion i)
    Runs .imageCopyDone s fun u =>
      u = (v.raise EV_FU_STAGED sevNotice (imgKind i)).endStage r stOk (imgVersion i) (sessionOf (imgDigest i))) ∧
  (∀ (s : State) (h : CmdHeader) (kick : Nat), h.sq < 16 → s.serves h 0x61 = true → (s.fuState = fuStaged ∨ s.fuState = fuArmed) →
    s.fw.copying = none → s.leadOk kick = true →
    Runs (.fwArm h kick) s fun u => u = (s.armKick kick).finish h 0x61 stOk 0 (s.word (FU_VER 1))) ∧
  (∀ (s : State) (i : Image), s.enginesOn = true → s.fuState = fuArmed → s.kickTai ≤ s.jobTai → s.timeState = tsLocked → s.holdup = false →
    s.fw.staged = some i →
    Runs .kickoff s fun u =>
      u = if imgKind i = 0 then (if s.host.started.isEmpty then s.activateFirmware i else s)
        else if imgKind i = 1 then s.activateCustomer i else s.activateConfig i) ∧
  (∀ (s : State), s.coreOn = true → s.flag FU_STATUS_SWITCHING = true → Runs .activationEnd s fun u => u = s.switchOver) ∧
  (∀ (s : State) (h : CmdHeader), s.canonical = true → h.sq < 16 → s.serves h 0x62 = true → s.fuState = fuProvisional →
    Runs (.fwConfirm h) s fun u =>
      u.fuState = fuRunning ∧ u.flag FU_STATUS_COPYING = true ∧ u.fw.stored = s.fw.storedNew.getD s.fw.stored ∧ u.fw.staged = none ∧
      u.word (FU_VER 0) = (if s.fuKind = 0 then s.word (FU_VER 1) else s.word (FU_VER 0))) ∧
  (∀ (s : State), s.canonical = true → s.coreOn = true → s.flag FU_STATUS_COPYING = true →
    Runs .configCopyDone s fun u => u.flag FU_STATUS_COPYING = false ∧
      u.fw.storedNew = (if s.fuState = fuRunning then none else s.fw.storedNew) ∧ u.fw.stored = s.fw.stored) ∧
  (∀ (s : State) (h : CmdHeader), h.sq < 16 → s.serves h 0x63 = true → s.fuState = fuProvisional →
    Runs (.fwFallback h) s fun u => u = (s.finish h 0x63 stOk 0 s.oldVersion).fallBack 0) ∧
  (∀ (s : State) (t : Nat), s.coreOn = true → s.fw.startEnds = some t → s.fuState = fuProvisional → t ≤ s.time.mono →
    s.flag GL_STATUS_SERVICE = false →
    Runs .startLimitExpire s fun u =>
      u = if s.get FU_CFG_BOOT_MAX ≤ s.get FU_STATUS_BOOT_TRIES then s.fallBack 1 else (s.startFirmware (s.word (FU_VER 1))).countStart) ∧
  (∀ (s : State) (p : Nat), s.coreOn = true → s.fw.refreshing = none →
    ((List.range 5).find? fun p => decide (365 * dayTicks ≤ s.fw.ages.getD p 0) && !s.stagingWrites p) = some p →
    Runs .nandRefresh s fun u => u = { s with fw := { s.fw with refreshing := some p } }) ∧
  (∀ (s : State) (p blocks : Nat), s.coreOn = true → s.fw.refreshing = some p →
    Runs (.refreshPassed blocks) s fun u =>
      u = State.raise { s.countN (fuCnt 5) blocks with fw := { s.fw with refreshing := none, ages := s.fw.ages.set p 0 } }
        EV_FU_REFRESH_DONE sevInfo p)

/-- The relay (R387 to R389): a packet that is sound and admitted for its direction is used as its TYPE says, by UDP or by the causeway; an
ACK goes out 10 ms after the last chunk, chunks not acknowledged in time go out again, and a session without progress is given up. -/
def Obligations.Relay : Prop :=
  (∀ (s : State) (r : RelayHeader), s.enginesOn = true → r.crcOk = true → r.formatOk = true →
    (s.flag FU_RELAY_CFG_ACCEPT = true → r.fromUpstream = true →
      (∀ length kind hops digest, Runs (.relayOfferIn r length kind hops digest) s fun u => u = s.relayOffer false r length kind hops digest) ∧
      (∀ data : List Byte, data.length ≤ 8192 → Runs (.relayChunkIn r data) s fun u => u = s.relayChunk false r data) ∧
      (∀ kick, Runs (.relayArmRx r kick) s fun u => u = s.relayArmed r kick) ∧
      (∀ reason, reason ≠ 2 → Runs (.relayAbortRx r reason) s fun u => u = s.relayAborted false r reason)) ∧
    (r.fromUpstream = false →
      (∀ next mask, Runs (.relayAckRx r next mask) s fun u => u = s.relayAcked false r next mask) ∧
      (∀ status, Runs (.relayResultRx r status) s fun u => u = s.relayResulted false r status) ∧
      Runs (.relayAbortRx r 2) s fun u => u = s.relayAborted false r 2)) ∧
  (∀ (s : State) (c : CwHeader) (r : RelayHeader) (b : RelayBody), s.enginesOn = true → s.cwHears c false = true →
    Runs (.cwRelayRx c r b) s fun u => u = (s.cwHeard c).relayPartner r b) ∧
  (∀ (s : State) (x : RelayReceive), s.enginesOn = true → s.fw.receive = some x → x.acked = false → x.lastAt + 10000000 ≤ s.time.mono →
    Runs .relayAckTimer s fun u => u = s.relayAck) ∧
  (∀ (s : State) (x : RelaySend), s.enginesOn = true → s.fw.sends = [x] →
    let due := x.unacked.filter fun c => decide (c.2 + s.get FU_RELAY_CFG_RTO * 10000000 ≤ s.time.mono)
    due ≠ [] →
    Runs .relayRetransmit s fun u =>
      u = (due.foldl (fun s c => (s.relaySendChunk x c.1).count (fuCnt 1)) s).setSend {
        x with unacked := x.unacked.map fun c => if due.contains c then (c.1, s.time.mono) else c }) ∧
  (∀ (s : State) (x : RelayReceive), s.enginesOn = true → s.fw.receive = some x → s.fw.sends = [] → s.fw.verifying = none →
    x.progress + 30000000000 ≤ s.time.mono →
    Runs .relayGiveUp s fun u =>
      u = ((State.relayOut { s with fw := { s.fw with receive := none } } x.causeway true 5 x.session 0
        (beBytes 1 2 ++ beBytes 7 0)).count (fuCnt 3)).showRelay)

/-! ### Integrity and return (16) -/

/-- Self-tests (R376, R394, R395, R402): a known-answer test shows in its bits, and a failure is a fault; a scrub pass counts, reports each
word corrected and each found uncorrectable; an eye margin is shown; a return capsule is begun with its confirmation, once. -/
def Obligations.SelfTests : Prop :=
  (∀ (s : State) (e : Nat) (pass : Bool), e < 17 → s.enginesOn = true →
    let t := { s with pair_ := { s.pair_ with stPass := setBit s.pair_.stPass e pass, stFail := setBit s.pair_.stFail e (!pass) } }
    Runs (.katRun e pass) s fun u => u = if pass then t else (t.count (igCnt 7)).raise EV_IG_SELFTEST_FAIL sevCritical e e) ∧
  (∀ (s : State) (mram : Bool) (corrected bad : List Nat), s.enginesOn = true →
    (∀ w ∈ corrected ++ bad, w % 8 = 0 ∧ (mram = true ↔ 0x100000000000 ≤ w)) →
    let t := { s with pair_ := { s.pair_ with
      scrubDram := s.pair_.scrubDram + bit (!mram)
      scrubMram := s.pair_.scrubMram + bit mram
      cecc := s.pair_.cecc + corrected.length } }
    let t' := corrected.foldl (fun s w =>
      (s.count (igCnt (if mram then 3 else 1))).raise (if mram then EV_IG_MRAM_CECC else EV_IG_DRAM_CECC) sevInfo (w / 2 ^ 20)) t
    Runs (.scrubPass mram corrected bad) s fun u => u = bad.foldl State.scrubBad t') ∧
  (∀ (s : State) (l eye : Nat), s.canonical = true → l < 2 → s.enginesOn = true → eye < 65536 →
    Runs (.eyeMeasure l eye) s fun u => u.get (CW_LANE_STAT_EYE l) = eye ∧ u = s.put (CW_LANE_STAT_EYE l) eye) ∧
  (∀ (s : State) (h : CmdHeader), h.sq < 16 → s.serves h 0x90 = true → s.flag IG_STATUS_CAPSULE = false →
    (s.host.jobs.any fun j => j.opcode == 0x90) = false →
    Runs (.returnCapsule h 0x63617073) s fun u => u = s.startJob h 0x90 .returnCapsule (capsuleSize / 4096) 4096)

/-! ### Supplies, start-up and resets (17) -/

/-- Supplies (R405 to R408, R430): the first supply is a class P reset, its return after BATTERY a class C reset; the monitor trips into
HOLDUP with the outage logged, and recovers from it; the core domain stops with its lines floating; without VBAT the battery domain stops;
VBAT below 2.5 V is shown, and reported on the rise of its bit. -/
def Obligations.SupplyEvents : Prop :=
  (∀ (s : State) (vin : Bool), s.power.phase = .unpowered →
    Runs (.batteryPowerOn vin) s fun u =>
      u = if vin then s.coldReset .p false else { s.coldReset .p false with power := { (s.coldReset .p false).power with phase := .battery } }) ∧
  (∀ (s : State), s.power.phase = .battery →
    let t := s.outageEnd.coldReset .c false
    Runs .vinReturn s fun u => u = { t with power := { t.power with classP := s.power.classP } }) ∧
  (∀ (s : State) (monitor : Bool), s.canonical = true → s.coreOn = true → s.holdup = false →
    Runs (.supplyTrip monitor) s fun u =>
      u = s.trip monitor ∧ u.get PW_STATUS_STATE = 1 ∧ u.flag ME_G_STATUS_HOLDUP = true ∧ u.host.hbDue = none) ∧
  (∀ (s : State), s.canonical = true → s.coreOn = true → s.holdup = true →
    Runs .supplyRecover s fun u =>
      u.get PW_STATUS_STATE = 0 ∧ u.flag PW_STATUS_PFAIL = false ∧ u.flag PW_STATUS_VIN_LOW = false ∧ u.flag PW_STATUS_VAUX_LOW = false ∧
      u.flag ME_G_STATUS_HOLDUP = false ∧ u.meter.cutAt = none) ∧
  (∀ (s : State), s.power.phase ≠ .battery → s.power.phase ≠ .unpowered →
    Runs .coreDomainStop s fun u => u.power.phase = .battery ∧ u.power.classP = s.power.classP ∧ .linesFloat ∈ u.out) ∧
  (∀ (s : State), s.power.phase = .battery →
    Runs .batteryLoss s fun u => u = { s with power := { s.power with phase := .unpowered } }) ∧
  (∀ (s : State) (mv : Nat), s.canonical = true → s.coreOn = true →
    Runs (.vbatLow mv) s fun u =>
      u.get PW_VBAT_VBAT = min mv 65535 ∧ u.flag PW_STATUS_VBAT_LOW = decide (mv < 2500) ∧
      (mv < 2500 → s.flag PW_STATUS_VBAT_LOW = false →
        u = ((s.put PW_VBAT_VBAT (min mv 65535)).put PW_STATUS_VBAT_LOW 1).raise EV_PW_VBAT_LOW sevWarning)) ∧
  (∀ (s : State), s.canonical = true → s.coreOn = true →
    Runs .vbatInsert s fun u => u.flag PW_STATUS_VBAT_LOW = false ∧ u = s.put PW_STATUS_VBAT_LOW 0)

/-- Start-up (R34, R409 to R412): from the release of a reset the hardware starts, a slot that verifies is chosen and its firmware reports
BOOT_DONE and runs, or the boot ROM waits for an image; with TESTMODE high nothing starts. The stored configuration is loaded once, and
SERVICE set. RST_n saves what runs, commits, and is a class C reset in which the device stays. -/
def Obligations.StartUp : Prop :=
  (∀ (s : State) (a b : Nat) (failed : List Nat), a < 3 → b < 3 → (s.power.phase = .booting ∨ s.power.phase = .held) →
    s.flag GL_STATUS_BOOT_DONE = false → s.power.testmode = false →
    let t := State.lastReset { s with power := { s.power with phase := .booting, testmode := false, classP := false } }
      (if s.power.classP then 1 else 2)
    let t := ((t.put GL_STATUS_TESTMODE_HIGH 0).trimCheck.bootHardware failed).bootSlot [a, b]
    Runs (.bootUp false a b failed) s fun u =>
      u = if t.power.bootHeld then (t.peatBoot.put GL_STATUS_BOOT_DONE 1).modeConds else t.bootFirmware) ∧
  (∀ (s : State) (a b : Nat) (failed : List Nat), a < 3 → b < 3 → (s.power.phase = .booting ∨ s.power.phase = .held) →
    s.flag GL_STATUS_BOOT_DONE = false → s.power.testmode = false →
    Runs (.bootUp true a b failed) s fun u => u.power.phase = .booting ∧ u.power.testmode = true ∧ u.mem = s.mem ∧ u.keys = s.keys) ∧
  (∀ (s : State) (writes : List (Nat × Nat)) (tables : List (Nat × Nat × List Nat)), s.power.phase = .running →
    s.meter.configLoaded = false →
    let c := s.readPartition writes tables
    let t := s.restartRecords fun off => ((c.writes.find? fun e => e.1 == off).map (·.2)).getD (resetWord off).toNat
    let v := (t.setPartition c).applyConfig c
    let w := State.forEach { v with meter := { v.meter with configLoaded := true } } 256 fun n s => s.refreshAble n
    Runs (.configLoad true writes tables) s fun u => u = (w.startCustomer.showServices).refreshPins.serviceOn) ∧
  (∀ (s : State), s.coreOn = true →
    Runs .rstNAssert s fun u =>
      u = ((s.when (s.meter.configLoaded && !s.holdup) fun s => (s.cutBlocks.abandonSaves).snapshot 1).commitAll).coldReset .c true)
end

