-- ==== Sys2Proof/Laws/Store.lean ====
section
/-!
SUPPORT. Laws of the sparse stores: what a read gives after a write, and that every operation keeps the canonical form.
-/

set_option Elab.async false

namespace Sys2Proof.Machine

variable {α : Type} [DecidableEq α] {d : Nat → α}

/-- In a canonical store that begins with a key, no later key is at or below it. -/
theorem Store.get_below {k : Nat} {v : α} {rest : Store α} {j : Nat} (h : Store.wf d ((k, v) :: rest) = true) (hj : j < k) :
    Store.get d ((k, v) :: rest) j = d j := by
  induction rest generalizing k v with
  | nil => simp [Store.get, Nat.ne_of_gt hj]
  | cons e rest ih =>
    obtain ⟨k', v'⟩ := e
    simp only [Store.wf, Bool.and_eq_true, decide_eq_true_eq] at h
    have := ih h.2 (Nat.lt_trans hj h.1.2)
    rw [Store.get, if_neg (Nat.ne_of_gt hj)]; exact this

/-- The tail of a canonical store is canonical. -/
theorem Store.wf_tail {e : Nat × α} {rest : Store α} (h : Store.wf d (e :: rest) = true) : Store.wf d rest = true := by
  cases rest with
  | nil => rfl
  | cons e' rest =>
    obtain ⟨k, v⟩ := e; obtain ⟨k', v'⟩ := e'
    simp only [Store.wf, Bool.and_eq_true] at h; exact h.2

/-- A key in front of a canonical store whose keys are all above it. -/
theorem Store.wf_cons {k : Nat} {v : α} {rest : Store α} (hv : v ≠ d k) (hk : ∀ e ∈ rest, k < e.1)
    (h : Store.wf d rest = true) : Store.wf d ((k, v) :: rest) = true := by
  cases rest with
  | nil => simp [Store.wf, hv]
  | cons e rest =>
    obtain ⟨k', v'⟩ := e
    simp only [Store.wf, Bool.and_eq_true, decide_eq_true_eq]
    exact ⟨⟨hv, hk (k', v') (by simp)⟩, h⟩

/-- In a canonical store every later key lies above the first. -/
theorem Store.wf_above {k : Nat} {v : α} {rest : Store α} (h : Store.wf d ((k, v) :: rest) = true) :
    v ≠ d k ∧ ∀ e ∈ rest, k < e.1 := by
  induction rest generalizing k v with
  | nil => simpa [Store.wf] using h
  | cons e rest ih =>
    obtain ⟨k', v'⟩ := e
    simp only [Store.wf, Bool.and_eq_true, decide_eq_true_eq] at h
    refine ⟨h.1.1, fun e he => ?_⟩
    rcases List.mem_cons.1 he with rfl | he
    · exact h.1.2
    · exact Nat.lt_trans h.1.2 ((ih h.2).2 e he)

/-- The keys of a store after a write lie among its keys and the written one. -/
theorem Store.mem_set {m : Store α} {k : Nat} {v : α} {e : Nat × α} (h : e ∈ Store.set d m k v) : e.1 = k ∨ e ∈ m := by
  induction m with
  | nil => unfold Store.set at h; split at h <;> simp_all
  | cons a m ih =>
    obtain ⟨k', v'⟩ := a
    unfold Store.set at h
    split_ifs at h with h1 h2 h3 h4
    · exact .inr h
    · rcases List.mem_cons.1 h with rfl | h
      · exact .inl rfl
      · exact .inr h
    · exact .inr (List.mem_cons_of_mem _ h)
    · rcases List.mem_cons.1 h with rfl | h
      · exact .inl rfl
      · exact .inr (List.mem_cons_of_mem _ h)
    · rcases List.mem_cons.1 h with rfl | h
      · exact .inr (by simp)
      · exact (ih h).imp id (List.mem_cons_of_mem _)

/-- A write keeps the canonical form. -/
theorem Store.set_wf {m : Store α} (k : Nat) (v : α) (h : Store.wf d m = true) : Store.wf d (Store.set d m k v) = true := by
  induction m with
  | nil => unfold Store.set; split <;> simp_all [Store.wf]
  | cons a m ih =>
    obtain ⟨k', v'⟩ := a
    have ha := Store.wf_above h
    unfold Store.set
    split_ifs with h1 h2 h3 h4
    · exact h
    · exact Store.wf_cons h2 (fun e he => by
        rcases List.mem_cons.1 he with rfl | he
        · exact h1
        · exact Nat.lt_trans h1 (ha.2 e he)) h
    · exact Store.wf_tail h
    · exact Store.wf_cons h4 (fun e he => h3 ▸ ha.2 e he) (Store.wf_tail h)
    · refine Store.wf_cons ha.1 (fun e he => ?_) (ih (Store.wf_tail h))
      rcases Store.mem_set he with he | he
      · omega
      · exact ha.2 e he

/-- A read of the written key of a canonical store gives the written value. -/
theorem Store.get_set_same {m : Store α} (k : Nat) (v : α) (h : Store.wf d m = true) : Store.get d (Store.set d m k v) k = v := by
  induction m with
  | nil => unfold Store.set; split <;> simp_all [Store.get]
  | cons a m ih =>
    obtain ⟨k', v'⟩ := a
    unfold Store.set
    split_ifs with h1 h2 h3 h4
    · rw [Store.get_below h h1]; exact h2.symm
    · simp [Store.get]
    · subst h3
      have ha := Store.wf_above h
      cases m with
      | nil => simp [Store.get, h4]
      | cons e m =>
        obtain ⟨k2, v2⟩ := e
        rw [Store.get_below (Store.wf_tail h) (ha.2 (k2, v2) (by simp))]; exact h4.symm
    · simp [Store.get]
    · rw [Store.get, if_neg (by omega)]; exact ih (Store.wf_tail h)

/-- A value that differs from the default is read back from any store, canonical or not. -/
theorem Store.get_set_of_ne (m : Store α) (k : Nat) {v : α} (hv : v ≠ d k) : Store.get d (Store.set d m k v) k = v := by
  induction m with
  | nil => simp [Store.set, hv, Store.get]
  | cons e rest ih =>
    obtain ⟨k', v'⟩ := e
    simp only [Store.set, if_neg hv]
    split
    · simp [Store.get]
    · split
      · simp [Store.get]
      · rename_i h1 h2
        simp only [Store.get, if_neg (show ¬ k' = k from fun h => h2 h.symm), ih]

/-- A write leaves every other key as it was. -/
theorem Store.get_set_other {m : Store α} {k j : Nat} (v : α) (hj : j ≠ k) : Store.get d (Store.set d m k v) j = Store.get d m j := by
  induction m with
  | nil => unfold Store.set; split <;> simp [Store.get, Ne.symm hj]
  | cons a m ih =>
    obtain ⟨k', v'⟩ := a
    unfold Store.set
    split_ifs with h1 h2 h3 h4
    · rfl
    · rw [Store.get, if_neg (Ne.symm hj)]
    · rw [Store.get, if_neg (by omega)]
    · rw [Store.get, if_neg (Ne.symm hj), Store.get, if_neg (by omega)]
    · rw [Store.get, Store.get, ih]

/-- Leaving entries out keeps the canonical form. -/
theorem Store.filter_wf {m : Store α} (p : Nat × α → Bool) (h : Store.wf d m = true) : Store.wf d (m.filter p) = true := by
  induction m with
  | nil => rfl
  | cons a m ih =>
    have ha := Store.wf_above (k := a.1) (v := a.2) h
    rw [List.filter_cons]
    split
    · exact Store.wf_cons ha.1 (fun e he => ha.2 e (List.mem_filter.1 he).1) (ih (Store.wf_tail h))
    · exact ih (Store.wf_tail h)

/-- A dropped store is canonical. -/
theorem Store.drop_wf {m : Store α} (p : Nat → Bool) (h : Store.wf d m = true) : Store.wf d (Store.drop p m) = true :=
  Store.filter_wf _ h

end Sys2Proof.Machine
end

