-- ==== Sys2Proof/Laws/State.lean ====
section
/-!
SUPPORT. What each plain update of the state leaves alone, one lemma per field, and what reads give after the updates of the
register file and of memory.
-/

set_option Elab.async false

namespace Sys2Proof.Machine

variable (s : State)

/-! ### `State.setReg` -/

@[simp] theorem State.setReg_mem (off : Nat) (w : Word) : (s.setReg off w).mem = s.mem := rfl
@[simp] theorem State.setReg_latches (off : Nat) (w : Word) : (s.setReg off w).latches = s.latches := rfl
@[simp] theorem State.setReg_time (off : Nat) (w : Word) : (s.setReg off w).time = s.time := rfl
@[simp] theorem State.setReg_cal (off : Nat) (w : Word) : (s.setReg off w).cal = s.cal := rfl
@[simp] theorem State.setReg_net (off : Nat) (w : Word) : (s.setReg off w).net = s.net := rfl
@[simp] theorem State.setReg_order (off : Nat) (w : Word) : (s.setReg off w).order = s.order := rfl
@[simp] theorem State.setReg_peat (off : Nat) (w : Word) : (s.setReg off w).peat = s.peat := rfl
@[simp] theorem State.setReg_sched (off : Nat) (w : Word) : (s.setReg off w).sched = s.sched := rfl
@[simp] theorem State.setReg_host (off : Nat) (w : Word) : (s.setReg off w).host = s.host := rfl
@[simp] theorem State.setReg_power (off : Nat) (w : Word) : (s.setReg off w).power = s.power := rfl
@[simp] theorem State.setReg_meter (off : Nat) (w : Word) : (s.setReg off w).meter = s.meter := rfl
@[simp] theorem State.setReg_capture (off : Nat) (w : Word) : (s.setReg off w).capture = s.capture := rfl
@[simp] theorem State.setReg_afe (off : Nat) (w : Word) : (s.setReg off w).afe = s.afe := rfl
@[simp] theorem State.setReg_links (off : Nat) (w : Word) : (s.setReg off w).links = s.links := rfl
@[simp] theorem State.setReg_align (off : Nat) (w : Word) : (s.setReg off w).align = s.align := rfl
@[simp] theorem State.setReg_phasor (off : Nat) (w : Word) : (s.setReg off w).phasor = s.phasor := rfl
@[simp] theorem State.setReg_streams (off : Nat) (w : Word) : (s.setReg off w).streams = s.streams := rfl
@[simp] theorem State.setReg_detect (off : Nat) (w : Word) : (s.setReg off w).detect = s.detect := rfl
@[simp] theorem State.setReg_tables (off : Nat) (w : Word) : (s.setReg off w).tables = s.tables := rfl
@[simp] theorem State.setReg_keys (off : Nat) (w : Word) : (s.setReg off w).keys = s.keys := rfl
@[simp] theorem State.setReg_pair_ (off : Nat) (w : Word) : (s.setReg off w).pair_ = s.pair_ := rfl
@[simp] theorem State.setReg_fw (off : Nat) (w : Word) : (s.setReg off w).fw = s.fw := rfl
@[simp] theorem State.setReg_integ (off : Nat) (w : Word) : (s.setReg off w).integ = s.integ := rfl
@[simp] theorem State.setReg_free (off : Nat) (w : Word) : (s.setReg off w).free = s.free := rfl
@[simp] theorem State.setReg_out (off : Nat) (w : Word) : (s.setReg off w).out = s.out := rfl
@[simp] theorem State.setReg_pending (off : Nat) (w : Word) : (s.setReg off w).pending = s.pending := rfl

/-! ### `State.put` -/

@[simp] theorem State.put_mem (f : Fld) (v : Nat) : (s.put f v).mem = s.mem := rfl
@[simp] theorem State.put_latches (f : Fld) (v : Nat) : (s.put f v).latches = s.latches := rfl
@[simp] theorem State.put_time (f : Fld) (v : Nat) : (s.put f v).time = s.time := rfl
@[simp] theorem State.put_cal (f : Fld) (v : Nat) : (s.put f v).cal = s.cal := rfl
@[simp] theorem State.put_net (f : Fld) (v : Nat) : (s.put f v).net = s.net := rfl
@[simp] theorem State.put_order (f : Fld) (v : Nat) : (s.put f v).order = s.order := rfl
@[simp] theorem State.put_peat (f : Fld) (v : Nat) : (s.put f v).peat = s.peat := rfl
@[simp] theorem State.put_sched (f : Fld) (v : Nat) : (s.put f v).sched = s.sched := rfl
@[simp] theorem State.put_host (f : Fld) (v : Nat) : (s.put f v).host = s.host := rfl
@[simp] theorem State.put_power (f : Fld) (v : Nat) : (s.put f v).power = s.power := rfl
@[simp] theorem State.put_meter (f : Fld) (v : Nat) : (s.put f v).meter = s.meter := rfl
@[simp] theorem State.put_capture (f : Fld) (v : Nat) : (s.put f v).capture = s.capture := rfl
@[simp] theorem State.put_afe (f : Fld) (v : Nat) : (s.put f v).afe = s.afe := rfl
@[simp] theorem State.put_links (f : Fld) (v : Nat) : (s.put f v).links = s.links := rfl
@[simp] theorem State.put_align (f : Fld) (v : Nat) : (s.put f v).align = s.align := rfl
@[simp] theorem State.put_phasor (f : Fld) (v : Nat) : (s.put f v).phasor = s.phasor := rfl
@[simp] theorem State.put_streams (f : Fld) (v : Nat) : (s.put f v).streams = s.streams := rfl
@[simp] theorem State.put_detect (f : Fld) (v : Nat) : (s.put f v).detect = s.detect := rfl
@[simp] theorem State.put_tables (f : Fld) (v : Nat) : (s.put f v).tables = s.tables := rfl
@[simp] theorem State.put_keys (f : Fld) (v : Nat) : (s.put f v).keys = s.keys := rfl
@[simp] theorem State.put_pair_ (f : Fld) (v : Nat) : (s.put f v).pair_ = s.pair_ := rfl
@[simp] theorem State.put_fw (f : Fld) (v : Nat) : (s.put f v).fw = s.fw := rfl
@[simp] theorem State.put_integ (f : Fld) (v : Nat) : (s.put f v).integ = s.integ := rfl
@[simp] theorem State.put_free (f : Fld) (v : Nat) : (s.put f v).free = s.free := rfl
@[simp] theorem State.put_out (f : Fld) (v : Nat) : (s.put f v).out = s.out := rfl
@[simp] theorem State.put_pending (f : Fld) (v : Nat) : (s.put f v).pending = s.pending := rfl

/-! ### `State.setWord` -/

@[simp] theorem State.setWord_mem (off v : Nat) : (s.setWord off v).mem = s.mem := rfl
@[simp] theorem State.setWord_latches (off v : Nat) : (s.setWord off v).latches = s.latches := rfl
@[simp] theorem State.setWord_time (off v : Nat) : (s.setWord off v).time = s.time := rfl
@[simp] theorem State.setWord_cal (off v : Nat) : (s.setWord off v).cal = s.cal := rfl
@[simp] theorem State.setWord_net (off v : Nat) : (s.setWord off v).net = s.net := rfl
@[simp] theorem State.setWord_order (off v : Nat) : (s.setWord off v).order = s.order := rfl
@[simp] theorem State.setWord_peat (off v : Nat) : (s.setWord off v).peat = s.peat := rfl
@[simp] theorem State.setWord_sched (off v : Nat) : (s.setWord off v).sched = s.sched := rfl
@[simp] theorem State.setWord_host (off v : Nat) : (s.setWord off v).host = s.host := rfl
@[simp] theorem State.setWord_power (off v : Nat) : (s.setWord off v).power = s.power := rfl
@[simp] theorem State.setWord_meter (off v : Nat) : (s.setWord off v).meter = s.meter := rfl
@[simp] theorem State.setWord_capture (off v : Nat) : (s.setWord off v).capture = s.capture := rfl
@[simp] theorem State.setWord_afe (off v : Nat) : (s.setWord off v).afe = s.afe := rfl
@[simp] theorem State.setWord_links (off v : Nat) : (s.setWord off v).links = s.links := rfl
@[simp] theorem State.setWord_align (off v : Nat) : (s.setWord off v).align = s.align := rfl
@[simp] theorem State.setWord_phasor (off v : Nat) : (s.setWord off v).phasor = s.phasor := rfl
@[simp] theorem State.setWord_streams (off v : Nat) : (s.setWord off v).streams = s.streams := rfl
@[simp] theorem State.setWord_detect (off v : Nat) : (s.setWord off v).detect = s.detect := rfl
@[simp] theorem State.setWord_tables (off v : Nat) : (s.setWord off v).tables = s.tables := rfl
@[simp] theorem State.setWord_keys (off v : Nat) : (s.setWord off v).keys = s.keys := rfl
@[simp] theorem State.setWord_pair_ (off v : Nat) : (s.setWord off v).pair_ = s.pair_ := rfl
@[simp] theorem State.setWord_fw (off v : Nat) : (s.setWord off v).fw = s.fw := rfl
@[simp] theorem State.setWord_integ (off v : Nat) : (s.setWord off v).integ = s.integ := rfl
@[simp] theorem State.setWord_free (off v : Nat) : (s.setWord off v).free = s.free := rfl
@[simp] theorem State.setWord_out (off v : Nat) : (s.setWord off v).out = s.out := rfl
@[simp] theorem State.setWord_pending (off v : Nat) : (s.setWord off v).pending = s.pending := rfl

/-! ### `State.setPair` -/

@[simp] theorem State.setPair_mem (lo hi v : Nat) : (s.setPair lo hi v).mem = s.mem := rfl
@[simp] theorem State.setPair_latches (lo hi v : Nat) : (s.setPair lo hi v).latches = s.latches := rfl
@[simp] theorem State.setPair_time (lo hi v : Nat) : (s.setPair lo hi v).time = s.time := rfl
@[simp] theorem State.setPair_cal (lo hi v : Nat) : (s.setPair lo hi v).cal = s.cal := rfl
@[simp] theorem State.setPair_net (lo hi v : Nat) : (s.setPair lo hi v).net = s.net := rfl
@[simp] theorem State.setPair_order (lo hi v : Nat) : (s.setPair lo hi v).order = s.order := rfl
@[simp] theorem State.setPair_peat (lo hi v : Nat) : (s.setPair lo hi v).peat = s.peat := rfl
@[simp] theorem State.setPair_sched (lo hi v : Nat) : (s.setPair lo hi v).sched = s.sched := rfl
@[simp] theorem State.setPair_host (lo hi v : Nat) : (s.setPair lo hi v).host = s.host := rfl
@[simp] theorem State.setPair_power (lo hi v : Nat) : (s.setPair lo hi v).power = s.power := rfl
@[simp] theorem State.setPair_meter (lo hi v : Nat) : (s.setPair lo hi v).meter = s.meter := rfl
@[simp] theorem State.setPair_capture (lo hi v : Nat) : (s.setPair lo hi v).capture = s.capture := rfl
@[simp] theorem State.setPair_afe (lo hi v : Nat) : (s.setPair lo hi v).afe = s.afe := rfl
@[simp] theorem State.setPair_links (lo hi v : Nat) : (s.setPair lo hi v).links = s.links := rfl
@[simp] theorem State.setPair_align (lo hi v : Nat) : (s.setPair lo hi v).align = s.align := rfl
@[simp] theorem State.setPair_phasor (lo hi v : Nat) : (s.setPair lo hi v).phasor = s.phasor := rfl
@[simp] theorem State.setPair_streams (lo hi v : Nat) : (s.setPair lo hi v).streams = s.streams := rfl
@[simp] theorem State.setPair_detect (lo hi v : Nat) : (s.setPair lo hi v).detect = s.detect := rfl
@[simp] theorem State.setPair_tables (lo hi v : Nat) : (s.setPair lo hi v).tables = s.tables := rfl
@[simp] theorem State.setPair_keys (lo hi v : Nat) : (s.setPair lo hi v).keys = s.keys := rfl
@[simp] theorem State.setPair_pair_ (lo hi v : Nat) : (s.setPair lo hi v).pair_ = s.pair_ := rfl
@[simp] theorem State.setPair_fw (lo hi v : Nat) : (s.setPair lo hi v).fw = s.fw := rfl
@[simp] theorem State.setPair_integ (lo hi v : Nat) : (s.setPair lo hi v).integ = s.integ := rfl
@[simp] theorem State.setPair_free (lo hi v : Nat) : (s.setPair lo hi v).free = s.free := rfl
@[simp] theorem State.setPair_out (lo hi v : Nat) : (s.setPair lo hi v).out = s.out := rfl
@[simp] theorem State.setPair_pending (lo hi v : Nat) : (s.setPair lo hi v).pending = s.pending := rfl

/-! ### `State.bump` -/

@[simp] theorem State.bump_mem (f : Fld) : (s.bump f).mem = s.mem := rfl
@[simp] theorem State.bump_latches (f : Fld) : (s.bump f).latches = s.latches := rfl
@[simp] theorem State.bump_time (f : Fld) : (s.bump f).time = s.time := rfl
@[simp] theorem State.bump_cal (f : Fld) : (s.bump f).cal = s.cal := rfl
@[simp] theorem State.bump_net (f : Fld) : (s.bump f).net = s.net := rfl
@[simp] theorem State.bump_order (f : Fld) : (s.bump f).order = s.order := rfl
@[simp] theorem State.bump_peat (f : Fld) : (s.bump f).peat = s.peat := rfl
@[simp] theorem State.bump_sched (f : Fld) : (s.bump f).sched = s.sched := rfl
@[simp] theorem State.bump_host (f : Fld) : (s.bump f).host = s.host := rfl
@[simp] theorem State.bump_power (f : Fld) : (s.bump f).power = s.power := rfl
@[simp] theorem State.bump_meter (f : Fld) : (s.bump f).meter = s.meter := rfl
@[simp] theorem State.bump_capture (f : Fld) : (s.bump f).capture = s.capture := rfl
@[simp] theorem State.bump_afe (f : Fld) : (s.bump f).afe = s.afe := rfl
@[simp] theorem State.bump_links (f : Fld) : (s.bump f).links = s.links := rfl
@[simp] theorem State.bump_align (f : Fld) : (s.bump f).align = s.align := rfl
@[simp] theorem State.bump_phasor (f : Fld) : (s.bump f).phasor = s.phasor := rfl
@[simp] theorem State.bump_streams (f : Fld) : (s.bump f).streams = s.streams := rfl
@[simp] theorem State.bump_detect (f : Fld) : (s.bump f).detect = s.detect := rfl
@[simp] theorem State.bump_tables (f : Fld) : (s.bump f).tables = s.tables := rfl
@[simp] theorem State.bump_keys (f : Fld) : (s.bump f).keys = s.keys := rfl
@[simp] theorem State.bump_pair_ (f : Fld) : (s.bump f).pair_ = s.pair_ := rfl
@[simp] theorem State.bump_fw (f : Fld) : (s.bump f).fw = s.fw := rfl
@[simp] theorem State.bump_integ (f : Fld) : (s.bump f).integ = s.integ := rfl
@[simp] theorem State.bump_free (f : Fld) : (s.bump f).free = s.free := rfl
@[simp] theorem State.bump_out (f : Fld) : (s.bump f).out = s.out := rfl
@[simp] theorem State.bump_pending (f : Fld) : (s.bump f).pending = s.pending := rfl

/-! ### `State.emit` -/

@[simp] theorem State.emit_regs (o : Output) : (s.emit o).regs = s.regs := rfl
@[simp] theorem State.emit_mem (o : Output) : (s.emit o).mem = s.mem := rfl
@[simp] theorem State.emit_latches (o : Output) : (s.emit o).latches = s.latches := rfl
@[simp] theorem State.emit_time (o : Output) : (s.emit o).time = s.time := rfl
@[simp] theorem State.emit_cal (o : Output) : (s.emit o).cal = s.cal := rfl
@[simp] theorem State.emit_net (o : Output) : (s.emit o).net = s.net := rfl
@[simp] theorem State.emit_order (o : Output) : (s.emit o).order = s.order := rfl
@[simp] theorem State.emit_peat (o : Output) : (s.emit o).peat = s.peat := rfl
@[simp] theorem State.emit_sched (o : Output) : (s.emit o).sched = s.sched := rfl
@[simp] theorem State.emit_host (o : Output) : (s.emit o).host = s.host := rfl
@[simp] theorem State.emit_power (o : Output) : (s.emit o).power = s.power := rfl
@[simp] theorem State.emit_meter (o : Output) : (s.emit o).meter = s.meter := rfl
@[simp] theorem State.emit_capture (o : Output) : (s.emit o).capture = s.capture := rfl
@[simp] theorem State.emit_afe (o : Output) : (s.emit o).afe = s.afe := rfl
@[simp] theorem State.emit_links (o : Output) : (s.emit o).links = s.links := rfl
@[simp] theorem State.emit_align (o : Output) : (s.emit o).align = s.align := rfl
@[simp] theorem State.emit_phasor (o : Output) : (s.emit o).phasor = s.phasor := rfl
@[simp] theorem State.emit_streams (o : Output) : (s.emit o).streams = s.streams := rfl
@[simp] theorem State.emit_detect (o : Output) : (s.emit o).detect = s.detect := rfl
@[simp] theorem State.emit_tables (o : Output) : (s.emit o).tables = s.tables := rfl
@[simp] theorem State.emit_keys (o : Output) : (s.emit o).keys = s.keys := rfl
@[simp] theorem State.emit_pair_ (o : Output) : (s.emit o).pair_ = s.pair_ := rfl
@[simp] theorem State.emit_fw (o : Output) : (s.emit o).fw = s.fw := rfl
@[simp] theorem State.emit_integ (o : Output) : (s.emit o).integ = s.integ := rfl
@[simp] theorem State.emit_free (o : Output) : (s.emit o).free = s.free := rfl
@[simp] theorem State.emit_pending (o : Output) : (s.emit o).pending = s.pending := rfl

/-! ### `State.draw` -/

@[simp] theorem State.draw_regs : (s.draw).regs = s.regs := rfl
@[simp] theorem State.draw_mem : (s.draw).mem = s.mem := rfl
@[simp] theorem State.draw_latches : (s.draw).latches = s.latches := rfl
@[simp] theorem State.draw_time : (s.draw).time = s.time := rfl
@[simp] theorem State.draw_cal : (s.draw).cal = s.cal := rfl
@[simp] theorem State.draw_net : (s.draw).net = s.net := rfl
@[simp] theorem State.draw_order : (s.draw).order = s.order := rfl
@[simp] theorem State.draw_peat : (s.draw).peat = s.peat := rfl
@[simp] theorem State.draw_sched : (s.draw).sched = s.sched := rfl
@[simp] theorem State.draw_host : (s.draw).host = s.host := rfl
@[simp] theorem State.draw_power : (s.draw).power = s.power := rfl
@[simp] theorem State.draw_meter : (s.draw).meter = s.meter := rfl
@[simp] theorem State.draw_capture : (s.draw).capture = s.capture := rfl
@[simp] theorem State.draw_afe : (s.draw).afe = s.afe := rfl
@[simp] theorem State.draw_links : (s.draw).links = s.links := rfl
@[simp] theorem State.draw_align : (s.draw).align = s.align := rfl
@[simp] theorem State.draw_phasor : (s.draw).phasor = s.phasor := rfl
@[simp] theorem State.draw_streams : (s.draw).streams = s.streams := rfl
@[simp] theorem State.draw_detect : (s.draw).detect = s.detect := rfl
@[simp] theorem State.draw_tables : (s.draw).tables = s.tables := rfl
@[simp] theorem State.draw_keys : (s.draw).keys = s.keys := rfl
@[simp] theorem State.draw_pair_ : (s.draw).pair_ = s.pair_ := rfl
@[simp] theorem State.draw_fw : (s.draw).fw = s.fw := rfl
@[simp] theorem State.draw_integ : (s.draw).integ = s.integ := rfl
@[simp] theorem State.draw_out : (s.draw).out = s.out := rfl
@[simp] theorem State.draw_pending : (s.draw).pending = s.pending := rfl

/-! ### `State.memWrite` -/

@[simp] theorem State.memWrite_regs (a : Nat) (bs : List Byte) : (s.memWrite a bs).regs = s.regs := rfl
@[simp] theorem State.memWrite_latches (a : Nat) (bs : List Byte) : (s.memWrite a bs).latches = s.latches := rfl
@[simp] theorem State.memWrite_time (a : Nat) (bs : List Byte) : (s.memWrite a bs).time = s.time := rfl
@[simp] theorem State.memWrite_cal (a : Nat) (bs : List Byte) : (s.memWrite a bs).cal = s.cal := rfl
@[simp] theorem State.memWrite_net (a : Nat) (bs : List Byte) : (s.memWrite a bs).net = s.net := rfl
@[simp] theorem State.memWrite_order (a : Nat) (bs : List Byte) : (s.memWrite a bs).order = s.order := rfl
@[simp] theorem State.memWrite_peat (a : Nat) (bs : List Byte) : (s.memWrite a bs).peat = s.peat := rfl
@[simp] theorem State.memWrite_sched (a : Nat) (bs : List Byte) : (s.memWrite a bs).sched = s.sched := rfl
@[simp] theorem State.memWrite_host (a : Nat) (bs : List Byte) : (s.memWrite a bs).host = s.host := rfl
@[simp] theorem State.memWrite_power (a : Nat) (bs : List Byte) : (s.memWrite a bs).power = s.power := rfl
@[simp] theorem State.memWrite_meter (a : Nat) (bs : List Byte) : (s.memWrite a bs).meter = s.meter := rfl
@[simp] theorem State.memWrite_capture (a : Nat) (bs : List Byte) : (s.memWrite a bs).capture = s.capture := rfl
@[simp] theorem State.memWrite_afe (a : Nat) (bs : List Byte) : (s.memWrite a bs).afe = s.afe := rfl
@[simp] theorem State.memWrite_links (a : Nat) (bs : List Byte) : (s.memWrite a bs).links = s.links := rfl
@[simp] theorem State.memWrite_align (a : Nat) (bs : List Byte) : (s.memWrite a bs).align = s.align := rfl
@[simp] theorem State.memWrite_phasor (a : Nat) (bs : List Byte) : (s.memWrite a bs).phasor = s.phasor := rfl
@[simp] theorem State.memWrite_streams (a : Nat) (bs : List Byte) : (s.memWrite a bs).streams = s.streams := rfl
@[simp] theorem State.memWrite_detect (a : Nat) (bs : List Byte) : (s.memWrite a bs).detect = s.detect := rfl
@[simp] theorem State.memWrite_tables (a : Nat) (bs : List Byte) : (s.memWrite a bs).tables = s.tables := rfl
@[simp] theorem State.memWrite_keys (a : Nat) (bs : List Byte) : (s.memWrite a bs).keys = s.keys := rfl
@[simp] theorem State.memWrite_pair_ (a : Nat) (bs : List Byte) : (s.memWrite a bs).pair_ = s.pair_ := rfl
@[simp] theorem State.memWrite_fw (a : Nat) (bs : List Byte) : (s.memWrite a bs).fw = s.fw := rfl
@[simp] theorem State.memWrite_free (a : Nat) (bs : List Byte) : (s.memWrite a bs).free = s.free := rfl
@[simp] theorem State.memWrite_out (a : Nat) (bs : List Byte) : (s.memWrite a bs).out = s.out := rfl
@[simp] theorem State.memWrite_pending (a : Nat) (bs : List Byte) : (s.memWrite a bs).pending = s.pending := rfl

/-! ### Reads after writes -/

@[simp] theorem State.emit_reg (o : Output) (off : Nat) : (s.emit o).reg off = s.reg off := rfl
@[simp] theorem State.draw_reg (off : Nat) : s.draw.reg off = s.reg off := rfl
@[simp] theorem State.emit_get (o : Output) (f : Fld) : (s.emit o).get f = s.get f := rfl
@[simp] theorem State.draw_get (f : Fld) : s.draw.get f = s.get f := rfl
@[simp] theorem State.emit_out (o : Output) : (s.emit o).out = s.out ++ [o] := rfl
@[simp] theorem State.draw_free : s.draw.free = s.free + 1 := rfl

/-- A register write is read back (R5). -/
theorem State.reg_setReg_same {s : State} (h : Store.wf resetWord s.regs = true) (off : Nat) (w : Word) :
    (s.setReg off w).reg off = w := Store.get_set_same off w h

/-- A register write leaves every other register as it was. -/
theorem State.reg_setReg_other {s : State} {off o : Nat} (w : Word) (h : o ≠ off) : (s.setReg off w).reg o = s.reg o :=
  Store.get_set_other w h

/-- A register write keeps the register file canonical. -/
theorem State.setReg_wf {s : State} (h : Store.wf resetWord s.regs = true) (off : Nat) (w : Word) :
    Store.wf resetWord (s.setReg off w).regs = true := Store.set_wf off w h

/-- A field write leaves every other register as it was. -/
theorem State.reg_put_other {s : State} {f : Fld} {o : Nat} (v : Nat) (h : o ≠ f.off) : (s.put f v).reg o = s.reg o :=
  State.reg_setReg_other _ h

/-- A whole-register write leaves every other register as it was. -/
theorem State.reg_setWord_other {s : State} {off o : Nat} (v : Nat) (h : o ≠ off) : (s.setWord off v).reg o = s.reg o :=
  State.reg_setReg_other _ h

/-- A field write leaves fields of other registers as they were. -/
theorem State.get_put_other {s : State} {f g : Fld} (v : Nat) (h : g.off ≠ f.off) : (s.put f v).get g = s.get g := by
  unfold State.get; rw [State.reg_put_other v h]

/-- A whole-register write leaves fields of other registers as they were. -/
theorem State.get_setWord_other {s : State} {off : Nat} {g : Fld} (v : Nat) (h : g.off ≠ off) : (s.setWord off v).get g = s.get g := by
  unfold State.get; rw [State.reg_setWord_other v h]

/-- A field write keeps the register file canonical. -/
theorem State.put_wf {s : State} (h : Store.wf resetWord s.regs = true) (f : Fld) (v : Nat) :
    Store.wf resetWord (s.put f v).regs = true := State.setReg_wf h _ _

/-! ### Fields of words -/

/-- A field fits its width. -/
theorem Word.field_lt (w : Word) (hi lo : Nat) : w.field hi lo < 2 ^ (hi + 1 - lo) :=
  Nat.mod_lt _ (Nat.two_pow_pos _)

/-- A word split around a field, and what a field write makes of it. -/
theorem Word.withField_toNat (w : Word) {hi lo : Nat} (v : Nat) (h : lo ≤ hi) (h' : hi < 32) :
    ∃ g c, c < 2 ^ lo ∧ w.toNat = 2 ^ lo * (2 ^ (hi + 1 - lo) * g + w.field hi lo) + c ∧
      (w.withField hi lo v).toNat = 2 ^ lo * (2 ^ (hi + 1 - lo) * g + v % 2 ^ (hi + 1 - lo)) + c := by
  have hw : w.toNat < 2 ^ 32 := w.isLt
  have e1 := Nat.div_add_mod w.toNat (2 ^ lo)
  have hc := Nat.mod_lt w.toNat (Nat.two_pow_pos lo)
  have e2 := Nat.div_add_mod (w.toNat / 2 ^ lo) (2 ^ (hi + 1 - lo))
  have hf : w.field hi lo = w.toNat / 2 ^ lo % 2 ^ (hi + 1 - lo) := by rw [Word.field, Nat.shiftRight_eq_div_pow]
  have hp : (2 : Nat) ^ 32 = 2 ^ lo * 2 ^ (hi + 1 - lo) * 2 ^ (31 - hi) := by
    rw [← Nat.pow_add, ← Nat.pow_add]; congr 1; omega
  unfold Word.withField
  rw [hf, BitVec.toNat_ofNat]
  generalize w.toNat / 2 ^ lo / 2 ^ (hi + 1 - lo) = g at e2
  generalize w.toNat / 2 ^ lo % 2 ^ (hi + 1 - lo) = f at *
  generalize w.toNat % 2 ^ lo = c at *
  rw [← e2] at e1
  have hv := Nat.mod_lt v (Nat.two_pow_pos (hi + 1 - lo))
  generalize v % 2 ^ (hi + 1 - lo) = u at *
  refine ⟨g, c, hc, e1.symm, ?_⟩
  rw [hp] at hw ⊢
  generalize (2 : Nat) ^ lo = A at *
  generalize (2 : Nat) ^ (hi + 1 - lo) = B at *
  generalize (2 : Nat) ^ (31 - hi) = C at *
  have hX : w.toNat - f * A + u * A = A * (B * g + u) + c := by
    rw [← e1, Nat.mul_add, Nat.mul_add, Nat.mul_comm f A, Nat.mul_comm u A]; omega
  rw [hX, Nat.mod_eq_of_lt]
  have hg : g < C := by
    by_contra hg
    have h1 : A * (B * C) ≤ A * (B * g) := Nat.mul_le_mul_left _ (Nat.mul_le_mul_left _ (by omega))
    rw [← Nat.mul_assoc] at h1
    rw [← e1, Nat.mul_add] at hw
    omega
  calc A * (B * g + u) + c < A * (B * g + u) + A := by omega
    _ = A * (B * g + u + 1) := by ring
    _ ≤ A * (B * g + B) := Nat.mul_le_mul_left _ (by omega)
    _ = A * (B * (g + 1)) := by ring
    _ ≤ A * (B * C) := Nat.mul_le_mul_left _ (Nat.mul_le_mul_left _ hg)
    _ = A * B * C := by ring

/-- A written field reads back its low bits. -/
theorem Word.field_withField_same (w : Word) {hi lo : Nat} (v : Nat) (h : lo ≤ hi) (h' : hi < 32) :
    (w.withField hi lo v).field hi lo = v % 2 ^ (hi + 1 - lo) := by
  obtain ⟨g, c, hc, -, e⟩ := Word.withField_toNat w v h h'
  rw [Word.field, e, Nat.shiftRight_eq_div_pow, Nat.mul_add_div (Nat.two_pow_pos lo), Nat.div_eq_of_lt hc, Nat.add_zero,
    Nat.mul_add_mod, Nat.mod_mod]

/-- A field write leaves a field above it as it was. -/
theorem Word.field_withField_above (w : Word) {hi lo hi' lo' : Nat} (v : Nat) (h : lo ≤ hi) (h' : hi < 32) (h2 : hi < lo') :
    (w.withField hi lo v).field hi' lo' = w.field hi' lo' := by
  obtain ⟨g, c, hc, e0, e⟩ := Word.withField_toNat w v h h'
  have key : ∀ u, u < 2 ^ (hi + 1 - lo) → (2 ^ lo * (2 ^ (hi + 1 - lo) * g + u) + c) / 2 ^ lo' = g / 2 ^ (lo' - hi - 1) := by
    intro u hu
    have : (2 : Nat) ^ lo' = 2 ^ lo * (2 ^ (hi + 1 - lo) * 2 ^ (lo' - hi - 1)) := by
      rw [← Nat.pow_add, ← Nat.pow_add]; congr 1; omega
    rw [this, ← Nat.div_div_eq_div_mul, Nat.mul_add_div (Nat.two_pow_pos lo), Nat.div_eq_of_lt hc, Nat.add_zero,
      ← Nat.div_div_eq_div_mul, Nat.mul_add_div (Nat.two_pow_pos _), Nat.div_eq_of_lt hu, Nat.add_zero]
  rw [Word.field, Word.field, e, e0, Nat.shiftRight_eq_div_pow, Nat.shiftRight_eq_div_pow,
    key _ (Nat.mod_lt _ (Nat.two_pow_pos _)), key _ (Word.field_lt w hi lo)]

/-- A field write leaves a field below it as it was. -/
theorem Word.field_withField_below (w : Word) {hi lo hi' lo' : Nat} (v : Nat) (h : lo ≤ hi) (h' : hi < 32) (h2 : hi' < lo) (h3 : lo' ≤ hi') :
    (w.withField hi lo v).field hi' lo' = w.field hi' lo' := by
  obtain ⟨g, c, hc, e0, e⟩ := Word.withField_toNat w v h h'
  have key : ∀ u, (2 ^ lo * u + c) / 2 ^ lo' % 2 ^ (hi' + 1 - lo') = c / 2 ^ lo' % 2 ^ (hi' + 1 - lo') := by
    intro u
    have : (2 : Nat) ^ lo * u = 2 ^ lo' * (2 ^ (hi' + 1 - lo') * (2 ^ (lo - hi' - 1) * u)) := by
      rw [← Nat.mul_assoc, ← Nat.mul_assoc, ← Nat.pow_add, ← Nat.pow_add]; congr 2; omega
    rw [this, Nat.mul_add_div (Nat.two_pow_pos _), Nat.mul_add_mod]
  rw [Word.field, Word.field, e, e0, Nat.shiftRight_eq_div_pow, Nat.shiftRight_eq_div_pow, key, key]

/-- A written field reads back (R5): within a register, when the register file is canonical. -/
theorem State.get_put_same {s : State} {f : Fld} (h : Store.wf resetWord s.regs = true) (hf : f.lo ≤ f.hi) (hf' : f.hi < 32) (v : Nat) :
    (s.put f v).get f = v % 2 ^ (f.hi + 1 - f.lo) := by
  unfold State.get State.put
  rw [State.reg_setReg_same h]; exact Word.field_withField_same _ v hf hf'

/-- A field write leaves the fields above and below it in its register as they were. -/
theorem State.get_put_apart {s : State} {f g : Fld} (h : Store.wf resetWord s.regs = true) (hf : f.lo ≤ f.hi) (hf' : f.hi < 32)
    (hg : g.lo ≤ g.hi) (hfg : f.hi < g.lo ∨ g.hi < f.lo) (v : Nat) : (s.put f v).get g = s.get g := by
  by_cases ho : g.off = f.off
  · unfold State.get State.put
    rw [ho, State.reg_setReg_same h]
    rcases hfg with hfg | hfg
    · exact Word.field_withField_above _ v hf hf' hfg
    · exact Word.field_withField_below _ v hf hf' hfg hg
  · exact State.get_put_other v ho

/-- A whole register written as a number is read back modulo 2³². -/
theorem State.word_setWord_same {s : State} (h : Store.wf resetWord s.regs = true) (off v : Nat) :
    (s.setWord off v).word off = v % 2 ^ 32 := by
  unfold State.word State.setWord
  rw [State.reg_setReg_same h, BitVec.toNat_ofNat]

/-! ### Memory -/

/-- A byte written to a canonical memory is read back. -/
theorem Memory.read_write_same {m : List Host.Cell} (a : Nat) (b : Byte) (h : Memory.wf m = true) :
    Memory.read (Memory.write m a b) a = b := Store.get_set_same a b h

/-- A byte written leaves every other byte as it was. -/
theorem Memory.read_write_other {m : List Host.Cell} {a i : Nat} (b : Byte) (h : i ≠ a) :
    Memory.read (Memory.write m a b) i = Memory.read m i := Store.get_set_other b h

/-- A byte write keeps the canonical form. -/
theorem Memory.write_wf {m : List Host.Cell} (a : Nat) (b : Byte) (h : Memory.wf m = true) : Memory.wf (Memory.write m a b) = true :=
  Store.set_wf a b h

/-- A write of several bytes keeps the canonical form. -/
theorem Memory.writeAll_wf {m : List Host.Cell} (a : Nat) (bs : List Byte) (h : Memory.wf m = true) :
    Memory.wf (Memory.writeAll m a bs) = true := by
  induction bs generalizing m a with
  | nil => exact h
  | cons b bs ih => exact ih (a + 1) (Memory.write_wf a b h)

/-- A write of several bytes leaves every byte outside them as it was. -/
theorem Memory.read_writeAll_other {m : List Host.Cell} {a i : Nat} (bs : List Byte) (h : i < a ∨ a + bs.length ≤ i) :
    Memory.read (Memory.writeAll m a bs) i = Memory.read m i := by
  induction bs generalizing m a with
  | nil => rfl
  | cons b bs ih =>
    simp only [List.length_cons] at h
    unfold Memory.writeAll
    rw [ih (by omega), Memory.read_write_other b (by omega)]

/-- A write of several bytes is read back. -/
theorem Memory.read_writeAll {m : List Host.Cell} {a i : Nat} (bs : List Byte) (h : Memory.wf m = true) (hi : i < bs.length) :
    Memory.read (Memory.writeAll m a bs) (a + i) = bs[i] := by
  induction bs generalizing m a i with
  | nil => simp at hi
  | cons b bs ih =>
    unfold Memory.writeAll
    cases i with
    | zero => rw [Memory.read_writeAll_other bs (by omega)]; exact Memory.read_write_same a b h
    | succ i =>
      have := ih (a := a + 1) (i := i) (Memory.write_wf a b h) (by simpa using hi)
      simpa [Nat.add_assoc, Nat.add_comm 1] using this

/-- Reset memory is canonical. -/
theorem Memory.reset_wf : Memory.wf State.reset.mem = true := rfl

/-- A field over the whole word. -/
theorem Word.field_whole (w : Word) : w.field 31 0 = w.toNat := by
  have := w.isLt
  simp only [Word.field, Nat.shiftRight_zero]
  omega

theorem Word.withField_whole (w : Word) (v : Nat) : w.withField 31 0 v = BitVec.ofNat 32 v := by
  apply BitVec.eq_of_toNat_eq
  have := w.isLt
  simp only [Word.withField, Word.field_whole, BitVec.toNat_ofNat]
  omega

/-- A field of a word given as a number. -/
theorem Word.field_ofNat {v : Nat} (hi lo : Nat) (h : v < 2 ^ 32) :
    Word.field (BitVec.ofNat 32 v) hi lo = v / 2 ^ lo % 2 ^ (hi + 1 - lo) := by
  simp only [Word.field, BitVec.toNat_ofNat, Nat.mod_eq_of_lt h, Nat.shiftRight_eq_div_pow]

/-- A register set to a word reads as that word. -/
theorem State.word_setReg_same {s : State} (h : Store.wf resetWord s.regs = true) (off : Nat) (w : Word) :
    (s.setReg off w).word off = w.toNat := by rw [State.word, State.reg_setReg_same h]

theorem State.canonical_regs {s : State} (h : s.canonical = true) : Store.wf resetWord s.regs = true := by
  simp only [State.canonical, Bool.and_eq_true] at h
  exact h.1

end Sys2Proof.Machine
end

