-- ==== Sys2Proof/Laws/Frame.lean ====
section
/-!
SUPPORT. What an operation can change. Each part of the state has a bit of a mask, and `Frame M s t` says that t has the
queue of s, is canonical when s is, and differs from s in the parts of mask M alone; that the audit log is appended to at most; and,
without bit 26, that the monotonic count stands.
-/

set_option Elab.async false

namespace Sys2Proof.Machine

/-- The bits of the parts: regs 0, mem 1, latches 2, time 3, cal 4, net 5, order 6, peat 7, sched 8, host 9, power 10, meter 11, capture 12, afe 13, links 14, align 15, phasor 16, streams 17, detect 18, tables 19, keys 20, pair_ 21, fw 22, integ 23, free 24, out 25; bit 26 of a mask is the monotonic count. -/
abbrev partBits : Nat := 26

/-- A state with the parts of a mask blanked. -/
noncomputable def State.hide (M : Nat) (s : State) : State where
  regs := Bool.rec (motive := fun _ => Store Word) s.regs [] (M.testBit 0)
  mem := Bool.rec (motive := fun _ => List Host.Cell) s.mem [] (M.testBit 1)
  latches := Bool.rec (motive := fun _ => List Latch) s.latches [] (M.testBit 2)
  time := Bool.rec (motive := fun _ => TimeState) s.time {} (M.testBit 3)
  cal := Bool.rec (motive := fun _ => CalState) s.cal {} (M.testBit 4)
  net := Bool.rec (motive := fun _ => NetState) s.net {} (M.testBit 5)
  order := Bool.rec (motive := fun _ => OrderState) s.order {} (M.testBit 6)
  peat := Bool.rec (motive := fun _ => PeatState) s.peat {} (M.testBit 7)
  sched := Bool.rec (motive := fun _ => SchedState) s.sched {} (M.testBit 8)
  host := Bool.rec (motive := fun _ => HostState) s.host {} (M.testBit 9)
  power := Bool.rec (motive := fun _ => PowerState) s.power {} (M.testBit 10)
  meter := Bool.rec (motive := fun _ => MeterState) s.meter {} (M.testBit 11)
  capture := Bool.rec (motive := fun _ => CaptureState) s.capture {} (M.testBit 12)
  afe := Bool.rec (motive := fun _ => AnalogueState) s.afe {} (M.testBit 13)
  links := Bool.rec (motive := fun _ => Store LaneLink) s.links [] (M.testBit 14)
  align := Bool.rec (motive := fun _ => AlignState) s.align {} (M.testBit 15)
  phasor := Bool.rec (motive := fun _ => PhasorState) s.phasor {} (M.testBit 16)
  streams := Bool.rec (motive := fun _ => StreamState) s.streams {} (M.testBit 17)
  detect := Bool.rec (motive := fun _ => DetectState) s.detect {} (M.testBit 18)
  tables := Bool.rec (motive := fun _ => Store (List Nat)) s.tables [] (M.testBit 19)
  keys := Bool.rec (motive := fun _ => KeyState) s.keys {} (M.testBit 20)
  pair_ := Bool.rec (motive := fun _ => PairState) s.pair_ {} (M.testBit 21)
  fw := Bool.rec (motive := fun _ => FwState) s.fw {} (M.testBit 22)
  integ := Bool.rec (motive := fun _ => IntegState) s.integ {} (M.testBit 23)
  free := Bool.rec (motive := fun _ => Nat) s.free 0 (M.testBit 24)
  out := Bool.rec (motive := fun _ => List Output) s.out [] (M.testBit 25)

/-- The same as `hide`, under another name: two different heads make Lean compare the parts and not the states. -/
noncomputable def State.blank (M : Nat) (s : State) : State where
  regs := Bool.rec (motive := fun _ => Store Word) s.regs [] (M.testBit 0)
  mem := Bool.rec (motive := fun _ => List Host.Cell) s.mem [] (M.testBit 1)
  latches := Bool.rec (motive := fun _ => List Latch) s.latches [] (M.testBit 2)
  time := Bool.rec (motive := fun _ => TimeState) s.time {} (M.testBit 3)
  cal := Bool.rec (motive := fun _ => CalState) s.cal {} (M.testBit 4)
  net := Bool.rec (motive := fun _ => NetState) s.net {} (M.testBit 5)
  order := Bool.rec (motive := fun _ => OrderState) s.order {} (M.testBit 6)
  peat := Bool.rec (motive := fun _ => PeatState) s.peat {} (M.testBit 7)
  sched := Bool.rec (motive := fun _ => SchedState) s.sched {} (M.testBit 8)
  host := Bool.rec (motive := fun _ => HostState) s.host {} (M.testBit 9)
  power := Bool.rec (motive := fun _ => PowerState) s.power {} (M.testBit 10)
  meter := Bool.rec (motive := fun _ => MeterState) s.meter {} (M.testBit 11)
  capture := Bool.rec (motive := fun _ => CaptureState) s.capture {} (M.testBit 12)
  afe := Bool.rec (motive := fun _ => AnalogueState) s.afe {} (M.testBit 13)
  links := Bool.rec (motive := fun _ => Store LaneLink) s.links [] (M.testBit 14)
  align := Bool.rec (motive := fun _ => AlignState) s.align {} (M.testBit 15)
  phasor := Bool.rec (motive := fun _ => PhasorState) s.phasor {} (M.testBit 16)
  streams := Bool.rec (motive := fun _ => StreamState) s.streams {} (M.testBit 17)
  detect := Bool.rec (motive := fun _ => DetectState) s.detect {} (M.testBit 18)
  tables := Bool.rec (motive := fun _ => Store (List Nat)) s.tables [] (M.testBit 19)
  keys := Bool.rec (motive := fun _ => KeyState) s.keys {} (M.testBit 20)
  pair_ := Bool.rec (motive := fun _ => PairState) s.pair_ {} (M.testBit 21)
  fw := Bool.rec (motive := fun _ => FwState) s.fw {} (M.testBit 22)
  integ := Bool.rec (motive := fun _ => IntegState) s.integ {} (M.testBit 23)
  free := Bool.rec (motive := fun _ => Nat) s.free 0 (M.testBit 24)
  out := Bool.rec (motive := fun _ => List Output) s.out [] (M.testBit 25)

theorem State.blank_eq (M : Nat) (s : State) : s.blank M = s.hide M := rfl


/-- t has the queue of s, is canonical when s is, differs from it in the parts of M alone, keeps the legal audit log but for entries
appended, and keeps the monotonic count unless M has bit 26. -/
structure Frame (M : Nat) (s t : State) : Prop where
  canon : s.canonical = true → t.canonical = true
  queue : t.pending = s.pending
  rest : t.hide M = s.hide M
  audit : s.meter.audit <+: t.meter.audit
  mono : M.testBit 26 = false → t.time.mono = s.time.mono

theorem Frame.refl (M : Nat) (s : State) : Frame M s s := ⟨id, rfl, rfl, List.prefix_rfl, fun _ => rfl⟩

/-- Blanking a part twice, when the second mask holds what the first does. -/
theorem pick_pick {α : Type} (a d : α) (f m : Bool) (h : m = false → f = false) :
    (Bool.rec (motive := fun _ => α) (Bool.rec (motive := fun _ => α) a d f) d m : α) = Bool.rec (motive := fun _ => α) a d m := by
  cases m <;> cases f <;> simp_all

/-- Blanking more parts blanks these. -/
theorem State.hide_hide {F M : Nat} (h : F &&& M = F) (s : State) : (s.hide F).hide M = s.hide M := by
  have key : ∀ i, M.testBit i = false → F.testBit i = false := fun i hi => by
    rw [← h, Nat.testBit_land, hi, Bool.and_false]
  unfold State.hide
  simp only [State.mk.injEq, and_true]
  refine ⟨pick_pick _ _ _ _ (key _), pick_pick _ _ _ _ (key _), pick_pick _ _ _ _ (key _), pick_pick _ _ _ _ (key _), pick_pick _ _ _ _ (key _), pick_pick _ _ _ _ (key _), pick_pick _ _ _ _ (key _), pick_pick _ _ _ _ (key _), pick_pick _ _ _ _ (key _), pick_pick _ _ _ _ (key _), pick_pick _ _ _ _ (key _), pick_pick _ _ _ _ (key _), pick_pick _ _ _ _ (key _), pick_pick _ _ _ _ (key _), pick_pick _ _ _ _ (key _), pick_pick _ _ _ _ (key _), pick_pick _ _ _ _ (key _), pick_pick _ _ _ _ (key _), pick_pick _ _ _ _ (key _), pick_pick _ _ _ _ (key _), pick_pick _ _ _ _ (key _), pick_pick _ _ _ _ (key _), pick_pick _ _ _ _ (key _), pick_pick _ _ _ _ (key _), pick_pick _ _ _ _ (key _), pick_pick _ _ _ _ (key _)⟩

/-- Masks within masks. -/
theorem mask_trans {F G M : Nat} (h : F &&& G = F) (h' : G &&& M = G) : F &&& M = F := by rw [← h, Nat.land_assoc, h']

/-- An operation with a smaller mask done after others. -/
theorem Frame.step {F M : Nat} {s t u : State} (h : Frame M s t) (h0 : Frame F t u) (hm : F &&& M = F) : Frame M s u :=
  ⟨fun c => h0.canon (h.canon c), h0.queue.trans h.queue, by
    rw [← State.hide_hide hm u, h0.rest, State.hide_hide hm t]; exact h.rest, h.audit.trans h0.audit, fun c => by
    have hf : F.testBit 26 = false := by rw [← hm, Nat.testBit_land, c, Bool.and_false]
    exact (h0.mono hf).trans (h.mono c)⟩

/-- A smaller mask says more. -/
theorem Frame.weaken {F M : Nat} {s t : State} (h : Frame F s t) (hm : F &&& M = F) : Frame M s t := (Frame.refl M s).step h hm

/-- An update of parts in the mask other than registers and memory, which appends to the audit log at most. -/
theorem Frame.upd {M : Nat} {s t : State}
    {latches : List Latch}
    {time : TimeState}
    {cal : CalState}
    {net : NetState}
    {order : OrderState}
    {peat : PeatState}
    {sched : SchedState}
    {host : HostState}
    {power : PowerState}
    {meter : MeterState}
    {capture : CaptureState}
    {afe : AnalogueState}
    {links : Store LaneLink}
    {align : AlignState}
    {phasor : PhasorState}
    {streams : StreamState}
    {detect : DetectState}
    {tables : Store (List Nat)}
    {keys : KeyState}
    {pair_ : PairState}
    {fw : FwState}
    {integ : IntegState}
    {free : Nat}
    {out : List Output}
    (h : Frame M s t)
    (hh : State.hide M (State.mk t.regs t.mem latches time cal net order peat sched host power meter capture afe links align phasor streams detect tables keys pair_ fw integ free out t.pending) = t.blank M)
    (ha : t.meter.audit <+: meter.audit := by exact List.prefix_rfl)
    (hm : M.testBit 26 = false → time.mono = t.time.mono := by exact fun _ => rfl) :
    Frame M s (State.mk t.regs t.mem latches time cal net order peat sched host power meter capture afe links align phasor streams detect tables keys pair_ fw integ free out t.pending) :=
  ⟨fun c => h.canon c, h.queue, (hh.trans (State.blank_eq M t)).trans h.rest, h.audit.trans ha, fun c => (hm c).trans (h.mono c)⟩

/-- Entries of the register file left out. -/
theorem Frame.filterRegs {M : Nat} {s t : State} (p : Nat × Word → Bool) (h : Frame M s t) (hm : M.testBit 0 = true) :
    Frame M s { t with regs := t.regs.filter p } :=
  ⟨fun c => by
    have := h.canon c
    simp only [State.canonical, Bool.and_eq_true] at *
    exact ⟨Store.filter_wf p this.1, this.2⟩, h.queue, by rw [← h.rest]; unfold State.hide; simp only [hm, if_true], h.audit, h.mono⟩

/-! ### The parts outside a mask are as they were -/

theorem Frame.regs {M : Nat} {s t : State} (h : Frame M s t) (hm : M.testBit 0 = false) : t.regs = s.regs := by
  have := congrArg State.regs h.rest; simpa [State.hide, hm] using this
theorem Frame.mem {M : Nat} {s t : State} (h : Frame M s t) (hm : M.testBit 1 = false) : t.mem = s.mem := by
  have := congrArg State.mem h.rest; simpa [State.hide, hm] using this
theorem Frame.latches {M : Nat} {s t : State} (h : Frame M s t) (hm : M.testBit 2 = false) : t.latches = s.latches := by
  have := congrArg State.latches h.rest; simpa [State.hide, hm] using this
theorem Frame.time {M : Nat} {s t : State} (h : Frame M s t) (hm : M.testBit 3 = false) : t.time = s.time := by
  have := congrArg State.time h.rest; simpa [State.hide, hm] using this
theorem Frame.cal {M : Nat} {s t : State} (h : Frame M s t) (hm : M.testBit 4 = false) : t.cal = s.cal := by
  have := congrArg State.cal h.rest; simpa [State.hide, hm] using this
theorem Frame.net {M : Nat} {s t : State} (h : Frame M s t) (hm : M.testBit 5 = false) : t.net = s.net := by
  have := congrArg State.net h.rest; simpa [State.hide, hm] using this
theorem Frame.order {M : Nat} {s t : State} (h : Frame M s t) (hm : M.testBit 6 = false) : t.order = s.order := by
  have := congrArg State.order h.rest; simpa [State.hide, hm] using this
theorem Frame.peat {M : Nat} {s t : State} (h : Frame M s t) (hm : M.testBit 7 = false) : t.peat = s.peat := by
  have := congrArg State.peat h.rest; simpa [State.hide, hm] using this
theorem Frame.sched {M : Nat} {s t : State} (h : Frame M s t) (hm : M.testBit 8 = false) : t.sched = s.sched := by
  have := congrArg State.sched h.rest; simpa [State.hide, hm] using this
theorem Frame.host {M : Nat} {s t : State} (h : Frame M s t) (hm : M.testBit 9 = false) : t.host = s.host := by
  have := congrArg State.host h.rest; simpa [State.hide, hm] using this
theorem Frame.power {M : Nat} {s t : State} (h : Frame M s t) (hm : M.testBit 10 = false) : t.power = s.power := by
  have := congrArg State.power h.rest; simpa [State.hide, hm] using this
theorem Frame.meter {M : Nat} {s t : State} (h : Frame M s t) (hm : M.testBit 11 = false) : t.meter = s.meter := by
  have := congrArg State.meter h.rest; simpa [State.hide, hm] using this
theorem Frame.capture {M : Nat} {s t : State} (h : Frame M s t) (hm : M.testBit 12 = false) : t.capture = s.capture := by
  have := congrArg State.capture h.rest; simpa [State.hide, hm] using this
theorem Frame.afe {M : Nat} {s t : State} (h : Frame M s t) (hm : M.testBit 13 = false) : t.afe = s.afe := by
  have := congrArg State.afe h.rest; simpa [State.hide, hm] using this
theorem Frame.links {M : Nat} {s t : State} (h : Frame M s t) (hm : M.testBit 14 = false) : t.links = s.links := by
  have := congrArg State.links h.rest; simpa [State.hide, hm] using this
theorem Frame.align {M : Nat} {s t : State} (h : Frame M s t) (hm : M.testBit 15 = false) : t.align = s.align := by
  have := congrArg State.align h.rest; simpa [State.hide, hm] using this
theorem Frame.phasor {M : Nat} {s t : State} (h : Frame M s t) (hm : M.testBit 16 = false) : t.phasor = s.phasor := by
  have := congrArg State.phasor h.rest; simpa [State.hide, hm] using this
theorem Frame.streams {M : Nat} {s t : State} (h : Frame M s t) (hm : M.testBit 17 = false) : t.streams = s.streams := by
  have := congrArg State.streams h.rest; simpa [State.hide, hm] using this
theorem Frame.detect {M : Nat} {s t : State} (h : Frame M s t) (hm : M.testBit 18 = false) : t.detect = s.detect := by
  have := congrArg State.detect h.rest; simpa [State.hide, hm] using this
theorem Frame.tables {M : Nat} {s t : State} (h : Frame M s t) (hm : M.testBit 19 = false) : t.tables = s.tables := by
  have := congrArg State.tables h.rest; simpa [State.hide, hm] using this
theorem Frame.keys {M : Nat} {s t : State} (h : Frame M s t) (hm : M.testBit 20 = false) : t.keys = s.keys := by
  have := congrArg State.keys h.rest; simpa [State.hide, hm] using this
theorem Frame.pair_ {M : Nat} {s t : State} (h : Frame M s t) (hm : M.testBit 21 = false) : t.pair_ = s.pair_ := by
  have := congrArg State.pair_ h.rest; simpa [State.hide, hm] using this
theorem Frame.fw {M : Nat} {s t : State} (h : Frame M s t) (hm : M.testBit 22 = false) : t.fw = s.fw := by
  have := congrArg State.fw h.rest; simpa [State.hide, hm] using this
theorem Frame.integ {M : Nat} {s t : State} (h : Frame M s t) (hm : M.testBit 23 = false) : t.integ = s.integ := by
  have := congrArg State.integ h.rest; simpa [State.hide, hm] using this
theorem Frame.free {M : Nat} {s t : State} (h : Frame M s t) (hm : M.testBit 24 = false) : t.free = s.free := by
  have := congrArg State.free h.rest; simpa [State.hide, hm] using this
theorem Frame.out {M : Nat} {s t : State} (h : Frame M s t) (hm : M.testBit 25 = false) : t.out = s.out := by
  have := congrArg State.out h.rest; simpa [State.hide, hm] using this

/-! ### The plain updates -/

theorem State.setReg_frame (s : State) (off : Nat) (w : Word) : Frame 0x1 s (s.setReg off w) :=
  ⟨fun c => by
    simp only [State.canonical, Bool.and_eq_true] at *
    exact ⟨State.setReg_wf c.1 off w, c.2⟩, rfl, rfl, List.prefix_rfl, fun _ => rfl⟩

theorem State.memWrite_frame (s : State) (a : Nat) (bs : List Byte) : Frame 0x800002 s (s.memWrite a bs) :=
  ⟨fun c => by
    simp only [State.canonical, Bool.and_eq_true] at *
    exact ⟨c.1, Memory.writeAll_wf a bs c.2⟩, rfl, rfl, List.prefix_rfl, fun _ => rfl⟩

/-! ### Control -/

theorem Frame.ite {M : Nat} {s a b : State} {c : Prop} {_ : Decidable c} (h1 : c → Frame M s a) (h2 : ¬ c → Frame M s b) :
    Frame M s (if c then a else b) := by
  split
  · exact h1 ‹_›
  · exact h2 ‹_›

theorem Frame.iteFst {M : Nat} {s : State} {α : Type} {a b : State × α} {c : Prop} {_ : Decidable c} (h1 : c → Frame M s a.1)
    (h2 : ¬ c → Frame M s b.1) : Frame M s (if c then a else b).1 := by
  split
  · exact h1 ‹_›
  · exact h2 ‹_›

theorem Frame.iteSnd {M : Nat} {s : State} {α : Type} {a b : α × State} {c : Prop} {_ : Decidable c} (h1 : c → Frame M s a.2)
    (h2 : ¬ c → Frame M s b.2) : Frame M s (if c then a else b).2 := by
  split
  · exact h1 ‹_›
  · exact h2 ‹_›

theorem Frame.ofFst {M : Nat} {s t : State} {α : Type} {p : State × α} {v : α} (h : p = (t, v)) (hf : Frame M s p.1) : Frame M s t := by
  rw [h] at hf; exact hf

theorem Frame.ofSnd {M : Nat} {s t : State} {α : Type} {p : α × State} {v : α} (h : p = (v, t)) (hf : Frame M s p.2) : Frame M s t := by
  rw [h] at hf; exact hf

theorem Frame.when {M : Nat} {s t : State} {c : Bool} {f : State → State} (h : Frame M s t) (hf : ∀ u, Frame M s u → Frame M s (f u)) :
    Frame M s (t.when c f) := Frame.ite (fun _ => hf _ h) fun _ => h

theorem Frame.foldl {M : Nat} {s t : State} {β : Type} {f : State → β → State} {l : List β} (h : Frame M s t)
    (hf : ∀ u b, Frame M s u → Frame M s (f u b)) : Frame M s (l.foldl f t) := by
  induction l generalizing t with
  | nil => exact h
  | cons b l ih => exact ih (hf _ _ h)

theorem Frame.foldlFst {M : Nat} {s : State} {α β : Type} {f : State × α → β → State × α} {l : List β} {t : State × α} (h : Frame M s t.1)
    (hf : ∀ u b, Frame M s u.1 → Frame M s (f u b).1) : Frame M s (l.foldl f t).1 := by
  induction l generalizing t with
  | nil => exact h
  | cons b l ih => exact ih (hf _ _ h)

theorem Frame.foldlSnd {M : Nat} {s : State} {α β : Type} {f : α × State → β → α × State} {l : List β} {t : α × State} (h : Frame M s t.2)
    (hf : ∀ u b, Frame M s u.2 → Frame M s (f u b).2) : Frame M s (l.foldl f t).2 := by
  induction l generalizing t with
  | nil => exact h
  | cons b l ih => exact ih (hf _ _ h)

theorem Frame.forEach {M : Nat} {s t : State} {n : Nat} {f : Nat → State → State} (h : Frame M s t)
    (hf : ∀ i u, Frame M s u → Frame M s (f i u)) : Frame M s (t.forEach n f) := Frame.foldl h fun u i hu => hf i u hu

/-- A local state: what holds of it before its value is forgotten. -/
theorem Frame.local {M : Nat} {s t : State} (x : State) (hx : Frame M s x) (k : Frame M s x → Frame M s t) : Frame M s t := k hx

theorem checked_frame {M : Nat} {i : Instr} {s t : State} {f : State → State} (h : checked i s f = .next t)
    (hf : Frame M s (f s)) : Frame M s t := by
  unfold checked at h
  split at h
  · cases h; exact hf
  · cases h

theorem onCore_frame {M : Nat} {i : Instr} {s t : State} {f : State → State} (h : onCore i s f = .next t)
    (hf : Frame M s (f s)) : Frame M s t :=
  checked_frame h (Frame.ite (fun _ => hf) fun _ => Frame.refl M s)

theorem onEngines_frame {M : Nat} {i : Instr} {s t : State} {f : State → State} (h : onEngines i s f = .next t)
    (hf : Frame M s (f s)) : Frame M s t :=
  checked_frame h (Frame.ite (fun _ => hf) fun _ => Frame.refl M s)

end Sys2Proof.Machine
end

