-- ==== Sys2Proof/Laws/FrameOps.lean ====
section
/-!
SUPPORT. What each operation of Machine/Ops.lean can change: one lemma an operation, with the mask of the parts of the state it
may touch (the bits are listed in Laws/Frame.lean).
-/

set_option linter.unusedVariables false
set_option Elab.async false

namespace Sys2Proof.Machine

theorem State.put_frame (s : State) (a1 : Fld) (a2 : ℕ) : Frame 0x1 s (State.put s a1 a2) := by
  unfold State.put
  refine Frame.step ?_ (State.setReg_frame _ _ _) rfl
  exact Frame.refl _ _

theorem State.bump_frame (s : State) (a1 : Fld) : Frame 0x1 s (State.bump s a1) := by
  unfold State.bump
  refine Frame.step ?_ (State.put_frame _ _ _) rfl
  exact Frame.refl _ _

theorem State.auditPut_frame (s : State) (a1 : AuditNote) : Frame 0x801 s (State.auditPut s a1) := by
  unfold State.auditPut
  extract_lets +onlyGivenNames x1
  clear_value x1
  extract_lets +onlyGivenNames x2
  clear_value x2
  extract_lets +onlyGivenNames x3
  clear_value x3
  extract_lets +onlyGivenNames x4
  clear_value x4
  extract_lets +onlyGivenNames x5
  refine Frame.local x5 ?_ fun h5 => ?_
  · subst x5
    refine Frame.upd (Frame.refl _ _) rfl (List.prefix_append _ _)
  clear_value x5
  extract_lets +onlyGivenNames x6
  refine Frame.local x6 ?_ fun h6 => ?_
  · subst x6
    refine Frame.step ?_ (State.put_frame _ _ _) rfl
    assumption
  clear_value x6
  refine Frame.step ?_ (State.put_frame _ _ _) rfl
  refine Frame.step ?_ (State.put_frame _ _ _) rfl
  assumption

theorem State.auditAdd_frame (s : State) (a1 : AuditNote) : Frame 0x801 s (State.auditAdd s a1) := by
  unfold State.auditAdd
  refine Frame.ite (fun _ => ?_) fun _ => ?_
  · refine Frame.step ?_ (State.bump_frame _ _) rfl
    refine Frame.step ?_ (State.put_frame _ _ _) rfl
    exact Frame.refl _ _
  · extract_lets +onlyGivenNames x1
    refine Frame.local x1 ?_ fun h1 => ?_
    · subst x1
      refine Frame.step ?_ (State.auditPut_frame _ _) rfl
      exact Frame.refl _ _
    clear_value x1
    refine Frame.ite (fun _ => ?_) fun _ => ?_
    · refine Frame.step ?_ (State.auditPut_frame _ _) rfl
      assumption
    · assumption

theorem State.setWord_frame (s : State) (a1 : ℕ) (a2 : ℕ) : Frame 0x1 s (State.setWord s a1 a2) := by
  unfold State.setWord
  refine Frame.step ?_ (State.setReg_frame _ _ _) rfl
  exact Frame.refl _ _

theorem State.countRaw_frame (s : State) (a1 : Cnt) : Frame 0x1 s (State.countRaw s a1) := by
  unfold State.countRaw
  extract_lets +onlyGivenNames x1
  clear_value x1
  refine Frame.ite (fun _ => ?_) fun _ => ?_
  · exact Frame.refl _ _
  · extract_lets +onlyGivenNames x2
    refine Frame.local x2 ?_ fun h2 => ?_
    · subst x2
      refine Frame.step ?_ (State.setWord_frame _ _ _) rfl
      exact Frame.refl _ _
    clear_value x2
    refine Frame.ite (fun _ => ?_) fun _ => ?_
    · refine Frame.step ?_ (State.put_frame _ _ _) rfl
      assumption
    · assumption

theorem State.dropCounted_frame (s : State) (a1 : ℕ) : Frame 0x81 s (State.dropCounted s a1) := by
  unfold State.dropCounted
  extract_lets +onlyGivenNames x1
  refine Frame.local x1 ?_ fun h1 => ?_
  · subst x1
    refine Frame.step ?_ (State.countRaw_frame _ _) rfl
    exact Frame.refl _ _
  clear_value x1
  refine Frame.upd ?_ rfl
  assumption

theorem State.dropNoted_frame (s : State) (a1 : ℕ) : Frame 0x80 s (State.dropNoted s a1) := by
  unfold State.dropNoted
  refine Frame.upd ?_ rfl
  exact Frame.refl _ _

theorem State.enqueue_frame (a0 : ℕ) (a1 : Occurrence) (s : State) : Frame 0x81 s (State.enqueue a0 a1 s) := by
  induction' a0 with n ih generalizing a1 s
  · unfold State.enqueue
    exact Frame.refl _ _
  · unfold State.enqueue
    refine Frame.ite (fun _ => ?_) fun _ => ?_
    · extract_lets +onlyGivenNames x1
      refine Frame.local x1 ?_ fun h1 => ?_
      · subst x1
        refine Frame.step ?_ (State.countRaw_frame _ _) rfl
        exact Frame.refl _ _
      clear_value x1
      refine Frame.ite (fun _ => ?_) fun _ => ?_
      · refine Frame.step ?_ (ih _ _) rfl
        assumption
      · assumption
    · refine Frame.ite (fun _ => ?_) fun _ => ?_
      · refine Frame.upd ?_ rfl
        exact Frame.refl _ _
      · refine Frame.ite (fun _ => ?_) fun _ => ?_
        · refine Frame.upd ?_ rfl
          exact Frame.refl _ _
        · extract_lets +onlyGivenNames x2
          refine Frame.local x2 ?_ fun h2 => ?_
          · subst x2
            refine Frame.step ?_ (State.dropCounted_frame _ _) rfl
            exact Frame.refl _ _
          clear_value x2
          extract_lets +onlyGivenNames x3
          refine Frame.local x3 ?_ fun h3 => ?_
          · subst x3
            refine Frame.ite (fun _ => ?_) fun _ => ?_
            · refine Frame.step ?_ (ih _ _) rfl
              assumption
            · assumption
          clear_value x3
          refine Frame.ite (fun _ => ?_) fun _ => ?_
          · refine Frame.step ?_ (ih _ _) rfl
            refine Frame.step ?_ (State.dropNoted_frame _ _) rfl
            assumption
          · assumption

theorem State.log_frame (s : State) (a1 : ℕ) (a2 : ℕ) (a3 : ℕ) (a4 : ℕ) (a5 : ℕ) : Frame 0x81 s (State.log s a1 a2 a3 a4 a5) := by
  unfold State.log
  refine Frame.step ?_ (State.enqueue_frame _ _ _) rfl
  exact Frame.refl _ _

theorem State.count_frame (s : State) (a1 : Cnt) : Frame 0x81 s (State.count s a1) := by
  unfold State.count
  extract_lets +onlyGivenNames x1
  refine Frame.local x1 ?_ fun h1 => ?_
  · subst x1
    refine Frame.step ?_ (State.countRaw_frame _ _) rfl
    exact Frame.refl _ _
  clear_value x1
  refine Frame.ite (fun _ => ?_) fun _ => ?_
  · refine Frame.step ?_ (State.log_frame _ _ _ _ _ _) rfl
    assumption
  · assumption

theorem State.signalThread_frame (s : State) (a1 : ℕ) : Frame 0x81 s (State.signalThread s a1) := by
  unfold State.signalThread
  extract_lets +onlyGivenNames x1
  clear_value x1
  refine Frame.ite (fun _ => ?_) fun _ => ?_
  · exact Frame.refl _ _
  · refine Frame.ite (fun _ => ?_) fun _ => ?_
    · refine Frame.step ?_ (State.put_frame _ _ _) rfl
      exact Frame.refl _ _
    · refine Frame.step ?_ (State.count_frame _ _) rfl
      refine Frame.step ?_ (State.put_frame _ _ _) rfl
      exact Frame.refl _ _

theorem State.makeReady_frame (s : State) (a1 : ℕ) : Frame 0x181 s (State.makeReady s a1) := by
  unfold State.makeReady
  extract_lets +onlyGivenNames x1
  clear_value x1
  extract_lets +onlyGivenNames x2
  refine Frame.local x2 ?_ fun h2 => ?_
  · subst x2
    refine Frame.upd ?_ rfl
    exact Frame.refl _ _
  clear_value x2
  refine Frame.step ?_ (State.signalThread_frame _ _) rfl
  refine Frame.step ?_ (State.put_frame _ _ _) rfl
  assumption

theorem State.checkWait_frame (s : State) (a1 : ℕ) : Frame 0x181 s (State.checkWait s a1) := by
  unfold State.checkWait
  split
  · refine Frame.ite (fun _ => ?_) fun _ => ?_
    · extract_lets +onlyGivenNames x1
      refine Frame.local x1 ?_ fun h1 => ?_
      · subst x1
        refine Frame.step ?_ (State.setWord_frame _ _ _) rfl
        exact Frame.refl _ _
      clear_value x1
      extract_lets +onlyGivenNames x2
      clear_value x2
      extract_lets +onlyGivenNames x3
      refine Frame.local x3 ?_ fun h3 => ?_
      · subst x3
        refine Frame.upd ?_ rfl
        assumption
      clear_value x3
      refine Frame.step ?_ (State.makeReady_frame _ _) rfl
      refine Frame.step ?_ (State.bump_frame _ _) rfl
      assumption
    · exact Frame.refl _ _
  · exact Frame.refl _ _

theorem State.setFlags_frame (s : State) (a1 : ℕ) (a2 : ℕ) : Frame 0x181 s (State.setFlags s a1 a2) := by
  unfold State.setFlags
  refine Frame.step ?_ (State.checkWait_frame _ _) rfl
  refine Frame.step ?_ (State.setWord_frame _ _ _) rfl
  exact Frame.refl _ _

theorem State.fire_frame (s : State) (a1 : ℕ) : Frame 0x181 s (State.fire s a1) := by
  unfold State.fire
  extract_lets +onlyGivenNames x1
  refine Frame.local x1 ?_ fun h1 => ?_
  · subst x1
    refine Frame.when ?_ fun _ _ => ?_
    · exact Frame.refl _ _
    · refine Frame.step ?_ (State.setFlags_frame _ _ _) rfl
      assumption
  clear_value x1
  refine Frame.when ?_ fun _ _ => ?_
  · assumption
  · refine Frame.step ?_ (State.setFlags_frame _ _ _) rfl
    assumption

theorem State.igFault_frame (s : State) (a1 : ℕ) (a2 : ℕ) : Frame 0x181 s (State.igFault s a1 a2) := by
  unfold State.igFault
  extract_lets +onlyGivenNames x1
  clear_value x1
  extract_lets +onlyGivenNames x2
  clear_value x2
  extract_lets +onlyGivenNames x3
  refine Frame.local x3 ?_ fun h3 => ?_
  · subst x3
    split
    · refine Frame.ite (fun _ => ?_) fun _ => ?_
      · exact Frame.refl _ _
      · refine Frame.step ?_ (State.bump_frame _ _) rfl
        exact Frame.refl _ _
    · split
      · refine Frame.step ?_ (State.bump_frame _ _) rfl
        refine Frame.step ?_ (State.setWord_frame _ _ _) rfl
        refine Frame.step ?_ (State.put_frame _ _ _) rfl
        refine Frame.step ?_ (State.put_frame _ _ _) rfl
        refine Frame.step ?_ (State.put_frame _ _ _) rfl
        exact Frame.refl _ _
      · refine Frame.step ?_ (State.put_frame _ _ _) rfl
        exact Frame.refl _ _
  clear_value x3
  refine Frame.step ?_ (State.fire_frame _ _) rfl
  assumption

theorem State.raise_frame (s : State) (a1 : ℕ) (a2 : ℕ) (a3 : optParam ℕ 0) (a4 : optParam ℕ 0) (a5 : optParam ℕ 0) : Frame 0x181 s (State.raise s a1 a2 a3 a4 a5) := by
  unfold State.raise
  extract_lets +onlyGivenNames x1
  refine Frame.local x1 ?_ fun h1 => ?_
  · subst x1
    refine Frame.step ?_ (State.log_frame _ _ _ _ _ _) rfl
    exact Frame.refl _ _
  clear_value x1
  refine Frame.ite (fun _ => ?_) fun _ => ?_
  · refine Frame.step ?_ (State.igFault_frame _ _ _) rfl
    assumption
  · assumption

theorem State.digestItem_frame (s : State) (a1 : ℕ) (a2 : ℕ) (a3 : ℕ) (a4 : List Byte) : Frame 0x200000 s (State.digestItem s a1 a2 a3 a4) := by
  unfold State.digestItem
  refine Frame.ite (fun _ => ?_) fun _ => ?_
  · refine Frame.upd ?_ rfl
    exact Frame.refl _ _
  · exact Frame.refl _ _

theorem State.setPair_frame (s : State) (a1 : ℕ) (a2 : ℕ) (a3 : ℕ) : Frame 0x1 s (State.setPair s a1 a2 a3) := by
  unfold State.setPair
  refine Frame.step ?_ (State.setWord_frame _ _ _) rfl
  refine Frame.step ?_ (State.setWord_frame _ _ _) rfl
  exact Frame.refl _ _

theorem State.monitorMiss_frame (s : State) (a1 : ℕ) : Frame 0x181 s (State.monitorMiss s a1) := by
  unfold State.monitorMiss
  refine Frame.step ?_ (State.fire_frame _ _) rfl
  refine Frame.step ?_ (State.put_frame _ _ _) rfl
  refine Frame.step ?_ (State.count_frame _ _) rfl
  exact Frame.refl _ _

theorem State.deviceMiss_frame (s : State) (a1 : ℕ) : Frame 0x181 s (State.deviceMiss s a1) := by
  unfold State.deviceMiss
  extract_lets +onlyGivenNames x1
  refine Frame.local x1 ?_ fun h1 => ?_
  · subst x1
    refine Frame.step ?_ (State.monitorMiss_frame _ _) rfl
    exact Frame.refl _ _
  clear_value x1
  refine Frame.ite (fun _ => ?_) fun _ => ?_
  · refine Frame.step ?_ (State.raise_frame _ _ _ _ _ _) rfl
    assumption
  · assumption

theorem State.draw_frame (s : State) : Frame 0x1000000 s (State.draw s) := by
  unfold State.draw
  refine Frame.upd ?_ rfl
  exact Frame.refl _ _

theorem State.countN_frame (s : State) (a1 : Cnt) (a2 : ℕ) : Frame 0x81 s (State.countN s a1 a2) := by
  unfold State.countN
  extract_lets +onlyGivenNames x1
  clear_value x1
  refine Frame.ite (fun _ => ?_) fun _ => ?_
  · exact Frame.refl _ _
  · refine Frame.ite (fun _ => ?_) fun _ => ?_
    · refine Frame.step ?_ (State.setWord_frame _ _ _) rfl
      exact Frame.refl _ _
    · refine Frame.step ?_ (State.log_frame _ _ _ _ _ _) rfl
      refine Frame.step ?_ (State.put_frame _ _ _) rfl
      refine Frame.step ?_ (State.setWord_frame _ _ _) rfl
      exact Frame.refl _ _

theorem State.noteQual_frame (s : State) : Frame 0x8 s (State.noteQual s) := by
  unfold State.noteQual
  extract_lets +onlyGivenNames x1
  clear_value x1
  refine Frame.ite (fun _ => ?_) fun _ => ?_
  · exact Frame.refl _ _
  · refine Frame.upd ?_ rfl
    exact Frame.refl _ _

theorem State.emit_frame (s : State) (a1 : Output) : Frame 0x2000000 s (State.emit s a1) := by
  unfold State.emit
  refine Frame.upd ?_ rfl
  exact Frame.refl _ _

theorem State.message_frame (s : State) (a1 : ℕ) : Frame 0x2000001 s (State.message s a1) := by
  unfold State.message
  refine Frame.ite (fun _ => ?_) fun _ => ?_
  · exact Frame.refl _ _
  · refine Frame.ite (fun _ => ?_) fun _ => ?_
    · refine Frame.step ?_ (State.put_frame _ _ _) rfl
      exact Frame.refl _ _
    · refine Frame.step ?_ (State.emit_frame _ _) rfl
      exact Frame.refl _ _

theorem State.signal_frame (s : State) (a1 : ℕ) (a2 : Bool) : Frame 0x2000201 s (State.signal s a1 a2) := by
  unfold State.signal
  extract_lets +onlyGivenNames x1
  clear_value x1
  refine Frame.ite (fun _ => ?_) fun _ => ?_
  · exact Frame.refl _ _
  · extract_lets +onlyGivenNames x2
    clear_value x2
    extract_lets +onlyGivenNames x3
    clear_value x3
    refine Frame.ite (fun _ => ?_) fun _ => ?_
    · refine Frame.step ?_ (State.message_frame _ _) rfl
      refine Frame.upd ?_ rfl
      exact Frame.refl _ _
    · extract_lets +onlyGivenNames x4
      clear_value x4
      refine Frame.upd ?_ rfl
      exact Frame.refl _ _

theorem State.drPlace_frame (s : State) (a1 : ℕ) (a2 : ℕ) (a3 : ℕ) (a4 : List Byte) : Frame 0x2000381 s (State.drPlace s a1 a2 a3 a4) := by
  unfold State.drPlace
  extract_lets +onlyGivenNames x1
  clear_value x1
  extract_lets +onlyGivenNames x2
  clear_value x2
  extract_lets +onlyGivenNames x3
  clear_value x3
  extract_lets +onlyGivenNames x4
  clear_value x4
  extract_lets +onlyGivenNames x5
  clear_value x5
  extract_lets +onlyGivenNames x6
  refine Frame.local x6 ?_ fun h6 => ?_
  · subst x6
    refine Frame.when ?_ fun _ _ => ?_
    · exact Frame.refl _ _
    · refine Frame.step ?_ (State.emit_frame _ _) rfl
      assumption
  clear_value x6
  extract_lets +onlyGivenNames x7
  clear_value x7
  extract_lets +onlyGivenNames x8
  refine Frame.local x8 ?_ fun h8 => ?_
  · subst x8
    refine Frame.step ?_ (State.emit_frame _ _) rfl
    refine Frame.step ?_ (State.emit_frame _ _) rfl
    assumption
  clear_value x8
  extract_lets +onlyGivenNames x9
  refine Frame.local x9 ?_ fun h9 => ?_
  · subst x9
    refine Frame.step ?_ (State.setWord_frame _ _ _) rfl
    assumption
  clear_value x9
  extract_lets +onlyGivenNames x10
  clear_value x10
  extract_lets +onlyGivenNames x11
  refine Frame.local x11 ?_ fun h11 => ?_
  · subst x11
    refine Frame.upd ?_ rfl
    assumption
  clear_value x11
  extract_lets +onlyGivenNames x12
  clear_value x12
  extract_lets +onlyGivenNames x13
  refine Frame.local x13 ?_ fun h13 => ?_
  · subst x13
    refine Frame.when ?_ fun _ _ => ?_
    · assumption
    · refine Frame.step ?_ (State.emit_frame _ _) rfl
      assumption
  clear_value x13
  refine Frame.step ?_ (State.fire_frame _ _) rfl
  refine Frame.step ?_ (State.signal_frame _ _ _) rfl
  assumption

theorem State.drDropped_frame (s : State) (a1 : ℕ) : Frame 0x200 s (State.drDropped s a1) := by
  unfold State.drDropped
  refine Frame.upd ?_ rfl
  exact Frame.refl _ _

theorem State.refuse_frame (s : State) (a1 : Master) (a2 : ℕ) (a3 : ℕ) (a4 : ℕ) : Frame 0x81 s (State.refuse s a1 a2 a3 a4) := by
  unfold State.refuse
  refine Frame.step ?_ (State.put_frame _ _ _) rfl
  refine Frame.step ?_ (State.put_frame _ _ _) rfl
  refine Frame.step ?_ (State.put_frame _ _ _) rfl
  refine Frame.step ?_ (State.put_frame _ _ _) rfl
  refine Frame.step ?_ (State.count_frame _ _) rfl
  exact Frame.refl _ _

theorem State.sealBy_frame (s : State) (a1 : ℕ) : Frame 0x1 s (State.sealBy s a1) := by
  unfold State.sealBy
  refine Frame.step ?_ (State.setWord_frame _ _ _) rfl
  exact Frame.refl _ _

theorem State.clearCount_frame (s : State) (a1 : ℕ) (a2 : Fld) : Frame 0x1 s (State.clearCount s a1 a2) := by
  unfold State.clearCount
  refine Frame.step ?_ (State.put_frame _ _ _) rfl
  refine Frame.step ?_ (State.setWord_frame _ _ _) rfl
  exact Frame.refl _ _

theorem State.ringDone_frame (s : State) (a1 : ℕ) : Frame 0x201 s (State.ringDone s a1) := by
  unfold State.ringDone
  extract_lets +onlyGivenNames x1
  clear_value x1
  extract_lets +onlyGivenNames x2
  refine Frame.local x2 ?_ fun h2 => ?_
  · subst x2
    refine Frame.upd ?_ rfl
    exact Frame.refl _ _
  clear_value x2
  refine Frame.step ?_ (State.put_frame _ _ _) rfl
  assumption

theorem State.cqWrite_frame (s : State) (a1 : Completion) : Frame 0x2000201 s (State.cqWrite s a1) := by
  unfold State.cqWrite
  extract_lets +onlyGivenNames x1
  clear_value x1
  extract_lets +onlyGivenNames x2
  clear_value x2
  extract_lets +onlyGivenNames x3
  clear_value x3
  extract_lets +onlyGivenNames x4
  refine Frame.local x4 ?_ fun h4 => ?_
  · subst x4
    refine Frame.step ?_ (State.emit_frame _ _) rfl
    exact Frame.refl _ _
  clear_value x4
  extract_lets +onlyGivenNames x5
  refine Frame.local x5 ?_ fun h5 => ?_
  · subst x5
    refine Frame.ite (fun _ => ?_) fun _ => ?_
    · refine Frame.step ?_ (State.put_frame _ _ _) rfl
      refine Frame.step ?_ (State.put_frame _ _ _) rfl
      assumption
    · refine Frame.step ?_ (State.put_frame _ _ _) rfl
      assumption
  clear_value x5
  refine Frame.step ?_ (State.signal_frame _ _ _) rfl
  assumption

theorem State.complete_frame (s : State) (a1 : Completion) : Frame 0x2000201 s (State.complete s a1) := by
  unfold State.complete
  refine Frame.ite (fun _ => ?_) fun _ => ?_
  · exact Frame.refl _ _
  · refine Frame.ite (fun _ => ?_) fun _ => ?_
    · refine Frame.step ?_ (State.ringDone_frame _ _) rfl
      refine Frame.step ?_ (State.cqWrite_frame _ _) rfl
      exact Frame.refl _ _
    · refine Frame.upd ?_ rfl
      exact Frame.refl _ _

theorem State.progress_frame (s : State) (a1 : Completion) : Frame 0x2000281 s (State.progress s a1) := by
  unfold State.progress
  refine Frame.ite (fun _ => ?_) fun _ => ?_
  · refine Frame.step ?_ (State.cqWrite_frame _ _) rfl
    exact Frame.refl _ _
  · refine Frame.step ?_ (State.count_frame _ _) rfl
    exact Frame.refl _ _

theorem State.decodeMiss_frame (s : State) (a1 : ℕ) : Frame 0x181 s (State.decodeMiss s a1) := by
  unfold State.decodeMiss
  refine Frame.step ?_ (State.raise_frame _ _ _ _ _ _) rfl
  refine Frame.step ?_ (State.count_frame _ _) rfl
  refine Frame.step ?_ (State.setPair_frame _ _ _ _) rfl
  exact Frame.refl _ _

end Sys2Proof.Machine
end

