-- ==== Sys2Proof/Laws/FrameOperands.lean ====
section
/-!
SUPPORT. What each operation of Machine/Operands.lean can change: one lemma an operation, with the mask of the parts of the state it
may touch (the bits are listed in Laws/Frame.lean).
-/

set_option linter.unusedVariables false
set_option Elab.async false

namespace Sys2Proof.Machine

theorem State.uecc_frame (s : State) (a1 : ℕ) : Frame 0x181 s (State.uecc s a1) := by
  unfold State.uecc
  extract_lets +onlyGivenNames x1
  clear_value x1
  refine Frame.step ?_ (State.raise_frame _ _ _ _ _ _) rfl
  refine Frame.step ?_ (State.count_frame _ _) rfl
  exact Frame.refl _ _

theorem State.deviceMet_frame (s : State) (a1 : ℕ) (a2 : Bool) : Frame 0x1 s (State.deviceMet s a1 a2) := by
  unfold State.deviceMet
  refine Frame.when ?_ fun _ _ => ?_
  · exact Frame.refl _ _
  · refine Frame.step ?_ (State.put_frame _ _ _) rfl
    assumption

theorem State.coefStep_frame (s : State) (a1 : ℕ) : Frame 0x1 s (State.coefStep s a1) := by
  unfold State.coefStep
  refine Frame.ite (fun _ => ?_) fun _ => ?_
  · refine Frame.step ?_ (State.put_frame _ _ _) rfl
    exact Frame.refl _ _
  · exact Frame.refl _ _

theorem State.healed_frame (s : State) (a1 : ℕ) (a2 : ℕ) : Frame 0x800000 s (State.healed s a1 a2) := by
  unfold State.healed
  refine Frame.upd ?_ rfl
  exact Frame.refl _ _

theorem State.sluiceEcc_frame (s : State) (a1 : ℕ) (a2 : ℕ) (a3 : Bool) : Frame 0x181 s (State.sluiceEcc s a1 a2 a3) := by
  unfold State.sluiceEcc
  refine Frame.when ?_ fun _ _ => ?_
  · refine Frame.step ?_ (State.countN_frame _ _ _) rfl
    exact Frame.refl _ _
  · refine Frame.step ?_ (State.raise_frame _ _ _ _ _ _) rfl
    refine Frame.step ?_ (State.count_frame _ _) rfl
    assumption

theorem State.misTrap_frame (s : State) (a1 : Master) (a2 : Bool) : Frame 0x2000000 s (State.misTrap s a1 a2) := by
  unfold State.misTrap
  split
  · refine Frame.step ?_ (State.emit_frame _ _) rfl
    exact Frame.refl _ _
  · exact Frame.refl _ _

theorem State.dropLatch_frame (s : State) (a1 : Master) (a2 : ℕ) : Frame 0x4 s (State.dropLatch s a1 a2) := by
  unfold State.dropLatch
  refine Frame.upd ?_ rfl
  exact Frame.refl _ _

theorem State.setLatch_frame (s : State) (a1 : Master) (a2 : ℕ) (a3 : ℕ) : Frame 0x4 s (State.setLatch s a1 a2 a3) := by
  unfold State.setLatch
  extract_lets +onlyGivenNames x1
  refine Frame.local x1 ?_ fun h1 => ?_
  · subst x1
    refine Frame.step ?_ (State.dropLatch_frame _ _ _) rfl
    exact Frame.refl _ _
  clear_value x1
  refine Frame.upd ?_ rfl
  assumption

end Sys2Proof.Machine
end

