-- ==== Sys2Proof/Laws/FrameKeyStore.lean ====
section
/-!
SUPPORT. What each operation of Machine/KeyStore.lean can change: one lemma an operation, with the mask of the parts of the state it
may touch (the bits are listed in Laws/Frame.lean).
-/

set_option linter.unusedVariables false
set_option Elab.async false

namespace Sys2Proof.Machine

theorem State.showService_frame (s : State) (a1 : ℕ) : Frame 0x1 s (State.showService s a1) := by
  unfold State.showService
  refine Frame.step ?_ (State.put_frame _ _ _) rfl
  exact Frame.refl _ _

theorem State.showSlot_frame (s : State) (a1 : ℕ) (a2 : KeySlot) : Frame 0x1 s (State.showSlot s a1 a2) := by
  unfold State.showSlot
  extract_lets +onlyGivenNames x1
  refine Frame.local x1 ?_ fun h1 => ?_
  · subst x1
    refine Frame.step ?_ (State.setWord_frame _ _ _) rfl
    refine Frame.step ?_ (State.setWord_frame _ _ _) rfl
    exact Frame.refl _ _
  clear_value x1
  extract_lets +onlyGivenNames x2
  refine Frame.local x2 ?_ fun h2 => ?_
  · subst x2
    refine Frame.step ?_ (State.put_frame _ _ _) rfl
    assumption
  clear_value x2
  refine Frame.step ?_ (State.put_frame _ _ _) rfl
  assumption

theorem State.setSlot_frame (s : State) (a1 : ℕ) (a2 : KeySlot) : Frame 0x100001 s (State.setSlot s a1 a2) := by
  unfold State.setSlot
  refine Frame.step ?_ (State.showSlot_frame _ _ _) rfl
  refine Frame.upd ?_ rfl
  exact Frame.refl _ _

theorem State.eraseAlternate_frame (s : State) (a1 : ℕ) : Frame 0x100001 s (State.eraseAlternate s a1) := by
  unfold State.eraseAlternate
  extract_lets +onlyGivenNames x1
  clear_value x1
  refine Frame.step ?_ (State.setSlot_frame _ _ _) rfl
  exact Frame.refl _ _

theorem State.random_frame (s : State) (a1 : ℕ) : Frame 0x1100000 s (State.random s a1).2 := by
  unfold State.random
  split
  · dsimp -zeta only
    refine Frame.step ?_ (State.draw_frame _) rfl
    exact Frame.refl _ _
  · split
    dsimp -zeta only
    refine Frame.upd ?_ rfl
    exact Frame.refl _ _

theorem State.keyWrite_frame (s : State) (a1 : ℕ) (a2 : ℕ) (a3 : ℕ) (a4 : ℕ) (a5 : ℕ) : Frame 0x1100181 s (State.keyWrite s a1 a2 a3 a4 a5) := by
  unfold State.keyWrite
  extract_lets +onlyGivenNames x1
  clear_value x1
  split
  extract_lets +onlyGivenNames x2
  clear_value x2
  extract_lets +onlyGivenNames x3
  clear_value x3
  refine Frame.step ?_ (State.raise_frame _ _ _ _ _ _) rfl
  refine Frame.step ?_ (State.setSlot_frame _ _ _) rfl
  refine Frame.step ?_ (Frame.ofSnd ‹State.random _ _ = _› (State.random_frame _ _)) rfl
  exact Frame.refl _ _

theorem State.slhSignature_frame (s : State) (a1 : ℕ) (a2 : ℕ) (a3 : List Byte) : Frame 0x1100081 s (State.slhSignature s a1 a2 a3).2 := by
  unfold State.slhSignature
  refine Frame.iteSnd (fun _ => ?_) fun _ => ?_
  · split
    dsimp -zeta only
    refine Frame.step ?_ (State.count_frame _ _) rfl
    refine Frame.step ?_ (Frame.ofSnd ‹State.random _ _ = _› (State.random_frame _ _)) rfl
    exact Frame.refl _ _
  · dsimp -zeta only
    refine Frame.step ?_ (State.count_frame _ _) rfl
    refine Frame.step ?_ (State.put_frame _ _ _) rfl
    exact Frame.refl _ _

end Sys2Proof.Machine
end

