-- ==== Sys2Proof/Laws/FrameHostIf.lean ====
section
/-!
SUPPORT. What each operation of Machine/HostIf.lean can change: one lemma an operation, with the mask of the parts of the state it
may touch (the bits are listed in Laws/Frame.lean).
-/

set_option linter.unusedVariables false
set_option Elab.async false

namespace Sys2Proof.Machine

theorem State.ledgerAgain_frame (s : State) : Frame 0x800 s (State.ledgerAgain s) := by
  unfold State.ledgerAgain
  refine Frame.upd ?_ rfl
  exact Frame.refl _ _

theorem hostEffect_frame (a0 : ℕ) (a1 : List ℕ) (a2 : Word) (a3 : Word) (s : State) : Frame 0x2000201 s (hostEffect a0 a1 a2 a3 s) := by
  unfold hostEffect
  split
  · refine Frame.step ?_ (State.put_frame _ _ _) rfl
    exact Frame.refl _ _
  · refine Frame.upd ?_ rfl
    exact Frame.refl _ _
  · refine Frame.step ?_ (State.setWord_frame _ _ _) rfl
    exact Frame.refl _ _
  · refine Frame.ite (fun _ => ?_) fun _ => ?_
    · extract_lets +onlyGivenNames x1
      refine Frame.local x1 ?_ fun h1 => ?_
      · subst x1
        refine Frame.step ?_ (State.setWord_frame _ _ _) rfl
        exact Frame.refl _ _
      clear_value x1
      refine Frame.step ?_ (State.put_frame _ _ _) rfl
      refine Frame.step ?_ (State.put_frame _ _ _) rfl
      refine Frame.step ?_ (State.put_frame _ _ _) rfl
      assumption
    · refine Frame.ite (fun _ => ?_) fun _ => ?_
      · refine Frame.step ?_ (State.put_frame _ _ _) rfl
        refine Frame.step ?_ (State.put_frame _ _ _) rfl
        exact Frame.refl _ _
      · exact Frame.refl _ _
  · refine Frame.ite (fun _ => ?_) fun _ => ?_
    · extract_lets +onlyGivenNames x2
      refine Frame.local x2 ?_ fun h2 => ?_
      · subst x2
        refine Frame.step ?_ (State.put_frame _ _ _) rfl
        refine Frame.step ?_ (State.put_frame _ _ _) rfl
        exact Frame.refl _ _
      clear_value x2
      refine Frame.upd ?_ rfl
      assumption
    · exact Frame.refl _ _
  · refine Frame.ite (fun _ => ?_) fun _ => ?_
    · extract_lets +onlyGivenNames x3
      refine Frame.local x3 ?_ fun h3 => ?_
      · subst x3
        refine Frame.step ?_ (State.setWord_frame _ _ _) rfl
        refine Frame.step ?_ (State.setWord_frame _ _ _) rfl
        exact Frame.refl _ _
      clear_value x3
      refine Frame.upd ?_ rfl
      assumption
    · exact Frame.refl _ _
  · extract_lets +onlyGivenNames x4
    clear_value x4
    refine Frame.upd ?_ rfl
    exact Frame.refl _ _
  · refine Frame.ite (fun _ => ?_) fun _ => ?_
    · refine Frame.step ?_ (State.emit_frame _ _) rfl
      refine Frame.step ?_ (State.put_frame _ _ _) rfl
      exact Frame.refl _ _
    · exact Frame.refl _ _
  · exact Frame.refl _ _

theorem State.turnTaken_frame (s : State) (a1 : ℕ) : Frame 0x200 s (State.turnTaken s a1) := by
  unfold State.turnTaken
  refine Frame.upd ?_ rfl
  exact Frame.refl _ _

theorem hostRefused_frame (a0 : ℕ) (a1 : List ℕ) (s : State) : Frame 0x181 s (hostRefused a0 a1 s) := by
  unfold hostRefused
  split
  · refine Frame.step ?_ (State.raise_frame _ _ _ _ _ _) rfl
    refine Frame.step ?_ (State.count_frame _ _) rfl
    exact Frame.refl _ _
  · refine Frame.step ?_ (State.raise_frame _ _ _ _ _ _) rfl
    refine Frame.step ?_ (State.count_frame _ _) rfl
    exact Frame.refl _ _
  · refine Frame.step ?_ (State.raise_frame _ _ _ _ _ _) rfl
    refine Frame.step ?_ (State.count_frame _ _) rfl
    exact Frame.refl _ _
  · exact Frame.refl _ _

theorem State.finish_frame (s : State) (a1 : CmdHeader) (a2 : ℕ) (a3 : ℕ) (a4 : optParam ℕ 0) (a5 : optParam ℕ 0) (a6 : optParam ℕ 0) : Frame 0x2000201 s (State.finish s a1 a2 a3 a4 a5 a6) := by
  unfold State.finish
  refine Frame.step ?_ (State.complete_frame _ _) rfl
  exact Frame.refl _ _

theorem State.command_frame {M : Nat} {s t : State} {h : CmdHeader} {op : Nat} {fields buffer : Option Nat} {run : State → State}
    (hs : Frame M s t) (hm : 0x2000201 &&& M = 0x2000201) (hr : ∀ u, Frame M s u → Frame M s (run u)) :
    Frame M s (t.command h op fields buffer run) := by
  have fin : ∀ st d, Frame M s (t.finish h op st d) := fun st d => hs.step ((State.finish_frame _ _ _ _ _ _ _).weaken rfl) hm
  unfold State.command
  repeat' first
    | exact hs
    | exact hr _ hs
    | exact fin _ _
    | refine Frame.ite (fun _ => ?_) fun _ => ?_
    | split

theorem State.startJob_frame (s : State) (a1 : CmdHeader) (a2 : ℕ) (a3 : JobKind) (a4 : ℕ) (a5 : ℕ) : Frame 0x200 s (State.startJob s a1 a2 a3 a4 a5) := by
  unfold State.startJob
  extract_lets +onlyGivenNames x1
  clear_value x1
  refine Frame.upd ?_ rfl
  exact Frame.refl _ _

theorem State.resetHi_frame (s : State) : Frame 0x1 s (State.resetHi s) := by
  unfold State.resetHi
  refine Frame.filterRegs _ ?_ rfl
  exact Frame.refl _ _

theorem State.linkDown_frame (s : State) : Frame 0x1 s (State.linkDown s) := by
  unfold State.linkDown
  refine Frame.step ?_ (State.put_frame _ _ _) rfl
  refine Frame.step ?_ (State.put_frame _ _ _) rfl
  exact Frame.refl _ _

theorem State.lastReset_frame (s : State) (a1 : ℕ) : Frame 0x1 s (State.lastReset s a1) := by
  unfold State.lastReset
  refine Frame.step ?_ (State.put_frame _ _ _) rfl
  exact Frame.refl _ _

theorem State.configSpace_frame (s : State) (a1 : Bool) (a2 : Bool) (a3 : Bool) : Frame 0x201 s (State.configSpace s a1 a2 a3) := by
  unfold State.configSpace
  extract_lets +onlyGivenNames x1
  clear_value x1
  extract_lets +onlyGivenNames x2
  refine Frame.local x2 ?_ fun h2 => ?_
  · subst x2
    refine Frame.upd ?_ rfl
    exact Frame.refl _ _
  clear_value x2
  refine Frame.step ?_ (State.put_frame _ _ _) rfl
  refine Frame.step ?_ (State.put_frame _ _ _) rfl
  assumption

theorem State.msixRestore_frame (s : State) : Frame 0x1 s (State.msixRestore s) := by
  unfold State.msixRestore
  refine Frame.filterRegs _ ?_ rfl
  exact Frame.refl _ _

theorem State.commandsLost_frame (s : State) : Frame 0x601801 s (State.commandsLost s) := by
  unfold State.commandsLost
  extract_lets +onlyGivenNames x1
  clear_value x1
  extract_lets +onlyGivenNames x2
  clear_value x2
  extract_lets +onlyGivenNames x3
  clear_value x3
  extract_lets +onlyGivenNames x4
  refine Frame.local x4 ?_ fun h4 => ?_
  · subst x4
    refine Frame.upd ?_ rfl
    exact Frame.refl _ _
  clear_value x4
  extract_lets +onlyGivenNames x5
  refine Frame.local x5 ?_ fun h5 => ?_
  · subst x5
    split
    · refine Frame.ite (fun _ => ?_) fun _ => ?_
      · exact Frame.refl _ _
      · refine Frame.ite (fun _ => ?_) fun _ => ?_
        · refine Frame.step ?_ (State.showService_frame _ _) rfl
          refine Frame.step ?_ (State.setPair_frame _ _ _ _) rfl
          refine Frame.step ?_ (State.put_frame _ _ _) rfl
          assumption
        · assumption
    · exact Frame.refl _ _
  clear_value x5
  extract_lets +onlyGivenNames x6
  clear_value x6
  extract_lets +onlyGivenNames x7
  clear_value x7
  extract_lets +onlyGivenNames x8
  extract_lets +onlyGivenNames x9
  clear_value x9
  extract_lets +onlyGivenNames x10
  clear_value x10
  extract_lets +onlyGivenNames x11
  refine Frame.local x11 ?_ fun h11 => ?_
  · subst x11
    refine Frame.upd ?_ rfl
    assumption
  clear_value x11
  refine Frame.forEach ?_ fun _ _ _ => ?_
  · assumption
  · refine Frame.ite (fun _ => ?_) fun _ => ?_
    · refine Frame.step ?_ (State.put_frame _ _ _) rfl
      assumption
    · assumption

theorem State.hostClear_frame (s : State) : Frame 0x601a01 s (State.hostClear s) := by
  unfold State.hostClear
  extract_lets +onlyGivenNames x1
  refine Frame.local x1 ?_ fun h1 => ?_
  · subst x1
    refine Frame.step ?_ (State.resetHi_frame _) rfl
    refine Frame.step ?_ (State.commandsLost_frame _) rfl
    exact Frame.refl _ _
  clear_value x1
  refine Frame.upd ?_ rfl
  assumption

theorem State.flr_frame (s : State) : Frame 0x601a01 s (State.flr s) := by
  unfold State.flr
  refine Frame.step ?_ (State.configSpace_frame _ _ _ _) rfl
  refine Frame.step ?_ (State.ledgerAgain_frame _) rfl
  refine Frame.step ?_ (State.msixRestore_frame _) rfl
  refine Frame.step ?_ (State.hostClear_frame _) rfl
  exact Frame.refl _ _

theorem execPerstAssert_frame (s : State) (t : State) (h : execPerstAssert s = .next t) : Frame 0x601a01 s t := by
  unfold execPerstAssert at h
  refine onCore_frame h ?_
  extract_lets +onlyGivenNames x1
  refine Frame.local x1 ?_ fun h1 => ?_
  · subst x1
    refine Frame.step ?_ (State.linkDown_frame _) rfl
    refine Frame.step ?_ (State.lastReset_frame _ _) rfl
    refine Frame.step ?_ (State.flr_frame _) rfl
    exact Frame.refl _ _
  clear_value x1
  refine Frame.upd ?_ rfl
  assumption

theorem State.commandStart_frame (s : State) (a1 : ℕ) (a2 : FetchResult) (a3 : ℕ) (a4 : Word) : Frame 0x2000381 s (State.commandStart s a1 a2 a3 a4) := by
  unfold State.commandStart
  refine Frame.ite (fun _ => ?_) fun _ => ?_
  · exact Frame.refl _ _
  · extract_lets +onlyGivenNames x1
    refine Frame.local x1 ?_ fun h1 => ?_
    · subst x1
      refine Frame.step ?_ (State.turnTaken_frame _ _) rfl
      exact Frame.refl _ _
    clear_value x1
    extract_lets +onlyGivenNames x2
    split
    · simp only [x2]
      refine Frame.step ?_ (State.raise_frame _ _ _ _ _ _) rfl
      refine Frame.step ?_ (State.count_frame _ _) rfl
      refine Frame.step ?_ (State.put_frame _ _ _) rfl
      refine Frame.step ?_ (State.put_frame _ _ _) rfl
      assumption
    · simp only [x2]
      refine Frame.step ?_ (State.raise_frame _ _ _ _ _ _) rfl
      refine Frame.step ?_ (State.count_frame _ _) rfl
      refine Frame.step ?_ (State.put_frame _ _ _) rfl
      refine Frame.step ?_ (State.put_frame _ _ _) rfl
      assumption
    · simp only [x2]
      refine Frame.step ?_ (State.raise_frame _ _ _ _ _ _) rfl
      refine Frame.step ?_ (State.count_frame _ _) rfl
      refine Frame.step ?_ (State.put_frame _ _ _) rfl
      refine Frame.step ?_ (State.put_frame _ _ _) rfl
      refine Frame.step ?_ (State.count_frame _ _) rfl
      refine Frame.step ?_ (State.sluiceEcc_frame _ _ _ _) rfl
      assumption
    · refine Frame.step ?_ (State.raise_frame _ _ _ _ _ _) rfl
      refine Frame.step ?_ (State.count_frame _ _) rfl
      simp only [x2]
      refine Frame.step ?_ (State.raise_frame _ _ _ _ _ _) rfl
      refine Frame.step ?_ (State.count_frame _ _) rfl
      refine Frame.step ?_ (State.put_frame _ _ _) rfl
      refine Frame.step ?_ (State.put_frame _ _ _) rfl
      assumption
    · extract_lets +onlyGivenNames x3
      refine Frame.local x3 ?_ fun h3 => ?_
      · subst x3
        refine Frame.step ?_ (State.put_frame _ _ _) rfl
        assumption
      clear_value x3
      extract_lets +onlyGivenNames x4
      refine Frame.local x4 ?_ fun h4 => ?_
      · subst x4
        refine Frame.step ?_ (State.put_frame _ _ _) rfl
        assumption
      clear_value x4
      extract_lets +onlyGivenNames x5
      clear_value x5
      extract_lets +onlyGivenNames x6
      refine Frame.local x6 ?_ fun h6 => ?_
      · subst x6
        refine Frame.upd ?_ rfl
        assumption
      clear_value x6
      refine Frame.ite (fun _ => ?_) fun _ => ?_
      · assumption
      · refine Frame.step ?_ (State.complete_frame _ _) rfl
        assumption

theorem State.postWaiting_frame (s : State) : Frame 0x2000201 s (State.postWaiting s) := by
  unfold State.postWaiting
  split
  · exact Frame.refl _ _
  · refine Frame.step ?_ (State.ringDone_frame _ _) rfl
    refine Frame.step ?_ (State.cqWrite_frame _ _) rfl
    refine Frame.upd ?_ rfl
    exact Frame.refl _ _

theorem execCompletionPost_frame (s : State) (t : State) (h : execCompletionPost s = .next t) : Frame 0x2000201 s t := by
  unfold execCompletionPost at h
  refine onCore_frame h ?_
  refine Frame.step ?_ (State.postWaiting_frame _) rfl
  exact Frame.refl _ _

theorem execCommandStart_frame (a0 : ℕ) (a1 : FetchResult) (a2 : ℕ) (a3 : Word) (s : State) (t : State) (h : execCommandStart a0 a1 a2 a3 s = .next t) : Frame 0x2000381 s t := by
  unfold execCommandStart at h
  refine onCore_frame h ?_
  refine Frame.step ?_ (State.commandStart_frame _ _ _ _ _) rfl
  exact Frame.refl _ _

theorem State.stepLate_frame (s : State) (a1 : ℕ) : Frame 0x181 s (State.stepLate s a1) := by
  unfold State.stepLate
  refine Frame.ite (fun _ => ?_) fun _ => ?_
  · refine Frame.step ?_ (State.deviceMiss_frame _ _) rfl
    refine Frame.step ?_ (State.raise_frame _ _ _ _ _ _) rfl
    refine Frame.step ?_ (State.count_frame _ _) rfl
    exact Frame.refl _ _
  · exact Frame.refl _ _

theorem execStepDeadlineMiss_frame (a0 : ℕ) (s : State) (t : State) (h : execStepDeadlineMiss a0 s = .next t) : Frame 0x181 s t := by
  unfold execStepDeadlineMiss at h
  refine onCore_frame h ?_
  refine Frame.step ?_ (State.stepLate_frame _ _) rfl
  exact Frame.refl _ _

theorem State.coalesceExpire_frame (s : State) (a1 : ℕ) : Frame 0x2000201 s (State.coalesceExpire s a1) := by
  unfold State.coalesceExpire
  extract_lets +onlyGivenNames x1
  clear_value x1
  extract_lets +onlyGivenNames x2
  clear_value x2
  refine Frame.ite (fun _ => ?_) fun _ => ?_
  · refine Frame.step ?_ (State.message_frame _ _) rfl
    refine Frame.upd ?_ rfl
    exact Frame.refl _ _
  · exact Frame.refl _ _

theorem execMsixCoalesceTimer_frame (a0 : ℕ) (s : State) (t : State) (h : execMsixCoalesceTimer a0 s = .next t) : Frame 0x2000201 s t := by
  unfold execMsixCoalesceTimer at h
  refine onCore_frame h ?_
  refine Frame.step ?_ (State.coalesceExpire_frame _ _) rfl
  exact Frame.refl _ _

theorem execNop_frame (a0 : CmdHeader) (s : State) (t : State) (h : execNop a0 s = .next t) : Frame 0x2000201 s t := by
  unfold execNop at h
  refine onCore_frame h ?_
  refine State.command_frame ?_ rfl fun _ _ => ?_
  · exact Frame.refl _ _
  · refine Frame.step ?_ (State.finish_frame _ _ _ _ _ _ _) rfl
    assumption

theorem State.linkTrain_frame (s : State) : Frame 0x1000001 s (State.linkTrain s) := by
  unfold State.linkTrain
  extract_lets +onlyGivenNames x1
  clear_value x1
  refine Frame.step ?_ (State.draw_frame _) rfl
  refine Frame.step ?_ (State.put_frame _ _ _) rfl
  refine Frame.step ?_ (State.put_frame _ _ _) rfl
  exact Frame.refl _ _

theorem execConfigSpaceWrite_frame (a0 : Bool) (a1 : Bool) (a2 : Bool) (s : State) (t : State) (h : execConfigSpaceWrite a0 a1 a2 s = .next t) : Frame 0x201 s t := by
  unfold execConfigSpaceWrite at h
  refine onCore_frame h ?_
  refine Frame.ite (fun _ => ?_) fun _ => ?_
  · exact Frame.refl _ _
  · refine Frame.step ?_ (State.configSpace_frame _ _ _ _) rfl
    exact Frame.refl _ _

theorem execFunctionLevelReset_frame (s : State) (t : State) (h : execFunctionLevelReset s = .next t) : Frame 0x601a01 s t := by
  unfold execFunctionLevelReset at h
  refine onCore_frame h ?_
  refine Frame.step ?_ (State.lastReset_frame _ _) rfl
  refine Frame.step ?_ (State.flr_frame _) rfl
  exact Frame.refl _ _

theorem execPerstRelease_frame (s : State) (t : State) (h : execPerstRelease s = .next t) : Frame 0x1000201 s t := by
  unfold execPerstRelease at h
  refine onCore_frame h ?_
  refine Frame.ite (fun _ => ?_) fun _ => ?_
  · refine Frame.step ?_ (State.linkTrain_frame _) rfl
    refine Frame.upd ?_ rfl
    exact Frame.refl _ _
  · exact Frame.refl _ _

end Sys2Proof.Machine
end

