-- ==== Sys2Proof/Laws/FrameConditions.lean ====
section
/-!
SUPPORT. What each operation of Machine/Conditions.lean can change: one lemma an operation, with the mask of the parts of the state it
may touch (the bits are listed in Laws/Frame.lean).
-/

set_option linter.unusedVariables false
set_option Elab.async false

namespace Sys2Proof.Machine

theorem State.setConds_upd {s y : State} {a b : List VecUpdate} {v : Nat} (hy : Frame 0x201000 s y) : Frame 0x201000 s
    { y with capture := { y.capture with vector := v, forRules := a, forUnits := b } } := Frame.upd hy rfl

theorem State.setConds_digest (s : State) (c : Bool) (f : State → Nat) (g : State → List Byte) :
    Frame 0x201000 s (s.when c fun s => s.digestItem 4 (f s) 0 (g s)) :=
  Frame.when (Frame.refl _ _) fun _ ht => Frame.step ht (State.digestItem_frame _ _ _ _ _) rfl

theorem State.setConds_frame (s : State) (bits : List (Nat × Bool)) (data : Stamp) (b : Option Nat) : Frame 0x201000 s (s.setConds bits data b) := by
  rw [(by delta State.setConds; rfl : @State.setConds = _)]
  generalize bits.foldl (fun v b => setBit v b.1 b.2) s.capture.vector = v
  generalize s.capture.vector = w
  generalize sharedBits = sh
  refine Frame.ite (fun _ => Frame.refl _ _) fun _ => ?_
  extract_lets +onlyGivenNames u
  clear_value u
  exact State.setConds_upd (State.setConds_digest _ _ _ _)

theorem State.modeConds_frame (s : State) : Frame 0x201000 s (State.modeConds s) := by
  unfold State.modeConds
  refine Frame.step ?_ (State.setConds_frame _ _ _ _) rfl
  exact Frame.refl _ _

theorem State.missKick_frame (s : State) : Frame 0x181 s (State.missKick s) := by
  unfold State.missKick
  extract_lets +onlyGivenNames x1
  refine Frame.local x1 ?_ fun h1 => ?_
  · subst x1
    refine Frame.step ?_ (State.count_frame _ _) rfl
    refine Frame.step ?_ (State.put_frame _ _ _) rfl
    refine Frame.step ?_ (State.put_frame _ _ _) rfl
    exact Frame.refl _ _
  clear_value x1
  refine Frame.step ?_ (State.raise_frame _ _ _ _ _ _) rfl
  assumption

theorem State.kickPassed_frame (s : State) : Frame 0x181 s (State.kickPassed s) := by
  unfold State.kickPassed
  refine Frame.ite (fun _ => ?_) fun _ => ?_
  · refine Frame.step ?_ (State.missKick_frame _) rfl
    exact Frame.refl _ _
  · exact Frame.refl _ _

theorem State.timeConds_frame (s : State) (a1 : Bool) : Frame 0x201000 s (State.timeConds s a1) := by
  unfold State.timeConds
  extract_lets +onlyGivenNames x1
  clear_value x1
  refine Frame.step ?_ (State.setConds_frame _ _ _ _) rfl
  exact Frame.refl _ _

theorem State.orderLog_frame (s : State) (a1 : OrderEntry) : Frame 0x40 s (State.orderLog s a1) := by
  unfold State.orderLog
  refine Frame.ite (fun _ => ?_) fun _ => ?_
  · extract_lets +onlyGivenNames x1
    clear_value x1
    refine Frame.upd ?_ rfl
    exact Frame.refl _ _
  · exact Frame.refl _ _

theorem State.laneConds_frame (s : State) : Frame 0x201000 s (State.laneConds s) := by
  unfold State.laneConds
  refine Frame.step ?_ (State.setConds_frame _ _ _ _) rfl
  exact Frame.refl _ _

theorem State.syncLost_frame (s : State) : Frame 0x200041 s (State.syncLost s) := by
  unfold State.syncLost
  extract_lets +onlyGivenNames x1
  refine Frame.local x1 ?_ fun h1 => ?_
  · subst x1
    refine Frame.step ?_ (State.put_frame _ _ _) rfl
    exact Frame.refl _ _
  clear_value x1
  refine Frame.upd ?_ rfl
  assumption

theorem State.dropLog_frame (s : State) : Frame 0x200040 s (State.dropLog s) := by
  unfold State.dropLog
  refine Frame.upd ?_ rfl
  exact Frame.refl _ _

theorem State.cwExhaust_frame (s : State) : Frame 0x2001c1 s (State.cwExhaust s) := by
  unfold State.cwExhaust
  refine Frame.ite (fun _ => ?_) fun _ => ?_
  · exact Frame.refl _ _
  · extract_lets +onlyGivenNames x1
    extract_lets +onlyGivenNames x2
    refine Frame.local x2 ?_ fun h2 => ?_
    · subst x2
      refine Frame.upd ?_ rfl
      exact Frame.refl _ _
    extract_lets +onlyGivenNames x3
    refine Frame.local x3 ?_ fun h3 => ?_
    · subst x3
      refine Frame.step ?_ (State.raise_frame _ _ _ _ _ _) rfl
      assumption
    refine Frame.ite (fun _ => ?_) fun _ => ?_
    · refine Frame.step ?_ (State.syncLost_frame _) rfl
      assumption
    · refine Frame.ite (fun _ => ?_) fun _ => ?_
      · extract_lets +onlyGivenNames x4
        refine Frame.local x4 ?_ fun h4 => ?_
        · subst x4
          refine Frame.step ?_ (State.put_frame _ _ _) rfl
          assumption
        clear_value x4
        refine Frame.when ?_ fun _ _ => ?_
        · assumption
        · refine Frame.step ?_ (State.raise_frame _ _ _ _ _ _) rfl
          refine Frame.step ?_ (State.dropLog_frame _) rfl
          assumption
      · assumption

theorem State.fcountOn_frame (s : State) : Frame 0x200001 s (State.fcountOn s) := by
  unfold State.fcountOn
  refine Frame.ite (fun _ => ?_) fun _ => ?_
  · extract_lets +onlyGivenNames x1
    refine Frame.local x1 ?_ fun h1 => ?_
    · subst x1
      refine Frame.step ?_ (State.setWord_frame _ _ _) rfl
      exact Frame.refl _ _
    clear_value x1
    refine Frame.upd ?_ rfl
    assumption
  · refine Frame.upd ?_ rfl
    exact Frame.refl _ _

theorem State.cwEmit_frame (s : State) (a1 : ℕ) (a2 : ℕ) (a3 : List Byte) : Frame 0x3000000 s (State.cwEmit s a1 a2 a3) := by
  unfold State.cwEmit
  refine Frame.ite (fun _ => ?_) fun _ => ?_
  · refine Frame.step ?_ (State.draw_frame _) rfl
    refine Frame.step ?_ (State.emit_frame _ _) rfl
    exact Frame.refl _ _
  · refine Frame.step ?_ (State.emit_frame _ _) rfl
    exact Frame.refl _ _

theorem State.cwSend_frame (s : State) (a1 : ℕ) (a2 : List Byte) : Frame 0x32001c1 s (State.cwSend s a1 a2) := by
  unfold State.cwSend
  refine Frame.ite (fun _ => ?_) fun _ => ?_
  · exact Frame.refl _ _
  · refine Frame.ite (fun _ => ?_) fun _ => ?_
    · refine Frame.step ?_ (State.cwExhaust_frame _) rfl
      exact Frame.refl _ _
    · refine Frame.step ?_ (State.fcountOn_frame _) rfl
      refine Frame.step ?_ (State.cwEmit_frame _ _ _ _) rfl
      exact Frame.refl _ _

theorem State.softConds_frame (s : State) : Frame 0x201000 s (State.softConds s) := by
  unfold State.softConds
  refine Frame.step ?_ (State.setConds_frame _ _ _ _) rfl
  exact Frame.refl _ _

end Sys2Proof.Machine
end

