-- ==== Sys2Proof/Laws/FrameMetering.lean ====
section
/-!
SUPPORT. What each operation of Machine/Metering.lean can change: one lemma an operation, with the mask of the parts of the state it
may touch (the bits are listed in Laws/Frame.lean).
-/

set_option linter.unusedVariables false
set_option Elab.async false

namespace Sys2Proof.Machine

theorem State.toRecovery_frame (s : State) : Frame 0x201981 s (State.toRecovery s) := by
  unfold State.toRecovery
  refine Frame.ite (fun _ => ?_) fun _ => ?_
  · exact Frame.refl _ _
  · extract_lets +onlyGivenNames x1
    clear_value x1
    extract_lets +onlyGivenNames x2
    refine Frame.local x2 ?_ fun h2 => ?_
    · subst x2
      refine Frame.step ?_ (State.put_frame _ _ _) rfl
      exact Frame.refl _ _
    clear_value x2
    refine Frame.step ?_ (State.modeConds_frame _) rfl
    refine Frame.step ?_ (State.raise_frame _ _ _ _ _ _) rfl
    refine Frame.step ?_ (State.auditAdd_frame _ _) rfl
    assumption

theorem State.setMeter_frame (s : State) (a1 : ℕ) (a2 : LaneMeter → LaneMeter) : Frame 0x800 s (State.setMeter s a1 a2) := by
  unfold State.setMeter
  refine Frame.upd ?_ rfl
  exact Frame.refl _ _

theorem State.endBlock_frame (s : State) (a1 : ℕ) (a2 : Bool) : Frame 0x800 s (State.endBlock s a1 a2) := by
  unfold State.endBlock
  split
  · exact Frame.refl _ _
  · extract_lets +onlyGivenNames x1
    clear_value x1
    extract_lets +onlyGivenNames x2
    clear_value x2
    refine Frame.step ?_ (State.setMeter_frame _ _ _) rfl
    exact Frame.refl _ _

theorem State.dualCheck_frame (s : State) (a1 : ℕ) (a2 : MeterBlock) (a3 : Bool) (a4 : Bool) : Frame 0x181 s (State.dualCheck s a1 a2 a3 a4).1 := by
  unfold State.dualCheck
  refine Frame.iteFst (fun _ => ?_) fun _ => ?_
  · extract_lets +onlyGivenNames x1
    refine Frame.local x1 ?_ fun h1 => ?_
    · subst x1
      refine Frame.step ?_ (State.count_frame _ _) rfl
      exact Frame.refl _ _
    clear_value x1
    refine Frame.iteFst (fun _ => ?_) fun _ => ?_
    · dsimp -zeta only
      refine Frame.step ?_ (State.raise_frame _ _ _ _ _ _) rfl
      refine Frame.step ?_ (State.count_frame _ _) rfl
      assumption
    · dsimp -zeta only
      assumption
  · dsimp -zeta only
    exact Frame.refl _ _

theorem State.inRecords_frame (s : State) (a1 : ℕ) (a2 : MeterBlock) (a3 : SpanAcc → SpanAcc) : Frame 0x800 s (State.inRecords s a1 a2 a3) := by
  unfold State.inRecords
  extract_lets +onlyGivenNames x1
  clear_value x1
  refine Frame.step ?_ (State.setMeter_frame _ _ _) rfl
  exact Frame.refl _ _

theorem State.addEnergy_frame (s : State) (a1 : ℕ) (a2 : ℕ) (a3 : ℕ) (a4 : ℕ) (a5 : ℕ) : Frame 0x981 s (State.addEnergy s a1 a2 a3 a4 a5) := by
  unfold State.addEnergy
  extract_lets +onlyGivenNames x1
  clear_value x1
  extract_lets +onlyGivenNames x2
  clear_value x2
  extract_lets +onlyGivenNames x3
  refine Frame.local x3 ?_ fun h3 => ?_
  · subst x3
    refine Frame.step ?_ (State.setPair_frame _ _ _ _) rfl
    exact Frame.refl _ _
  clear_value x3
  extract_lets +onlyGivenNames x4
  refine Frame.local x4 ?_ fun h4 => ?_
  · subst x4
    refine Frame.step ?_ (State.setMeter_frame _ _ _) rfl
    assumption
  clear_value x4
  refine Frame.when ?_ fun _ _ => ?_
  · assumption
  · refine Frame.step ?_ (State.raise_frame _ _ _ _ _ _) rfl
    assumption

theorem State.addTest_frame (s : State) (a1 : ℕ) (a2 : ℕ) (a3 : ℕ) (a4 : ℕ) (a5 : ℕ) : Frame 0x981 s (State.addTest s a1 a2 a3 a4 a5) := by
  unfold State.addTest
  extract_lets +onlyGivenNames x1
  clear_value x1
  extract_lets +onlyGivenNames x2
  refine Frame.local x2 ?_ fun h2 => ?_
  · subst x2
    refine Frame.step ?_ (State.setPair_frame _ _ _ _) rfl
    exact Frame.refl _ _
  clear_value x2
  extract_lets +onlyGivenNames x3
  refine Frame.local x3 ?_ fun h3 => ?_
  · subst x3
    refine Frame.step ?_ (State.setMeter_frame _ _ _) rfl
    assumption
  clear_value x3
  refine Frame.when ?_ fun _ _ => ?_
  · assumption
  · refine Frame.step ?_ (State.raise_frame _ _ _ _ _ _) rfl
    assumption

theorem State.judgeReverse_frame (s : State) (a1 : ℕ) (a2 : BlockResult) : Frame 0x201981 s (State.judgeReverse s a1 a2) := by
  unfold State.judgeReverse
  extract_lets +onlyGivenNames x1
  clear_value x1
  extract_lets +onlyGivenNames x2
  clear_value x2
  extract_lets +onlyGivenNames x3
  clear_value x3
  extract_lets +onlyGivenNames x4
  clear_value x4
  extract_lets +onlyGivenNames x5
  clear_value x5
  extract_lets +onlyGivenNames x6
  clear_value x6
  refine Frame.ite (fun _ => ?_) fun _ => ?_
  · extract_lets +onlyGivenNames x7
    clear_value x7
    refine Frame.ite (fun _ => ?_) fun _ => ?_
    · refine Frame.step ?_ (State.laneConds_frame _) rfl
      refine Frame.step ?_ (State.raise_frame _ _ _ _ _ _) rfl
      refine Frame.step ?_ (State.put_frame _ _ _) rfl
      refine Frame.step ?_ (State.setMeter_frame _ _ _) rfl
      exact Frame.refl _ _
    · refine Frame.step ?_ (State.setMeter_frame _ _ _) rfl
      exact Frame.refl _ _
  · extract_lets +onlyGivenNames x8
    clear_value x8
    refine Frame.ite (fun _ => ?_) fun _ => ?_
    · refine Frame.step ?_ (State.laneConds_frame _) rfl
      refine Frame.step ?_ (State.raise_frame _ _ _ _ _ _) rfl
      refine Frame.step ?_ (State.put_frame _ _ _) rfl
      refine Frame.step ?_ (State.setMeter_frame _ _ _) rfl
      exact Frame.refl _ _
    · refine Frame.step ?_ (State.setMeter_frame _ _ _) rfl
      exact Frame.refl _ _

theorem State.showBlock_frame (s : State) (a1 : ℕ) (a2 : BlockResult) : Frame 0x801 s (State.showBlock s a1 a2) := by
  unfold State.showBlock
  extract_lets +onlyGivenNames x1
  refine Frame.local x1 ?_ fun h1 => ?_
  · subst x1
    refine Frame.step ?_ (State.setWord_frame _ _ _) rfl
    refine Frame.step ?_ (State.setWord_frame _ _ _) rfl
    exact Frame.refl _ _
  clear_value x1
  extract_lets +onlyGivenNames x2
  refine Frame.local x2 ?_ fun h2 => ?_
  · subst x2
    refine Frame.forEach ?_ fun _ _ _ => ?_
    · assumption
    · refine Frame.step ?_ (State.setWord_frame _ _ _) rfl
      assumption
  clear_value x2
  extract_lets +onlyGivenNames x3
  clear_value x3
  refine Frame.step ?_ (State.setMeter_frame _ _ _) rfl
  assumption

theorem State.addPulses_frame (s : State) (a1 : ℕ) (a2 : ℕ) (a3 : MeterBlock) : Frame 0x981 s (State.addPulses s a1 a2 a3) := by
  unfold State.addPulses
  extract_lets +onlyGivenNames x1
  clear_value x1
  extract_lets +onlyGivenNames x2
  clear_value x2
  extract_lets +onlyGivenNames x3
  clear_value x3
  extract_lets +onlyGivenNames x4
  clear_value x4
  extract_lets +onlyGivenNames x5
  clear_value x5
  extract_lets +onlyGivenNames x6
  clear_value x6
  extract_lets +onlyGivenNames x7
  clear_value x7
  extract_lets +onlyGivenNames x8
  clear_value x8
  extract_lets +onlyGivenNames x9
  clear_value x9
  extract_lets +onlyGivenNames x10
  extract_lets +onlyGivenNames x11
  refine Frame.local x11 ?_ fun h11 => ?_
  · subst x11
    refine Frame.upd ?_ rfl
    exact Frame.refl _ _
  clear_value x11
  extract_lets +onlyGivenNames x12
  refine Frame.local x12 ?_ fun h12 => ?_
  · subst x12
    refine Frame.step ?_ (State.put_frame _ _ _) rfl
    assumption
  clear_value x12
  refine Frame.ite (fun _ => ?_) fun _ => ?_
  · assumption
  · refine Frame.step ?_ (State.raise_frame _ _ _ _ _ _) rfl
    refine Frame.step ?_ (State.put_frame _ _ _) rfl
    assumption

theorem State.pulses_frame (s : State) (a1 : ℕ) (a2 : BlockResult) (a3 : MeterBlock) : Frame 0x981 s (State.pulses s a1 a2 a3) := by
  unfold State.pulses
  refine Frame.forEach ?_ fun _ _ _ => ?_
  · exact Frame.refl _ _
  · refine Frame.ite (fun _ => ?_) fun _ => ?_
    · refine Frame.step ?_ (State.addPulses_frame _ _ _ _) rfl
      assumption
    · assumption

theorem State.bookBlock_frame (s : State) (a1 : ℕ) (a2 : MeterBlock) (a3 : ℕ) : Frame 0x201981 s (State.bookBlock s a1 a2 a3) := by
  unfold State.bookBlock
  extract_lets +onlyGivenNames x1
  refine Frame.local x1 ?_ fun h1 => ?_
  · subst x1
    refine Frame.step ?_ (State.inRecords_frame _ _ _ _) rfl
    exact Frame.refl _ _
  clear_value x1
  extract_lets +onlyGivenNames x2
  clear_value x2
  extract_lets +onlyGivenNames x3
  clear_value x3
  extract_lets +onlyGivenNames x4
  extract_lets +onlyGivenNames x5
  refine Frame.local x5 ?_ fun h5 => ?_
  · subst x5
    refine Frame.step ?_ (State.setMeter_frame _ _ _) rfl
    assumption
  clear_value x5
  extract_lets +onlyGivenNames x6
  clear_value x6
  extract_lets +onlyGivenNames x7
  clear_value x7
  extract_lets +onlyGivenNames x8
  refine Frame.ite (fun _ => ?_) fun _ => ?_
  · extract_lets +onlyGivenNames x9
    refine Frame.local x9 ?_ fun h9 => ?_
    · subst x9
      refine Frame.step ?_ (State.raise_frame _ _ _ _ _ _) rfl
      refine Frame.step ?_ (State.put_frame _ _ _) rfl
      refine Frame.step ?_ (State.countN_frame _ _ _) rfl
      assumption
    clear_value x9
    simp only [x8]
    refine Frame.step ?_ (State.setMeter_frame _ _ _) rfl
    refine Frame.step ?_ (State.put_frame _ _ _) rfl
    simp only [x4]
    refine Frame.step ?_ (State.inRecords_frame _ _ _ _) rfl
    assumption
  · extract_lets +onlyGivenNames x10
    refine Frame.local x10 ?_ fun h10 => ?_
    · subst x10
      refine Frame.step ?_ (State.countN_frame _ _ _) rfl
      refine Frame.step ?_ (State.put_frame _ _ _) rfl
      assumption
    clear_value x10
    refine Frame.ite (fun _ => ?_) fun _ => ?_
    · extract_lets +onlyGivenNames x11
      refine Frame.local x11 ?_ fun h11 => ?_
      · subst x11
        refine Frame.step ?_ (State.put_frame _ _ _) rfl
        refine Frame.step ?_ (State.put_frame _ _ _) rfl
        refine Frame.step ?_ (State.count_frame _ _) rfl
        assumption
      clear_value x11
      simp only [x8]
      refine Frame.step ?_ (State.setMeter_frame _ _ _) rfl
      simp only [x4]
      refine Frame.step ?_ (State.inRecords_frame _ _ _ _) rfl
      assumption
    · extract_lets +onlyGivenNames x12
      refine Frame.local x12 ?_ fun h12 => ?_
      · subst x12
        refine Frame.step ?_ (State.put_frame _ _ _) rfl
        refine Frame.step ?_ (State.put_frame _ _ _) rfl
        assumption
      clear_value x12
      extract_lets +onlyGivenNames x13
      refine Frame.local x13 ?_ fun h13 => ?_
      · subst x13
        refine Frame.ite (fun _ => ?_) fun _ => ?_
        · refine Frame.step ?_ (State.addEnergy_frame _ _ _ _ _ _) rfl
          assumption
        · refine Frame.ite (fun _ => ?_) fun _ => ?_
          · refine Frame.step ?_ (State.addEnergy_frame _ _ _ _ _ _) rfl
            assumption
          · assumption
      clear_value x13
      extract_lets +onlyGivenNames x14
      refine Frame.local x14 ?_ fun h14 => ?_
      · subst x14
        refine Frame.ite (fun _ => ?_) fun _ => ?_
        · refine Frame.step ?_ (State.addEnergy_frame _ _ _ _ _ _) rfl
          assumption
        · refine Frame.ite (fun _ => ?_) fun _ => ?_
          · refine Frame.step ?_ (State.addEnergy_frame _ _ _ _ _ _) rfl
            assumption
          · assumption
      clear_value x14
      extract_lets +onlyGivenNames x15
      refine Frame.local x15 ?_ fun h15 => ?_
      · subst x15
        refine Frame.step ?_ (State.put_frame _ _ _) rfl
        assumption
      clear_value x15
      extract_lets +onlyGivenNames x16
      refine Frame.local x16 ?_ fun h16 => ?_
      · subst x16
        refine Frame.when ?_ fun _ _ => ?_
        · assumption
        · refine Frame.ite (fun _ => ?_) fun _ => ?_
          · refine Frame.step ?_ (State.addTest_frame _ _ _ _ _ _) rfl
            assumption
          · refine Frame.step ?_ (State.addTest_frame _ _ _ _ _ _) rfl
            assumption
      clear_value x16
      extract_lets +onlyGivenNames x17
      refine Frame.local x17 ?_ fun h17 => ?_
      · subst x17
        refine Frame.step ?_ (State.judgeReverse_frame _ _ _) rfl
        refine Frame.step ?_ (State.showBlock_frame _ _ _) rfl
        assumption
      clear_value x17
      extract_lets +onlyGivenNames x18
      refine Frame.local x18 ?_ fun h18 => ?_
      · subst x18
        refine Frame.step ?_ (State.setMeter_frame _ _ _) rfl
        assumption
      clear_value x18
      simp only [x8]
      refine Frame.step ?_ (State.setMeter_frame _ _ _) rfl
      simp only [x4]
      refine Frame.step ?_ (State.inRecords_frame _ _ _ _) rfl
      refine Frame.step ?_ (State.pulses_frame _ _ _ _) rfl
      assumption

theorem State.feedRow_frame (s : State) (a1 : ℕ) (a2 : ℕ) (a3 : ℕ) (a4 : List (Option ℤ)) : Frame 0x800 s (State.feedRow s a1 a2 a3 a4) := by
  unfold State.feedRow
  refine Frame.ite (fun _ => ?_) fun _ => ?_
  · exact Frame.refl _ _
  · extract_lets +onlyGivenNames x1
    refine Frame.local x1 ?_ fun h1 => ?_
    · subst x1
      split
      · refine Frame.ite (fun _ => ?_) fun _ => ?_
        · exact Frame.refl _ _
        · refine Frame.step ?_ (State.endBlock_frame _ _ _) rfl
          exact Frame.refl _ _
      · exact Frame.refl _ _
    clear_value x1
    extract_lets +onlyGivenNames x2
    clear_value x2
    refine Frame.step ?_ (State.setMeter_frame _ _ _) rfl
    assumption

theorem State.meterPosition_frame (s : State) (a1 : ℕ) (a2 : ℕ) (a3 : ℕ) (a4 : ℕ) (a5 : ℕ) (a6 : List (List (Option ℤ))) : Frame 0x800 s (State.meterPosition s a1 a2 a3 a4 a5 a6) := by
  unfold State.meterPosition
  refine Frame.ite (fun _ => ?_) fun _ => ?_
  · exact Frame.refl _ _
  · extract_lets +onlyGivenNames x1
    clear_value x1
    extract_lets +onlyGivenNames x2
    split
    · exact Frame.refl _ _
    · extract_lets +onlyGivenNames x3
      refine Frame.local x3 ?_ fun h3 => ?_
      · subst x3
        simp only [x2]
        refine Frame.step ?_ (State.feedRow_frame _ _ _ _ _) rfl
        exact Frame.refl _ _
      clear_value x3
      extract_lets +onlyGivenNames x4
      refine Frame.local x4 ?_ fun h4 => ?_
      · subst x4
        refine Frame.when ?_ fun _ _ => ?_
        · assumption
        · refine Frame.step ?_ (State.setMeter_frame _ _ _) rfl
          assumption
      clear_value x4
      extract_lets +onlyGivenNames x5
      refine Frame.local x5 ?_ fun h5 => ?_
      · subst x5
        refine Frame.foldl ?_ fun _ _ _ => ?_
        · assumption
        · simp only [x2]
          refine Frame.step ?_ (State.feedRow_frame _ _ _ _ _) rfl
          assumption
      clear_value x5
      extract_lets +onlyGivenNames x6
      refine Frame.local x6 ?_ fun h6 => ?_
      · subst x6
        refine Frame.step ?_ (State.setMeter_frame _ _ _) rfl
        assumption
      clear_value x6
      split
      · refine Frame.ite (fun _ => ?_) fun _ => ?_
        · refine Frame.step ?_ (State.endBlock_frame _ _ _) rfl
          assumption
        · assumption
      · assumption

end Sys2Proof.Machine
end

