-- ==== Sys2Proof/Laws/FrameFenStore.lean ====
section
/-!
SUPPORT. What each operation of Machine/FenStore.lean can change: one lemma an operation, with the mask of the parts of the state it
may touch (the bits are listed in Laws/Frame.lean).
-/

set_option linter.unusedVariables false
set_option Elab.async false

namespace Sys2Proof.Machine

theorem State.setOpen_frame (s : State) (a1 : ℕ) (a2 : OpenBucket → OpenBucket) : Frame 0x8000 s (State.setOpen s a1 a2) := by
  unfold State.setOpen
  refine Frame.upd ?_ rfl
  exact Frame.refl _ _

theorem State.bucketLate_frame (s : State) (a1 : ℕ) : Frame 0x8181 s (State.bucketLate s a1) := by
  unfold State.bucketLate
  split
  · exact Frame.refl _ _
  · extract_lets +onlyGivenNames x1
    clear_value x1
    extract_lets +onlyGivenNames x2
    clear_value x2
    extract_lets +onlyGivenNames x3
    clear_value x3
    refine Frame.ite (fun _ => ?_) fun _ => ?_
    · exact Frame.refl _ _
    · refine Frame.step ?_ (State.deviceMiss_frame _ _) rfl
      refine Frame.step ?_ (State.raise_frame _ _ _ _ _ _) rfl
      refine Frame.step ?_ (State.count_frame _ _) rfl
      refine Frame.step ?_ (State.setOpen_frame _ _ _) rfl
      exact Frame.refl _ _

theorem execBucketDeadlineMiss_frame (a0 : ℕ) (s : State) (t : State) (h : execBucketDeadlineMiss a0 s = .next t) : Frame 0x8181 s t := by
  unfold execBucketDeadlineMiss at h
  refine onEngines_frame h ?_
  refine Frame.step ?_ (State.bucketLate_frame _ _) rfl
  exact Frame.refl _ _

theorem State.cellErrors_frame (s : State) (a1 : ℕ) (a2 : List ℕ) : Frame 0x181 s (State.cellErrors s a1 a2) := by
  unfold State.cellErrors
  refine Frame.ite (fun _ => ?_) fun _ => ?_
  · exact Frame.refl _ _
  · refine Frame.foldl ?_ fun _ _ _ => ?_
    · exact Frame.refl _ _
    · refine Frame.step ?_ (State.uecc_frame _ _) rfl
      assumption

theorem State.deliverTo_frame (s : State) (a1 : ℕ) (a2 : ℕ) : Frame 0x2000381 s (State.deliverTo s a1 a2) := by
  unfold State.deliverTo
  split
  · exact Frame.refl _ _
  · extract_lets +onlyGivenNames x1
    clear_value x1
    extract_lets +onlyGivenNames x2
    refine Frame.local x2 ?_ fun h2 => ?_
    · subst x2
      refine Frame.step ?_ (State.cellErrors_frame _ _ _) rfl
      exact Frame.refl _ _
    clear_value x2
    refine Frame.ite (fun _ => ?_) fun _ => ?_
    · refine Frame.step ?_ (State.drPlace_frame _ _ _ _ _) rfl
      assumption
    · refine Frame.step ?_ (State.raise_frame _ _ _ _ _ _) rfl
      refine Frame.step ?_ (State.count_frame _ _) rfl
      refine Frame.step ?_ (State.drDropped_frame _ _) rfl
      assumption

theorem State.setSlotLink_frame (s : State) (a1 : ℕ) (a2 : SlotLink → SlotLink) : Frame 0x8000 s (State.setSlotLink s a1 a2) := by
  unfold State.setSlotLink
  refine Frame.upd ?_ rfl
  exact Frame.refl _ _

theorem State.showPins_frame (s : State) : Frame 0x1 s (State.showPins s) := by
  unfold State.showPins
  extract_lets +onlyGivenNames x1
  clear_value x1
  extract_lets +onlyGivenNames x2
  clear_value x2
  refine Frame.step ?_ (State.put_frame _ _ _) rfl
  refine Frame.step ?_ (State.put_frame _ _ _) rfl
  exact Frame.refl _ _

theorem State.showFen_frame (s : State) : Frame 0x1 s (State.showFen s) := by
  unfold State.showFen
  extract_lets +onlyGivenNames x1
  refine Frame.local x1 ?_ fun h1 => ?_
  · subst x1
    refine Frame.step ?_ (State.put_frame _ _ _) rfl
    exact Frame.refl _ _
  clear_value x1
  extract_lets +onlyGivenNames x2
  refine Frame.local x2 ?_ fun h2 => ?_
  · subst x2
    split
    · refine Frame.step ?_ (State.setPair_frame _ _ _ _) rfl
      assumption
    · refine Frame.step ?_ (State.setPair_frame _ _ _ _) rfl
      assumption
  clear_value x2
  extract_lets +onlyGivenNames x3
  clear_value x3
  refine Frame.step ?_ (State.setPair_frame _ _ _ _) rfl
  assumption

theorem State.setHeader_frame (s : State) (a1 : ℕ) (a2 : BucketHeader → BucketHeader) : Frame 0x808000 s (State.setHeader s a1 a2) := by
  unfold State.setHeader
  split
  · extract_lets +onlyGivenNames x1
    clear_value x1
    refine Frame.step ?_ (State.healed_frame _ _ _) rfl
    refine Frame.upd ?_ rfl
    exact Frame.refl _ _
  · exact Frame.refl _ _

theorem State.openBucket_frame (s : State) (a1 : ℕ) : Frame 0x8001 s (State.openBucket s a1) := by
  unfold State.openBucket
  extract_lets +onlyGivenNames x1
  clear_value x1
  extract_lets +onlyGivenNames x2
  clear_value x2
  extract_lets +onlyGivenNames x3
  clear_value x3
  extract_lets +onlyGivenNames x4
  clear_value x4
  extract_lets +onlyGivenNames x5
  clear_value x5
  extract_lets +onlyGivenNames x6
  clear_value x6
  extract_lets +onlyGivenNames x7
  clear_value x7
  refine Frame.step ?_ (State.showFen_frame _) rfl
  refine Frame.upd ?_ rfl
  exact Frame.refl _ _

theorem State.openTo_frame (s : State) (a1 : ℕ) : Frame 0x8001 s (State.openTo s a1) := by
  unfold State.openTo
  extract_lets +onlyGivenNames x1
  clear_value x1
  refine Frame.foldl ?_ fun _ _ _ => ?_
  · exact Frame.refl _ _
  · refine Frame.step ?_ (State.openBucket_frame _ _) rfl
    assumption

theorem State.placeCell_frame (s : State) (a1 : ℕ) (a2 : ℕ) (a3 : Cell) : Frame 0x808000 s (State.placeCell s a1 a2 a3) := by
  unfold State.placeCell
  extract_lets +onlyGivenNames x1
  clear_value x1
  extract_lets +onlyGivenNames x2
  clear_value x2
  refine Frame.step ?_ (State.healed_frame _ _ _) rfl
  refine Frame.upd ?_ rfl
  exact Frame.refl _ _

theorem State.fileCell_frame (s : State) (a1 : ℕ) (a2 : ℕ) (a3 : ℕ) (a4 : Cell) : Frame 0x808000 s (State.fileCell s a1 a2 a3 a4) := by
  unfold State.fileCell
  split
  · exact Frame.refl _ _
  · extract_lets +onlyGivenNames x1
    refine Frame.local x1 ?_ fun h1 => ?_
    · subst x1
      refine Frame.step ?_ (State.placeCell_frame _ _ _ _) rfl
      exact Frame.refl _ _
    clear_value x1
    extract_lets +onlyGivenNames x2
    clear_value x2
    extract_lets +onlyGivenNames x3
    clear_value x3
    extract_lets +onlyGivenNames x4
    refine Frame.local x4 ?_ fun h4 => ?_
    · subst x4
      refine Frame.step ?_ (State.setOpen_frame _ _ _) rfl
      assumption
    clear_value x4
    refine Frame.step ?_ (State.setHeader_frame _ _ _) rfl
    assumption

theorem State.filterComplete_frame (s : State) (a1 : ℕ) (a2 : ℕ) (a3 : ℕ) (a4 : ℕ) : Frame 0x808000 s (State.filterComplete s a1 a2 a3 a4) := by
  unfold State.filterComplete
  extract_lets +onlyGivenNames x1
  clear_value x1
  split
  · refine Frame.ite (fun _ => ?_) fun _ => ?_
    · extract_lets +onlyGivenNames x2
      clear_value x2
      refine Frame.step ?_ (State.fileCell_frame _ _ _ _ _) rfl
      exact Frame.refl _ _
    · exact Frame.refl _ _
  · exact Frame.refl _ _

theorem State.setPin_frame (s : State) (a1 : ℕ) (a2 : Option PinCopy) : Frame 0x8001 s (State.setPin s a1 a2) := by
  unfold State.setPin
  refine Frame.step ?_ (State.showPins_frame _) rfl
  refine Frame.upd ?_ rfl
  exact Frame.refl _ _

theorem State.pinUnit_frame (s : State) (a1 : List ℕ) (a2 : ℕ) (a3 : ℕ) : Frame 0x8000 s (State.pinUnit s a1 a2 a3) := by
  unfold State.pinUnit
  split
  · split
    refine Frame.upd ?_ rfl
    exact Frame.refl _ _
  · exact Frame.refl _ _

theorem State.fillSlot_frame (s : State) (a1 : ℕ) (a2 : ℕ) (a3 : Bool) : Frame 0x808181 s (State.fillSlot s a1 a2 a3) := by
  unfold State.fillSlot
  extract_lets +onlyGivenNames x1
  clear_value x1
  extract_lets +onlyGivenNames x2
  clear_value x2
  extract_lets +onlyGivenNames x3
  clear_value x3
  extract_lets +onlyGivenNames x4
  clear_value x4
  extract_lets +onlyGivenNames x5
  clear_value x5
  extract_lets +onlyGivenNames x6
  refine Frame.local x6 ?_ fun h6 => ?_
  · subst x6
    split
    · refine Frame.step ?_ (State.uecc_frame _ _) rfl
      exact Frame.refl _ _
    · exact Frame.refl _ _
  clear_value x6
  extract_lets +onlyGivenNames x7
  refine Frame.local x7 ?_ fun h7 => ?_
  · subst x7
    refine Frame.step ?_ (State.count_frame _ _) rfl
    refine Frame.step ?_ (State.placeCell_frame _ _ _ _) rfl
    assumption
  clear_value x7
  refine Frame.step ?_ (State.setHeader_frame _ _ _) rfl
  assumption

theorem State.filterClose_frame (s : State) (a1 : ℕ) (a2 : ℕ) : Frame 0x808181 s (State.filterClose s a1 a2) := by
  unfold State.filterClose
  extract_lets +onlyGivenNames x1
  clear_value x1
  extract_lets +onlyGivenNames x2
  clear_value x2
  refine Frame.ite (fun _ => ?_) fun _ => ?_
  · refine Frame.step ?_ (State.fillSlot_frame _ _ _ _) rfl
    exact Frame.refl _ _
  · extract_lets +onlyGivenNames x3
    clear_value x3
    extract_lets +onlyGivenNames x4
    clear_value x4
    refine Frame.step ?_ (State.placeCell_frame _ _ _ _) rfl
    exact Frame.refl _ _

theorem State.forgetInputs_frame (s : State) : Frame 0x8000 s (State.forgetInputs s) := by
  unfold State.forgetInputs
  extract_lets +onlyGivenNames x1
  clear_value x1
  extract_lets +onlyGivenNames x2
  clear_value x2
  refine Frame.upd ?_ rfl
  exact Frame.refl _ _

theorem State.deliver_frame (s : State) (a1 : ℕ) : Frame 0x2000381 s (State.deliver s a1) := by
  unfold State.deliver
  refine Frame.forEach ?_ fun _ _ _ => ?_
  · exact Frame.refl _ _
  · refine Frame.ite (fun _ => ?_) fun _ => ?_
    · refine Frame.step ?_ (State.deliverTo_frame _ _ _) rfl
      assumption
    · assumption

theorem State.closeBucket_frame (s : State) (a1 : OpenBucket) : Frame 0x2a48381 s (State.closeBucket s a1) := by
  unfold State.closeBucket
  extract_lets +onlyGivenNames x1
  clear_value x1
  extract_lets +onlyGivenNames x2
  clear_value x2
  extract_lets +onlyGivenNames x3
  clear_value x3
  extract_lets +onlyGivenNames x4
  refine Frame.local x4 ?_ fun h4 => ?_
  · subst x4
    refine Frame.foldl ?_ fun _ _ _ => ?_
    · exact Frame.refl _ _
    · refine Frame.ite (fun _ => ?_) fun _ => ?_
      · refine Frame.step ?_ (State.filterClose_frame _ _ _) rfl
        assumption
      · refine Frame.step ?_ (State.fillSlot_frame _ _ _ _) rfl
        assumption
  clear_value x4
  extract_lets +onlyGivenNames x5
  clear_value x5
  extract_lets +onlyGivenNames x6
  clear_value x6
  extract_lets +onlyGivenNames x7
  refine Frame.local x7 ?_ fun h7 => ?_
  · subst x7
    refine Frame.step ?_ (State.setHeader_frame _ _ _) rfl
    assumption
  clear_value x7
  extract_lets +onlyGivenNames x8
  clear_value x8
  extract_lets +onlyGivenNames x9
  clear_value x9
  extract_lets +onlyGivenNames x10
  refine Frame.local x10 ?_ fun h10 => ?_
  · subst x10
    refine Frame.upd ?_ rfl
    assumption
  clear_value x10
  extract_lets +onlyGivenNames x11
  refine Frame.local x11 ?_ fun h11 => ?_
  · subst x11
    refine Frame.step ?_ (State.deviceMet_frame _ _ _) rfl
    assumption
  clear_value x11
  extract_lets +onlyGivenNames x12
  refine Frame.local x12 ?_ fun h12 => ?_
  · subst x12
    refine Frame.step ?_ (State.setPair_frame _ _ _ _) rfl
    assumption
  clear_value x12
  extract_lets +onlyGivenNames x13
  refine Frame.local x13 ?_ fun h13 => ?_
  · subst x13
    refine Frame.step ?_ (State.forgetInputs_frame _) rfl
    assumption
  clear_value x13
  extract_lets +onlyGivenNames x14
  refine Frame.local x14 ?_ fun h14 => ?_
  · subst x14
    split
    · refine Frame.step ?_ (State.digestItem_frame _ _ _ _ _) rfl
      assumption
    · assumption
  clear_value x14
  refine Frame.step ?_ (State.deliver_frame _ _) rfl
  refine Frame.step ?_ (State.showFen_frame _) rfl
  assumption

theorem State.startPin_frame (s : State) (a1 : CmdHeader) (a2 : ℕ) (a3 : ℕ) (a4 : List ℕ) (a5 : ℕ) : Frame 0x2008201 s (State.startPin s a1 a2 a3 a4 a5) := by
  unfold State.startPin
  extract_lets +onlyGivenNames x1
  clear_value x1
  extract_lets +onlyGivenNames x2
  clear_value x2
  refine Frame.ite (fun _ => ?_) fun _ => ?_
  · refine Frame.step ?_ (State.finish_frame _ _ _ _ _ _ _) rfl
    exact Frame.refl _ _
  · split
    · refine Frame.step ?_ (State.finish_frame _ _ _ _ _ _ _) rfl
      exact Frame.refl _ _
    · refine Frame.ite (fun _ => ?_) fun _ => ?_
      · refine Frame.step ?_ (State.finish_frame _ _ _ _ _ _ _) rfl
        exact Frame.refl _ _
      · refine Frame.ite (fun _ => ?_) fun _ => ?_
        · refine Frame.step ?_ (State.finish_frame _ _ _ _ _ _ _) rfl
          exact Frame.refl _ _
        · refine Frame.ite (fun _ => ?_) fun _ => ?_
          · refine Frame.step ?_ (State.finish_frame _ _ _ _ _ _ _) rfl
            exact Frame.refl _ _
          · refine Frame.step ?_ (State.startJob_frame _ _ _ _ _ _) rfl
            refine Frame.step ?_ (State.setPin_frame _ _ _) rfl
            exact Frame.refl _ _

theorem execFenPin_frame (a0 : CmdHeader) (a1 : ℕ) (a2 : ℕ) (a3 : List ℕ) (a4 : ℕ) (s : State) (t : State) (h : execFenPin a0 a1 a2 a3 a4 s = .next t) : Frame 0x2008201 s t := by
  unfold execFenPin at h
  refine onCore_frame h ?_
  refine State.command_frame ?_ rfl fun _ _ => ?_
  · exact Frame.refl _ _
  · refine Frame.step ?_ (State.startPin_frame _ _ _ _ _ _) rfl
    assumption

theorem State.startQuery_frame (s : State) (a1 : CmdHeader) (a2 : ℕ) (a3 : ℕ) (a4 : ℕ) (a5 : List ℕ) (a6 : ℕ) (a7 : ℕ) : Frame 0x2000201 s (State.startQuery s a1 a2 a3 a4 a5 a6 a7) := by
  unfold State.startQuery
  extract_lets +onlyGivenNames x1
  clear_value x1
  refine Frame.ite (fun _ => ?_) fun _ => ?_
  · split
    · refine Frame.step ?_ (State.finish_frame _ _ _ _ _ _ _) rfl
      exact Frame.refl _ _
    · refine Frame.ite (fun _ => ?_) fun _ => ?_
      · refine Frame.step ?_ (State.finish_frame _ _ _ _ _ _ _) rfl
        exact Frame.refl _ _
      · refine Frame.step ?_ (State.startJob_frame _ _ _ _ _ _) rfl
        exact Frame.refl _ _
  · split
    · refine Frame.step ?_ (State.finish_frame _ _ _ _ _ _ _) rfl
      exact Frame.refl _ _
    · refine Frame.ite (fun _ => ?_) fun _ => ?_
      · refine Frame.step ?_ (State.startJob_frame _ _ _ _ _ _) rfl
        exact Frame.refl _ _
      · refine Frame.step ?_ (State.finish_frame _ _ _ _ _ _ _) rfl
        exact Frame.refl _ _

theorem execFenQuery_frame (a0 : CmdHeader) (a1 : ℕ) (a2 : ℕ) (a3 : ℕ) (a4 : ℕ) (a5 : List ℕ) (a6 : ℕ) (a7 : ℕ) (s : State) (t : State) (h : execFenQuery a0 a1 a2 a3 a4 a5 a6 a7 s = .next t) : Frame 0x2000201 s t := by
  unfold execFenQuery at h
  refine onCore_frame h ?_
  refine State.command_frame ?_ rfl fun _ _ => ?_
  · exact Frame.refl _ _
  · refine Frame.step ?_ (State.startQuery_frame _ _ _ _ _ _ _ _) rfl
    assumption

theorem execFenUnpin_frame (a0 : CmdHeader) (a1 : ℕ) (a2 : ℕ) (a3 : List ℕ) (a4 : ℕ) (s : State) (t : State) (h : execFenUnpin a0 a1 a2 a3 a4 s = .next t) : Frame 0x2008201 s t := by
  unfold execFenUnpin at h
  refine onCore_frame h ?_
  refine State.command_frame ?_ rfl fun _ _ => ?_
  · exact Frame.refl _ _
  · split
    · refine Frame.step ?_ (State.finish_frame _ _ _ _ _ _ _) rfl
      assumption
    · refine Frame.step ?_ (State.finish_frame _ _ _ _ _ _ _) rfl
      refine Frame.step ?_ (State.setPin_frame _ _ _) rfl
      assumption

end Sys2Proof.Machine
end

