-- ==== Sys2Proof/Laws/FrameAlign.lean ====
section
/-!
SUPPORT. What each operation of Machine/Align.lean can change: one lemma an operation, with the mask of the parts of the state it
may touch (the bits are listed in Laws/Frame.lean).
-/

set_option linter.unusedVariables false
set_option Elab.async false

namespace Sys2Proof.Machine

theorem State.setSlotState_frame (s : State) (a1 : ℕ) (a2 : ℕ) : Frame 0x1 s (State.setSlotState s a1 a2) := by
  unfold State.setSlotState
  refine Frame.step ?_ (State.put_frame _ _ _) rfl
  exact Frame.refl _ _

theorem State.internalSlot_frame (s : State) (a1 : ℕ) : Frame 0x1 s (State.internalSlot s a1) := by
  unfold State.internalSlot
  extract_lets +onlyGivenNames x1
  clear_value x1
  refine Frame.step ?_ (State.put_frame _ _ _) rfl
  refine Frame.step ?_ (State.put_frame _ _ _) rfl
  refine Frame.step ?_ (State.put_frame _ _ _) rfl
  exact Frame.refl _ _

theorem State.restartStale_frame (s : State) (a1 : ℕ) : Frame 0x8000 s (State.restartStale s a1) := by
  unfold State.restartStale
  refine Frame.step ?_ (State.setSlotLink_frame _ _ _) rfl
  exact Frame.refl _ _

theorem State.formatWritten_frame (s : State) (a1 : ℕ) : Frame 0x8001 s (State.formatWritten s a1) := by
  unfold State.formatWritten
  extract_lets +onlyGivenNames x1
  refine Frame.local x1 ?_ fun h1 => ?_
  · subst x1
    refine Frame.step ?_ (State.setSlotLink_frame _ _ _) rfl
    exact Frame.refl _ _
  clear_value x1
  refine Frame.ite (fun _ => ?_) fun _ => ?_
  · refine Frame.step ?_ (State.setSlotState_frame _ _ _) rfl
    assumption
  · assumption

theorem State.slotsWait_frame (s : State) : Frame 0x8001 s (State.slotsWait s) := by
  unfold State.slotsWait
  refine Frame.foldl ?_ fun _ _ _ => ?_
  · exact Frame.refl _ _
  · refine Frame.step ?_ (State.restartStale_frame _ _) rfl
    refine Frame.step ?_ (State.setSlotState_frame _ _ _) rfl
    assumption

theorem State.resumeGrid_frame (s : State) (a1 : Bool) : Frame 0x8000 s (State.resumeGrid s a1) := by
  unfold State.resumeGrid
  extract_lets +onlyGivenNames x1
  clear_value x1
  extract_lets +onlyGivenNames x2
  clear_value x2
  refine Frame.upd ?_ rfl
  exact Frame.refl _ _

theorem State.layOut_frame (s : State) : Frame 0x8001 s (State.layOut s) := by
  unfold State.layOut
  extract_lets +onlyGivenNames x1
  clear_value x1
  extract_lets +onlyGivenNames x2
  refine Frame.local x2 ?_ fun h2 => ?_
  · subst x2
    refine Frame.step ?_ (State.slotsWait_frame _) rfl
    refine Frame.step ?_ (State.put_frame _ _ _) rfl
    refine Frame.step ?_ (State.put_frame _ _ _) rfl
    exact Frame.refl _ _
  clear_value x2
  refine Frame.ite (fun _ => ?_) fun _ => ?_
  · refine Frame.step ?_ (State.resumeGrid_frame _ _) rfl
    assumption
  · extract_lets +onlyGivenNames x3
    clear_value x3
    extract_lets +onlyGivenNames x4
    refine Frame.local x4 ?_ fun h4 => ?_
    · subst x4
      refine Frame.upd ?_ rfl
      assumption
    clear_value x4
    extract_lets +onlyGivenNames x5
    refine Frame.local x5 ?_ fun h5 => ?_
    · subst x5
      refine Frame.step ?_ (State.put_frame _ _ _) rfl
      assumption
    clear_value x5
    extract_lets +onlyGivenNames x6
    refine Frame.local x6 ?_ fun h6 => ?_
    · subst x6
      refine Frame.step ?_ (State.put_frame _ _ _) rfl
      assumption
    clear_value x6
    extract_lets +onlyGivenNames x7
    refine Frame.local x7 ?_ fun h7 => ?_
    · subst x7
      refine Frame.filterRegs _ ?_ rfl
      assumption
    clear_value x7
    extract_lets +onlyGivenNames x8
    refine Frame.local x8 ?_ fun h8 => ?_
    · subst x8
      refine Frame.foldl ?_ fun _ _ _ => ?_
      · assumption
      · refine Frame.step ?_ (State.setWord_frame _ _ _) rfl
        assumption
    clear_value x8
    refine Frame.step ?_ (State.resumeGrid_frame _ _) rfl
    refine Frame.step ?_ (State.showPins_frame _) rfl
    refine Frame.step ?_ (State.showFen_frame _) rfl
    refine Frame.step ?_ (State.setPair_frame _ _ _ _) rfl
    assumption

theorem State.abortBuckets_frame (s : State) : Frame 0x808001 s (State.abortBuckets s) := by
  unfold State.abortBuckets
  extract_lets +onlyGivenNames x1
  refine Frame.local x1 ?_ fun h1 => ?_
  · subst x1
    refine Frame.foldl ?_ fun _ _ _ => ?_
    · exact Frame.refl _ _
    · refine Frame.step ?_ (State.setHeader_frame _ _ _) rfl
      assumption
  clear_value x1
  extract_lets +onlyGivenNames x2
  clear_value x2
  refine Frame.step ?_ (State.showFen_frame _) rfl
  refine Frame.upd ?_ rfl
  assumption

theorem State.alignStop_frame (s : State) : Frame 0x808001 s (State.alignStop s) := by
  unfold State.alignStop
  refine Frame.step ?_ (State.put_frame _ _ _) rfl
  refine Frame.step ?_ (State.abortBuckets_frame _) rfl
  exact Frame.refl _ _

theorem alignEffect_frame (a0 : ℕ) (a1 : List ℕ) (a2 : Word) (a3 : Word) (s : State) : Frame 0x808001 s (alignEffect a0 a1 a2 a3 s) := by
  unfold alignEffect
  split
  · refine Frame.ite (fun _ => ?_) fun _ => ?_
    · refine Frame.step ?_ (State.internalSlot_frame _ _) rfl
      exact Frame.refl _ _
    · extract_lets +onlyGivenNames x1
      refine Frame.local x1 ?_ fun h1 => ?_
      · subst x1
        refine Frame.ite (fun _ => ?_) fun _ => ?_
        · refine Frame.step ?_ (State.restartStale_frame _ _) rfl
          refine Frame.step ?_ (State.setSlotState_frame _ _ _) rfl
          exact Frame.refl _ _
        · refine Frame.ite (fun _ => ?_) fun _ => ?_
          · refine Frame.step ?_ (State.setSlotState_frame _ _ _) rfl
            exact Frame.refl _ _
          · exact Frame.refl _ _
      clear_value x1
      refine Frame.step ?_ (State.put_frame _ _ _) rfl
      assumption
  · refine Frame.ite (fun _ => ?_) fun _ => ?_
    · exact Frame.refl _ _
    · refine Frame.step ?_ (State.setWord_frame _ _ _) rfl
      exact Frame.refl _ _
  · refine Frame.ite (fun _ => ?_) fun _ => ?_
    · refine Frame.step ?_ (State.formatWritten_frame _ _) rfl
      exact Frame.refl _ _
    · refine Frame.step ?_ (State.setWord_frame _ _ _) rfl
      exact Frame.refl _ _
  · refine Frame.ite (fun _ => ?_) fun _ => ?_
    · refine Frame.step ?_ (State.formatWritten_frame _ _) rfl
      exact Frame.refl _ _
    · refine Frame.step ?_ (State.setSlotLink_frame _ _ _) rfl
      exact Frame.refl _ _
  · refine Frame.ite (fun _ => ?_) fun _ => ?_
    · refine Frame.step ?_ (State.formatWritten_frame _ _) rfl
      exact Frame.refl _ _
    · exact Frame.refl _ _
  · refine Frame.ite (fun _ => ?_) fun _ => ?_
    · refine Frame.step ?_ (State.layOut_frame _) rfl
      exact Frame.refl _ _
    · refine Frame.ite (fun _ => ?_) fun _ => ?_
      · refine Frame.step ?_ (State.alignStop_frame _) rfl
        exact Frame.refl _ _
      · exact Frame.refl _ _
  · exact Frame.refl _ _

theorem State.osInfo_frame (s : State) (a1 : ℕ) : Frame 0x1 s (State.osInfo s a1) := by
  unfold State.osInfo
  refine Frame.step ?_ (State.put_frame _ _ _) rfl
  refine Frame.step ?_ (State.put_frame _ _ _) rfl
  exact Frame.refl _ _

theorem State.osInfos_frame (s : State) (a1 : ℕ) : Frame 0x1 s (State.osInfos s a1) := by
  unfold State.osInfos
  refine Frame.forEach ?_ fun _ _ _ => ?_
  · exact Frame.refl _ _
  · refine Frame.when ?_ fun _ _ => ?_
    · assumption
    · refine Frame.step ?_ (State.osInfo_frame _ _) rfl
      assumption

theorem State.alignPause_frame (s : State) : Frame 0x1 s (State.alignPause s) := by
  unfold State.alignPause
  refine Frame.step ?_ (State.put_frame _ _ _) rfl
  exact Frame.refl _ _

theorem State.offside_frame (s : State) (a1 : ℕ) (a2 : ℕ) (a3 : ℕ) (a4 : ℕ) (a5 : Cell) : Frame 0x8181 s (State.offside s a1 a2 a3 a4 a5) := by
  unfold State.offside
  extract_lets +onlyGivenNames x1
  refine Frame.local x1 ?_ fun h1 => ?_
  · subst x1
    refine Frame.step ?_ (State.count_frame _ _) rfl
    refine Frame.step ?_ (State.restartStale_frame _ _) rfl
    refine Frame.step ?_ (State.setWord_frame _ _ _) rfl
    exact Frame.refl _ _
  clear_value x1
  extract_lets +onlyGivenNames x2
  refine Frame.local x2 ?_ fun h2 => ?_
  · subst x2
    refine Frame.step ?_ (State.raise_frame _ _ _ _ _ _) rfl
    assumption
  clear_value x2
  extract_lets +onlyGivenNames x3
  clear_value x3
  refine Frame.ite (fun _ => ?_) fun _ => ?_
  · assumption
  · extract_lets +onlyGivenNames x4
    clear_value x4
    extract_lets +onlyGivenNames x5
    clear_value x5
    refine Frame.step ?_ (State.setPair_frame _ _ _ _) rfl
    refine Frame.upd ?_ rfl
    assumption

theorem State.slotHeard_frame (s : State) (a1 : ℕ) (a2 : ℕ) : Frame 0x8181 s (State.slotHeard s a1 a2) := by
  unfold State.slotHeard
  extract_lets +onlyGivenNames x1
  refine Frame.local x1 ?_ fun h1 => ?_
  · subst x1
    refine Frame.step ?_ (State.setWord_frame _ _ _) rfl
    exact Frame.refl _ _
  clear_value x1
  refine Frame.ite (fun _ => ?_) fun _ => ?_
  · assumption
  · extract_lets +onlyGivenNames x2
    refine Frame.local x2 ?_ fun h2 => ?_
    · subst x2
      refine Frame.step ?_ (State.restartStale_frame _ _) rfl
      assumption
    clear_value x2
    refine Frame.ite (fun _ => ?_) fun _ => ?_
    · refine Frame.step ?_ (State.setSlotState_frame _ _ _) rfl
      assumption
    · refine Frame.ite (fun _ => ?_) fun _ => ?_
      · refine Frame.step ?_ (State.raise_frame _ _ _ _ _ _) rfl
        refine Frame.step ?_ (State.setSlotState_frame _ _ _) rfl
        assumption
      · assumption

theorem State.interpolate_frame (s : State) (a1 : ℕ) (a2 : SourceInput) (a3 : SourceInput) (a4 : ℕ) (a5 : ℕ) : Frame 0x808000 s (State.interpolate s a1 a2 a3 a4 a5) := by
  unfold State.interpolate
  extract_lets +onlyGivenNames x1
  clear_value x1
  refine Frame.foldl ?_ fun _ _ _ => ?_
  · exact Frame.refl _ _
  · extract_lets +onlyGivenNames x2
    clear_value x2
    split
    · refine Frame.ite (fun _ => ?_) fun _ => ?_
      · assumption
      · extract_lets +onlyGivenNames x3
        clear_value x3
        extract_lets +onlyGivenNames x4
        clear_value x4
        refine Frame.step ?_ (State.fileCell_frame _ _ _ _ _) rfl
        assumption
    · assumption

theorem State.convert_frame (s : State) (a1 : ℕ) (a2 : SourceInput) : Frame 0x808000 s (State.convert s a1 a2) := by
  unfold State.convert
  extract_lets +onlyGivenNames x1
  clear_value x1
  refine Frame.ite (fun _ => ?_) fun _ => ?_
  · extract_lets +onlyGivenNames x2
    refine Frame.local x2 ?_ fun h2 => ?_
    · subst x2
      refine Frame.step ?_ (State.setSlotLink_frame _ _ _) rfl
      exact Frame.refl _ _
    clear_value x2
    extract_lets +onlyGivenNames x3
    clear_value x3
    refine Frame.foldl ?_ fun _ _ _ => ?_
    · assumption
    · refine Frame.ite (fun _ => ?_) fun _ => ?_
      · refine Frame.step ?_ (State.filterComplete_frame _ _ _ _ _) rfl
        assumption
      · assumption
  · refine Frame.ite (fun _ => ?_) fun _ => ?_
    · split
      extract_lets +onlyGivenNames x4
      refine Frame.local x4 ?_ fun h4 => ?_
      · subst x4
        refine Frame.step ?_ (State.setSlotLink_frame _ _ _) rfl
        exact Frame.refl _ _
      clear_value x4
      extract_lets +onlyGivenNames x5
      refine Frame.local x5 ?_ fun h5 => ?_
      · subst x5
        split
        · refine Frame.step ?_ (State.interpolate_frame _ _ _ _ _ _) rfl
          assumption
        · assumption
      clear_value x5
      split
      · refine Frame.step ?_ (State.interpolate_frame _ _ _ _ _ _) rfl
        assumption
      · assumption
    · exact Frame.refl _ _

theorem State.takeBlock_frame (s : State) (a1 : ℕ) (a2 : ℕ) (a3 : ℕ) (a4 : ℕ) (a5 : Cell) : Frame 0x808181 s (State.takeBlock s a1 a2 a3 a4 a5) := by
  unfold State.takeBlock
  split
  extract_lets +onlyGivenNames x1
  clear_value x1
  refine Frame.ite (fun _ => ?_) fun _ => ?_
  · refine Frame.step ?_ (State.offside_frame _ _ _ _ _ _) rfl
    exact Frame.refl _ _
  · extract_lets +onlyGivenNames x2
    refine Frame.local x2 ?_ fun h2 => ?_
    · subst x2
      refine Frame.step ?_ (State.slotHeard_frame _ _ _) rfl
      exact Frame.refl _ _
    clear_value x2
    extract_lets +onlyGivenNames x3
    refine Frame.local x3 ?_ fun h3 => ?_
    · subst x3
      refine Frame.ite (fun _ => ?_) fun _ => ?_
      · refine Frame.step ?_ (State.fileCell_frame _ _ _ _ _) rfl
        assumption
      · assumption
    clear_value x3
    refine Frame.step ?_ (State.convert_frame _ _ _) rfl
    assumption

theorem State.alignTimeStep_frame (s : State) (a1 : ℕ) : Frame 0x8181 s (State.alignTimeStep s a1) := by
  unfold State.alignTimeStep
  refine Frame.ite (fun _ => ?_) fun _ => ?_
  · exact Frame.refl _ _
  · extract_lets +onlyGivenNames x1
    clear_value x1
    extract_lets +onlyGivenNames x2
    clear_value x2
    extract_lets +onlyGivenNames x3
    refine Frame.local x3 ?_ fun h3 => ?_
    · subst x3
      refine Frame.upd ?_ rfl
      exact Frame.refl _ _
    clear_value x3
    refine Frame.ite (fun _ => ?_) fun _ => ?_
    · extract_lets +onlyGivenNames x4
      clear_value x4
      extract_lets +onlyGivenNames x5
      clear_value x5
      refine Frame.ite (fun _ => ?_) fun _ => ?_
      · refine Frame.step ?_ (State.raise_frame _ _ _ _ _ _) rfl
        refine Frame.upd ?_ rfl
        assumption
      · assumption
    · assumption

theorem State.layoutShown_frame (s : State) (a1 : Option ℕ) : Frame 0x1 s (State.layoutShown s a1) := by
  unfold State.layoutShown
  split
  · refine Frame.step ?_ (State.put_frame _ _ _) rfl
    refine Frame.step ?_ (State.put_frame _ _ _) rfl
    exact Frame.refl _ _
  · exact Frame.refl _ _

theorem State.alignRestart_frame (s : State) : Frame 0x808001 s (State.alignRestart s) := by
  unfold State.alignRestart
  refine Frame.ite (fun _ => ?_) fun _ => ?_
  · refine Frame.step ?_ (State.put_frame _ _ _) rfl
    refine Frame.step ?_ (State.resumeGrid_frame _ _) rfl
    refine Frame.step ?_ (State.slotsWait_frame _) rfl
    refine Frame.step ?_ (State.abortBuckets_frame _) rfl
    exact Frame.refl _ _
  · exact Frame.refl _ _

theorem State.cfgLearn_frame (s : State) (a1 : ℕ) (a2 : ℕ) (a3 : CfgBlock) : Frame 0x8001 s (State.cfgLearn s a1 a2 a3) := by
  unfold State.cfgLearn
  extract_lets +onlyGivenNames x1
  refine Frame.local x1 ?_ fun h1 => ?_
  · subst x1
    refine Frame.step ?_ (State.setWord_frame _ _ _) rfl
    exact Frame.refl _ _
  clear_value x1
  extract_lets +onlyGivenNames x2
  refine Frame.local x2 ?_ fun h2 => ?_
  · subst x2
    refine Frame.step ?_ (State.put_frame _ _ _) rfl
    assumption
  clear_value x2
  extract_lets +onlyGivenNames x3
  refine Frame.local x3 ?_ fun h3 => ?_
  · subst x3
    refine Frame.forEach ?_ fun _ _ _ => ?_
    · assumption
    · refine Frame.step ?_ (State.setReg_frame _ _ _) rfl
      assumption
  clear_value x3
  refine Frame.step ?_ (State.osInfos_frame _ _) rfl
  refine Frame.step ?_ (State.setSlotLink_frame _ _ _) rfl
  assumption

theorem State.cfgSlot_frame (s : State) (a1 : CfgFrame) (a2 : ℕ) : Frame 0x8181 s (State.cfgSlot s a1 a2) := by
  unfold State.cfgSlot
  extract_lets +onlyGivenNames x1
  clear_value x1
  refine Frame.ite (fun _ => ?_) fun _ => ?_
  · exact Frame.refl _ _
  · extract_lets +onlyGivenNames x2
    clear_value x2
    extract_lets +onlyGivenNames x3
    refine Frame.local x3 ?_ fun h3 => ?_
    · subst x3
      refine Frame.step ?_ (State.raise_frame _ _ _ _ _ _) rfl
      refine Frame.step ?_ (State.setSlotState_frame _ _ _) rfl
      exact Frame.refl _ _
    clear_value x3
    split
    · assumption
    · refine Frame.ite (fun _ => ?_) fun _ => ?_
      · exact Frame.refl _ _
      · refine Frame.ite (fun _ => ?_) fun _ => ?_
        · extract_lets +onlyGivenNames x4
          refine Frame.local x4 ?_ fun h4 => ?_
          · subst x4
            refine Frame.step ?_ (State.cfgLearn_frame _ _ _ _) rfl
            exact Frame.refl _ _
          clear_value x4
          refine Frame.ite (fun _ => ?_) fun _ => ?_
          · assumption
          · refine Frame.step ?_ (State.raise_frame _ _ _ _ _ _) rfl
            assumption
        · assumption

theorem State.cfgCheck_frame (s : State) (a1 : CfgFrame) : Frame 0x8181 s (State.cfgCheck s a1) := by
  unfold State.cfgCheck
  refine Frame.ite (fun _ => ?_) fun _ => ?_
  · refine Frame.foldl ?_ fun _ _ _ => ?_
    · exact Frame.refl _ _
    · refine Frame.step ?_ (State.cfgSlot_frame _ _ _) rfl
      assumption
  · exact Frame.refl _ _

theorem State.staleNow_frame (s : State) (a1 : ℕ) : Frame 0x181 s (State.staleNow s a1) := by
  unfold State.staleNow
  split
  · refine Frame.ite (fun _ => ?_) fun _ => ?_
    · refine Frame.step ?_ (State.raise_frame _ _ _ _ _ _) rfl
      refine Frame.step ?_ (State.setSlotState_frame _ _ _) rfl
      exact Frame.refl _ _
    · exact Frame.refl _ _
  · exact Frame.refl _ _

theorem State.rejectBlock_frame (s : State) (a1 : ℕ) (a2 : ℕ) : Frame 0x81 s (State.rejectBlock s a1 a2) := by
  unfold State.rejectBlock
  refine Frame.step ?_ (State.put_frame _ _ _) rfl
  refine Frame.step ?_ (State.count_frame _ _) rfl
  exact Frame.refl _ _

theorem State.blockAt_frame (s : State) (a1 : ℕ) (a2 : C37Frame) (a3 : ℕ) (a4 : ℕ) (a5 : List Byte) : Frame 0x808181 s (State.blockAt s a1 a2 a3 a4 a5) := by
  unfold State.blockAt
  split
  extract_lets +onlyGivenNames x1
  clear_value x1
  refine Frame.ite (fun _ => ?_) fun _ => ?_
  · refine Frame.step ?_ (State.rejectBlock_frame _ _ _) rfl
    exact Frame.refl _ _
  · extract_lets +onlyGivenNames x2
    refine Frame.local x2 ?_ fun h2 => ?_
    · subst x2
      refine Frame.ite (fun _ => ?_) fun _ => ?_
      · refine Frame.step ?_ (State.openTo_frame _ _) rfl
        exact Frame.refl _ _
      · exact Frame.refl _ _
    clear_value x2
    extract_lets +onlyGivenNames x3
    clear_value x3
    refine Frame.ite (fun _ => ?_) fun _ => ?_
    · refine Frame.step ?_ (State.count_frame _ _) rfl
      assumption
    · extract_lets +onlyGivenNames x4
      clear_value x4
      extract_lets +onlyGivenNames x5
      refine Frame.local x5 ?_ fun h5 => ?_
      · subst x5
        refine Frame.step ?_ (State.setSlotLink_frame _ _ _) rfl
        assumption
      clear_value x5
      refine Frame.step ?_ (State.takeBlock_frame _ _ _ _ _ _) rfl
      assumption

theorem State.block_frame (s : State) (a1 : C37Frame) (a2 : ℕ) (a3 : List Byte) : Frame 0x808181 s (State.block s a1 a2 a3) := by
  unfold State.block
  extract_lets +onlyGivenNames x1
  clear_value x1
  refine Frame.ite (fun _ => ?_) fun _ => ?_
  · exact Frame.refl _ _
  · refine Frame.ite (fun _ => ?_) fun _ => ?_
    · refine Frame.step ?_ (State.rejectBlock_frame _ _ _) rfl
      exact Frame.refl _ _
    · refine Frame.ite (fun _ => ?_) fun _ => ?_
      · refine Frame.step ?_ (State.rejectBlock_frame _ _ _) rfl
        exact Frame.refl _ _
      · extract_lets +onlyGivenNames x2
        clear_value x2
        split
        · refine Frame.step ?_ (State.rejectBlock_frame _ _ _) rfl
          exact Frame.refl _ _
        · extract_lets +onlyGivenNames x3
          clear_value x3
          refine Frame.step ?_ (State.blockAt_frame _ _ _ _ _ _) rfl
          exact Frame.refl _ _

theorem State.alignFrame_frame (s : State) (a1 : C37Frame) : Frame 0x808181 s (State.alignFrame s a1) := by
  unfold State.alignFrame
  refine Frame.ite (fun _ => ?_) fun _ => ?_
  · exact Frame.refl _ _
  · refine Frame.ite (fun _ => ?_) fun _ => ?_
    · refine Frame.step ?_ (State.count_frame _ _) rfl
      exact Frame.refl _ _
    · refine Frame.ite (fun _ => ?_) fun _ => ?_
      · refine Frame.step ?_ (State.count_frame _ _) rfl
        exact Frame.refl _ _
      · refine Frame.ite (fun _ => ?_) fun _ => ?_
        · refine Frame.step ?_ (State.count_frame _ _) rfl
          exact Frame.refl _ _
        · refine Frame.ite (fun _ => ?_) fun _ => ?_
          · refine Frame.step ?_ (State.count_frame _ _) rfl
            exact Frame.refl _ _
          · refine Frame.ite (fun _ => ?_) fun _ => ?_
            · refine Frame.step ?_ (State.count_frame _ _) rfl
              exact Frame.refl _ _
            · split
              · refine Frame.step ?_ (State.count_frame _ _) rfl
                exact Frame.refl _ _
              · refine Frame.ite (fun _ => ?_) fun _ => ?_
                · refine Frame.step ?_ (State.count_frame _ _) rfl
                  exact Frame.refl _ _
                · refine Frame.foldl ?_ fun _ _ _ => ?_
                  · refine Frame.when ?_ fun _ _ => ?_
                    · exact Frame.refl _ _
                    · refine Frame.step ?_ (State.count_frame _ _) rfl
                      assumption
                  · refine Frame.step ?_ (State.block_frame _ _ _ _) rfl
                    assumption

theorem execCfgFrameCheck_frame (a0 : CfgFrame) (s : State) (t : State) (h : execCfgFrameCheck a0 s = .next t) : Frame 0x408181 s t := by
  unfold execCfgFrameCheck at h
  refine onEngines_frame h ?_
  refine Frame.ite (fun _ => ?_) fun _ => ?_
  · refine Frame.upd ?_ rfl
    exact Frame.refl _ _
  · refine Frame.step ?_ (State.cfgCheck_frame _ _) rfl
    exact Frame.refl _ _

theorem execSlotStale_frame (a0 : ℕ) (s : State) (t : State) (h : execSlotStale a0 s = .next t) : Frame 0x181 s t := by
  unfold execSlotStale at h
  refine onEngines_frame h ?_
  refine Frame.ite (fun _ => ?_) fun _ => ?_
  · refine Frame.step ?_ (State.staleNow_frame _ _) rfl
    exact Frame.refl _ _
  · exact Frame.refl _ _

end Sys2Proof.Machine
end

