-- ==== Sys2Proof/Laws/FramePorts.lean ====
section
/-!
SUPPORT. What each operation of Machine/Ports.lean can change: one lemma an operation, with the mask of the parts of the state it
may touch (the bits are listed in Laws/Frame.lean).
-/

set_option linter.unusedVariables false
set_option Elab.async false

namespace Sys2Proof.Machine

theorem State.setPort_frame (s : State) (a1 : ℕ) (a2 : PortState → PortState) : Frame 0x20 s (State.setPort s a1 a2) := by
  unfold State.setPort
  refine Frame.upd ?_ rfl
  exact Frame.refl _ _

theorem State.addBytes_frame (s : State) (a1 : ℕ) (a2 : ℕ) (a3 : ℕ) : Frame 0x1 s (State.addBytes s a1 a2 a3) := by
  unfold State.addBytes
  refine Frame.step ?_ (State.setPair_frame _ _ _ _) rfl
  exact Frame.refl _ _

theorem State.txDone_frame (s : State) (a1 : ℕ) : Frame 0xa1 s (State.txDone s a1) := by
  unfold State.txDone
  split
  · refine Frame.ite (fun _ => ?_) fun _ => ?_
    · extract_lets +onlyGivenNames x1
      refine Frame.local x1 ?_ fun h1 => ?_
      · subst x1
        refine Frame.step ?_ (State.setPort_frame _ _ _) rfl
        exact Frame.refl _ _
      clear_value x1
      refine Frame.step ?_ (State.addBytes_frame _ _ _ _) rfl
      refine Frame.step ?_ (State.count_frame _ _) rfl
      assumption
    · exact Frame.refl _ _
  · exact Frame.refl _ _

theorem State.setSince_frame (s : State) (a1 : ℕ) (a2 : ℕ) (a3 : Option ℕ) : Frame 0x20 s (State.setSince s a1 a2 a3) := by
  unfold State.setSince
  refine Frame.step ?_ (State.setPort_frame _ _ _) rfl
  exact Frame.refl _ _

theorem State.setTxq_frame (s : State) (a1 : ℕ) (a2 : ℕ) (a3 : List TxFrame) : Frame 0x20 s (State.setTxq s a1 a2 a3) := by
  unfold State.setTxq
  refine Frame.step ?_ (State.setPort_frame _ _ _) rfl
  exact Frame.refl _ _

theorem State.txFlush_frame (s : State) (a1 : ℕ) : Frame 0x20000a1 s (State.txFlush s a1) := by
  unfold State.txFlush
  extract_lets +onlyGivenNames x1
  refine Frame.local x1 ?_ fun h1 => ?_
  · subst x1
    refine Frame.step ?_ (State.txDone_frame _ _) rfl
    exact Frame.refl _ _
  clear_value x1
  extract_lets +onlyGivenNames x2
  refine Frame.local x2 ?_ fun h2 => ?_
  · subst x2
    split
    · refine Frame.step ?_ (State.setPort_frame _ _ _) rfl
      refine Frame.step ?_ (State.count_frame _ _) rfl
      refine Frame.step ?_ (State.emit_frame _ _) rfl
      assumption
    · assumption
  clear_value x2
  refine Frame.forEach ?_ fun _ _ _ => ?_
  · assumption
  · refine Frame.step ?_ (State.setSince_frame _ _ _ _) rfl
    refine Frame.step ?_ (State.setTxq_frame _ _ _ _) rfl
    refine Frame.step ?_ (State.countN_frame _ _ _) rfl
    assumption

theorem State.physLoss_frame (s : State) (a1 : ℕ) : Frame 0x20000a1 s (State.physLoss s a1) := by
  unfold State.physLoss
  refine Frame.ite (fun _ => ?_) fun _ => ?_
  · refine Frame.step ?_ (State.setPort_frame _ _ _) rfl
    refine Frame.step ?_ (State.txFlush_frame _ _) rfl
    exact Frame.refl _ _
  · exact Frame.refl _ _

theorem State.sluiceActive_frame (s : State) (a1 : ℕ) (a2 : Bool) : Frame 0x1 s (State.sluiceActive s a1 a2) := by
  unfold State.sluiceActive
  refine Frame.ite (fun _ => ?_) fun _ => ?_
  · exact Frame.refl _ _
  · refine Frame.step ?_ (State.put_frame _ _ _) rfl
    refine Frame.step ?_ (State.put_frame _ _ _) rfl
    exact Frame.refl _ _

theorem State.showSpeed_frame (s : State) (a1 : ℕ) : Frame 0x1 s (State.showSpeed s a1) := by
  unfold State.showSpeed
  refine Frame.step ?_ (State.put_frame _ _ _) rfl
  refine Frame.step ?_ (State.put_frame _ _ _) rfl
  exact Frame.refl _ _

theorem netEffect_frame (a0 : ℕ) (a1 : List ℕ) (a2 : Word) (a3 : Word) (s : State) : Frame 0x20000a1 s (netEffect a0 a1 a2 a3 s) := by
  unfold netEffect
  split
  · extract_lets +onlyGivenNames x1
    refine Frame.local x1 ?_ fun h1 => ?_
    · subst x1
      refine Frame.when ?_ fun _ _ => ?_
      · exact Frame.refl _ _
      · refine Frame.step ?_ (State.put_frame _ _ _) rfl
        refine Frame.step ?_ (State.setPort_frame _ _ _) rfl
        assumption
    clear_value x1
    refine Frame.ite (fun _ => ?_) fun _ => ?_
    · refine Frame.step ?_ (State.setPort_frame _ _ _) rfl
      assumption
    · refine Frame.ite (fun _ => ?_) fun _ => ?_
      · extract_lets +onlyGivenNames x2
        refine Frame.local x2 ?_ fun h2 => ?_
        · subst x2
          refine Frame.step ?_ (State.physLoss_frame _ _) rfl
          assumption
        clear_value x2
        extract_lets +onlyGivenNames x3
        refine Frame.local x3 ?_ fun h3 => ?_
        · subst x3
          refine Frame.when ?_ fun _ _ => ?_
          · refine Frame.step ?_ (State.sluiceActive_frame _ _ _) rfl
            refine Frame.step ?_ (State.sluiceActive_frame _ _ _) rfl
            assumption
          · refine Frame.step ?_ (State.sluiceActive_frame _ _ _) rfl
            assumption
        clear_value x3
        refine Frame.step ?_ (State.put_frame _ _ _) rfl
        refine Frame.step ?_ (State.put_frame _ _ _) rfl
        assumption
      · refine Frame.when ?_ fun _ _ => ?_
        · assumption
        · refine Frame.step ?_ (State.showSpeed_frame _ _) rfl
          assumption
  · refine Frame.step ?_ (State.setPort_frame _ _ _) rfl
    exact Frame.refl _ _
  · refine Frame.ite (fun _ => ?_) fun _ => ?_
    · refine Frame.upd ?_ rfl
      exact Frame.refl _ _
    · exact Frame.refl _ _
  · refine Frame.step ?_ (State.put_frame _ _ _) rfl
    exact Frame.refl _ _
  · refine Frame.step ?_ (State.sluiceActive_frame _ _ _) rfl
    exact Frame.refl _ _
  · exact Frame.refl _ _

theorem State.txOffer_frame (s : State) (a1 : ℕ) (a2 : ℕ) (a3 : TxFrame) : Frame 0xa1 s (State.txOffer s a1 a2 a3) := by
  unfold State.txOffer
  extract_lets +onlyGivenNames x1
  clear_value x1
  extract_lets +onlyGivenNames x2
  clear_value x2
  refine Frame.ite (fun _ => ?_) fun _ => ?_
  · refine Frame.step ?_ (State.count_frame _ _) rfl
    exact Frame.refl _ _
  · extract_lets +onlyGivenNames x3
    refine Frame.local x3 ?_ fun h3 => ?_
    · subst x3
      refine Frame.when ?_ fun _ _ => ?_
      · exact Frame.refl _ _
      · refine Frame.step ?_ (State.setSince_frame _ _ _ _) rfl
        assumption
    clear_value x3
    refine Frame.step ?_ (State.setTxq_frame _ _ _ _) rfl
    assumption

theorem State.txSend_frame (s : State) (a1 : ℕ) (a2 : ℕ) (a3 : TxFrame) : Frame 0xa1 s (State.txSend s a1 a2 a3) := by
  unfold State.txSend
  refine Frame.ite (fun _ => ?_) fun _ => ?_
  · extract_lets +onlyGivenNames x1
    clear_value x1
    extract_lets +onlyGivenNames x2
    clear_value x2
    extract_lets +onlyGivenNames x3
    refine Frame.local x3 ?_ fun h3 => ?_
    · subst x3
      refine Frame.upd ?_ rfl
      exact Frame.refl _ _
    clear_value x3
    refine Frame.step ?_ (State.txOffer_frame _ _ _ _) rfl
    refine Frame.step ?_ (State.txOffer_frame _ _ _ _) rfl
    assumption
  · refine Frame.step ?_ (State.txOffer_frame _ _ _ _) rfl
    exact Frame.refl _ _

theorem State.ctDiscard_frame (s : State) (a1 : ℕ) (a2 : ℕ) : Frame 0x81 s (State.ctDiscard s a1 a2) := by
  unfold State.ctDiscard
  refine Frame.when ?_ fun _ _ => ?_
  · exact Frame.refl _ _
  · refine Frame.step ?_ (State.count_frame _ _) rfl
    assumption

theorem State.crossFrame_frame (s : State) (a1 : ℕ) (a2 : ℕ) : Frame 0x1 s (State.crossFrame s a1 a2) := by
  unfold State.crossFrame
  extract_lets +onlyGivenNames x1
  clear_value x1
  extract_lets +onlyGivenNames x2
  clear_value x2
  refine Frame.step ?_ (State.put_frame _ _ _) rfl
  exact Frame.refl _ _

theorem State.txFrom_frame (s : State) (a1 : ℕ) (a2 : ℕ) : Frame 0x2000021 s (State.txFrom s a1 a2) := by
  unfold State.txFrom
  split
  · exact Frame.refl _ _
  · extract_lets +onlyGivenNames x1
    clear_value x1
    extract_lets +onlyGivenNames x2
    clear_value x2
    extract_lets +onlyGivenNames x3
    refine Frame.local x3 ?_ fun h3 => ?_
    · subst x3
      refine Frame.step ?_ (State.crossFrame_frame _ _ _) rfl
      refine Frame.step ?_ (State.setTxq_frame _ _ _ _) rfl
      exact Frame.refl _ _
    clear_value x3
    extract_lets +onlyGivenNames x4
    refine Frame.local x4 ?_ fun h4 => ?_
    · subst x4
      refine Frame.step ?_ (State.setSince_frame _ _ _ _) rfl
      assumption
    clear_value x4
    extract_lets +onlyGivenNames x5
    refine Frame.local x5 ?_ fun h5 => ?_
    · subst x5
      refine Frame.step ?_ (State.setPort_frame _ _ _) rfl
      assumption
    clear_value x5
    refine Frame.step ?_ (State.emit_frame _ _) rfl
    assumption

theorem State.pauseAgain_frame (s : State) (a1 : ℕ) : Frame 0x20 s (State.pauseAgain s a1) := by
  unfold State.pauseAgain
  split
  · refine Frame.ite (fun _ => ?_) fun _ => ?_
    · refine Frame.step ?_ (State.setPort_frame _ _ _) rfl
      exact Frame.refl _ _
    · exact Frame.refl _ _
  · exact Frame.refl _ _

theorem execPauseRepeat_frame (a0 : ℕ) (s : State) (t : State) (h : execPauseRepeat a0 s = .next t) : Frame 0x20 s t := by
  unfold execPauseRepeat at h
  refine onCore_frame h ?_
  refine Frame.step ?_ (State.pauseAgain_frame _ _) rfl
  exact Frame.refl _ _

theorem State.setLevel_frame (s : State) (a1 : ℕ) (a2 : ℕ) : Frame 0x1 s (State.setLevel s a1 a2) := by
  unfold State.setLevel
  extract_lets +onlyGivenNames x1
  clear_value x1
  refine Frame.step ?_ (State.put_frame _ _ _) rfl
  refine Frame.step ?_ (State.put_frame _ _ _) rfl
  exact Frame.refl _ _

theorem State.pauseTx_frame (s : State) (a1 : ℕ) (a2 : ℕ) : Frame 0x20000a1 s (State.pauseTx s a1 a2) := by
  unfold State.pauseTx
  extract_lets +onlyGivenNames x1
  refine Frame.local x1 ?_ fun h1 => ?_
  · subst x1
    refine Frame.step ?_ (State.count_frame _ _) rfl
    refine Frame.step ?_ (State.emit_frame _ _) rfl
    exact Frame.refl _ _
  clear_value x1
  refine Frame.step ?_ (State.setPort_frame _ _ _) rfl
  assumption

theorem State.txPoison_frame (s : State) (a1 : ℕ) (a2 : ℕ) : Frame 0xa1 s (State.txPoison s a1 a2) := by
  unfold State.txPoison
  extract_lets +onlyGivenNames x1
  clear_value x1
  refine Frame.step ?_ (State.count_frame _ _) rfl
  refine Frame.when ?_ fun _ _ => ?_
  · refine Frame.step ?_ (State.setTxq_frame _ _ _ _) rfl
    exact Frame.refl _ _
  · refine Frame.step ?_ (State.setSince_frame _ _ _ _) rfl
    assumption

theorem State.txStart_frame (s : State) (a1 : ℕ) (a2 : ℕ) (a3 : Bool) : Frame 0x20001a1 s (State.txStart s a1 a2 a3) := by
  unfold State.txStart
  extract_lets +onlyGivenNames x1
  refine Frame.local x1 ?_ fun h1 => ?_
  · subst x1
    refine Frame.step ?_ (State.txDone_frame _ _) rfl
    exact Frame.refl _ _
  clear_value x1
  extract_lets +onlyGivenNames x2
  clear_value x2
  refine Frame.ite (fun _ => ?_) fun _ => ?_
  · assumption
  · split
    · refine Frame.step ?_ (State.pauseTx_frame _ _ _) rfl
      assumption
    · refine Frame.ite (fun _ => ?_) fun _ => ?_
      · assumption
      · split
        · extract_lets +onlyGivenNames x3
          refine Frame.local x3 ?_ fun h3 => ?_
          · subst x3
            refine Frame.step ?_ (State.sluiceEcc_frame _ _ _ _) rfl
            assumption
          clear_value x3
          refine Frame.ite (fun _ => ?_) fun _ => ?_
          · refine Frame.step ?_ (State.txPoison_frame _ _ _) rfl
            assumption
          · refine Frame.step ?_ (State.txFrom_frame _ _ _) rfl
            assumption
        · assumption

theorem execTxBegin_frame (a0 : ℕ) (a1 : ℕ) (a2 : Bool) (s : State) (t : State) (h : execTxBegin a0 a1 a2 s = .next t) : Frame 0x20001a1 s t := by
  unfold execTxBegin at h
  refine onCore_frame h ?_
  refine Frame.step ?_ (State.txStart_frame _ _ _ _) rfl
  exact Frame.refl _ _

theorem State.pauseEnd_frame (s : State) (a1 : ℕ) : Frame 0x21 s (State.pauseEnd s a1) := by
  unfold State.pauseEnd
  split
  · refine Frame.ite (fun _ => ?_) fun _ => ?_
    · refine Frame.step ?_ (State.put_frame _ _ _) rfl
      refine Frame.step ?_ (State.setPort_frame _ _ _) rfl
      exact Frame.refl _ _
    · exact Frame.refl _ _
  · exact Frame.refl _ _

theorem execPauseHoldEnd_frame (a0 : ℕ) (s : State) (t : State) (h : execPauseHoldEnd a0 s = .next t) : Frame 0x21 s t := by
  unfold execPauseHoldEnd at h
  refine onCore_frame h ?_
  refine Frame.step ?_ (State.pauseEnd_frame _ _) rfl
  exact Frame.refl _ _

theorem State.rxLevel_frame (s : State) (a1 : ℕ) (a2 : EthFrame) : Frame 0x1 s (State.rxLevel s a1 a2) := by
  unfold State.rxLevel
  extract_lets +onlyGivenNames x1
  clear_value x1
  refine Frame.ite (fun _ => ?_) fun _ => ?_
  · refine Frame.step ?_ (State.setLevel_frame _ _ _) rfl
    exact Frame.refl _ _
  · refine Frame.ite (fun _ => ?_) fun _ => ?_
    · refine Frame.step ?_ (State.setLevel_frame _ _ _) rfl
      exact Frame.refl _ _
    · refine Frame.step ?_ (State.crossFrame_frame _ _ _) rfl
      exact Frame.refl _ _

theorem State.supervise_frame (s : State) : Frame 0xa1 s (State.supervise s) := by
  unfold State.supervise
  refine Frame.ite (fun _ => ?_) fun _ => ?_
  · refine Frame.step ?_ (State.txSend_frame _ _ _ _) rfl
    refine Frame.upd ?_ rfl
    exact Frame.refl _ _
  · exact Frame.refl _ _

theorem State.sluiceFail_frame (s : State) (a1 : ℕ) : Frame 0x20001a1 s (State.sluiceFail s a1) := by
  unfold State.sluiceFail
  refine Frame.ite (fun _ => ?_) fun _ => ?_
  · refine Frame.step ?_ (State.raise_frame _ _ _ _ _ _) rfl
    refine Frame.step ?_ (State.sluiceActive_frame _ _ _) rfl
    refine Frame.step ?_ (State.put_frame _ _ _) rfl
    exact Frame.refl _ _
  · extract_lets +onlyGivenNames x1
    refine Frame.local x1 ?_ fun h1 => ?_
    · subst x1
      refine Frame.step ?_ (State.put_frame _ _ _) rfl
      refine Frame.step ?_ (State.put_frame _ _ _) rfl
      exact Frame.refl _ _
    clear_value x1
    extract_lets +onlyGivenNames x2
    refine Frame.local x2 ?_ fun h2 => ?_
    · subst x2
      refine Frame.when ?_ fun _ _ => ?_
      · assumption
      · refine Frame.step ?_ (State.put_frame _ _ _) rfl
        assumption
    clear_value x2
    refine Frame.step ?_ (State.raise_frame _ _ _ _ _ _) rfl
    refine Frame.when ?_ fun _ _ => ?_
    · assumption
    · refine Frame.step ?_ (State.physLoss_frame _ _) rfl
      assumption

theorem State.sluiceTest_frame (s : State) (a1 : ℕ) (a2 : Bool) : Frame 0x20001a1 s (State.sluiceTest s a1 a2) := by
  unfold State.sluiceTest
  refine Frame.ite (fun _ => ?_) fun _ => ?_
  · exact Frame.refl _ _
  · refine Frame.ite (fun _ => ?_) fun _ => ?_
    · refine Frame.ite (fun _ => ?_) fun _ => ?_
      · refine Frame.step ?_ (State.sluiceFail_frame _ _) rfl
        exact Frame.refl _ _
      · exact Frame.refl _ _
    · refine Frame.ite (fun _ => ?_) fun _ => ?_
      · refine Frame.ite (fun _ => ?_) fun _ => ?_
        · refine Frame.step ?_ (State.sluiceActive_frame _ _ _) rfl
          exact Frame.refl _ _
        · refine Frame.step ?_ (State.sluiceFail_frame _ _) rfl
          exact Frame.refl _ _
      · exact Frame.refl _ _

theorem execSluiceSelftest_frame (a0 : ℕ) (a1 : Bool) (s : State) (t : State) (h : execSluiceSelftest a0 a1 s = .next t) : Frame 0x20001a1 s t := by
  unfold execSluiceSelftest at h
  refine onCore_frame h ?_
  refine Frame.step ?_ (State.sluiceTest_frame _ _ _) rfl
  exact Frame.refl _ _

theorem State.rxDrop_frame (s : State) (a1 : ℕ) (a2 : ℕ) : Frame 0xa1 s (State.rxDrop s a1 a2) := by
  unfold State.rxDrop
  refine Frame.when ?_ fun _ _ => ?_
  · refine Frame.step ?_ (State.count_frame _ _) rfl
    exact Frame.refl _ _
  · refine Frame.step ?_ (State.setPort_frame _ _ _) rfl
    assumption

theorem State.pauseRx_frame (s : State) (a1 : ℕ) (a2 : ℕ) : Frame 0xa1 s (State.pauseRx s a1 a2) := by
  unfold State.pauseRx
  extract_lets +onlyGivenNames x1
  refine Frame.local x1 ?_ fun h1 => ?_
  · subst x1
    refine Frame.step ?_ (State.count_frame _ _) rfl
    exact Frame.refl _ _
  clear_value x1
  refine Frame.ite (fun _ => ?_) fun _ => ?_
  · assumption
  · refine Frame.ite (fun _ => ?_) fun _ => ?_
    · refine Frame.step ?_ (State.put_frame _ _ _) rfl
      refine Frame.step ?_ (State.setPort_frame _ _ _) rfl
      assumption
    · extract_lets +onlyGivenNames x2
      clear_value x2
      refine Frame.step ?_ (State.put_frame _ _ _) rfl
      refine Frame.step ?_ (State.setPort_frame _ _ _) rfl
      assumption

theorem State.ddAdd_frame (s : State) (a1 : ℕ) (a2 : ℕ × ℕ) : Frame 0xa1 s (State.ddAdd s a1 a2) := by
  unfold State.ddAdd
  extract_lets +onlyGivenNames x1
  clear_value x1
  extract_lets +onlyGivenNames x2
  clear_value x2
  refine Frame.ite (fun _ => ?_) fun _ => ?_
  · refine Frame.upd ?_ rfl
    exact Frame.refl _ _
  · refine Frame.step ?_ (State.count_frame _ _) rfl
    refine Frame.upd ?_ rfl
    exact Frame.refl _ _

theorem State.rxEcc_frame (s : State) (a1 : ℕ) (a2 : EthFrame) : Frame 0x181 s (State.rxEcc s a1 a2) := by
  unfold State.rxEcc
  extract_lets +onlyGivenNames x1
  refine Frame.local x1 ?_ fun h1 => ?_
  · subst x1
    refine Frame.step ?_ (State.rxLevel_frame _ _ _) rfl
    exact Frame.refl _ _
  clear_value x1
  refine Frame.ite (fun _ => ?_) fun _ => ?_
  · assumption
  · extract_lets +onlyGivenNames x2
    refine Frame.local x2 ?_ fun h2 => ?_
    · subst x2
      refine Frame.when ?_ fun _ _ => ?_
      · assumption
      · refine Frame.step ?_ (State.sluiceEcc_frame _ _ _ _) rfl
        refine Frame.step ?_ (State.crossFrame_frame _ _ _) rfl
        assumption
    clear_value x2
    refine Frame.step ?_ (State.sluiceEcc_frame _ _ _ _) rfl
    assumption

theorem State.hold_frame (s : State) (a1 : ℕ) (a2 : ℕ) (a3 : List Byte) (a4 : EthFrame) : Frame 0x40 s (State.hold s a1 a2 a3 a4) := by
  unfold State.hold
  refine Frame.upd ?_ rfl
  exact Frame.refl _ _

theorem State.handOver_frame (s : State) (a1 : ℕ) (a2 : EthFrame) (a3 : ℕ) (a4 : ℕ) : Frame 0x2000040 s (State.handOver s a1 a2 a3 a4) := by
  unfold State.handOver
  refine Frame.ite (fun _ => ?_) fun _ => ?_
  · exact Frame.refl _ _
  · extract_lets +onlyGivenNames x1
    clear_value x1
    refine Frame.ite (fun _ => ?_) fun _ => ?_
    · refine Frame.ite (fun _ => ?_) fun _ => ?_
      · refine Frame.step ?_ (State.hold_frame _ _ _ _ _) rfl
        exact Frame.refl _ _
      · extract_lets +onlyGivenNames x2
        clear_value x2
        extract_lets +onlyGivenNames x3
        clear_value x3
        extract_lets +onlyGivenNames x4
        refine Frame.local x4 ?_ fun h4 => ?_
        · subst x4
          refine Frame.when ?_ fun _ _ => ?_
          · exact Frame.refl _ _
          · refine Frame.upd ?_ rfl
            assumption
        clear_value x4
        refine Frame.step ?_ (State.orderLog_frame _ _) rfl
        refine Frame.step ?_ (State.emit_frame _ _) rfl
        assumption
    · refine Frame.step ?_ (State.emit_frame _ _) rfl
      exact Frame.refl _ _

theorem State.rxGood_frame (s : State) (a1 : ℕ) (a2 : EthFrame) (a3 : ℕ) (a4 : ℕ) : Frame 0x20000e1 s (State.rxGood s a1 a2 a3 a4) := by
  unfold State.rxGood
  extract_lets +onlyGivenNames x1
  clear_value x1
  extract_lets +onlyGivenNames x2
  refine Frame.local x2 ?_ fun h2 => ?_
  · subst x2
    refine Frame.step ?_ (State.count_frame _ _) rfl
    exact Frame.refl _ _
  clear_value x2
  extract_lets +onlyGivenNames x3
  refine Frame.local x3 ?_ fun h3 => ?_
  · subst x3
    refine Frame.step ?_ (State.addBytes_frame _ _ _ _) rfl
    assumption
  clear_value x3
  extract_lets +onlyGivenNames x4
  refine Frame.local x4 ?_ fun h4 => ?_
  · subst x4
    refine Frame.step ?_ (State.put_frame _ _ _) rfl
    refine Frame.step ?_ (State.setPort_frame _ _ _) rfl
    assumption
  clear_value x4
  refine Frame.ite (fun _ => ?_) fun _ => ?_
  · refine Frame.step ?_ (State.count_frame _ _) rfl
    assumption
  · refine Frame.ite (fun _ => ?_) fun _ => ?_
    · refine Frame.step ?_ (State.count_frame _ _) rfl
      assumption
    · refine Frame.step ?_ (State.handOver_frame _ _ _ _ _) rfl
      assumption

theorem State.rxFrame_frame (s : State) (a1 : ℕ) (a2 : EthFrame) : Frame 0x20001e1 s (State.rxFrame s a1 a2) := by
  unfold State.rxFrame
  refine Frame.ite (fun _ => ?_) fun _ => ?_
  · exact Frame.refl _ _
  · split
    · split
      · refine Frame.step ?_ (State.rxDrop_frame _ _ _) rfl
        exact Frame.refl _ _
      · refine Frame.step ?_ (State.pauseRx_frame _ _ _) rfl
        exact Frame.refl _ _
    · extract_lets +onlyGivenNames x1
      clear_value x1
      extract_lets +onlyGivenNames x2
      refine Frame.local x2 ?_ fun h2 => ?_
      · subst x2
        refine Frame.when ?_ fun _ _ => ?_
        · exact Frame.refl _ _
        · refine Frame.step ?_ (State.count_frame _ _) rfl
          assumption
      clear_value x2
      split
      · refine Frame.step ?_ (State.count_frame _ _) rfl
        assumption
      · extract_lets +onlyGivenNames x3
        refine Frame.local x3 ?_ fun h3 => ?_
        · subst x3
          split
          · refine Frame.step ?_ (State.ddAdd_frame _ _ _) rfl
            assumption
          · assumption
        clear_value x3
        extract_lets +onlyGivenNames x4
        clear_value x4
        refine Frame.when ?_ fun _ _ => ?_
        · refine Frame.step ?_ (State.rxDrop_frame _ _ _) rfl
          assumption
        · refine Frame.step ?_ (State.ctDiscard_frame _ _ _) rfl
          refine Frame.step ?_ (State.rxEcc_frame _ _ _) rfl
          assumption
      · assumption
      · extract_lets +onlyGivenNames x5
        refine Frame.local x5 ?_ fun h5 => ?_
        · subst x5
          refine Frame.step ?_ (State.rxEcc_frame _ _ _) rfl
          split
          · refine Frame.step ?_ (State.ddAdd_frame _ _ _) rfl
            assumption
          · assumption
        clear_value x5
        split
        · refine Frame.when ?_ fun _ _ => ?_
          · refine Frame.step ?_ (State.rxDrop_frame _ _ _) rfl
            assumption
          · refine Frame.step ?_ (State.ctDiscard_frame _ _ _) rfl
            assumption
        · refine Frame.step ?_ (State.rxGood_frame _ _ _ _ _) rfl
          assumption

theorem execEthFrameRx_frame (a0 : ℕ) (a1 : EthFrame) (s : State) (t : State) (h : execEthFrameRx a0 a1 s = .next t) : Frame 0x20001e1 s t := by
  unfold execEthFrameRx at h
  refine onCore_frame h ?_
  refine Frame.step ?_ (State.rxFrame_frame _ _ _) rfl
  exact Frame.refl _ _

theorem execPhyLinkLoss_frame (a0 : ℕ) (s : State) (t : State) (h : execPhyLinkLoss a0 s = .next t) : Frame 0x20000a1 s t := by
  unfold execPhyLinkLoss at h
  refine onCore_frame h ?_
  refine Frame.step ?_ (State.put_frame _ _ _) rfl
  refine Frame.step ?_ (State.put_frame _ _ _) rfl
  refine Frame.step ?_ (State.physLoss_frame _ _) rfl
  exact Frame.refl _ _

theorem State.reportDown_frame (s : State) (a1 : ℕ) : Frame 0x1a1 s (State.reportDown s a1) := by
  unfold State.reportDown
  refine Frame.ite (fun _ => ?_) fun _ => ?_
  · extract_lets +onlyGivenNames x1
    clear_value x1
    extract_lets +onlyGivenNames x2
    refine Frame.local x2 ?_ fun h2 => ?_
    · subst x2
      refine Frame.step ?_ (State.put_frame _ _ _) rfl
      refine Frame.step ?_ (State.put_frame _ _ _) rfl
      refine Frame.step ?_ (State.put_frame _ _ _) rfl
      refine Frame.step ?_ (State.put_frame _ _ _) rfl
      exact Frame.refl _ _
    clear_value x2
    extract_lets +onlyGivenNames x3
    refine Frame.local x3 ?_ fun h3 => ?_
    · subst x3
      refine Frame.step ?_ (State.setPort_frame _ _ _) rfl
      assumption
    clear_value x3
    refine Frame.step ?_ (State.raise_frame _ _ _ _ _ _) rfl
    refine Frame.step ?_ (State.count_frame _ _) rfl
    assumption
  · exact Frame.refl _ _

theorem execLinkDownReport_frame (a0 : ℕ) (s : State) (t : State) (h : execLinkDownReport a0 s = .next t) : Frame 0x1a1 s t := by
  unfold execLinkDownReport at h
  refine onCore_frame h ?_
  refine Frame.step ?_ (State.reportDown_frame _ _) rfl
  exact Frame.refl _ _

theorem State.reportUp_frame (s : State) (a1 : ℕ) : Frame 0x1a1 s (State.reportUp s a1) := by
  unfold State.reportUp
  refine Frame.ite (fun _ => ?_) fun _ => ?_
  · extract_lets +onlyGivenNames x1
    refine Frame.local x1 ?_ fun h1 => ?_
    · subst x1
      refine Frame.step ?_ (State.showSpeed_frame _ _) rfl
      refine Frame.step ?_ (State.put_frame _ _ _) rfl
      exact Frame.refl _ _
    clear_value x1
    extract_lets +onlyGivenNames x2
    refine Frame.local x2 ?_ fun h2 => ?_
    · subst x2
      refine Frame.step ?_ (State.setPort_frame _ _ _) rfl
      assumption
    clear_value x2
    refine Frame.step ?_ (State.raise_frame _ _ _ _ _ _) rfl
    assumption
  · exact Frame.refl _ _

theorem execLinkUpReport_frame (a0 : ℕ) (s : State) (t : State) (h : execLinkUpReport a0 s = .next t) : Frame 0x1a1 s t := by
  unfold execLinkUpReport at h
  refine onCore_frame h ?_
  refine Frame.step ?_ (State.reportUp_frame _ _) rfl
  exact Frame.refl _ _

theorem State.rxSilence_frame (s : State) (a1 : ℕ) : Frame 0x181 s (State.rxSilence s a1) := by
  unfold State.rxSilence
  split
  · refine Frame.ite (fun _ => ?_) fun _ => ?_
    · refine Frame.step ?_ (State.raise_frame _ _ _ _ _ _) rfl
      refine Frame.step ?_ (State.put_frame _ _ _) rfl
      exact Frame.refl _ _
    · exact Frame.refl _ _
  · exact Frame.refl _ _

theorem execRxSilenceExpire_frame (a0 : ℕ) (s : State) (t : State) (h : execRxSilenceExpire a0 s = .next t) : Frame 0x181 s t := by
  unfold execRxSilenceExpire at h
  refine onCore_frame h ?_
  refine Frame.step ?_ (State.rxSilence_frame _ _) rfl
  exact Frame.refl _ _

theorem State.badRate_frame (s : State) (a1 : ℕ) : Frame 0x1a1 s (State.badRate s a1) := by
  unfold State.badRate
  extract_lets +onlyGivenNames x1
  clear_value x1
  refine Frame.ite (fun _ => ?_) fun _ => ?_
  · extract_lets +onlyGivenNames x2
    clear_value x2
    extract_lets +onlyGivenNames x3
    refine Frame.local x3 ?_ fun h3 => ?_
    · subst x3
      refine Frame.step ?_ (State.setPort_frame _ _ _) rfl
      exact Frame.refl _ _
    clear_value x3
    refine Frame.ite (fun _ => ?_) fun _ => ?_
    · refine Frame.step ?_ (State.raise_frame _ _ _ _ _ _) rfl
      assumption
    · assumption
  · exact Frame.refl _ _

theorem execRxBadRateCheck_frame (a0 : ℕ) (s : State) (t : State) (h : execRxBadRateCheck a0 s = .next t) : Frame 0x1a1 s t := by
  unfold execRxBadRateCheck at h
  refine onCore_frame h ?_
  refine Frame.step ?_ (State.badRate_frame _ _) rfl
  exact Frame.refl _ _

theorem State.txStarve_frame (s : State) (a1 : ℕ) (a2 : ℕ) : Frame 0x1a1 s (State.txStarve s a1 a2) := by
  unfold State.txStarve
  split
  · refine Frame.ite (fun _ => ?_) fun _ => ?_
    · refine Frame.step ?_ (State.raise_frame _ _ _ _ _ _) rfl
      refine Frame.step ?_ (State.setPort_frame _ _ _) rfl
      exact Frame.refl _ _
    · exact Frame.refl _ _
  · exact Frame.refl _ _

theorem execTxqStarve_frame (a0 : ℕ) (a1 : ℕ) (s : State) (t : State) (h : execTxqStarve a0 a1 s = .next t) : Frame 0x1a1 s t := by
  unfold execTxqStarve at h
  refine onCore_frame h ?_
  refine Frame.step ?_ (State.txStarve_frame _ _ _) rfl
  exact Frame.refl _ _

theorem State.pauseHigh_frame (s : State) (a1 : ℕ) (a2 : ℕ) : Frame 0x21 s (State.pauseHigh s a1 a2) := by
  unfold State.pauseHigh
  extract_lets +onlyGivenNames x1
  clear_value x1
  extract_lets +onlyGivenNames x2
  refine Frame.local x2 ?_ fun h2 => ?_
  · subst x2
    refine Frame.step ?_ (State.setLevel_frame _ _ _) rfl
    exact Frame.refl _ _
  clear_value x2
  refine Frame.ite (fun _ => ?_) fun _ => ?_
  · refine Frame.step ?_ (State.put_frame _ _ _) rfl
    refine Frame.step ?_ (State.setPort_frame _ _ _) rfl
    assumption
  · assumption

theorem execPauseHighWm_frame (a0 : ℕ) (a1 : ℕ) (s : State) (t : State) (h : execPauseHighWm a0 a1 s = .next t) : Frame 0x21 s t := by
  unfold execPauseHighWm at h
  refine onCore_frame h ?_
  refine Frame.step ?_ (State.pauseHigh_frame _ _ _) rfl
  exact Frame.refl _ _

theorem State.pauseLow_frame (s : State) (a1 : ℕ) (a2 : ℕ) : Frame 0x21 s (State.pauseLow s a1 a2) := by
  unfold State.pauseLow
  extract_lets +onlyGivenNames x1
  clear_value x1
  extract_lets +onlyGivenNames x2
  refine Frame.local x2 ?_ fun h2 => ?_
  · subst x2
    refine Frame.step ?_ (State.setLevel_frame _ _ _) rfl
    exact Frame.refl _ _
  clear_value x2
  refine Frame.ite (fun _ => ?_) fun _ => ?_
  · refine Frame.step ?_ (State.put_frame _ _ _) rfl
    refine Frame.step ?_ (State.setPort_frame _ _ _) rfl
    assumption
  · assumption

theorem execPauseLowWm_frame (a0 : ℕ) (a1 : ℕ) (s : State) (t : State) (h : execPauseLowWm a0 a1 s = .next t) : Frame 0x21 s t := by
  unfold execPauseLowWm at h
  refine onCore_frame h ?_
  refine Frame.step ?_ (State.pauseLow_frame _ _ _) rfl
  exact Frame.refl _ _

theorem State.physUp_frame (s : State) (a1 : ℕ) (a2 : Bool) (a3 : ℕ) : Frame 0x21 s (State.physUp s a1 a2 a3) := by
  unfold State.physUp
  refine Frame.ite (fun _ => ?_) fun _ => ?_
  · exact Frame.refl _ _
  · extract_lets +onlyGivenNames x1
    clear_value x1
    extract_lets +onlyGivenNames x2
    refine Frame.local x2 ?_ fun h2 => ?_
    · subst x2
      refine Frame.step ?_ (State.setPort_frame _ _ _) rfl
      exact Frame.refl _ _
    clear_value x2
    refine Frame.ite (fun _ => ?_) fun _ => ?_
    · refine Frame.step ?_ (State.put_frame _ _ _) rfl
      assumption
    · assumption

theorem execPhyLinkUp_frame (a0 : ℕ) (a1 : Bool) (a2 : ℕ) (s : State) (t : State) (h : execPhyLinkUp a0 a1 a2 s = .next t) : Frame 0x21 s t := by
  unfold execPhyLinkUp at h
  refine onCore_frame h ?_
  refine Frame.step ?_ (State.physUp_frame _ _ _ _) rfl
  exact Frame.refl _ _

theorem execPrpDdExpire_frame (s : State) (t : State) (h : execPrpDdExpire s = .next t) : Frame 0x20 s t := by
  unfold execPrpDdExpire at h
  refine onCore_frame h ?_
  refine Frame.upd ?_ rfl
  exact Frame.refl _ _

theorem execPrpSupervisionTx_frame (s : State) (t : State) (h : execPrpSupervisionTx s = .next t) : Frame 0xa1 s t := by
  unfold execPrpSupervisionTx at h
  refine onCore_frame h ?_
  refine Frame.step ?_ (State.supervise_frame _) rfl
  exact Frame.refl _ _

end Sys2Proof.Machine
end

