-- ==== Sys2Proof/Laws/FrameAnalogue.lean ====
section
/-!
SUPPORT. What each operation of Machine/Analogue.lean can change: one lemma an operation, with the mask of the parts of the state it
may touch (the bits are listed in Laws/Frame.lean).
-/

set_option linter.unusedVariables false
set_option Elab.async false

namespace Sys2Proof.Machine

theorem State.trimAbort_frame (s : State) : Frame 0x9 s (State.trimAbort s) := by
  unfold State.trimAbort
  split
  · extract_lets +onlyGivenNames x1
    refine Frame.local x1 ?_ fun h1 => ?_
    · subst x1
      refine Frame.step ?_ (State.put_frame _ _ _) rfl
      exact Frame.refl _ _
    clear_value x1
    refine Frame.upd ?_ rfl
    assumption
  · exact Frame.refl _ _

theorem State.setChain_frame (s : State) (a1 : ℕ) (a2 : Chain → Chain) : Frame 0x2000 s (State.setChain s a1 a2) := by
  unfold State.setChain
  refine Frame.upd ?_ rfl
  exact Frame.refl _ _

theorem State.chainLate_frame (s : State) (a1 : ℕ) : Frame 0x2181 s (State.chainLate s a1) := by
  unfold State.chainLate
  split
  · exact Frame.refl _ _
  · refine Frame.ite (fun _ => ?_) fun _ => ?_
    · exact Frame.refl _ _
    · extract_lets +onlyGivenNames x1
      refine Frame.local x1 ?_ fun h1 => ?_
      · subst x1
        refine Frame.step ?_ (State.setChain_frame _ _ _) rfl
        exact Frame.refl _ _
      clear_value x1
      refine Frame.step ?_ (State.deviceMiss_frame _ _) rfl
      refine Frame.step ?_ (State.raise_frame _ _ _ _ _ _) rfl
      refine Frame.step ?_ (State.count_frame _ _) rfl
      assumption

theorem State.swapNow_frame (s : State) (a1 : ℕ) : Frame 0x2001 s (State.swapNow s a1) := by
  unfold State.swapNow
  extract_lets +onlyGivenNames x1
  clear_value x1
  refine Frame.ite (fun _ => ?_) fun _ => ?_
  · exact Frame.refl _ _
  · extract_lets +onlyGivenNames x2
    clear_value x2
    extract_lets +onlyGivenNames x3
    clear_value x3
    extract_lets +onlyGivenNames x4
    refine Frame.local x4 ?_ fun h4 => ?_
    · subst x4
      refine Frame.step ?_ (State.put_frame _ _ _) rfl
      refine Frame.step ?_ (State.setChain_frame _ _ _) rfl
      exact Frame.refl _ _
    clear_value x4
    refine Frame.ite (fun _ => ?_) fun _ => ?_
    · refine Frame.step ?_ (State.put_frame _ _ _) rfl
      assumption
    · refine Frame.step ?_ (State.put_frame _ _ _) rfl
      refine Frame.step ?_ (State.setChain_frame _ _ _) rfl
      assumption

theorem State.fadeStep_frame (s : State) (a1 : ℕ) : Frame 0x2001 s (State.fadeStep s a1) := by
  unfold State.fadeStep
  split
  · refine Frame.ite (fun _ => ?_) fun _ => ?_
    · refine Frame.step ?_ (State.setChain_frame _ _ _) rfl
      exact Frame.refl _ _
    · extract_lets +onlyGivenNames x1
      refine Frame.local x1 ?_ fun h1 => ?_
      · subst x1
        refine Frame.step ?_ (State.put_frame _ _ _) rfl
        refine Frame.step ?_ (State.put_frame _ _ _) rfl
        exact Frame.refl _ _
      clear_value x1
      refine Frame.step ?_ (State.setChain_frame _ _ _) rfl
      assumption
  · exact Frame.refl _ _

theorem State.levels_frame (s : State) (a1 : ℕ) (a2 : ℤ) (a3 : Stamp) : Frame 0x201000 s (State.levels s a1 a2 a3) := by
  unfold State.levels
  extract_lets +onlyGivenNames x1
  clear_value x1
  refine Frame.step ?_ (State.setConds_frame _ _ _ _) rfl
  exact Frame.refl _ _

theorem State.setChainView_frame (s : State) (a1 : ℕ) (a2 : ChainView → ChainView) : Frame 0x10000 s (State.setChainView s a1 a2) := by
  unfold State.setChainView
  refine Frame.upd ?_ rfl
  exact Frame.refl _ _

theorem State.keepOutput_frame (s : State) (a1 : ℕ) (a2 : ℕ) (a3 : Word) : Frame 0x10000 s (State.keepOutput s a1 a2 a3) := by
  unfold State.keepOutput
  refine Frame.step ?_ (State.setChainView_frame _ _ _) rfl
  exact Frame.refl _ _

theorem State.chainOutput_frame (s : State) (a1 : ℕ) : Frame 0x2131c1 s (State.chainOutput s a1) := by
  unfold State.chainOutput
  extract_lets +onlyGivenNames x1
  refine Frame.local x1 ?_ fun h1 => ?_
  · subst x1
    refine Frame.step ?_ (State.chainLate_frame _ _) rfl
    exact Frame.refl _ _
  clear_value x1
  split
  · assumption
  · extract_lets +onlyGivenNames x2
    refine Frame.local x2 ?_ fun h2 => ?_
    · subst x2
      refine Frame.step ?_ (State.deviceMet_frame _ _ _) rfl
      refine Frame.step ?_ (State.setChain_frame _ _ _) rfl
      assumption
    clear_value x2
    extract_lets +onlyGivenNames x3
    clear_value x3
    extract_lets +onlyGivenNames x4
    clear_value x4
    refine Frame.ite (fun _ => ?_) fun _ => ?_
    · assumption
    · extract_lets +onlyGivenNames x5
      refine Frame.local x5 ?_ fun h5 => ?_
      · subst x5
        refine Frame.step ?_ (State.swapNow_frame _ _) rfl
        assumption
      clear_value x5
      split
      split
      extract_lets +onlyGivenNames x6
      clear_value x6
      extract_lets +onlyGivenNames x7
      clear_value x7
      extract_lets +onlyGivenNames x8
      clear_value x8
      extract_lets +onlyGivenNames x9
      clear_value x9
      extract_lets +onlyGivenNames x10
      refine Frame.local x10 ?_ fun h10 => ?_
      · subst x10
        refine Frame.step ?_ (State.fadeStep_frame _ _) rfl
        refine Frame.step ?_ (State.setReg_frame _ _ _) rfl
        refine Frame.step ?_ (State.put_frame _ _ _) rfl
        assumption
      clear_value x10
      extract_lets +onlyGivenNames x11
      refine Frame.local x11 ?_ fun h11 => ?_
      · subst x11
        refine Frame.step ?_ (State.setChain_frame _ _ _) rfl
        assumption
      clear_value x11
      extract_lets +onlyGivenNames x12
      refine Frame.local x12 ?_ fun h12 => ?_
      · subst x12
        refine Frame.when ?_ fun _ _ => ?_
        · refine Frame.when ?_ fun _ _ => ?_
          · assumption
          · refine Frame.step ?_ (State.count_frame _ _) rfl
            assumption
        · refine Frame.step ?_ (State.count_frame _ _) rfl
          assumption
      clear_value x12
      refine Frame.ite (fun _ => ?_) fun _ => ?_
      · assumption
      · refine Frame.step ?_ (State.levels_frame _ _ _ _) rfl
        refine Frame.step ?_ (State.keepOutput_frame _ _ _ _) rfl
        refine Frame.step ?_ (State.orderLog_frame _ _) rfl
        assumption

theorem execChainOutput_frame (a0 : ℕ) (s : State) (t : State) (h : execChainOutput a0 s = .next t) : Frame 0x2131c1 s t := by
  unfold execChainOutput at h
  refine onEngines_frame h ?_
  refine Frame.step ?_ (State.chainOutput_frame _ _) rfl
  exact Frame.refl _ _

theorem State.setConv_frame (s : State) (a1 : ℕ) (a2 : Converter → Converter) : Frame 0x2000 s (State.setConv s a1 a2) := by
  unfold State.setConv
  refine Frame.upd ?_ rfl
  exact Frame.refl _ _

theorem State.convStart_frame (s : State) (a1 : ℕ) : Frame 0x2001 s (State.convStart s a1) := by
  unfold State.convStart
  refine Frame.ite (fun _ => ?_) fun _ => ?_
  · exact Frame.refl _ _
  · refine Frame.step ?_ (State.put_frame _ _ _) rfl
    refine Frame.step ?_ (State.setConv_frame _ _ _) rfl
    exact Frame.refl _ _

theorem State.convStop_frame (s : State) (a1 : ℕ) : Frame 0x2001 s (State.convStop s a1) := by
  unfold State.convStop
  refine Frame.step ?_ (State.put_frame _ _ _) rfl
  refine Frame.step ?_ (State.setConv_frame _ _ _) rfl
  exact Frame.refl _ _

theorem State.chainFlush_frame (s : State) (a1 : ℕ) : Frame 0x2131c1 s (State.chainFlush s a1) := by
  unfold State.chainFlush
  refine Frame.foldl ?_ fun _ _ _ => ?_
  · exact Frame.refl _ _
  · refine Frame.step ?_ (State.chainOutput_frame _ _) rfl
    assumption

theorem State.endFade_frame (s : State) (a1 : ℕ) : Frame 0x2001 s (State.endFade s a1) := by
  unfold State.endFade
  extract_lets +onlyGivenNames x1
  refine Frame.local x1 ?_ fun h1 => ?_
  · subst x1
    split
    · refine Frame.step ?_ (State.put_frame _ _ _) rfl
      exact Frame.refl _ _
    · exact Frame.refl _ _
  clear_value x1
  extract_lets +onlyGivenNames x2
  refine Frame.local x2 ?_ fun h2 => ?_
  · subst x2
    refine Frame.step ?_ (State.setChain_frame _ _ _) rfl
    assumption
  clear_value x2
  refine Frame.step ?_ (State.put_frame _ _ _) rfl
  refine Frame.step ?_ (State.put_frame _ _ _) rfl
  assumption

theorem State.loadFactory_frame (s : State) (a1 : ℕ) (a2 : ℕ) : Frame 0x2000 s (State.loadFactory s a1 a2) := by
  unfold State.loadFactory
  extract_lets +onlyGivenNames x1
  refine Frame.local x1 ?_ fun h1 => ?_
  · subst x1
    refine Frame.step ?_ (State.setChain_frame _ _ _) rfl
    exact Frame.refl _ _
  clear_value x1
  refine Frame.upd ?_ rfl
  assumption

theorem State.chainZero_frame (s : State) (a1 : ℕ) (a2 : ℕ) : Frame 0x2001 s (State.chainZero s a1 a2) := by
  unfold State.chainZero
  extract_lets +onlyGivenNames x1
  refine Frame.local x1 ?_ fun h1 => ?_
  · subst x1
    refine Frame.step ?_ (State.setChain_frame _ _ _) rfl
    exact Frame.refl _ _
  clear_value x1
  refine Frame.step ?_ (State.put_frame _ _ _) rfl
  assumption

theorem State.chainClear_frame (s : State) (a1 : ℕ) (a2 : ℕ) : Frame 0x2001 s (State.chainClear s a1 a2) := by
  unfold State.chainClear
  refine Frame.step ?_ (State.chainZero_frame _ _ _) rfl
  refine Frame.step ?_ (State.endFade_frame _ _) rfl
  exact Frame.refl _ _

theorem State.chainApply_frame (s : State) (a1 : ℕ) (a2 : Bool) : Frame 0x2131c1 s (State.chainApply s a1 a2) := by
  unfold State.chainApply
  extract_lets +onlyGivenNames x1
  clear_value x1
  extract_lets +onlyGivenNames x2
  clear_value x2
  extract_lets +onlyGivenNames x3
  clear_value x3
  refine Frame.ite (fun _ => ?_) fun _ => ?_
  · exact Frame.refl _ _
  · extract_lets +onlyGivenNames x4
    refine Frame.local x4 ?_ fun h4 => ?_
    · subst x4
      refine Frame.step ?_ (State.chainFlush_frame _ _) rfl
      exact Frame.refl _ _
    clear_value x4
    extract_lets +onlyGivenNames x5
    refine Frame.local x5 ?_ fun h5 => ?_
    · subst x5
      refine Frame.step ?_ (State.endFade_frame _ _) rfl
      assumption
    clear_value x5
    extract_lets +onlyGivenNames x6
    refine Frame.local x6 ?_ fun h6 => ?_
    · subst x6
      refine Frame.step ?_ (State.setChain_frame _ _ _) rfl
      assumption
    clear_value x6
    extract_lets +onlyGivenNames x7
    refine Frame.local x7 ?_ fun h7 => ?_
    · subst x7
      refine Frame.step ?_ (State.setWord_frame _ _ _) rfl
      assumption
    clear_value x7
    extract_lets +onlyGivenNames x8
    refine Frame.local x8 ?_ fun h8 => ?_
    · subst x8
      refine Frame.ite (fun _ => ?_) fun _ => ?_
      · assumption
      · refine Frame.ite (fun _ => ?_) fun _ => ?_
        · assumption
        · refine Frame.step ?_ (State.put_frame _ _ _) rfl
          refine Frame.step ?_ (State.loadFactory_frame _ _ _) rfl
          assumption
    clear_value x8
    refine Frame.step ?_ (State.chainClear_frame _ _ _) rfl
    assumption

theorem State.nextConversion_frame (s : State) (a1 : ℕ) : Frame 0x2000 s (State.nextConversion s a1) := by
  unfold State.nextConversion
  refine Frame.step ?_ (State.setConv_frame _ _ _) rfl
  exact Frame.refl _ _

theorem State.frameStart_frame (s : State) (a1 : ℕ) (a2 : ℕ) : Frame 0x2131c1 s (State.frameStart s a1 a2) := by
  unfold State.frameStart
  extract_lets +onlyGivenNames x1
  clear_value x1
  refine Frame.ite (fun _ => ?_) fun _ => ?_
  · exact Frame.refl _ _
  · extract_lets +onlyGivenNames x2
    clear_value x2
    extract_lets +onlyGivenNames x3
    clear_value x3
    extract_lets +onlyGivenNames x4
    refine Frame.local x4 ?_ fun h4 => ?_
    · subst x4
      refine Frame.step ?_ (State.setConv_frame _ _ _) rfl
      exact Frame.refl _ _
    clear_value x4
    extract_lets +onlyGivenNames x5
    refine Frame.local x5 ?_ fun h5 => ?_
    · subst x5
      refine Frame.forEach ?_ fun _ _ _ => ?_
      · assumption
      · refine Frame.step ?_ (State.chainApply_frame _ _ _) rfl
        assumption
    clear_value x5
    refine Frame.step ?_ (State.nextConversion_frame _ _) rfl
    assumption

theorem State.injTrigger_frame (s : State) (a1 : ℕ) (a2 : ℕ) : Frame 0x2131c1 s (State.injTrigger s a1 a2) := by
  unfold State.injTrigger
  extract_lets +onlyGivenNames x1
  refine Frame.local x1 ?_ fun h1 => ?_
  · subst x1
    refine Frame.step ?_ (State.frameStart_frame _ _ _) rfl
    exact Frame.refl _ _
  clear_value x1
  extract_lets +onlyGivenNames x2
  clear_value x2
  refine Frame.ite (fun _ => ?_) fun _ => ?_
  · assumption
  · refine Frame.ite (fun _ => ?_) fun _ => ?_
    · refine Frame.step ?_ (State.count_frame _ _) rfl
      assumption
    · refine Frame.step ?_ (State.nextConversion_frame _ _) rfl
      refine Frame.step ?_ (State.setConv_frame _ _ _) rfl
      assumption

theorem State.levelsOff_frame (s : State) : Frame 0x201000 s (State.levelsOff s) := by
  unfold State.levelsOff
  refine Frame.step ?_ (State.setConds_frame _ _ _ _) rfl
  exact Frame.refl _ _

theorem State.swapRequest_frame (s : State) (a1 : ℕ) : Frame 0x2081 s (State.swapRequest s a1) := by
  unfold State.swapRequest
  refine Frame.ite (fun _ => ?_) fun _ => ?_
  · refine Frame.step ?_ (State.setChain_frame _ _ _) rfl
    exact Frame.refl _ _
  · refine Frame.ite (fun _ => ?_) fun _ => ?_
    · refine Frame.step ?_ (State.count_frame _ _) rfl
      exact Frame.refl _ _
    · refine Frame.step ?_ (State.put_frame _ _ _) rfl
      exact Frame.refl _ _

theorem analogueEffect_frame (a0 : ℕ) (a1 : List ℕ) (a2 : Word) (a3 : Word) (s : State) : Frame 0x2131c1 s (analogueEffect a0 a1 a2 a3 s) := by
  unfold analogueEffect
  split
  · refine Frame.ite (fun _ => ?_) fun _ => ?_
    · extract_lets +onlyGivenNames x1
      refine Frame.local x1 ?_ fun h1 => ?_
      · subst x1
        refine Frame.step ?_ (State.put_frame _ _ _) rfl
        exact Frame.refl _ _
      clear_value x1
      refine Frame.upd ?_ rfl
      assumption
    · refine Frame.ite (fun _ => ?_) fun _ => ?_
      · refine Frame.upd ?_ rfl
        exact Frame.refl _ _
      · exact Frame.refl _ _
  · extract_lets +onlyGivenNames x2
    clear_value x2
    extract_lets +onlyGivenNames x3
    refine Frame.local x3 ?_ fun h3 => ?_
    · subst x3
      refine Frame.upd ?_ rfl
      exact Frame.refl _ _
    clear_value x3
    refine Frame.ite (fun _ => ?_) fun _ => ?_
    · refine Frame.step ?_ (State.convStart_frame _ _) rfl
      assumption
    · refine Frame.ite (fun _ => ?_) fun _ => ?_
      · assumption
      · refine Frame.step ?_ (State.convStop_frame _ _) rfl
        assumption
  · refine Frame.step ?_ (State.setConv_frame _ _ _) rfl
    exact Frame.refl _ _
  · refine Frame.step ?_ (State.setConv_frame _ _ _) rfl
    exact Frame.refl _ _
  · refine Frame.when ?_ fun _ _ => ?_
    · exact Frame.refl _ _
    · refine Frame.step ?_ (State.injTrigger_frame _ _ _) rfl
      assumption
  · refine Frame.ite (fun _ => ?_) fun _ => ?_
    · exact Frame.refl _ _
    · refine Frame.step ?_ (State.chainApply_frame _ _ _) rfl
      exact Frame.refl _ _
  · extract_lets +onlyGivenNames x4
    refine Frame.local x4 ?_ fun h4 => ?_
    · subst x4
      refine Frame.ite (fun _ => ?_) fun _ => ?_
      · exact Frame.refl _ _
      · refine Frame.step ?_ (State.chainApply_frame _ _ _) rfl
        exact Frame.refl _ _
    clear_value x4
    refine Frame.ite (fun _ => ?_) fun _ => ?_
    · refine Frame.step ?_ (State.chainZero_frame _ _ _) rfl
      assumption
    · refine Frame.ite (fun _ => ?_) fun _ => ?_
      · refine Frame.step ?_ (State.levelsOff_frame _) rfl
        refine Frame.step ?_ (State.setChain_frame _ _ _) rfl
        refine Frame.step ?_ (State.endFade_frame _ _) rfl
        assumption
      · assumption
  · extract_lets +onlyGivenNames x5
    refine Frame.local x5 ?_ fun h5 => ?_
    · subst x5
      refine Frame.when ?_ fun _ _ => ?_
      · exact Frame.refl _ _
      · refine Frame.step ?_ (State.loadFactory_frame _ _ _) rfl
        assumption
    clear_value x5
    refine Frame.when ?_ fun _ _ => ?_
    · assumption
    · refine Frame.step ?_ (State.swapRequest_frame _ _) rfl
      assumption
  · extract_lets +onlyGivenNames x6
    clear_value x6
    refine Frame.step ?_ (State.coefStep_frame _ _) rfl
    refine Frame.upd ?_ rfl
    exact Frame.refl _ _
  · refine Frame.step ?_ (State.levelsOff_frame _) rfl
    exact Frame.refl _ _
  · exact Frame.refl _ _

theorem State.injLine_frame (s : State) (a1 : ℕ) : Frame 0x22131c1 s (State.injLine s a1) := by
  unfold State.injLine
  refine Frame.forEach ?_ fun _ _ _ => ?_
  · refine Frame.step ?_ (State.emit_frame _ _) rfl
    exact Frame.refl _ _
  · refine Frame.ite (fun _ => ?_) fun _ => ?_
    · refine Frame.step ?_ (State.injTrigger_frame _ _ _) rfl
      assumption
    · assumption

theorem State.mainsSample_frame (s : State) (a1 : ℕ) (a2 : ℤ) (a3 : Bool) : Frame 0x2009 s (State.mainsSample s a1 a2 a3) := by
  unfold State.mainsSample
  refine Frame.ite (fun _ => ?_) fun _ => ?_
  · exact Frame.refl _ _
  · refine Frame.ite (fun _ => ?_) fun _ => ?_
    · refine Frame.step ?_ (State.trimAbort_frame _) rfl
      exact Frame.refl _ _
    · extract_lets +onlyGivenNames x1
      clear_value x1
      extract_lets +onlyGivenNames x2
      clear_value x2
      extract_lets +onlyGivenNames x3
      clear_value x3
      refine Frame.ite (fun _ => ?_) fun _ => ?_
      · refine Frame.step ?_ (State.trimAbort_frame _) rfl
        exact Frame.refl _ _
      · extract_lets +onlyGivenNames x4
        clear_value x4
        refine Frame.upd ?_ rfl
        exact Frame.refl _ _

theorem analogueRefused_frame (a0 : ℕ) (a1 : List ℕ) (a2 : Word) (s : State) : Frame 0x1 s (analogueRefused a0 a1 a2 s) := by
  unfold analogueRefused
  split
  · refine Frame.when ?_ fun _ _ => ?_
    · exact Frame.refl _ _
    · refine Frame.step ?_ (State.put_frame _ _ _) rfl
      assumption
  · refine Frame.ite (fun _ => ?_) fun _ => ?_
    · refine Frame.step ?_ (State.put_frame _ _ _) rfl
      exact Frame.refl _ _
    · refine Frame.when ?_ fun _ _ => ?_
      · exact Frame.refl _ _
      · refine Frame.step ?_ (State.put_frame _ _ _) rfl
        assumption
  · exact Frame.refl _ _

theorem State.convCross_frame (s : State) (a1 : ℕ) (a2 : Crossing) (a3 : Bool) : Frame 0x181 s (State.convCross s a1 a2 a3) := by
  unfold State.convCross
  extract_lets +onlyGivenNames x1
  clear_value x1
  refine Frame.ite (fun _ => ?_) fun _ => ?_
  · refine Frame.step ?_ (State.setLevel_frame _ _ _) rfl
    exact Frame.refl _ _
  · extract_lets +onlyGivenNames x2
    refine Frame.local x2 ?_ fun h2 => ?_
    · subst x2
      refine Frame.step ?_ (State.put_frame _ _ _) rfl
      exact Frame.refl _ _
    clear_value x2
    refine Frame.step ?_ (State.sluiceEcc_frame _ _ _ _) rfl
    assumption

theorem State.analogueStep_frame (s : State) (a1 : Bool) : Frame 0x2001 s (State.analogueStep s a1) := by
  unfold State.analogueStep
  extract_lets +onlyGivenNames x1
  refine Frame.local x1 ?_ fun h1 => ?_
  · subst x1
    refine Frame.forEach ?_ fun _ _ _ => ?_
    · exact Frame.refl _ _
    · refine Frame.ite (fun _ => ?_) fun _ => ?_
      · refine Frame.step ?_ (State.setConv_frame _ _ _) rfl
        assumption
      · assumption
  clear_value x1
  extract_lets +onlyGivenNames x2
  refine Frame.local x2 ?_ fun h2 => ?_
  · subst x2
    refine Frame.forEach ?_ fun _ _ _ => ?_
    · assumption
    · refine Frame.ite (fun _ => ?_) fun _ => ?_
      · refine Frame.step ?_ (State.chainClear_frame _ _ _) rfl
        assumption
      · assumption
  clear_value x2
  refine Frame.when ?_ fun _ _ => ?_
  · assumption
  · refine Frame.forEach ?_ fun _ _ _ => ?_
    · assumption
    · refine Frame.ite (fun _ => ?_) fun _ => ?_
      · refine Frame.step ?_ (State.setChain_frame _ _ _) rfl
        assumption
      · assumption

theorem State.analogueWarm_frame (s : State) : Frame 0x2001 s (State.analogueWarm s) := by
  unfold State.analogueWarm
  extract_lets +onlyGivenNames x1
  refine Frame.local x1 ?_ fun h1 => ?_
  · subst x1
    refine Frame.forEach ?_ fun _ _ _ => ?_
    · exact Frame.refl _ _
    · refine Frame.ite (fun _ => ?_) fun _ => ?_
      · assumption
      · refine Frame.ite (fun _ => ?_) fun _ => ?_
        · refine Frame.step ?_ (State.convStop_frame _ _) rfl
          refine Frame.step ?_ (State.setConv_frame _ _ _) rfl
          assumption
        · refine Frame.step ?_ (State.setConv_frame _ _ _) rfl
          assumption
  clear_value x1
  refine Frame.forEach ?_ fun _ _ _ => ?_
  · assumption
  · refine Frame.ite (fun _ => ?_) fun _ => ?_
    · refine Frame.step ?_ (State.setChain_frame _ _ _) rfl
      refine Frame.step ?_ (State.chainClear_frame _ _ _) rfl
      assumption
    · refine Frame.step ?_ (State.endFade_frame _ _) rfl
      assumption

theorem execConverterFrame_frame (a0 : ℕ) (s : State) (t : State) (h : execConverterFrame a0 s = .next t) : Frame 0x2131c1 s t := by
  unfold execConverterFrame at h
  refine onEngines_frame h ?_
  refine Frame.step ?_ (State.frameStart_frame _ _ _) rfl
  exact Frame.refl _ _

theorem State.injPublish_frame (s : State) (a1 : ℕ) : Frame 0x181 s (State.injPublish s a1) := by
  unfold State.injPublish
  extract_lets +onlyGivenNames x1
  clear_value x1
  extract_lets +onlyGivenNames x2
  refine Frame.local x2 ?_ fun h2 => ?_
  · subst x2
    refine Frame.foldl ?_ fun _ _ _ => ?_
    · exact Frame.refl _ _
    · refine Frame.step ?_ (State.setReg_frame _ _ _) rfl
      assumption
  clear_value x2
  extract_lets +onlyGivenNames x3
  clear_value x3
  extract_lets +onlyGivenNames x4
  refine Frame.local x4 ?_ fun h4 => ?_
  · subst x4
    refine Frame.step ?_ (State.setWord_frame _ _ _) rfl
    assumption
  clear_value x4
  extract_lets +onlyGivenNames x5
  refine Frame.local x5 ?_ fun h5 => ?_
  · subst x5
    refine Frame.step ?_ (State.setWord_frame _ _ _) rfl
    refine Frame.step ?_ (State.setWord_frame _ _ _) rfl
    assumption
  clear_value x5
  refine Frame.step ?_ (State.fire_frame _ _) rfl
  refine Frame.step ?_ (State.bump_frame _ _) rfl
  assumption

theorem State.injResult_frame (s : State) (a1 : ℕ) (a2 : Word) (a3 : Bool) : Frame 0x2181 s (State.injResult s a1 a2 a3) := by
  unfold State.injResult
  extract_lets +onlyGivenNames x1
  refine Frame.local x1 ?_ fun h1 => ?_
  · subst x1
    refine Frame.step ?_ (State.setConv_frame _ _ _) rfl
    exact Frame.refl _ _
  clear_value x1
  refine Frame.ite (fun _ => ?_) fun _ => ?_
  · assumption
  · refine Frame.ite (fun _ => ?_) fun _ => ?_
    · refine Frame.step ?_ (State.count_frame _ _) rfl
      assumption
    · refine Frame.step ?_ (State.injPublish_frame _ _) rfl
      assumption

theorem State.keepRaw_frame (s : State) (a1 : ℕ) (a2 : ℕ) (a3 : Word) : Frame 0x2000 s (State.keepRaw s a1 a2 a3) := by
  unfold State.keepRaw
  refine Frame.step ?_ (State.setChain_frame _ _ _) rfl
  exact Frame.refl _ _

theorem State.chainFeed_frame (s : State) (a1 : ℕ) (a2 : ℕ) (a3 : ℕ) (a4 : ℤ) (a5 : Bool) (a6 : Bool) : Frame 0x2000 s (State.chainFeed s a1 a2 a3 a4 a5 a6) := by
  unfold State.chainFeed
  refine Frame.ite (fun _ => ?_) fun _ => ?_
  · exact Frame.refl _ _
  · refine Frame.step ?_ (State.setChain_frame _ _ _) rfl
    exact Frame.refl _ _

theorem State.regularResult_frame (s : State) (a1 : ℕ) (a2 : ℕ) (a3 : ℤ) (a4 : Bool) (a5 : Bool) (a6 : Bool) : Frame 0x2189 s (State.regularResult s a1 a2 a3 a4 a5 a6) := by
  unfold State.regularResult
  extract_lets +onlyGivenNames x1
  clear_value x1
  extract_lets +onlyGivenNames x2
  clear_value x2
  extract_lets +onlyGivenNames x3
  clear_value x3
  extract_lets +onlyGivenNames x4
  clear_value x4
  extract_lets +onlyGivenNames x5
  refine Frame.local x5 ?_ fun h5 => ?_
  · subst x5
    refine Frame.when ?_ fun _ _ => ?_
    · exact Frame.refl _ _
    · refine Frame.step ?_ (State.count_frame _ _) rfl
      assumption
  clear_value x5
  extract_lets +onlyGivenNames x6
  refine Frame.local x6 ?_ fun h6 => ?_
  · subst x6
    refine Frame.when ?_ fun _ _ => ?_
    · assumption
    · refine Frame.step ?_ (State.raise_frame _ _ _ _ _ _) rfl
      refine Frame.step ?_ (State.count_frame _ _) rfl
      assumption
  clear_value x6
  extract_lets +onlyGivenNames x7
  refine Frame.local x7 ?_ fun h7 => ?_
  · subst x7
    refine Frame.when ?_ fun _ _ => ?_
    · assumption
    · refine Frame.step ?_ (State.count_frame _ _) rfl
      assumption
  clear_value x7
  extract_lets +onlyGivenNames x8
  refine Frame.local x8 ?_ fun h8 => ?_
  · subst x8
    refine Frame.step ?_ (State.keepRaw_frame _ _ _ _) rfl
    assumption
  clear_value x8
  refine Frame.when ?_ fun _ _ => ?_
  · refine Frame.step ?_ (State.chainFeed_frame _ _ _ _ _ _ _) rfl
    assumption
  · refine Frame.step ?_ (State.mainsSample_frame _ _ _ _) rfl
    assumption

theorem State.conversionEnd_frame (s : State) (a1 : ℕ) (a2 : ℤ) (a3 : Bool) (a4 : Crossing) (a5 : Bool) : Frame 0x2189 s (State.conversionEnd s a1 a2 a3 a4 a5) := by
  unfold State.conversionEnd
  extract_lets +onlyGivenNames x1
  clear_value x1
  refine Frame.ite (fun _ => ?_) fun _ => ?_
  · refine Frame.step ?_ (State.setConv_frame _ _ _) rfl
    exact Frame.refl _ _
  · split
    · exact Frame.refl _ _
    · extract_lets +onlyGivenNames x2
      refine Frame.local x2 ?_ fun h2 => ?_
      · subst x2
        refine Frame.step ?_ (State.convCross_frame _ _ _ _) rfl
        refine Frame.step ?_ (State.setConv_frame _ _ _) rfl
        exact Frame.refl _ _
      clear_value x2
      extract_lets +onlyGivenNames x3
      refine Frame.local x3 ?_ fun h3 => ?_
      · subst x3
        refine Frame.ite (fun _ => ?_) fun _ => ?_
        · refine Frame.step ?_ (State.injResult_frame _ _ _ _) rfl
          assumption
        · refine Frame.step ?_ (State.regularResult_frame _ _ _ _ _ _ _) rfl
          assumption
      clear_value x3
      refine Frame.ite (fun _ => ?_) fun _ => ?_
      · refine Frame.step ?_ (State.nextConversion_frame _ _) rfl
        assumption
      · refine Frame.step ?_ (State.convStop_frame _ _) rfl
        assumption

theorem execConversionEnd_frame (a0 : ℕ) (a1 : ℤ) (a2 : Bool) (a3 : Crossing) (a4 : Bool) (s : State) (t : State) (h : execConversionEnd a0 a1 a2 a3 a4 s = .next t) : Frame 0x2189 s t := by
  unfold execConversionEnd at h
  refine onEngines_frame h ?_
  refine Frame.step ?_ (State.conversionEnd_frame _ _ _ _ _ _) rfl
  exact Frame.refl _ _

theorem State.injTimer_frame (s : State) (a1 : ℕ) : Frame 0x2131c1 s (State.injTimer s a1) := by
  unfold State.injTimer
  extract_lets +onlyGivenNames x1
  clear_value x1
  extract_lets +onlyGivenNames x2
  clear_value x2
  extract_lets +onlyGivenNames x3
  clear_value x3
  refine Frame.ite (fun _ => ?_) fun _ => ?_
  · exact Frame.refl _ _
  · refine Frame.step ?_ (State.injTrigger_frame _ _ _) rfl
    refine Frame.step ?_ (State.setConv_frame _ _ _) rfl
    exact Frame.refl _ _

theorem execInjTimerTrigger_frame (a0 : ℕ) (s : State) (t : State) (h : execInjTimerTrigger a0 s = .next t) : Frame 0x2131c1 s t := by
  unfold execInjTimerTrigger at h
  refine onEngines_frame h ?_
  refine Frame.step ?_ (State.injTimer_frame _ _) rfl
  exact Frame.refl _ _

theorem execChainDeadlineMiss_frame (a0 : ℕ) (s : State) (t : State) (h : execChainDeadlineMiss a0 s = .next t) : Frame 0x2181 s t := by
  unfold execChainDeadlineMiss at h
  refine onEngines_frame h ?_
  refine Frame.step ?_ (State.chainLate_frame _ _) rfl
  exact Frame.refl _ _

theorem State.refReady_frame (s : State) : Frame 0x2001 s (State.refReady s) := by
  unfold State.refReady
  split
  · refine Frame.ite (fun _ => ?_) fun _ => ?_
    · extract_lets +onlyGivenNames x1
      refine Frame.local x1 ?_ fun h1 => ?_
      · subst x1
        refine Frame.step ?_ (State.put_frame _ _ _) rfl
        exact Frame.refl _ _
      clear_value x1
      extract_lets +onlyGivenNames x2
      refine Frame.local x2 ?_ fun h2 => ?_
      · subst x2
        refine Frame.foldl ?_ fun _ _ _ => ?_
        · assumption
        · refine Frame.step ?_ (State.convStart_frame _ _) rfl
          refine Frame.step ?_ (State.put_frame _ _ _) rfl
          assumption
      clear_value x2
      refine Frame.upd ?_ rfl
      assumption
    · exact Frame.refl _ _
  · exact Frame.refl _ _

theorem execRefReady_frame (s : State) (t : State) (h : execRefReady s = .next t) : Frame 0x2001 s t := by
  unfold execRefReady at h
  refine onCore_frame h ?_
  refine Frame.step ?_ (State.refReady_frame _) rfl
  exact Frame.refl _ _

end Sys2Proof.Machine
end

