-- ==== Sys2Proof/Laws/FramePhasor.lean ====
section
/-!
SUPPORT. What each operation of Machine/Phasor.lean can change: one lemma an operation, with the mask of the parts of the state it
may touch (the bits are listed in Laws/Frame.lean).
-/

set_option linter.unusedVariables false
set_option Elab.async false

namespace Sys2Proof.Machine

theorem State.fnChanged_frame (s : State) (a1 : ℕ) : Frame 0x8000 s (State.fnChanged s a1) := by
  unfold State.fnChanged
  refine Frame.step ?_ (State.setSlotLink_frame _ _ _) rfl
  exact Frame.refl _ _

theorem State.setFnLink_frame (s : State) (a1 : ℕ) (a2 : PhasorLink → PhasorLink) : Frame 0x10000 s (State.setFnLink s a1 a2) := by
  unfold State.setFnLink
  refine Frame.upd ?_ rfl
  exact Frame.refl _ _

theorem State.setHalfLink_frame (s : State) (a1 : ℕ) (a2 : ℕ) (a3 : HalfLink) : Frame 0x10000 s (State.setHalfLink s a1 a2 a3) := by
  unfold State.setHalfLink
  refine Frame.upd ?_ rfl
  exact Frame.refl _ _

theorem State.fnSwitched_frame (s : State) (a1 : ℕ) (a2 : Bool) : Frame 0x10001 s (State.fnSwitched s a1 a2) := by
  unfold State.fnSwitched
  extract_lets +onlyGivenNames x1
  clear_value x1
  extract_lets +onlyGivenNames x2
  refine Frame.local x2 ?_ fun h2 => ?_
  · subst x2
    refine Frame.step ?_ (State.setSlotState_frame _ _ _) rfl
    refine Frame.step ?_ (State.put_frame _ _ _) rfl
    exact Frame.refl _ _
  clear_value x2
  extract_lets +onlyGivenNames x3
  refine Frame.local x3 ?_ fun h3 => ?_
  · subst x3
    refine Frame.step ?_ (State.setFnLink_frame _ _ _) rfl
    assumption
  clear_value x3
  refine Frame.ite (fun _ => ?_) fun _ => ?_
  · refine Frame.foldl ?_ fun _ _ _ => ?_
    · assumption
    · refine Frame.step ?_ (State.setHalfLink_frame _ _ _ _) rfl
      assumption
  · assumption

theorem State.presetRestart_frame (s : State) (a1 : ℕ) : Frame 0x10000 s (State.presetRestart s a1) := by
  unfold State.presetRestart
  extract_lets +onlyGivenNames x1
  refine Frame.local x1 ?_ fun h1 => ?_
  · subst x1
    refine Frame.step ?_ (State.setChainView_frame _ _ _) rfl
    exact Frame.refl _ _
  clear_value x1
  refine Frame.forEach ?_ fun _ _ _ => ?_
  · assumption
  · refine Frame.forEach ?_ fun _ _ _ => ?_
    · assumption
    · refine Frame.ite (fun _ => ?_) fun _ => ?_
      · refine Frame.step ?_ (State.setHalfLink_frame _ _ _ _) rfl
        assumption
      · assumption

theorem phasorEffect_frame (a0 : ℕ) (a1 : List ℕ) (a2 : Word) (a3 : Word) (s : State) : Frame 0x18001 s (phasorEffect a0 a1 a2 a3 s) := by
  unfold phasorEffect
  extract_lets +onlyGivenNames x1
  split
  · simp only [x1]
    refine Frame.ite (fun _ => ?_) fun _ => ?_
    · refine Frame.when ?_ fun _ _ => ?_
      · refine Frame.step ?_ (State.put_frame _ _ _) rfl
        exact Frame.refl _ _
      · refine Frame.step ?_ (State.fnChanged_frame _ _) rfl
        assumption
    · refine Frame.step ?_ (State.fnSwitched_frame _ _ _) rfl
      refine Frame.when ?_ fun _ _ => ?_
      · refine Frame.step ?_ (State.put_frame _ _ _) rfl
        exact Frame.refl _ _
      · refine Frame.step ?_ (State.fnChanged_frame _ _) rfl
        assumption
  · simp only [x1]
    refine Frame.ite (fun _ => ?_) fun _ => ?_
    · refine Frame.when ?_ fun _ _ => ?_
      · refine Frame.step ?_ (State.put_frame _ _ _) rfl
        exact Frame.refl _ _
      · refine Frame.step ?_ (State.fnChanged_frame _ _) rfl
        assumption
    · refine Frame.step ?_ (State.fnSwitched_frame _ _ _) rfl
      refine Frame.when ?_ fun _ _ => ?_
      · refine Frame.step ?_ (State.put_frame _ _ _) rfl
        exact Frame.refl _ _
      · refine Frame.step ?_ (State.fnChanged_frame _ _) rfl
        assumption
  · refine Frame.when ?_ fun _ _ => ?_
    · exact Frame.refl _ _
    · refine Frame.step ?_ (State.fnChanged_frame _ _) rfl
      assumption
  · refine Frame.when ?_ fun _ _ => ?_
    · exact Frame.refl _ _
    · refine Frame.step ?_ (State.fnChanged_frame _ _) rfl
      assumption
  · refine Frame.step ?_ (State.put_frame _ _ _) rfl
    exact Frame.refl _ _
  · extract_lets +onlyGivenNames x2
    clear_value x2
    extract_lets +onlyGivenNames x3
    refine Frame.local x3 ?_ fun h3 => ?_
    · subst x3
      refine Frame.ite (fun _ => ?_) fun _ => ?_
      · exact Frame.refl _ _
      · refine Frame.step ?_ (State.presetRestart_frame _ _) rfl
        exact Frame.refl _ _
    clear_value x3
    refine Frame.ite (fun _ => ?_) fun _ => ?_
    · refine Frame.step ?_ (State.setChainView_frame _ _ _) rfl
      assumption
    · assumption
  · exact Frame.refl _ _

theorem State.estimateLate_frame (s : State) (a1 : ℕ) : Frame 0x10181 s (State.estimateLate s a1) := by
  unfold State.estimateLate
  extract_lets +onlyGivenNames x1
  clear_value x1
  refine Frame.ite (fun _ => ?_) fun _ => ?_
  · exact Frame.refl _ _
  · extract_lets +onlyGivenNames x2
    refine Frame.local x2 ?_ fun h2 => ?_
    · subst x2
      refine Frame.step ?_ (State.setFnLink_frame _ _ _) rfl
      exact Frame.refl _ _
    clear_value x2
    refine Frame.step ?_ (State.deviceMiss_frame _ _) rfl
    refine Frame.step ?_ (State.raise_frame _ _ _ _ _ _) rfl
    refine Frame.step ?_ (State.count_frame _ _) rfl
    assumption

theorem State.countFlags_frame (s : State) (a1 : ℕ) (a2 : ℕ) (a3 : Bool) : Frame 0x81 s (State.countFlags s a1 a2 a3) := by
  unfold State.countFlags
  extract_lets +onlyGivenNames x1
  refine Frame.local x1 ?_ fun h1 => ?_
  · subst x1
    refine Frame.when ?_ fun _ _ => ?_
    · exact Frame.refl _ _
    · refine Frame.step ?_ (State.count_frame _ _) rfl
      assumption
  clear_value x1
  extract_lets +onlyGivenNames x2
  refine Frame.local x2 ?_ fun h2 => ?_
  · subst x2
    refine Frame.when ?_ fun _ _ => ?_
    · assumption
    · refine Frame.step ?_ (State.count_frame _ _) rfl
      assumption
  clear_value x2
  extract_lets +onlyGivenNames x3
  refine Frame.local x3 ?_ fun h3 => ?_
  · subst x3
    refine Frame.when ?_ fun _ _ => ?_
    · assumption
    · refine Frame.step ?_ (State.count_frame _ _) rfl
      assumption
  clear_value x3
  extract_lets +onlyGivenNames x4
  refine Frame.local x4 ?_ fun h4 => ?_
  · subst x4
    refine Frame.when ?_ fun _ _ => ?_
    · assumption
    · refine Frame.step ?_ (State.count_frame _ _) rfl
      assumption
  clear_value x4
  extract_lets +onlyGivenNames x5
  refine Frame.local x5 ?_ fun h5 => ?_
  · subst x5
    refine Frame.when ?_ fun _ _ => ?_
    · assumption
    · refine Frame.step ?_ (State.count_frame _ _) rfl
      assumption
  clear_value x5
  refine Frame.when ?_ fun _ _ => ?_
  · assumption
  · refine Frame.step ?_ (State.count_frame _ _) rfl
    assumption

theorem State.fileEstimate_frame (s : State) (a1 : ℕ) (a2 : ℕ) (a3 : Estimate) : Frame 0xa08181 s (State.fileEstimate s a1 a2 a3) := by
  unfold State.fileEstimate
  extract_lets +onlyGivenNames x1
  clear_value x1
  extract_lets +onlyGivenNames x2
  refine Frame.local x2 ?_ fun h2 => ?_
  · subst x2
    refine Frame.step ?_ (State.digestItem_frame _ _ _ _ _) rfl
    exact Frame.refl _ _
  clear_value x2
  refine Frame.ite (fun _ => ?_) fun _ => ?_
  · assumption
  · extract_lets +onlyGivenNames x3
    clear_value x3
    split
    extract_lets +onlyGivenNames x4
    refine Frame.local x4 ?_ fun h4 => ?_
    · subst x4
      refine Frame.ite (fun _ => ?_) fun _ => ?_
      · refine Frame.step ?_ (State.openTo_frame _ _) rfl
        assumption
      · assumption
    clear_value x4
    refine Frame.step ?_ (State.takeBlock_frame _ _ _ _ _ _) rfl
    assumption

theorem State.showEstimate_frame (s : State) (a1 : ℕ) (a2 : ℕ) (a3 : ℕ) (a4 : ℕ) : Frame 0x181 s (State.showEstimate s a1 a2 a3 a4) := by
  unfold State.showEstimate
  refine Frame.ite (fun _ => ?_) fun _ => ?_
  · refine Frame.step ?_ (State.fire_frame _ _) rfl
    refine Frame.step ?_ (State.setWord_frame _ _ _) rfl
    refine Frame.step ?_ (State.setWord_frame _ _ _) rfl
    refine Frame.step ?_ (State.put_frame _ _ _) rfl
    exact Frame.refl _ _
  · refine Frame.step ?_ (State.setWord_frame _ _ _) rfl
    refine Frame.step ?_ (State.put_frame _ _ _) rfl
    exact Frame.refl _ _

theorem State.estimate_frame (s : State) (a1 : ℕ) : Frame 0xa18181 s (State.estimate s a1) := by
  unfold State.estimate
  extract_lets +onlyGivenNames x1
  clear_value x1
  refine Frame.ite (fun _ => ?_) fun _ => ?_
  · exact Frame.refl _ _
  · extract_lets +onlyGivenNames x2
    refine Frame.local x2 ?_ fun h2 => ?_
    · subst x2
      refine Frame.step ?_ (State.estimateLate_frame _ _) rfl
      exact Frame.refl _ _
    clear_value x2
    split
    extract_lets +onlyGivenNames x3
    clear_value x3
    extract_lets +onlyGivenNames x4
    clear_value x4
    extract_lets +onlyGivenNames x5
    clear_value x5
    extract_lets +onlyGivenNames x6
    clear_value x6
    extract_lets +onlyGivenNames x7
    refine Frame.local x7 ?_ fun h7 => ?_
    · subst x7
      refine Frame.step ?_ (State.countFlags_frame _ _ _ _) rfl
      assumption
    clear_value x7
    extract_lets +onlyGivenNames x8
    refine Frame.local x8 ?_ fun h8 => ?_
    · subst x8
      refine Frame.when ?_ fun _ _ => ?_
      · assumption
      · refine Frame.step ?_ (State.raise_frame _ _ _ _ _ _) rfl
        assumption
    clear_value x8
    extract_lets +onlyGivenNames x9
    refine Frame.local x9 ?_ fun h9 => ?_
    · subst x9
      refine Frame.step ?_ (State.deviceMet_frame _ _ _) rfl
      assumption
    clear_value x9
    extract_lets +onlyGivenNames x10
    refine Frame.local x10 ?_ fun h10 => ?_
    · subst x10
      refine Frame.step ?_ (State.setFnLink_frame _ _ _) rfl
      assumption
    clear_value x10
    refine Frame.step ?_ (State.fileEstimate_frame _ _ _ _) rfl
    refine Frame.step ?_ (State.showEstimate_frame _ _ _ _ _) rfl
    assumption

theorem State.phasorRestart_frame (s : State) (a1 : ℕ) : Frame 0x10000 s (State.phasorRestart s a1) := by
  unfold State.phasorRestart
  extract_lets +onlyGivenNames x1
  clear_value x1
  refine Frame.upd ?_ rfl
  exact Frame.refl _ _

theorem State.halfMissed_frame (s : State) (a1 : ℕ) (a2 : ℕ) (a3 : ℕ) : Frame 0x10181 s (State.halfMissed s a1 a2 a3) := by
  unfold State.halfMissed
  extract_lets +onlyGivenNames x1
  clear_value x1
  refine Frame.step ?_ (State.deviceMiss_frame _ _) rfl
  refine Frame.step ?_ (State.raise_frame _ _ _ _ _ _) rfl
  refine Frame.step ?_ (State.count_frame _ _) rfl
  refine Frame.step ?_ (State.setHalfLink_frame _ _ _ _) rfl
  exact Frame.refl _ _

theorem State.halfLate_frame (s : State) (a1 : ℕ) : Frame 0x10181 s (State.halfLate s a1) := by
  unfold State.halfLate
  refine Frame.forEach ?_ fun _ _ _ => ?_
  · exact Frame.refl _ _
  · split
    · refine Frame.step ?_ (State.halfMissed_frame _ _ _ _) rfl
      assumption
    · assumption

theorem execHalfCycleDeadlineMiss_frame (a0 : ℕ) (s : State) (t : State) (h : execHalfCycleDeadlineMiss a0 s = .next t) : Frame 0x10181 s t := by
  unfold execHalfCycleDeadlineMiss at h
  refine onEngines_frame h ?_
  refine Frame.step ?_ (State.halfLate_frame _ _) rfl
  exact Frame.refl _ _

theorem State.halfEstimate_frame (s : State) (a1 : ℕ) (a2 : ℕ) : Frame 0x10181 s (State.halfEstimate s a1 a2) := by
  unfold State.halfEstimate
  extract_lets +onlyGivenNames x1
  clear_value x1
  extract_lets +onlyGivenNames x2
  clear_value x2
  extract_lets +onlyGivenNames x3
  clear_value x3
  refine Frame.ite (fun _ => ?_) fun _ => ?_
  · exact Frame.refl _ _
  · extract_lets +onlyGivenNames x4
    refine Frame.local x4 ?_ fun h4 => ?_
    · subst x4
      split
      · refine Frame.step ?_ (State.halfMissed_frame _ _ _ _) rfl
        exact Frame.refl _ _
      · exact Frame.refl _ _
    clear_value x4
    extract_lets +onlyGivenNames x5
    clear_value x5
    extract_lets +onlyGivenNames x6
    refine Frame.local x6 ?_ fun h6 => ?_
    · subst x6
      refine Frame.step ?_ (State.deviceMet_frame _ _ _) rfl
      assumption
    clear_value x6
    split
    extract_lets +onlyGivenNames x7
    clear_value x7
    extract_lets +onlyGivenNames x8
    clear_value x8
    extract_lets +onlyGivenNames x9
    clear_value x9
    extract_lets +onlyGivenNames x10
    clear_value x10
    extract_lets +onlyGivenNames x11
    clear_value x11
    extract_lets +onlyGivenNames x12
    refine Frame.local x12 ?_ fun h12 => ?_
    · subst x12
      refine Frame.when ?_ fun _ _ => ?_
      · assumption
      · refine Frame.step ?_ (State.count_frame _ _) rfl
        assumption
    clear_value x12
    extract_lets +onlyGivenNames x13
    clear_value x13
    extract_lets +onlyGivenNames x14
    clear_value x14
    refine Frame.step ?_ (State.setHalfLink_frame _ _ _ _) rfl
    assumption

theorem execHalfWindow_frame (a0 : ℕ) (a1 : ℕ) (s : State) (t : State) (h : execHalfWindow a0 a1 s = .next t) : Frame 0x10181 s t := by
  unfold execHalfWindow at h
  refine onEngines_frame h ?_
  refine Frame.step ?_ (State.halfEstimate_frame _ _ _) rfl
  exact Frame.refl _ _

theorem execPmuDeadlineMiss_frame (a0 : ℕ) (s : State) (t : State) (h : execPmuDeadlineMiss a0 s = .next t) : Frame 0x10181 s t := by
  unfold execPmuDeadlineMiss at h
  refine onEngines_frame h ?_
  refine Frame.step ?_ (State.estimateLate_frame _ _) rfl
  exact Frame.refl _ _

end Sys2Proof.Machine
end

