-- ==== Sys2Proof/Laws/FrameStreams.lean ====
section
/-!
SUPPORT. What each operation of Machine/Streams.lean can change: one lemma an operation, with the mask of the parts of the state it
may touch (the bits are listed in Laws/Frame.lean).
-/

set_option linter.unusedVariables false
set_option Elab.async false

namespace Sys2Proof.Machine

theorem State.setStreamLink_frame (s : State) (a1 : ℕ) (a2 : StreamLink → StreamLink) : Frame 0x20000 s (State.setStreamLink s a1 a2) := by
  unfold State.setStreamLink
  refine Frame.upd ?_ rfl
  exact Frame.refl _ _

theorem State.osChanged_frame (s : State) (a1 : ℕ) : Frame 0x20000 s (State.osChanged s a1) := by
  unfold State.osChanged
  refine Frame.step ?_ (State.setStreamLink_frame _ _ _) rfl
  exact Frame.refl _ _

theorem State.routed_frame (s : State) (a1 : ℕ) : Frame 0x1000001 s (State.routed s a1).2 := by
  unfold State.routed
  refine Frame.iteSnd (fun _ => ?_) fun _ => ?_
  · dsimp -zeta only
    exact Frame.refl _ _
  · extract_lets +onlyGivenNames x1
    clear_value x1
    extract_lets +onlyGivenNames x2
    clear_value x2
    extract_lets +onlyGivenNames x3
    clear_value x3
    dsimp -zeta only
    refine Frame.step ?_ (State.put_frame _ _ _) rfl
    refine Frame.when ?_ fun _ _ => ?_
    · exact Frame.refl _ _
    · refine Frame.step ?_ (State.draw_frame _) rfl
      assumption

theorem State.osPut_frame (s : State) (a1 : ℕ) (a2 : FrameKind) (a3 : List Byte) (a4 : Bool) : Frame 0x20200a1 s (State.osPut s a1 a2 a3 a4) := by
  unfold State.osPut
  extract_lets +onlyGivenNames x1
  clear_value x1
  extract_lets +onlyGivenNames x2
  clear_value x2
  extract_lets +onlyGivenNames x3
  clear_value x3
  extract_lets +onlyGivenNames x4
  refine Frame.local x4 ?_ fun h4 => ?_
  · subst x4
    refine Frame.ite (fun _ => ?_) fun _ => ?_
    · refine Frame.step ?_ (State.emit_frame _ _) rfl
      exact Frame.refl _ _
    · refine Frame.step ?_ (State.emit_frame _ _) rfl
      exact Frame.refl _ _
  clear_value x4
  refine Frame.ite (fun _ => ?_) fun _ => ?_
  · extract_lets +onlyGivenNames x5
    refine Frame.local x5 ?_ fun h5 => ?_
    · subst x5
      refine Frame.step ?_ (State.setStreamLink_frame _ _ _) rfl
      assumption
    clear_value x5
    extract_lets +onlyGivenNames x6
    clear_value x6
    extract_lets +onlyGivenNames x7
    clear_value x7
    refine Frame.foldl ?_ fun _ _ _ => ?_
    · assumption
    · extract_lets +onlyGivenNames x8
      clear_value x8
      refine Frame.step ?_ (State.txSend_frame _ _ _ _) rfl
      assumption
  · refine Frame.step ?_ (State.txSend_frame _ _ _ _) rfl
    assumption

theorem State.osUdp_frame (s : State) (a1 : ℕ) (a2 : FrameKind) (a3 : List Byte) : Frame 0x30200a1 s (State.osUdp s a1 a2 a3).2 := by
  unfold State.osUdp
  split
  refine Frame.iteSnd (fun _ => ?_) fun _ => ?_
  · dsimp -zeta only
    refine Frame.step ?_ (State.osPut_frame _ _ _ _ _) rfl
    refine Frame.step ?_ (Frame.ofSnd ‹State.routed _ _ = _› (State.routed_frame _ _)) rfl
    exact Frame.refl _ _
  · dsimp -zeta only
    refine Frame.step ?_ (State.count_frame _ _) rfl
    refine Frame.step ?_ (Frame.ofSnd ‹State.routed _ _ = _› (State.routed_frame _ _)) rfl
    exact Frame.refl _ _

theorem State.cfg2Send_frame (s : State) (a1 : ℕ) : Frame 0x30200a1 s (State.cfg2Send s a1) := by
  unfold State.cfg2Send
  extract_lets +onlyGivenNames x1
  refine Frame.local x1 ?_ fun h1 => ?_
  · subst x1
    refine Frame.ite (fun _ => ?_) fun _ => ?_
    · refine Frame.step ?_ (State.osUdp_frame _ _ _ _) rfl
      exact Frame.refl _ _
    · exact Frame.refl _ _
  clear_value x1
  extract_lets +onlyGivenNames x2
  clear_value x2
  refine Frame.step ?_ (State.setStreamLink_frame _ _ _) rfl
  assumption

theorem State.osStart_frame (s : State) (a1 : ℕ) : Frame 0x30200a1 s (State.osStart s a1) := by
  unfold State.osStart
  extract_lets +onlyGivenNames x1
  refine Frame.local x1 ?_ fun h1 => ?_
  · subst x1
    refine Frame.step ?_ (State.setStreamLink_frame _ _ _) rfl
    refine Frame.step ?_ (State.put_frame _ _ _) rfl
    exact Frame.refl _ _
  clear_value x1
  refine Frame.ite (fun _ => ?_) fun _ => ?_
  · refine Frame.step ?_ (State.cfg2Send_frame _ _) rfl
    refine Frame.step ?_ (State.put_frame _ _ _) rfl
    assumption
  · refine Frame.step ?_ (State.put_frame _ _ _) rfl
    assumption

theorem State.tcpGone_frame (s : State) (a1 : ℕ) : Frame 0x20001 s (State.tcpGone s a1) := by
  unfold State.tcpGone
  refine Frame.ite (fun _ => ?_) fun _ => ?_
  · exact Frame.refl _ _
  · extract_lets +onlyGivenNames x1
    refine Frame.local x1 ?_ fun h1 => ?_
    · subst x1
      refine Frame.step ?_ (State.setStreamLink_frame _ _ _) rfl
      refine Frame.step ?_ (State.put_frame _ _ _) rfl
      exact Frame.refl _ _
    clear_value x1
    refine Frame.ite (fun _ => ?_) fun _ => ?_
    · refine Frame.step ?_ (State.put_frame _ _ _) rfl
      assumption
    · assumption

theorem State.osStop_frame (s : State) (a1 : ℕ) : Frame 0x2020001 s (State.osStop s a1) := by
  unfold State.osStop
  extract_lets +onlyGivenNames x1
  refine Frame.local x1 ?_ fun h1 => ?_
  · subst x1
    refine Frame.ite (fun _ => ?_) fun _ => ?_
    · refine Frame.step ?_ (State.emit_frame _ _) rfl
      exact Frame.refl _ _
    · exact Frame.refl _ _
  clear_value x1
  extract_lets +onlyGivenNames x2
  clear_value x2
  extract_lets +onlyGivenNames x3
  refine Frame.local x3 ?_ fun h3 => ?_
  · subst x3
    refine Frame.upd ?_ rfl
    assumption
  clear_value x3
  refine Frame.step ?_ (State.setStreamLink_frame _ _ _) rfl
  refine Frame.step ?_ (State.put_frame _ _ _) rfl
  refine Frame.step ?_ (State.tcpGone_frame _ _) rfl
  assumption

theorem streamEffect_frame (a0 : ℕ) (a1 : List ℕ) (a2 : Word) (a3 : Word) (s : State) : Frame 0x30200a1 s (streamEffect a0 a1 a2 a3 s) := by
  unfold streamEffect
  split
  · extract_lets +onlyGivenNames x1
    refine Frame.local x1 ?_ fun h1 => ?_
    · subst x1
      refine Frame.when ?_ fun _ _ => ?_
      · refine Frame.step ?_ (State.osInfo_frame _ _) rfl
        exact Frame.refl _ _
      · refine Frame.step ?_ (State.osChanged_frame _ _) rfl
        assumption
    clear_value x1
    refine Frame.ite (fun _ => ?_) fun _ => ?_
    · refine Frame.step ?_ (State.osStart_frame _ _) rfl
      assumption
    · refine Frame.ite (fun _ => ?_) fun _ => ?_
      · refine Frame.step ?_ (State.osStop_frame _ _) rfl
        assumption
      · assumption
  · refine Frame.step ?_ (State.osInfos_frame _ _) rfl
    exact Frame.refl _ _
  · refine Frame.step ?_ (State.osInfos_frame _ _) rfl
    exact Frame.refl _ _
  · refine Frame.step ?_ (State.osInfos_frame _ _) rfl
    exact Frame.refl _ _
  · refine Frame.step ?_ (State.osChanged_frame _ _) rfl
    exact Frame.refl _ _
  · refine Frame.step ?_ (State.osChanged_frame _ _) rfl
    exact Frame.refl _ _
  · refine Frame.step ?_ (State.osChanged_frame _ _) rfl
    exact Frame.refl _ _
  · refine Frame.step ?_ (State.osChanged_frame _ _) rfl
    exact Frame.refl _ _
  · refine Frame.step ?_ (State.osChanged_frame _ _) rfl
    exact Frame.refl _ _
  · exact Frame.refl _ _

theorem State.osTcpData_frame (s : State) (a1 : ℕ) (a2 : List Byte) : Frame 0x30201a1 s (State.osTcpData s a1 a2).2 := by
  unfold State.osTcpData
  extract_lets +onlyGivenNames x1
  clear_value x1
  extract_lets +onlyGivenNames x2
  clear_value x2
  extract_lets +onlyGivenNames x3
  refine Frame.local x3 ?_ fun h3 => ?_
  · subst x3
    refine Frame.when ?_ fun _ _ => ?_
    · exact Frame.refl _ _
    · refine Frame.step ?_ (State.draw_frame _) rfl
      assumption
  clear_value x3
  refine Frame.iteSnd (fun _ => ?_) fun _ => ?_
  · dsimp -zeta only
    refine Frame.step ?_ (State.raise_frame _ _ _ _ _ _) rfl
    refine Frame.step ?_ (State.count_frame _ _) rfl
    refine Frame.step ?_ (State.setStreamLink_frame _ _ _) rfl
    assumption
  · dsimp -zeta only
    refine Frame.step ?_ (State.osPut_frame _ _ _ _ _) rfl
    refine Frame.step ?_ (State.setStreamLink_frame _ _ _) rfl
    assumption

theorem State.resumeSeq_frame (s : State) (a1 : ℕ) (a2 : ℕ) : Frame 0x20001 s (State.resumeSeq s a1 a2) := by
  unfold State.resumeSeq
  split
  · exact Frame.refl _ _
  · extract_lets +onlyGivenNames x1
    clear_value x1
    refine Frame.step ?_ (State.setWord_frame _ _ _) rfl
    refine Frame.step ?_ (State.setStreamLink_frame _ _ _) rfl
    exact Frame.refl _ _

theorem State.osData_frame (s : State) (a1 : ℕ) (a2 : ℕ) (a3 : Bool) : Frame 0x32201a1 s (State.osData s a1 a2 a3) := by
  unfold State.osData
  split
  extract_lets +onlyGivenNames x1
  refine Frame.local x1 ?_ fun h1 => ?_
  · subst x1
    refine Frame.step ?_ (State.cellErrors_frame _ _ _) rfl
    exact Frame.refl _ _
  clear_value x1
  extract_lets +onlyGivenNames x2
  refine Frame.local x2 ?_ fun h2 => ?_
  · subst x2
    refine Frame.step ?_ (State.digestItem_frame _ _ _ _ _) rfl
    refine Frame.step ?_ (State.countN_frame _ _ _) rfl
    assumption
  clear_value x2
  refine Frame.ite (fun _ => ?_) fun _ => ?_
  · refine Frame.step ?_ (State.bump_frame _ _) rfl
    assumption
  · split
    refine Frame.ite (fun _ => ?_) fun _ => ?_
    · refine Frame.step ?_ (State.bump_frame _ _) rfl
      refine Frame.step ?_ (State.resumeSeq_frame _ _ _) rfl
      refine Frame.ofSnd (by assumption) ?_
      refine Frame.iteSnd (fun _ => ?_) fun _ => ?_
      · refine Frame.step ?_ (State.osTcpData_frame _ _ _) rfl
        assumption
      · refine Frame.step ?_ (State.osUdp_frame _ _ _ _) rfl
        assumption
    · refine Frame.ofSnd (by assumption) ?_
      refine Frame.iteSnd (fun _ => ?_) fun _ => ?_
      · refine Frame.step ?_ (State.osTcpData_frame _ _ _) rfl
        assumption
      · refine Frame.step ?_ (State.osUdp_frame _ _ _ _) rfl
        assumption

theorem State.osSend_frame (s : State) : Frame 0x32201a1 s (State.osSend s) := by
  unfold State.osSend
  refine Frame.foldl ?_ fun _ _ _ => ?_
  · refine Frame.upd ?_ rfl
    exact Frame.refl _ _
  · refine Frame.step ?_ (State.deviceMet_frame _ _ _) rfl
    refine Frame.step ?_ (State.osData_frame _ _ _ _) rfl
    assumption

theorem State.osFrames_frame (s : State) (a1 : ℕ) (a2 : Bool) : Frame 0x20000 s (State.osFrames s a1 a2) := by
  unfold State.osFrames
  extract_lets +onlyGivenNames x1
  clear_value x1
  refine Frame.upd ?_ rfl
  exact Frame.refl _ _

theorem State.closeAndSend_frame (s : State) (a1 : OpenBucket) : Frame 0x2a68381 s (State.closeAndSend s a1) := by
  unfold State.closeAndSend
  refine Frame.step ?_ (State.osFrames_frame _ _ _) rfl
  refine Frame.step ?_ (State.closeBucket_frame _ _) rfl
  exact Frame.refl _ _

theorem State.tcpDropAll_frame (s : State) (a1 : Bool) : Frame 0x2020001 s (State.tcpDropAll s a1) := by
  unfold State.tcpDropAll
  refine Frame.forEach ?_ fun _ _ _ => ?_
  · refine Frame.upd ?_ rfl
    exact Frame.refl _ _
  · extract_lets +onlyGivenNames x1
    refine Frame.local x1 ?_ fun h1 => ?_
    · subst x1
      refine Frame.ite (fun _ => ?_) fun _ => ?_
      · refine Frame.step ?_ (State.emit_frame _ _) rfl
        assumption
      · assumption
    clear_value x1
    extract_lets +onlyGivenNames x2
    refine Frame.local x2 ?_ fun h2 => ?_
    · subst x2
      refine Frame.step ?_ (State.tcpGone_frame _ _) rfl
      assumption
    clear_value x2
    refine Frame.ite (fun _ => ?_) fun _ => ?_
    · refine Frame.step ?_ (State.put_frame _ _ _) rfl
      assumption
    · assumption

theorem State.closeComplete_frame (a0 : ℕ) (s : State) : Frame 0x2a68381 s (State.closeComplete a0 s) := by
  induction' a0 with n ih generalizing s
  · unfold State.closeComplete
    exact Frame.refl _ _
  · unfold State.closeComplete
    split
    · refine Frame.ite (fun _ => ?_) fun _ => ?_
      · refine Frame.step ?_ (ih _) rfl
        refine Frame.step ?_ (State.closeAndSend_frame _ _) rfl
        exact Frame.refl _ _
      · exact Frame.refl _ _
    · exact Frame.refl _ _

theorem execPhasorEstimate_frame (a0 : ℕ) (s : State) (t : State) (h : execPhasorEstimate a0 s = .next t) : Frame 0x2a78381 s t := by
  unfold execPhasorEstimate at h
  refine onEngines_frame h ?_
  refine Frame.step ?_ (State.closeComplete_frame _ _) rfl
  refine Frame.step ?_ (State.estimate_frame _ _) rfl
  exact Frame.refl _ _

theorem State.osLate_frame (s : State) (a1 : ℕ) : Frame 0x20181 s (State.osLate s a1) := by
  unfold State.osLate
  refine Frame.ite (fun _ => ?_) fun _ => ?_
  · extract_lets +onlyGivenNames x1
    clear_value x1
    extract_lets +onlyGivenNames x2
    refine Frame.local x2 ?_ fun h2 => ?_
    · subst x2
      refine Frame.upd ?_ rfl
      exact Frame.refl _ _
    clear_value x2
    refine Frame.step ?_ (State.deviceMiss_frame _ _) rfl
    refine Frame.step ?_ (State.raise_frame _ _ _ _ _ _) rfl
    refine Frame.step ?_ (State.count_frame _ _) rfl
    assumption
  · exact Frame.refl _ _

theorem execOsDeadlineMiss_frame (a0 : ℕ) (s : State) (t : State) (h : execOsDeadlineMiss a0 s = .next t) : Frame 0x20181 s t := by
  unfold execOsDeadlineMiss at h
  refine onEngines_frame h ?_
  refine Frame.step ?_ (State.osLate_frame _ _) rfl
  exact Frame.refl _ _

theorem State.osCommand_frame (s : State) (a1 : ℕ) (a2 : OsCommand) (a3 : ℕ) : Frame 0x20201a1 s (State.osCommand s a1 a2 a3) := by
  unfold State.osCommand
  refine Frame.ite (fun _ => ?_) fun _ => ?_
  · exact Frame.refl _ _
  · extract_lets +onlyGivenNames x1
    refine Frame.local x1 ?_ fun h1 => ?_
    · subst x1
      refine Frame.step ?_ (State.setStreamLink_frame _ _ _) rfl
      exact Frame.refl _ _
    clear_value x1
    refine Frame.ite (fun _ => ?_) fun _ => ?_
    · refine Frame.step ?_ (State.count_frame _ _) rfl
      assumption
    · extract_lets +onlyGivenNames x2
      refine Frame.local x2 ?_ fun h2 => ?_
      · subst x2
        refine Frame.step ?_ (State.raise_frame _ _ _ _ _ _) rfl
        refine Frame.step ?_ (State.count_frame _ _) rfl
        assumption
      clear_value x2
      refine Frame.ite (fun _ => ?_) fun _ => ?_
      · refine Frame.step ?_ (State.put_frame _ _ _) rfl
        assumption
      · refine Frame.ite (fun _ => ?_) fun _ => ?_
        · refine Frame.step ?_ (State.put_frame _ _ _) rfl
          assumption
        · refine Frame.ite (fun _ => ?_) fun _ => ?_
          · refine Frame.step ?_ (State.osPut_frame _ _ _ _ _) rfl
            assumption
          · refine Frame.step ?_ (State.osPut_frame _ _ _ _ _) rfl
            assumption

theorem execOsCmdDataOff_frame (a0 : ℕ) (a1 : OsCommand) (s : State) (t : State) (h : execOsCmdDataOff a0 a1 s = .next t) : Frame 0x20201a1 s t := by
  unfold execOsCmdDataOff at h
  refine onEngines_frame h ?_
  refine Frame.step ?_ (State.osCommand_frame _ _ _ _) rfl
  exact Frame.refl _ _

theorem execOsCmdDataOn_frame (a0 : ℕ) (a1 : OsCommand) (s : State) (t : State) (h : execOsCmdDataOn a0 a1 s = .next t) : Frame 0x20201a1 s t := by
  unfold execOsCmdDataOn at h
  refine onEngines_frame h ?_
  refine Frame.step ?_ (State.osCommand_frame _ _ _ _) rfl
  exact Frame.refl _ _

theorem execOsCmdHeader_frame (a0 : ℕ) (a1 : OsCommand) (s : State) (t : State) (h : execOsCmdHeader a0 a1 s = .next t) : Frame 0x20201a1 s t := by
  unfold execOsCmdHeader at h
  refine onEngines_frame h ?_
  refine Frame.step ?_ (State.osCommand_frame _ _ _ _) rfl
  exact Frame.refl _ _

theorem execOsCmdCfg1_frame (a0 : ℕ) (a1 : OsCommand) (s : State) (t : State) (h : execOsCmdCfg1 a0 a1 s = .next t) : Frame 0x20201a1 s t := by
  unfold execOsCmdCfg1 at h
  refine onEngines_frame h ?_
  refine Frame.step ?_ (State.osCommand_frame _ _ _ _) rfl
  exact Frame.refl _ _

theorem execOsCmdCfg2_frame (a0 : ℕ) (a1 : OsCommand) (s : State) (t : State) (h : execOsCmdCfg2 a0 a1 s = .next t) : Frame 0x20201a1 s t := by
  unfold execOsCmdCfg2 at h
  refine onEngines_frame h ?_
  refine Frame.step ?_ (State.osCommand_frame _ _ _ _) rfl
  exact Frame.refl _ _

theorem execOsCmdCfg3_frame (a0 : ℕ) (a1 : OsCommand) (s : State) (t : State) (h : execOsCmdCfg3 a0 a1 s = .next t) : Frame 0x20201a1 s t := by
  unfold execOsCmdCfg3 at h
  refine onEngines_frame h ?_
  refine Frame.step ?_ (State.osCommand_frame _ _ _ _) rfl
  exact Frame.refl _ _

theorem execOsCmdReject_frame (a0 : ℕ) (a1 : OsCommand) (a2 : ℕ) (s : State) (t : State) (h : execOsCmdReject a0 a1 a2 s = .next t) : Frame 0x20201a1 s t := by
  unfold execOsCmdReject at h
  refine onEngines_frame h ?_
  refine Frame.step ?_ (State.osCommand_frame _ _ _ _) rfl
  exact Frame.refl _ _

theorem State.tcpConnect_frame (s : State) (a1 : ℕ) (a2 : ℕ) : Frame 0x2020001 s (State.tcpConnect s a1 a2) := by
  unfold State.tcpConnect
  refine Frame.ite (fun _ => ?_) fun _ => ?_
  · exact Frame.refl _ _
  · refine Frame.ite (fun _ => ?_) fun _ => ?_
    · refine Frame.step ?_ (State.emit_frame _ _) rfl
      exact Frame.refl _ _
    · refine Frame.step ?_ (State.setStreamLink_frame _ _ _) rfl
      refine Frame.step ?_ (State.put_frame _ _ _) rfl
      exact Frame.refl _ _

theorem execOsConnect_frame (a0 : ℕ) (a1 : ℕ) (s : State) (t : State) (h : execOsConnect a0 a1 s = .next t) : Frame 0x2020001 s t := by
  unfold execOsConnect at h
  refine onEngines_frame h ?_
  refine Frame.step ?_ (State.tcpConnect_frame _ _ _) rfl
  exact Frame.refl _ _

theorem execOsTcpClose_frame (a0 : ℕ) (s : State) (t : State) (h : execOsTcpClose a0 s = .next t) : Frame 0x20001 s t := by
  unfold execOsTcpClose at h
  refine onEngines_frame h ?_
  refine Frame.step ?_ (State.tcpGone_frame _ _) rfl
  exact Frame.refl _ _

theorem State.tcpKeepalive_frame (s : State) (a1 : ℕ) (a2 : Bool) : Frame 0x2020001 s (State.tcpKeepalive s a1 a2) := by
  unfold State.tcpKeepalive
  extract_lets +onlyGivenNames x1
  clear_value x1
  refine Frame.ite (fun _ => ?_) fun _ => ?_
  · exact Frame.refl _ _
  · refine Frame.ite (fun _ => ?_) fun _ => ?_
    · refine Frame.step ?_ (State.tcpGone_frame _ _) rfl
      refine Frame.step ?_ (State.emit_frame _ _) rfl
      exact Frame.refl _ _
    · extract_lets +onlyGivenNames x2
      refine Frame.local x2 ?_ fun h2 => ?_
      · subst x2
        refine Frame.step ?_ (State.emit_frame _ _) rfl
        exact Frame.refl _ _
      clear_value x2
      refine Frame.step ?_ (State.setStreamLink_frame _ _ _) rfl
      assumption

theorem execOsTcpKeepalive_frame (a0 : ℕ) (a1 : Bool) (s : State) (t : State) (h : execOsTcpKeepalive a0 a1 s = .next t) : Frame 0x2020001 s t := by
  unfold execOsTcpKeepalive at h
  refine onEngines_frame h ?_
  refine Frame.step ?_ (State.tcpKeepalive_frame _ _ _) rfl
  exact Frame.refl _ _

theorem execOsCfg2Repeat_frame (a0 : ℕ) (s : State) (t : State) (h : execOsCfg2Repeat a0 s = .next t) : Frame 0x30200a1 s t := by
  unfold execOsCfg2Repeat at h
  refine onEngines_frame h ?_
  split
  · refine Frame.ite (fun _ => ?_) fun _ => ?_
    · refine Frame.step ?_ (State.cfg2Send_frame _ _) rfl
      exact Frame.refl _ _
    · exact Frame.refl _ _
  · exact Frame.refl _ _

theorem execAlignFrameRx_frame (a0 : C37Frame) (s : State) (t : State) (h : execAlignFrameRx a0 s = .next t) : Frame 0x2a68381 s t := by
  unfold execAlignFrameRx at h
  refine onEngines_frame h ?_
  refine Frame.step ?_ (State.closeComplete_frame _ _) rfl
  refine Frame.step ?_ (State.alignFrame_frame _ _) rfl
  exact Frame.refl _ _

theorem execBucketClose_frame (a0 : ℕ) (s : State) (t : State) (h : execBucketClose a0 s = .next t) : Frame 0x2a68381 s t := by
  unfold execBucketClose at h
  refine onEngines_frame h ?_
  refine Frame.ite (fun _ => ?_) fun _ => ?_
  · exact Frame.refl _ _
  · split
    · refine Frame.step ?_ (State.closeComplete_frame _ _) rfl
      refine Frame.step ?_ (State.closeAndSend_frame _ _) rfl
      exact Frame.refl _ _
    · exact Frame.refl _ _

theorem execBucketOpen_frame (s : State) (t : State) (h : execBucketOpen s = .next t) : Frame 0x2a68381 s t := by
  unfold execBucketOpen at h
  refine onEngines_frame h ?_
  refine Frame.ite (fun _ => ?_) fun _ => ?_
  · refine Frame.step ?_ (State.closeComplete_frame _ _) rfl
    refine Frame.step ?_ (State.openBucket_frame _ _) rfl
    exact Frame.refl _ _
  · exact Frame.refl _ _

end Sys2Proof.Machine
end

