-- ==== Sys2Proof/Laws/FrameOscillation.lean ====
section
/-!
SUPPORT. What each operation of Machine/Oscillation.lean can change: one lemma an operation, with the mask of the parts of the state it
may touch (the bits are listed in Laws/Frame.lean).
-/

set_option linter.unusedVariables false
set_option Elab.async false

namespace Sys2Proof.Machine

theorem State.setOw_frame (s : State) (a1 : ℕ) (a2 : OwWatcher → OwWatcher) : Frame 0x40000 s (State.setOw s a1 a2) := by
  unfold State.setOw
  refine Frame.upd ?_ rfl
  exact Frame.refl _ _

theorem State.owState_frame (s : State) (a1 : ℕ) : Frame 0x1 s (State.owState s a1) := by
  unfold State.owState
  refine Frame.step ?_ (State.put_frame _ _ _) rfl
  exact Frame.refl _ _

theorem State.owRestart_frame (s : State) (a1 : ℕ) : Frame 0x40081 s (State.owRestart s a1) := by
  unfold State.owRestart
  extract_lets +onlyGivenNames x1
  refine Frame.local x1 ?_ fun h1 => ?_
  · subst x1
    refine Frame.step ?_ (State.setOw_frame _ _ _) rfl
    exact Frame.refl _ _
  clear_value x1
  refine Frame.step ?_ (State.owState_frame _ _) rfl
  refine Frame.step ?_ (State.count_frame _ _) rfl
  assumption

theorem State.owClean_frame (s : State) (a1 : ℕ) : Frame 0x40001 s (State.owClean s a1) := by
  unfold State.owClean
  refine Frame.step ?_ (State.owState_frame _ _) rfl
  refine Frame.step ?_ (State.setOw_frame _ _ _) rfl
  refine Frame.step ?_ (State.put_frame _ _ _) rfl
  exact Frame.refl _ _

theorem State.owWarm_frame (s : State) : Frame 0x40081 s (State.owWarm s) := by
  unfold State.owWarm
  refine Frame.forEach ?_ fun _ _ _ => ?_
  · exact Frame.refl _ _
  · refine Frame.ite (fun _ => ?_) fun _ => ?_
    · refine Frame.step ?_ (State.owRestart_frame _ _) rfl
      refine Frame.step ?_ (State.owClean_frame _ _) rfl
      assumption
    · assumption

theorem State.owStart_frame (s : State) (a1 : ℕ) : Frame 0x241081 s (State.owStart s a1) := by
  unfold State.owStart
  extract_lets +onlyGivenNames x1
  refine Frame.local x1 ?_ fun h1 => ?_
  · subst x1
    refine Frame.step ?_ (State.owClean_frame _ _) rfl
    exact Frame.refl _ _
  clear_value x1
  extract_lets +onlyGivenNames x2
  refine Frame.local x2 ?_ fun h2 => ?_
  · subst x2
    refine Frame.ite (fun _ => ?_) fun _ => ?_
    · assumption
    · refine Frame.step ?_ (State.owRestart_frame _ _) rfl
      assumption
  clear_value x2
  refine Frame.step ?_ (State.setConds_frame _ _ _ _) rfl
  assumption

theorem State.owStop_frame (s : State) (a1 : ℕ) : Frame 0x241001 s (State.owStop s a1) := by
  unfold State.owStop
  extract_lets +onlyGivenNames x1
  refine Frame.local x1 ?_ fun h1 => ?_
  · subst x1
    refine Frame.step ?_ (State.owClean_frame _ _) rfl
    refine Frame.step ?_ (State.setWord_frame _ _ _) rfl
    exact Frame.refl _ _
  clear_value x1
  refine Frame.step ?_ (State.setConds_frame _ _ _ _) rfl
  assumption

theorem oscillationEffect_frame (a0 : ℕ) (a1 : List ℕ) (a2 : Word) (a3 : Word) (s : State) : Frame 0x241081 s (oscillationEffect a0 a1 a2 a3 s) := by
  unfold oscillationEffect
  split
  · extract_lets +onlyGivenNames x1
    clear_value x1
    extract_lets +onlyGivenNames x2
    refine Frame.local x2 ?_ fun h2 => ?_
    · subst x2
      refine Frame.ite (fun _ => ?_) fun _ => ?_
      · exact Frame.refl _ _
      · refine Frame.step ?_ (State.setWord_frame _ _ _) rfl
        exact Frame.refl _ _
    clear_value x2
    extract_lets +onlyGivenNames x3
    refine Frame.local x3 ?_ fun h3 => ?_
    · subst x3
      refine Frame.step ?_ (State.put_frame _ _ _) rfl
      assumption
    clear_value x3
    refine Frame.ite (fun _ => ?_) fun _ => ?_
    · refine Frame.step ?_ (State.owStart_frame _ _) rfl
      assumption
    · refine Frame.ite (fun _ => ?_) fun _ => ?_
      · refine Frame.step ?_ (State.owStop_frame _ _) rfl
        assumption
      · assumption
  · refine Frame.upd ?_ rfl
    exact Frame.refl _ _
  · exact Frame.refl _ _

theorem State.closeMet_frame (s : State) (a1 : ℕ) (a2 : ℕ) (a3 : ℕ) : Frame 0x1 s (State.closeMet s a1 a2 a3) := by
  unfold State.closeMet
  refine Frame.step ?_ (State.deviceMet_frame _ _ _) rfl
  exact Frame.refl _ _

theorem State.bucketConds_frame (s : State) (a1 : List (ℕ × Bool)) (a2 : ℕ) : Frame 0x201000 s (State.bucketConds s a1 a2) := by
  unfold State.bucketConds
  extract_lets +onlyGivenNames x1
  clear_value x1
  refine Frame.ite (fun _ => ?_) fun _ => ?_
  · extract_lets +onlyGivenNames x2
    clear_value x2
    extract_lets +onlyGivenNames x3
    clear_value x3
    refine Frame.upd ?_ rfl
    exact Frame.refl _ _
  · refine Frame.step ?_ (State.setConds_frame _ _ _ _) rfl
    exact Frame.refl _ _

theorem State.owDamp_frame (s : State) (a1 : ℕ) (a2 : List OwMode) : Frame 0x40181 s (State.owDamp s a1 a2) := by
  unfold State.owDamp
  extract_lets +onlyGivenNames x1
  clear_value x1
  extract_lets +onlyGivenNames x2
  clear_value x2
  extract_lets +onlyGivenNames x3
  clear_value x3
  extract_lets +onlyGivenNames x4
  clear_value x4
  extract_lets +onlyGivenNames x5
  clear_value x5
  extract_lets +onlyGivenNames x6
  clear_value x6
  extract_lets +onlyGivenNames x7
  clear_value x7
  extract_lets +onlyGivenNames x8
  clear_value x8
  extract_lets +onlyGivenNames x9
  refine Frame.local x9 ?_ fun h9 => ?_
  · subst x9
    refine Frame.step ?_ (State.setOw_frame _ _ _) rfl
    exact Frame.refl _ _
  clear_value x9
  extract_lets +onlyGivenNames x10
  refine Frame.local x10 ?_ fun h10 => ?_
  · subst x10
    split
    · refine Frame.ite (fun _ => ?_) fun _ => ?_
      · refine Frame.step ?_ (State.raise_frame _ _ _ _ _ _) rfl
        refine Frame.step ?_ (State.count_frame _ _) rfl
        refine Frame.step ?_ (State.put_frame _ _ _) rfl
        assumption
      · assumption
    · refine Frame.ite (fun _ => ?_) fun _ => ?_
      · refine Frame.step ?_ (State.put_frame _ _ _) rfl
        assumption
      · assumption
  clear_value x10
  split
  · refine Frame.ite (fun _ => ?_) fun _ => ?_
    · assumption
    · refine Frame.step ?_ (State.raise_frame _ _ _ _ _ _) rfl
      refine Frame.step ?_ (State.put_frame _ _ _) rfl
      assumption
  · refine Frame.step ?_ (State.put_frame _ _ _) rfl
    assumption

theorem State.modalUpdate_frame (s : State) (a1 : ℕ) : Frame 0xa41183 s (State.modalUpdate s a1) := by
  unfold State.modalUpdate
  split
  · exact Frame.refl _ _
  · refine Frame.ite (fun _ => ?_) fun _ => ?_
    · exact Frame.refl _ _
    · extract_lets +onlyGivenNames x1
      clear_value x1
      extract_lets +onlyGivenNames x2
      clear_value x2
      extract_lets +onlyGivenNames x3
      clear_value x3
      extract_lets +onlyGivenNames x4
      clear_value x4
      extract_lets +onlyGivenNames x5
      clear_value x5
      extract_lets +onlyGivenNames x6
      clear_value x6
      extract_lets +onlyGivenNames x7
      clear_value x7
      extract_lets +onlyGivenNames x8
      refine Frame.local x8 ?_ fun h8 => ?_
      · subst x8
        refine Frame.step ?_ (State.deviceMet_frame _ _ _) rfl
        refine Frame.step ?_ (State.setOw_frame _ _ _) rfl
        exact Frame.refl _ _
      clear_value x8
      extract_lets +onlyGivenNames x9
      refine Frame.local x9 ?_ fun h9 => ?_
      · subst x9
        refine Frame.when ?_ fun _ _ => ?_
        · assumption
        · refine Frame.step ?_ (State.count_frame _ _) rfl
          assumption
      clear_value x9
      extract_lets +onlyGivenNames x10
      clear_value x10
      extract_lets +onlyGivenNames x11
      refine Frame.local x11 ?_ fun h11 => ?_
      · subst x11
        refine Frame.ite (fun _ => ?_) fun _ => ?_
        · assumption
        · refine Frame.step ?_ (State.setWord_frame _ _ _) rfl
          refine Frame.step ?_ (State.memWrite_frame _ _ _) rfl
          assumption
      clear_value x11
      extract_lets +onlyGivenNames x12
      refine Frame.local x12 ?_ fun h12 => ?_
      · subst x12
        refine Frame.step ?_ (State.owDamp_frame _ _ _) rfl
        assumption
      clear_value x12
      refine Frame.step ?_ (State.fire_frame _ _) rfl
      refine Frame.step ?_ (State.setConds_frame _ _ _ _) rfl
      assumption

theorem State.owSigLoss_frame (s : State) (a1 : ℕ) (a2 : ℕ) : Frame 0x181 s (State.owSigLoss s a1 a2) := by
  unfold State.owSigLoss
  extract_lets +onlyGivenNames x1
  clear_value x1
  extract_lets +onlyGivenNames x2
  refine Frame.local x2 ?_ fun h2 => ?_
  · subst x2
    refine Frame.step ?_ (State.put_frame _ _ _) rfl
    exact Frame.refl _ _
  clear_value x2
  refine Frame.ite (fun _ => ?_) fun _ => ?_
  · refine Frame.step ?_ (State.raise_frame _ _ _ _ _ _) rfl
    assumption
  · assumption

theorem State.owEnergy_frame (s : State) (a1 : ℕ) (a2 : ℕ) (a3 : ℕ) : Frame 0x40181 s (State.owEnergy s a1 a2 a3) := by
  unfold State.owEnergy
  extract_lets +onlyGivenNames x1
  clear_value x1
  refine Frame.ite (fun _ => ?_) fun _ => ?_
  · exact Frame.refl _ _
  · extract_lets +onlyGivenNames x2
    clear_value x2
    extract_lets +onlyGivenNames x3
    clear_value x3
    extract_lets +onlyGivenNames x4
    clear_value x4
    extract_lets +onlyGivenNames x5
    clear_value x5
    extract_lets +onlyGivenNames x6
    refine Frame.local x6 ?_ fun h6 => ?_
    · subst x6
      refine Frame.step ?_ (State.setOw_frame _ _ _) rfl
      exact Frame.refl _ _
    clear_value x6
    refine Frame.ite (fun _ => ?_) fun _ => ?_
    · refine Frame.step ?_ (State.raise_frame _ _ _ _ _ _) rfl
      refine Frame.step ?_ (State.count_frame _ _) rfl
      refine Frame.step ?_ (State.put_frame _ _ _) rfl
      assumption
    · refine Frame.ite (fun _ => ?_) fun _ => ?_
      · refine Frame.step ?_ (State.put_frame _ _ _) rfl
        assumption
      · assumption

theorem State.owTake_frame (s : State) (a1 : ℕ) (a2 : List (Option ℚ)) : Frame 0x40181 s (State.owTake s a1 a2) := by
  unfold State.owTake
  extract_lets +onlyGivenNames x1
  clear_value x1
  extract_lets +onlyGivenNames x2
  clear_value x2
  extract_lets +onlyGivenNames x3
  clear_value x3
  extract_lets +onlyGivenNames x4
  clear_value x4
  extract_lets +onlyGivenNames x5
  clear_value x5
  extract_lets +onlyGivenNames x6
  refine Frame.local x6 ?_ fun h6 => ?_
  · subst x6
    refine Frame.step ?_ (State.setOw_frame _ _ _) rfl
    exact Frame.refl _ _
  clear_value x6
  extract_lets +onlyGivenNames x7
  refine Frame.local x7 ?_ fun h7 => ?_
  · subst x7
    refine Frame.step ?_ (State.countN_frame _ _ _) rfl
    assumption
  clear_value x7
  extract_lets +onlyGivenNames x8
  refine Frame.local x8 ?_ fun h8 => ?_
  · subst x8
    refine Frame.step ?_ (State.put_frame _ _ _) rfl
    refine Frame.step ?_ (State.put_frame _ _ _) rfl
    assumption
  clear_value x8
  refine Frame.step ?_ (State.owState_frame _ _) rfl
  refine Frame.step ?_ (State.owSigLoss_frame _ _ _) rfl
  refine Frame.step ?_ (State.owEnergy_frame _ _ _ _) rfl
  assumption

theorem State.owDue_frame (s : State) (a1 : ℕ) (a2 : ℕ) : Frame 0x40000 s (State.owDue s a1 a2) := by
  unfold State.owDue
  extract_lets +onlyGivenNames x1
  clear_value x1
  refine Frame.ite (fun _ => ?_) fun _ => ?_
  · exact Frame.refl _ _
  · extract_lets +onlyGivenNames x2
    clear_value x2
    refine Frame.step ?_ (State.setOw_frame _ _ _) rfl
    exact Frame.refl _ _

theorem State.owSample_frame (s : State) (a1 : ℕ) (a2 : ℕ) : Frame 0x241181 s (State.owSample s a1 a2) := by
  unfold State.owSample
  extract_lets +onlyGivenNames x1
  clear_value x1
  extract_lets +onlyGivenNames x2
  clear_value x2
  extract_lets +onlyGivenNames x3
  clear_value x3
  refine Frame.ite (fun _ => ?_) fun _ => ?_
  · exact Frame.refl _ _
  · extract_lets +onlyGivenNames x4
    clear_value x4
    extract_lets +onlyGivenNames x5
    refine Frame.local x5 ?_ fun h5 => ?_
    · subst x5
      refine Frame.ite (fun _ => ?_) fun _ => ?_
      · refine Frame.step ?_ (State.owRestart_frame _ _) rfl
        refine Frame.step ?_ (State.countN_frame _ _ _) rfl
        exact Frame.refl _ _
      · refine Frame.foldl ?_ fun _ _ _ => ?_
        · exact Frame.refl _ _
        · refine Frame.step ?_ (State.owTake_frame _ _ _) rfl
          assumption
    clear_value x5
    extract_lets +onlyGivenNames x6
    refine Frame.local x6 ?_ fun h6 => ?_
    · subst x6
      refine Frame.step ?_ (State.owTake_frame _ _ _) rfl
      refine Frame.step ?_ (State.cellErrors_frame _ _ _) rfl
      assumption
    clear_value x6
    extract_lets +onlyGivenNames x7
    refine Frame.local x7 ?_ fun h7 => ?_
    · subst x7
      refine Frame.step ?_ (State.closeMet_frame _ _ _ _) rfl
      refine Frame.step ?_ (State.owDue_frame _ _ _) rfl
      refine Frame.step ?_ (State.setOw_frame _ _ _) rfl
      assumption
    clear_value x7
    refine Frame.step ?_ (State.bucketConds_frame _ _ _) rfl
    assumption

theorem execOwSample_frame (a0 : ℕ) (a1 : ℕ) (s : State) (t : State) (h : execOwSample a0 a1 s = .next t) : Frame 0x241181 s t := by
  unfold execOwSample at h
  refine onEngines_frame h ?_
  refine Frame.step ?_ (State.owSample_frame _ _ _) rfl
  exact Frame.refl _ _

theorem execOwModalUpdate_frame (a0 : ℕ) (s : State) (t : State) (h : execOwModalUpdate a0 s = .next t) : Frame 0xa41183 s t := by
  unfold execOwModalUpdate at h
  refine onEngines_frame h ?_
  refine Frame.step ?_ (State.modalUpdate_frame _ _) rfl
  exact Frame.refl _ _

end Sys2Proof.Machine
end

