-- ==== Sys2Proof/Laws/FrameIsland.lean ====
section
/-!
SUPPORT. What each operation of Machine/Island.lean can change: one lemma an operation, with the mask of the parts of the state it
may touch (the bits are listed in Laws/Frame.lean).
-/

set_option linter.unusedVariables false
set_option Elab.async false

namespace Sys2Proof.Machine

theorem State.setIw_frame (s : State) (a1 : ℕ) (a2 : IwWatcher → IwWatcher) : Frame 0x40000 s (State.setIw s a1 a2) := by
  unfold State.setIw
  refine Frame.upd ?_ rfl
  exact Frame.refl _ _

theorem State.locRestart_frame (s : State) (a1 : ℕ) : Frame 0x40000 s (State.locRestart s a1) := by
  unfold State.locRestart
  refine Frame.step ?_ (State.setIw_frame _ _ _) rfl
  exact Frame.refl _ _

theorem State.setBase_frame (s : State) (a1 : ℕ) (a2 : Option ℚ) : Frame 0x40001 s (State.setBase s a1 a2) := by
  unfold State.setBase
  extract_lets +onlyGivenNames x1
  refine Frame.local x1 ?_ fun h1 => ?_
  · subst x1
    refine Frame.step ?_ (State.setIw_frame _ _ _) rfl
    exact Frame.refl _ _
  clear_value x1
  split
  · refine Frame.step ?_ (State.setWord_frame _ _ _) rfl
    refine Frame.step ?_ (State.put_frame _ _ _) rfl
    assumption
  · refine Frame.step ?_ (State.put_frame _ _ _) rfl
    assumption

theorem State.baseLost_frame (s : State) (a1 : ℕ) : Frame 0x40001 s (State.baseLost s a1) := by
  unfold State.baseLost
  extract_lets +onlyGivenNames x1
  refine Frame.local x1 ?_ fun h1 => ?_
  · subst x1
    refine Frame.step ?_ (State.setBase_frame _ _ _) rfl
    exact Frame.refl _ _
  clear_value x1
  refine Frame.step ?_ (State.setIw_frame _ _ _) rfl
  assumption

theorem State.iwTo_frame (s : State) (a1 : ℕ) (a2 : ℕ) : Frame 0x181 s (State.iwTo s a1 a2) := by
  unfold State.iwTo
  refine Frame.ite (fun _ => ?_) fun _ => ?_
  · exact Frame.refl _ _
  · refine Frame.step ?_ (State.fire_frame _ _) rfl
    refine Frame.step ?_ (State.put_frame _ _ _) rfl
    exact Frame.refl _ _

theorem State.islandStep_frame (s : State) : Frame 0x40181 s (State.islandStep s) := by
  unfold State.islandStep
  refine Frame.forEach ?_ fun _ _ _ => ?_
  · exact Frame.refl _ _
  · refine Frame.ite (fun _ => ?_) fun _ => ?_
    · extract_lets +onlyGivenNames x1
      refine Frame.local x1 ?_ fun h1 => ?_
      · subst x1
        refine Frame.step ?_ (State.locRestart_frame _ _) rfl
        refine Frame.step ?_ (State.baseLost_frame _ _) rfl
        assumption
      clear_value x1
      refine Frame.ite (fun _ => ?_) fun _ => ?_
      · assumption
      · refine Frame.step ?_ (State.iwTo_frame _ _ _) rfl
        assumption
    · assumption

theorem State.iwIsland_frame (s : State) (a1 : ℕ) : Frame 0x181 s (State.iwIsland s a1) := by
  unfold State.iwIsland
  extract_lets +onlyGivenNames x1
  refine Frame.local x1 ?_ fun h1 => ?_
  · subst x1
    refine Frame.step ?_ (State.put_frame _ _ _) rfl
    exact Frame.refl _ _
  clear_value x1
  extract_lets +onlyGivenNames x2
  clear_value x2
  refine Frame.ite (fun _ => ?_) fun _ => ?_
  · refine Frame.ite (fun _ => ?_) fun _ => ?_
    · refine Frame.step ?_ (State.put_frame _ _ _) rfl
      assumption
    · assumption
  · split
    · assumption
    · extract_lets +onlyGivenNames x3
      refine Frame.local x3 ?_ fun h3 => ?_
      · subst x3
        refine Frame.step ?_ (State.put_frame _ _ _) rfl
        refine Frame.step ?_ (State.put_frame _ _ _) rfl
        assumption
      clear_value x3
      refine Frame.step ?_ (State.raise_frame _ _ _ _ _ _) rfl
      refine Frame.step ?_ (State.count_frame _ _) rfl
      assumption

theorem State.islandWarm_frame (s : State) : Frame 0x40181 s (State.islandWarm s) := by
  unfold State.islandWarm
  refine Frame.forEach ?_ fun _ _ _ => ?_
  · refine Frame.step ?_ (State.islandStep_frame _) rfl
    refine Frame.forEach ?_ fun _ _ _ => ?_
    · exact Frame.refl _ _
    · refine Frame.ite (fun _ => ?_) fun _ => ?_
      · extract_lets +onlyGivenNames x1
        clear_value x1
        extract_lets +onlyGivenNames x2
        clear_value x2
        refine Frame.step ?_ (State.setIw_frame _ _ _) rfl
        refine Frame.step ?_ (State.put_frame _ _ _) rfl
        assumption
      · assumption
  · refine Frame.ite (fun _ => ?_) fun _ => ?_
    · refine Frame.step ?_ (State.iwIsland_frame _ _) rfl
      assumption
    · assumption

theorem State.iwClean_frame (s : State) (a1 : ℕ) (a2 : ℕ) : Frame 0x40181 s (State.iwClean s a1 a2) := by
  unfold State.iwClean
  extract_lets +onlyGivenNames x1
  refine Frame.local x1 ?_ fun h1 => ?_
  · subst x1
    refine Frame.step ?_ (State.put_frame _ _ _) rfl
    refine Frame.step ?_ (State.put_frame _ _ _) rfl
    exact Frame.refl _ _
  clear_value x1
  refine Frame.step ?_ (State.iwTo_frame _ _ _) rfl
  refine Frame.step ?_ (State.setBase_frame _ _ _) rfl
  refine Frame.step ?_ (State.setIw_frame _ _ _) rfl
  assumption

theorem State.iwStart_frame (s : State) (a1 : ℕ) : Frame 0x241181 s (State.iwStart s a1) := by
  unfold State.iwStart
  extract_lets +onlyGivenNames x1
  refine Frame.local x1 ?_ fun h1 => ?_
  · subst x1
    refine Frame.step ?_ (State.iwClean_frame _ _ _) rfl
    exact Frame.refl _ _
  clear_value x1
  refine Frame.step ?_ (State.setConds_frame _ _ _ _) rfl
  assumption

theorem State.iwStop_frame (s : State) (a1 : ℕ) : Frame 0x241181 s (State.iwStop s a1) := by
  unfold State.iwStop
  extract_lets +onlyGivenNames x1
  refine Frame.local x1 ?_ fun h1 => ?_
  · subst x1
    refine Frame.step ?_ (State.iwClean_frame _ _ _) rfl
    exact Frame.refl _ _
  clear_value x1
  refine Frame.step ?_ (State.setConds_frame _ _ _ _) rfl
  assumption

theorem State.iwClear_frame (s : State) (a1 : ℕ) : Frame 0x241181 s (State.iwClear s a1) := by
  unfold State.iwClear
  extract_lets +onlyGivenNames x1
  clear_value x1
  extract_lets +onlyGivenNames x2
  refine Frame.local x2 ?_ fun h2 => ?_
  · subst x2
    refine Frame.ite (fun _ => ?_) fun _ => ?_
    · refine Frame.foldl ?_ fun _ _ _ => ?_
      · exact Frame.refl _ _
      · refine Frame.ite (fun _ => ?_) fun _ => ?_
        · refine Frame.step ?_ (State.setIw_frame _ _ _) rfl
          refine Frame.step ?_ (State.put_frame _ _ _) rfl
          assumption
        · assumption
    · exact Frame.refl _ _
  clear_value x2
  extract_lets +onlyGivenNames x3
  refine Frame.local x3 ?_ fun h3 => ?_
  · subst x3
    refine Frame.ite (fun _ => ?_) fun _ => ?_
    · refine Frame.step ?_ (State.put_frame _ _ _) rfl
      assumption
    · assumption
  clear_value x3
  extract_lets +onlyGivenNames x4
  refine Frame.local x4 ?_ fun h4 => ?_
  · subst x4
    refine Frame.step ?_ (State.iwIsland_frame _ _) rfl
    assumption
  clear_value x4
  refine Frame.step ?_ (State.setConds_frame _ _ _ _) rfl
  assumption

theorem islandEffect_frame (a0 : ℕ) (a1 : List ℕ) (a2 : Word) (a3 : Word) (s : State) : Frame 0x241181 s (islandEffect a0 a1 a2 a3 s) := by
  unfold islandEffect
  split
  · extract_lets +onlyGivenNames x1
    refine Frame.local x1 ?_ fun h1 => ?_
    · subst x1
      refine Frame.step ?_ (State.put_frame _ _ _) rfl
      exact Frame.refl _ _
    clear_value x1
    refine Frame.ite (fun _ => ?_) fun _ => ?_
    · refine Frame.step ?_ (State.iwStart_frame _ _) rfl
      assumption
    · refine Frame.ite (fun _ => ?_) fun _ => ?_
      · refine Frame.step ?_ (State.iwStop_frame _ _) rfl
        assumption
      · assumption
  · refine Frame.ite (fun _ => ?_) fun _ => ?_
    · refine Frame.step ?_ (State.iwClear_frame _ _) rfl
      exact Frame.refl _ _
    · exact Frame.refl _ _
  · exact Frame.refl _ _

theorem State.degradedEval_frame (s : State) (a1 : ℕ) : Frame 0x40181 s (State.degradedEval s a1) := by
  unfold State.degradedEval
  extract_lets +onlyGivenNames x1
  clear_value x1
  extract_lets +onlyGivenNames x2
  refine Frame.local x2 ?_ fun h2 => ?_
  · subst x2
    refine Frame.step ?_ (State.setIw_frame _ _ _) rfl
    exact Frame.refl _ _
  clear_value x2
  refine Frame.ite (fun _ => ?_) fun _ => ?_
  · extract_lets +onlyGivenNames x3
    clear_value x3
    extract_lets +onlyGivenNames x4
    refine Frame.local x4 ?_ fun h4 => ?_
    · subst x4
      refine Frame.step ?_ (State.setIw_frame _ _ _) rfl
      assumption
    clear_value x4
    extract_lets +onlyGivenNames x5
    refine Frame.local x5 ?_ fun h5 => ?_
    · subst x5
      refine Frame.step ?_ (State.iwTo_frame _ _ _) rfl
      refine Frame.step ?_ (State.count_frame _ _) rfl
      refine Frame.step ?_ (State.put_frame _ _ _) rfl
      assumption
    clear_value x5
    refine Frame.step ?_ (State.raise_frame _ _ _ _ _ _) rfl
    assumption
  · assumption

theorem State.iwAssert_frame (s : State) (a1 : ℕ) (a2 : ℕ) : Frame 0x181 s (State.iwAssert s a1 a2) := by
  unfold State.iwAssert
  refine Frame.ite (fun _ => ?_) fun _ => ?_
  · exact Frame.refl _ _
  · refine Frame.step ?_ (State.raise_frame _ _ _ _ _ _) rfl
    refine Frame.step ?_ (State.put_frame _ _ _) rfl
    exact Frame.refl _ _

theorem State.criterion_frame (s : State) (a1 : ℕ) (a2 : ℕ) (a3 : ℕ) (a4 : Bool) : Frame 0x40181 s (State.criterion s a1 a2 a3 a4) := by
  unfold State.criterion
  extract_lets +onlyGivenNames x1
  clear_value x1
  extract_lets +onlyGivenNames x2
  clear_value x2
  extract_lets +onlyGivenNames x3
  clear_value x3
  extract_lets +onlyGivenNames x4
  refine Frame.local x4 ?_ fun h4 => ?_
  · subst x4
    refine Frame.step ?_ (State.setIw_frame _ _ _) rfl
    exact Frame.refl _ _
  clear_value x4
  refine Frame.ite (fun _ => ?_) fun _ => ?_
  · refine Frame.ite (fun _ => ?_) fun _ => ?_
    · refine Frame.step ?_ (State.iwAssert_frame _ _ _) rfl
      assumption
    · assumption
  · refine Frame.ite (fun _ => ?_) fun _ => ?_
    · refine Frame.step ?_ (State.setIw_frame _ _ _) rfl
      refine Frame.step ?_ (State.put_frame _ _ _) rfl
      assumption
    · assumption

theorem State.track_frame (s : State) (a1 : ℕ) (a2 : ℚ) : Frame 0x40001 s (State.track s a1 a2) := by
  unfold State.track
  split
  · refine Frame.ite (fun _ => ?_) fun _ => ?_
    · exact Frame.refl _ _
    · refine Frame.step ?_ (State.setBase_frame _ _ _) rfl
      exact Frame.refl _ _
  · refine Frame.step ?_ (State.setIw_frame _ _ _) rfl
    refine Frame.step ?_ (State.setBase_frame _ _ _) rfl
    exact Frame.refl _ _

theorem State.soundEval_frame (s : State) (a1 : ℕ) (a2 : WideMeasure) (a3 : Bool) : Frame 0x40181 s (State.soundEval s a1 a2 a3) := by
  unfold State.soundEval
  extract_lets +onlyGivenNames x1
  clear_value x1
  extract_lets +onlyGivenNames x2
  clear_value x2
  extract_lets +onlyGivenNames x3
  clear_value x3
  extract_lets +onlyGivenNames x4
  refine Frame.local x4 ?_ fun h4 => ?_
  · subst x4
    refine Frame.step ?_ (State.setIw_frame _ _ _) rfl
    exact Frame.refl _ _
  clear_value x4
  extract_lets +onlyGivenNames x5
  refine Frame.local x5 ?_ fun h5 => ?_
  · subst x5
    refine Frame.step ?_ (State.put_frame _ _ _) rfl
    assumption
  clear_value x5
  extract_lets +onlyGivenNames x6
  refine Frame.local x6 ?_ fun h6 => ?_
  · subst x6
    split
    · refine Frame.ite (fun _ => ?_) fun _ => ?_
      · refine Frame.step ?_ (State.put_frame _ _ _) rfl
        assumption
      · assumption
    · assumption
  clear_value x6
  extract_lets +onlyGivenNames x7
  clear_value x7
  extract_lets +onlyGivenNames x8
  refine Frame.ite (fun _ => ?_) fun _ => ?_
  · simp only [x8]
    refine Frame.step ?_ (State.criterion_frame _ _ _ _ _) rfl
    refine Frame.step ?_ (State.criterion_frame _ _ _ _ _) rfl
    refine Frame.ite (fun _ => ?_) fun _ => ?_
    · refine Frame.step ?_ (State.track_frame _ _ _) rfl
      assumption
    · assumption
  · refine Frame.ite (fun _ => ?_) fun _ => ?_
    · extract_lets +onlyGivenNames x9
      refine Frame.local x9 ?_ fun h9 => ?_
      · subst x9
        refine Frame.ite (fun _ => ?_) fun _ => ?_
        · refine Frame.step ?_ (State.criterion_frame _ _ _ _ _) rfl
          assumption
        · assumption
      clear_value x9
      simp only [x8]
      refine Frame.step ?_ (State.criterion_frame _ _ _ _ _) rfl
      refine Frame.step ?_ (State.criterion_frame _ _ _ _ _) rfl
      refine Frame.ite (fun _ => ?_) fun _ => ?_
      · refine Frame.step ?_ (State.track_frame _ _ _) rfl
        assumption
      · assumption
    · refine Frame.ite (fun _ => ?_) fun _ => ?_
      · extract_lets +onlyGivenNames x10
        refine Frame.local x10 ?_ fun h10 => ?_
        · subst x10
          refine Frame.step ?_ (State.raise_frame _ _ _ _ _ _) rfl
          refine Frame.step ?_ (State.put_frame _ _ _) rfl
          assumption
        clear_value x10
        extract_lets +onlyGivenNames x11
        refine Frame.local x11 ?_ fun h11 => ?_
        · subst x11
          refine Frame.step ?_ (State.setIw_frame _ _ _) rfl
          assumption
        clear_value x11
        refine Frame.ite (fun _ => ?_) fun _ => ?_
        · refine Frame.step ?_ (State.iwTo_frame _ _ _) rfl
          assumption
        · refine Frame.step ?_ (State.iwTo_frame _ _ _) rfl
          refine Frame.step ?_ (State.baseLost_frame _ _) rfl
          assumption
      · assumption

theorem State.wideEval_frame (s : State) (a1 : ℕ) (a2 : ℕ) : Frame 0x241181 s (State.wideEval s a1 a2) := by
  unfold State.wideEval
  extract_lets +onlyGivenNames x1
  clear_value x1
  extract_lets +onlyGivenNames x2
  clear_value x2
  extract_lets +onlyGivenNames x3
  clear_value x3
  refine Frame.ite (fun _ => ?_) fun _ => ?_
  · exact Frame.refl _ _
  · extract_lets +onlyGivenNames x4
    refine Frame.local x4 ?_ fun h4 => ?_
    · subst x4
      refine Frame.step ?_ (State.cellErrors_frame _ _ _) rfl
      exact Frame.refl _ _
    clear_value x4
    extract_lets +onlyGivenNames x5
    clear_value x5
    extract_lets +onlyGivenNames x6
    clear_value x6
    extract_lets +onlyGivenNames x7
    clear_value x7
    extract_lets +onlyGivenNames x8
    refine Frame.local x8 ?_ fun h8 => ?_
    · subst x8
      refine Frame.step ?_ (State.countN_frame _ _ _) rfl
      assumption
    clear_value x8
    extract_lets +onlyGivenNames x9
    refine Frame.local x9 ?_ fun h9 => ?_
    · subst x9
      refine Frame.step ?_ (State.setIw_frame _ _ _) rfl
      assumption
    clear_value x9
    extract_lets +onlyGivenNames x10
    refine Frame.local x10 ?_ fun h10 => ?_
    · subst x10
      refine Frame.step ?_ (State.put_frame _ _ _) rfl
      refine Frame.step ?_ (State.countN_frame _ _ _) rfl
      assumption
    clear_value x10
    extract_lets +onlyGivenNames x11
    refine Frame.local x11 ?_ fun h11 => ?_
    · subst x11
      refine Frame.ite (fun _ => ?_) fun _ => ?_
      · assumption
      · refine Frame.step ?_ (State.setIw_frame _ _ _) rfl
        assumption
    clear_value x11
    extract_lets +onlyGivenNames x12
    refine Frame.local x12 ?_ fun h12 => ?_
    · subst x12
      split
      · refine Frame.step ?_ (State.degradedEval_frame _ _) rfl
        refine Frame.step ?_ (State.put_frame _ _ _) rfl
        refine Frame.step ?_ (State.count_frame _ _) rfl
        assumption
      · refine Frame.ite (fun _ => ?_) fun _ => ?_
        · refine Frame.step ?_ (State.degradedEval_frame _ _) rfl
          assumption
        · refine Frame.step ?_ (State.soundEval_frame _ _ _ _) rfl
          assumption
    clear_value x12
    extract_lets +onlyGivenNames x13
    refine Frame.local x13 ?_ fun h13 => ?_
    · subst x13
      refine Frame.step ?_ (State.closeMet_frame _ _ _ _) rfl
      refine Frame.step ?_ (State.iwIsland_frame _ _) rfl
      assumption
    clear_value x13
    refine Frame.step ?_ (State.bucketConds_frame _ _ _) rfl
    assumption

theorem execIwWaEval_frame (a0 : ℕ) (a1 : ℕ) (s : State) (t : State) (h : execIwWaEval a0 a1 s = .next t) : Frame 0x241181 s t := by
  unfold execIwWaEval at h
  refine onEngines_frame h ?_
  refine Frame.step ?_ (State.wideEval_frame _ _ _) rfl
  exact Frame.refl _ _

theorem State.locMissed_frame (s : State) (a1 : ℕ) (a2 : ℕ) : Frame 0x40001 s (State.locMissed s a1 a2) := by
  unfold State.locMissed
  refine Frame.ite (fun _ => ?_) fun _ => ?_
  · exact Frame.refl _ _
  · extract_lets +onlyGivenNames x1
    clear_value x1
    extract_lets +onlyGivenNames x2
    refine Frame.local x2 ?_ fun h2 => ?_
    · subst x2
      refine Frame.step ?_ (State.setIw_frame _ _ _) rfl
      exact Frame.refl _ _
    clear_value x2
    refine Frame.ite (fun _ => ?_) fun _ => ?_
    · refine Frame.step ?_ (State.put_frame _ _ _) rfl
      assumption
    · assumption

theorem State.locRocof_frame (s : State) (a1 : ℕ) (a2 : ℕ) : Frame 0x40181 s (State.locRocof s a1 a2) := by
  unfold State.locRocof
  extract_lets +onlyGivenNames x1
  clear_value x1
  extract_lets +onlyGivenNames x2
  clear_value x2
  extract_lets +onlyGivenNames x3
  clear_value x3
  extract_lets +onlyGivenNames x4
  clear_value x4
  extract_lets +onlyGivenNames x5
  clear_value x5
  extract_lets +onlyGivenNames x6
  refine Frame.local x6 ?_ fun h6 => ?_
  · subst x6
    refine Frame.step ?_ (State.setIw_frame _ _ _) rfl
    exact Frame.refl _ _
  clear_value x6
  refine Frame.ite (fun _ => ?_) fun _ => ?_
  · refine Frame.step ?_ (State.iwAssert_frame _ _ _) rfl
    assumption
  · refine Frame.ite (fun _ => ?_) fun _ => ?_
    · refine Frame.step ?_ (State.put_frame _ _ _) rfl
      assumption
    · assumption

theorem State.localAt_frame (s : State) (a1 : ℕ) (a2 : ℕ) : Frame 0x40181 s (State.localAt s a1 a2) := by
  unfold State.localAt
  extract_lets +onlyGivenNames x1
  clear_value x1
  extract_lets +onlyGivenNames x2
  clear_value x2
  extract_lets +onlyGivenNames x3
  clear_value x3
  extract_lets +onlyGivenNames x4
  clear_value x4
  extract_lets +onlyGivenNames x5
  refine Frame.local x5 ?_ fun h5 => ?_
  · subst x5
    refine Frame.step ?_ (State.countN_frame _ _ _) rfl
    exact Frame.refl _ _
  clear_value x5
  extract_lets +onlyGivenNames x6
  clear_value x6
  extract_lets +onlyGivenNames x7
  clear_value x7
  extract_lets +onlyGivenNames x8
  clear_value x8
  extract_lets +onlyGivenNames x9
  clear_value x9
  extract_lets +onlyGivenNames x10
  refine Frame.local x10 ?_ fun h10 => ?_
  · subst x10
    refine Frame.step ?_ (State.locMissed_frame _ _ _) rfl
    refine Frame.step ?_ (State.setIw_frame _ _ _) rfl
    assumption
  clear_value x10
  extract_lets +onlyGivenNames x11
  refine Frame.local x11 ?_ fun h11 => ?_
  · subst x11
    refine Frame.ite (fun _ => ?_) fun _ => ?_
    · refine Frame.step ?_ (State.locRestart_frame _ _) rfl
      assumption
    · assumption
  clear_value x11
  refine Frame.ite (fun _ => ?_) fun _ => ?_
  · refine Frame.step ?_ (State.locRocof_frame _ _ _) rfl
    assumption
  · extract_lets +onlyGivenNames x12
    clear_value x12
    extract_lets +onlyGivenNames x13
    clear_value x13
    extract_lets +onlyGivenNames x14
    clear_value x14
    extract_lets +onlyGivenNames x15
    refine Frame.local x15 ?_ fun h15 => ?_
    · subst x15
      refine Frame.step ?_ (State.setIw_frame _ _ _) rfl
      assumption
    clear_value x15
    extract_lets +onlyGivenNames x16
    refine Frame.local x16 ?_ fun h16 => ?_
    · subst x16
      refine Frame.ite (fun _ => ?_) fun _ => ?_
      · refine Frame.step ?_ (State.setIw_frame _ _ _) rfl
        refine Frame.step ?_ (State.iwAssert_frame _ _ _) rfl
        assumption
      · assumption
    clear_value x16
    refine Frame.step ?_ (State.locRocof_frame _ _ _) rfl
    assumption

theorem State.localEval_frame (s : State) (a1 : ℕ) : Frame 0x241181 s (State.localEval s a1) := by
  unfold State.localEval
  refine Frame.ite (fun _ => ?_) fun _ => ?_
  · exact Frame.refl _ _
  · split
    · extract_lets +onlyGivenNames x1
      clear_value x1
      extract_lets +onlyGivenNames x2
      refine Frame.local x2 ?_ fun h2 => ?_
      · subst x2
        refine Frame.step ?_ (State.deviceMet_frame _ _ _) rfl
        refine Frame.step ?_ (State.iwIsland_frame _ _) rfl
        refine Frame.step ?_ (State.localAt_frame _ _ _) rfl
        exact Frame.refl _ _
      clear_value x2
      refine Frame.step ?_ (State.setConds_frame _ _ _ _) rfl
      assumption
    · exact Frame.refl _ _

theorem execIwLocalEval_frame (a0 : ℕ) (s : State) (t : State) (h : execIwLocalEval a0 s = .next t) : Frame 0x241181 s t := by
  unfold execIwLocalEval at h
  refine onEngines_frame h ?_
  refine Frame.step ?_ (State.localEval_frame _ _) rfl
  exact Frame.refl _ _

theorem State.vsHoldEnd_frame (s : State) (a1 : ℕ) : Frame 0x241181 s (State.vsHoldEnd s a1) := by
  unfold State.vsHoldEnd
  split
  · refine Frame.ite (fun _ => ?_) fun _ => ?_
    · extract_lets +onlyGivenNames x1
      refine Frame.local x1 ?_ fun h1 => ?_
      · subst x1
        refine Frame.step ?_ (State.setIw_frame _ _ _) rfl
        refine Frame.step ?_ (State.put_frame _ _ _) rfl
        exact Frame.refl _ _
      clear_value x1
      refine Frame.step ?_ (State.setConds_frame _ _ _ _) rfl
      refine Frame.step ?_ (State.iwIsland_frame _ _) rfl
      assumption
    · exact Frame.refl _ _
  · exact Frame.refl _ _

theorem State.learnEnd_frame (s : State) (a1 : ℕ) : Frame 0x181 s (State.learnEnd s a1) := by
  unfold State.learnEnd
  split
  · refine Frame.ite (fun _ => ?_) fun _ => ?_
    · refine Frame.step ?_ (State.iwTo_frame _ _ _) rfl
      exact Frame.refl _ _
    · exact Frame.refl _ _
  · exact Frame.refl _ _

theorem execIwLearnEnd_frame (a0 : ℕ) (s : State) (t : State) (h : execIwLearnEnd a0 s = .next t) : Frame 0x181 s t := by
  unfold execIwLearnEnd at h
  refine onEngines_frame h ?_
  refine Frame.step ?_ (State.learnEnd_frame _ _) rfl
  exact Frame.refl _ _

theorem execLocVsHoldEnd_frame (a0 : ℕ) (s : State) (t : State) (h : execLocVsHoldEnd a0 s = .next t) : Frame 0x241181 s t := by
  unfold execLocVsHoldEnd at h
  refine onEngines_frame h ?_
  refine Frame.step ?_ (State.vsHoldEnd_frame _ _) rfl
  exact Frame.refl _ _

end Sys2Proof.Machine
end

