-- ==== Sys2Proof/Laws/FrameAlarm.lean ====
section
/-!
SUPPORT. What each operation of Machine/Alarm.lean can change: one lemma an operation, with the mask of the parts of the state it
may touch (the bits are listed in Laws/Frame.lean).
-/

set_option linter.unusedVariables false
set_option Elab.async false

namespace Sys2Proof.Machine

theorem State.detectWarm_frame (s : State) : Frame 0x241181 s (State.detectWarm s) := by
  unfold State.detectWarm
  extract_lets +onlyGivenNames x1
  refine Frame.local x1 ?_ fun h1 => ?_
  · subst x1
    refine Frame.step ?_ (State.islandWarm_frame _) rfl
    refine Frame.step ?_ (State.owWarm_frame _) rfl
    exact Frame.refl _ _
  clear_value x1
  refine Frame.step ?_ (State.setConds_frame _ _ _ _) rfl
  assumption

theorem State.setRule_frame (s : State) (a1 : ℕ) (a2 : RuleLink → RuleLink) : Frame 0x40000 s (State.setRule s a1 a2) := by
  unfold State.setRule
  refine Frame.upd ?_ rfl
  exact Frame.refl _ _

theorem State.settlePins_frame (s : State) (a1 : List Bool) (a2 : optParam (List (ℕ × Bool)) []) (a3 : optParam (Option Stamp) none) : Frame 0x2201001 s (State.settlePins s a1 a2 a3) := by
  unfold State.settlePins
  extract_lets +onlyGivenNames x1
  refine Frame.local x1 ?_ fun h1 => ?_
  · subst x1
    refine Frame.forEach ?_ fun _ _ _ => ?_
    · exact Frame.refl _ _
    · refine Frame.ite (fun _ => ?_) fun _ => ?_
      · assumption
      · extract_lets +onlyGivenNames x2
        clear_value x2
        extract_lets +onlyGivenNames x3
        refine Frame.local x3 ?_ fun h3 => ?_
        · subst x3
          refine Frame.step ?_ (State.setWord_frame _ _ _) rfl
          refine Frame.step ?_ (State.put_frame _ _ _) rfl
          assumption
        clear_value x3
        refine Frame.step ?_ (State.emit_frame _ _) rfl
        refine Frame.step ?_ (State.put_frame _ _ _) rfl
        assumption
  clear_value x1
  refine Frame.step ?_ (State.setConds_frame _ _ _ _) rfl
  assumption

theorem State.computePins_frame (s : State) : Frame 0x1 s (State.computePins s) := by
  unfold State.computePins
  extract_lets +onlyGivenNames x1
  clear_value x1
  refine Frame.step ?_ (State.put_frame _ _ _) rfl
  refine Frame.step ?_ (State.put_frame _ _ _) rfl
  exact Frame.refl _ _

theorem State.refreshPins_frame (s : State) : Frame 0x2201001 s (State.refreshPins s) := by
  unfold State.refreshPins
  refine Frame.step ?_ (State.settlePins_frame _ _ _ _) rfl
  refine Frame.step ?_ (State.computePins_frame _) rfl
  exact Frame.refl _ _

theorem State.settleRule_frame (s : State) (a1 : ℕ) : Frame 0x40001 s (State.settleRule s a1).1 := by
  unfold State.settleRule
  extract_lets +onlyGivenNames x1
  clear_value x1
  extract_lets +onlyGivenNames x2
  clear_value x2
  extract_lets +onlyGivenNames x3
  clear_value x3
  extract_lets +onlyGivenNames x4
  clear_value x4
  extract_lets +onlyGivenNames x5
  clear_value x5
  extract_lets +onlyGivenNames x6
  refine Frame.local x6 ?_ fun h6 => ?_
  · subst x6
    refine Frame.ite (fun _ => ?_) fun _ => ?_
    · exact Frame.refl _ _
    · refine Frame.step ?_ (State.setRule_frame _ _ _) rfl
      refine Frame.step ?_ (State.put_frame _ _ _) rfl
      exact Frame.refl _ _
  clear_value x6
  refine Frame.iteFst (fun _ => ?_) fun _ => ?_
  · dsimp -zeta only
    assumption
  · extract_lets +onlyGivenNames x7
    refine Frame.local x7 ?_ fun h7 => ?_
    · subst x7
      refine Frame.step ?_ (State.put_frame _ _ _) rfl
      assumption
    clear_value x7
    extract_lets +onlyGivenNames x8
    refine Frame.local x8 ?_ fun h8 => ?_
    · subst x8
      refine Frame.ite (fun _ => ?_) fun _ => ?_
      · refine Frame.step ?_ (State.setRule_frame _ _ _) rfl
        assumption
      · assumption
    clear_value x8
    dsimp -zeta only
    assumption

theorem State.alarmDeliver_frame (s : State) (a1 : RuleEdge) (a2 : Bool) (a3 : Stamp) : Frame 0x2040381 s (State.alarmDeliver s a1 a2 a3) := by
  unfold State.alarmDeliver
  refine Frame.ite (fun _ => ?_) fun _ => ?_
  · exact Frame.refl _ _
  · extract_lets +onlyGivenNames x1
    clear_value x1
    extract_lets +onlyGivenNames x2
    clear_value x2
    extract_lets +onlyGivenNames x3
    clear_value x3
    extract_lets +onlyGivenNames x4
    refine Frame.local x4 ?_ fun h4 => ?_
    · subst x4
      refine Frame.upd ?_ rfl
      exact Frame.refl _ _
    clear_value x4
    refine Frame.ite (fun _ => ?_) fun _ => ?_
    · refine Frame.step ?_ (State.drPlace_frame _ _ _ _ _) rfl
      assumption
    · refine Frame.step ?_ (State.raise_frame _ _ _ _ _ _) rfl
      refine Frame.step ?_ (State.count_frame _ _) rfl
      refine Frame.step ?_ (State.drDropped_frame _ _) rfl
      assumption

theorem State.ruleEdge_frame (s : State) (a1 : RuleEdge) (a2 : Bool) (a3 : Stamp) : Frame 0x2040381 s (State.ruleEdge s a1 a2 a3) := by
  unfold State.ruleEdge
  extract_lets +onlyGivenNames x1
  refine Frame.local x1 ?_ fun h1 => ?_
  · subst x1
    refine Frame.ite (fun _ => ?_) fun _ => ?_
    · refine Frame.step ?_ (State.fire_frame _ _) rfl
      refine Frame.step ?_ (State.raise_frame _ _ _ _ _ _) rfl
      refine Frame.step ?_ (State.count_frame _ _) rfl
      exact Frame.refl _ _
    · refine Frame.step ?_ (State.raise_frame _ _ _ _ _ _) rfl
      exact Frame.refl _ _
  clear_value x1
  refine Frame.step ?_ (State.alarmDeliver_frame _ _ _ _) rfl
  assumption

theorem State.ruleEdges_frame (s : State) (a1 : List RuleEdge) (a2 : Bool) (a3 : Stamp) : Frame 0x22533c1 s (State.ruleEdges s a1 a2 a3) := by
  unfold State.ruleEdges
  extract_lets +onlyGivenNames x1
  refine Frame.local x1 ?_ fun h1 => ?_
  · subst x1
    refine Frame.step ?_ (State.settlePins_frame _ _ _ _) rfl
    refine Frame.step ?_ (State.computePins_frame _) rfl
    exact Frame.refl _ _
  clear_value x1
  extract_lets +onlyGivenNames x2
  refine Frame.local x2 ?_ fun h2 => ?_
  · subst x2
    refine Frame.forEach ?_ fun _ _ _ => ?_
    · assumption
    · refine Frame.ite (fun _ => ?_) fun _ => ?_
      · refine Frame.step ?_ (State.injLine_frame _ _) rfl
        assumption
      · assumption
  clear_value x2
  refine Frame.foldl ?_ fun _ _ _ => ?_
  · assumption
  · refine Frame.step ?_ (State.ruleEdge_frame _ _ _ _) rfl
    assumption

theorem State.resettle_frame (s : State) (a1 : ℕ) : Frame 0x22533c1 s (State.resettle s a1) := by
  unfold State.resettle
  split
  split
  · refine Frame.step ?_ (State.ruleEdges_frame _ _ _ _) rfl
    refine Frame.step ?_ (Frame.ofFst ‹State.settleRule _ _ = _› (State.settleRule_frame _ _)) rfl
    exact Frame.refl _ _
  · refine Frame.step ?_ (Frame.ofFst ‹State.settleRule _ _ = _› (State.settleRule_frame _ _)) rfl
    exact Frame.refl _ _

theorem alarmEffect_frame (a0 : ℕ) (a1 : List ℕ) (a2 : Word) (a3 : Word) (s : State) : Frame 0x22533c1 s (alarmEffect a0 a1 a2 a3 s) := by
  unfold alarmEffect
  split
  · extract_lets +onlyGivenNames x1
    refine Frame.local x1 ?_ fun h1 => ?_
    · subst x1
      refine Frame.ite (fun _ => ?_) fun _ => ?_
      · refine Frame.step ?_ (State.setRule_frame _ _ _) rfl
        exact Frame.refl _ _
      · exact Frame.refl _ _
    clear_value x1
    extract_lets +onlyGivenNames x2
    refine Frame.local x2 ?_ fun h2 => ?_
    · subst x2
      refine Frame.ite (fun _ => ?_) fun _ => ?_
      · refine Frame.step ?_ (State.put_frame _ _ _) rfl
        assumption
      · refine Frame.ite (fun _ => ?_) fun _ => ?_
        · refine Frame.step ?_ (State.put_frame _ _ _) rfl
          assumption
        · assumption
    clear_value x2
    refine Frame.step ?_ (State.refreshPins_frame _) rfl
    refine Frame.step ?_ (State.resettle_frame _ _) rfl
    assumption
  · refine Frame.ite (fun _ => ?_) fun _ => ?_
    · refine Frame.step ?_ (State.resettle_frame _ _) rfl
      refine Frame.step ?_ (State.put_frame _ _ _) rfl
      exact Frame.refl _ _
    · exact Frame.refl _ _
  · extract_lets +onlyGivenNames x3
    clear_value x3
    extract_lets +onlyGivenNames x4
    refine Frame.local x4 ?_ fun h4 => ?_
    · subst x4
      refine Frame.step ?_ (State.settlePins_frame _ _ _ _) rfl
      refine Frame.step ?_ (State.computePins_frame _) rfl
      exact Frame.refl _ _
    clear_value x4
    refine Frame.ite (fun _ => ?_) fun _ => ?_
    · refine Frame.step ?_ (State.raise_frame _ _ _ _ _ _) rfl
      assumption
    · assumption
  · exact Frame.refl _ _

theorem State.detectCold_frame (s : State) : Frame 0x241181 s (State.detectCold s) := by
  unfold State.detectCold
  extract_lets +onlyGivenNames x1
  refine Frame.local x1 ?_ fun h1 => ?_
  · subst x1
    refine Frame.forEach ?_ fun _ _ _ => ?_
    · refine Frame.forEach ?_ fun _ _ _ => ?_
      · exact Frame.refl _ _
      · refine Frame.step ?_ (State.owClean_frame _ _) rfl
        assumption
    · refine Frame.step ?_ (State.iwClean_frame _ _ _) rfl
      assumption
  clear_value x1
  refine Frame.step ?_ (State.setConds_frame _ _ _ _) rfl
  assumption

theorem State.evalRule_frame (s : State) (a1 : ℕ) (a2 : ℕ) : Frame 0x40001 s (State.evalRule s a1 a2).1 := by
  unfold State.evalRule
  extract_lets +onlyGivenNames x1
  clear_value x1
  extract_lets +onlyGivenNames x2
  clear_value x2
  extract_lets +onlyGivenNames x3
  clear_value x3
  extract_lets +onlyGivenNames x4
  clear_value x4
  extract_lets +onlyGivenNames x5
  refine Frame.local x5 ?_ fun h5 => ?_
  · subst x5
    refine Frame.step ?_ (State.setRule_frame _ _ _) rfl
    refine Frame.step ?_ (State.put_frame _ _ _) rfl
    exact Frame.refl _ _
  clear_value x5
  extract_lets +onlyGivenNames x6
  refine Frame.local x6 ?_ fun h6 => ?_
  · subst x6
    refine Frame.ite (fun _ => ?_) fun _ => ?_
    · refine Frame.step ?_ (State.put_frame _ _ _) rfl
      assumption
    · refine Frame.ite (fun _ => ?_) fun _ => ?_
      · refine Frame.step ?_ (State.put_frame _ _ _) rfl
        assumption
      · assumption
  clear_value x6
  refine Frame.step ?_ (State.settleRule_frame _ _) rfl
  assumption

theorem State.evalRules_frame (s : State) (a1 : VecUpdate) : Frame 0x22533c1 s (State.evalRules s a1) := by
  unfold State.evalRules
  extract_lets +onlyGivenNames x1
  clear_value x1
  split
  extract_lets +onlyGivenNames x2
  refine Frame.local x2 ?_ fun h2 => ?_
  · subst x2
    refine Frame.step ?_ (State.deviceMet_frame _ _ _) rfl
    refine Frame.ofFst (by assumption) ?_
    refine Frame.foldlFst ?_ fun _ _ _ => ?_
    · dsimp -zeta only
      exact Frame.refl _ _
    · split
      dsimp -zeta only
      refine Frame.step ?_ (Frame.ofFst ‹State.evalRule _ _ _ = _› (State.evalRule_frame _ _ _)) rfl
      assumption
  clear_value x2
  refine Frame.step ?_ (State.ruleEdges_frame _ _ _ _) rfl
  refine Frame.upd ?_ rfl
  assumption

theorem State.ruleEval_frame (s : State) : Frame 0x22533c1 s (State.ruleEval s) := by
  unfold State.ruleEval
  split
  · exact Frame.refl _ _
  · refine Frame.step ?_ (State.evalRules_frame _ _) rfl
    refine Frame.upd ?_ rfl
    exact Frame.refl _ _

theorem State.detectionMiss_frame (s : State) (a1 : ℕ) (a2 : ℕ) : Frame 0x40181 s (State.detectionMiss s a1 a2) := by
  unfold State.detectionMiss
  refine Frame.ite (fun _ => ?_) fun _ => ?_
  · refine Frame.step ?_ (State.deviceMiss_frame _ _) rfl
    refine Frame.step ?_ (State.raise_frame _ _ _ _ _ _) rfl
    refine Frame.step ?_ (State.count_frame _ _) rfl
    exact Frame.refl _ _
  · refine Frame.ite (fun _ => ?_) fun _ => ?_
    · refine Frame.step ?_ (State.deviceMiss_frame _ _) rfl
      refine Frame.step ?_ (State.raise_frame _ _ _ _ _ _) rfl
      refine Frame.step ?_ (State.count_frame _ _) rfl
      refine Frame.step ?_ (State.setOw_frame _ _ _) rfl
      exact Frame.refl _ _
    · refine Frame.ite (fun _ => ?_) fun _ => ?_
      · refine Frame.step ?_ (State.deviceMiss_frame _ _) rfl
        refine Frame.step ?_ (State.raise_frame _ _ _ _ _ _) rfl
        refine Frame.step ?_ (State.count_frame _ _) rfl
        exact Frame.refl _ _
      · refine Frame.ite (fun _ => ?_) fun _ => ?_
        · refine Frame.step ?_ (State.deviceMiss_frame _ _) rfl
          refine Frame.step ?_ (State.raise_frame _ _ _ _ _ _) rfl
          refine Frame.step ?_ (State.count_frame _ _) rfl
          exact Frame.refl _ _
        · refine Frame.step ?_ (State.deviceMiss_frame _ _) rfl
          refine Frame.step ?_ (State.raise_frame _ _ _ _ _ _) rfl
          refine Frame.step ?_ (State.count_frame _ _) rfl
          refine Frame.upd ?_ rfl
          exact Frame.refl _ _

theorem execDetectionDeadlineMiss_frame (a0 : ℕ) (a1 : ℕ) (s : State) (t : State) (h : execDetectionDeadlineMiss a0 a1 s = .next t) : Frame 0x40181 s t := by
  unfold execDetectionDeadlineMiss at h
  refine onEngines_frame h ?_
  refine Frame.step ?_ (State.detectionMiss_frame _ _ _) rfl
  exact Frame.refl _ _

theorem State.pinsWarm_frame (s : State) : Frame 0x2241001 s (State.pinsWarm s) := by
  unfold State.pinsWarm
  extract_lets +onlyGivenNames x1
  clear_value x1
  refine Frame.step ?_ (State.refreshPins_frame _) rfl
  refine Frame.upd ?_ rfl
  exact Frame.refl _ _

theorem execRuleMinOnEnd_frame (a0 : ℕ) (s : State) (t : State) (h : execRuleMinOnEnd a0 s = .next t) : Frame 0x22533c1 s t := by
  unfold execRuleMinOnEnd at h
  refine onEngines_frame h ?_
  refine Frame.step ?_ (State.resettle_frame _ _) rfl
  exact Frame.refl _ _

theorem execRuleEval_frame (s : State) (t : State) (h : execRuleEval s = .next t) : Frame 0x22533c1 s t := by
  unfold execRuleEval at h
  refine onEngines_frame h ?_
  refine Frame.step ?_ (State.ruleEval_frame _) rfl
  exact Frame.refl _ _

end Sys2Proof.Machine
end

