-- ==== Sys2Proof/Laws/FrameLedger.lean ====
section
/-!
SUPPORT. What each operation of Machine/Ledger.lean can change: one lemma an operation, with the mask of the parts of the state it
may touch (the bits are listed in Laws/Frame.lean).
-/

set_option linter.unusedVariables false
set_option Elab.async false

namespace Sys2Proof.Machine

theorem State.nextSave_frame (s : State) : Frame 0x800 s (State.nextSave s) := by
  unfold State.nextSave
  refine Frame.upd ?_ rfl
  exact Frame.refl _ _

theorem State.showQueue_frame (s : State) : Frame 0x1 s (State.showQueue s) := by
  unfold State.showQueue
  extract_lets +onlyGivenNames x1
  clear_value x1
  refine Frame.step ?_ (State.put_frame _ _ _) rfl
  refine Frame.step ?_ (State.put_frame _ _ _) rfl
  refine Frame.step ?_ (State.put_frame _ _ _) rfl
  exact Frame.refl _ _

theorem State.restoreQueue_frame (s : State) (a1 : ℕ) : Frame 0x981 s (State.restoreQueue s a1) := by
  unfold State.restoreQueue
  extract_lets +onlyGivenNames x1
  clear_value x1
  extract_lets +onlyGivenNames x2
  refine Frame.local x2 ?_ fun h2 => ?_
  · subst x2
    refine Frame.foldl ?_ fun _ _ _ => ?_
    · exact Frame.refl _ _
    · refine Frame.step ?_ (State.raise_frame _ _ _ _ _ _) rfl
      assumption
  clear_value x2
  extract_lets +onlyGivenNames x3
  refine Frame.local x3 ?_ fun h3 => ?_
  · subst x3
    refine Frame.foldl ?_ fun _ _ _ => ?_
    · assumption
    · extract_lets +onlyGivenNames x4
      extract_lets +onlyGivenNames x5
      refine Frame.local x5 ?_ fun h5 => ?_
      · subst x5
        refine Frame.ite (fun _ => ?_) fun _ => ?_
        · refine Frame.step ?_ (State.setPair_frame _ _ _ _) rfl
          assumption
        · assumption
      clear_value x5
      refine Frame.step ?_ (State.setMeter_frame _ _ _) rfl
      assumption
  clear_value x3
  extract_lets +onlyGivenNames x6
  clear_value x6
  extract_lets +onlyGivenNames x7
  refine Frame.local x7 ?_ fun h7 => ?_
  · subst x7
    refine Frame.step ?_ (State.setPair_frame _ _ _ _) rfl
    assumption
  clear_value x7
  extract_lets +onlyGivenNames x8
  clear_value x8
  extract_lets +onlyGivenNames x9
  refine Frame.local x9 ?_ fun h9 => ?_
  · subst x9
    refine Frame.step ?_ (State.setPair_frame _ _ _ _) rfl
    assumption
  clear_value x9
  extract_lets +onlyGivenNames x10
  extract_lets +onlyGivenNames x11
  refine Frame.local x11 ?_ fun h11 => ?_
  · subst x11
    refine Frame.upd ?_ rfl
    assumption
  clear_value x11
  refine Frame.step ?_ (State.showQueue_frame _) rfl
  refine Frame.step ?_ (State.ledgerAgain_frame _) rfl
  assumption

theorem State.restoreLane_frame (s : State) (a1 : ℕ) (a2 : CoreEntry) : Frame 0x801 s (State.restoreLane s a1 a2) := by
  unfold State.restoreLane
  extract_lets +onlyGivenNames x1
  refine Frame.local x1 ?_ fun h1 => ?_
  · subst x1
    refine Frame.step ?_ (State.setPair_frame _ _ _ _) rfl
    refine Frame.step ?_ (State.setPair_frame _ _ _ _) rfl
    exact Frame.refl _ _
  clear_value x1
  extract_lets +onlyGivenNames x2
  refine Frame.local x2 ?_ fun h2 => ?_
  · subst x2
    refine Frame.step ?_ (State.setPair_frame _ _ _ _) rfl
    refine Frame.step ?_ (State.setPair_frame _ _ _ _) rfl
    assumption
  clear_value x2
  extract_lets +onlyGivenNames x3
  refine Frame.local x3 ?_ fun h3 => ?_
  · subst x3
    refine Frame.step ?_ (State.put_frame _ _ _) rfl
    refine Frame.step ?_ (State.setPair_frame _ _ _ _) rfl
    assumption
  clear_value x3
  refine Frame.step ?_ (State.setMeter_frame _ _ _) rfl
  assumption

theorem State.restoreCore_frame (s : State) (a1 : Option ℕ) (a2 : ℕ) : Frame 0x201981 s (State.restoreCore s a1 a2) := by
  unfold State.restoreCore
  extract_lets +onlyGivenNames x1
  clear_value x1
  extract_lets +onlyGivenNames x2
  clear_value x2
  extract_lets +onlyGivenNames x3
  refine Frame.local x3 ?_ fun h3 => ?_
  · subst x3
    refine Frame.step ?_ (State.auditAdd_frame _ _) rfl
    refine Frame.step ?_ (State.nextSave_frame _) rfl
    exact Frame.refl _ _
  clear_value x3
  split
  · extract_lets +onlyGivenNames x4
    refine Frame.local x4 ?_ fun h4 => ?_
    · subst x4
      refine Frame.step ?_ (State.raise_frame _ _ _ _ _ _) rfl
      refine Frame.step ?_ (State.toRecovery_frame _) rfl
      refine Frame.step ?_ (State.put_frame _ _ _) rfl
      assumption
    clear_value x4
    extract_lets +onlyGivenNames x5
    extract_lets +onlyGivenNames x6
    refine Frame.local x6 ?_ fun h6 => ?_
    · subst x6
      refine Frame.upd ?_ rfl
      assumption
    clear_value x6
    refine Frame.step ?_ (State.restoreQueue_frame _ _) rfl
    assumption
  · extract_lets +onlyGivenNames x7
    clear_value x7
    extract_lets +onlyGivenNames x8
    clear_value x8
    extract_lets +onlyGivenNames x9
    refine Frame.local x9 ?_ fun h9 => ?_
    · subst x9
      refine Frame.foldl ?_ fun _ _ _ => ?_
      · assumption
      · refine Frame.step ?_ (State.restoreLane_frame _ _ _) rfl
        assumption
    clear_value x9
    extract_lets +onlyGivenNames x10
    refine Frame.local x10 ?_ fun h10 => ?_
    · subst x10
      refine Frame.step ?_ (State.put_frame _ _ _) rfl
      refine Frame.step ?_ (State.put_frame _ _ _) rfl
      assumption
    clear_value x10
    extract_lets +onlyGivenNames x11
    refine Frame.local x11 ?_ fun h11 => ?_
    · subst x11
      refine Frame.step ?_ (State.setPair_frame _ _ _ _) rfl
      refine Frame.step ?_ (State.put_frame _ _ _) rfl
      assumption
    clear_value x11
    extract_lets +onlyGivenNames x12
    clear_value x12
    extract_lets +onlyGivenNames x13
    extract_lets +onlyGivenNames x14
    refine Frame.local x14 ?_ fun h14 => ?_
    · subst x14
      refine Frame.upd ?_ rfl
      assumption
    clear_value x14
    refine Frame.step ?_ (State.restoreQueue_frame _ _) rfl
    refine Frame.when ?_ fun _ _ => ?_
    · assumption
    · refine Frame.step ?_ (State.toRecovery_frame _) rfl
      assumption

theorem State.extendRecord_frame (s : State) (a1 : ℕ) (a2 : PendClose) : Frame 0x2000a81 s (State.extendRecord s a1 a2) := by
  unfold State.extendRecord
  refine Frame.ite (fun _ => ?_) fun _ => ?_
  · extract_lets +onlyGivenNames x1
    refine Frame.local x1 ?_ fun h1 => ?_
    · subst x1
      refine Frame.step ?_ (State.setMeter_frame _ _ _) rfl
      exact Frame.refl _ _
    clear_value x1
    refine Frame.when ?_ fun _ _ => ?_
    · assumption
    · refine Frame.step ?_ (State.count_frame _ _) rfl
      assumption
  · split
    · refine Frame.step ?_ (State.complete_frame _ _) rfl
      exact Frame.refl _ _
    · exact Frame.refl _ _

theorem State.fillBody_frame (s : State) (a1 : QueuedBody) : Frame 0x800 s (State.fillBody s a1).2 := by
  unfold State.fillBody
  extract_lets +onlyGivenNames x1
  clear_value x1
  extract_lets +onlyGivenNames x2
  clear_value x2
  extract_lets +onlyGivenNames x3
  clear_value x3
  extract_lets +onlyGivenNames x4
  clear_value x4
  dsimp -zeta only
  refine Frame.step ?_ (State.setMeter_frame _ _ _) rfl
  exact Frame.refl _ _

theorem State.pushBody_frame (s : State) (a1 : LedgerBody) : Frame 0x200981 s (State.pushBody s a1) := by
  unfold State.pushBody
  extract_lets +onlyGivenNames x1
  clear_value x1
  extract_lets +onlyGivenNames x2
  clear_value x2
  extract_lets +onlyGivenNames x3
  clear_value x3
  extract_lets +onlyGivenNames x4
  clear_value x4
  extract_lets +onlyGivenNames x5
  refine Frame.local x5 ?_ fun h5 => ?_
  · subst x5
    refine Frame.step ?_ (State.digestItem_frame _ _ _ _ _) rfl
    exact Frame.refl _ _
  clear_value x5
  extract_lets +onlyGivenNames x6
  clear_value x6
  extract_lets +onlyGivenNames x7
  clear_value x7
  extract_lets +onlyGivenNames x8
  clear_value x8
  split
  extract_lets +onlyGivenNames x9
  refine Frame.local x9 ?_ fun h9 => ?_
  · subst x9
    refine Frame.step ?_ (State.setPair_frame _ _ _ _) rfl
    refine Frame.step ?_ (State.setPair_frame _ _ _ _) rfl
    refine Frame.ofSnd (by assumption) ?_
    refine Frame.iteSnd (fun _ => ?_) fun _ => ?_
    · refine Frame.step ?_ (State.fillBody_frame _ _) rfl
      refine Frame.when ?_ fun _ _ => ?_
      · assumption
      · refine Frame.step ?_ (State.setMeter_frame _ _ _) rfl
        assumption
    · dsimp -zeta only
      assumption
  clear_value x9
  extract_lets +onlyGivenNames x10
  extract_lets +onlyGivenNames x11
  refine Frame.local x11 ?_ fun h11 => ?_
  · subst x11
    refine Frame.upd ?_ rfl
    assumption
  clear_value x11
  refine Frame.step ?_ (State.fire_frame _ _) rfl
  refine Frame.step ?_ (State.showQueue_frame _) rfl
  assumption

theorem State.pushRecord_frame (s : State) (a1 : LedgerBody) (a2 : Option (ℕ × Word)) : Frame 0x2200b81 s (State.pushRecord s a1 a2) := by
  unfold State.pushRecord
  extract_lets +onlyGivenNames x1
  clear_value x1
  extract_lets +onlyGivenNames x2
  clear_value x2
  extract_lets +onlyGivenNames x3
  refine Frame.local x3 ?_ fun h3 => ?_
  · subst x3
    refine Frame.step ?_ (State.pushBody_frame _ _) rfl
    exact Frame.refl _ _
  clear_value x3
  split
  · refine Frame.step ?_ (State.complete_frame _ _) rfl
    assumption
  · assumption

theorem State.closeRecord_frame (s : State) (a1 : ℕ) (a2 : PendClose) : Frame 0x2200b81 s (State.closeRecord s a1 a2) := by
  unfold State.closeRecord
  extract_lets +onlyGivenNames x1
  clear_value x1
  extract_lets +onlyGivenNames x2
  clear_value x2
  refine Frame.ite (fun _ => ?_) fun _ => ?_
  · exact Frame.refl _ _
  · refine Frame.ite (fun _ => ?_) fun _ => ?_
    · refine Frame.step ?_ (State.extendRecord_frame _ _ _) rfl
      exact Frame.refl _ _
    · extract_lets +onlyGivenNames x3
      clear_value x3
      extract_lets +onlyGivenNames x4
      extract_lets +onlyGivenNames x5
      refine Frame.local x5 ?_ fun h5 => ?_
      · subst x5
        refine Frame.ite (fun _ => ?_) fun _ => ?_
        · refine Frame.upd ?_ rfl
          exact Frame.refl _ _
        · refine Frame.step ?_ (State.pushRecord_frame _ _ _) rfl
          exact Frame.refl _ _
      clear_value x5
      extract_lets +onlyGivenNames x6
      clear_value x6
      refine Frame.step ?_ (State.setMeter_frame _ _ _) rfl
      assumption

theorem State.closeDue_frame (a0 : ℕ) (a1 : ℕ) (a2 : ℕ) (s : State) : Frame 0x2200b81 s (State.closeDue a0 a1 a2 s) := by
  induction' a2 with n ih generalizing a0 a1 s
  · unfold State.closeDue
    exact Frame.refl _ _
  · unfold State.closeDue
    split
    · exact Frame.refl _ _
    · refine Frame.ite (fun _ => ?_) fun _ => ?_
      · refine Frame.step ?_ (ih _ _ _) rfl
        refine Frame.step ?_ (State.closeRecord_frame _ _ _) rfl
        refine Frame.step ?_ (State.setMeter_frame _ _ _) rfl
        exact Frame.refl _ _
      · exact Frame.refl _ _

theorem State.tryClose_frame (s : State) (a1 : ℕ) : Frame 0x2200b81 s (State.tryClose s a1) := by
  unfold State.tryClose
  refine Frame.step ?_ (State.closeDue_frame _ _ _ _) rfl
  exact Frame.refl _ _

theorem State.laneStops_frame (s : State) (a1 : ℕ) : Frame 0x2200b81 s (State.laneStops s a1) := by
  unfold State.laneStops
  refine Frame.step ?_ (State.tryClose_frame _ _) rfl
  refine Frame.step ?_ (State.endBlock_frame _ _ _) rfl
  exact Frame.refl _ _

theorem State.dropAble_frame (s : State) (a1 : ℕ) : Frame 0x2000a01 s (State.dropAble s a1) := by
  unfold State.dropAble
  extract_lets +onlyGivenNames x1
  clear_value x1
  extract_lets +onlyGivenNames x2
  refine Frame.local x2 ?_ fun h2 => ?_
  · subst x2
    refine Frame.step ?_ (State.setMeter_frame _ _ _) rfl
    exact Frame.refl _ _
  clear_value x2
  refine Frame.foldl ?_ fun _ _ _ => ?_
  · assumption
  · split
    · refine Frame.step ?_ (State.complete_frame _ _) rfl
      assumption
    · assumption

theorem State.refreshAble_frame (s : State) (a1 : ℕ) : Frame 0x2000a01 s (State.refreshAble s a1) := by
  unfold State.refreshAble
  extract_lets +onlyGivenNames x1
  clear_value x1
  refine Frame.ite (fun _ => ?_) fun _ => ?_
  · exact Frame.refl _ _
  · refine Frame.ite (fun _ => ?_) fun _ => ?_
    · extract_lets +onlyGivenNames x2
      clear_value x2
      refine Frame.step ?_ (State.setMeter_frame _ _ _) rfl
      exact Frame.refl _ _
    · refine Frame.ite (fun _ => ?_) fun _ => ?_
      · refine Frame.step ?_ (State.dropAble_frame _ _) rfl
        exact Frame.refl _ _
      · exact Frame.refl _ _

theorem State.markRecords_frame (s : State) (a1 : ℕ) (a2 : ℕ) : Frame 0x800 s (State.markRecords s a1 a2) := by
  unfold State.markRecords
  extract_lets +onlyGivenNames x1
  clear_value x1
  refine Frame.step ?_ (State.setMeter_frame _ _ _) rfl
  exact Frame.refl _ _

theorem State.modeCloses_frame (s : State) : Frame 0x800 s (State.modeCloses s) := by
  unfold State.modeCloses
  refine Frame.forEach ?_ fun _ _ _ => ?_
  · exact Frame.refl _ _
  · refine Frame.ite (fun _ => ?_) fun _ => ?_
    · extract_lets +onlyGivenNames x1
      clear_value x1
      extract_lets +onlyGivenNames x2
      refine Frame.local x2 ?_ fun h2 => ?_
      · subst x2
        refine Frame.step ?_ (State.markRecords_frame _ _ _) rfl
        assumption
      clear_value x2
      refine Frame.step ?_ (State.setMeter_frame _ _ _) rfl
      assumption
    · assumption

theorem State.recoverLedger_frame (s : State) : Frame 0x201981 s (State.recoverLedger s) := by
  unfold State.recoverLedger
  refine Frame.ite (fun _ => ?_) fun _ => ?_
  · exact Frame.refl _ _
  · refine Frame.step ?_ (State.modeCloses_frame _) rfl
    refine Frame.step ?_ (State.toRecovery_frame _) rfl
    exact Frame.refl _ _

theorem State.noteBooked_frame (s : State) (a1 : ℕ) (a2 : ℕ) : Frame 0x800 s (State.noteBooked s a1 a2) := by
  unfold State.noteBooked
  refine Frame.when ?_ fun _ _ => ?_
  · exact Frame.refl _ _
  · refine Frame.step ?_ (State.setMeter_frame _ _ _) rfl
    assumption

theorem State.bookNext_frame (s : State) (a1 : ℕ) (a2 : Bool) (a3 : Bool) : Frame 0x2201b81 s (State.bookNext s a1 a2 a3) := by
  unfold State.bookNext
  split
  · refine Frame.step ?_ (State.tryClose_frame _ _) rfl
    exact Frame.refl _ _
  · extract_lets +onlyGivenNames x1
    refine Frame.local x1 ?_ fun h1 => ?_
    · subst x1
      refine Frame.step ?_ (State.closeDue_frame _ _ _ _) rfl
      exact Frame.refl _ _
    clear_value x1
    split
    extract_lets +onlyGivenNames x2
    refine Frame.local x2 ?_ fun h2 => ?_
    · subst x2
      refine Frame.ite (fun _ => ?_) fun _ => ?_
      · refine Frame.step ?_ (Frame.ofFst ‹State.dualCheck _ _ _ _ _ = _› (State.dualCheck_frame _ _ _ _ _)) rfl
        assumption
      · refine Frame.step ?_ (State.recoverLedger_frame _) rfl
        refine Frame.step ?_ (Frame.ofFst ‹State.dualCheck _ _ _ _ _ = _› (State.dualCheck_frame _ _ _ _ _)) rfl
        assumption
    clear_value x2
    extract_lets +onlyGivenNames x3
    refine Frame.local x3 ?_ fun h3 => ?_
    · subst x3
      refine Frame.step ?_ (State.deviceMet_frame _ _ _) rfl
      refine Frame.step ?_ (State.setMeter_frame _ _ _) rfl
      assumption
    clear_value x3
    extract_lets +onlyGivenNames x4
    refine Frame.local x4 ?_ fun h4 => ?_
    · subst x4
      refine Frame.step ?_ (State.bookBlock_frame _ _ _ _) rfl
      assumption
    clear_value x4
    extract_lets +onlyGivenNames x5
    refine Frame.local x5 ?_ fun h5 => ?_
    · subst x5
      refine Frame.step ?_ (State.digestItem_frame _ _ _ _ _) rfl
      refine Frame.step ?_ (State.noteBooked_frame _ _ _) rfl
      assumption
    clear_value x5
    extract_lets +onlyGivenNames x6
    refine Frame.local x6 ?_ fun h6 => ?_
    · subst x6
      refine Frame.step ?_ (State.digestItem_frame _ _ _ _ _) rfl
      assumption
    clear_value x6
    refine Frame.step ?_ (State.tryClose_frame _ _) rfl
    assumption

theorem State.bookAll_frame (s : State) (a1 : ℕ) : Frame 0x2201b81 s (State.bookAll s a1) := by
  unfold State.bookAll
  refine Frame.foldl ?_ fun _ _ _ => ?_
  · exact Frame.refl _ _
  · refine Frame.step ?_ (State.bookNext_frame _ _ _ _) rfl
    assumption

theorem State.meterEnd_frame (s : State) (a1 : ℕ) : Frame 0x2201b81 s (State.meterEnd s a1) := by
  unfold State.meterEnd
  extract_lets +onlyGivenNames x1
  clear_value x1
  extract_lets +onlyGivenNames x2
  refine Frame.local x2 ?_ fun h2 => ?_
  · subst x2
    refine Frame.step ?_ (State.bookAll_frame _ _) rfl
    refine Frame.step ?_ (State.endBlock_frame _ _ _) rfl
    exact Frame.refl _ _
  clear_value x2
  extract_lets +onlyGivenNames x3
  clear_value x3
  extract_lets +onlyGivenNames x4
  refine Frame.local x4 ?_ fun h4 => ?_
  · subst x4
    refine Frame.step ?_ (State.closeDue_frame _ _ _ _) rfl
    assumption
  clear_value x4
  extract_lets +onlyGivenNames x5
  refine Frame.local x5 ?_ fun h5 => ?_
  · subst x5
    refine Frame.step ?_ (State.closeRecord_frame _ _ _) rfl
    assumption
  clear_value x5
  extract_lets +onlyGivenNames x6
  refine Frame.local x6 ?_ fun h6 => ?_
  · subst x6
    refine Frame.ite (fun _ => ?_) fun _ => ?_
    · refine Frame.step ?_ (State.closeRecord_frame _ _ _) rfl
      assumption
    · assumption
  clear_value x6
  extract_lets +onlyGivenNames x7
  refine Frame.local x7 ?_ fun h7 => ?_
  · subst x7
    refine Frame.step ?_ (State.setMeter_frame _ _ _) rfl
    assumption
  clear_value x7
  extract_lets +onlyGivenNames x8
  refine Frame.local x8 ?_ fun h8 => ?_
  · subst x8
    refine Frame.step ?_ (State.put_frame _ _ _) rfl
    refine Frame.step ?_ (State.put_frame _ _ _) rfl
    assumption
  clear_value x8
  refine Frame.ite (fun _ => ?_) fun _ => ?_
  · refine Frame.step ?_ (State.dropAble_frame _ _) rfl
    assumption
  · assumption

theorem State.pushHeld_frame (a0 : ℕ) (s : State) : Frame 0x2200b81 s (State.pushHeld a0 s) := by
  induction' a0 with n ih generalizing s
  · unfold State.pushHeld
    exact Frame.refl _ _
  · unfold State.pushHeld
    split
    · exact Frame.refl _ _
    · refine Frame.ite (fun _ => ?_) fun _ => ?_
      · exact Frame.refl _ _
      · refine Frame.step ?_ (ih _) rfl
        refine Frame.step ?_ (State.pushRecord_frame _ _ _) rfl
        refine Frame.upd ?_ rfl
        exact Frame.refl _ _

theorem State.freeBodies_frame (s : State) (a1 : ℕ) : Frame 0x2200b81 s (State.freeBodies s a1) := by
  unfold State.freeBodies
  extract_lets +onlyGivenNames x1
  extract_lets +onlyGivenNames x2
  refine Frame.local x2 ?_ fun h2 => ?_
  · subst x2
    refine Frame.step ?_ (State.showQueue_frame _) rfl
    refine Frame.upd ?_ rfl
    exact Frame.refl _ _
  clear_value x2
  refine Frame.step ?_ (State.pushHeld_frame _ _) rfl
  assumption

theorem State.ackWritten_frame (s : State) : Frame 0x3200bc1 s (State.ackWritten s) := by
  unfold State.ackWritten
  extract_lets +onlyGivenNames x1
  clear_value x1
  extract_lets +onlyGivenNames x2
  refine Frame.local x2 ?_ fun h2 => ?_
  · subst x2
    refine Frame.step ?_ (State.freeBodies_frame _ _) rfl
    exact Frame.refl _ _
  clear_value x2
  refine Frame.ite (fun _ => ?_) fun _ => ?_
  · refine Frame.step ?_ (State.cwSend_frame _ _ _) rfl
    assumption
  · assumption

theorem State.snapshot_frame (s : State) (a1 : ℕ) : Frame 0x800 s (State.snapshot s a1) := by
  unfold State.snapshot
  extract_lets +onlyGivenNames x1
  clear_value x1
  extract_lets +onlyGivenNames x2
  clear_value x2
  refine Frame.upd ?_ rfl
  exact Frame.refl _ _

theorem State.abandonSaves_frame (s : State) : Frame 0x800 s (State.abandonSaves s) := by
  unfold State.abandonSaves
  refine Frame.upd ?_ rfl
  exact Frame.refl _ _

theorem State.cutBlocks_frame (s : State) : Frame 0x2201b81 s (State.cutBlocks s) := by
  unfold State.cutBlocks
  refine Frame.forEach ?_ fun _ _ _ => ?_
  · exact Frame.refl _ _
  · extract_lets +onlyGivenNames x1
    refine Frame.local x1 ?_ fun h1 => ?_
    · subst x1
      refine Frame.step ?_ (State.setMeter_frame _ _ _) rfl
      assumption
    clear_value x1
    refine Frame.ite (fun _ => ?_) fun _ => ?_
    · refine Frame.step ?_ (State.bookAll_frame _ _) rfl
      refine Frame.step ?_ (State.endBlock_frame _ _ _) rfl
      assumption
    · assumption

theorem State.sessionClose_frame (s : State) (a1 : ℕ) (a2 : ℕ) (a3 : List Byte) (a4 : Option (ℕ × Word)) : Frame 0x800 s (State.sessionClose s a1 a2 a3 a4) := by
  unfold State.sessionClose
  extract_lets +onlyGivenNames x1
  clear_value x1
  extract_lets +onlyGivenNames x2
  clear_value x2
  refine Frame.step ?_ (State.setMeter_frame _ _ _) rfl
  exact Frame.refl _ _

theorem State.modeTo_frame (s : State) (a1 : ℕ) : Frame 0x201801 s (State.modeTo s a1) := by
  unfold State.modeTo
  extract_lets +onlyGivenNames x1
  refine Frame.local x1 ?_ fun h1 => ?_
  · subst x1
    refine Frame.step ?_ (State.put_frame _ _ _) rfl
    exact Frame.refl _ _
  clear_value x1
  extract_lets +onlyGivenNames x2
  refine Frame.local x2 ?_ fun h2 => ?_
  · subst x2
    refine Frame.when ?_ fun _ _ => ?_
    · assumption
    · refine Frame.forEach ?_ fun _ _ _ => ?_
      · assumption
      · refine Frame.step ?_ (State.setMeter_frame _ _ _) rfl
        refine Frame.step ?_ (State.setPair_frame _ _ _ _) rfl
        refine Frame.step ?_ (State.setPair_frame _ _ _ _) rfl
        assumption
  clear_value x2
  refine Frame.step ?_ (State.modeConds_frame _) rfl
  refine Frame.step ?_ (State.modeCloses_frame _) rfl
  assumption

theorem State.modeAudit_frame (s : State) (a1 : ℕ) (a2 : ℕ) : Frame 0x801 s (State.modeAudit s a1 a2) := by
  unfold State.modeAudit
  refine Frame.step ?_ (State.auditAdd_frame _ _) rfl
  refine Frame.step ?_ (State.sealBy_frame _ _) rfl
  exact Frame.refl _ _

theorem State.ledgerTimeStep_frame (s : State) (a1 : ℕ) : Frame 0x2201b81 s (State.ledgerTimeStep s a1) := by
  unfold State.ledgerTimeStep
  extract_lets +onlyGivenNames x1
  clear_value x1
  refine Frame.forEach ?_ fun _ _ _ => ?_
  · exact Frame.refl _ _
  · extract_lets +onlyGivenNames x2
    refine Frame.local x2 ?_ fun h2 => ?_
    · subst x2
      refine Frame.step ?_ (State.bookAll_frame _ _) rfl
      refine Frame.step ?_ (State.endBlock_frame _ _ _) rfl
      assumption
    clear_value x2
    refine Frame.ite (fun _ => ?_) fun _ => ?_
    · assumption
    · extract_lets +onlyGivenNames x3
      refine Frame.local x3 ?_ fun h3 => ?_
      · subst x3
        refine Frame.step ?_ (State.setMeter_frame _ _ _) rfl
        refine Frame.step ?_ (State.markRecords_frame _ _ _) rfl
        assumption
      clear_value x3
      extract_lets +onlyGivenNames x4
      clear_value x4
      refine Frame.ite (fun _ => ?_) fun _ => ?_
      · refine Frame.step ?_ (State.closeRecord_frame _ _ _) rfl
        refine Frame.step ?_ (State.closeDue_frame _ _ _ _) rfl
        assumption
      · assumption

theorem State.saveLate_frame (s : State) : Frame 0x981 s (State.saveLate s) := by
  unfold State.saveLate
  split
  · exact Frame.refl _ _
  · extract_lets +onlyGivenNames x1
    extract_lets +onlyGivenNames x2
    refine Frame.local x2 ?_ fun h2 => ?_
    · subst x2
      refine Frame.upd ?_ rfl
      exact Frame.refl _ _
    clear_value x2
    refine Frame.step ?_ (State.deviceMiss_frame _ _) rfl
    refine Frame.step ?_ (State.raise_frame _ _ _ _ _ _) rfl
    refine Frame.step ?_ (State.count_frame _ _) rfl
    assumption

theorem execBlockBook_frame (a0 : ℕ) (a1 : Bool) (a2 : Bool) (s : State) (t : State) (h : execBlockBook a0 a1 a2 s = .next t) : Frame 0x2201b81 s t := by
  unfold execBlockBook at h
  refine onEngines_frame h ?_
  refine Frame.step ?_ (State.bookNext_frame _ _ _ _) rfl
  exact Frame.refl _ _

theorem State.commitSave_frame (s : State) : Frame 0x981 s (State.commitSave s) := by
  unfold State.commitSave
  split
  · exact Frame.refl _ _
  · extract_lets +onlyGivenNames x1
    extract_lets +onlyGivenNames x2
    refine Frame.local x2 ?_ fun h2 => ?_
    · subst x2
      refine Frame.upd ?_ rfl
      exact Frame.refl _ _
    clear_value x2
    extract_lets +onlyGivenNames x3
    refine Frame.local x3 ?_ fun h3 => ?_
    · subst x3
      refine Frame.step ?_ (State.deviceMet_frame _ _ _) rfl
      assumption
    clear_value x3
    refine Frame.step ?_ (State.fire_frame _ _) rfl
    refine Frame.step ?_ (State.setPair_frame _ _ _ _) rfl
    assumption

theorem State.restartRecords_frame (s : State) (a1 : ℕ → ℕ) : Frame 0x2200b81 s (State.restartRecords s a1) := by
  unfold State.restartRecords
  split
  · exact Frame.refl _ _
  · extract_lets +onlyGivenNames x1
    extract_lets +onlyGivenNames x2
    refine Frame.local x2 ?_ fun h2 => ?_
    · subst x2
      refine Frame.upd ?_ rfl
      exact Frame.refl _ _
    clear_value x2
    refine Frame.forEach ?_ fun _ _ _ => ?_
    · assumption
    · extract_lets +onlyGivenNames x3
      clear_value x3
      extract_lets +onlyGivenNames x4
      clear_value x4
      refine Frame.ite (fun _ => ?_) fun _ => ?_
      · assumption
      · extract_lets +onlyGivenNames x5
        clear_value x5
        extract_lets +onlyGivenNames x6
        clear_value x6
        extract_lets +onlyGivenNames x7
        clear_value x7
        extract_lets +onlyGivenNames x8
        refine Frame.local x8 ?_ fun h8 => ?_
        · subst x8
          refine Frame.step ?_ (State.setMeter_frame _ _ _) rfl
          refine Frame.step ?_ (State.pushBody_frame _ _) rfl
          assumption
        clear_value x8
        refine Frame.ite (fun _ => ?_) fun _ => ?_
        · assumption
        · extract_lets +onlyGivenNames x9
          clear_value x9
          extract_lets +onlyGivenNames x10
          clear_value x10
          extract_lets +onlyGivenNames x11
          refine Frame.local x11 ?_ fun h11 => ?_
          · subst x11
            refine Frame.step ?_ (State.setMeter_frame _ _ _) rfl
            assumption
          clear_value x11
          refine Frame.ite (fun _ => ?_) fun _ => ?_
          · extract_lets +onlyGivenNames x12
            clear_value x12
            extract_lets +onlyGivenNames x13
            refine Frame.local x13 ?_ fun h13 => ?_
            · subst x13
              refine Frame.step ?_ (State.setMeter_frame _ _ _) rfl
              assumption
            clear_value x13
            extract_lets +onlyGivenNames x14
            refine Frame.local x14 ?_ fun h14 => ?_
            · subst x14
              refine Frame.step ?_ (State.closeRecord_frame _ _ _) rfl
              assumption
            clear_value x14
            refine Frame.step ?_ (State.setMeter_frame _ _ _) rfl
            assumption
          · refine Frame.step ?_ (State.setMeter_frame _ _ _) rfl
            assumption

theorem State.passBoundary_frame (s : State) (a1 : ℕ) : Frame 0x2200b81 s (State.passBoundary s a1) := by
  unfold State.passBoundary
  extract_lets +onlyGivenNames x1
  extract_lets +onlyGivenNames x2
  refine Frame.local x2 ?_ fun h2 => ?_
  · subst x2
    refine Frame.upd ?_ rfl
    exact Frame.refl _ _
  clear_value x2
  refine Frame.forEach ?_ fun _ _ _ => ?_
  · assumption
  · extract_lets +onlyGivenNames x3
    clear_value x3
    refine Frame.ite (fun _ => ?_) fun _ => ?_
    · refine Frame.ite (fun _ => ?_) fun _ => ?_
      · refine Frame.step ?_ (State.count_frame _ _) rfl
        refine Frame.step ?_ (State.setMeter_frame _ _ _) rfl
        assumption
      · refine Frame.step ?_ (State.tryClose_frame _ _) rfl
        refine Frame.step ?_ (State.setMeter_frame _ _ _) rfl
        assumption
    · assumption

theorem State.intervalBoundary_frame (s : State) : Frame 0x2200b81 s (State.intervalBoundary s) := by
  unfold State.intervalBoundary
  extract_lets +onlyGivenNames x1
  clear_value x1
  refine Frame.ite (fun _ => ?_) fun _ => ?_
  · refine Frame.step ?_ (State.passBoundary_frame _ _) rfl
    exact Frame.refl _ _
  · exact Frame.refl _ _

theorem State.spoilQueue_frame (s : State) (a1 : ℕ) (a2 : ℕ) : Frame 0x800 s (State.spoilQueue s a1 a2) := by
  unfold State.spoilQueue
  refine Frame.upd ?_ rfl
  exact Frame.refl _ _

theorem State.setMode_frame (s : State) (a1 : CmdHeader) (a2 : ℕ) : Frame 0x2201a41 s (State.setMode s a1 a2) := by
  unfold State.setMode
  extract_lets +onlyGivenNames x1
  clear_value x1
  extract_lets +onlyGivenNames x2
  clear_value x2
  refine Frame.ite (fun _ => ?_) fun _ => ?_
  · refine Frame.step ?_ (State.finish_frame _ _ _ _ _ _ _) rfl
    exact Frame.refl _ _
  · refine Frame.ite (fun _ => ?_) fun _ => ?_
    · refine Frame.step ?_ (State.finish_frame _ _ _ _ _ _ _) rfl
      refine Frame.step ?_ (State.orderLog_frame _ _) rfl
      exact Frame.refl _ _
    · refine Frame.ite (fun _ => ?_) fun _ => ?_
      · refine Frame.step ?_ (State.finish_frame _ _ _ _ _ _ _) rfl
        exact Frame.refl _ _
      · refine Frame.ite (fun _ => ?_) fun _ => ?_
        · refine Frame.step ?_ (State.finish_frame _ _ _ _ _ _ _) rfl
          exact Frame.refl _ _
        · extract_lets +onlyGivenNames x3
          refine Frame.local x3 ?_ fun h3 => ?_
          · subst x3
            refine Frame.step ?_ (State.modeAudit_frame _ _ _) rfl
            exact Frame.refl _ _
          clear_value x3
          extract_lets +onlyGivenNames x4
          refine Frame.local x4 ?_ fun h4 => ?_
          · subst x4
            refine Frame.step ?_ (State.orderLog_frame _ _) rfl
            assumption
          clear_value x4
          extract_lets +onlyGivenNames x5
          clear_value x5
          extract_lets +onlyGivenNames x6
          refine Frame.local x6 ?_ fun h6 => ?_
          · subst x6
            refine Frame.ite (fun _ => ?_) fun _ => ?_
            · refine Frame.upd ?_ rfl
              assumption
            · refine Frame.step ?_ (State.modeTo_frame _ _) rfl
              assumption
          clear_value x6
          refine Frame.step ?_ (State.finish_frame _ _ _ _ _ _ _) rfl
          assumption

theorem execMetrologyMode_frame (a0 : CmdHeader) (a1 : ℕ) (s : State) (t : State) (h : execMetrologyMode a0 a1 s = .next t) : Frame 0x2201a41 s t := by
  unfold execMetrologyMode at h
  refine onCore_frame h ?_
  refine State.command_frame ?_ rfl fun _ _ => ?_
  · exact Frame.refl _ _
  · refine Frame.step ?_ (State.setMode_frame _ _ _) rfl
    assumption

theorem State.blockLate_frame (s : State) (a1 : ℕ) : Frame 0x981 s (State.blockLate s a1) := by
  unfold State.blockLate
  split
  · refine Frame.ite (fun _ => ?_) fun _ => ?_
    · exact Frame.refl _ _
    · extract_lets +onlyGivenNames x1
      refine Frame.local x1 ?_ fun h1 => ?_
      · subst x1
        refine Frame.step ?_ (State.setMeter_frame _ _ _) rfl
        exact Frame.refl _ _
      clear_value x1
      refine Frame.step ?_ (State.deviceMiss_frame _ _) rfl
      refine Frame.step ?_ (State.raise_frame _ _ _ _ _ _) rfl
      refine Frame.step ?_ (State.count_frame _ _) rfl
      assumption
  · exact Frame.refl _ _

theorem execMeBlockDeadlineMiss_frame (a0 : ℕ) (s : State) (t : State) (h : execMeBlockDeadlineMiss a0 s = .next t) : Frame 0x981 s t := by
  unfold execMeBlockDeadlineMiss at h
  refine onEngines_frame h ?_
  refine Frame.step ?_ (State.blockLate_frame _ _) rfl
  exact Frame.refl _ _

theorem State.spoilSaves_frame (s : State) (a1 : ℕ) (a2 : ℕ) : Frame 0x800 s (State.spoilSaves s a1 a2) := by
  unfold State.spoilSaves
  extract_lets +onlyGivenNames x1
  clear_value x1
  refine Frame.upd ?_ rfl
  exact Frame.refl _ _

theorem State.recordClose_frame (s : State) (a1 : CmdHeader) (a2 : ℕ) (a3 : List Byte) : Frame 0x2000a41 s (State.recordClose s a1 a2 a3) := by
  unfold State.recordClose
  refine Frame.ite (fun _ => ?_) fun _ => ?_
  · refine Frame.step ?_ (State.finish_frame _ _ _ _ _ _ _) rfl
    exact Frame.refl _ _
  · refine Frame.ite (fun _ => ?_) fun _ => ?_
    · refine Frame.step ?_ (State.finish_frame _ _ _ _ _ _ _) rfl
      exact Frame.refl _ _
    · extract_lets +onlyGivenNames x1
      clear_value x1
      refine Frame.step ?_ (State.sessionClose_frame _ _ _ _ _) rfl
      refine Frame.step ?_ (State.orderLog_frame _ _) rfl
      exact Frame.refl _ _

theorem execLaneRecordClose_frame (a0 : CmdHeader) (a1 : ℕ) (a2 : List Byte) (s : State) (t : State) (h : execLaneRecordClose a0 a1 a2 s = .next t) : Frame 0x2000a41 s t := by
  unfold execLaneRecordClose at h
  refine onCore_frame h ?_
  refine State.command_frame ?_ rfl fun _ _ => ?_
  · exact Frame.refl _ _
  · refine Frame.step ?_ (State.recordClose_frame _ _ _ _) rfl
    assumption

theorem State.periodicSave_frame (s : State) : Frame 0x800 s (State.periodicSave s) := by
  unfold State.periodicSave
  refine Frame.ite (fun _ => ?_) fun _ => ?_
  · exact Frame.refl _ _
  · refine Frame.step ?_ (State.snapshot_frame _ _) rfl
    refine Frame.step ?_ (State.nextSave_frame _) rfl
    exact Frame.refl _ _

theorem execSaveSnapshot_frame (s : State) (t : State) (h : execSaveSnapshot s = .next t) : Frame 0x800 s t := by
  unfold execSaveSnapshot at h
  refine onEngines_frame h ?_
  refine Frame.step ?_ (State.periodicSave_frame _) rfl
  exact Frame.refl _ _

theorem execSaveCommit_frame (s : State) (t : State) (h : execSaveCommit s = .next t) : Frame 0x981 s t := by
  unfold execSaveCommit at h
  refine onCore_frame h ?_
  refine Frame.step ?_ (State.commitSave_frame _) rfl
  exact Frame.refl _ _

theorem execSaveDeadlineMiss_frame (s : State) (t : State) (h : execSaveDeadlineMiss s = .next t) : Frame 0x981 s t := by
  unfold execSaveDeadlineMiss at h
  refine onCore_frame h ?_
  refine Frame.step ?_ (State.saveLate_frame _) rfl
  exact Frame.refl _ _

theorem execIntervalBoundary_frame (s : State) (t : State) (h : execIntervalBoundary s = .next t) : Frame 0x2200b81 s t := by
  unfold execIntervalBoundary at h
  refine onEngines_frame h ?_
  refine Frame.step ?_ (State.intervalBoundary_frame _) rfl
  exact Frame.refl _ _

theorem State.setBody_frame (s : State) (a1 : ℕ) (a2 : QueuedBody → QueuedBody) : Frame 0x800 s (State.setBody s a1 a2) := by
  unfold State.setBody
  refine Frame.upd ?_ rfl
  exact Frame.refl _ _

theorem State.signNext_frame (s : State) : Frame 0x1100881 s (State.signNext s) := by
  unfold State.signNext
  refine Frame.ite (fun _ => ?_) fun _ => ?_
  · exact Frame.refl _ _
  · split
    · exact Frame.refl _ _
    · split
      split
      refine Frame.step ?_ (State.showQueue_frame _) rfl
      refine Frame.step ?_ (State.deviceMet_frame _ _ _) rfl
      refine Frame.step ?_ (State.setBody_frame _ _ _) rfl
      refine Frame.step ?_ (Frame.ofSnd ‹State.slhSignature _ _ _ _ = _› (State.slhSignature_frame _ _ _ _)) rfl
      refine Frame.ofSnd (by assumption) ?_
      refine Frame.iteSnd (fun _ => ?_) fun _ => ?_
      · dsimp -zeta only
        exact Frame.refl _ _
      · refine Frame.step ?_ (State.fillBody_frame _ _) rfl
        exact Frame.refl _ _

theorem execLedgerSign_frame (s : State) (t : State) (h : execLedgerSign s = .next t) : Frame 0x1100881 s t := by
  unfold execLedgerSign at h
  refine onEngines_frame h ?_
  refine Frame.step ?_ (State.signNext_frame _) rfl
  exact Frame.refl _ _

theorem State.placeNext_frame (s : State) : Frame 0x3200bc1 s (State.placeNext s) := by
  unfold State.placeNext
  split
  · exact Frame.refl _ _
  · split
    · exact Frame.refl _ _
    · extract_lets +onlyGivenNames x1
      clear_value x1
      extract_lets +onlyGivenNames x2
      clear_value x2
      refine Frame.ite (fun _ => ?_) fun _ => ?_
      · exact Frame.refl _ _
      · extract_lets +onlyGivenNames x3
        refine Frame.local x3 ?_ fun h3 => ?_
        · subst x3
          refine Frame.step ?_ (State.drPlace_frame _ _ _ _ _) rfl
          exact Frame.refl _ _
        clear_value x3
        extract_lets +onlyGivenNames x4
        refine Frame.local x4 ?_ fun h4 => ?_
        · subst x4
          refine Frame.step ?_ (State.setBody_frame _ _ _) rfl
          assumption
        clear_value x4
        refine Frame.ite (fun _ => ?_) fun _ => ?_
        · refine Frame.step ?_ (State.cwSend_frame _ _ _) rfl
          assumption
        · assumption

theorem execLedgerPlace_frame (s : State) (t : State) (h : execLedgerPlace s = .next t) : Frame 0x3200bc1 s t := by
  unfold execLedgerPlace at h
  refine onEngines_frame h ?_
  refine Frame.step ?_ (State.placeNext_frame _) rfl
  exact Frame.refl _ _

theorem State.signLate_frame (s : State) : Frame 0x981 s (State.signLate s) := by
  unfold State.signLate
  split
  · exact Frame.refl _ _
  · extract_lets +onlyGivenNames x1
    refine Frame.local x1 ?_ fun h1 => ?_
    · subst x1
      refine Frame.step ?_ (State.setBody_frame _ _ _) rfl
      exact Frame.refl _ _
    clear_value x1
    refine Frame.step ?_ (State.deviceMiss_frame _ _) rfl
    refine Frame.step ?_ (State.raise_frame _ _ _ _ _ _) rfl
    refine Frame.step ?_ (State.count_frame _ _) rfl
    assumption

theorem execSignDeadlineMiss_frame (s : State) (t : State) (h : execSignDeadlineMiss s = .next t) : Frame 0x981 s t := by
  unfold execSignDeadlineMiss at h
  refine onEngines_frame h ?_
  refine Frame.ite (fun _ => ?_) fun _ => ?_
  · refine Frame.step ?_ (State.signLate_frame _) rfl
    exact Frame.refl _ _
  · exact Frame.refl _ _

end Sys2Proof.Machine
end

