-- ==== Sys2Proof/Laws/FrameLanes.lean ====
section
/-!
SUPPORT. What each operation of Machine/Lanes.lean can change: one lemma an operation, with the mask of the parts of the state it
may touch (the bits are listed in Laws/Frame.lean).
-/

set_option linter.unusedVariables false
set_option Elab.async false

namespace Sys2Proof.Machine

theorem State.setLink_frame (s : State) (a1 : ℕ) (a2 : LaneLink → LaneLink) : Frame 0x4000 s (State.setLink s a1 a2) := by
  unfold State.setLink
  refine Frame.upd ?_ rfl
  exact Frame.refl _ _

theorem State.countLanes_frame (s : State) : Frame 0x1 s (State.countLanes s) := by
  unfold State.countLanes
  refine Frame.step ?_ (State.put_frame _ _ _) rfl
  refine Frame.step ?_ (State.put_frame _ _ _) rfl
  exact Frame.refl _ _

theorem State.laneTo_frame (s : State) (a1 : ℕ) (a2 : ℕ) (a3 : ℕ) : Frame 0x2205b81 s (State.laneTo s a1 a2 a3) := by
  unfold State.laneTo
  extract_lets +onlyGivenNames x1
  clear_value x1
  refine Frame.ite (fun _ => ?_) fun _ => ?_
  · refine Frame.step ?_ (State.put_frame _ _ _) rfl
    exact Frame.refl _ _
  · extract_lets +onlyGivenNames x2
    clear_value x2
    extract_lets +onlyGivenNames x3
    refine Frame.local x3 ?_ fun h3 => ?_
    · subst x3
      refine Frame.step ?_ (State.put_frame _ _ _) rfl
      refine Frame.step ?_ (State.put_frame _ _ _) rfl
      exact Frame.refl _ _
    clear_value x3
    extract_lets +onlyGivenNames x4
    refine Frame.local x4 ?_ fun h4 => ?_
    · subst x4
      refine Frame.step ?_ (State.setLink_frame _ _ _) rfl
      assumption
    clear_value x4
    extract_lets +onlyGivenNames x5
    refine Frame.local x5 ?_ fun h5 => ?_
    · subst x5
      refine Frame.ite (fun _ => ?_) fun _ => ?_
      · refine Frame.step ?_ (State.laneStops_frame _ _) rfl
        refine Frame.step ?_ (State.setLink_frame _ _ _) rfl
        assumption
      · assumption
    clear_value x5
    extract_lets +onlyGivenNames x6
    refine Frame.local x6 ?_ fun h6 => ?_
    · subst x6
      split
      · refine Frame.step ?_ (State.raise_frame _ _ _ _ _ _) rfl
        assumption
      · assumption
    clear_value x6
    refine Frame.step ?_ (State.fire_frame _ _) rfl
    refine Frame.step ?_ (State.laneConds_frame _) rfl
    refine Frame.step ?_ (State.countLanes_frame _) rfl
    assumption

theorem State.showLane_frame (s : State) (a1 : ℕ) : Frame 0x1 s (State.showLane s a1) := by
  unfold State.showLane
  refine Frame.step ?_ (State.put_frame _ _ _) rfl
  refine Frame.step ?_ (State.put_frame _ _ _) rfl
  exact Frame.refl _ _

theorem State.laneOff_frame (s : State) (a1 : ℕ) : Frame 0x2205b81 s (State.laneOff s a1) := by
  unfold State.laneOff
  extract_lets +onlyGivenNames x1
  refine Frame.local x1 ?_ fun h1 => ?_
  · subst x1
    refine Frame.step ?_ (State.laneTo_frame _ _ _ _) rfl
    exact Frame.refl _ _
  clear_value x1
  extract_lets +onlyGivenNames x2
  refine Frame.local x2 ?_ fun h2 => ?_
  · subst x2
    refine Frame.step ?_ (State.setLink_frame _ _ _) rfl
    assumption
  clear_value x2
  extract_lets +onlyGivenNames x3
  refine Frame.local x3 ?_ fun h3 => ?_
  · subst x3
    refine Frame.forEach ?_ fun _ _ _ => ?_
    · assumption
    · extract_lets +onlyGivenNames x4
      refine Frame.local x4 ?_ fun h4 => ?_
      · subst x4
        refine Frame.step ?_ (State.setWord_frame _ _ _) rfl
        refine Frame.step ?_ (State.setWord_frame _ _ _) rfl
        refine Frame.step ?_ (State.setWord_frame _ _ _) rfl
        assumption
      clear_value x4
      refine Frame.forEach ?_ fun _ _ _ => ?_
      · assumption
      · refine Frame.step ?_ (State.setWord_frame _ _ _) rfl
        refine Frame.step ?_ (State.setWord_frame _ _ _) rfl
        assumption
  clear_value x3
  refine Frame.step ?_ (State.showLane_frame _ _) rfl
  assumption

theorem State.forget_frame (s : State) (a1 : ℕ) (a2 : Bool) : Frame 0x4000 s (State.forget s a1 a2) := by
  unfold State.forget
  refine Frame.step ?_ (State.setLink_frame _ _ _) rfl
  exact Frame.refl _ _

theorem laneEffect_frame (a0 : ℕ) (a1 : List ℕ) (a2 : Word) (a3 : Word) (s : State) : Frame 0x2205b81 s (laneEffect a0 a1 a2 a3 s) := by
  unfold laneEffect
  split
  · extract_lets +onlyGivenNames x1
    refine Frame.local x1 ?_ fun h1 => ?_
    · subst x1
      refine Frame.ite (fun _ => ?_) fun _ => ?_
      · refine Frame.step ?_ (State.laneOff_frame _ _) rfl
        exact Frame.refl _ _
      · exact Frame.refl _ _
    clear_value x1
    extract_lets +onlyGivenNames x2
    refine Frame.local x2 ?_ fun h2 => ?_
    · subst x2
      refine Frame.step ?_ (State.put_frame _ _ _) rfl
      assumption
    clear_value x2
    extract_lets +onlyGivenNames x3
    refine Frame.local x3 ?_ fun h3 => ?_
    · subst x3
      refine Frame.step ?_ (State.showService_frame _ _) rfl
      refine Frame.step ?_ (State.showService_frame _ _) rfl
      assumption
    clear_value x3
    refine Frame.step ?_ (State.showLane_frame _ _) rfl
    refine Frame.step ?_ (State.refreshAble_frame _ _) rfl
    assumption
  · refine Frame.step ?_ (State.setLink_frame _ _ _) rfl
    exact Frame.refl _ _
  · extract_lets +onlyGivenNames x4
    refine Frame.local x4 ?_ fun h4 => ?_
    · subst x4
      refine Frame.ite (fun _ => ?_) fun _ => ?_
      · exact Frame.refl _ _
      · refine Frame.step ?_ (State.setLink_frame _ _ _) rfl
        exact Frame.refl _ _
    clear_value x4
    extract_lets +onlyGivenNames x5
    refine Frame.local x5 ?_ fun h5 => ?_
    · subst x5
      refine Frame.foldl ?_ fun _ _ _ => ?_
      · assumption
      · refine Frame.step ?_ (State.showService_frame _ _) rfl
        assumption
    clear_value x5
    refine Frame.step ?_ (State.showLane_frame _ _) rfl
    assumption
  · refine Frame.ite (fun _ => ?_) fun _ => ?_
    · refine Frame.step ?_ (State.laneTo_frame _ _ _ _) rfl
      refine Frame.step ?_ (State.forget_frame _ _ _) rfl
      exact Frame.refl _ _
    · exact Frame.refl _ _
  · refine Frame.step ?_ (State.put_frame _ _ _) rfl
    exact Frame.refl _ _
  · exact Frame.refl _ _

theorem State.lanesWarm_frame (s : State) : Frame 0x2205b81 s (State.lanesWarm s) := by
  unfold State.lanesWarm
  refine Frame.forEach ?_ fun _ _ _ => ?_
  · exact Frame.refl _ _
  · extract_lets +onlyGivenNames x1
    refine Frame.local x1 ?_ fun h1 => ?_
    · subst x1
      refine Frame.ite (fun _ => ?_) fun _ => ?_
      · assumption
      · refine Frame.step ?_ (State.laneTo_frame _ _ _ _) rfl
        assumption
    clear_value x1
    refine Frame.ite (fun _ => ?_) fun _ => ?_
    · assumption
    · refine Frame.step ?_ (State.setLink_frame _ _ _) rfl
      assumption

theorem State.lanesStep_frame (s : State) : Frame 0x2205b81 s (State.lanesStep s) := by
  unfold State.lanesStep
  refine Frame.forEach ?_ fun _ _ _ => ?_
  · exact Frame.refl _ _
  · refine Frame.ite (fun _ => ?_) fun _ => ?_
    · refine Frame.step ?_ (State.laneTo_frame _ _ _ _) rfl
      refine Frame.step ?_ (State.forget_frame _ _ _) rfl
      assumption
    · assumption

theorem State.keepPos_frame (s : State) (a1 : ℕ) (a2 : LanePos) : Frame 0x10000 s (State.keepPos s a1 a2) := by
  unfold State.keepPos
  refine Frame.upd ?_ rfl
  exact Frame.refl _ _

theorem State.release_frame (s : State) (a1 : ℕ) (a2 : ℕ) (a3 : ℕ) (a4 : ℕ) (a5 : List (List LaneSample)) : Frame 0x214981 s (State.release s a1 a2 a3 a4 a5) := by
  unfold State.release
  extract_lets +onlyGivenNames x1
  refine Frame.local x1 ?_ fun h1 => ?_
  · subst x1
    refine Frame.step ?_ (State.setLink_frame _ _ _) rfl
    exact Frame.refl _ _
  clear_value x1
  refine Frame.ite (fun _ => ?_) fun _ => ?_
  · assumption
  · extract_lets +onlyGivenNames x2
    clear_value x2
    extract_lets +onlyGivenNames x3
    refine Frame.local x3 ?_ fun h3 => ?_
    · subst x3
      refine Frame.step ?_ (State.setLink_frame _ _ _) rfl
      assumption
    clear_value x3
    extract_lets +onlyGivenNames x4
    clear_value x4
    extract_lets +onlyGivenNames x5
    clear_value x5
    extract_lets +onlyGivenNames x6
    refine Frame.local x6 ?_ fun h6 => ?_
    · subst x6
      refine Frame.when ?_ fun _ _ => ?_
      · assumption
      · refine Frame.step ?_ (State.count_frame _ _) rfl
        assumption
    clear_value x6
    extract_lets +onlyGivenNames x7
    refine Frame.local x7 ?_ fun h7 => ?_
    · subst x7
      refine Frame.ite (fun _ => ?_) fun _ => ?_
      · refine Frame.step ?_ (State.deviceMiss_frame _ _) rfl
        refine Frame.step ?_ (State.raise_frame _ _ _ _ _ _) rfl
        refine Frame.step ?_ (State.count_frame _ _) rfl
        assumption
      · refine Frame.step ?_ (State.deviceMet_frame _ _ _) rfl
        assumption
    clear_value x7
    extract_lets +onlyGivenNames x8
    clear_value x8
    extract_lets +onlyGivenNames x9
    refine Frame.local x9 ?_ fun h9 => ?_
    · subst x9
      refine Frame.step ?_ (State.digestItem_frame _ _ _ _ _) rfl
      assumption
    clear_value x9
    extract_lets +onlyGivenNames x10
    refine Frame.local x10 ?_ fun h10 => ?_
    · subst x10
      refine Frame.step ?_ (State.keepPos_frame _ _ _) rfl
      assumption
    clear_value x10
    extract_lets +onlyGivenNames x11
    clear_value x11
    refine Frame.step ?_ (State.meterPosition_frame _ _ _ _ _ _ _) rfl
    assumption

theorem State.releaseGap_frame (s : State) (a1 : ℕ) (a2 : ℕ) (a3 : ℕ) : Frame 0x2215b81 s (State.releaseGap s a1 a2 a3) := by
  unfold State.releaseGap
  refine Frame.ite (fun _ => ?_) fun _ => ?_
  · refine Frame.step ?_ (State.setLink_frame _ _ _) rfl
    exact Frame.refl _ _
  · extract_lets +onlyGivenNames x1
    refine Frame.local x1 ?_ fun h1 => ?_
    · subst x1
      refine Frame.step ?_ (State.setLink_frame _ _ _) rfl
      exact Frame.refl _ _
    clear_value x1
    extract_lets +onlyGivenNames x2
    refine Frame.local x2 ?_ fun h2 => ?_
    · subst x2
      refine Frame.ite (fun _ => ?_) fun _ => ?_
      · refine Frame.step ?_ (State.setLink_frame _ _ _) rfl
        assumption
      · assumption
    clear_value x2
    extract_lets +onlyGivenNames x3
    refine Frame.local x3 ?_ fun h3 => ?_
    · subst x3
      refine Frame.ite (fun _ => ?_) fun _ => ?_
      · refine Frame.step ?_ (State.laneTo_frame _ _ _ _) rfl
        assumption
      · assumption
    clear_value x3
    refine Frame.step ?_ (State.release_frame _ _ _ _ _ _) rfl
    assumption

theorem State.gapDue_frame (s : State) (a1 : ℕ) (a2 : ℕ) : Frame 0x2215b81 s (State.gapDue s a1 a2) := by
  unfold State.gapDue
  split
  · extract_lets +onlyGivenNames x1
    clear_value x1
    refine Frame.ite (fun _ => ?_) fun _ => ?_
    · refine Frame.step ?_ (State.releaseGap_frame _ _ _ _) rfl
      exact Frame.refl _ _
    · exact Frame.refl _ _
  · exact Frame.refl _ _

theorem execLaneDeadlineMiss_frame (a0 : ℕ) (s : State) (t : State) (h : execLaneDeadlineMiss a0 s = .next t) : Frame 0x2215b81 s t := by
  unfold execLaneDeadlineMiss at h
  refine onEngines_frame h ?_
  refine Frame.step ?_ (State.gapDue_frame _ _ _) rfl
  exact Frame.refl _ _

theorem State.keySwap_frame {s t : State} {n : Nat} (h : s.keySwap n = some t) : Frame 0x4801 s t := by
  unfold State.keySwap at h
  split at h
  · cases h
  · cases h
    refine Frame.step ?_ (State.showService_frame _ _) rfl
    refine Frame.step ?_ (State.showService_frame _ _) rfl
    refine Frame.step ?_ (State.showLane_frame _ _) rfl
    refine Frame.step ?_ (State.setLink_frame _ _ _) rfl
    refine Frame.step ?_ (State.auditAdd_frame _ _) rfl
    refine Frame.step ?_ (State.put_frame _ _ _) rfl
    refine Frame.step ?_ (State.put_frame _ _ _) rfl
    exact Frame.refl _ _

theorem State.authenticate_frame (s : State) (a1 : ℕ) (a2 : ℕ) (a3 : ℕ) (a4 : ℕ) (a5 : List Byte) (a6 : ℕ) : Frame 0x4181 s (State.authenticate s a1 a2 a3 a4 a5 a6).1 := by
  unfold State.authenticate
  refine Frame.iteFst (fun _ => ?_) fun _ => ?_
  · dsimp -zeta only
    refine Frame.step ?_ (State.count_frame _ _) rfl
    exact Frame.refl _ _
  · refine Frame.iteFst (fun _ => ?_) fun _ => ?_
    · dsimp -zeta only
      refine Frame.step ?_ (State.count_frame _ _) rfl
      exact Frame.refl _ _
    · split
      · dsimp -zeta only
        refine Frame.step ?_ (State.count_frame _ _) rfl
        exact Frame.refl _ _
      · split
        · dsimp -zeta only
          refine Frame.step ?_ (State.raise_frame _ _ _ _ _ _) rfl
          refine Frame.step ?_ (State.count_frame _ _) rfl
          exact Frame.refl _ _
        · dsimp -zeta only
          refine Frame.ite (fun _ => ?_) fun _ => ?_
          · refine Frame.step ?_ (State.showLane_frame _ _) rfl
            refine Frame.step ?_ (State.setLink_frame _ _ _) rfl
            exact Frame.refl _ _
          · exact Frame.refl _ _

theorem State.laneFault_frame (s : State) (a1 : ℕ) (a2 : ℕ) (a3 : ℕ) : Frame 0x2205b81 s (State.laneFault s a1 a2 a3) := by
  unfold State.laneFault
  refine Frame.step ?_ (State.laneTo_frame _ _ _ _) rfl
  refine Frame.step ?_ (State.count_frame _ _) rfl
  exact Frame.refl _ _

theorem State.noteAccepted_frame (s : State) (a1 : ℕ) (a2 : Accepted) : Frame 0x4981 s (State.noteAccepted s a1 a2) := by
  unfold State.noteAccepted
  extract_lets +onlyGivenNames x1
  clear_value x1
  extract_lets +onlyGivenNames x2
  refine Frame.local x2 ?_ fun h2 => ?_
  · subst x2
    refine Frame.step ?_ (State.put_frame _ _ _) rfl
    refine Frame.step ?_ (State.put_frame _ _ _) rfl
    exact Frame.refl _ _
  clear_value x2
  extract_lets +onlyGivenNames x3
  refine Frame.local x3 ?_ fun h3 => ?_
  · subst x3
    refine Frame.step ?_ (State.setPair_frame _ _ _ _) rfl
    assumption
  clear_value x3
  extract_lets +onlyGivenNames x4
  refine Frame.local x4 ?_ fun h4 => ?_
  · subst x4
    split
    · refine Frame.step ?_ (State.put_frame _ _ _) rfl
      refine Frame.step ?_ (State.put_frame _ _ _) rfl
      assumption
    · assumption
  clear_value x4
  extract_lets +onlyGivenNames x5
  clear_value x5
  extract_lets +onlyGivenNames x6
  refine Frame.local x6 ?_ fun h6 => ?_
  · subst x6
    refine Frame.step ?_ (State.setLink_frame _ _ _) rfl
    assumption
  clear_value x6
  extract_lets +onlyGivenNames x7
  refine Frame.local x7 ?_ fun h7 => ?_
  · subst x7
    refine Frame.when ?_ fun _ _ => ?_
    · assumption
    · refine Frame.step ?_ (State.markRecords_frame _ _ _) rfl
      assumption
  clear_value x7
  refine Frame.when ?_ fun _ _ => ?_
  · assumption
  · refine Frame.step ?_ (State.raise_frame _ _ _ _ _ _) rfl
    assumption

theorem State.holdBlock_frame (s : State) (a1 : ℕ) (a2 : Accepted) : Frame 0x4000 s (State.holdBlock s a1 a2) := by
  unfold State.holdBlock
  refine Frame.step ?_ (State.setLink_frame _ _ _) rfl
  exact Frame.refl _ _

theorem State.releaseGood_frame (s : State) (a1 : ℕ) (a2 : Accepted) : Frame 0x214981 s (State.releaseGood s a1 a2) := by
  unfold State.releaseGood
  refine Frame.step ?_ (State.release_frame _ _ _ _ _ _) rfl
  refine Frame.step ?_ (State.setLink_frame _ _ _) rfl
  exact Frame.refl _ _

theorem State.closeGaps_frame (s : State) (a1 : ℕ) (a2 : ℕ) : Frame 0x2215b81 s (State.closeGaps s a1 a2) := by
  unfold State.closeGaps
  split
  · extract_lets +onlyGivenNames x1
    clear_value x1
    refine Frame.ite (fun _ => ?_) fun _ => ?_
    · refine Frame.foldl ?_ fun _ _ _ => ?_
      · exact Frame.refl _ _
      · refine Frame.step ?_ (State.releaseGap_frame _ _ _ _) rfl
        assumption
    · exact Frame.refl _ _
  · exact Frame.refl _ _

theorem State.accept_frame (s : State) (a1 : ℕ) (a2 : Accepted) : Frame 0x2215b81 s (State.accept s a1 a2) := by
  unfold State.accept
  extract_lets +onlyGivenNames x1
  refine Frame.local x1 ?_ fun h1 => ?_
  · subst x1
    refine Frame.step ?_ (State.countN_frame _ _ _) rfl
    refine Frame.step ?_ (State.count_frame _ _) rfl
    exact Frame.refl _ _
  clear_value x1
  refine Frame.ite (fun _ => ?_) fun _ => ?_
  · assumption
  · extract_lets +onlyGivenNames x2
    refine Frame.local x2 ?_ fun h2 => ?_
    · subst x2
      refine Frame.step ?_ (State.noteAccepted_frame _ _ _) rfl
      assumption
    clear_value x2
    extract_lets +onlyGivenNames x3
    clear_value x3
    extract_lets +onlyGivenNames x4
    clear_value x4
    refine Frame.ite (fun _ => ?_) fun _ => ?_
    · extract_lets +onlyGivenNames x5
      refine Frame.local x5 ?_ fun h5 => ?_
      · subst x5
        refine Frame.step ?_ (State.setLink_frame _ _ _) rfl
        refine Frame.step ?_ (State.holdBlock_frame _ _ _) rfl
        assumption
      clear_value x5
      refine Frame.ite (fun _ => ?_) fun _ => ?_
      · refine Frame.step ?_ (State.releaseGood_frame _ _ _) rfl
        refine Frame.step ?_ (State.laneTo_frame _ _ _ _) rfl
        assumption
      · refine Frame.step ?_ (State.setLink_frame _ _ _) rfl
        refine Frame.step ?_ (State.laneTo_frame _ _ _ _) rfl
        assumption
    · extract_lets +onlyGivenNames x6
      clear_value x6
      extract_lets +onlyGivenNames x7
      refine Frame.local x7 ?_ fun h7 => ?_
      · subst x7
        refine Frame.step ?_ (State.closeGaps_frame _ _ _) rfl
        assumption
      clear_value x7
      extract_lets +onlyGivenNames x8
      clear_value x8
      extract_lets +onlyGivenNames x9
      clear_value x9
      refine Frame.ite (fun _ => ?_) fun _ => ?_
      · extract_lets +onlyGivenNames x10
        refine Frame.local x10 ?_ fun h10 => ?_
        · subst x10
          refine Frame.step ?_ (State.setLink_frame _ _ _) rfl
          refine Frame.step ?_ (State.holdBlock_frame _ _ _) rfl
          assumption
        clear_value x10
        refine Frame.ite (fun _ => ?_) fun _ => ?_
        · refine Frame.step ?_ (State.releaseGood_frame _ _ _) rfl
          refine Frame.step ?_ (State.laneTo_frame _ _ _ _) rfl
          assumption
        · assumption
      · refine Frame.ite (fun _ => ?_) fun _ => ?_
        · extract_lets +onlyGivenNames x11
          refine Frame.local x11 ?_ fun h11 => ?_
          · subst x11
            refine Frame.step ?_ (State.holdBlock_frame _ _ _) rfl
            assumption
          clear_value x11
          refine Frame.step ?_ (State.releaseGood_frame _ _ _) rfl
          refine Frame.ite (fun _ => ?_) fun _ => ?_
          · assumption
          · refine Frame.step ?_ (State.laneTo_frame _ _ _ _) rfl
            assumption
        · extract_lets +onlyGivenNames x12
          refine Frame.local x12 ?_ fun h12 => ?_
          · subst x12
            refine Frame.step ?_ (State.setLink_frame _ _ _) rfl
            refine Frame.step ?_ (State.holdBlock_frame _ _ _) rfl
            assumption
          clear_value x12
          extract_lets +onlyGivenNames x13
          refine Frame.local x13 ?_ fun h13 => ?_
          · subst x13
            refine Frame.ite (fun _ => ?_) fun _ => ?_
            · refine Frame.step ?_ (State.laneTo_frame _ _ _ _) rfl
              assumption
            · refine Frame.ite (fun _ => ?_) fun _ => ?_
              · assumption
              · refine Frame.step ?_ (State.laneTo_frame _ _ _ _) rfl
                assumption
          clear_value x13
          refine Frame.step ?_ (State.releaseGood_frame _ _ _) rfl
          assumption

theorem State.sampleSteps_frame (s : State) (a1 : ℕ) (a2 : ReedBlock) : Frame 0x2215b81 s (State.sampleSteps s a1 a2) := by
  unfold State.sampleSteps
  extract_lets +onlyGivenNames x1
  clear_value x1
  refine Frame.ite (fun _ => ?_) fun _ => ?_
  · refine Frame.step ?_ (State.laneFault_frame _ _ _ _) rfl
    exact Frame.refl _ _
  · refine Frame.ite (fun _ => ?_) fun _ => ?_
    · refine Frame.step ?_ (State.count_frame _ _) rfl
      exact Frame.refl _ _
    · extract_lets +onlyGivenNames x2
      clear_value x2
      refine Frame.ite (fun _ => ?_) fun _ => ?_
      · refine Frame.step ?_ (State.laneFault_frame _ _ _ _) rfl
        exact Frame.refl _ _
      · extract_lets +onlyGivenNames x3
        clear_value x3
        refine Frame.ite (fun _ => ?_) fun _ => ?_
        · refine Frame.step ?_ (State.count_frame _ _) rfl
          exact Frame.refl _ _
        · refine Frame.step ?_ (State.accept_frame _ _ _) rfl
          exact Frame.refl _ _

theorem State.sampleBlock_frame (s : State) (a1 : ReedBlock) : Frame 0x2215b81 s (State.sampleBlock s a1) := by
  unfold State.sampleBlock
  refine Frame.ite (fun _ => ?_) fun _ => ?_
  · exact Frame.refl _ _
  · refine Frame.ite (fun _ => ?_) fun _ => ?_
    · refine Frame.step ?_ (State.count_frame _ _) rfl
      exact Frame.refl _ _
    · refine Frame.ite (fun _ => ?_) fun _ => ?_
      · refine Frame.step ?_ (State.count_frame _ _) rfl
        exact Frame.refl _ _
      · extract_lets +onlyGivenNames x1
        clear_value x1
        split
        · refine Frame.step ?_ (Frame.ofFst ‹State.authenticate _ _ _ _ _ _ _ = _› (State.authenticate_frame _ _ _ _ _ _ _)) rfl
          exact Frame.refl _ _
        · refine Frame.step ?_ (State.sampleSteps_frame _ _ _) rfl
          refine Frame.step ?_ (Frame.ofFst ‹State.authenticate _ _ _ _ _ _ _ = _› (State.authenticate_frame _ _ _ _ _ _ _)) rfl
          exact Frame.refl _ _
        · split
          · refine Frame.step ?_ (State.sampleSteps_frame _ _ _) rfl
            refine Frame.step ?_ (State.keySwap_frame (by assumption)) rfl
            refine Frame.step ?_ (Frame.ofFst ‹State.authenticate _ _ _ _ _ _ _ = _› (State.authenticate_frame _ _ _ _ _ _ _)) rfl
            exact Frame.refl _ _
          · refine Frame.step ?_ (State.raise_frame _ _ _ _ _ _) rfl
            refine Frame.step ?_ (State.count_frame _ _) rfl
            refine Frame.step ?_ (Frame.ofFst ‹State.authenticate _ _ _ _ _ _ _ = _› (State.authenticate_frame _ _ _ _ _ _ _)) rfl
            exact Frame.refl _ _

theorem execSampleBlockRx_frame (a0 : ReedBlock) (s : State) (t : State) (h : execSampleBlockRx a0 s = .next t) : Frame 0x2215b81 s t := by
  unfold execSampleBlockRx at h
  refine onEngines_frame h ?_
  refine Frame.ite (fun _ => ?_) fun _ => ?_
  · exact Frame.refl _ _
  · refine Frame.step ?_ (State.sampleBlock_frame _ _) rfl
    exact Frame.refl _ _

theorem State.storeDesc_frame (s : State) (a1 : ℕ) (a2 : DescBlock) : Frame 0x1 s (State.storeDesc s a1 a2) := by
  unfold State.storeDesc
  extract_lets +onlyGivenNames x1
  clear_value x1
  extract_lets +onlyGivenNames x2
  refine Frame.local x2 ?_ fun h2 => ?_
  · subst x2
    refine Frame.step ?_ (State.setWord_frame _ _ _) rfl
    refine Frame.step ?_ (State.setWord_frame _ _ _) rfl
    refine Frame.step ?_ (State.setWord_frame _ _ _) rfl
    exact Frame.refl _ _
  clear_value x2
  extract_lets +onlyGivenNames x3
  refine Frame.local x3 ?_ fun h3 => ?_
  · subst x3
    refine Frame.forEach ?_ fun _ _ _ => ?_
    · assumption
    · extract_lets +onlyGivenNames x4
      clear_value x4
      refine Frame.step ?_ (State.setWord_frame _ _ _) rfl
      refine Frame.step ?_ (State.setWord_frame _ _ _) rfl
      assumption
  clear_value x3
  refine Frame.step ?_ (State.showLane_frame _ _) rfl
  assumption

theorem State.acceptDesc_frame (s : State) (a1 : ℕ) (a2 : DescBlock) : Frame 0x2205b81 s (State.acceptDesc s a1 a2) := by
  unfold State.acceptDesc
  extract_lets +onlyGivenNames x1
  refine Frame.local x1 ?_ fun h1 => ?_
  · subst x1
    refine Frame.step ?_ (State.setLink_frame _ _ _) rfl
    exact Frame.refl _ _
  clear_value x1
  refine Frame.ite (fun _ => ?_) fun _ => ?_
  · refine Frame.step ?_ (State.count_frame _ _) rfl
    assumption
  · refine Frame.ite (fun _ => ?_) fun _ => ?_
    · extract_lets +onlyGivenNames x2
      refine Frame.local x2 ?_ fun h2 => ?_
      · subst x2
        refine Frame.step ?_ (State.count_frame _ _) rfl
        assumption
      clear_value x2
      refine Frame.ite (fun _ => ?_) fun _ => ?_
      · refine Frame.step ?_ (State.laneTo_frame _ _ _ _) rfl
        assumption
      · assumption
    · extract_lets +onlyGivenNames x3
      clear_value x3
      extract_lets +onlyGivenNames x4
      refine Frame.local x4 ?_ fun h4 => ?_
      · subst x4
        refine Frame.step ?_ (State.sealBy_frame _ _) rfl
        refine Frame.step ?_ (State.storeDesc_frame _ _ _) rfl
        assumption
      clear_value x4
      extract_lets +onlyGivenNames x5
      refine Frame.local x5 ?_ fun h5 => ?_
      · subst x5
        refine Frame.step ?_ (State.auditAdd_frame _ _) rfl
        assumption
      clear_value x5
      refine Frame.step ?_ (State.count_frame _ _) rfl
      assumption

theorem State.descriptor_frame (s : State) (a1 : DescBlock) : Frame 0x2205b81 s (State.descriptor s a1) := by
  unfold State.descriptor
  refine Frame.ite (fun _ => ?_) fun _ => ?_
  · exact Frame.refl _ _
  · refine Frame.ite (fun _ => ?_) fun _ => ?_
    · refine Frame.step ?_ (State.count_frame _ _) rfl
      exact Frame.refl _ _
    · extract_lets +onlyGivenNames x1
      clear_value x1
      split
      · refine Frame.step ?_ (Frame.ofFst ‹State.authenticate _ _ _ _ _ _ _ = _› (State.authenticate_frame _ _ _ _ _ _ _)) rfl
        exact Frame.refl _ _
      · refine Frame.ite (fun _ => ?_) fun _ => ?_
        · refine Frame.step ?_ (State.laneFault_frame _ _ _ _) rfl
          refine Frame.step ?_ (Frame.ofFst ‹State.authenticate _ _ _ _ _ _ _ = _› (State.authenticate_frame _ _ _ _ _ _ _)) rfl
          exact Frame.refl _ _
        · refine Frame.ite (fun _ => ?_) fun _ => ?_
          · refine Frame.step ?_ (State.count_frame _ _) rfl
            refine Frame.step ?_ (Frame.ofFst ‹State.authenticate _ _ _ _ _ _ _ = _› (State.authenticate_frame _ _ _ _ _ _ _)) rfl
            exact Frame.refl _ _
          · refine Frame.step ?_ (State.acceptDesc_frame _ _ _) rfl
            refine Frame.step ?_ (Frame.ofFst ‹State.authenticate _ _ _ _ _ _ _ = _› (State.authenticate_frame _ _ _ _ _ _ _)) rfl
            exact Frame.refl _ _

theorem execDescriptorRx_frame (a0 : DescBlock) (s : State) (t : State) (h : execDescriptorRx a0 s = .next t) : Frame 0x2205b81 s t := by
  unfold execDescriptorRx at h
  refine onEngines_frame h ?_
  refine Frame.step ?_ (State.descriptor_frame _ _) rfl
  exact Frame.refl _ _

theorem State.svFrame_frame (s : State) (a1 : SvFrame) : Frame 0x2215b81 s (State.svFrame s a1) := by
  unfold State.svFrame
  refine Frame.ite (fun _ => ?_) fun _ => ?_
  · exact Frame.refl _ _
  · refine Frame.ite (fun _ => ?_) fun _ => ?_
    · refine Frame.step ?_ (State.count_frame _ _) rfl
      exact Frame.refl _ _
    · split
      · refine Frame.step ?_ (State.count_frame _ _) rfl
        exact Frame.refl _ _
      · extract_lets +onlyGivenNames x1
        clear_value x1
        extract_lets +onlyGivenNames x2
        clear_value x2
        extract_lets +onlyGivenNames x3
        clear_value x3
        extract_lets +onlyGivenNames x4
        clear_value x4
        refine Frame.ite (fun _ => ?_) fun _ => ?_
        · exact Frame.refl _ _
        · refine Frame.ite (fun _ => ?_) fun _ => ?_
          · refine Frame.step ?_ (State.laneFault_frame _ _ _ _) rfl
            exact Frame.refl _ _
          · refine Frame.ite (fun _ => ?_) fun _ => ?_
            · refine Frame.step ?_ (State.count_frame _ _) rfl
              exact Frame.refl _ _
            · extract_lets +onlyGivenNames x5
              clear_value x5
              extract_lets +onlyGivenNames x6
              clear_value x6
              refine Frame.ite (fun _ => ?_) fun _ => ?_
              · refine Frame.step ?_ (State.laneFault_frame _ _ _ _) rfl
                exact Frame.refl _ _
              · extract_lets +onlyGivenNames x7
                clear_value x7
                refine Frame.ite (fun _ => ?_) fun _ => ?_
                · refine Frame.step ?_ (State.count_frame _ _) rfl
                  exact Frame.refl _ _
                · extract_lets +onlyGivenNames x8
                  clear_value x8
                  extract_lets +onlyGivenNames x9
                  clear_value x9
                  extract_lets +onlyGivenNames x10
                  refine Frame.local x10 ?_ fun h10 => ?_
                  · subst x10
                    refine Frame.step ?_ (State.setLink_frame _ _ _) rfl
                    exact Frame.refl _ _
                  clear_value x10
                  extract_lets +onlyGivenNames x11
                  refine Frame.local x11 ?_ fun h11 => ?_
                  · subst x11
                    refine Frame.step ?_ (State.countN_frame _ _ _) rfl
                    assumption
                  clear_value x11
                  refine Frame.step ?_ (State.accept_frame _ _ _) rfl
                  assumption

theorem execSvFrameRx_frame (a0 : SvFrame) (s : State) (t : State) (h : execSvFrameRx a0 s = .next t) : Frame 0x2215b81 s t := by
  unfold execSvFrameRx at h
  refine onEngines_frame h ?_
  refine Frame.step ?_ (State.svFrame_frame _ _) rfl
  exact Frame.refl _ _

theorem execGapPositionRelease_frame (a0 : ℕ) (s : State) (t : State) (h : execGapPositionRelease a0 s = .next t) : Frame 0x2215b81 s t := by
  unfold execGapPositionRelease at h
  refine onEngines_frame h ?_
  refine Frame.step ?_ (State.gapDue_frame _ _ _) rfl
  exact Frame.refl _ _

theorem State.laneSilent_frame (s : State) (a1 : ℕ) : Frame 0x2205b81 s (State.laneSilent s a1) := by
  unfold State.laneSilent
  split
  · refine Frame.ite (fun _ => ?_) fun _ => ?_
    · extract_lets +onlyGivenNames x1
      refine Frame.local x1 ?_ fun h1 => ?_
      · subst x1
        refine Frame.step ?_ (State.setLink_frame _ _ _) rfl
        exact Frame.refl _ _
      clear_value x1
      refine Frame.ite (fun _ => ?_) fun _ => ?_
      · refine Frame.step ?_ (State.laneTo_frame _ _ _ _) rfl
        refine Frame.step ?_ (State.setLink_frame _ _ _) rfl
        refine Frame.step ?_ (State.raise_frame _ _ _ _ _ _) rfl
        assumption
      · assumption
    · exact Frame.refl _ _
  · exact Frame.refl _ _

theorem execLaneSilence_frame (a0 : ℕ) (s : State) (t : State) (h : execLaneSilence a0 s = .next t) : Frame 0x2205b81 s t := by
  unfold execLaneSilence at h
  refine onEngines_frame h ?_
  refine Frame.step ?_ (State.laneSilent_frame _ _) rfl
  exact Frame.refl _ _

end Sys2Proof.Machine
end

