-- ==== Sys2Proof/Laws/FrameCapture.lean ====
section
/-!
SUPPORT. What each operation of Machine/Capture.lean can change: one lemma an operation, with the mask of the parts of the state it
may touch (the bits are listed in Laws/Frame.lean).
-/

set_option linter.unusedVariables false
set_option Elab.async false

namespace Sys2Proof.Machine

theorem State.setPartition_frame (s : State) (a1 : StoredConfig) : Frame 0x400000 s (State.setPartition s a1) := by
  unfold State.setPartition
  refine Frame.ite (fun _ => ?_) fun _ => ?_
  · refine Frame.upd ?_ rfl
    exact Frame.refl _ _
  · refine Frame.upd ?_ rfl
    exact Frame.refl _ _

theorem State.storeArm_frame (s : State) (a1 : ℕ) (a2 : Bool) (a3 : Bool) : Frame 0x400000 s (State.storeArm s a1 a2 a3) := by
  unfold State.storeArm
  refine Frame.ite (fun _ => ?_) fun _ => ?_
  · exact Frame.refl _ _
  · extract_lets +onlyGivenNames x1
    clear_value x1
    refine Frame.step ?_ (State.setPartition_frame _ _) rfl
    exact Frame.refl _ _

theorem State.showCaptureLoad_frame (s : State) : Frame 0x1 s (State.showCaptureLoad s) := by
  unfold State.showCaptureLoad
  refine Frame.step ?_ (State.put_frame _ _ _) rfl
  exact Frame.refl _ _

theorem State.cuTo_frame (s : State) (a1 : ℕ) (a2 : ℕ) : Frame 0x1 s (State.cuTo s a1 a2) := by
  unfold State.cuTo
  refine Frame.step ?_ (State.put_frame _ _ _) rfl
  exact Frame.refl _ _

theorem State.setCu_frame (s : State) (a1 : ℕ) (a2 : CaptureUnit → CaptureUnit) : Frame 0x1000 s (State.setCu s a1 a2) := by
  unfold State.setCu
  refine Frame.upd ?_ rfl
  exact Frame.refl _ _

theorem State.cuStart_frame (s : State) (a1 : ℕ) : Frame 0x1001 s (State.cuStart s a1) := by
  unfold State.cuStart
  extract_lets +onlyGivenNames x1
  clear_value x1
  refine Frame.step ?_ (State.cuTo_frame _ _ _) rfl
  refine Frame.step ?_ (State.setCu_frame _ _ _) rfl
  exact Frame.refl _ _

theorem State.unitConds_frame (s : State) (a1 : Stamp) : Frame 0x201000 s (State.unitConds s a1) := by
  unfold State.unitConds
  refine Frame.step ?_ (State.setConds_frame _ _ _ _) rfl
  exact Frame.refl _ _

theorem State.setSlotRec_frame (s : State) (a1 : ℕ) (a2 : ℕ) (a3 : CaptureRecord → CaptureRecord) : Frame 0x1000 s (State.setSlotRec s a1 a2 a3) := by
  unfold State.setSlotRec
  refine Frame.step ?_ (State.setCu_frame _ _ _) rfl
  exact Frame.refl _ _

theorem State.setCurRec_frame (s : State) (a1 : ℕ) (a2 : CaptureRecord → CaptureRecord) : Frame 0x1000 s (State.setCurRec s a1 a2) := by
  unfold State.setCurRec
  refine Frame.step ?_ (State.setSlotRec_frame _ _ _ _) rfl
  exact Frame.refl _ _

theorem State.showCu_frame (s : State) (a1 : ℕ) : Frame 0x1 s (State.showCu s a1) := by
  unfold State.showCu
  extract_lets +onlyGivenNames x1
  clear_value x1
  extract_lets +onlyGivenNames x2
  refine Frame.local x2 ?_ fun h2 => ?_
  · subst x2
    refine Frame.step ?_ (State.put_frame _ _ _) rfl
    refine Frame.step ?_ (State.put_frame _ _ _) rfl
    exact Frame.refl _ _
  clear_value x2
  refine Frame.step ?_ (State.put_frame _ _ _) rfl
  assumption

theorem State.closeQuiet_frame (s : State) (a1 : ℕ) (a2 : ℕ) : Frame 0x1181 s (State.closeQuiet s a1 a2) := by
  unfold State.closeQuiet
  extract_lets +onlyGivenNames x1
  refine Frame.local x1 ?_ fun h1 => ?_
  · subst x1
    refine Frame.step ?_ (State.deviceMet_frame _ _ _) rfl
    refine Frame.step ?_ (State.bump_frame _ _) rfl
    exact Frame.refl _ _
  clear_value x1
  extract_lets +onlyGivenNames x2
  refine Frame.local x2 ?_ fun h2 => ?_
  · subst x2
    refine Frame.step ?_ (State.setCurRec_frame _ _ _) rfl
    assumption
  clear_value x2
  refine Frame.step ?_ (State.fire_frame _ _) rfl
  refine Frame.step ?_ (State.cuTo_frame _ _ _) rfl
  refine Frame.step ?_ (State.showCu_frame _ _) rfl
  assumption

theorem State.dropRecord_frame (s : State) (a1 : ℕ) : Frame 0x1001 s (State.dropRecord s a1) := by
  unfold State.dropRecord
  refine Frame.step ?_ (State.showCu_frame _ _) rfl
  refine Frame.step ?_ (State.setCurRec_frame _ _ _) rfl
  exact Frame.refl _ _

theorem State.disarmQuiet_frame (s : State) (a1 : ℕ) : Frame 0x1181 s (State.disarmQuiet s a1) := by
  unfold State.disarmQuiet
  extract_lets +onlyGivenNames x1
  clear_value x1
  refine Frame.ite (fun _ => ?_) fun _ => ?_
  · exact Frame.refl _ _
  · extract_lets +onlyGivenNames x2
    refine Frame.local x2 ?_ fun h2 => ?_
    · subst x2
      refine Frame.ite (fun _ => ?_) fun _ => ?_
      · refine Frame.step ?_ (State.closeQuiet_frame _ _ _) rfl
        exact Frame.refl _ _
      · refine Frame.step ?_ (State.dropRecord_frame _ _) rfl
        exact Frame.refl _ _
    clear_value x2
    refine Frame.step ?_ (State.cuTo_frame _ _ _) rfl
    refine Frame.step ?_ (State.setCu_frame _ _ _) rfl
    assumption

theorem State.disarm_frame (s : State) (a1 : ℕ) : Frame 0x201181 s (State.disarm s a1) := by
  unfold State.disarm
  refine Frame.step ?_ (State.unitConds_frame _ _) rfl
  refine Frame.step ?_ (State.disarmQuiet_frame _ _) rfl
  exact Frame.refl _ _

theorem State.trigger_frame (s : State) (a1 : ℕ) (a2 : ℕ) (a3 : ℕ) (a4 : ℕ) (a5 : Stamp) : Frame 0x1181 s (State.trigger s a1 a2 a3 a4 a5) := by
  unfold State.trigger
  extract_lets +onlyGivenNames x1
  refine Frame.local x1 ?_ fun h1 => ?_
  · subst x1
    refine Frame.step ?_ (State.setCurRec_frame _ _ _) rfl
    exact Frame.refl _ _
  clear_value x1
  refine Frame.step ?_ (State.raise_frame _ _ _ _ _ _) rfl
  refine Frame.step ?_ (State.count_frame _ _) rfl
  refine Frame.step ?_ (State.cuTo_frame _ _ _) rfl
  assumption

theorem State.armIfReady_frame (s : State) (a1 : ℕ) : Frame 0x1181 s (State.armIfReady s a1) := by
  unfold State.armIfReady
  refine Frame.ite (fun _ => ?_) fun _ => ?_
  · extract_lets +onlyGivenNames x1
    refine Frame.local x1 ?_ fun h1 => ?_
    · subst x1
      refine Frame.step ?_ (State.cuTo_frame _ _ _) rfl
      exact Frame.refl _ _
    clear_value x1
    refine Frame.ite (fun _ => ?_) fun _ => ?_
    · refine Frame.step ?_ (State.trigger_frame _ _ _ _ _ _) rfl
      assumption
    · assumption
  · exact Frame.refl _ _

theorem State.holdoffOver_frame (s : State) (a1 : ℕ) : Frame 0x1181 s (State.holdoffOver s a1) := by
  unfold State.holdoffOver
  extract_lets +onlyGivenNames x1
  refine Frame.ite (fun _ => ?_) fun _ => ?_
  · refine Frame.step ?_ (State.armIfReady_frame _ _) rfl
    refine Frame.step ?_ (State.cuTo_frame _ _ _) rfl
    simp only [x1]
    refine Frame.step ?_ (State.setCu_frame _ _ _) rfl
    exact Frame.refl _ _
  · refine Frame.ite (fun _ => ?_) fun _ => ?_
    · simp only [x1]
      refine Frame.step ?_ (State.setCu_frame _ _ _) rfl
      exact Frame.refl _ _
    · exact Frame.refl _ _

theorem State.beginRecord_frame (s : State) (a1 : ℕ) (a2 : ℕ) : Frame 0x1001001 s (State.beginRecord s a1 a2) := by
  unfold State.beginRecord
  extract_lets +onlyGivenNames x1
  refine Frame.local x1 ?_ fun h1 => ?_
  · subst x1
    refine Frame.step ?_ (State.setCu_frame _ _ _) rfl
    exact Frame.refl _ _
  clear_value x1
  refine Frame.step ?_ (State.showCu_frame _ _) rfl
  refine Frame.step ?_ (State.draw_frame _) rfl
  refine Frame.step ?_ (State.setCurRec_frame _ _ _) rfl
  assumption

theorem State.leaveFull_frame (s : State) (a1 : ℕ) : Frame 0x1201181 s (State.leaveFull s a1) := by
  unfold State.leaveFull
  refine Frame.ite (fun _ => ?_) fun _ => ?_
  · split
    · extract_lets +onlyGivenNames x1
      refine Frame.local x1 ?_ fun h1 => ?_
      · subst x1
        refine Frame.step ?_ (State.cuTo_frame _ _ _) rfl
        refine Frame.step ?_ (State.beginRecord_frame _ _ _) rfl
        exact Frame.refl _ _
      clear_value x1
      refine Frame.ite (fun _ => ?_) fun _ => ?_
      · assumption
      · refine Frame.step ?_ (State.unitConds_frame _ _) rfl
        refine Frame.step ?_ (State.holdoffOver_frame _ _) rfl
        assumption
    · exact Frame.refl _ _
  · exact Frame.refl _ _

theorem State.releaseAll_frame (s : State) (a1 : ℕ) : Frame 0x1201181 s (State.releaseAll s a1) := by
  unfold State.releaseAll
  extract_lets +onlyGivenNames x1
  refine Frame.local x1 ?_ fun h1 => ?_
  · subst x1
    refine Frame.step ?_ (State.setCu_frame _ _ _) rfl
    exact Frame.refl _ _
  clear_value x1
  refine Frame.step ?_ (State.leaveFull_frame _ _) rfl
  refine Frame.step ?_ (State.showCu_frame _ _) rfl
  assumption

theorem State.softTrigger_frame (s : State) (a1 : ℕ) : Frame 0x201181 s (State.softTrigger s a1) := by
  unfold State.softTrigger
  refine Frame.ite (fun _ => ?_) fun _ => ?_
  · refine Frame.step ?_ (State.unitConds_frame _ _) rfl
    refine Frame.step ?_ (State.trigger_frame _ _ _ _ _ _) rfl
    exact Frame.refl _ _
  · refine Frame.ite (fun _ => ?_) fun _ => ?_
    · refine Frame.step ?_ (State.unitConds_frame _ _) rfl
      refine Frame.step ?_ (State.trigger_frame _ _ _ _ _ _) rfl
      exact Frame.refl _ _
    · refine Frame.step ?_ (State.count_frame _ _) rfl
      exact Frame.refl _ _

theorem State.arm_frame (s : State) (a1 : ℕ) : Frame 0x1201181 s (State.arm s a1) := by
  unfold State.arm
  refine Frame.ite (fun _ => ?_) fun _ => ?_
  · split
    · refine Frame.step ?_ (State.unitConds_frame _ _) rfl
      refine Frame.step ?_ (State.armIfReady_frame _ _) rfl
      refine Frame.step ?_ (State.cuTo_frame _ _ _) rfl
      refine Frame.step ?_ (State.beginRecord_frame _ _ _) rfl
      exact Frame.refl _ _
    · exact Frame.refl _ _
  · refine Frame.step ?_ (State.unitConds_frame _ _) rfl
    refine Frame.step ?_ (State.holdoffOver_frame _ _) rfl
    exact Frame.refl _ _

theorem State.cuControl_frame (s : State) (a1 : ℕ) (a2 : Word) : Frame 0x1201181 s (State.cuControl s a1 a2) := by
  unfold State.cuControl
  refine Frame.ite (fun _ => ?_) fun _ => ?_
  · extract_lets +onlyGivenNames x1
    refine Frame.local x1 ?_ fun h1 => ?_
    · subst x1
      refine Frame.ite (fun _ => ?_) fun _ => ?_
      · refine Frame.step ?_ (State.releaseAll_frame _ _) rfl
        exact Frame.refl _ _
      · exact Frame.refl _ _
    clear_value x1
    refine Frame.ite (fun _ => ?_) fun _ => ?_
    · refine Frame.step ?_ (State.softTrigger_frame _ _) rfl
      assumption
    · assumption
  · extract_lets +onlyGivenNames x2
    refine Frame.local x2 ?_ fun h2 => ?_
    · subst x2
      refine Frame.ite (fun _ => ?_) fun _ => ?_
      · refine Frame.step ?_ (State.disarm_frame _ _) rfl
        exact Frame.refl _ _
      · exact Frame.refl _ _
    clear_value x2
    extract_lets +onlyGivenNames x3
    refine Frame.local x3 ?_ fun h3 => ?_
    · subst x3
      refine Frame.ite (fun _ => ?_) fun _ => ?_
      · refine Frame.step ?_ (State.releaseAll_frame _ _) rfl
        assumption
      · assumption
    clear_value x3
    extract_lets +onlyGivenNames x4
    refine Frame.local x4 ?_ fun h4 => ?_
    · subst x4
      refine Frame.ite (fun _ => ?_) fun _ => ?_
      · refine Frame.step ?_ (State.arm_frame _ _) rfl
        assumption
      · assumption
    clear_value x4
    refine Frame.ite (fun _ => ?_) fun _ => ?_
    · refine Frame.step ?_ (State.softTrigger_frame _ _) rfl
      assumption
    · assumption

theorem captureEffect_frame (a0 : ℕ) (a1 : List ℕ) (a2 : Word) (a3 : Word) (s : State) : Frame 0x1201181 s (captureEffect a0 a1 a2 a3 s) := by
  unfold captureEffect
  split
  · extract_lets +onlyGivenNames x1
    refine Frame.local x1 ?_ fun h1 => ?_
    · subst x1
      refine Frame.step ?_ (State.showCaptureLoad_frame _) rfl
      exact Frame.refl _ _
    clear_value x1
    extract_lets +onlyGivenNames x2
    refine Frame.local x2 ?_ fun h2 => ?_
    · subst x2
      refine Frame.ite (fun _ => ?_) fun _ => ?_
      · refine Frame.step ?_ (State.cuStart_frame _ _) rfl
        assumption
      · refine Frame.ite (fun _ => ?_) fun _ => ?_
        · refine Frame.step ?_ (State.disarm_frame _ _) rfl
          assumption
        · refine Frame.ite (fun _ => ?_) fun _ => ?_
          · refine Frame.step ?_ (State.unitConds_frame _ _) rfl
            refine Frame.step ?_ (State.holdoffOver_frame _ _) rfl
            assumption
          · assumption
    clear_value x2
    refine Frame.step ?_ (State.showCu_frame _ _) rfl
    assumption
  · refine Frame.step ?_ (State.showCu_frame _ _) rfl
    exact Frame.refl _ _
  · refine Frame.step ?_ (State.showCu_frame _ _) rfl
    exact Frame.refl _ _
  · refine Frame.step ?_ (State.showCu_frame _ _) rfl
    exact Frame.refl _ _
  · refine Frame.step ?_ (State.cuControl_frame _ _ _) rfl
    exact Frame.refl _ _
  · refine Frame.step ?_ (State.softConds_frame _) rfl
    exact Frame.refl _ _
  · refine Frame.step ?_ (State.laneConds_frame _) rfl
    exact Frame.refl _ _
  · exact Frame.refl _ _

theorem State.captureIdle_frame (s : State) : Frame 0x201181 s (State.captureIdle s) := by
  unfold State.captureIdle
  refine Frame.step ?_ (State.unitConds_frame _ _) rfl
  refine Frame.forEach ?_ fun _ _ _ => ?_
  · exact Frame.refl _ _
  · refine Frame.step ?_ (State.disarmQuiet_frame _ _) rfl
    assumption

theorem State.captureReadEnd_frame (s : State) (a1 : ℕ) (a2 : ℕ) (a3 : Bool) : Frame 0x1201181 s (State.captureReadEnd s a1 a2 a3) := by
  unfold State.captureReadEnd
  extract_lets +onlyGivenNames x1
  refine Frame.local x1 ?_ fun h1 => ?_
  · subst x1
    refine Frame.step ?_ (State.setCu_frame _ _ _) rfl
    exact Frame.refl _ _
  clear_value x1
  extract_lets +onlyGivenNames x2
  refine Frame.local x2 ?_ fun h2 => ?_
  · subst x2
    refine Frame.when ?_ fun _ _ => ?_
    · assumption
    · refine Frame.step ?_ (State.showCu_frame _ _) rfl
      refine Frame.step ?_ (State.setSlotRec_frame _ _ _ _) rfl
      assumption
  clear_value x2
  refine Frame.step ?_ (State.leaveFull_frame _ _) rfl
  assumption

theorem State.captureReadUnits_frame (s : State) (a1 : ℕ) (a2 : ℕ) (a3 : ℕ) (a4 : ℕ) (a5 : ℕ) (a6 : ℕ) (a7 : ℕ) : Frame 0x2000000 s (State.captureReadUnits s a1 a2 a3 a4 a5 a6 a7) := by
  unfold State.captureReadUnits
  extract_lets +onlyGivenNames x1
  clear_value x1
  extract_lets +onlyGivenNames x2
  refine Frame.local x2 ?_ fun h2 => ?_
  · subst x2
    refine Frame.when ?_ fun _ _ => ?_
    · exact Frame.refl _ _
    · refine Frame.step ?_ (State.emit_frame _ _) rfl
      assumption
  clear_value x2
  extract_lets +onlyGivenNames x3
  clear_value x3
  refine Frame.ite (fun _ => ?_) fun _ => ?_
  · assumption
  · refine Frame.step ?_ (State.emit_frame _ _) rfl
    assumption

theorem State.captureArm_frame (s : State) (a1 : CmdHeader) (a2 : ℕ) (a3 : ℕ) : Frame 0x3601381 s (State.captureArm s a1 a2 a3) := by
  unfold State.captureArm
  extract_lets +onlyGivenNames x1
  clear_value x1
  refine Frame.ite (fun _ => ?_) fun _ => ?_
  · refine Frame.step ?_ (State.finish_frame _ _ _ _ _ _ _) rfl
    exact Frame.refl _ _
  · refine Frame.ite (fun _ => ?_) fun _ => ?_
    · refine Frame.step ?_ (State.finish_frame _ _ _ _ _ _ _) rfl
      exact Frame.refl _ _
    · extract_lets +onlyGivenNames x2
      refine Frame.local x2 ?_ fun h2 => ?_
      · subst x2
        refine Frame.step ?_ (State.storeArm_frame _ _ _ _) rfl
        refine Frame.step ?_ (State.cuControl_frame _ _ _) rfl
        exact Frame.refl _ _
      clear_value x2
      refine Frame.step ?_ (State.finish_frame _ _ _ _ _ _ _) rfl
      assumption

theorem execCaptureArm_frame (a0 : CmdHeader) (a1 : ℕ) (a2 : ℕ) (s : State) (t : State) (h : execCaptureArm a0 a1 a2 s = .next t) : Frame 0x3601381 s t := by
  unfold execCaptureArm at h
  refine onCore_frame h ?_
  refine State.command_frame ?_ rfl fun _ _ => ?_
  · exact Frame.refl _ _
  · refine Frame.step ?_ (State.captureArm_frame _ _ _ _) rfl
    assumption

theorem State.captureReadStart_frame (s : State) (a1 : CmdHeader) (a2 : ℕ) (a3 : ℕ) (a4 : ℕ) (a5 : ℕ) (a6 : ℕ) (a7 : ℕ) : Frame 0x2001201 s (State.captureReadStart s a1 a2 a3 a4 a5 a6 a7) := by
  unfold State.captureReadStart
  extract_lets +onlyGivenNames x1
  clear_value x1
  extract_lets +onlyGivenNames x2
  clear_value x2
  extract_lets +onlyGivenNames x3
  clear_value x3
  refine Frame.ite (fun _ => ?_) fun _ => ?_
  · refine Frame.step ?_ (State.finish_frame _ _ _ _ _ _ _) rfl
    exact Frame.refl _ _
  · refine Frame.step ?_ (State.startJob_frame _ _ _ _ _ _) rfl
    refine Frame.step ?_ (State.setCu_frame _ _ _) rfl
    exact Frame.refl _ _

theorem State.matchUnit_frame (s : State) (a1 : VecUpdate) (a2 : ℕ) : Frame 0x1181 s (State.matchUnit s a1 a2) := by
  unfold State.matchUnit
  refine Frame.ite (fun _ => ?_) fun _ => ?_
  · exact Frame.refl _ _
  · split
    · exact Frame.refl _ _
    · extract_lets +onlyGivenNames x1
      clear_value x1
      refine Frame.ite (fun _ => ?_) fun _ => ?_
      · refine Frame.step ?_ (State.trigger_frame _ _ _ _ _ _) rfl
        exact Frame.refl _ _
      · refine Frame.ite (fun _ => ?_) fun _ => ?_
        · refine Frame.step ?_ (State.count_frame _ _) rfl
          exact Frame.refl _ _
        · refine Frame.ite (fun _ => ?_) fun _ => ?_
          · refine Frame.step ?_ (State.count_frame _ _) rfl
            refine Frame.step ?_ (State.setCurRec_frame _ _ _) rfl
            exact Frame.refl _ _
          · refine Frame.ite (fun _ => ?_) fun _ => ?_
            · extract_lets +onlyGivenNames x2
              refine Frame.local x2 ?_ fun h2 => ?_
              · subst x2
                refine Frame.step ?_ (State.count_frame _ _) rfl
                exact Frame.refl _ _
              clear_value x2
              refine Frame.ite (fun _ => ?_) fun _ => ?_
              · refine Frame.ite (fun _ => ?_) fun _ => ?_
                · refine Frame.step ?_ (State.holdoffOver_frame _ _) rfl
                  assumption
                · refine Frame.step ?_ (State.setCu_frame _ _ _) rfl
                  assumption
              · assumption
            · exact Frame.refl _ _

theorem State.captureMatch_frame (s : State) : Frame 0x201181 s (State.captureMatch s) := by
  unfold State.captureMatch
  split
  · exact Frame.refl _ _
  · refine Frame.step ?_ (State.unitConds_frame _ _) rfl
    refine Frame.forEach ?_ fun _ _ _ => ?_
    · refine Frame.upd ?_ rfl
      exact Frame.refl _ _
    · refine Frame.step ?_ (State.matchUnit_frame _ _ _) rfl
      assumption

theorem State.drainMatches_frame (s : State) : Frame 0x201181 s (State.drainMatches s) := by
  unfold State.drainMatches
  refine Frame.forEach ?_ fun _ _ _ => ?_
  · exact Frame.refl _ _
  · refine Frame.step ?_ (State.captureMatch_frame _) rfl
    assumption

theorem State.gather_frame (s : State) (a1 : ℕ) (a2 : ℕ) : Frame 0x1001181 s (State.gather s a1 a2) := by
  rw [(by delta State.gather; rfl : @State.gather = _)]
  split
  · refine Frame.step ?_ (State.cuTo_frame _ _ _) rfl
    refine Frame.step ?_ (State.beginRecord_frame _ _ _) rfl
    exact Frame.refl _ _
  · refine Frame.step ?_ (State.raise_frame _ _ _ _ _ _) rfl
    refine Frame.step ?_ (State.cuTo_frame _ _ _) rfl
    exact Frame.refl _ _

theorem State.afterClose_frame (s : State) (a1 : ℕ) : Frame 0x1001181 s (State.afterClose s a1) := by
  unfold State.afterClose
  refine Frame.ite (fun _ => ?_) fun _ => ?_
  · refine Frame.step ?_ (State.cuTo_frame _ _ _) rfl
    exact Frame.refl _ _
  · extract_lets +onlyGivenNames x1
    clear_value x1
    extract_lets +onlyGivenNames x2
    clear_value x2
    extract_lets +onlyGivenNames x3
    refine Frame.local x3 ?_ fun h3 => ?_
    · subst x3
      refine Frame.step ?_ (State.setCu_frame _ _ _) rfl
      exact Frame.refl _ _
    clear_value x3
    extract_lets +onlyGivenNames x4
    refine Frame.local x4 ?_ fun h4 => ?_
    · subst x4
      refine Frame.step ?_ (State.gather_frame _ _ _) rfl
      assumption
    clear_value x4
    refine Frame.ite (fun _ => ?_) fun _ => ?_
    · refine Frame.step ?_ (State.holdoffOver_frame _ _) rfl
      assumption
    · assumption

theorem State.captureStep_frame (s : State) : Frame 0x1201181 s (State.captureStep s) := by
  unfold State.captureStep
  extract_lets +onlyGivenNames x1
  clear_value x1
  extract_lets +onlyGivenNames x2
  refine Frame.local x2 ?_ fun h2 => ?_
  · subst x2
    refine Frame.step ?_ (State.unitConds_frame _ _) rfl
    refine Frame.forEach ?_ fun _ _ _ => ?_
    · exact Frame.refl _ _
    · extract_lets +onlyGivenNames x3
      refine Frame.local x3 ?_ fun h3 => ?_
      · subst x3
        refine Frame.step ?_ (State.setCu_frame _ _ _) rfl
        assumption
      clear_value x3
      refine Frame.ite (fun _ => ?_) fun _ => ?_
      · refine Frame.step ?_ (State.closeQuiet_frame _ _ _) rfl
        assumption
      · assumption
  clear_value x2
  extract_lets +onlyGivenNames x4
  refine Frame.local x4 ?_ fun h4 => ?_
  · subst x4
    refine Frame.forEach ?_ fun _ _ _ => ?_
    · assumption
    · extract_lets +onlyGivenNames x5
      clear_value x5
      refine Frame.ite (fun _ => ?_) fun _ => ?_
      · refine Frame.step ?_ (State.afterClose_frame _ _) rfl
        assumption
      · refine Frame.ite (fun _ => ?_) fun _ => ?_
        · refine Frame.step ?_ (State.armIfReady_frame _ _) rfl
          refine Frame.step ?_ (State.cuTo_frame _ _ _) rfl
          refine Frame.step ?_ (State.setCurRec_frame _ _ _) rfl
          assumption
        · refine Frame.ite (fun _ => ?_) fun _ => ?_
          · refine Frame.step ?_ (State.setCurRec_frame _ _ _) rfl
            assumption
          · assumption
  clear_value x4
  refine Frame.step ?_ (State.unitConds_frame _ _) rfl
  assumption

theorem State.preRow_frame (s : State) (a1 : ℕ) (a2 : CaptureRow) (a3 : ℕ) : Frame 0x1000 s (State.preRow s a1 a2 a3) := by
  unfold State.preRow
  extract_lets +onlyGivenNames x1
  clear_value x1
  refine Frame.step ?_ (State.setCurRec_frame _ _ _) rfl
  exact Frame.refl _ _

theorem State.captureWarm_frame (s : State) : Frame 0x201181 s (State.captureWarm s) := by
  unfold State.captureWarm
  refine Frame.forEach ?_ fun _ _ _ => ?_
  · refine Frame.step ?_ (State.captureIdle_frame _) rfl
    exact Frame.refl _ _
  · refine Frame.step ?_ (State.setCu_frame _ _ _) rfl
    assumption

theorem State.closeCapture_frame (s : State) (a1 : ℕ) (a2 : ℕ) : Frame 0x201181 s (State.closeCapture s a1 a2) := by
  unfold State.closeCapture
  refine Frame.step ?_ (State.unitConds_frame _ _) rfl
  refine Frame.step ?_ (State.closeQuiet_frame _ _ _) rfl
  exact Frame.refl _ _

theorem State.captureRow_frame (s : State) (a1 : ℕ) : Frame 0x1201181 s (State.captureRow s a1) := by
  unfold State.captureRow
  refine Frame.ite (fun _ => ?_) fun _ => ?_
  · exact Frame.refl _ _
  · extract_lets +onlyGivenNames x1
    refine Frame.local x1 ?_ fun h1 => ?_
    · subst x1
      refine Frame.step ?_ (State.drainMatches_frame _) rfl
      exact Frame.refl _ _
    clear_value x1
    extract_lets +onlyGivenNames x2
    clear_value x2
    extract_lets +onlyGivenNames x3
    clear_value x3
    extract_lets +onlyGivenNames x4
    clear_value x4
    extract_lets +onlyGivenNames x5
    refine Frame.local x5 ?_ fun h5 => ?_
    · subst x5
      refine Frame.step ?_ (State.setCu_frame _ _ _) rfl
      assumption
    clear_value x5
    extract_lets +onlyGivenNames x6
    clear_value x6
    refine Frame.ite (fun _ => ?_) fun _ => ?_
    · extract_lets +onlyGivenNames x7
      refine Frame.local x7 ?_ fun h7 => ?_
      · subst x7
        refine Frame.step ?_ (State.setCurRec_frame _ _ _) rfl
        assumption
      clear_value x7
      refine Frame.ite (fun _ => ?_) fun _ => ?_
      · refine Frame.step ?_ (State.unitConds_frame _ _) rfl
        refine Frame.step ?_ (State.afterClose_frame _ _) rfl
        refine Frame.step ?_ (State.closeCapture_frame _ _ _) rfl
        assumption
      · assumption
    · refine Frame.ite (fun _ => ?_) fun _ => ?_
      · refine Frame.step ?_ (State.unitConds_frame _ _) rfl
        refine Frame.step ?_ (State.armIfReady_frame _ _) rfl
        refine Frame.step ?_ (State.preRow_frame _ _ _ _) rfl
        assumption
      · refine Frame.step ?_ (State.leaveFull_frame _ _) rfl
        assumption

theorem execCaptureRow_frame (a0 : ℕ) (a1 : List (Option Word)) (s : State) (t : State) (h : execCaptureRow a0 a1 s = .next t) : Frame 0x1201181 s t := by
  unfold execCaptureRow at h
  refine onEngines_frame h ?_
  refine Frame.step ?_ (State.captureRow_frame _ _) rfl
  exact Frame.refl _ _

theorem execCaptureHoldoffEnd_frame (a0 : ℕ) (s : State) (t : State) (h : execCaptureHoldoffEnd a0 s = .next t) : Frame 0x201181 s t := by
  unfold execCaptureHoldoffEnd at h
  refine onEngines_frame h ?_
  split
  · refine Frame.ite (fun _ => ?_) fun _ => ?_
    · refine Frame.step ?_ (State.unitConds_frame _ _) rfl
      refine Frame.step ?_ (State.holdoffOver_frame _ _) rfl
      exact Frame.refl _ _
    · exact Frame.refl _ _
  · exact Frame.refl _ _

theorem State.captureLate_frame (s : State) (a1 : ℕ) : Frame 0x1181 s (State.captureLate s a1) := by
  unfold State.captureLate
  refine Frame.ite (fun _ => ?_) fun _ => ?_
  · refine Frame.step ?_ (State.deviceMiss_frame _ _) rfl
    refine Frame.step ?_ (State.raise_frame _ _ _ _ _ _) rfl
    refine Frame.step ?_ (State.count_frame _ _) rfl
    refine Frame.step ?_ (State.setCurRec_frame _ _ _) rfl
    exact Frame.refl _ _
  · exact Frame.refl _ _

theorem execCaptureDeadlineMiss_frame (a0 : ℕ) (s : State) (t : State) (h : execCaptureDeadlineMiss a0 s = .next t) : Frame 0x1181 s t := by
  unfold execCaptureDeadlineMiss at h
  refine onEngines_frame h ?_
  refine Frame.step ?_ (State.captureLate_frame _ _) rfl
  exact Frame.refl _ _

theorem execCaptureRead_frame (a0 : CmdHeader) (a1 : ℕ) (a2 : ℕ) (a3 : ℕ) (a4 : ℕ) (a5 : ℕ) (a6 : ℕ) (a7 : ℕ) (s : State) (t : State) (h : execCaptureRead a0 a1 a2 a3 a4 a5 a6 a7 s = .next t) : Frame 0x2001201 s t := by
  unfold execCaptureRead at h
  refine onCore_frame h ?_
  extract_lets +onlyGivenNames x1
  clear_value x1
  refine State.command_frame ?_ rfl fun _ _ => ?_
  · exact Frame.refl _ _
  · refine Frame.step ?_ (State.captureReadStart_frame _ _ _ _ _ _ _ _) rfl
    assumption

theorem execCaptureMatch_frame (s : State) (t : State) (h : execCaptureMatch s = .next t) : Frame 0x201181 s t := by
  unfold execCaptureMatch at h
  refine onEngines_frame h ?_
  refine Frame.step ?_ (State.captureMatch_frame _) rfl
  exact Frame.refl _ _

end Sys2Proof.Machine
end

