-- ==== Sys2Proof/Laws/FrameTime.lean ====
section
/-!
SUPPORT. What each operation of Machine/Time.lean can change: one lemma an operation, with the mask of the parts of the state it
may touch (the bits are listed in Laws/Frame.lean).
-/

set_option linter.unusedVariables false
set_option Elab.async false

namespace Sys2Proof.Machine

theorem State.slewEnd_frame (s : State) : Frame 0x9 s (State.slewEnd s) := by
  unfold State.slewEnd
  refine Frame.ite (fun _ => ?_) fun _ => ?_
  · refine Frame.step ?_ (State.setWord_frame _ _ _) rfl
    refine Frame.upd ?_ rfl
    exact Frame.refl _ _
  · exact Frame.refl _ _

theorem State.ppsHold_frame (s : State) : Frame 0x2000008 s (State.ppsHold s) := by
  unfold State.ppsHold
  refine Frame.ite (fun _ => ?_) fun _ => ?_
  · refine Frame.step ?_ (State.emit_frame _ _) rfl
    refine Frame.upd ?_ rfl
    exact Frame.refl _ _
  · exact Frame.refl _ _

theorem State.showQuality_frame (s : State) : Frame 0x2000009 s (State.showQuality s) := by
  unfold State.showQuality
  refine Frame.step ?_ (State.noteQual_frame _) rfl
  refine Frame.step ?_ (State.ppsHold_frame _) rfl
  refine Frame.step ?_ (State.put_frame _ _ _) rfl
  exact Frame.refl _ _

theorem State.alarmFire_frame (s : State) (a1 : ℕ) (a2 : Bool) (a3 : Bool) : Frame 0x181 s (State.alarmFire s a1 a2 a3) := by
  unfold State.alarmFire
  extract_lets +onlyGivenNames x1
  refine Frame.local x1 ?_ fun h1 => ?_
  · subst x1
    refine Frame.when ?_ fun _ _ => ?_
    · exact Frame.refl _ _
    · refine Frame.step ?_ (State.put_frame _ _ _) rfl
      assumption
  clear_value x1
  extract_lets +onlyGivenNames x2
  refine Frame.local x2 ?_ fun h2 => ?_
  · subst x2
    refine Frame.step ?_ (State.put_frame _ _ _) rfl
    refine Frame.step ?_ (State.put_frame _ _ _) rfl
    refine Frame.step ?_ (State.put_frame _ _ _) rfl
    assumption
  clear_value x2
  refine Frame.when ?_ fun _ _ => ?_
  · assumption
  · refine Frame.step ?_ (State.fire_frame _ _) rfl
    refine Frame.step ?_ (State.raise_frame _ _ _ _ _ _) rfl
    assumption

theorem State.calCommit_frame (s : State) (a1 : ℕ) : Frame 0x191 s (State.calCommit s a1) := by
  unfold State.calCommit
  extract_lets +onlyGivenNames x1
  extract_lets +onlyGivenNames x2
  clear_value x2
  extract_lets +onlyGivenNames x3
  refine Frame.local x3 ?_ fun h3 => ?_
  · subst x3
    refine Frame.upd ?_ rfl
    exact Frame.refl _ _
  extract_lets +onlyGivenNames x4
  refine Frame.local x4 ?_ fun h4 => ?_
  · subst x4
    refine Frame.step ?_ (State.put_frame _ _ _) rfl
    refine Frame.step ?_ (State.put_frame _ _ _) rfl
    assumption
  refine Frame.ite (fun _ => ?_) fun _ => ?_
  · refine Frame.forEach ?_ fun _ _ _ => ?_
    · assumption
    · refine Frame.ite (fun _ => ?_) fun _ => ?_
      · refine Frame.step ?_ (State.alarmFire_frame _ _ _ _) rfl
        refine Frame.upd ?_ rfl
        assumption
      · assumption
  · assumption

theorem State.setCal_frame (s : State) (c : CalState) : Frame 0x10 s { s with cal := c } := by
  refine Frame.upd ?_ rfl
  exact Frame.refl _ _

theorem State.calAuto_frame (s : State) : Frame 0x191 s (State.calAuto s) := by
  unfold State.calAuto
  extract_lets +onlyGivenNames x1
  clear_value x1
  refine Frame.ite (fun _ => ?_) fun _ => ?_
  · refine Frame.ite (fun _ => ?_) fun _ => ?_
    · generalize x1 / 32768 * 32768 - 32768 = y
      extract_lets +onlyGivenNames x2
      refine Frame.local x2 ?_ fun h2 => ?_
      · subst x2
        refine Frame.step ?_ (State.calCommit_frame _ _) rfl
        exact Frame.refl _ _
      exact Frame.step h2 (State.setCal_frame _ _) rfl
    · refine Frame.step ?_ (State.calCommit_frame _ _) rfl
      exact Frame.refl _ _
  · exact Frame.refl _ _

theorem State.timeTo_frame (s : State) (a1 : ℕ) : Frame 0x2221199 s (State.timeTo s a1) := by
  unfold State.timeTo
  extract_lets +onlyGivenNames x1
  clear_value x1
  refine Frame.ite (fun _ => ?_) fun _ => ?_
  · refine Frame.step ?_ (State.showQuality_frame _) rfl
    exact Frame.refl _ _
  · extract_lets +onlyGivenNames x2
    refine Frame.local x2 ?_ fun h2 => ?_
    · subst x2
      refine Frame.when ?_ fun _ _ => ?_
      · exact Frame.refl _ _
      · refine Frame.step ?_ (State.kickPassed_frame _) rfl
        assumption
    clear_value x2
    extract_lets +onlyGivenNames x3
    refine Frame.local x3 ?_ fun h3 => ?_
    · subst x3
      refine Frame.step ?_ (State.showQuality_frame _) rfl
      refine Frame.step ?_ (State.put_frame _ _ _) rfl
      assumption
    clear_value x3
    extract_lets +onlyGivenNames x4
    refine Frame.local x4 ?_ fun h4 => ?_
    · subst x4
      refine Frame.step ?_ (State.raise_frame _ _ _ _ _ _) rfl
      assumption
    clear_value x4
    extract_lets +onlyGivenNames x5
    refine Frame.local x5 ?_ fun h5 => ?_
    · subst x5
      refine Frame.step ?_ (State.fire_frame _ _) rfl
      refine Frame.step ?_ (State.timeConds_frame _ _) rfl
      assumption
    clear_value x5
    extract_lets +onlyGivenNames x6
    refine Frame.local x6 ?_ fun h6 => ?_
    · subst x6
      refine Frame.when ?_ fun _ _ => ?_
      · assumption
      · refine Frame.upd ?_ rfl
        assumption
    clear_value x6
    extract_lets +onlyGivenNames x7
    refine Frame.local x7 ?_ fun h7 => ?_
    · subst x7
      refine Frame.when ?_ fun _ _ => ?_
      · assumption
      · refine Frame.step ?_ (State.trimAbort_frame _) rfl
        assumption
    clear_value x7
    refine Frame.when ?_ fun _ _ => ?_
    · assumption
    · refine Frame.step ?_ (State.calAuto_frame _) rfl
      assumption

theorem State.setBound_frame (s : State) (a1 : Option ℕ) : Frame 0x8 s (State.setBound s a1) := by
  unfold State.setBound
  refine Frame.upd ?_ rfl
  exact Frame.refl _ _

theorem State.acquire_frame (s : State) : Frame 0x2221199 s (State.acquire s) := by
  unfold State.acquire
  extract_lets +onlyGivenNames x1
  refine Frame.local x1 ?_ fun h1 => ?_
  · subst x1
    refine Frame.step ?_ (State.slewEnd_frame _) rfl
    exact Frame.refl _ _
  clear_value x1
  extract_lets +onlyGivenNames x2
  extract_lets +onlyGivenNames x3
  refine Frame.local x3 ?_ fun h3 => ?_
  · subst x3
    refine Frame.upd ?_ rfl
    assumption
  clear_value x3
  refine Frame.step ?_ (State.timeTo_frame _ _) rfl
  refine Frame.step ?_ (State.setBound_frame _ _) rfl
  refine Frame.step ?_ (State.put_frame _ _ _) rfl
  assumption

theorem State.showLeap_frame (s : State) : Frame 0x9 s (State.showLeap s) := by
  unfold State.showLeap
  extract_lets +onlyGivenNames x1
  clear_value x1
  extract_lets +onlyGivenNames x2
  extract_lets +onlyGivenNames x3
  refine Frame.local x3 ?_ fun h3 => ?_
  · subst x3
    refine Frame.upd ?_ rfl
    exact Frame.refl _ _
  clear_value x3
  refine Frame.step ?_ (State.put_frame _ _ _) rfl
  assumption

theorem State.freerun_frame (s : State) : Frame 0x2221199 s (State.freerun s) := by
  unfold State.freerun
  extract_lets +onlyGivenNames x1
  refine Frame.local x1 ?_ fun h1 => ?_
  · subst x1
    refine Frame.step ?_ (State.timeTo_frame _ _) rfl
    exact Frame.refl _ _
  clear_value x1
  refine Frame.ite (fun _ => ?_) fun _ => ?_
  · refine Frame.step ?_ (State.acquire_frame _) rfl
    assumption
  · assumption

theorem State.setRate_frame (s : State) (a1 : ℤ) : Frame 0x9 s (State.setRate s a1) := by
  unfold State.setRate
  extract_lets +onlyGivenNames x1
  clear_value x1
  extract_lets +onlyGivenNames x2
  refine Frame.local x2 ?_ fun h2 => ?_
  · subst x2
    refine Frame.step ?_ (State.setWord_frame _ _ _) rfl
    exact Frame.refl _ _
  clear_value x2
  refine Frame.upd ?_ rfl
  assumption

theorem State.sourceLost_frame (s : State) : Frame 0x2221199 s (State.sourceLost s) := by
  unfold State.sourceLost
  refine Frame.ite (fun _ => ?_) fun _ => ?_
  · exact Frame.refl _ _
  · extract_lets +onlyGivenNames x1
    refine Frame.local x1 ?_ fun h1 => ?_
    · subst x1
      refine Frame.step ?_ (State.setBound_frame _ _) rfl
      exact Frame.refl _ _
    extract_lets +onlyGivenNames x2
    extract_lets +onlyGivenNames x3
    refine Frame.local x3 ?_ fun h3 => ?_
    · subst x3
      refine Frame.upd ?_ rfl
      assumption
    extract_lets +onlyGivenNames x4
    refine Frame.local x4 ?_ fun h4 => ?_
    · subst x4
      refine Frame.step ?_ (State.showLeap_frame _) rfl
      refine Frame.step ?_ (State.put_frame _ _ _) rfl
      assumption
    extract_lets +onlyGivenNames x5
    refine Frame.local x5 ?_ fun h5 => ?_
    · subst x5
      refine Frame.ite (fun _ => ?_) fun _ => ?_
      · refine Frame.step ?_ (State.freerun_frame _) rfl
        assumption
      · refine Frame.ite (fun _ => ?_) fun _ => ?_
        · refine Frame.step ?_ (State.timeTo_frame _ _) rfl
          refine Frame.step ?_ (State.setRate_frame _ _) rfl
          assumption
        · refine Frame.step ?_ (State.showQuality_frame _) rfl
          refine Frame.step ?_ (State.slewEnd_frame _) rfl
          assumption
    clear_value x5
    refine Frame.step ?_ (State.put_frame _ _ _) rfl
    assumption

theorem State.showPort_frame (s : State) (a1 : ℕ) : Frame 0x1 s (State.showPort s a1) := by
  unfold State.showPort
  extract_lets +onlyGivenNames x1
  clear_value x1
  extract_lets +onlyGivenNames x2
  refine Frame.local x2 ?_ fun h2 => ?_
  · subst x2
    refine Frame.step ?_ (State.put_frame _ _ _) rfl
    exact Frame.refl _ _
  clear_value x2
  refine Frame.ite (fun _ => ?_) fun _ => ?_
  · assumption
  · refine Frame.step ?_ (State.put_frame _ _ _) rfl
    assumption

theorem State.setPtp_frame (s : State) (a1 : ℕ) (a2 : PtpPort → PtpPort) : Frame 0x8 s (State.setPtp s a1 a2) := by
  unfold State.setPtp
  refine Frame.upd ?_ rfl
  exact Frame.refl _ _

theorem State.sourceFound_frame (s : State) (a1 : ℕ) : Frame 0x2221199 s (State.sourceFound s a1) := by
  unfold State.sourceFound
  extract_lets +onlyGivenNames x1
  refine Frame.local x1 ?_ fun h1 => ?_
  · subst x1
    refine Frame.when ?_ fun _ _ => ?_
    · exact Frame.refl _ _
    · refine Frame.step ?_ (State.setBound_frame _ _) rfl
      assumption
  extract_lets +onlyGivenNames x2
  refine Frame.local x2 ?_ fun h2 => ?_
  · subst x2
    refine Frame.step ?_ (State.showLeap_frame _) rfl
    refine Frame.step ?_ (State.put_frame _ _ _) rfl
    refine Frame.step ?_ (State.put_frame _ _ _) rfl
    assumption
  extract_lets +onlyGivenNames x3
  extract_lets +onlyGivenNames x4
  refine Frame.local x4 ?_ fun h4 => ?_
  · subst x4
    refine Frame.upd ?_ rfl
    assumption
  refine Frame.ite (fun _ => ?_) fun _ => ?_
  · refine Frame.step ?_ (State.acquire_frame _) rfl
    assumption
  · assumption

theorem State.placePorts_frame (s : State) : Frame 0x2221199 s (State.placePorts s) := by
  unfold State.placePorts
  extract_lets +onlyGivenNames x1
  refine Frame.local x1 ?_ fun h1 => ?_
  · subst x1
    refine Frame.forEach ?_ fun _ _ _ => ?_
    · exact Frame.refl _ _
    · refine Frame.step ?_ (State.showPort_frame _ _) rfl
      assumption
  clear_value x1
  split
  · extract_lets +onlyGivenNames x2
    clear_value x2
    extract_lets +onlyGivenNames x3
    refine Frame.local x3 ?_ fun h3 => ?_
    · subst x3
      refine Frame.step ?_ (State.setPair_frame _ _ _ _) rfl
      assumption
    clear_value x3
    refine Frame.ite (fun _ => ?_) fun _ => ?_
    · refine Frame.step ?_ (State.showLeap_frame _) rfl
      assumption
    · refine Frame.step ?_ (State.sourceFound_frame _ _) rfl
      assumption
  · assumption

theorem State.portLost_frame (s : State) (a1 : ℕ) : Frame 0x2221199 s (State.portLost s a1) := by
  unfold State.portLost
  extract_lets +onlyGivenNames x1
  clear_value x1
  extract_lets +onlyGivenNames x2
  refine Frame.local x2 ?_ fun h2 => ?_
  · subst x2
    refine Frame.step ?_ (State.setPtp_frame _ _ _) rfl
    exact Frame.refl _ _
  clear_value x2
  extract_lets +onlyGivenNames x3
  clear_value x3
  refine Frame.ite (fun _ => ?_) fun _ => ?_
  · refine Frame.forEach ?_ fun _ _ _ => ?_
    · assumption
    · refine Frame.step ?_ (State.showPort_frame _ _) rfl
      assumption
  · refine Frame.ite (fun _ => ?_) fun _ => ?_
    · refine Frame.step ?_ (State.placePorts_frame _) rfl
      assumption
    · extract_lets +onlyGivenNames x4
      refine Frame.local x4 ?_ fun h4 => ?_
      · subst x4
        refine Frame.forEach ?_ fun _ _ _ => ?_
        · assumption
        · refine Frame.step ?_ (State.showPort_frame _ _) rfl
          assumption
      clear_value x4
      refine Frame.ite (fun _ => ?_) fun _ => ?_
      · refine Frame.step ?_ (State.setBound_frame _ _) rfl
        refine Frame.upd ?_ rfl
        assumption
      · refine Frame.step ?_ (State.sourceLost_frame _) rfl
        assumption

theorem State.stepBlocks_frame (s : State) (a1 : ℕ) : Frame 0x225db81 s (State.stepBlocks s a1) := by
  unfold State.stepBlocks
  refine Frame.step ?_ (State.islandStep_frame _) rfl
  refine Frame.step ?_ (State.phasorRestart_frame _ _) rfl
  refine Frame.step ?_ (State.alignTimeStep_frame _ _) rfl
  refine Frame.step ?_ (State.lanesStep_frame _) rfl
  refine Frame.step ?_ (State.ledgerTimeStep_frame _ _) rfl
  exact Frame.refl _ _

theorem State.ppsMiss_frame (s : State) : Frame 0x2221199 s (State.ppsMiss s) := by
  unfold State.ppsMiss
  extract_lets +onlyGivenNames x1
  refine Frame.local x1 ?_ fun h1 => ?_
  · subst x1
    refine Frame.step ?_ (State.count_frame _ _) rfl
    exact Frame.refl _ _
  extract_lets +onlyGivenNames x2
  extract_lets +onlyGivenNames x3
  refine Frame.local x3 ?_ fun h3 => ?_
  · subst x3
    refine Frame.upd ?_ rfl
    assumption
  refine Frame.ite (fun _ => ?_) fun _ => ?_
  · extract_lets +onlyGivenNames x4
    extract_lets +onlyGivenNames x5
    refine Frame.local x5 ?_ fun h5 => ?_
    · subst x5
      refine Frame.upd ?_ rfl
      assumption
    refine Frame.ite (fun _ => ?_) fun _ => ?_
    · refine Frame.step ?_ (State.sourceLost_frame _) rfl
      assumption
    · assumption
  · assumption

theorem State.slew_frame (s : State) (a1 : ℤ) : Frame 0x9 s (State.slew s a1) := by
  unfold State.slew
  extract_lets +onlyGivenNames x1
  extract_lets +onlyGivenNames x2
  refine Frame.local x2 ?_ fun h2 => ?_
  · subst x2
    refine Frame.ite (fun _ => ?_) fun _ => ?_
    · exact Frame.refl _ _
    · refine Frame.upd ?_ rfl
      exact Frame.refl _ _
  clear_value x2
  extract_lets +onlyGivenNames x3
  extract_lets +onlyGivenNames x4
  refine Frame.local x4 ?_ fun h4 => ?_
  · subst x4
    refine Frame.upd ?_ rfl
    assumption
  clear_value x4
  refine Frame.step ?_ (State.setWord_frame _ _ _) rfl
  assumption

theorem State.fault_frame (s : State) (a1 : ℤ) : Frame 0x2221199 s (State.fault s a1) := by
  unfold State.fault
  extract_lets +onlyGivenNames x1
  refine Frame.local x1 ?_ fun h1 => ?_
  · subst x1
    refine Frame.step ?_ (State.raise_frame _ _ _ _ _ _) rfl
    exact Frame.refl _ _
  clear_value x1
  refine Frame.step ?_ (State.timeTo_frame _ _) rfl
  refine Frame.step ?_ (State.slew_frame _ _) rfl
  assumption

theorem State.stepBy_frame (s : State) (a1 : ℤ) : Frame 0x325fbc9 s (State.stepBy s a1) := by
  unfold State.stepBy
  extract_lets +onlyGivenNames x1
  extract_lets +onlyGivenNames x2
  extract_lets +onlyGivenNames x3
  extract_lets +onlyGivenNames x4
  refine Frame.local x4 ?_ fun h4 => ?_
  · subst x4
    refine Frame.upd ?_ rfl
    exact Frame.refl _ _
  extract_lets +onlyGivenNames x5
  refine Frame.local x5 ?_ fun h5 => ?_
  · subst x5
    refine Frame.step ?_ (State.setWord_frame _ _ _) rfl
    assumption
  extract_lets +onlyGivenNames x6
  refine Frame.local x6 ?_ fun h6 => ?_
  · subst x6
    refine Frame.step ?_ (State.setWord_frame _ _ _) rfl
    assumption
  extract_lets +onlyGivenNames x7
  refine Frame.local x7 ?_ fun h7 => ?_
  · subst x7
    refine Frame.step ?_ (State.bump_frame _ _) rfl
    assumption
  extract_lets +onlyGivenNames x8
  refine Frame.local x8 ?_ fun h8 => ?_
  · subst x8
    refine Frame.step ?_ (State.fire_frame _ _) rfl
    refine Frame.step ?_ (State.raise_frame _ _ _ _ _ _) rfl
    assumption
  extract_lets +onlyGivenNames x9
  refine Frame.local x9 ?_ fun h9 => ?_
  · subst x9
    refine Frame.step ?_ (State.orderLog_frame _ _) rfl
    assumption
  extract_lets +onlyGivenNames x10
  refine Frame.local x10 ?_ fun h10 => ?_
  · subst x10
    refine Frame.ite (fun _ => ?_) fun _ => ?_
    · assumption
    · refine Frame.step ?_ (State.stepBlocks_frame _ _) rfl
      assumption
  clear_value x10
  refine Frame.step ?_ (State.timeConds_frame _ _) rfl
  refine Frame.step ?_ (State.timeConds_frame _ _) rfl
  refine Frame.step ?_ (State.captureStep_frame _) rfl
  refine Frame.step ?_ (State.analogueStep_frame _ _) rfl
  assumption

theorem State.servo_frame (s : State) (a1 : ℤ) (a2 : Option ℕ) : Frame 0x327fbd9 s (State.servo s a1 a2) := by
  unfold State.servo
  extract_lets +onlyGivenNames x1
  clear_value x1
  extract_lets +onlyGivenNames x2
  clear_value x2
  extract_lets +onlyGivenNames x3
  refine Frame.ite (fun _ => ?_) fun _ => ?_
  · exact Frame.refl _ _
  · extract_lets +onlyGivenNames x4
    refine Frame.local x4 ?_ fun h4 => ?_
    · subst x4
      refine Frame.step ?_ (State.setWord_frame _ _ _) rfl
      exact Frame.refl _ _
    clear_value x4
    extract_lets +onlyGivenNames x5
    refine Frame.local x5 ?_ fun h5 => ?_
    · subst x5
      refine Frame.step ?_ (State.setBound_frame _ _) rfl
      assumption
    clear_value x5
    refine Frame.ite (fun _ => ?_) fun _ => ?_
    · refine Frame.ite (fun _ => ?_) fun _ => ?_
      · extract_lets +onlyGivenNames x6
        refine Frame.local x6 ?_ fun h6 => ?_
        · subst x6
          refine Frame.step ?_ (State.showQuality_frame _) rfl
          refine Frame.step ?_ (State.put_frame _ _ _) rfl
          assumption
        clear_value x6
        refine Frame.step ?_ (State.stepBy_frame _ _) rfl
        refine Frame.upd ?_ rfl
        assumption
      · refine Frame.ite (fun _ => ?_) fun _ => ?_
        · refine Frame.step ?_ (State.fault_frame _ _) rfl
          assumption
        · extract_lets +onlyGivenNames x7
          clear_value x7
          extract_lets +onlyGivenNames x8
          extract_lets +onlyGivenNames x9
          refine Frame.local x9 ?_ fun h9 => ?_
          · subst x9
            simp only [x3]
            refine Frame.step ?_ (State.setRate_frame _ _) rfl
            refine Frame.upd ?_ rfl
            assumption
          clear_value x9
          refine Frame.ite (fun _ => ?_) fun _ => ?_
          · refine Frame.step ?_ (State.timeTo_frame _ _) rfl
            refine Frame.step ?_ (State.put_frame _ _ _) rfl
            assumption
          · refine Frame.step ?_ (State.showQuality_frame _) rfl
            assumption
    · refine Frame.ite (fun _ => ?_) fun _ => ?_
      · refine Frame.ite (fun _ => ?_) fun _ => ?_
        · refine Frame.step ?_ (State.fault_frame _ _) rfl
          assumption
        · refine Frame.step ?_ (State.showQuality_frame _) rfl
          simp only [x3]
          refine Frame.step ?_ (State.setRate_frame _ _) rfl
          assumption
      · refine Frame.ite (fun _ => ?_) fun _ => ?_
        · refine Frame.ite (fun _ => ?_) fun _ => ?_
          · refine Frame.step ?_ (State.fault_frame _ _) rfl
            assumption
          · refine Frame.step ?_ (State.timeTo_frame _ _) rfl
            simp only [x3]
            refine Frame.step ?_ (State.setRate_frame _ _) rfl
            assumption
        · refine Frame.step ?_ (State.showQuality_frame _) rfl
          refine Frame.step ?_ (State.slew_frame _ _) rfl
          assumption

theorem State.ptpUse_frame (s : State) (a1 : ℕ) (a2 : PtpBody) : Frame 0x327fbd9 s (State.ptpUse s a1 a2) := by
  unfold State.ptpUse
  split
  · exact Frame.refl _ _
  · extract_lets +onlyGivenNames x1
    clear_value x1
    refine Frame.step ?_ (State.put_frame _ _ _) rfl
    refine Frame.step ?_ (State.setPtp_frame _ _ _) rfl
    exact Frame.refl _ _
  · refine Frame.ite (fun _ => ?_) fun _ => ?_
    · exact Frame.refl _ _
    · extract_lets +onlyGivenNames x2
      clear_value x2
      extract_lets +onlyGivenNames x3
      clear_value x3
      extract_lets +onlyGivenNames x4
      refine Frame.local x4 ?_ fun h4 => ?_
      · subst x4
        refine Frame.step ?_ (State.setPtp_frame _ _ _) rfl
        exact Frame.refl _ _
      clear_value x4
      extract_lets +onlyGivenNames x5
      extract_lets +onlyGivenNames x6
      refine Frame.local x6 ?_ fun h6 => ?_
      · subst x6
        refine Frame.ite (fun _ => ?_) fun _ => ?_
        · refine Frame.upd ?_ rfl
          assumption
        · assumption
      clear_value x6
      refine Frame.step ?_ (State.placePorts_frame _) rfl
      assumption
  · extract_lets +onlyGivenNames x7
    refine Frame.local x7 ?_ fun h7 => ?_
    · subst x7
      refine Frame.step ?_ (State.setPtp_frame _ _ _) rfl
      exact Frame.refl _ _
    clear_value x7
    refine Frame.ite (fun _ => ?_) fun _ => ?_
    · extract_lets +onlyGivenNames x8
      clear_value x8
      split
      · refine Frame.step ?_ (State.servo_frame _ _ _) rfl
        assumption
      · assumption
    · assumption

theorem State.ppsAccept_frame (s : State) : Frame 0x327fbd9 s (State.ppsAccept s) := by
  unfold State.ppsAccept
  extract_lets +onlyGivenNames x1
  clear_value x1
  extract_lets +onlyGivenNames x2
  extract_lets +onlyGivenNames x3
  refine Frame.local x3 ?_ fun h3 => ?_
  · subst x3
    refine Frame.upd ?_ rfl
    exact Frame.refl _ _
  clear_value x3
  split
  · assumption
  · refine Frame.ite (fun _ => ?_) fun _ => ?_
    · assumption
    · extract_lets +onlyGivenNames x4
      refine Frame.local x4 ?_ fun h4 => ?_
      · subst x4
        refine Frame.ite (fun _ => ?_) fun _ => ?_
        · assumption
        · refine Frame.step ?_ (State.sourceFound_frame _ _) rfl
          assumption
      clear_value x4
      refine Frame.step ?_ (State.servo_frame _ _ _) rfl
      assumption

theorem execPpsInEdge_frame (a0 : Bool) (a1 : ℕ) (s : State) (t : State) (h : execPpsInEdge a0 a1 s = .next t) : Frame 0x327fbd9 s t := by
  unfold execPpsInEdge at h
  refine onCore_frame h ?_
  refine Frame.ite (fun _ => ?_) fun _ => ?_
  · exact Frame.refl _ _
  · extract_lets +onlyGivenNames x1
    clear_value x1
    refine Frame.ite (fun _ => ?_) fun _ => ?_
    · refine Frame.step ?_ (State.ppsAccept_frame _) rfl
      exact Frame.refl _ _
    · refine Frame.step ?_ (State.count_frame _ _) rfl
      exact Frame.refl _ _

theorem State.slewDone_frame (s : State) : Frame 0x9 s (State.slewDone s) := by
  unfold State.slewDone
  split
  · refine Frame.ite (fun _ => ?_) fun _ => ?_
    · refine Frame.step ?_ (State.setWord_frame _ _ _) rfl
      refine Frame.upd ?_ rfl
      exact Frame.refl _ _
    · exact Frame.refl _ _
  · exact Frame.refl _ _

theorem execPtpMessageRx_frame (a0 : ℕ) (a1 : PtpMessage) (s : State) (t : State) (h : execPtpMessageRx a0 a1 s = .next t) : Frame 0x327fbd9 s t := by
  unfold execPtpMessageRx at h
  refine onCore_frame h ?_
  refine Frame.ite (fun _ => ?_) fun _ => ?_
  · exact Frame.refl _ _
  · refine Frame.ite (fun _ => ?_) fun _ => ?_
    · refine Frame.step ?_ (State.count_frame _ _) rfl
      exact Frame.refl _ _
    · refine Frame.step ?_ (State.ptpUse_frame _ _ _) rfl
      exact Frame.refl _ _

theorem execAnnounceTimeout_frame (a0 : ℕ) (s : State) (t : State) (h : execAnnounceTimeout a0 s = .next t) : Frame 0x2221199 s t := by
  unfold execAnnounceTimeout at h
  refine onCore_frame h ?_
  extract_lets +onlyGivenNames x1
  clear_value x1
  refine Frame.ite (fun _ => ?_) fun _ => ?_
  · refine Frame.step ?_ (State.portLost_frame _ _) rfl
    exact Frame.refl _ _
  · exact Frame.refl _ _

theorem execSyncTimeout_frame (a0 : ℕ) (s : State) (t : State) (h : execSyncTimeout a0 s = .next t) : Frame 0x2221199 s t := by
  unfold execSyncTimeout at h
  refine onCore_frame h ?_
  extract_lets +onlyGivenNames x1
  clear_value x1
  refine Frame.ite (fun _ => ?_) fun _ => ?_
  · refine Frame.step ?_ (State.portLost_frame _ _) rfl
    exact Frame.refl _ _
  · exact Frame.refl _ _

theorem execPtpMasterTx_frame (a0 : ℕ) (a1 : ℕ) (s : State) (t : State) (h : execPtpMasterTx a0 a1 s = .next t) : Frame 0x10000a1 s t := by
  unfold execPtpMasterTx at h
  refine onCore_frame h ?_
  refine Frame.ite (fun _ => ?_) fun _ => ?_
  · refine Frame.ite (fun _ => ?_) fun _ => ?_
    · refine Frame.step ?_ (State.txOffer_frame _ _ _ _) rfl
      exact Frame.refl _ _
    · exact Frame.refl _ _
  · refine Frame.ite (fun _ => ?_) fun _ => ?_
    · exact Frame.refl _ _
    · refine Frame.ite (fun _ => ?_) fun _ => ?_
      · refine Frame.step ?_ (State.draw_frame _) rfl
        refine Frame.step ?_ (State.txOffer_frame _ _ _ _) rfl
        exact Frame.refl _ _
      · extract_lets +onlyGivenNames x1
        refine Frame.local x1 ?_ fun h1 => ?_
        · subst x1
          refine Frame.step ?_ (State.txOffer_frame _ _ _ _) rfl
          exact Frame.refl _ _
        clear_value x1
        refine Frame.ite (fun _ => ?_) fun _ => ?_
        · refine Frame.step ?_ (State.txOffer_frame _ _ _ _) rfl
          assumption
        · assumption

theorem execTodSentenceRx_frame (a0 : Zda) (s : State) (t : State) (h : execTodSentenceRx a0 s = .next t) : Frame 0x89 s t := by
  unfold execTodSentenceRx at h
  refine onCore_frame h ?_
  refine Frame.ite (fun _ => ?_) fun _ => ?_
  · exact Frame.refl _ _
  · extract_lets +onlyGivenNames x1
    clear_value x1
    extract_lets +onlyGivenNames x2
    clear_value x2
    refine Frame.ite (fun _ => ?_) fun _ => ?_
    · refine Frame.step ?_ (State.count_frame _ _) rfl
      exact Frame.refl _ _
    · refine Frame.upd ?_ rfl
      exact Frame.refl _ _

theorem execTimeAcquire_frame (a0 : CmdHeader) (s : State) (t : State) (h : execTimeAcquire a0 s = .next t) : Frame 0x2221399 s t := by
  unfold execTimeAcquire at h
  refine onCore_frame h ?_
  refine State.command_frame ?_ rfl fun _ _ => ?_
  · exact Frame.refl _ _
  · refine Frame.ite (fun _ => ?_) fun _ => ?_
    · extract_lets +onlyGivenNames x1
      refine Frame.local x1 ?_ fun h1 => ?_
      · subst x1
        refine Frame.step ?_ (State.acquire_frame _) rfl
        assumption
      clear_value x1
      refine Frame.step ?_ (State.finish_frame _ _ _ _ _ _ _) rfl
      assumption
    · refine Frame.step ?_ (State.finish_frame _ _ _ _ _ _ _) rfl
      assumption

theorem execTimeStep_frame (a0 : CmdHeader) (a1 : ℕ) (a2 : ℤ) (a3 : ℤ) (s : State) (t : State) (h : execTimeStep a0 a1 a2 a3 s = .next t) : Frame 0x325fbc9 s t := by
  unfold execTimeStep at h
  refine onCore_frame h ?_
  refine State.command_frame ?_ rfl fun _ _ => ?_
  · exact Frame.refl _ _
  · refine Frame.ite (fun _ => ?_) fun _ => ?_
    · refine Frame.step ?_ (State.finish_frame _ _ _ _ _ _ _) rfl
      assumption
    · extract_lets +onlyGivenNames x1
      clear_value x1
      extract_lets +onlyGivenNames x2
      clear_value x2
      extract_lets +onlyGivenNames x3
      clear_value x3
      refine Frame.ite (fun _ => ?_) fun _ => ?_
      · refine Frame.step ?_ (State.finish_frame _ _ _ _ _ _ _) rfl
        assumption
      · extract_lets +onlyGivenNames x4
        refine Frame.local x4 ?_ fun h4 => ?_
        · subst x4
          refine Frame.when ?_ fun _ _ => ?_
          · assumption
          · refine Frame.step ?_ (State.put_frame _ _ _) rfl
            assumption
        clear_value x4
        extract_lets +onlyGivenNames x5
        refine Frame.local x5 ?_ fun h5 => ?_
        · subst x5
          refine Frame.step ?_ (State.stepBy_frame _ _) rfl
          assumption
        clear_value x5
        refine Frame.step ?_ (State.finish_frame _ _ _ _ _ _ _) rfl
        assumption

theorem execPortQualifyWaitEnd_frame (s : State) (t : State) (h : execPortQualifyWaitEnd s = .next t) : Frame 0x2221199 s t := by
  unfold execPortQualifyWaitEnd at h
  refine onCore_frame h ?_
  split
  · refine Frame.ite (fun _ => ?_) fun _ => ?_
    · refine Frame.step ?_ (State.sourceLost_frame _) rfl
      exact Frame.refl _ _
    · exact Frame.refl _ _
  · exact Frame.refl _ _

theorem execQualityTick_frame (s : State) (t : State) (h : execQualityTick s = .next t) : Frame 0x2221199 s t := by
  unfold execQualityTick at h
  refine onCore_frame h ?_
  refine Frame.ite (fun _ => ?_) fun _ => ?_
  · exact Frame.refl _ _
  · extract_lets +onlyGivenNames x1
    refine Frame.local x1 ?_ fun h1 => ?_
    · subst x1
      refine Frame.step ?_ (State.showQuality_frame _) rfl
      exact Frame.refl _ _
    clear_value x1
    refine Frame.ite (fun _ => ?_) fun _ => ?_
    · refine Frame.step ?_ (State.freerun_frame _) rfl
      assumption
    · assumption

theorem execPpsWindowMiss_frame (s : State) (t : State) (h : execPpsWindowMiss s = .next t) : Frame 0x2221199 s t := by
  unfold execPpsWindowMiss at h
  refine onCore_frame h ?_
  refine Frame.ite (fun _ => ?_) fun _ => ?_
  · refine Frame.step ?_ (State.ppsMiss_frame _) rfl
    exact Frame.refl _ _
  · exact Frame.refl _ _

theorem execTodTimeout_frame (s : State) (t : State) (h : execTodTimeout s = .next t) : Frame 0x2221199 s t := by
  unfold execTodTimeout at h
  refine onCore_frame h ?_
  split
  · refine Frame.ite (fun _ => ?_) fun _ => ?_
    · extract_lets +onlyGivenNames x1
      extract_lets +onlyGivenNames x2
      refine Frame.local x2 ?_ fun h2 => ?_
      · subst x2
        refine Frame.upd ?_ rfl
        exact Frame.refl _ _
      refine Frame.ite (fun _ => ?_) fun _ => ?_
      · refine Frame.step ?_ (State.sourceLost_frame _) rfl
        assumption
      · assumption
    · exact Frame.refl _ _
  · exact Frame.refl _ _

theorem execTaiSecond_frame (s : State) (t : State) (h : execTaiSecond s = .next t) : Frame 0x2000189 s t := by
  unfold execTaiSecond at h
  refine onCore_frame h ?_
  extract_lets +onlyGivenNames x1
  clear_value x1
  refine Frame.ite (fun _ => ?_) fun _ => ?_
  · exact Frame.refl _ _
  · extract_lets +onlyGivenNames x2
    extract_lets +onlyGivenNames x3
    refine Frame.local x3 ?_ fun h3 => ?_
    · subst x3
      refine Frame.step ?_ (State.fire_frame _ _) rfl
      refine Frame.upd ?_ rfl
      exact Frame.refl _ _
    clear_value x3
    refine Frame.ite (fun _ => ?_) fun _ => ?_
    · refine Frame.step ?_ (State.emit_frame _ _) rfl
      refine Frame.upd ?_ rfl
      assumption
    · assumption

theorem execPpsOutEnd_frame (s : State) (t : State) (h : execPpsOutEnd s = .next t) : Frame 0x2000008 s t := by
  unfold execPpsOutEnd at h
  refine onCore_frame h ?_
  split
  · refine Frame.ite (fun _ => ?_) fun _ => ?_
    · refine Frame.step ?_ (State.emit_frame _ _) rfl
      refine Frame.upd ?_ rfl
      exact Frame.refl _ _
    · exact Frame.refl _ _
  · exact Frame.refl _ _

theorem execTodTxSend_frame (s : State) (t : State) (h : execTodTxSend s = .next t) : Frame 0x2000008 s t := by
  unfold execTodTxSend at h
  refine onCore_frame h ?_
  split
  · refine Frame.ite (fun _ => ?_) fun _ => ?_
    · refine Frame.step ?_ (State.emit_frame _ _) rfl
      refine Frame.upd ?_ rfl
      exact Frame.refl _ _
    · exact Frame.refl _ _
  · exact Frame.refl _ _

end Sys2Proof.Machine
end

