-- ==== Sys2Proof/Laws/FrameCalendar.lean ====
section
/-!
SUPPORT. What each operation of Machine/Calendar.lean can change: one lemma an operation, with the mask of the parts of the state it
may touch (the bits are listed in Laws/Frame.lean).
-/

set_option linter.unusedVariables false
set_option Elab.async false

namespace Sys2Proof.Machine

theorem State.gmSwitched_frame (s : State) : Frame 0x2221199 s (State.gmSwitched s) := by
  unfold State.gmSwitched
  extract_lets +onlyGivenNames x1
  refine Frame.local x1 ?_ fun h1 => ?_
  · subst x1
    refine Frame.step ?_ (State.sourceLost_frame _) rfl
    exact Frame.refl _ _
  clear_value x1
  extract_lets +onlyGivenNames x2
  extract_lets +onlyGivenNames x3
  refine Frame.local x3 ?_ fun h3 => ?_
  · subst x3
    refine Frame.upd ?_ rfl
    assumption
  clear_value x3
  refine Frame.forEach ?_ fun _ _ _ => ?_
  · refine Frame.step ?_ (State.setPair_frame _ _ _ _) rfl
    assumption
  · refine Frame.step ?_ (State.showPort_frame _ _) rfl
    assumption

theorem State.trimBegin_frame (s : State) : Frame 0x2009 s (State.trimBegin s) := by
  unfold State.trimBegin
  extract_lets +onlyGivenNames x1
  refine Frame.local x1 ?_ fun h1 => ?_
  · subst x1
    refine Frame.step ?_ (State.setWord_frame _ _ _) rfl
    exact Frame.refl _ _
  clear_value x1
  refine Frame.ite (fun _ => ?_) fun _ => ?_
  · refine Frame.step ?_ (State.put_frame _ _ _) rfl
    assumption
  · extract_lets +onlyGivenNames x2
    refine Frame.local x2 ?_ fun h2 => ?_
    · subst x2
      refine Frame.step ?_ (State.put_frame _ _ _) rfl
      assumption
    clear_value x2
    refine Frame.upd ?_ rfl
    assumption

theorem timeEffect_frame (a0 : ℕ) (a1 : List ℕ) (a2 : Word) (a3 : Word) (s : State) : Frame 0x2223199 s (timeEffect a0 a1 a2 a3 s) := by
  unfold timeEffect
  split
  · extract_lets +onlyGivenNames x1
    refine Frame.local x1 ?_ fun h1 => ?_
    · subst x1
      refine Frame.when ?_ fun _ _ => ?_
      · exact Frame.refl _ _
      · refine Frame.step ?_ (State.gmSwitched_frame _) rfl
        assumption
    clear_value x1
    extract_lets +onlyGivenNames x2
    refine Frame.local x2 ?_ fun h2 => ?_
    · subst x2
      refine Frame.step ?_ (State.ppsHold_frame _) rfl
      assumption
    clear_value x2
    refine Frame.ite (fun _ => ?_) fun _ => ?_
    · refine Frame.step ?_ (State.acquire_frame _) rfl
      assumption
    · assumption
  · refine Frame.step ?_ (State.ppsHold_frame _) rfl
    refine Frame.when ?_ fun _ _ => ?_
    · exact Frame.refl _ _
    · refine Frame.step ?_ (State.emit_frame _ _) rfl
      assumption
  · refine Frame.ite (fun _ => ?_) fun _ => ?_
    · refine Frame.step ?_ (State.showPort_frame _ _) rfl
      refine Frame.step ?_ (State.portLost_frame _ _) rfl
      exact Frame.refl _ _
    · refine Frame.step ?_ (State.showPort_frame _ _) rfl
      exact Frame.refl _ _
  · refine Frame.step ?_ (State.put_frame _ _ _) rfl
    exact Frame.refl _ _
  · refine Frame.step ?_ (State.showLeap_frame _) rfl
    exact Frame.refl _ _
  · refine Frame.ite (fun _ => ?_) fun _ => ?_
    · refine Frame.step ?_ (State.calCommit_frame _ _) rfl
      exact Frame.refl _ _
    · exact Frame.refl _ _
  · refine Frame.ite (fun _ => ?_) fun _ => ?_
    · refine Frame.step ?_ (State.trimBegin_frame _) rfl
      exact Frame.refl _ _
    · exact Frame.refl _ _
  · exact Frame.refl _ _

theorem State.completeLeap_frame (s : State) (a1 : ℤ) (a2 : ℕ) : Frame 0x9 s (State.completeLeap s a1 a2) := by
  unfold State.completeLeap
  extract_lets +onlyGivenNames x1
  clear_value x1
  extract_lets +onlyGivenNames x2
  clear_value x2
  extract_lets +onlyGivenNames x3
  refine Frame.local x3 ?_ fun h3 => ?_
  · subst x3
    refine Frame.step ?_ (State.put_frame _ _ _) rfl
    refine Frame.step ?_ (State.put_frame _ _ _) rfl
    refine Frame.step ?_ (State.put_frame _ _ _) rfl
    exact Frame.refl _ _
  clear_value x3
  refine Frame.step ?_ (State.showLeap_frame _) rfl
  refine Frame.upd ?_ rfl
  assumption

theorem State.taiLeap_frame (s : State) (a1 : ℤ) : Frame 0x19 s (State.taiLeap s a1) := by
  unfold State.taiLeap
  extract_lets +onlyGivenNames x1
  clear_value x1
  extract_lets +onlyGivenNames x2
  refine Frame.local x2 ?_ fun h2 => ?_
  · subst x2
    refine Frame.ite (fun _ => ?_) fun _ => ?_
    · refine Frame.upd ?_ rfl
      exact Frame.refl _ _
    · refine Frame.upd ?_ rfl
      exact Frame.refl _ _
  clear_value x2
  refine Frame.step ?_ (State.completeLeap_frame _ _ _) rfl
  assumption

theorem State.utcMidnight_frame (s : State) : Frame 0x19 s (State.utcMidnight s) := by
  unfold State.utcMidnight
  extract_lets +onlyGivenNames x1
  clear_value x1
  extract_lets +onlyGivenNames x2
  clear_value x2
  refine Frame.ite (fun _ => ?_) fun _ => ?_
  · refine Frame.step ?_ (State.taiLeap_frame _ _) rfl
    exact Frame.refl _ _
  · refine Frame.ite (fun _ => ?_) fun _ => ?_
    · refine Frame.step ?_ (State.taiLeap_frame _ _) rfl
      exact Frame.refl _ _
    · refine Frame.ite (fun _ => ?_) fun _ => ?_
      · split
        · refine Frame.step ?_ (State.put_frame _ _ _) rfl
          exact Frame.refl _ _
        · exact Frame.refl _ _
      · exact Frame.refl _ _

theorem State.leapAlone_frame (s : State) : Frame 0x19 s (State.leapAlone s) := by
  unfold State.leapAlone
  refine Frame.ite (fun _ => ?_) fun _ => ?_
  · exact Frame.refl _ _
  · refine Frame.step ?_ (State.completeLeap_frame _ _ _) rfl
    refine Frame.upd ?_ rfl
    exact Frame.refl _ _

theorem State.leapMet_frame (s : State) (a1 : ℤ) : Frame 0x10 s (State.leapMet s a1) := by
  unfold State.leapMet
  refine Frame.ite (fun _ => ?_) fun _ => ?_
  · refine Frame.upd ?_ rfl
    exact Frame.refl _ _
  · refine Frame.upd ?_ rfl
    exact Frame.refl _ _

theorem execUtcMidnight_frame (s : State) (t : State) (h : execUtcMidnight s = .next t) : Frame 0x19 s t := by
  unfold execUtcMidnight at h
  refine onCore_frame h ?_
  refine Frame.step ?_ (State.utcMidnight_frame _) rfl
  exact Frame.refl _ _

theorem execCalAlarm_frame (a0 : ℕ) (s : State) (t : State) (h : execCalAlarm a0 s = .next t) : Frame 0x191 s t := by
  unfold execCalAlarm at h
  refine checked_frame h ?_
  refine Frame.ite (fun _ => ?_) fun _ => ?_
  · exact Frame.refl _ _
  · refine Frame.step ?_ (State.alarmFire_frame _ _ _ _) rfl
    refine Frame.upd ?_ rfl
    exact Frame.refl _ _

theorem State.trimEnd_frame (s : State) : Frame 0x8 s (State.trimEnd s) := by
  unfold State.trimEnd
  refine Frame.upd ?_ rfl
  exact Frame.refl _ _

theorem execTrimFinish_frame (s : State) (t : State) (h : execTrimFinish s = .next t) : Frame 0x9 s t := by
  unfold execTrimFinish at h
  refine onCore_frame h ?_
  refine Frame.ite (fun _ => ?_) fun _ => ?_
  · refine Frame.ite (fun _ => ?_) fun _ => ?_
    · refine Frame.step ?_ (State.trimAbort_frame _) rfl
      exact Frame.refl _ _
    · exact Frame.refl _ _
  · extract_lets +onlyGivenNames x1
    clear_value x1
    extract_lets +onlyGivenNames x2
    clear_value x2
    extract_lets +onlyGivenNames x3
    refine Frame.local x3 ?_ fun h3 => ?_
    · subst x3
      refine Frame.step ?_ (State.put_frame _ _ _) rfl
      refine Frame.step ?_ (State.trimEnd_frame _) rfl
      exact Frame.refl _ _
    clear_value x3
    extract_lets +onlyGivenNames x4
    refine Frame.local x4 ?_ fun h4 => ?_
    · subst x4
      refine Frame.step ?_ (State.put_frame _ _ _) rfl
      refine Frame.step ?_ (State.put_frame _ _ _) rfl
      assumption
    clear_value x4
    extract_lets +onlyGivenNames x5
    refine Frame.local x5 ?_ fun h5 => ?_
    · subst x5
      refine Frame.step ?_ (State.put_frame _ _ _) rfl
      assumption
    clear_value x5
    refine Frame.ite (fun _ => ?_) fun _ => ?_
    · refine Frame.step ?_ (State.put_frame _ _ _) rfl
      assumption
    · assumption

theorem State.calCount_frame (s : State) : Frame 0x191 s s.calCount := by
  unfold State.calCount
  generalize yearStart 200 * dayTicks = y
  generalize dayTicks - 32768 = z
  generalize dayTicks = d
  refine Frame.ite (fun _ => ?_) fun _ => ?_
  · exact Frame.ite (fun _ => Frame.upd (Frame.refl _ _) rfl) fun _ => Frame.upd (Frame.refl _ _) rfl
  · extract_lets +onlyGivenNames t r
    clear_value t r
    refine Frame.ite (fun _ => ?_) fun _ => ?_
    · generalize t - 32768 = u
      refine Frame.step ?_ (State.leapMet_frame _ _) rfl
      exact Frame.step (Frame.refl _ _) (State.setCal_frame _ _) rfl
    refine Frame.ite (fun _ => ?_) fun _ => Frame.upd (Frame.refl _ _) rfl
    generalize t + 32768 = v
    refine Frame.step ?_ (State.leapMet_frame _ _) rfl
    refine Frame.forEach (Frame.step (Frame.refl _ _) (State.setCal_frame _ _) rfl) fun _ _ hu => ?_
    refine Frame.ite (fun _ => ?_) fun _ => hu
    refine Frame.step ?_ (State.alarmFire_frame _ _ _ _) rfl
    exact Frame.step hu (State.setCal_frame _ _) rfl

theorem State.calTick_frame (s : State) : Frame 0x400199 s (State.calTick s) := by
  unfold State.calTick
  extract_lets +onlyGivenNames x1
  clear_value x1
  extract_lets +onlyGivenNames x2
  refine Frame.local x2 ?_ fun h2 => ?_
  · subst x2
    refine Frame.upd ?_ rfl
    exact Frame.refl _ _
  clear_value x2
  extract_lets +onlyGivenNames x3
  refine Frame.local x3 ?_ fun h3 => ?_
  · subst x3
    refine Frame.when ?_ fun _ _ => ?_
    · assumption
    · refine Frame.upd ?_ rfl
      assumption
  clear_value x3
  refine Frame.ite (fun _ => ?_) fun _ => ?_
  · refine Frame.ite (fun _ => ?_) fun _ => ?_
    · refine Frame.step ?_ (State.count_frame _ _) rfl
      assumption
    · refine Frame.step ?_ (State.countRaw_frame _ _) rfl
      assumption
  · refine Frame.step ?_ (State.leapAlone_frame _) rfl
    refine Frame.step ?_ (State.calCount_frame _) rfl
    assumption

end Sys2Proof.Machine
end

