-- ==== Sys2Proof/Laws/FrameCertificate.lean ====
section
/-!
SUPPORT. What each operation of Machine/Certificate.lean can change: one lemma an operation, with the mask of the parts of the state it
may touch (the bits are listed in Laws/Frame.lean).
-/

set_option linter.unusedVariables false
set_option Elab.async false

namespace Sys2Proof.Machine

theorem State.ledgerCertificate_frame (s : State) (a1 : ℕ) : Frame 0x1100081 s (State.ledgerCertificate s a1).2 := by
  unfold State.ledgerCertificate
  extract_lets +onlyGivenNames x1
  clear_value x1
  split
  dsimp -zeta only
  refine Frame.step ?_ (Frame.ofSnd ‹State.slhSignature _ _ _ _ = _› (State.slhSignature_frame _ _ _ _)) rfl
  exact Frame.refl _ _

end Sys2Proof.Machine
end

