-- ==== Sys2Proof/Laws/FramePulses.lean ====
section
/-!
SUPPORT. What each operation of Machine/Pulses.lean can change: one lemma an operation, with the mask of the parts of the state it
may touch (the bits are listed in Laws/Frame.lean).
-/

set_option linter.unusedVariables false
set_option Elab.async false

namespace Sys2Proof.Machine

theorem State.setPulse_frame (s : State) (a1 : ℕ) (a2 : PulseState) : Frame 0x800 s (State.setPulse s a1 a2) := by
  unfold State.setPulse
  refine Frame.upd ?_ rfl
  exact Frame.refl _ _

theorem State.showDriven_frame (s : State) : Frame 0x1 s (State.showDriven s) := by
  unfold State.showDriven
  refine Frame.forEach ?_ fun _ _ _ => ?_
  · exact Frame.refl _ _
  · refine Frame.step ?_ (State.put_frame _ _ _) rfl
    assumption

theorem meterEffect_frame (a0 : ℕ) (a1 : List ℕ) (a2 : Word) (a3 : Word) (s : State) : Frame 0x3201bc1 s (meterEffect a0 a1 a2 a3 s) := by
  unfold meterEffect
  split
  · refine Frame.ite (fun _ => ?_) fun _ => ?_
    · extract_lets +onlyGivenNames x1
      clear_value x1
      refine Frame.step ?_ (State.refreshAble_frame _ _) rfl
      refine Frame.step ?_ (State.setMeter_frame _ _ _) rfl
      exact Frame.refl _ _
    · refine Frame.ite (fun _ => ?_) fun _ => ?_
      · refine Frame.step ?_ (State.meterEnd_frame _ _) rfl
        exact Frame.refl _ _
      · exact Frame.refl _ _
  · extract_lets +onlyGivenNames x2
    refine Frame.local x2 ?_ fun h2 => ?_
    · subst x2
      refine Frame.step ?_ (State.put_frame _ _ _) rfl
      exact Frame.refl _ _
    clear_value x2
    extract_lets +onlyGivenNames x3
    refine Frame.local x3 ?_ fun h3 => ?_
    · subst x3
      refine Frame.when ?_ fun _ _ => ?_
      · assumption
      · refine Frame.upd ?_ rfl
        assumption
    clear_value x3
    extract_lets +onlyGivenNames x4
    refine Frame.local x4 ?_ fun h4 => ?_
    · subst x4
      refine Frame.forEach ?_ fun _ _ _ => ?_
      · assumption
      · refine Frame.step ?_ (State.refreshAble_frame _ _) rfl
        assumption
    clear_value x4
    refine Frame.step ?_ (State.showService_frame _ _) rfl
    refine Frame.step ?_ (State.showService_frame _ _) rfl
    assumption
  · refine Frame.step ?_ (State.ackWritten_frame _) rfl
    exact Frame.refl _ _
  · refine Frame.when ?_ fun _ _ => ?_
    · exact Frame.refl _ _
    · refine Frame.step ?_ (State.ledgerAgain_frame _) rfl
      assumption
  · extract_lets +onlyGivenNames x5
    refine Frame.local x5 ?_ fun h5 => ?_
    · subst x5
      refine Frame.ite (fun _ => ?_) fun _ => ?_
      · refine Frame.step ?_ (State.put_frame _ _ _) rfl
        refine Frame.step ?_ (State.put_frame _ _ _) rfl
        refine Frame.step ?_ (State.setPulse_frame _ _ _) rfl
        exact Frame.refl _ _
      · exact Frame.refl _ _
    clear_value x5
    extract_lets +onlyGivenNames x6
    clear_value x6
    extract_lets +onlyGivenNames x7
    refine Frame.local x7 ?_ fun h7 => ?_
    · subst x7
      refine Frame.ite (fun _ => ?_) fun _ => ?_
      · refine Frame.step ?_ (State.emit_frame _ _) rfl
        refine Frame.step ?_ (State.setPulse_frame _ _ _) rfl
        assumption
      · assumption
    clear_value x7
    refine Frame.step ?_ (State.showDriven_frame _) rfl
    assumption
  · exact Frame.refl _ _

theorem State.pulsesHold_frame (s : State) : Frame 0x2000800 s (State.pulsesHold s) := by
  unfold State.pulsesHold
  refine Frame.forEach ?_ fun _ _ _ => ?_
  · exact Frame.refl _ _
  · refine Frame.ite (fun _ => ?_) fun _ => ?_
    · refine Frame.step ?_ (State.emit_frame _ _) rfl
      refine Frame.step ?_ (State.setPulse_frame _ _ _) rfl
      assumption
    · assumption

theorem State.pulseEnd_frame (s : State) (a1 : ℕ) : Frame 0x2000800 s (State.pulseEnd s a1) := by
  unfold State.pulseEnd
  split
  · refine Frame.ite (fun _ => ?_) fun _ => ?_
    · refine Frame.when ?_ fun _ _ => ?_
      · refine Frame.step ?_ (State.setPulse_frame _ _ _) rfl
        exact Frame.refl _ _
      · refine Frame.step ?_ (State.emit_frame _ _) rfl
        assumption
    · exact Frame.refl _ _
  · exact Frame.refl _ _

theorem State.outageLog_frame (s : State) (a1 : ℕ) (a2 : ℕ) (a3 : ℕ) (a4 : ℕ) : Frame 0x1 s (State.outageLog s a1 a2 a3 a4) := by
  unfold State.outageLog
  extract_lets +onlyGivenNames x1
  clear_value x1
  extract_lets +onlyGivenNames x2
  clear_value x2
  extract_lets +onlyGivenNames x3
  refine Frame.local x3 ?_ fun h3 => ?_
  · subst x3
    refine Frame.step ?_ (State.setWord_frame _ _ _) rfl
    exact Frame.refl _ _
  clear_value x3
  extract_lets +onlyGivenNames x4
  refine Frame.local x4 ?_ fun h4 => ?_
  · subst x4
    refine Frame.step ?_ (State.setWord_frame _ _ _) rfl
    refine Frame.step ?_ (State.setWord_frame _ _ _) rfl
    assumption
  clear_value x4
  refine Frame.step ?_ (State.bump_frame _ _) rfl
  refine Frame.step ?_ (State.setWord_frame _ _ _) rfl
  assumption

theorem State.outageStart_frame (s : State) (a1 : ℕ) : Frame 0x801 s (State.outageStart s a1) := by
  unfold State.outageStart
  extract_lets +onlyGivenNames x1
  refine Frame.local x1 ?_ fun h1 => ?_
  · subst x1
    refine Frame.step ?_ (State.outageLog_frame _ _ _ _ _) rfl
    exact Frame.refl _ _
  clear_value x1
  extract_lets +onlyGivenNames x2
  refine Frame.local x2 ?_ fun h2 => ?_
  · subst x2
    refine Frame.forEach ?_ fun _ _ _ => ?_
    · assumption
    · refine Frame.step ?_ (State.put_frame _ _ _) rfl
      assumption
  clear_value x2
  refine Frame.upd ?_ rfl
  assumption

theorem State.copyOutages_frame (s : State) : Frame 0x801 s (State.copyOutages s).2 := by
  unfold State.copyOutages
  extract_lets +onlyGivenNames x1
  clear_value x1
  extract_lets +onlyGivenNames x2
  clear_value x2
  extract_lets +onlyGivenNames x3
  clear_value x3
  extract_lets +onlyGivenNames x4
  clear_value x4
  extract_lets +onlyGivenNames x5
  refine Frame.local x5 ?_ fun h5 => ?_
  · subst x5
    refine Frame.foldl ?_ fun _ _ _ => ?_
    · exact Frame.refl _ _
    · refine Frame.step ?_ (State.auditAdd_frame _ _) rfl
      assumption
  clear_value x5
  extract_lets +onlyGivenNames x6
  clear_value x6
  dsimp -zeta only
  refine Frame.upd ?_ rfl
  assumption

theorem State.pulseEmit_frame (s : State) (a1 : ℕ) : Frame 0x2000801 s (State.pulseEmit s a1) := by
  unfold State.pulseEmit
  extract_lets +onlyGivenNames x1
  clear_value x1
  split
  · exact Frame.refl _ _
  · refine Frame.ite (fun _ => ?_) fun _ => ?_
    · exact Frame.refl _ _
    · extract_lets +onlyGivenNames x2
      refine Frame.local x2 ?_ fun h2 => ?_
      · subst x2
        refine Frame.step ?_ (State.setPulse_frame _ _ _) rfl
        exact Frame.refl _ _
      clear_value x2
      extract_lets +onlyGivenNames x3
      refine Frame.local x3 ?_ fun h3 => ?_
      · subst x3
        refine Frame.step ?_ (State.put_frame _ _ _) rfl
        refine Frame.step ?_ (State.bump_frame _ _) rfl
        assumption
      clear_value x3
      refine Frame.when ?_ fun _ _ => ?_
      · assumption
      · refine Frame.step ?_ (State.emit_frame _ _) rfl
        assumption

theorem execPulseEmit_frame (a0 : ℕ) (s : State) (t : State) (h : execPulseEmit a0 s = .next t) : Frame 0x2000801 s t := by
  unfold execPulseEmit at h
  refine onEngines_frame h ?_
  refine Frame.step ?_ (State.pulseEmit_frame _ _) rfl
  exact Frame.refl _ _

theorem execPulseWidthEnd_frame (a0 : ℕ) (s : State) (t : State) (h : execPulseWidthEnd a0 s = .next t) : Frame 0x2000800 s t := by
  unfold execPulseWidthEnd at h
  refine onEngines_frame h ?_
  refine Frame.step ?_ (State.pulseEnd_frame _ _) rfl
  exact Frame.refl _ _

theorem State.sentinelChannel_frame (s : State) (a1 : ℕ) (a2 : ℕ) : Frame 0x801 s (State.sentinelChannel s a1 a2) := by
  unfold State.sentinelChannel
  refine Frame.ite (fun _ => ?_) fun _ => ?_
  · exact Frame.refl _ _
  · extract_lets +onlyGivenNames x1
    clear_value x1
    extract_lets +onlyGivenNames x2
    refine Frame.local x2 ?_ fun h2 => ?_
    · subst x2
      refine Frame.step ?_ (State.put_frame _ _ _) rfl
      refine Frame.step ?_ (State.put_frame _ _ _) rfl
      exact Frame.refl _ _
    clear_value x2
    refine Frame.ite (fun _ => ?_) fun _ => ?_
    · assumption
    · split
      · extract_lets +onlyGivenNames x3
        clear_value x3
        extract_lets +onlyGivenNames x4
        refine Frame.local x4 ?_ fun h4 => ?_
        · subst x4
          refine Frame.step ?_ (State.outageLog_frame _ _ _ _ _) rfl
          assumption
        clear_value x4
        refine Frame.upd ?_ rfl
        assumption
      · extract_lets +onlyGivenNames x5
        extract_lets +onlyGivenNames x6
        refine Frame.local x6 ?_ fun h6 => ?_
        · subst x6
          refine Frame.upd ?_ rfl
          assumption
        clear_value x6
        refine Frame.ite (fun _ => ?_) fun _ => ?_
        · refine Frame.step ?_ (State.setWord_frame _ _ _) rfl
          assumption
        · assumption

theorem execSentinelSample_frame (a0 : List ℕ) (s : State) (t : State) (h : execSentinelSample a0 s = .next t) : Frame 0x801 s t := by
  unfold execSentinelSample at h
  refine checked_frame h ?_
  refine Frame.ite (fun _ => ?_) fun _ => ?_
  · refine Frame.forEach ?_ fun _ _ _ => ?_
    · exact Frame.refl _ _
    · refine Frame.step ?_ (State.sentinelChannel_frame _ _ _) rfl
      assumption
  · exact Frame.refl _ _

theorem State.tamper_frame (s : State) (a1 : ℕ) (a2 : Bool) : Frame 0x981 s (State.tamper s a1 a2) := by
  unfold State.tamper
  extract_lets +onlyGivenNames x1
  clear_value x1
  extract_lets +onlyGivenNames x2
  clear_value x2
  extract_lets +onlyGivenNames x3
  clear_value x3
  extract_lets +onlyGivenNames x4
  clear_value x4
  refine Frame.ite (fun _ => ?_) fun _ => ?_
  · exact Frame.refl _ _
  · extract_lets +onlyGivenNames x5
    refine Frame.local x5 ?_ fun h5 => ?_
    · subst x5
      refine Frame.step ?_ (State.put_frame _ _ _) rfl
      exact Frame.refl _ _
    clear_value x5
    refine Frame.ite (fun _ => ?_) fun _ => ?_
    · assumption
    · extract_lets +onlyGivenNames x6
      refine Frame.local x6 ?_ fun h6 => ?_
      · subst x6
        refine Frame.step ?_ (State.outageLog_frame _ _ _ _ _) rfl
        refine Frame.step ?_ (State.put_frame _ _ _) rfl
        assumption
      clear_value x6
      refine Frame.ite (fun _ => ?_) fun _ => ?_
      · assumption
      · refine Frame.step ?_ (State.raise_frame _ _ _ _ _ _) rfl
        refine Frame.step ?_ (State.auditAdd_frame _ _) rfl
        assumption

theorem execTamperInput_frame (a0 : ℕ) (a1 : Bool) (s : State) (t : State) (h : execTamperInput a0 a1 s = .next t) : Frame 0x981 s t := by
  unfold execTamperInput at h
  refine checked_frame h ?_
  refine Frame.ite (fun _ => ?_) fun _ => ?_
  · exact Frame.refl _ _
  · refine Frame.step ?_ (State.tamper_frame _ _ _) rfl
    exact Frame.refl _ _

theorem State.outageEnd_frame (s : State) : Frame 0x801 s (State.outageEnd s) := by
  unfold State.outageEnd
  split
  · extract_lets +onlyGivenNames x1
    refine Frame.local x1 ?_ fun h1 => ?_
    · subst x1
      refine Frame.step ?_ (State.outageLog_frame _ _ _ _ _) rfl
      exact Frame.refl _ _
    clear_value x1
    refine Frame.upd ?_ rfl
    assumption
  · exact Frame.refl _ _

end Sys2Proof.Machine
end

