-- ==== Sys2Proof/Laws/FrameKeys.lean ====
section
/-!
SUPPORT. What each operation of Machine/Keys.lean can change: one lemma an operation, with the mask of the parts of the state it
may touch (the bits are listed in Laws/Frame.lean).
-/

set_option linter.unusedVariables false
set_option Elab.async false

namespace Sys2Proof.Machine

theorem State.reseed_frame (s : State) : Frame 0x1100001 s (State.reseed s) := by
  unfold State.reseed
  refine Frame.step ?_ (State.bump_frame _ _) rfl
  refine Frame.step ?_ (State.draw_frame _) rfl
  refine Frame.upd ?_ rfl
  exact Frame.refl _ _

theorem State.showBusy_frame (s : State) (a1 : ℕ) : Frame 0x1 s (State.showBusy s a1) := by
  unfold State.showBusy
  refine Frame.step ?_ (State.put_frame _ _ _) rfl
  exact Frame.refl _ _

theorem State.endJob_frame (s : State) (a1 : Job) (a2 : ℕ) (a3 : optParam ℕ 0) (a4 : optParam ℕ 0) (a5 : optParam ℕ 0) : Frame 0x2000201 s (State.endJob s a1 a2 a3 a4 a5) := by
  unfold State.endJob
  extract_lets +onlyGivenNames x1
  clear_value x1
  extract_lets +onlyGivenNames x2
  refine Frame.local x2 ?_ fun h2 => ?_
  · subst x2
    refine Frame.upd ?_ rfl
    exact Frame.refl _ _
  clear_value x2
  extract_lets +onlyGivenNames x3
  refine Frame.local x3 ?_ fun h3 => ?_
  · subst x3
    split
    · refine Frame.step ?_ (State.showBusy_frame _ _) rfl
      assumption
    · assumption
  clear_value x3
  refine Frame.step ?_ (State.complete_frame _ _) rfl
  assumption

theorem State.publicOf_frame (s : State) (a1 : ℕ) : Frame 0x1100081 s (State.publicOf s a1).2 := by
  unfold State.publicOf
  refine Frame.iteSnd (fun _ => ?_) fun _ => ?_
  · refine Frame.step ?_ (State.ledgerCertificate_frame _ _) rfl
    exact Frame.refl _ _
  · refine Frame.iteSnd (fun _ => ?_) fun _ => ?_
    · dsimp -zeta only
      exact Frame.refl _ _
    · dsimp -zeta only
      exact Frame.refl _ _

theorem State.generateInto_frame (s : State) (a1 : ℕ) (a2 : ℕ) (a3 : ℕ) (a4 : ℕ) (a5 : ℕ) : Frame 0x3100181 s (State.generateInto s a1 a2 a3 a4 a5).1 := by
  unfold State.generateInto
  split
  split
  dsimp -zeta only
  refine Frame.ite (fun _ => ?_) fun _ => ?_
  · refine Frame.step ?_ (Frame.ofSnd ‹State.publicOf _ _ = _› (State.publicOf_frame _ _)) rfl
    refine Frame.step ?_ (State.keyWrite_frame _ _ _ _ _ _) rfl
    refine Frame.step ?_ (Frame.ofSnd ‹State.random _ _ = _› (State.random_frame _ _)) rfl
    refine Frame.step ?_ (State.reseed_frame _) rfl
    exact Frame.refl _ _
  · refine Frame.step ?_ (State.emit_frame _ _) rfl
    refine Frame.step ?_ (Frame.ofSnd ‹State.publicOf _ _ = _› (State.publicOf_frame _ _)) rfl
    refine Frame.step ?_ (State.keyWrite_frame _ _ _ _ _ _) rfl
    refine Frame.step ?_ (Frame.ofSnd ‹State.random _ _ = _› (State.random_frame _ _)) rfl
    refine Frame.step ?_ (State.reseed_frame _) rfl
    exact Frame.refl _ _

theorem State.generateRun_frame (s : State) (a1 : ℕ) (a2 : ℕ) (a3 : ℕ) (a4 : ℕ) (a5 : ℕ) : Frame 0x3100181 s (State.generateRun s a1 a2 a3 a4 a5).1 := by
  unfold State.generateRun
  refine Frame.iteFst (fun _ => ?_) fun _ => ?_
  · dsimp -zeta only
    exact Frame.refl _ _
  · refine Frame.iteFst (fun _ => ?_) fun _ => ?_
    · dsimp -zeta only
      refine Frame.step ?_ (State.eraseAlternate_frame _ _) rfl
      exact Frame.refl _ _
    · refine Frame.iteFst (fun _ => ?_) fun _ => ?_
      · extract_lets +onlyGivenNames x1
        refine Frame.local x1 ?_ fun h1 => ?_
        · subst x1
          refine Frame.step ?_ (State.keyWrite_frame _ _ _ _ _ _) rfl
          refine Frame.when ?_ fun _ _ => ?_
          · exact Frame.refl _ _
          · refine Frame.step ?_ (State.reseed_frame _) rfl
            assumption
        clear_value x1
        dsimp -zeta only
        assumption
      · split
        dsimp -zeta only
        refine Frame.step ?_ (Frame.ofFst ‹State.generateInto _ _ _ _ _ _ = _› (State.generateInto_frame _ _ _ _ _ _)) rfl
        exact Frame.refl _ _

theorem State.blobInto_frame (s : State) (a1 : ℕ) (a2 : ℕ) (a3 : KeyBlob) : Frame 0x1100181 s (State.blobInto s a1 a2 a3).1 := by
  unfold State.blobInto
  split
  · dsimp -zeta only
    refine Frame.when ?_ fun _ _ => ?_
    · exact Frame.refl _ _
    · refine Frame.step ?_ (State.count_frame _ _) rfl
      assumption
  · refine Frame.iteFst (fun _ => ?_) fun _ => ?_
    · dsimp -zeta only
      refine Frame.step ?_ (State.eraseAlternate_frame _ _) rfl
      exact Frame.refl _ _
    · extract_lets +onlyGivenNames x1
      refine Frame.local x1 ?_ fun h1 => ?_
      · subst x1
        refine Frame.step ?_ (State.keyWrite_frame _ _ _ _ _ _) rfl
        exact Frame.refl _ _
      clear_value x1
      dsimp -zeta only
      assumption

theorem State.importRun_frame (s : State) (a1 : ℕ) (a2 : ℕ) (a3 : KeyBlob) : Frame 0x1100181 s (State.importRun s a1 a2 a3).1 := by
  unfold State.importRun
  split
  · dsimp -zeta only
    exact Frame.refl _ _
  · refine Frame.step ?_ (State.blobInto_frame _ _ _ _) rfl
    exact Frame.refl _ _

theorem State.updateRun_frame (s : State) (a1 : ℕ) (a2 : ℕ) (a3 : KeyBlob) (a4 : ℕ) (a5 : ℕ) : Frame 0x3100181 s (State.updateRun s a1 a2 a3 a4 a5).1 := by
  unfold State.updateRun
  split
  · dsimp -zeta only
    exact Frame.refl _ _
  · refine Frame.iteFst (fun _ => ?_) fun _ => ?_
    · refine Frame.step ?_ (State.blobInto_frame _ _ _ _) rfl
      exact Frame.refl _ _
    · refine Frame.iteFst (fun _ => ?_) fun _ => ?_
      · dsimp -zeta only
        refine Frame.step ?_ (State.eraseAlternate_frame _ _) rfl
        exact Frame.refl _ _
      · split
        dsimp -zeta only
        refine Frame.step ?_ (Frame.ofFst ‹State.generateInto _ _ _ _ _ _ = _› (State.generateInto_frame _ _ _ _ _ _)) rfl
        exact Frame.refl _ _

theorem State.endKeyJob_frame (s : State) (a1 : Job) : Frame 0x3100381 s (State.endKeyJob s a1) := by
  unfold State.endKeyJob
  split
  · split
    refine Frame.step ?_ (State.endJob_frame _ _ _ _ _ _) rfl
    refine Frame.step ?_ (Frame.ofFst ‹State.generateRun _ _ _ _ _ _ = _› (State.generateRun_frame _ _ _ _ _ _)) rfl
    exact Frame.refl _ _
  · split
    refine Frame.step ?_ (State.endJob_frame _ _ _ _ _ _) rfl
    refine Frame.step ?_ (Frame.ofFst ‹State.importRun _ _ _ _ = _› (State.importRun_frame _ _ _ _)) rfl
    exact Frame.refl _ _
  · split
    refine Frame.step ?_ (State.endJob_frame _ _ _ _ _ _) rfl
    refine Frame.step ?_ (Frame.ofFst ‹State.updateRun _ _ _ _ _ _ = _› (State.updateRun_frame _ _ _ _ _ _)) rfl
    exact Frame.refl _ _
  · extract_lets +onlyGivenNames x1
    clear_value x1
    split
    refine Frame.step ?_ (State.endJob_frame _ _ _ _ _ _) rfl
    refine Frame.step ?_ (State.emit_frame _ _) rfl
    refine Frame.ofSnd (by assumption) ?_
    refine Frame.iteSnd (fun _ => ?_) fun _ => ?_
    · refine Frame.step ?_ (State.slhSignature_frame _ _ _ _) rfl
      exact Frame.refl _ _
    · dsimp -zeta only
      exact Frame.refl _ _
  · split
    split
    refine Frame.step ?_ (State.endJob_frame _ _ _ _ _ _) rfl
    refine Frame.step ?_ (State.emit_frame _ _) rfl
    refine Frame.step ?_ (Frame.ofSnd ‹State.slhSignature _ _ _ _ = _› (State.slhSignature_frame _ _ _ _)) rfl
    exact Frame.refl _ _
  · split
    refine Frame.ite (fun _ => ?_) fun _ => ?_
    · refine Frame.step ?_ (State.endJob_frame _ _ _ _ _ _) rfl
      exact Frame.refl _ _
    · refine Frame.step ?_ (State.endJob_frame _ _ _ _ _ _) rfl
      refine Frame.step ?_ (State.count_frame _ _) rfl
      exact Frame.refl _ _
  · exact Frame.refl _ _

theorem State.startSlotJob_frame (s : State) (a1 : CmdHeader) (a2 : ℕ) (a3 : JobKind) (a4 : ℕ) : Frame 0x201 s (State.startSlotJob s a1 a2 a3 a4) := by
  unfold State.startSlotJob
  extract_lets +onlyGivenNames x1
  refine Frame.local x1 ?_ fun h1 => ?_
  · subst x1
    refine Frame.step ?_ (State.startJob_frame _ _ _ _ _ _) rfl
    exact Frame.refl _ _
  clear_value x1
  split
  · refine Frame.step ?_ (State.showBusy_frame _ _) rfl
    assumption
  · assumption

theorem execSign_frame (a0 : CmdHeader) (a1 : ℕ) (a2 : List Byte) (a3 : ℕ) (a4 : ℕ) (s : State) (t : State) (h : execSign a0 a1 a2 a3 a4 s = .next t) : Frame 0x2000201 s t := by
  unfold execSign at h
  refine onCore_frame h ?_
  refine State.command_frame ?_ rfl fun _ _ => ?_
  · exact Frame.refl _ _
  · refine Frame.ite (fun _ => ?_) fun _ => ?_
    · refine Frame.step ?_ (State.finish_frame _ _ _ _ _ _ _) rfl
      assumption
    · refine Frame.step ?_ (State.startSlotJob_frame _ _ _ _ _) rfl
      assumption

theorem State.instantiate_frame (s : State) : Frame 0x1100001 s (State.instantiate s) := by
  unfold State.instantiate
  extract_lets +onlyGivenNames x1
  clear_value x1
  extract_lets +onlyGivenNames x2
  refine Frame.local x2 ?_ fun h2 => ?_
  · subst x2
    refine Frame.step ?_ (State.draw_frame _) rfl
    refine Frame.upd ?_ rfl
    exact Frame.refl _ _
  clear_value x2
  refine Frame.step ?_ (State.put_frame _ _ _) rfl
  assumption

theorem execVerify_frame (a0 : CmdHeader) (a1 : ℕ) (a2 : List Byte) (a3 : List Byte) (s : State) (t : State) (h : execVerify a0 a1 a2 a3 s = .next t) : Frame 0x2000201 s t := by
  unfold execVerify at h
  refine onCore_frame h ?_
  refine State.command_frame ?_ rfl fun _ _ => ?_
  · exact Frame.refl _ _
  · refine Frame.step ?_ (State.startSlotJob_frame _ _ _ _ _) rfl
    assumption

theorem State.entropyFail_frame (s : State) : Frame 0x100181 s (State.entropyFail s) := by
  unfold State.entropyFail
  extract_lets +onlyGivenNames x1
  refine Frame.local x1 ?_ fun h1 => ?_
  · subst x1
    refine Frame.step ?_ (State.put_frame _ _ _) rfl
    refine Frame.step ?_ (State.count_frame _ _) rfl
    exact Frame.refl _ _
  clear_value x1
  extract_lets +onlyGivenNames x2
  refine Frame.local x2 ?_ fun h2 => ?_
  · subst x2
    refine Frame.step ?_ (State.put_frame _ _ _) rfl
    refine Frame.step ?_ (State.put_frame _ _ _) rfl
    assumption
  clear_value x2
  refine Frame.step ?_ (State.raise_frame _ _ _ _ _ _) rfl
  refine Frame.upd ?_ rfl
  assumption

theorem execEntropyFail_frame (s : State) (t : State) (h : execEntropyFail s = .next t) : Frame 0x100181 s t := by
  unfold execEntropyFail at h
  refine onCore_frame h ?_
  refine Frame.step ?_ (State.entropyFail_frame _) rfl
  exact Frame.refl _ _

theorem execKeyGenerate_frame (a0 : CmdHeader) (a1 : ℕ) (a2 : ℕ) (a3 : ℕ) (a4 : ℕ) (a5 : ℕ) (a6 : ℕ) (s : State) (t : State) (h : execKeyGenerate a0 a1 a2 a3 a4 a5 a6 s = .next t) : Frame 0x3100381 s t := by
  unfold execKeyGenerate at h
  refine onCore_frame h ?_
  extract_lets +onlyGivenNames x1
  clear_value x1
  refine State.command_frame ?_ rfl fun _ _ => ?_
  · exact Frame.refl _ _
  · refine Frame.ite (fun _ => ?_) fun _ => ?_
    · refine Frame.step ?_ (State.startSlotJob_frame _ _ _ _ _) rfl
      assumption
    · refine Frame.ite (fun _ => ?_) fun _ => ?_
      · refine Frame.step ?_ (State.finish_frame _ _ _ _ _ _ _) rfl
        assumption
      · refine Frame.ite (fun _ => ?_) fun _ => ?_
        · split
          refine Frame.step ?_ (State.finish_frame _ _ _ _ _ _ _) rfl
          refine Frame.step ?_ (Frame.ofFst ‹State.generateRun _ _ _ _ _ _ = _› (State.generateRun_frame _ _ _ _ _ _)) rfl
          assumption
        · refine Frame.step ?_ (State.startSlotJob_frame _ _ _ _ _) rfl
          assumption

theorem execKeyImport_frame (a0 : CmdHeader) (a1 : ℕ) (a2 : ℕ) (a3 : KeyBlob) (s : State) (t : State) (h : execKeyImport a0 a1 a2 a3 s = .next t) : Frame 0x3100381 s t := by
  unfold execKeyImport at h
  refine onCore_frame h ?_
  refine State.command_frame ?_ rfl fun _ _ => ?_
  · exact Frame.refl _ _
  · refine Frame.ite (fun _ => ?_) fun _ => ?_
    · refine Frame.step ?_ (State.startSlotJob_frame _ _ _ _ _) rfl
      assumption
    · split
      refine Frame.step ?_ (State.finish_frame _ _ _ _ _ _ _) rfl
      refine Frame.step ?_ (Frame.ofFst ‹State.importRun _ _ _ _ = _› (State.importRun_frame _ _ _ _)) rfl
      assumption

theorem execKeyUpdate_frame (a0 : CmdHeader) (a1 : ℕ) (a2 : ℕ) (a3 : KeyBlob) (a4 : ℕ) (a5 : ℕ) (s : State) (t : State) (h : execKeyUpdate a0 a1 a2 a3 a4 a5 s = .next t) : Frame 0x3100381 s t := by
  unfold execKeyUpdate at h
  refine onCore_frame h ?_
  extract_lets +onlyGivenNames x1
  clear_value x1
  extract_lets +onlyGivenNames x2
  clear_value x2
  refine State.command_frame ?_ rfl fun _ _ => ?_
  · exact Frame.refl _ _
  · refine Frame.ite (fun _ => ?_) fun _ => ?_
    · refine Frame.step ?_ (State.startSlotJob_frame _ _ _ _ _) rfl
      assumption
    · split
      refine Frame.step ?_ (State.finish_frame _ _ _ _ _ _ _) rfl
      refine Frame.step ?_ (Frame.ofFst ‹State.updateRun _ _ _ _ _ _ = _› (State.updateRun_frame _ _ _ _ _ _)) rfl
      assumption

theorem execAttest_frame (a0 : CmdHeader) (a1 : ℕ) (a2 : ℕ) (a3 : ℕ) (a4 : ℕ) (a5 : ℕ) (s : State) (t : State) (h : execAttest a0 a1 a2 a3 a4 a5 s = .next t) : Frame 0x2000201 s t := by
  unfold execAttest at h
  refine onCore_frame h ?_
  refine State.command_frame ?_ rfl fun _ _ => ?_
  · exact Frame.refl _ _
  · refine Frame.ite (fun _ => ?_) fun _ => ?_
    · refine Frame.step ?_ (State.startSlotJob_frame _ _ _ _ _) rfl
      assumption
    · extract_lets +onlyGivenNames x1
      clear_value x1
      refine Frame.step ?_ (State.finish_frame _ _ _ _ _ _ _) rfl
      refine Frame.step ?_ (State.emit_frame _ _) rfl
      assumption

theorem State.resolveKeys_frame (s : State) : Frame 0x100181 s (State.resolveKeys s) := by
  unfold State.resolveKeys
  extract_lets +onlyGivenNames x1
  refine Frame.local x1 ?_ fun h1 => ?_
  · subst x1
    refine Frame.forEach ?_ fun _ _ _ => ?_
    · exact Frame.refl _ _
    · split
      · refine Frame.step ?_ (State.showSlot_frame _ _ _) rfl
        assumption
      · split
        extract_lets +onlyGivenNames x2
        refine Frame.local x2 ?_ fun h2 => ?_
        · subst x2
          refine Frame.step ?_ (State.setSlot_frame _ _ _) rfl
          assumption
        clear_value x2
        extract_lets +onlyGivenNames x3
        refine Frame.local x3 ?_ fun h3 => ?_
        · subst x3
          refine Frame.ite (fun _ => ?_) fun _ => ?_
          · refine Frame.step ?_ (State.raise_frame _ _ _ _ _ _) rfl
            refine Frame.step ?_ (State.put_frame _ _ _) rfl
            assumption
          · assumption
        clear_value x3
        refine Frame.ite (fun _ => ?_) fun _ => ?_
        · refine Frame.step ?_ (State.raise_frame _ _ _ _ _ _) rfl
          refine Frame.step ?_ (State.put_frame _ _ _) rfl
          assumption
        · assumption
  clear_value x1
  refine Frame.step ?_ (State.put_frame _ _ _) rfl
  assumption

theorem State.keysPowerUp_frame (s : State) : Frame 0x1100181 s (State.keysPowerUp s) := by
  unfold State.keysPowerUp
  extract_lets +onlyGivenNames x1
  refine Frame.local x1 ?_ fun h1 => ?_
  · subst x1
    refine Frame.step ?_ (State.instantiate_frame _) rfl
    refine Frame.step ?_ (State.resolveKeys_frame _) rfl
    exact Frame.refl _ _
  clear_value x1
  refine Frame.ite (fun _ => ?_) fun _ => ?_
  · assumption
  · refine Frame.step ?_ (State.raise_frame _ _ _ _ _ _) rfl
    refine Frame.step ?_ (State.put_frame _ _ _) rfl
    assumption

theorem State.showServices_frame (s : State) : Frame 0x1 s (State.showServices s) := by
  unfold State.showServices
  refine Frame.forEach ?_ fun _ _ _ => ?_
  · exact Frame.refl _ _
  · refine Frame.step ?_ (State.showService_frame _ _) rfl
    assumption

theorem State.reseedDue_frame (s : State) : Frame 0x1100001 s (State.reseedDue s) := by
  unfold State.reseedDue
  refine Frame.ite (fun _ => ?_) fun _ => ?_
  · refine Frame.step ?_ (State.reseed_frame _) rfl
    exact Frame.refl _ _
  · exact Frame.refl _ _

theorem execDrbgReseed_frame (s : State) (t : State) (h : execDrbgReseed s = .next t) : Frame 0x1100001 s t := by
  unfold execDrbgReseed at h
  refine onCore_frame h ?_
  refine Frame.step ?_ (State.reseedDue_frame _) rfl
  exact Frame.refl _ _

end Sys2Proof.Machine
end

