-- ==== Sys2Proof/Laws/FrameRoles.lean ====
section
/-!
SUPPORT. What each operation of Machine/Roles.lean can change: one lemma an operation, with the mask of the parts of the state it
may touch (the bits are listed in Laws/Frame.lean).
-/

set_option linter.unusedVariables false
set_option Elab.async false

namespace Sys2Proof.Machine

theorem State.requestWarm_frame (s : State) (a1 : ℕ) : Frame 0x2201f81 s (State.requestWarm s a1) := by
  unfold State.requestWarm
  refine Frame.ite (fun _ => ?_) fun _ => ?_
  · exact Frame.refl _ _
  · extract_lets +onlyGivenNames x1
    refine Frame.local x1 ?_ fun h1 => ?_
    · subst x1
      refine Frame.ite (fun _ => ?_) fun _ => ?_
      · exact Frame.refl _ _
      · refine Frame.step ?_ (State.snapshot_frame _ _) rfl
        refine Frame.step ?_ (State.abandonSaves_frame _) rfl
        refine Frame.step ?_ (State.cutBlocks_frame _) rfl
        exact Frame.refl _ _
    clear_value x1
    refine Frame.upd ?_ rfl
    assumption

theorem State.coldIdle_frame (s : State) : Frame 0x2245b81 s (State.coldIdle s) := by
  unfold State.coldIdle
  refine Frame.step ?_ (State.captureIdle_frame _) rfl
  refine Frame.step ?_ (State.detectCold_frame _) rfl
  refine Frame.step ?_ (State.alignPause_frame _) rfl
  refine Frame.step ?_ (State.lanesWarm_frame _) rfl
  refine Frame.step ?_ (State.cutBlocks_frame _) rfl
  exact Frame.refl _ _

theorem State.setRole_frame (s : State) (a1 : ℕ) (a2 : ℕ) : Frame 0x2245b81 s (State.setRole s a1 a2) := by
  unfold State.setRole
  extract_lets +onlyGivenNames x1
  refine Frame.local x1 ?_ fun h1 => ?_
  · subst x1
    refine Frame.step ?_ (State.put_frame _ _ _) rfl
    exact Frame.refl _ _
  clear_value x1
  extract_lets +onlyGivenNames x2
  clear_value x2
  extract_lets +onlyGivenNames x3
  refine Frame.local x3 ?_ fun h3 => ?_
  · subst x3
    refine Frame.upd ?_ rfl
    assumption
  clear_value x3
  extract_lets +onlyGivenNames x4
  refine Frame.local x4 ?_ fun h4 => ?_
  · subst x4
    refine Frame.step ?_ (State.setPair_frame _ _ _ _) rfl
    assumption
  clear_value x4
  extract_lets +onlyGivenNames x5
  refine Frame.local x5 ?_ fun h5 => ?_
  · subst x5
    refine Frame.step ?_ (State.fire_frame _ _) rfl
    refine Frame.step ?_ (State.raise_frame _ _ _ _ _ _) rfl
    assumption
  clear_value x5
  extract_lets +onlyGivenNames x6
  refine Frame.local x6 ?_ fun h6 => ?_
  · subst x6
    refine Frame.ite (fun _ => ?_) fun _ => ?_
    · assumption
    · refine Frame.step ?_ (State.pulsesHold_frame _) rfl
      assumption
  clear_value x6
  extract_lets +onlyGivenNames x7
  refine Frame.local x7 ?_ fun h7 => ?_
  · subst x7
    refine Frame.ite (fun _ => ?_) fun _ => ?_
    · refine Frame.step ?_ (State.coldIdle_frame _) rfl
      assumption
    · assumption
  clear_value x7
  refine Frame.step ?_ (State.refreshPins_frame _) rfl
  refine Frame.step ?_ (State.showDriven_frame _) rfl
  refine Frame.step ?_ (State.modeConds_frame _) rfl
  assumption

theorem State.showOpen_frame (s : State) : Frame 0x1 s (State.showOpen s) := by
  unfold State.showOpen
  refine Frame.step ?_ (State.put_frame _ _ _) rfl
  exact Frame.refl _ _

theorem roleEffect_frame (a0 : ℕ) (a1 : List ℕ) (a2 : Word) (a3 : Word) (s : State) : Frame 0x2245fc1 s (roleEffect a0 a1 a2 a3 s) := by
  unfold roleEffect
  split
  · refine Frame.step ?_ (State.requestWarm_frame _ _) rfl
    exact Frame.refl _ _
  · refine Frame.ite (fun _ => ?_) fun _ => ?_
    · refine Frame.ite (fun _ => ?_) fun _ => ?_
      · refine Frame.step ?_ (State.setRole_frame _ _ _) rfl
        refine Frame.upd ?_ rfl
        exact Frame.refl _ _
      · exact Frame.refl _ _
    · refine Frame.ite (fun _ => ?_) fun _ => ?_
      · refine Frame.ite (fun _ => ?_) fun _ => ?_
        · refine Frame.step ?_ (State.setRole_frame _ _ _) rfl
          refine Frame.step ?_ (State.put_frame _ _ _) rfl
          exact Frame.refl _ _
        · refine Frame.ite (fun _ => ?_) fun _ => ?_
          · exact Frame.refl _ _
          · refine Frame.step ?_ (State.syncLost_frame _) rfl
            exact Frame.refl _ _
      · exact Frame.refl _ _
  · refine Frame.step ?_ (State.put_frame _ _ _) rfl
    exact Frame.refl _ _
  · refine Frame.step ?_ (State.showOpen_frame _) rfl
    exact Frame.refl _ _
  · exact Frame.refl _ _

end Sys2Proof.Machine
end

