-- ==== Sys2Proof/Laws/FrameSched.lean ====
section
/-!
SUPPORT. What each operation of Machine/Sched.lean can change: one lemma an operation, with the mask of the parts of the state it
may touch (the bits are listed in Laws/Frame.lean).
-/

set_option linter.unusedVariables false
set_option Elab.async false

namespace Sys2Proof.Machine

theorem State.unready_frame (s : State) (a1 : ℕ) : Frame 0x100 s (State.unready s a1) := by
  unfold State.unready
  refine Frame.upd ?_ rfl
  exact Frame.refl _ _

theorem State.beginWait_frame (s : State) (a1 : ℕ) (a2 : Bool) (a3 : Bool) : Frame 0x101 s (State.beginWait s a1 a2 a3) := by
  unfold State.beginWait
  refine Frame.ite (fun _ => ?_) fun _ => ?_
  · exact Frame.refl _ _
  · extract_lets +onlyGivenNames x1
    clear_value x1
    refine Frame.ite (fun _ => ?_) fun _ => ?_
    · refine Frame.step ?_ (State.setWord_frame _ _ _) rfl
      exact Frame.refl _ _
    · extract_lets +onlyGivenNames x2
      clear_value x2
      extract_lets +onlyGivenNames x3
      clear_value x3
      extract_lets +onlyGivenNames x4
      refine Frame.local x4 ?_ fun h4 => ?_
      · subst x4
        refine Frame.upd ?_ rfl
        exact Frame.refl _ _
      clear_value x4
      extract_lets +onlyGivenNames x5
      refine Frame.local x5 ?_ fun h5 => ?_
      · subst x5
        refine Frame.step ?_ (State.put_frame _ _ _) rfl
        assumption
      clear_value x5
      refine Frame.when ?_ fun _ _ => ?_
      · assumption
      · refine Frame.step ?_ (State.put_frame _ _ _) rfl
        assumption

theorem State.timerSet_frame (s : State) (a1 : ℕ) (a2 : Option ℕ) : Frame 0x100 s (State.timerSet s a1 a2) := by
  unfold State.timerSet
  refine Frame.upd ?_ rfl
  exact Frame.refl _ _

theorem State.timerArm_frame (s : State) (a1 : ℕ) : Frame 0x100 s (State.timerArm s a1) := by
  unfold State.timerArm
  refine Frame.ite (fun _ => ?_) fun _ => ?_
  · refine Frame.step ?_ (State.timerSet_frame _ _ _) rfl
    exact Frame.refl _ _
  · refine Frame.step ?_ (State.timerSet_frame _ _ _) rfl
    exact Frame.refl _ _

theorem State.monitorArm_frame (s : State) (a1 : ℕ) (a2 : ℕ) : Frame 0x101 s (State.monitorArm s a1 a2) := by
  unfold State.monitorArm
  extract_lets +onlyGivenNames x1
  clear_value x1
  extract_lets +onlyGivenNames x2
  refine Frame.local x2 ?_ fun h2 => ?_
  · subst x2
    refine Frame.upd ?_ rfl
    exact Frame.refl _ _
  clear_value x2
  extract_lets +onlyGivenNames x3
  refine Frame.local x3 ?_ fun h3 => ?_
  · subst x3
    refine Frame.step ?_ (State.setPair_frame _ _ _ _) rfl
    assumption
  clear_value x3
  refine Frame.step ?_ (State.put_frame _ _ _) rfl
  refine Frame.step ?_ (State.put_frame _ _ _) rfl
  assumption

theorem State.threadMiss_frame (s : State) (a1 : ℕ) : Frame 0x181 s (State.threadMiss s a1) := by
  unfold State.threadMiss
  split
  · exact Frame.refl _ _
  · refine Frame.ite (fun _ => ?_) fun _ => ?_
    · exact Frame.refl _ _
    · extract_lets +onlyGivenNames x1
      clear_value x1
      extract_lets +onlyGivenNames x2
      refine Frame.local x2 ?_ fun h2 => ?_
      · subst x2
        refine Frame.upd ?_ rfl
        exact Frame.refl _ _
      clear_value x2
      refine Frame.step ?_ (State.setFlags_frame _ _ _) rfl
      refine Frame.step ?_ (State.raise_frame _ _ _ _ _ _) rfl
      refine Frame.step ?_ (State.monitorMiss_frame _ _) rfl
      assumption

theorem State.monitorDisarm_frame (s : State) (a1 : ℕ) : Frame 0x101 s (State.monitorDisarm s a1) := by
  unfold State.monitorDisarm
  extract_lets +onlyGivenNames x1
  clear_value x1
  extract_lets +onlyGivenNames x2
  refine Frame.local x2 ?_ fun h2 => ?_
  · subst x2
    refine Frame.upd ?_ rfl
    exact Frame.refl _ _
  clear_value x2
  refine Frame.step ?_ (State.put_frame _ _ _) rfl
  refine Frame.step ?_ (State.put_frame _ _ _) rfl
  assumption

theorem State.monitorDone_frame (s : State) (a1 : ℕ) : Frame 0x181 s (State.monitorDone s a1) := by
  unfold State.monitorDone
  extract_lets +onlyGivenNames x1
  refine Frame.local x1 ?_ fun h1 => ?_
  · subst x1
    refine Frame.step ?_ (State.threadMiss_frame _ _) rfl
    exact Frame.refl _ _
  clear_value x1
  split
  · assumption
  · extract_lets +onlyGivenNames x2
    refine Frame.local x2 ?_ fun h2 => ?_
    · subst x2
      refine Frame.when ?_ fun _ _ => ?_
      · assumption
      · refine Frame.step ?_ (State.put_frame _ _ _) rfl
        assumption
    clear_value x2
    refine Frame.ite (fun _ => ?_) fun _ => ?_
    · refine Frame.step ?_ (State.monitorDisarm_frame _ _) rfl
      assumption
    · refine Frame.step ?_ (State.monitorArm_frame _ _ _) rfl
      assumption

theorem schedEffect_frame (a0 : ℕ) (a1 : List ℕ) (a2 : Word) (a3 : Word) (s : State) : Frame 0x181 s (schedEffect a0 a1 a2 a3 s) := by
  unfold schedEffect
  split
  · refine Frame.ite (fun _ => ?_) fun _ => ?_
    · refine Frame.step ?_ (State.makeReady_frame _ _) rfl
      exact Frame.refl _ _
    · refine Frame.ite (fun _ => ?_) fun _ => ?_
      · extract_lets +onlyGivenNames x1
        clear_value x1
        extract_lets +onlyGivenNames x2
        refine Frame.local x2 ?_ fun h2 => ?_
        · subst x2
          refine Frame.upd ?_ rfl
          exact Frame.refl _ _
        clear_value x2
        refine Frame.step ?_ (State.put_frame _ _ _) rfl
        refine Frame.step ?_ (State.unready_frame _ _) rfl
        assumption
      · exact Frame.refl _ _
  · refine Frame.when ?_ fun _ _ => ?_
    · exact Frame.refl _ _
    · refine Frame.step ?_ (State.beginWait_frame _ _ _ _) rfl
      assumption
  · refine Frame.step ?_ (State.checkWait_frame _ _) rfl
    exact Frame.refl _ _
  · extract_lets +onlyGivenNames x3
    clear_value x3
    refine Frame.step ?_ (State.setWord_frame _ _ _) rfl
    exact Frame.refl _ _
  · extract_lets +onlyGivenNames x4
    refine Frame.local x4 ?_ fun h4 => ?_
    · subst x4
      refine Frame.when ?_ fun _ _ => ?_
      · exact Frame.refl _ _
      · refine Frame.ite (fun _ => ?_) fun _ => ?_
        · refine Frame.step ?_ (State.put_frame _ _ _) rfl
          assumption
        · refine Frame.ite (fun _ => ?_) fun _ => ?_
          · refine Frame.step ?_ (State.put_frame _ _ _) rfl
            assumption
          · assumption
    clear_value x4
    extract_lets +onlyGivenNames x5
    clear_value x5
    refine Frame.ite (fun _ => ?_) fun _ => ?_
    · refine Frame.step ?_ (State.makeReady_frame _ _) rfl
      assumption
    · assumption
  · refine Frame.ite (fun _ => ?_) fun _ => ?_
    · refine Frame.step ?_ (State.timerSet_frame _ _ _) rfl
      exact Frame.refl _ _
    · refine Frame.ite (fun _ => ?_) fun _ => ?_
      · refine Frame.step ?_ (State.timerArm_frame _ _) rfl
        exact Frame.refl _ _
      · exact Frame.refl _ _
  · refine Frame.ite (fun _ => ?_) fun _ => ?_
    · refine Frame.step ?_ (State.timerArm_frame _ _) rfl
      exact Frame.refl _ _
    · exact Frame.refl _ _
  · refine Frame.ite (fun _ => ?_) fun _ => ?_
    · refine Frame.step ?_ (State.timerArm_frame _ _) rfl
      exact Frame.refl _ _
    · exact Frame.refl _ _
  · refine Frame.forEach ?_ fun _ _ _ => ?_
    · exact Frame.refl _ _
    · refine Frame.when ?_ fun _ _ => ?_
      · assumption
      · refine Frame.step ?_ (State.fire_frame _ _) rfl
        assumption
  · refine Frame.step ?_ (State.monitorArm_frame _ _ _) rfl
    refine Frame.step ?_ (State.threadMiss_frame _ _) rfl
    exact Frame.refl _ _
  · refine Frame.ite (fun _ => ?_) fun _ => ?_
    · exact Frame.refl _ _
    · refine Frame.step ?_ (State.monitorArm_frame _ _ _) rfl
      refine Frame.step ?_ (State.threadMiss_frame _ _) rfl
      exact Frame.refl _ _
  · refine Frame.ite (fun _ => ?_) fun _ => ?_
    · exact Frame.refl _ _
    · refine Frame.step ?_ (State.monitorDone_frame _ _) rfl
      exact Frame.refl _ _
  · exact Frame.refl _ _

theorem State.switchEnd_frame (s : State) : Frame 0x3000781 s (State.switchEnd s) := by
  unfold State.switchEnd
  split
  · exact Frame.refl _ _
  · extract_lets +onlyGivenNames x1
    refine Frame.local x1 ?_ fun h1 => ?_
    · subst x1
      refine Frame.step ?_ (State.put_frame _ _ _) rfl
      exact Frame.refl _ _
    clear_value x1
    extract_lets +onlyGivenNames x2
    refine Frame.local x2 ?_ fun h2 => ?_
    · subst x2
      refine Frame.step ?_ (State.put_frame _ _ _) rfl
      assumption
    clear_value x2
    extract_lets +onlyGivenNames x3
    refine Frame.local x3 ?_ fun h3 => ?_
    · subst x3
      refine Frame.step ?_ (State.bump_frame _ _) rfl
      assumption
    clear_value x3
    extract_lets +onlyGivenNames x4
    refine Frame.local x4 ?_ fun h4 => ?_
    · subst x4
      refine Frame.step ?_ (State.put_frame _ _ _) rfl
      assumption
    clear_value x4
    extract_lets +onlyGivenNames x5
    refine Frame.local x5 ?_ fun h5 => ?_
    · subst x5
      refine Frame.step ?_ (State.draw_frame _) rfl
      refine Frame.step ?_ (State.put_frame _ _ _) rfl
      assumption
    clear_value x5
    extract_lets +onlyGivenNames x6
    clear_value x6
    extract_lets +onlyGivenNames x7
    refine Frame.local x7 ?_ fun h7 => ?_
    · subst x7
      refine Frame.upd ?_ rfl
      assumption
    clear_value x7
    extract_lets +onlyGivenNames x8
    refine Frame.local x8 ?_ fun h8 => ?_
    · subst x8
      refine Frame.step ?_ (State.fire_frame _ _) rfl
      refine Frame.step ?_ (State.raise_frame _ _ _ _ _ _) rfl
      assumption
    clear_value x8
    split
    · refine Frame.step ?_ (State.complete_frame _ _) rfl
      assumption
    · assumption

theorem State.claim_frame (s : State) (a1 : ℕ) : Frame 0x181 s (State.claim s a1).2 := by
  unfold State.claim
  extract_lets +onlyGivenNames x1
  refine Frame.local x1 ?_ fun h1 => ?_
  · subst x1
    refine Frame.step ?_ (State.put_frame _ _ _) rfl
    exact Frame.refl _ _
  clear_value x1
  split
  · dsimp -zeta only
    refine Frame.step ?_ (State.count_frame _ _) rfl
    refine Frame.step ?_ (State.put_frame _ _ _) rfl
    assumption
  · dsimp -zeta only
    assumption
  · dsimp -zeta only
    refine Frame.step ?_ (State.put_frame _ _ _) rfl
    refine Frame.step ?_ (State.put_frame _ _ _) rfl
    refine Frame.step ?_ (State.put_frame _ _ _) rfl
    refine Frame.step ?_ (State.unready_frame _ _) rfl
    assumption
  · refine Frame.iteSnd (fun _ => ?_) fun _ => ?_
    · dsimp -zeta only
      assumption
    · extract_lets +onlyGivenNames x2
      refine Frame.local x2 ?_ fun h2 => ?_
      · subst x2
        refine Frame.step ?_ (State.unready_frame _ _) rfl
        assumption
      clear_value x2
      extract_lets +onlyGivenNames x3
      clear_value x3
      extract_lets +onlyGivenNames x4
      refine Frame.local x4 ?_ fun h4 => ?_
      · subst x4
        refine Frame.upd ?_ rfl
        assumption
      clear_value x4
      dsimp -zeta only
      refine Frame.step ?_ (State.put_frame _ _ _) rfl
      refine Frame.step ?_ (State.put_frame _ _ _) rfl
      refine Frame.step ?_ (State.put_frame _ _ _) rfl
      refine Frame.step ?_ (State.put_frame _ _ _) rfl
      assumption

theorem State.claimRead_frame (s : State) (a1 : Master) (a2 : ℕ) : Frame 0x2000181 s (State.claimRead s a1 a2) := by
  unfold State.claimRead
  refine Frame.ite (fun _ => ?_) fun _ => ?_
  · refine Frame.step ?_ (State.emit_frame _ _) rfl
    exact Frame.refl _ _
  · split
    refine Frame.step ?_ (State.emit_frame _ _) rfl
    refine Frame.step ?_ (Frame.ofSnd ‹State.claim _ _ = _› (State.claim_frame _ _)) rfl
    exact Frame.refl _ _

theorem State.tempUpdate_frame (s : State) (a1 : ℤ) : Frame 0x581 s (State.tempUpdate s a1) := by
  unfold State.tempUpdate
  extract_lets +onlyGivenNames x1
  clear_value x1
  extract_lets +onlyGivenNames x2
  clear_value x2
  extract_lets +onlyGivenNames x3
  refine Frame.local x3 ?_ fun h3 => ?_
  · subst x3
    refine Frame.step ?_ (State.put_frame _ _ _) rfl
    exact Frame.refl _ _
  clear_value x3
  extract_lets +onlyGivenNames x4
  refine Frame.local x4 ?_ fun h4 => ?_
  · subst x4
    refine Frame.when ?_ fun _ _ => ?_
    · assumption
    · refine Frame.step ?_ (State.put_frame _ _ _) rfl
      assumption
  clear_value x4
  extract_lets +onlyGivenNames x5
  clear_value x5
  extract_lets +onlyGivenNames x6
  refine Frame.local x6 ?_ fun h6 => ?_
  · subst x6
    refine Frame.upd ?_ rfl
    assumption
  clear_value x6
  extract_lets +onlyGivenNames x7
  refine Frame.local x7 ?_ fun h7 => ?_
  · subst x7
    refine Frame.step ?_ (State.put_frame _ _ _) rfl
    assumption
  clear_value x7
  refine Frame.when ?_ fun _ _ => ?_
  · assumption
  · refine Frame.step ?_ (State.raise_frame _ _ _ _ _ _) rfl
    assumption

theorem State.schedWarm_frame (s : State) : Frame 0x181 s (State.schedWarm s) := by
  unfold State.schedWarm
  extract_lets +onlyGivenNames x1
  clear_value x1
  extract_lets +onlyGivenNames x2
  refine Frame.local x2 ?_ fun h2 => ?_
  · subst x2
    refine Frame.upd ?_ rfl
    exact Frame.refl _ _
  clear_value x2
  extract_lets +onlyGivenNames x3
  refine Frame.local x3 ?_ fun h3 => ?_
  · subst x3
    refine Frame.forEach ?_ fun _ _ _ => ?_
    · assumption
    · refine Frame.step ?_ (State.put_frame _ _ _) rfl
      refine Frame.step ?_ (State.put_frame _ _ _) rfl
      refine Frame.step ?_ (State.put_frame _ _ _) rfl
      assumption
  clear_value x3
  extract_lets +onlyGivenNames x4
  refine Frame.local x4 ?_ fun h4 => ?_
  · subst x4
    refine Frame.forEach ?_ fun _ _ _ => ?_
    · assumption
    · refine Frame.step ?_ (State.put_frame _ _ _) rfl
      refine Frame.step ?_ (State.put_frame _ _ _) rfl
      assumption
  clear_value x4
  refine Frame.forEach ?_ fun _ _ _ => ?_
  · assumption
  · refine Frame.ite (fun _ => ?_) fun _ => ?_
    · refine Frame.step ?_ (State.makeReady_frame _ _) rfl
      assumption
    · assumption

theorem State.timerFire_frame (s : State) (a1 : ℕ) : Frame 0x181 s (State.timerFire s a1) := by
  unfold State.timerFire
  split
  · exact Frame.refl _ _
  · refine Frame.ite (fun _ => ?_) fun _ => ?_
    · refine Frame.ite (fun _ => ?_) fun _ => ?_
      · refine Frame.step ?_ (State.fire_frame _ _) rfl
        refine Frame.step ?_ (State.timerSet_frame _ _ _) rfl
        exact Frame.refl _ _
      · exact Frame.refl _ _
    · refine Frame.ite (fun _ => ?_) fun _ => ?_
      · refine Frame.step ?_ (State.fire_frame _ _) rfl
        refine Frame.step ?_ (State.timerSet_frame _ _ _) rfl
        exact Frame.refl _ _
      · exact Frame.refl _ _

theorem execSchedTimer_frame (a0 : ℕ) (s : State) (t : State) (h : execSchedTimer a0 s = .next t) : Frame 0x181 s t := by
  unfold execSchedTimer at h
  refine onCore_frame h ?_
  refine Frame.step ?_ (State.timerFire_frame _ _) rfl
  exact Frame.refl _ _

theorem execTempUpdate_frame (a0 : ℤ) (s : State) (t : State) (h : execTempUpdate a0 s = .next t) : Frame 0x581 s t := by
  unfold execTempUpdate at h
  refine onCore_frame h ?_
  refine Frame.step ?_ (State.tempUpdate_frame _ _) rfl
  exact Frame.refl _ _

theorem State.preemptTrap_frame (s : State) (a1 : ℕ) : Frame 0x2000081 s (State.preemptTrap s a1) := by
  unfold State.preemptTrap
  refine Frame.ite (fun _ => ?_) fun _ => ?_
  · refine Frame.step ?_ (State.emit_frame _ _) rfl
    refine Frame.step ?_ (State.count_frame _ _) rfl
    refine Frame.step ?_ (State.put_frame _ _ _) rfl
    exact Frame.refl _ _
  · exact Frame.refl _ _

theorem execPreemptTrap_frame (a0 : ℕ) (s : State) (t : State) (h : execPreemptTrap a0 s = .next t) : Frame 0x2000081 s t := by
  unfold execPreemptTrap at h
  refine onCore_frame h ?_
  refine Frame.step ?_ (State.preemptTrap_frame _ _) rfl
  exact Frame.refl _ _

theorem execCoreClaim_frame (a0 : Master) (a1 : ℕ) (s : State) (t : State) (h : execCoreClaim a0 a1 s = .next t) : Frame 0x2000181 s t := by
  unfold execCoreClaim at h
  refine onCore_frame h ?_
  refine Frame.step ?_ (State.claimRead_frame _ _ _) rfl
  exact Frame.refl _ _

theorem execThreadDeadlineMiss_frame (a0 : ℕ) (s : State) (t : State) (h : execThreadDeadlineMiss a0 s = .next t) : Frame 0x181 s t := by
  unfold execThreadDeadlineMiss at h
  refine onCore_frame h ?_
  refine Frame.step ?_ (State.threadMiss_frame _ _) rfl
  exact Frame.refl _ _

theorem execOpSwitchEnd_frame (s : State) (t : State) (h : execOpSwitchEnd s = .next t) : Frame 0x3000781 s t := by
  unfold execOpSwitchEnd at h
  refine onCore_frame h ?_
  refine Frame.step ?_ (State.switchEnd_frame _) rfl
  exact Frame.refl _ _

end Sys2Proof.Machine
end

