-- ==== Sys2Proof/Laws/FrameBus.lean ====
section
/-!
SUPPORT. What each operation of Machine/Bus.lean can change: one lemma an operation, with the mask of the parts of the state it
may touch (the bits are listed in Laws/Frame.lean).
-/

set_option linter.unusedVariables false
set_option Elab.async false

namespace Sys2Proof.Machine

theorem State.auditWrite_frame (s : State) (a1 : Master) (a2 : RegSpec) (a3 : List ℕ) (a4 : ℕ) (a5 : Word) (a6 : Word) (a7 : Word) : Frame 0x801 s (State.auditWrite s a1 a2 a3 a4 a5 a6 a7) := by
  unfold State.auditWrite
  refine Frame.step ?_ (State.auditAdd_frame _ _) rfl
  refine Frame.step ?_ (State.sealBy_frame _ _) rfl
  exact Frame.refl _ _

theorem State.remember_frame (s : State) (a1 : Master) (a2 : RegSpec) (a3 : List ℕ) (a4 : ℕ) (a5 : Word) : Frame 0x400000 s (State.remember s a1 a2 a3 a4 a5) := by
  unfold State.remember
  refine Frame.ite (fun _ => ?_) fun _ => ?_
  · refine Frame.step ?_ (State.storeArm_frame _ _ _ _) rfl
    exact Frame.refl _ _
  · refine Frame.ite (fun _ => ?_) fun _ => ?_
    · extract_lets +onlyGivenNames x1
      clear_value x1
      refine Frame.step ?_ (State.setPartition_frame _ _) rfl
      exact Frame.refl _ _
    · exact Frame.refl _ _

theorem State.effects_frame (s : State) (a1 : ℕ) (a2 : List ℕ) (a3 : Word) (a4 : Word) : Frame 0x3a7fff9 s (State.effects s a1 a2 a3 a4) := by
  unfold State.effects
  extract_lets +onlyGivenNames x1
  refine Frame.local x1 ?_ fun h1 => ?_
  · subst x1
    refine Frame.step ?_ (netEffect_frame _ _ _ _ _) rfl
    refine Frame.step ?_ (hostEffect_frame _ _ _ _ _) rfl
    refine Frame.step ?_ (schedEffect_frame _ _ _ _ _) rfl
    exact Frame.refl _ _
  clear_value x1
  extract_lets +onlyGivenNames x2
  refine Frame.local x2 ?_ fun h2 => ?_
  · subst x2
    refine Frame.step ?_ (phasorEffect_frame _ _ _ _ _) rfl
    refine Frame.step ?_ (analogueEffect_frame _ _ _ _ _) rfl
    refine Frame.step ?_ (laneEffect_frame _ _ _ _ _) rfl
    assumption
  clear_value x2
  extract_lets +onlyGivenNames x3
  refine Frame.local x3 ?_ fun h3 => ?_
  · subst x3
    refine Frame.step ?_ (oscillationEffect_frame _ _ _ _ _) rfl
    refine Frame.step ?_ (alignEffect_frame _ _ _ _ _) rfl
    refine Frame.step ?_ (streamEffect_frame _ _ _ _ _) rfl
    assumption
  clear_value x3
  extract_lets +onlyGivenNames x4
  refine Frame.local x4 ?_ fun h4 => ?_
  · subst x4
    refine Frame.step ?_ (meterEffect_frame _ _ _ _ _) rfl
    refine Frame.step ?_ (alarmEffect_frame _ _ _ _ _) rfl
    refine Frame.step ?_ (islandEffect_frame _ _ _ _ _) rfl
    assumption
  clear_value x4
  extract_lets +onlyGivenNames x5
  refine Frame.local x5 ?_ fun h5 => ?_
  · subst x5
    refine Frame.step ?_ (timeEffect_frame _ _ _ _ _) rfl
    refine Frame.step ?_ (captureEffect_frame _ _ _ _ _) rfl
    assumption
  clear_value x5
  extract_lets +onlyGivenNames x6
  refine Frame.local x6 ?_ fun h6 => ?_
  · subst x6
    refine Frame.when ?_ fun _ _ => ?_
    · assumption
    · refine Frame.step ?_ (State.showCaptureLoad_frame _) rfl
      assumption
  clear_value x6
  extract_lets +onlyGivenNames x7
  refine Frame.local x7 ?_ fun h7 => ?_
  · subst x7
    refine Frame.when ?_ fun _ _ => ?_
    · assumption
    · refine Frame.step ?_ (State.put_frame _ _ _) rfl
      assumption
  clear_value x7
  refine Frame.when ?_ fun _ _ => ?_
  · refine Frame.step ?_ (roleEffect_frame _ _ _ _ _) rfl
    assumption
  · refine Frame.step ?_ (State.showService_frame _ _) rfl
    refine Frame.step ?_ (State.showService_frame _ _) rfl
    assumption

theorem State.storeWrite_frame (s : State) (a1 : RegSpec) (a2 : List ℕ) (a3 : ℕ) (a4 : Word) : Frame 0x3a7fff9 s (State.storeWrite s a1 a2 a3 a4) := by
  unfold State.storeWrite
  split
  · refine Frame.step ?_ (State.clearCount_frame _ _ _) rfl
    exact Frame.refl _ _
  · extract_lets +onlyGivenNames x1
    clear_value x1
    refine Frame.step ?_ (State.effects_frame _ _ _ _ _) rfl
    refine Frame.step ?_ (State.setReg_frame _ _ _) rfl
    exact Frame.refl _ _

theorem State.acceptWrite_frame (s : State) (a1 : Master) (a2 : RegSpec) (a3 : List ℕ) (a4 : ℕ) (a5 : Word) (a6 : Bool) : Frame 0x3e7fff9 s (State.acceptWrite s a1 a2 a3 a4 a5 a6) := by
  unfold State.acceptWrite
  extract_lets +onlyGivenNames x1
  clear_value x1
  extract_lets +onlyGivenNames x2
  refine Frame.local x2 ?_ fun h2 => ?_
  · subst x2
    refine Frame.when ?_ fun _ _ => ?_
    · exact Frame.refl _ _
    · refine Frame.step ?_ (State.auditWrite_frame _ _ _ _ _ _ _ _) rfl
      assumption
  clear_value x2
  refine Frame.step ?_ (State.remember_frame _ _ _ _ _ _) rfl
  refine Frame.step ?_ (State.storeWrite_frame _ _ _ _ _) rfl
  assumption

theorem State.putTable_frame (s : State) (a1 : ℕ) (a2 : ℕ) (a3 : List ℕ) : Frame 0x80001 s (State.putTable s a1 a2 a3) := by
  unfold State.putTable
  extract_lets +onlyGivenNames x1
  clear_value x1
  extract_lets +onlyGivenNames x2
  refine Frame.local x2 ?_ fun h2 => ?_
  · subst x2
    refine Frame.upd ?_ rfl
    exact Frame.refl _ _
  clear_value x2
  refine Frame.ite (fun _ => ?_) fun _ => ?_
  · refine Frame.step ?_ (State.osInfo_frame _ _) rfl
    assumption
  · refine Frame.ite (fun _ => ?_) fun _ => ?_
    · refine Frame.step ?_ (State.put_frame _ _ _) rfl
      assumption
    · refine Frame.ite (fun _ => ?_) fun _ => ?_
      · extract_lets +onlyGivenNames x3
        refine Frame.local x3 ?_ fun h3 => ?_
        · subst x3
          refine Frame.step ?_ (State.put_frame _ _ _) rfl
          assumption
        clear_value x3
        refine Frame.step ?_ (State.put_frame _ _ _) rfl
        assumption
      · assumption

theorem State.acceptTable_frame (s : State) (a1 : ℕ) (a2 : ℕ) (a3 : List ℕ) : Frame 0x480001 s (State.acceptTable s a1 a2 a3) := by
  unfold State.acceptTable
  extract_lets +onlyGivenNames x1
  clear_value x1
  refine Frame.step ?_ (State.setPartition_frame _ _) rfl
  refine Frame.step ?_ (State.putTable_frame _ _ _ _) rfl
  exact Frame.refl _ _

theorem State.applyEffect_frame (s : State) (a1 : ConfigEffect) : Frame 0x3effff9 s (State.applyEffect s a1) := by
  unfold State.applyEffect
  split
  · split
    · refine Frame.ite (fun _ => ?_) fun _ => ?_
      · refine Frame.step ?_ (State.refuse_frame _ _ _ _ _) rfl
        exact Frame.refl _ _
      · refine Frame.step ?_ (State.acceptWrite_frame _ _ _ _ _ _ _) rfl
        exact Frame.refl _ _
    · exact Frame.refl _ _
  · refine Frame.step ?_ (State.acceptTable_frame _ _ _ _) rfl
    exact Frame.refl _ _
  · refine Frame.step ?_ (State.sessionClose_frame _ _ _ _ _) rfl
    exact Frame.refl _ _
  · extract_lets +onlyGivenNames x1
    clear_value x1
    refine Frame.ite (fun _ => ?_) fun _ => ?_
    · exact Frame.refl _ _
    · refine Frame.step ?_ (State.modeTo_frame _ _) rfl
      refine Frame.when ?_ fun _ _ => ?_
      · exact Frame.refl _ _
      · refine Frame.step ?_ (State.modeAudit_frame _ _ _) rfl
        assumption
  · exact Frame.refl _ _

theorem State.settled_frame (s : State) : Frame 0x3effff9 s (State.settled s) := by
  unfold State.settled
  refine Frame.foldl ?_ fun _ _ _ => ?_
  · refine Frame.upd ?_ rfl
    exact Frame.refl _ _
  · refine Frame.step ?_ (State.applyEffect_frame _ _) rfl
    assumption

theorem State.ahead_frame (s : State) : Frame 0x3effff9 s (State.ahead s) := by
  unfold State.ahead
  refine Frame.ite (fun _ => ?_) fun _ => ?_
  · exact Frame.refl _ _
  · refine Frame.step ?_ (State.settled_frame _) rfl
    exact Frame.refl _ _

theorem State.refusedEffects_frame (s : State) (a1 : Option ℕ) (a2 : ℕ) (a3 : List ℕ) (a4 : Word) : Frame 0x181 s (State.refusedEffects s a1 a2 a3 a4) := by
  unfold State.refusedEffects
  refine Frame.step ?_ (State.layoutShown_frame _ _) rfl
  refine Frame.step ?_ (analogueRefused_frame _ _ _ _) rfl
  refine Frame.step ?_ (hostRefused_frame _ _ _) rfl
  exact Frame.refl _ _

theorem State.keepTable_frame (s : State) (a1 : ConfigEffect) : Frame 0x40 s (State.keepTable s a1) := by
  unfold State.keepTable
  split
  · refine Frame.ite (fun _ => ?_) fun _ => ?_
    · exact Frame.refl _ _
    · extract_lets +onlyGivenNames x1
      clear_value x1
      refine Frame.upd ?_ rfl
      exact Frame.refl _ _
  · exact Frame.refl _ _

theorem State.deferConfig_frame (s : State) (a1 : ConfigEffect) : Frame 0x40 s (State.deferConfig s a1) := by
  unfold State.deferConfig
  extract_lets +onlyGivenNames x1
  refine Frame.local x1 ?_ fun h1 => ?_
  · subst x1
    refine Frame.step ?_ (State.orderLog_frame _ _) rfl
    refine Frame.when ?_ fun _ _ => ?_
    · exact Frame.refl _ _
    · refine Frame.step ?_ (State.keepTable_frame _ _) rfl
      assumption
  clear_value x1
  refine Frame.upd ?_ rfl
  assumption

theorem State.carryOut_frame (s : State) (a1 : Master) (a2 : RegSpec) (a3 : List ℕ) (a4 : ℕ) (a5 : Word) (a6 : Bool) : Frame 0x3effff9 s (State.carryOut s a1 a2 a3 a4 a5 a6) := by
  unfold State.carryOut
  refine Frame.ite (fun _ => ?_) fun _ => ?_
  · extract_lets +onlyGivenNames x1
    clear_value x1
    extract_lets +onlyGivenNames x2
    refine Frame.local x2 ?_ fun h2 => ?_
    · subst x2
      refine Frame.when ?_ fun _ _ => ?_
      · exact Frame.refl _ _
      · refine Frame.step ?_ (State.auditWrite_frame _ _ _ _ _ _ _ _) rfl
        assumption
    clear_value x2
    refine Frame.step ?_ (State.deferConfig_frame _ _) rfl
    assumption
  · refine Frame.step ?_ (State.acceptWrite_frame _ _ _ _ _ _ _) rfl
    exact Frame.refl _ _

theorem State.busWrite_frame (s : State) (a1 : Master) (a2 : ℕ) (a3 : ℕ) (a4 : ℕ) : Frame 0x3effff9 s (State.busWrite s a1 a2 a3 a4) := by
  unfold State.busWrite
  refine Frame.ite (fun _ => ?_) fun _ => ?_
  · refine Frame.step ?_ (State.misTrap_frame _ _ _) rfl
    exact Frame.refl _ _
  · refine Frame.ite (fun _ => ?_) fun _ => ?_
    · refine Frame.step ?_ (State.refuse_frame _ _ _ _ _) rfl
      exact Frame.refl _ _
    · refine Frame.ite (fun _ => ?_) fun _ => ?_
      · exact Frame.refl _ _
      · refine Frame.ite (fun _ => ?_) fun _ => ?_
        · refine Frame.when ?_ fun _ _ => ?_
          · exact Frame.refl _ _
          · refine Frame.step ?_ (State.refuse_frame _ _ _ _ _) rfl
            assumption
        · split
          · refine Frame.step ?_ (State.decodeMiss_frame _ _) rfl
            exact Frame.refl _ _
          · extract_lets +onlyGivenNames x1
            clear_value x1
            split
            · refine Frame.step ?_ (State.refusedEffects_frame _ _ _ _ _) rfl
              refine Frame.step ?_ (State.refuse_frame _ _ _ _ _) rfl
              exact Frame.refl _ _
            · refine Frame.step ?_ (State.carryOut_frame _ _ _ _ _ _ _) rfl
              exact Frame.refl _ _

theorem State.auditSet_frame (s : State) (a1 : Master) (a2 : List (ℕ × ℕ)) : Frame 0x801 s (State.auditSet s a1 a2) := by
  unfold State.auditSet
  split
  · exact Frame.refl _ _
  · refine Frame.step ?_ (State.auditAdd_frame _ _) rfl
    refine Frame.step ?_ (State.sealBy_frame _ _) rfl
    exact Frame.refl _ _

theorem State.runSet_frame (s : State) (a1 : Master) (a2 : List (ℕ × ℕ)) (a3 : List (ℕ × ℕ)) : Frame 0x3effff9 s (State.runSet s a1 a2 a3) := by
  unfold State.runSet
  extract_lets +onlyGivenNames x1
  refine Frame.local x1 ?_ fun h1 => ?_
  · subst x1
    refine Frame.foldl ?_ fun _ _ _ => ?_
    · exact Frame.refl _ _
    · split
      · refine Frame.step ?_ (State.decodeMiss_frame _ _) rfl
        assumption
      · refine Frame.step ?_ (State.carryOut_frame _ _ _ _ _ _ _) rfl
        assumption
  clear_value x1
  refine Frame.step ?_ (State.auditSet_frame _ _ _) rfl
  assumption

theorem State.loadTables_frame (s : State) (a1 : List ℕ) (a2 : List (ℕ × ℕ × List ℕ)) : Frame 0x80001 s (State.loadTables s a1 a2) := by
  unfold State.loadTables
  refine Frame.foldl ?_ fun _ _ _ => ?_
  · exact Frame.refl _ _
  · refine Frame.ite (fun _ => ?_) fun _ => ?_
    · assumption
    · refine Frame.step ?_ (State.putTable_frame _ _ _ _) rfl
      assumption

theorem State.loadEntries_frame {M : Nat} {s : State} {m : Master} {run : State × List (Nat × Nat)} {es : List (Nat × Nat)}
    (h : Frame M s run.1) (hm : 0x3a7fff9 &&& M = 0x3a7fff9) : Frame M s (State.loadEntries m run es).1 := by
  unfold State.loadEntries
  refine Frame.foldlFst h fun u e hu => ?_
  extract_lets x
  refine Frame.iteFst (fun _ => ?_) fun _ => ?_
  · exact hu.step ((State.refuse_frame _ _ _ _ _).weaken rfl) hm
  split
  · exact hu.step ((State.decodeMiss_frame _ _).weaken rfl) hm
  · refine Frame.iteFst (fun _ => ?_) fun _ => ?_
    · exact hu.step (F := 0x3a7fff9) (Frame.upd (Frame.refl _ _) rfl) hm
    split
    · refine hu.step (F := 0x3a7fff9) ?_ hm
      refine Frame.step ?_ (State.refusedEffects_frame _ _ _ _ _) rfl
      refine Frame.step ?_ (State.refuse_frame _ _ _ _ _) rfl
      exact Frame.refl _ _
    · exact hu.step ((State.storeWrite_frame _ _ _ _ _).weaken rfl) hm

theorem State.loadPass_frame {M : Nat} {s : State} {m : Master} (hm : 0x3a7fff9 &&& M = 0x3a7fff9) :
    ∀ (es : List (Nat × Nat)) (run : State × List (Nat × Nat)), Frame M s run.1 → Frame M s (State.loadPass m es run).1.1
  | [], _, h => h
  | e :: es, run, h => by
    unfold State.loadPass
    split
    · exact State.loadPass_frame hm es run h
    · exact State.loadPass_frame hm es _ (State.loadEntries_frame h hm)

theorem State.loadInOrder_frame {M : Nat} {s : State} {m : Master} (hm : 0x3a7fff9 &&& M = 0x3a7fff9) :
    ∀ (n : Nat) (es : List (Nat × Nat)) (run : State × List (Nat × Nat)), Frame M s run.1 → Frame M s (State.loadInOrder m n es run).1
  | 0, _, _, h => State.loadEntries_frame h hm
  | n + 1, es, run, h => by
    unfold State.loadInOrder
    dsimp only
    split
    · exact State.loadInOrder_frame hm n _ _ (State.loadPass_frame hm es run h)
    · exact State.loadEntries_frame h hm

theorem State.loadDisabled_frame (s : State) (a1 : List (ℕ × ℕ)) : Frame 0x3a7fff9 s (State.loadDisabled s a1) := by
  unfold State.loadDisabled
  refine Frame.foldl ?_ fun _ _ _ => ?_
  · exact Frame.refl _ _
  · split
    · extract_lets +onlyGivenNames x1
      clear_value x1
      refine Frame.ite (fun _ => ?_) fun _ => ?_
      · refine Frame.step ?_ (State.storeWrite_frame _ _ _ _ _) rfl
        assumption
      · assumption
    · assumption

end Sys2Proof.Machine
end

