-- ==== Sys2Proof/Laws/FrameLockstep.lean ====
section
/-!
SUPPORT. What each operation of Machine/Lockstep.lean can change: one lemma an operation, with the mask of the parts of the state it
may touch (the bits are listed in Laws/Frame.lean).
-/

set_option linter.unusedVariables false
set_option Elab.async false

namespace Sys2Proof.Machine

theorem State.effectsNow_frame (s : State) : Frame 0x3effff9 s (State.effectsNow s) := by
  unfold State.effectsNow
  refine Frame.foldl ?_ fun _ _ _ => ?_
  · refine Frame.upd ?_ rfl
    exact Frame.refl _ _
  · refine Frame.step ?_ (State.applyEffect_frame _ _) rfl
    assumption

theorem State.tickNow_frame (s : State) : Frame 0x3effff9 s (State.tickNow s) := by
  unfold State.tickNow
  extract_lets +onlyGivenNames x1
  clear_value x1
  extract_lets +onlyGivenNames x2
  refine Frame.local x2 ?_ fun h2 => ?_
  · subst x2
    refine Frame.step ?_ (State.effectsNow_frame _) rfl
    refine Frame.step ?_ (State.orderLog_frame _ _) rfl
    exact Frame.refl _ _
  clear_value x2
  refine Frame.upd ?_ rfl
  assumption

theorem State.laneHeard_frame (s : State) (a1 : ℕ) : Frame 0x200001 s (State.laneHeard s a1) := by
  unfold State.laneHeard
  extract_lets +onlyGivenNames x1
  clear_value x1
  extract_lets +onlyGivenNames x2
  refine Frame.local x2 ?_ fun h2 => ?_
  · subst x2
    refine Frame.upd ?_ rfl
    exact Frame.refl _ _
  clear_value x2
  refine Frame.step ?_ (State.put_frame _ _ _) rfl
  refine Frame.step ?_ (State.put_frame _ _ _) rfl
  assumption

theorem State.noteFrame_frame (s : State) (a1 : CwHeader) : Frame 0x200001 s (State.noteFrame s a1) := by
  unfold State.noteFrame
  extract_lets +onlyGivenNames x1
  clear_value x1
  extract_lets +onlyGivenNames x2
  clear_value x2
  extract_lets +onlyGivenNames x3
  clear_value x3
  refine Frame.step ?_ (State.laneHeard_frame _ _) rfl
  refine Frame.upd ?_ rfl
  exact Frame.refl _ _

theorem State.cwTake_frame {M : Nat} {s t : State} {c : CwHeader} {opens : Bool} {run : State → State} (h : Frame M s t)
    (hm : 0x200181 &&& M = 0x200181) (hr : ∀ u, Frame M s u → Frame M s (run u)) : Frame M s (t.cwTake c opens run) := by
  have cnt : ∀ k, Frame M s (t.count (cwCnt k)) := fun k => h.step ((State.count_frame _ _).weaken rfl) hm
  have note : Frame 0x200181 t (t.noteFrame c) := (State.noteFrame_frame _ _).weaken rfl
  unfold State.cwTake
  extract_lets +onlyGivenNames l
  split
  · refine h.step (F := 0x200181) ?_ hm
    refine Frame.step ?_ (State.raise_frame _ _ _ _ _ _) rfl
    exact Frame.step (Frame.refl _ _) (State.count_frame _ _) rfl
  · exact h.step (F := 0x200181) (Frame.when (Frame.step (Frame.refl _ _) (State.count_frame _ _) rfl) fun _ hu => hu.step (State.ctDiscard_frame _ _ _) rfl) hm
  · extract_lets w
    refine Frame.ite (fun _ => cnt _) fun _ => ?_
    refine Frame.ite (fun _ => h.step note hm) fun _ => ?_
    refine Frame.ite (fun _ => cnt _) fun _ => ?_
    extract_lets +onlyGivenNames known s1 s2
    refine hr _ (Frame.when (h.step (F := 0x200181) ?_ hm) fun u hu => hu.step ((State.put_frame _ _ _).weaken rfl) hm)
    exact Frame.upd note rfl

theorem State.cwRx_frame {M : Nat} {s t : State} {c : CwHeader} {opens : Bool} {run : State → State} (h : Frame M s t)
    (hm : 0x200181 &&& M = 0x200181) (hr : ∀ u, Frame M s u → Frame M s (run u)) : Frame M s (t.cwRx c opens run) := by
  unfold State.cwRx
  refine Frame.ite (fun _ => h) fun _ => ?_
  extract_lets +onlyGivenNames s1
  have h1 : Frame M s s1 := h.step ((State.sluiceEcc_frame _ _ _ _).weaken rfl) hm
  exact Frame.ite (fun _ => h1.step ((State.count_frame _ _).weaken rfl) hm) fun _ => State.cwTake_frame h1 (mask_trans rfl hm) hr

theorem State.showLag_frame (s : State) : Frame 0x1 s (State.showLag s) := by
  unfold State.showLag
  extract_lets +onlyGivenNames x1
  clear_value x1
  extract_lets +onlyGivenNames x2
  clear_value x2
  extract_lets +onlyGivenNames x3
  clear_value x3
  refine Frame.step ?_ (State.put_frame _ _ _) rfl
  refine Frame.step ?_ (State.put_frame _ _ _) rfl
  exact Frame.refl _ _

theorem State.chainEntry_frame (s : State) (a1 : ℕ) (a2 : Stamp) (a3 : List Word) : Frame 0x211000 s (State.chainEntry s a1 a2 a3) := by
  unfold State.chainEntry
  refine Frame.foldl ?_ fun _ _ _ => ?_
  · exact Frame.refl _ _
  · extract_lets +onlyGivenNames x1
    clear_value x1
    refine Frame.step ?_ (State.levels_frame _ _ _ _) rfl
    refine Frame.step ?_ (State.keepOutput_frame _ _ _ _) rfl
    assumption

theorem State.pairTick_frame (s : State) (a1 : Stamp) (a2 : ℕ) : Frame 0x3effff9 s (State.pairTick s a1 a2) := by
  unfold State.pairTick
  extract_lets +onlyGivenNames x1
  clear_value x1
  extract_lets +onlyGivenNames x2
  clear_value x2
  extract_lets +onlyGivenNames x3
  refine Frame.local x3 ?_ fun h3 => ?_
  · subst x3
    refine Frame.upd ?_ rfl
    exact Frame.refl _ _
  clear_value x3
  refine Frame.foldl ?_ fun _ _ _ => ?_
  · refine Frame.step ?_ (State.noteQual_frame _) rfl
    assumption
  · refine Frame.step ?_ (State.applyEffect_frame _ _) rfl
    assumption

theorem State.awaitTick_frame (s : State) (a1 : OrderEntry) (a2 : List ℕ) : Frame 0x40 s (State.awaitTick s a1 a2) := by
  unfold State.awaitTick
  refine Frame.upd ?_ rfl
  exact Frame.refl _ _

theorem State.takeEntry_frame {s t : State} {e : OrderEntry} {pass : Bool} (h : s.takeEntry e pass = some t) : Frame 0x3effff9 s t := by
  unfold State.takeEntry at h
  split at h
  · split at h
    · injection h with h
      subst h
      refine Frame.step ?_ (State.emit_frame _ _) rfl
      refine Frame.upd ?_ rfl
      exact Frame.refl _ _
    · split at h
      · injection h with h; subst h; exact Frame.refl _ _
      · exact absurd h (by simp)
  · injection h with h; subst h; exact (State.chainEntry_frame _ _ _ _).weaken rfl
  · injection h with h; subst h; exact (State.pairTick_frame _ _ _).weaken rfl
  · injection h with h; subst h
    refine Frame.step ?_ (State.stepBlocks_frame _ _) rfl
    refine Frame.upd ?_ rfl
    exact Frame.refl _ _
  · injection h with h; subst h; exact (State.awaitTick_frame _ _ _).weaken rfl
  · split at h
    · injection h with h; subst h; exact (State.awaitTick_frame _ _ _).weaken rfl
    · split at h
      · injection h with h; subst h; exact Frame.refl _ _
      · exact absurd h (by simp)

theorem State.entryDone_frame (s : State) (a1 : ℕ) : Frame 0x40 s (State.entryDone s a1) := by
  unfold State.entryDone
  refine Frame.upd ?_ rfl
  exact Frame.refl _ _

theorem State.drain_frame (a0 : Bool) (a1 : ℕ) (s : State) : Frame 0x3effff9 s (State.drain a0 a1 s) := by
  induction' a1 with n ih generalizing a0 s
  · unfold State.drain
    exact Frame.refl _ _
  · unfold State.drain
    split
    · exact Frame.refl _ _
    · refine Frame.ite (fun _ => ?_) fun _ => ?_
      · exact Frame.refl _ _
      · split
        · refine Frame.step ?_ (ih _ _) rfl
          refine Frame.step ?_ (State.entryDone_frame _ _) rfl
          refine Frame.step ?_ (State.takeEntry_frame (by assumption)) rfl
          exact Frame.refl _ _
        · exact Frame.refl _ _

theorem State.advance_frame (s : State) : Frame 0x3effff9 s (State.advance s) := by
  unfold State.advance
  refine Frame.step ?_ (State.showLag_frame _) rfl
  refine Frame.step ?_ (State.drain_frame _ _ _) rfl
  exact Frame.refl _ _

theorem State.stopLog_frame (s : State) : Frame 0x3effff9 s (State.stopLog s) := by
  unfold State.stopLog
  refine Frame.step ?_ (State.dropLog_frame _) rfl
  refine Frame.step ?_ (State.effectsNow_frame _) rfl
  exact Frame.refl _ _

theorem State.orderSend_frame (s : State) (a1 : List OrderRec) : Frame 0x32001c1 s (State.orderSend s a1) := by
  unfold State.orderSend
  split
  · exact Frame.refl _ _
  · refine Frame.step ?_ (State.cwSend_frame _ _ _) rfl
    exact Frame.refl _ _

theorem State.sendEntries_frame (a0 : ℕ) (a1 : List OrderRec) (s : State) : Frame 0x32001c1 s (State.sendEntries a0 a1 s) := by
  induction' a0 with n ih generalizing a1 s
  · unfold State.sendEntries
    exact Frame.refl _ _
  · unfold State.sendEntries
    refine Frame.ite (fun _ => ?_) fun _ => ?_
    · exact Frame.refl _ _
    · refine Frame.step ?_ (ih _ _) rfl
      refine Frame.step ?_ (State.orderSend_frame _ _) rfl
      exact Frame.refl _ _

theorem State.fetch_frame (s : State) (a1 : ℕ) (a2 : ℕ) (a3 : ℕ) : Frame 0x32001c1 s (State.fetch s a1 a2 a3) := by
  unfold State.fetch
  refine Frame.ite (fun _ => ?_) fun _ => ?_
  · exact Frame.refl _ _
  · extract_lets +onlyGivenNames x1
    clear_value x1
    extract_lets +onlyGivenNames x2
    refine Frame.local x2 ?_ fun h2 => ?_
    · subst x2
      refine Frame.upd ?_ rfl
      exact Frame.refl _ _
    clear_value x2
    refine Frame.step ?_ (State.count_frame _ _) rfl
    refine Frame.step ?_ (State.cwSend_frame _ _ _) rfl
    assumption

theorem State.orderRx_frame (s : State) (a1 : ℕ) (a2 : List OrderEntry) : Frame 0x3effff9 s (State.orderRx s a1 a2) := by
  unfold State.orderRx
  refine Frame.ite (fun _ => ?_) fun _ => ?_
  · exact Frame.refl _ _
  · extract_lets +onlyGivenNames x1
    clear_value x1
    extract_lets +onlyGivenNames x2
    refine Frame.local x2 ?_ fun h2 => ?_
    · subst x2
      refine Frame.ite (fun _ => ?_) fun _ => ?_
      · refine Frame.step ?_ (State.fetch_frame _ _ _ _) rfl
        refine Frame.step ?_ (State.count_frame _ _) rfl
        exact Frame.refl _ _
      · exact Frame.refl _ _
    clear_value x2
    extract_lets +onlyGivenNames x3
    clear_value x3
    extract_lets +onlyGivenNames x4
    clear_value x4
    extract_lets +onlyGivenNames x5
    refine Frame.local x5 ?_ fun h5 => ?_
    · subst x5
      refine Frame.upd ?_ rfl
      assumption
    clear_value x5
    refine Frame.ite (fun _ => ?_) fun _ => ?_
    · refine Frame.step ?_ (State.advance_frame _) rfl
      assumption
    · assumption

theorem execCwOrderRx_frame (a0 : CwHeader) (a1 : ℕ) (a2 : List OrderEntry) (s : State) (t : State) (h : execCwOrderRx a0 a1 a2 s = .next t) : Frame 0x3effff9 s t := by
  unfold execCwOrderRx at h
  refine onEngines_frame h ?_
  refine State.cwRx_frame ?_ rfl fun _ _ => ?_
  · exact Frame.refl _ _
  · refine Frame.step ?_ (State.orderRx_frame _ _ _) rfl
    assumption

theorem State.laneDown_frame (s : State) (a1 : ℕ) : Frame 0x181 s (State.laneDown s a1) := by
  unfold State.laneDown
  extract_lets +onlyGivenNames x1
  clear_value x1
  refine Frame.ite (fun _ => ?_) fun _ => ?_
  · exact Frame.refl _ _
  · refine Frame.step ?_ (State.raise_frame _ _ _ _ _ _) rfl
    refine Frame.step ?_ (State.put_frame _ _ _) rfl
    refine Frame.step ?_ (State.put_frame _ _ _) rfl
    exact Frame.refl _ _

theorem State.serveFetch_frame (s : State) (a1 : ℕ) (a2 : ℕ) : Frame 0x32001c1 s (State.serveFetch s a1 a2) := by
  unfold State.serveFetch
  refine Frame.ite (fun _ => ?_) fun _ => ?_
  · exact Frame.refl _ _
  · refine Frame.ite (fun _ => ?_) fun _ => ?_
    · extract_lets +onlyGivenNames x1
      clear_value x1
      refine Frame.step ?_ (State.sendEntries_frame _ _ _) rfl
      exact Frame.refl _ _
    · split
      · refine Frame.step ?_ (State.cwSend_frame _ _ _) rfl
        exact Frame.refl _ _
      · exact Frame.refl _ _

theorem execCwFetchRx_frame (a0 : CwHeader) (a1 : ℕ) (a2 : ℕ) (s : State) (t : State) (h : execCwFetchRx a0 a1 a2 s = .next t) : Frame 0x32001c1 s t := by
  unfold execCwFetchRx at h
  refine onEngines_frame h ?_
  refine State.cwRx_frame ?_ rfl fun _ _ => ?_
  · exact Frame.refl _ _
  · refine Frame.step ?_ (State.serveFetch_frame _ _ _) rfl
    assumption

theorem State.frameCopy_frame (s : State) (a1 : ℕ) (a2 : List Byte) (a3 : List ℕ) : Frame 0x3effff9 s (State.frameCopy s a1 a2 a3) := by
  unfold State.frameCopy
  split
  · exact Frame.refl _ _
  · refine Frame.ite (fun _ => ?_) fun _ => ?_
    · exact Frame.refl _ _
    · split
      · refine Frame.ite (fun _ => ?_) fun _ => ?_
        · exact Frame.refl _ _
        · refine Frame.step ?_ (State.advance_frame _) rfl
          refine Frame.step ?_ (State.entryDone_frame _ _) rfl
          refine Frame.step ?_ (State.emit_frame _ _) rfl
          exact Frame.refl _ _
      · refine Frame.ite (fun _ => ?_) fun _ => ?_
        · exact Frame.refl _ _
        · refine Frame.step ?_ (State.advance_frame _) rfl
          refine Frame.step ?_ (State.entryDone_frame _ _) rfl
          refine Frame.step ?_ (State.awaitTick_frame _ _ _) rfl
          exact Frame.refl _ _
      · exact Frame.refl _ _

theorem execCwFrameCopyRx_frame (a0 : CwHeader) (a1 : ℕ) (a2 : List Byte) (a3 : List ℕ) (s : State) (t : State) (h : execCwFrameCopyRx a0 a1 a2 a3 s = .next t) : Frame 0x3effff9 s t := by
  unfold execCwFrameCopyRx at h
  refine onEngines_frame h ?_
  refine State.cwRx_frame ?_ rfl fun _ _ => ?_
  · exact Frame.refl _ _
  · refine Frame.step ?_ (State.frameCopy_frame _ _ _ _) rfl
    assumption

theorem execCwLaneSilence_frame (a0 : ℕ) (s : State) (t : State) (h : execCwLaneSilence a0 s = .next t) : Frame 0x181 s t := by
  unfold execCwLaneSilence at h
  refine onEngines_frame h ?_
  refine Frame.step ?_ (State.laneDown_frame _ _) rfl
  exact Frame.refl _ _

theorem State.orderTick_frame (s : State) : Frame 0x3effff9 s (State.orderTick s) := by
  unfold State.orderTick
  refine Frame.ite (fun _ => ?_) fun _ => ?_
  · refine Frame.ite (fun _ => ?_) fun _ => ?_
    · refine Frame.step ?_ (State.tickNow_frame _) rfl
      exact Frame.refl _ _
    · refine Frame.when ?_ fun _ _ => ?_
      · exact Frame.refl _ _
      · refine Frame.step ?_ (State.effectsNow_frame _) rfl
        assumption
  · exact Frame.refl _ _

theorem execOrderTick_frame (s : State) (t : State) (h : execOrderTick s = .next t) : Frame 0x3effff9 s t := by
  unfold execOrderTick at h
  refine onEngines_frame h ?_
  refine Frame.step ?_ (State.orderTick_frame _) rfl
  exact Frame.refl _ _

theorem State.orderFlush_frame (s : State) : Frame 0x32001c1 s (State.orderFlush s) := by
  unfold State.orderFlush
  split
  · exact Frame.refl _ _
  · refine Frame.ite (fun _ => ?_) fun _ => ?_
    · exact Frame.refl _ _
    · refine Frame.step ?_ (State.orderSend_frame _ _) rfl
      refine Frame.upd ?_ rfl
      exact Frame.refl _ _

theorem execOrderFlush_frame (s : State) (t : State) (h : execOrderFlush s = .next t) : Frame 0x32001c1 s t := by
  unfold execOrderFlush at h
  refine onEngines_frame h ?_
  refine Frame.step ?_ (State.orderFlush_frame _) rfl
  exact Frame.refl _ _

theorem State.matchExpire_frame (s : State) : Frame 0xc1 s (State.matchExpire s) := by
  unfold State.matchExpire
  extract_lets +onlyGivenNames x1
  clear_value x1
  extract_lets +onlyGivenNames x2
  clear_value x2
  extract_lets +onlyGivenNames x3
  clear_value x3
  refine Frame.step ?_ (State.countN_frame _ _ _) rfl
  refine Frame.upd ?_ rfl
  exact Frame.refl _ _

theorem execOrderMatchExpire_frame (s : State) (t : State) (h : execOrderMatchExpire s = .next t) : Frame 0xc1 s t := by
  unfold execOrderMatchExpire at h
  refine onEngines_frame h ?_
  refine Frame.step ?_ (State.matchExpire_frame _) rfl
  exact Frame.refl _ _

theorem State.fetchTimer_frame (s : State) : Frame 0x32001c1 s (State.fetchTimer s) := by
  unfold State.fetchTimer
  split
  · exact Frame.refl _ _
  · refine Frame.ite (fun _ => ?_) fun _ => ?_
    · exact Frame.refl _ _
    · refine Frame.ite (fun _ => ?_) fun _ => ?_
      · refine Frame.step ?_ (State.syncLost_frame _) rfl
        refine Frame.step ?_ (State.count_frame _ _) rfl
        exact Frame.refl _ _
      · refine Frame.ite (fun _ => ?_) fun _ => ?_
        · refine Frame.step ?_ (State.fetch_frame _ _ _ _) rfl
          exact Frame.refl _ _
        · exact Frame.refl _ _

theorem execFetchTimer_frame (s : State) (t : State) (h : execFetchTimer s = .next t) : Frame 0x32001c1 s t := by
  unfold execFetchTimer at h
  refine onEngines_frame h ?_
  refine Frame.step ?_ (State.fetchTimer_frame _) rfl
  exact Frame.refl _ _

end Sys2Proof.Machine
end

