-- ==== Sys2Proof/Laws/FramePair.lean ====
section
/-!
SUPPORT. What each operation of Machine/Pair.lean can change: one lemma an operation, with the mask of the parts of the state it
may touch (the bits are listed in Laws/Frame.lean).
-/

set_option linter.unusedVariables false
set_option Elab.async false

namespace Sys2Proof.Machine

theorem State.judge_frame (s : State) (a1 : WindowDigest) (a2 : WindowDigest) : Frame 0x200081 s (State.judge s a1 a2) := by
  unfold State.judge
  extract_lets +onlyGivenNames x1
  extract_lets +onlyGivenNames x2
  clear_value x2
  extract_lets +onlyGivenNames x3
  refine Frame.local x3 ?_ fun h3 => ?_
  · subst x3
    refine Frame.step ?_ (State.put_frame _ _ _) rfl
    exact Frame.refl _ _
  extract_lets +onlyGivenNames x4
  clear_value x4
  extract_lets +onlyGivenNames x5
  refine Frame.local x5 ?_ fun h5 => ?_
  · subst x5
    refine Frame.upd ?_ rfl
    assumption
  refine Frame.ite (fun _ => ?_) fun _ => ?_
  · refine Frame.ite (fun _ => ?_) fun _ => ?_
    · refine Frame.step ?_ (State.put_frame _ _ _) rfl
      assumption
    · assumption
  · extract_lets +onlyGivenNames x6
    refine Frame.local x6 ?_ fun h6 => ?_
    · subst x6
      refine Frame.step ?_ (State.count_frame _ _) rfl
      assumption
    clear_value x6
    refine Frame.ite (fun _ => ?_) fun _ => ?_
    · assumption
    · refine Frame.upd ?_ rfl
      assumption

theorem State.compare_frame (s : State) : Frame 0x200081 s (State.compare s) := by
  unfold State.compare
  split
  · exact Frame.refl _ _
  · split
    · exact Frame.refl _ _
    · extract_lets +onlyGivenNames x1
      clear_value x1
      extract_lets +onlyGivenNames x2
      refine Frame.local x2 ?_ fun h2 => ?_
      · subst x2
        refine Frame.upd ?_ rfl
        exact Frame.refl _ _
      clear_value x2
      refine Frame.step ?_ (State.judge_frame _ _ _) rfl
      assumption

theorem State.keepaliveTx_frame (s : State) : Frame 0x32001c1 s (State.keepaliveTx s) := by
  unfold State.keepaliveTx
  refine Frame.ite (fun _ => ?_) fun _ => ?_
  · exact Frame.refl _ _
  · extract_lets +onlyGivenNames x1
    clear_value x1
    extract_lets +onlyGivenNames x2
    refine Frame.local x2 ?_ fun h2 => ?_
    · subst x2
      refine Frame.upd ?_ rfl
      exact Frame.refl _ _
    clear_value x2
    refine Frame.step ?_ (State.cwSend_frame _ _ _) rfl
    assumption

theorem execCwKeepaliveTx_frame (s : State) (t : State) (h : execCwKeepaliveTx s = .next t) : Frame 0x32001c1 s t := by
  unfold execCwKeepaliveTx at h
  refine onEngines_frame h ?_
  refine Frame.step ?_ (State.keepaliveTx_frame _) rfl
  exact Frame.refl _ _

theorem State.dropJoin_frame (s : State) (a1 : ℕ) : Frame 0x200001 s (State.dropJoin s a1) := by
  unfold State.dropJoin
  extract_lets +onlyGivenNames x1
  clear_value x1
  extract_lets +onlyGivenNames x2
  refine Frame.local x2 ?_ fun h2 => ?_
  · subst x2
    refine Frame.upd ?_ rfl
    exact Frame.refl _ _
  clear_value x2
  refine Frame.ite (fun _ => ?_) fun _ => ?_
  · refine Frame.step ?_ (State.showService_frame _ _) rfl
    refine Frame.step ?_ (State.setPair_frame _ _ _ _) rfl
    refine Frame.step ?_ (State.put_frame _ _ _) rfl
    assumption
  · assumption

theorem State.importCheckpoint_frame (s : State) (a1 : ℕ) (a2 : Checkpoint) : Frame 0x3affff9 s (State.importCheckpoint s a1 a2) := by
  unfold State.importCheckpoint
  extract_lets +onlyGivenNames x1
  refine Frame.local x1 ?_ fun h1 => ?_
  · subst x1
    refine Frame.step ?_ (State.showService_frame _ _) rfl
    refine Frame.step ?_ (State.put_frame _ _ _) rfl
    refine Frame.step ?_ (State.setPair_frame _ _ _ _) rfl
    exact Frame.refl _ _
  clear_value x1
  extract_lets +onlyGivenNames x2
  refine Frame.local x2 ?_ fun h2 => ?_
  · subst x2
    refine Frame.foldl ?_ fun _ _ _ => ?_
    · assumption
    · refine Frame.ite (fun _ => ?_) fun _ => ?_
      · refine Frame.step ?_ (State.putTable_frame _ _ _ _) rfl
        assumption
      · assumption
  clear_value x2
  extract_lets +onlyGivenNames x3
  refine Frame.local x3 ?_ fun h3 => ?_
  · subst x3
    refine Frame.foldl ?_ fun _ _ _ => ?_
    · assumption
    · split
      · refine Frame.ite (fun _ => ?_) fun _ => ?_
        · assumption
        · refine Frame.ite (fun _ => ?_) fun _ => ?_
          · refine Frame.step ?_ (State.storeWrite_frame _ _ _ _ _) rfl
            assumption
          · refine Frame.ite (fun _ => ?_) fun _ => ?_
            · refine Frame.step ?_ (State.setReg_frame _ _ _) rfl
              assumption
            · assumption
      · assumption
  clear_value x3
  extract_lets +onlyGivenNames x4
  refine Frame.local x4 ?_ fun h4 => ?_
  · subst x4
    refine Frame.forEach ?_ fun _ _ _ => ?_
    · assumption
    · refine Frame.step ?_ (State.setStreamLink_frame _ _ _) rfl
      assumption
  clear_value x4
  refine Frame.ite (fun _ => ?_) fun _ => ?_
  · assumption
  · refine Frame.step ?_ (State.setRole_frame _ _ _) rfl
    assumption

theorem State.joinRun_frame (s : State) (a1 : Job) (a2 : ℕ) (a3 : ℕ) (a4 : Option (Option Checkpoint)) : Frame 0x3affff9 s (State.joinRun s a1 a2 a3 a4) := by
  unfold State.joinRun
  refine Frame.ite (fun _ => ?_) fun _ => ?_
  · refine Frame.step ?_ (State.endJob_frame _ _ _ _ _ _) rfl
    exact Frame.refl _ _
  · split
    · refine Frame.step ?_ (State.endJob_frame _ _ _ _ _ _) rfl
      refine Frame.step ?_ (State.importCheckpoint_frame _ _ _) rfl
      exact Frame.refl _ _
    · refine Frame.step ?_ (State.endJob_frame _ _ _ _ _ _) rfl
      exact Frame.refl _ _
    · extract_lets +onlyGivenNames x1
      refine Frame.local x1 ?_ fun h1 => ?_
      · subst x1
        refine Frame.step ?_ (State.showService_frame _ _) rfl
        refine Frame.step ?_ (State.put_frame _ _ _) rfl
        refine Frame.step ?_ (State.setPair_frame _ _ _ _) rfl
        exact Frame.refl _ _
      clear_value x1
      extract_lets +onlyGivenNames x2
      clear_value x2
      extract_lets +onlyGivenNames x3
      refine Frame.local x3 ?_ fun h3 => ?_
      · subst x3
        refine Frame.upd ?_ rfl
        assumption
      clear_value x3
      refine Frame.step ?_ (State.cwSend_frame _ _ _) rfl
      assumption

theorem State.endJoin_frame (s : State) (a1 : ℕ) (a2 : ℕ) (a3 : ℕ) : Frame 0x2200201 s (State.endJoin s a1 a2 a3) := by
  unfold State.endJoin
  split
  · extract_lets +onlyGivenNames x1
    clear_value x1
    extract_lets +onlyGivenNames x2
    refine Frame.local x2 ?_ fun h2 => ?_
    · subst x2
      refine Frame.upd ?_ rfl
      exact Frame.refl _ _
    clear_value x2
    split
    · refine Frame.step ?_ (State.endJob_frame _ _ _ _ _ _) rfl
      assumption
    · assumption
  · exact Frame.refl _ _

theorem State.loadLane_frame (s : State) (a1 : ImageLane) (a2 : ℕ) : Frame 0x801 s (State.loadLane s a1 a2) := by
  unfold State.loadLane
  extract_lets +onlyGivenNames x1
  clear_value x1
  extract_lets +onlyGivenNames x2
  clear_value x2
  refine Frame.step ?_ (State.restoreLane_frame _ _ _) rfl
  exact Frame.refl _ _

theorem State.loadCore_frame (s : State) (a1 : StateImage) : Frame 0x801 s (State.loadCore s a1) := by
  unfold State.loadCore
  extract_lets +onlyGivenNames x1
  refine Frame.local x1 ?_ fun h1 => ?_
  · subst x1
    refine Frame.foldl ?_ fun _ _ _ => ?_
    · exact Frame.refl _ _
    · refine Frame.step ?_ (State.loadLane_frame _ _ _) rfl
      assumption
  clear_value x1
  extract_lets +onlyGivenNames x2
  refine Frame.local x2 ?_ fun h2 => ?_
  · subst x2
    refine Frame.step ?_ (State.setPair_frame _ _ _ _) rfl
    assumption
  clear_value x2
  extract_lets +onlyGivenNames x3
  refine Frame.local x3 ?_ fun h3 => ?_
  · subst x3
    refine Frame.step ?_ (State.setPair_frame _ _ _ _) rfl
    assumption
  clear_value x3
  extract_lets +onlyGivenNames x4
  clear_value x4
  refine Frame.step ?_ (State.showQueue_frame _) rfl
  refine Frame.upd ?_ rfl
  assumption

theorem State.loadImage_frame (s : State) (a1 : StateImage) : Frame 0x3effff9 s (State.loadImage s a1) := by
  unfold State.loadImage
  extract_lets +onlyGivenNames x1
  refine Frame.local x1 ?_ fun h1 => ?_
  · subst x1
    refine Frame.step ?_ (State.put_frame _ _ _) rfl
    refine Frame.step ?_ (State.loadCore_frame _ _) rfl
    exact Frame.refl _ _
  clear_value x1
  extract_lets +onlyGivenNames x2
  refine Frame.local x2 ?_ fun h2 => ?_
  · subst x2
    refine Frame.foldl ?_ fun _ _ _ => ?_
    · assumption
    · refine Frame.step ?_ (State.setWord_frame _ _ _) rfl
      assumption
  clear_value x2
  extract_lets +onlyGivenNames x3
  refine Frame.local x3 ?_ fun h3 => ?_
  · subst x3
    refine Frame.foldl ?_ fun _ _ _ => ?_
    · assumption
    · split
      refine Frame.step ?_ (State.put_frame _ _ _) rfl
      refine Frame.step ?_ (State.setWord_frame _ _ _) rfl
      refine Frame.step ?_ (State.setPulse_frame _ _ _) rfl
      assumption
  clear_value x3
  extract_lets +onlyGivenNames x4
  refine Frame.local x4 ?_ fun h4 => ?_
  · subst x4
    refine Frame.foldl ?_ fun _ _ _ => ?_
    · assumption
    · refine Frame.step ?_ (State.setIw_frame _ _ _) rfl
      assumption
  clear_value x4
  extract_lets +onlyGivenNames x5
  refine Frame.local x5 ?_ fun h5 => ?_
  · subst x5
    refine Frame.forEach ?_ fun _ _ _ => ?_
    · assumption
    · refine Frame.step ?_ (State.put_frame _ _ _) rfl
      assumption
  clear_value x5
  extract_lets +onlyGivenNames x6
  refine Frame.local x6 ?_ fun h6 => ?_
  · subst x6
    refine Frame.forEach ?_ fun _ _ _ => ?_
    · assumption
    · refine Frame.step ?_ (State.put_frame _ _ _) rfl
      assumption
  clear_value x6
  extract_lets +onlyGivenNames x7
  refine Frame.local x7 ?_ fun h7 => ?_
  · subst x7
    refine Frame.foldl ?_ fun _ _ _ => ?_
    · assumption
    · refine Frame.step ?_ (State.setWord_frame _ _ _) rfl
      assumption
  clear_value x7
  extract_lets +onlyGivenNames x8
  refine Frame.local x8 ?_ fun h8 => ?_
  · subst x8
    refine Frame.foldl ?_ fun _ _ _ => ?_
    · assumption
    · refine Frame.step ?_ (State.setWord_frame _ _ _) rfl
      assumption
  clear_value x8
  extract_lets +onlyGivenNames x9
  refine Frame.local x9 ?_ fun h9 => ?_
  · subst x9
    refine Frame.step ?_ (State.auditAdd_frame _ _) rfl
    assumption
  clear_value x9
  extract_lets +onlyGivenNames x10
  clear_value x10
  extract_lets +onlyGivenNames x11
  clear_value x11
  extract_lets +onlyGivenNames x12
  refine Frame.local x12 ?_ fun h12 => ?_
  · subst x12
    refine Frame.upd ?_ rfl
    assumption
  clear_value x12
  refine Frame.step ?_ (State.advance_frame _) rfl
  refine Frame.step ?_ (State.modeConds_frame _) rfl
  refine Frame.step ?_ (State.laneConds_frame _) rfl
  refine Frame.step ?_ (State.put_frame _ _ _) rfl
  assumption

theorem State.stateRx_frame (s : State) (a1 : ℕ) (a2 : ℕ) (a3 : ℕ) (a4 : ℕ) (a5 : StateImage) : Frame 0x3effff9 s (State.stateRx s a1 a2 a3 a4 a5) := by
  unfold State.stateRx
  extract_lets +onlyGivenNames x1
  clear_value x1
  split
  · exact Frame.refl _ _
  · refine Frame.ite (fun _ => ?_) fun _ => ?_
    · exact Frame.refl _ _
    · extract_lets +onlyGivenNames x2
      clear_value x2
      extract_lets +onlyGivenNames x3
      clear_value x3
      extract_lets +onlyGivenNames x4
      refine Frame.local x4 ?_ fun h4 => ?_
      · subst x4
        refine Frame.upd ?_ rfl
        exact Frame.refl _ _
      clear_value x4
      extract_lets +onlyGivenNames x5
      refine Frame.local x5 ?_ fun h5 => ?_
      · subst x5
        refine Frame.step ?_ (State.cwSend_frame _ _ _) rfl
        assumption
      clear_value x5
      refine Frame.ite (fun _ => ?_) fun _ => ?_
      · assumption
      · extract_lets +onlyGivenNames x6
        clear_value x6
        extract_lets +onlyGivenNames x7
        refine Frame.local x7 ?_ fun h7 => ?_
        · subst x7
          refine Frame.upd ?_ rfl
          assumption
        clear_value x7
        refine Frame.ite (fun _ => ?_) fun _ => ?_
        · refine Frame.step ?_ (State.endJoin_frame _ _ _ _) rfl
          assumption
        · extract_lets +onlyGivenNames x8
          clear_value x8
          extract_lets +onlyGivenNames x9
          refine Frame.local x9 ?_ fun h9 => ?_
          · subst x9
            refine Frame.ite (fun _ => ?_) fun _ => ?_
            · refine Frame.upd ?_ rfl
              assumption
            · refine Frame.step ?_ (State.loadImage_frame _ _) rfl
              assumption
          clear_value x9
          refine Frame.step ?_ (State.endJoin_frame _ _ _ _) rfl
          assumption

theorem execCwStateRx_frame (a0 : CwHeader) (a1 : ℕ) (a2 : ℕ) (a3 : ℕ) (a4 : ℕ) (a5 : StateImage) (s : State) (t : State) (h : execCwStateRx a0 a1 a2 a3 a4 a5 s = .next t) : Frame 0x3effff9 s t := by
  unfold execCwStateRx at h
  refine onEngines_frame h ?_
  refine State.cwRx_frame ?_ rfl fun _ _ => ?_
  · exact Frame.refl _ _
  · refine Frame.step ?_ (State.stateRx_frame _ _ _ _ _ _) rfl
    assumption

theorem State.joinReply_frame (s : State) (a1 : CwHeader) (a2 : ℕ) (a3 : ℕ) : Frame 0x2245bc1 s (State.joinReply s a1 a2 a3) := by
  unfold State.joinReply
  split
  · exact Frame.refl _ _
  · refine Frame.ite (fun _ => ?_) fun _ => ?_
    · extract_lets +onlyGivenNames x1
      clear_value x1
      refine Frame.step ?_ (State.endJoin_frame _ _ _ _) rfl
      refine Frame.step ?_ (State.dropJoin_frame _ _) rfl
      exact Frame.refl _ _
    · extract_lets +onlyGivenNames x2
      refine Frame.local x2 ?_ fun h2 => ?_
      · subst x2
        refine Frame.step ?_ (State.put_frame _ _ _) rfl
        refine Frame.step ?_ (State.setPair_frame _ _ _ _) rfl
        exact Frame.refl _ _
      clear_value x2
      extract_lets +onlyGivenNames x3
      clear_value x3
      extract_lets +onlyGivenNames x4
      refine Frame.local x4 ?_ fun h4 => ?_
      · subst x4
        refine Frame.upd ?_ rfl
        assumption
      clear_value x4
      extract_lets +onlyGivenNames x5
      refine Frame.local x5 ?_ fun h5 => ?_
      · subst x5
        refine Frame.step ?_ (State.put_frame _ _ _) rfl
        assumption
      clear_value x5
      refine Frame.ite (fun _ => ?_) fun _ => ?_
      · assumption
      · refine Frame.step ?_ (State.setRole_frame _ _ _) rfl
        assumption

theorem execCwJoinReplyRx_frame (a0 : CwHeader) (a1 : ℕ) (a2 : ℕ) (s : State) (t : State) (h : execCwJoinReplyRx a0 a1 a2 s = .next t) : Frame 0x2245bc1 s t := by
  unfold execCwJoinReplyRx at h
  refine onEngines_frame h ?_
  refine State.cwRx_frame ?_ rfl fun _ _ => ?_
  · exact Frame.refl _ _
  · refine Frame.step ?_ (State.joinReply_frame _ _ _ _) rfl
    assumption

theorem State.demote_frame (s : State) (a1 : ℕ) : Frame 0x3effff9 s (State.demote s a1) := by
  unfold State.demote
  extract_lets +onlyGivenNames x1
  refine Frame.local x1 ?_ fun h1 => ?_
  · subst x1
    refine Frame.step ?_ (State.stopLog_frame _) rfl
    exact Frame.refl _ _
  clear_value x1
  extract_lets +onlyGivenNames x2
  clear_value x2
  extract_lets +onlyGivenNames x3
  refine Frame.local x3 ?_ fun h3 => ?_
  · subst x3
    refine Frame.upd ?_ rfl
    assumption
  clear_value x3
  refine Frame.step ?_ (State.setRole_frame _ _ _) rfl
  refine Frame.step ?_ (State.put_frame _ _ _) rfl
  assumption

theorem State.coldStart_frame (s : State) : Frame 0x2a7db81 s (State.coldStart s) := by
  unfold State.coldStart
  extract_lets +onlyGivenNames x1
  refine Frame.local x1 ?_ fun h1 => ?_
  · subst x1
    split
    · exact Frame.refl _ _
    · extract_lets +onlyGivenNames x2
      refine Frame.local x2 ?_ fun h2 => ?_
      · subst x2
        refine Frame.step ?_ (State.put_frame _ _ _) rfl
        refine Frame.step ?_ (State.put_frame _ _ _) rfl
        refine Frame.step ?_ (State.loadCore_frame _ _) rfl
        exact Frame.refl _ _
      clear_value x2
      extract_lets +onlyGivenNames x3
      extract_lets +onlyGivenNames x4
      refine Frame.local x4 ?_ fun h4 => ?_
      · subst x4
        refine Frame.upd ?_ rfl
        assumption
      clear_value x4
      extract_lets +onlyGivenNames x5
      refine Frame.local x5 ?_ fun h5 => ?_
      · subst x5
        refine Frame.step ?_ (State.restartRecords_frame _ _) rfl
        assumption
      clear_value x5
      refine Frame.forEach ?_ fun _ _ _ => ?_
      · assumption
      · refine Frame.step ?_ (State.setStreamLink_frame _ _ _) rfl
        assumption
  clear_value x1
  refine Frame.step ?_ (State.modeConds_frame _) rfl
  refine Frame.step ?_ (State.laneConds_frame _) rfl
  refine Frame.step ?_ (State.detectWarm_frame _) rfl
  refine Frame.step ?_ (State.phasorRestart_frame _ _) rfl
  refine Frame.step ?_ (State.alignRestart_frame _) rfl
  refine Frame.step ?_ (State.lanesWarm_frame _) rfl
  assumption

theorem State.closePassed_frame (a0 : ℕ) (s : State) : Frame 0x2a68381 s (State.closePassed a0 s) := by
  induction' a0 with n ih generalizing s
  · unfold State.closePassed
    exact Frame.refl _ _
  · unfold State.closePassed
    split
    · exact Frame.refl _ _
    · refine Frame.ite (fun _ => ?_) fun _ => ?_
      · refine Frame.step ?_ (ih _) rfl
        refine Frame.step ?_ (State.closeAndSend_frame _ _) rfl
        exact Frame.refl _ _
      · exact Frame.refl _ _

theorem State.promote_frame (s : State) (a1 : ℕ) (a2 : Bool) : Frame 0x3effff9 s (State.promote s a1 a2) := by
  unfold State.promote
  extract_lets +onlyGivenNames x1
  clear_value x1
  extract_lets +onlyGivenNames x2
  clear_value x2
  extract_lets +onlyGivenNames x3
  clear_value x3
  extract_lets +onlyGivenNames x4
  clear_value x4
  extract_lets +onlyGivenNames x5
  refine Frame.local x5 ?_ fun h5 => ?_
  · subst x5
    refine Frame.step ?_ (State.drain_frame _ _ _) rfl
    refine Frame.upd ?_ rfl
    exact Frame.refl _ _
  clear_value x5
  extract_lets +onlyGivenNames x6
  clear_value x6
  extract_lets +onlyGivenNames x7
  clear_value x7
  extract_lets +onlyGivenNames x8
  clear_value x8
  extract_lets +onlyGivenNames x9
  refine Frame.local x9 ?_ fun h9 => ?_
  · subst x9
    refine Frame.foldl ?_ fun _ _ _ => ?_
    · refine Frame.step ?_ (State.effectsNow_frame _) rfl
      assumption
    · refine Frame.step ?_ (State.emit_frame _ _) rfl
      assumption
  clear_value x9
  extract_lets +onlyGivenNames x10
  clear_value x10
  extract_lets +onlyGivenNames x11
  clear_value x11
  extract_lets +onlyGivenNames x12
  extract_lets +onlyGivenNames x13
  clear_value x13
  extract_lets +onlyGivenNames x14
  refine Frame.local x14 ?_ fun h14 => ?_
  · subst x14
    refine Frame.upd ?_ rfl
    assumption
  clear_value x14
  extract_lets +onlyGivenNames x15
  refine Frame.local x15 ?_ fun h15 => ?_
  · subst x15
    refine Frame.forEach ?_ fun _ _ _ => ?_
    · assumption
    · refine Frame.ite (fun _ => ?_) fun _ => ?_
      · refine Frame.step ?_ (State.setMeter_frame _ _ _) rfl
        assumption
      · assumption
  clear_value x15
  extract_lets +onlyGivenNames x16
  refine Frame.local x16 ?_ fun h16 => ?_
  · subst x16
    refine Frame.step ?_ (State.count_frame _ _) rfl
    refine Frame.step ?_ (State.put_frame _ _ _) rfl
    refine Frame.when ?_ fun _ _ => ?_
    · assumption
    · refine Frame.step ?_ (State.put_frame _ _ _) rfl
      assumption
  clear_value x16
  extract_lets +onlyGivenNames x17
  refine Frame.local x17 ?_ fun h17 => ?_
  · subst x17
    refine Frame.step ?_ (State.setRole_frame _ _ _) rfl
    assumption
  clear_value x17
  extract_lets +onlyGivenNames x18
  refine Frame.local x18 ?_ fun h18 => ?_
  · subst x18
    refine Frame.when ?_ fun _ _ => ?_
    · assumption
    · refine Frame.step ?_ (State.coldStart_frame _) rfl
      assumption
  clear_value x18
  refine Frame.step ?_ (State.closePassed_frame _ _) rfl
  assumption

theorem State.changeRole_frame (s : State) (a1 : Bool) (a2 : ℕ) : Frame 0x3effff9 s (State.changeRole s a1 a2) := by
  unfold State.changeRole
  refine Frame.ite (fun _ => ?_) fun _ => ?_
  · refine Frame.step ?_ (State.promote_frame _ _ _) rfl
    exact Frame.refl _ _
  · extract_lets +onlyGivenNames x1
    refine Frame.local x1 ?_ fun h1 => ?_
    · subst x1
      refine Frame.step ?_ (State.demote_frame _ _) rfl
      refine Frame.step ?_ (State.sendEntries_frame _ _ _) rfl
      exact Frame.refl _ _
    clear_value x1
    refine Frame.ite (fun _ => ?_) fun _ => ?_
    · refine Frame.upd ?_ rfl
      assumption
    · assumption

theorem State.promoteRx_frame (s : State) (a1 : ℕ) (a2 : ℕ) : Frame 0x3effff9 s (State.promoteRx s a1 a2) := by
  unfold State.promoteRx
  refine Frame.ite (fun _ => ?_) fun _ => ?_
  · refine Frame.ite (fun _ => ?_) fun _ => ?_
    · extract_lets +onlyGivenNames x1
      clear_value x1
      refine Frame.step ?_ (State.raise_frame _ _ _ _ _ _) rfl
      refine Frame.step ?_ (State.demote_frame _ _) rfl
      exact Frame.refl _ _
    · refine Frame.ite (fun _ => ?_) fun _ => ?_
      · refine Frame.step ?_ (State.changeRole_frame _ _ _) rfl
        exact Frame.refl _ _
      · refine Frame.upd ?_ rfl
        exact Frame.refl _ _
  · refine Frame.ite (fun _ => ?_) fun _ => ?_
    · refine Frame.ite (fun _ => ?_) fun _ => ?_
      · refine Frame.step ?_ (State.changeRole_frame _ _ _) rfl
        exact Frame.refl _ _
      · refine Frame.upd ?_ rfl
        exact Frame.refl _ _
    · exact Frame.refl _ _

theorem execCwPromoteRx_frame (a0 : CwHeader) (a1 : ℕ) (a2 : ℕ) (s : State) (t : State) (h : execCwPromoteRx a0 a1 a2 s = .next t) : Frame 0x3effff9 s t := by
  unfold execCwPromoteRx at h
  refine onEngines_frame h ?_
  refine State.cwRx_frame ?_ rfl fun _ _ => ?_
  · exact Frame.refl _ _
  · refine Frame.step ?_ (State.promoteRx_frame _ _ _) rfl
    assumption

theorem State.sendChunk_frame (s : State) (a1 : StateImage) (a2 : ℕ) : Frame 0x32001c1 s (State.sendChunk s a1 a2) := by
  unfold State.sendChunk
  refine Frame.step ?_ (State.cwSend_frame _ _ _) rfl
  refine Frame.upd ?_ rfl
  exact Frame.refl _ _

theorem State.sendImage_frame (s : State) (a1 : Stamp) : Frame 0x32001c1 s (State.sendImage s a1) := by
  unfold State.sendImage
  extract_lets +onlyGivenNames x1
  clear_value x1
  extract_lets +onlyGivenNames x2
  clear_value x2
  refine Frame.step ?_ (State.sendChunk_frame _ _ _) rfl
  refine Frame.upd ?_ rfl
  exact Frame.refl _ _

theorem State.pairLost_frame (s : State) : Frame 0x3effff9 s (State.pairLost s) := by
  unfold State.pairLost
  refine Frame.ite (fun _ => ?_) fun _ => ?_
  · refine Frame.step ?_ (State.syncLost_frame _) rfl
    exact Frame.refl _ _
  · refine Frame.ite (fun _ => ?_) fun _ => ?_
    · refine Frame.step ?_ (State.stopLog_frame _) rfl
      refine Frame.step ?_ (State.put_frame _ _ _) rfl
      exact Frame.refl _ _
    · exact Frame.refl _ _

theorem State.markWindow_frame (s : State) (a1 : ℕ) : Frame 0x800 s (State.markWindow s a1) := by
  unfold State.markWindow
  extract_lets +onlyGivenNames x1
  clear_value x1
  extract_lets +onlyGivenNames x2
  clear_value x2
  extract_lets +onlyGivenNames x3
  clear_value x3
  extract_lets +onlyGivenNames x4
  extract_lets +onlyGivenNames x5
  refine Frame.local x5 ?_ fun h5 => ?_
  · subst x5
    refine Frame.upd ?_ rfl
    exact Frame.refl _ _
  clear_value x5
  refine Frame.forEach ?_ fun _ _ _ => ?_
  · assumption
  · refine Frame.ite (fun _ => ?_) fun _ => ?_
    · assumption
    · refine Frame.step ?_ (State.setMeter_frame _ _ _) rfl
      assumption

theorem State.sendPromote_frame (s : State) (a1 : ℕ) (a2 : ℕ) : Frame 0x32001c1 s (State.sendPromote s a1 a2) := by
  unfold State.sendPromote
  refine Frame.step ?_ (State.cwSend_frame _ _ _) rfl
  exact Frame.refl _ _

theorem State.settleDivergence_frame (s : State) : Frame 0x3effff9 s (State.settleDivergence s) := by
  unfold State.settleDivergence
  split
  · extract_lets +onlyGivenNames x1
    clear_value x1
    extract_lets +onlyGivenNames x2
    clear_value x2
    extract_lets +onlyGivenNames x3
    clear_value x3
    extract_lets +onlyGivenNames x4
    clear_value x4
    extract_lets +onlyGivenNames x5
    refine Frame.local x5 ?_ fun h5 => ?_
    · subst x5
      refine Frame.when ?_ fun _ _ => ?_
      · exact Frame.refl _ _
      · refine Frame.step ?_ (State.recoverLedger_frame _) rfl
        refine Frame.step ?_ (State.raise_frame _ _ _ _ _ _) rfl
        refine Frame.step ?_ (State.markWindow_frame _ _) rfl
        assumption
    clear_value x5
    refine Frame.ite (fun _ => ?_) fun _ => ?_
    · refine Frame.step ?_ (State.pairLost_frame _) rfl
      refine Frame.step ?_ (State.raise_frame _ _ _ _ _ _) rfl
      refine Frame.upd ?_ rfl
      assumption
    · refine Frame.ite (fun _ => ?_) fun _ => ?_
      · extract_lets +onlyGivenNames x6
        clear_value x6
        extract_lets +onlyGivenNames x7
        refine Frame.local x7 ?_ fun h7 => ?_
        · subst x7
          refine Frame.upd ?_ rfl
          assumption
        clear_value x7
        refine Frame.step ?_ (State.pairLost_frame _) rfl
        refine Frame.when ?_ fun _ _ => ?_
        · assumption
        · refine Frame.step ?_ (State.raise_frame _ _ _ _ _ _) rfl
          assumption
      · refine Frame.ite (fun _ => ?_) fun _ => ?_
        · refine Frame.ite (fun _ => ?_) fun _ => ?_
          · assumption
          · refine Frame.step ?_ (State.promote_frame _ _ _) rfl
            refine Frame.step ?_ (State.sendPromote_frame _ _ _) rfl
            refine Frame.upd ?_ rfl
            assumption
        · refine Frame.step ?_ (State.pairLost_frame _) rfl
          refine Frame.step ?_ (State.raise_frame _ _ _ _ _ _) rfl
          refine Frame.upd ?_ rfl
          assumption
  · exact Frame.refl _ _

theorem State.selftest_frame (s : State) (a1 : Bool) : Frame 0x3effff9 s (State.selftest s a1) := by
  unfold State.selftest
  split
  · refine Frame.ite (fun _ => ?_) fun _ => ?_
    · exact Frame.refl _ _
    · extract_lets +onlyGivenNames x1
      clear_value x1
      extract_lets +onlyGivenNames x2
      refine Frame.local x2 ?_ fun h2 => ?_
      · subst x2
        refine Frame.upd ?_ rfl
        exact Frame.refl _ _
      clear_value x2
      refine Frame.step ?_ (State.settleDivergence_frame _) rfl
      refine Frame.step ?_ (State.count_frame _ _) rfl
      refine Frame.step ?_ (State.cwSend_frame _ _ _) rfl
      assumption
  · exact Frame.refl _ _

theorem State.pairJoin_frame (s : State) (a1 : CmdHeader) (a2 : ℕ) (a3 : ℕ) (a4 : ℕ) (a5 : ℕ) (a6 : Option Checkpoint) : Frame 0x2000201 s (State.pairJoin s a1 a2 a3 a4 a5 a6) := by
  unfold State.pairJoin
  extract_lets +onlyGivenNames x1
  clear_value x1
  refine Frame.ite (fun _ => ?_) fun _ => ?_
  · refine Frame.step ?_ (State.finish_frame _ _ _ _ _ _ _) rfl
    exact Frame.refl _ _
  · refine Frame.ite (fun _ => ?_) fun _ => ?_
    · refine Frame.step ?_ (State.startJob_frame _ _ _ _ _ _) rfl
      exact Frame.refl _ _
    · refine Frame.step ?_ (State.startJob_frame _ _ _ _ _ _) rfl
      exact Frame.refl _ _

theorem execPairJoin_frame (a0 : CmdHeader) (a1 : ℕ) (a2 : ℕ) (a3 : ℕ) (a4 : ℕ) (a5 : Option Checkpoint) (s : State) (t : State) (h : execPairJoin a0 a1 a2 a3 a4 a5 s = .next t) : Frame 0x2000201 s t := by
  unfold execPairJoin at h
  extract_lets +onlyGivenNames x1 at h
  refine onCore_frame h ?_
  refine State.command_frame ?_ rfl fun _ _ => ?_
  · exact Frame.refl _ _
  · refine Frame.step ?_ (State.pairJoin_frame _ _ _ _ _ _ _) rfl
    assumption

theorem execPairPromote_frame (a0 : CmdHeader) (s : State) (t : State) (h : execPairPromote a0 s = .next t) : Frame 0x3effff9 s t := by
  unfold execPairPromote at h
  refine onCore_frame h ?_
  refine State.command_frame ?_ rfl fun _ _ => ?_
  · exact Frame.refl _ _
  · refine Frame.ite (fun _ => ?_) fun _ => ?_
    · refine Frame.step ?_ (State.finish_frame _ _ _ _ _ _ _) rfl
      refine Frame.step ?_ (State.promote_frame _ _ _) rfl
      refine Frame.step ?_ (State.sendPromote_frame _ _ _) rfl
      assumption
    · refine Frame.step ?_ (State.finish_frame _ _ _ _ _ _ _) rfl
      assumption

theorem State.drill_frame (s : State) (a1 : CmdHeader) : Frame 0x32003c1 s (State.drill s a1) := by
  unfold State.drill
  extract_lets +onlyGivenNames x1
  clear_value x1
  refine Frame.ite (fun _ => ?_) fun _ => ?_
  · refine Frame.step ?_ (State.finish_frame _ _ _ _ _ _ _) rfl
    exact Frame.refl _ _
  · extract_lets +onlyGivenNames x2
    clear_value x2
    extract_lets +onlyGivenNames x3
    refine Frame.local x3 ?_ fun h3 => ?_
    · subst x3
      refine Frame.step ?_ (State.sendPromote_frame _ _ _) rfl
      exact Frame.refl _ _
    clear_value x3
    extract_lets +onlyGivenNames x4
    clear_value x4
    extract_lets +onlyGivenNames x5
    refine Frame.local x5 ?_ fun h5 => ?_
    · subst x5
      refine Frame.upd ?_ rfl
      assumption
    clear_value x5
    refine Frame.step ?_ (State.finish_frame _ _ _ _ _ _ _) rfl
    assumption

theorem execPairDrill_frame (a0 : CmdHeader) (s : State) (t : State) (h : execPairDrill a0 s = .next t) : Frame 0x32003c1 s t := by
  unfold execPairDrill at h
  refine onCore_frame h ?_
  refine State.command_frame ?_ rfl fun _ _ => ?_
  · exact Frame.refl _ _
  · refine Frame.step ?_ (State.drill_frame _ _) rfl
    assumption

theorem State.keepaliveRx_frame (s : State) (a1 : ℕ) (a2 : ℕ) (a3 : Stamp) : Frame 0x3effff9 s (State.keepaliveRx s a1 a2 a3) := by
  unfold State.keepaliveRx
  extract_lets +onlyGivenNames x1
  clear_value x1
  extract_lets +onlyGivenNames x2
  clear_value x2
  extract_lets +onlyGivenNames x3
  refine Frame.local x3 ?_ fun h3 => ?_
  · subst x3
    refine Frame.upd ?_ rfl
    exact Frame.refl _ _
  refine Frame.ite (fun _ => ?_) fun _ => ?_
  · refine Frame.step ?_ (State.put_frame _ _ _) rfl
    assumption
  · refine Frame.ite (fun _ => ?_) fun _ => ?_
    · extract_lets +onlyGivenNames x4
      refine Frame.local x4 ?_ fun h4 => ?_
      · subst x4
        refine Frame.step ?_ (State.raise_frame _ _ _ _ _ _) rfl
        refine Frame.step ?_ (State.put_frame _ _ _) rfl
        assumption
      clear_value x4
      refine Frame.ite (fun _ => ?_) fun _ => ?_
      · refine Frame.step ?_ (State.demote_frame _ _) rfl
        assumption
      · assumption
    · extract_lets +onlyGivenNames x5
      refine Frame.local x5 ?_ fun h5 => ?_
      · subst x5
        refine Frame.step ?_ (State.put_frame _ _ _) rfl
        refine Frame.step ?_ (State.put_frame _ _ _) rfl
        assumption
      clear_value x5
      refine Frame.ite (fun _ => ?_) fun _ => ?_
      · refine Frame.step ?_ (State.stopLog_frame _) rfl
        assumption
      · assumption

theorem execCwKeepaliveRx_frame (a0 : CwHeader) (a1 : ℕ) (a2 : ℕ) (a3 : Stamp) (s : State) (t : State) (h : execCwKeepaliveRx a0 a1 a2 a3 s = .next t) : Frame 0x3effff9 s t := by
  unfold execCwKeepaliveRx at h
  refine onEngines_frame h ?_
  refine State.cwRx_frame ?_ rfl fun _ _ => ?_
  · exact Frame.refl _ _
  · refine Frame.step ?_ (State.keepaliveRx_frame _ _ _ _) rfl
    assumption

theorem State.digestRx_frame (s : State) (a1 : ℕ) (a2 : ℕ) (a3 : List ℕ) : Frame 0x200081 s (State.digestRx s a1 a2 a3) := by
  unfold State.digestRx
  refine Frame.ite (fun _ => ?_) fun _ => ?_
  · exact Frame.refl _ _
  · refine Frame.step ?_ (State.compare_frame _) rfl
    refine Frame.upd ?_ rfl
    exact Frame.refl _ _

theorem execCwDigestRx_frame (a0 : CwHeader) (a1 : ℕ) (a2 : ℕ) (a3 : List ℕ) (s : State) (t : State) (h : execCwDigestRx a0 a1 a2 a3 s = .next t) : Frame 0x200181 s t := by
  unfold execCwDigestRx at h
  refine onEngines_frame h ?_
  refine State.cwRx_frame ?_ rfl fun _ _ => ?_
  · exact Frame.refl _ _
  · refine Frame.step ?_ (State.digestRx_frame _ _ _ _) rfl
    assumption

theorem State.ledgerNote_frame (s : State) (a1 : ℕ) (a2 : ℕ) (a3 : ℕ) : Frame 0x2200b81 s (State.ledgerNote s a1 a2 a3) := by
  unfold State.ledgerNote
  refine Frame.ite (fun _ => ?_) fun _ => ?_
  · exact Frame.refl _ _
  · refine Frame.ite (fun _ => ?_) fun _ => ?_
    · extract_lets +onlyGivenNames x1
      refine Frame.local x1 ?_ fun h1 => ?_
      · subst x1
        split
        · refine Frame.step ?_ (State.setMeter_frame _ _ _) rfl
          exact Frame.refl _ _
        · exact Frame.refl _ _
      clear_value x1
      refine Frame.step ?_ (State.showQueue_frame _) rfl
      refine Frame.upd ?_ rfl
      assumption
    · refine Frame.ite (fun _ => ?_) fun _ => ?_
      · refine Frame.step ?_ (State.freeBodies_frame _ _) rfl
        refine Frame.step ?_ (State.setPair_frame _ _ _ _) rfl
        exact Frame.refl _ _
      · exact Frame.refl _ _

theorem execCwLedgerNoteRx_frame (a0 : CwHeader) (a1 : ℕ) (a2 : ℕ) (a3 : ℕ) (s : State) (t : State) (h : execCwLedgerNoteRx a0 a1 a2 a3 s = .next t) : Frame 0x2200b81 s t := by
  unfold execCwLedgerNoteRx at h
  refine onEngines_frame h ?_
  refine State.cwRx_frame ?_ rfl fun _ _ => ?_
  · exact Frame.refl _ _
  · refine Frame.step ?_ (State.ledgerNote_frame _ _ _ _) rfl
    assumption

theorem State.cfgAgrees_frame (s : State) : Frame 0x200001 s (State.cfgAgrees s) := by
  unfold State.cfgAgrees
  extract_lets +onlyGivenNames x1
  clear_value x1
  refine Frame.step ?_ (State.put_frame _ _ _) rfl
  refine Frame.upd ?_ rfl
  exact Frame.refl _ _

theorem State.healthRx_frame (s : State) (a1 : ℕ) (a2 : ℕ) : Frame 0x3effff9 s (State.healthRx s a1 a2) := by
  unfold State.healthRx
  extract_lets +onlyGivenNames x1
  extract_lets +onlyGivenNames x2
  refine Frame.local x2 ?_ fun h2 => ?_
  · subst x2
    refine Frame.upd ?_ rfl
    exact Frame.refl _ _
  refine Frame.ite (fun _ => ?_) fun _ => ?_
  · refine Frame.upd ?_ rfl
    assumption
  · refine Frame.ite (fun _ => ?_) fun _ => ?_
    · extract_lets +onlyGivenNames x3
      refine Frame.local x3 ?_ fun h3 => ?_
      · subst x3
        refine Frame.ite (fun _ => ?_) fun _ => ?_
        · assumption
        · refine Frame.step ?_ (State.raise_frame _ _ _ _ _ _) rfl
          assumption
      clear_value x3
      refine Frame.step ?_ (State.pairLost_frame _) rfl
      refine Frame.upd ?_ rfl
      assumption
    · extract_lets +onlyGivenNames x4
      extract_lets +onlyGivenNames x5
      refine Frame.local x5 ?_ fun h5 => ?_
      · subst x5
        refine Frame.upd ?_ rfl
        assumption
      refine Frame.ite (fun _ => ?_) fun _ => ?_
      · refine Frame.step ?_ (State.cfgAgrees_frame _) rfl
        assumption
      · extract_lets +onlyGivenNames x6
        clear_value x6
        extract_lets +onlyGivenNames x7
        refine Frame.local x7 ?_ fun h7 => ?_
        · subst x7
          refine Frame.upd ?_ rfl
          assumption
        refine Frame.ite (fun _ => ?_) fun _ => ?_
        · assumption
        · refine Frame.step ?_ (State.pairLost_frame _) rfl
          refine Frame.step ?_ (State.raise_frame _ _ _ _ _ _) rfl
          refine Frame.step ?_ (State.put_frame _ _ _) rfl
          assumption

theorem execCwHealthRx_frame (a0 : CwHeader) (a1 : ℕ) (a2 : ℕ) (a3 : ℕ) (a4 : ℕ) (s : State) (t : State) (h : execCwHealthRx a0 a1 a2 a3 a4 s = .next t) : Frame 0x3effff9 s t := by
  unfold execCwHealthRx at h
  refine onEngines_frame h ?_
  refine State.cwRx_frame ?_ rfl fun _ _ => ?_
  · exact Frame.refl _ _
  · refine Frame.step ?_ (State.healthRx_frame _ _ _) rfl
    assumption

theorem State.stateAck_frame (s : State) (a1 : ℕ) (a2 : ℕ) : Frame 0x32001c1 s (State.stateAck s a1 a2) := by
  unfold State.stateAck
  split
  · refine Frame.ite (fun _ => ?_) fun _ => ?_
    · exact Frame.refl _ _
    · refine Frame.ite (fun _ => ?_) fun _ => ?_
      · refine Frame.step ?_ (State.sendChunk_frame _ _ _) rfl
        exact Frame.refl _ _
      · refine Frame.upd ?_ rfl
        exact Frame.refl _ _
  · exact Frame.refl _ _

theorem execCwStateAckRx_frame (a0 : CwHeader) (a1 : ℕ) (a2 : ℕ) (s : State) (t : State) (h : execCwStateAckRx a0 a1 a2 s = .next t) : Frame 0x32001c1 s t := by
  unfold execCwStateAckRx at h
  refine onEngines_frame h ?_
  refine State.cwRx_frame ?_ rfl fun _ _ => ?_
  · exact Frame.refl _ _
  · refine Frame.step ?_ (State.stateAck_frame _ _ _) rfl
    assumption

theorem State.divergeRx_frame (s : State) (a1 : ℕ) (a2 : ℕ) (a3 : ℕ) : Frame 0x3effff9 s (State.divergeRx s a1 a2 a3) := by
  unfold State.divergeRx
  refine Frame.ite (fun _ => ?_) fun _ => ?_
  · exact Frame.refl _ _
  · extract_lets +onlyGivenNames x1
    clear_value x1
    refine Frame.ite (fun _ => ?_) fun _ => ?_
    · exact Frame.refl _ _
    · refine Frame.step ?_ (State.settleDivergence_frame _) rfl
      refine Frame.upd ?_ rfl
      exact Frame.refl _ _

theorem execCwDivergeRx_frame (a0 : CwHeader) (a1 : ℕ) (a2 : ℕ) (a3 : ℕ) (s : State) (t : State) (h : execCwDivergeRx a0 a1 a2 a3 s = .next t) : Frame 0x3effff9 s t := by
  unfold execCwDivergeRx at h
  refine onEngines_frame h ?_
  refine State.cwRx_frame ?_ rfl fun _ _ => ?_
  · exact Frame.refl _ _
  · refine Frame.step ?_ (State.divergeRx_frame _ _ _ _) rfl
    assumption

theorem State.joinRx_frame (s : State) (a1 : CwHeader) (a2 : ℕ) (a3 : ℕ) (a4 : ℕ) : Frame 0x3effff9 s (State.joinRx s a1 a2 a3 a4) := by
  unfold State.joinRx
  refine Frame.ite (fun _ => ?_) fun _ => ?_
  · exact Frame.refl _ _
  · extract_lets +onlyGivenNames x1
    clear_value x1
    extract_lets +onlyGivenNames x2
    clear_value x2
    refine Frame.ite (fun _ => ?_) fun _ => ?_
    · refine Frame.step ?_ (State.cwSend_frame _ _ _) rfl
      exact Frame.refl _ _
    · extract_lets +onlyGivenNames x3
      refine Frame.local x3 ?_ fun h3 => ?_
      · subst x3
        refine Frame.step ?_ (State.put_frame _ _ _) rfl
        refine Frame.step ?_ (State.setPair_frame _ _ _ _) rfl
        refine Frame.step ?_ (State.stopLog_frame _) rfl
        exact Frame.refl _ _
      clear_value x3
      extract_lets +onlyGivenNames x4
      clear_value x4
      extract_lets +onlyGivenNames x5
      refine Frame.local x5 ?_ fun h5 => ?_
      · subst x5
        refine Frame.upd ?_ rfl
        assumption
      clear_value x5
      extract_lets +onlyGivenNames x6
      refine Frame.local x6 ?_ fun h6 => ?_
      · subst x6
        refine Frame.step ?_ (State.cwSend_frame _ _ _) rfl
        refine Frame.step ?_ (State.put_frame _ _ _) rfl
        assumption
      clear_value x6
      refine Frame.ite (fun _ => ?_) fun _ => ?_
      · extract_lets +onlyGivenNames x7
        clear_value x7
        extract_lets +onlyGivenNames x8
        refine Frame.local x8 ?_ fun h8 => ?_
        · subst x8
          refine Frame.upd ?_ rfl
          assumption
        clear_value x8
        refine Frame.step ?_ (State.tickNow_frame _) rfl
        refine Frame.step ?_ (State.sendImage_frame _ _) rfl
        assumption
      · refine Frame.step ?_ (State.sendImage_frame _ _) rfl
        assumption

theorem execCwJoinRx_frame (a0 : CwHeader) (a1 : ℕ) (a2 : ℕ) (a3 : ℕ) (a4 : ℕ) (s : State) (t : State) (h : execCwJoinRx a0 a1 a2 a3 a4 s = .next t) : Frame 0x3effff9 s t := by
  unfold execCwJoinRx at h
  refine onEngines_frame h ?_
  refine State.cwRx_frame ?_ rfl fun _ _ => ?_
  · exact Frame.refl _ _
  · refine Frame.step ?_ (State.joinRx_frame _ _ _ _ _) rfl
    assumption

theorem execSelftestResult_frame (a0 : Bool) (s : State) (t : State) (h : execSelftestResult a0 s = .next t) : Frame 0x3effff9 s t := by
  unfold execSelftestResult at h
  refine onEngines_frame h ?_
  refine Frame.step ?_ (State.selftest_frame _ _) rfl
  exact Frame.refl _ _

theorem State.pathCheck_frame (s : State) (a1 : ℕ) (a2 : Bool) : Frame 0x181 s (State.pathCheck s a1 a2) := by
  unfold State.pathCheck
  refine Frame.ite (fun _ => ?_) fun _ => ?_
  · exact Frame.refl _ _
  · refine Frame.ite (fun _ => ?_) fun _ => ?_
    · refine Frame.step ?_ (State.put_frame _ _ _) rfl
      exact Frame.refl _ _
    · refine Frame.step ?_ (State.raise_frame _ _ _ _ _ _) rfl
      refine Frame.step ?_ (State.put_frame _ _ _) rfl
      exact Frame.refl _ _

theorem execPathCheck_frame (a0 : ℕ) (a1 : Bool) (s : State) (t : State) (h : execPathCheck a0 a1 s = .next t) : Frame 0x181 s t := by
  unfold execPathCheck at h
  refine onEngines_frame h ?_
  refine Frame.step ?_ (State.pathCheck_frame _ _ _) rfl
  exact Frame.refl _ _

theorem State.partnerSilent_frame (s : State) : Frame 0x3effff9 s (State.partnerSilent s) := by
  unfold State.partnerSilent
  extract_lets +onlyGivenNames x1
  clear_value x1
  refine Frame.ite (fun _ => ?_) fun _ => ?_
  · exact Frame.refl _ _
  · extract_lets +onlyGivenNames x2
    refine Frame.local x2 ?_ fun h2 => ?_
    · subst x2
      refine Frame.step ?_ (State.put_frame _ _ _) rfl
      exact Frame.refl _ _
    clear_value x2
    refine Frame.ite (fun _ => ?_) fun _ => ?_
    · refine Frame.step ?_ (State.stopLog_frame _) rfl
      refine Frame.step ?_ (State.raise_frame _ _ _ _ _ _) rfl
      assumption
    · refine Frame.ite (fun _ => ?_) fun _ => ?_
      · refine Frame.step ?_ (State.promote_frame _ _ _) rfl
        assumption
      · assumption

theorem execPartnerSilence_frame (s : State) (t : State) (h : execPartnerSilence s = .next t) : Frame 0x3effff9 s t := by
  unfold execPartnerSilence at h
  refine onEngines_frame h ?_
  refine Frame.step ?_ (State.partnerSilent_frame _) rfl
  exact Frame.refl _ _

theorem State.promoteEffect_frame (s : State) : Frame 0x3effff9 s (State.promoteEffect s) := by
  unfold State.promoteEffect
  split
  · exact Frame.refl _ _
  · refine Frame.ite (fun _ => ?_) fun _ => ?_
    · exact Frame.refl _ _
    · extract_lets +onlyGivenNames x1
      clear_value x1
      extract_lets +onlyGivenNames x2
      refine Frame.local x2 ?_ fun h2 => ?_
      · subst x2
        refine Frame.upd ?_ rfl
        exact Frame.refl _ _
      refine Frame.ite (fun _ => ?_) fun _ => ?_
      · refine Frame.step ?_ (State.changeRole_frame _ _ _) rfl
        assumption
      · assumption

theorem execPromoteEffect_frame (s : State) (t : State) (h : execPromoteEffect s = .next t) : Frame 0x3effff9 s t := by
  unfold execPromoteEffect at h
  refine onEngines_frame h ?_
  refine Frame.step ?_ (State.promoteEffect_frame _) rfl
  exact Frame.refl _ _

theorem State.digestSend_frame (s : State) : Frame 0x32001c1 s (State.digestSend s) := by
  unfold State.digestSend
  extract_lets +onlyGivenNames x1
  clear_value x1
  refine Frame.ite (fun _ => ?_) fun _ => ?_
  · exact Frame.refl _ _
  · extract_lets +onlyGivenNames x2
    clear_value x2
    extract_lets +onlyGivenNames x3
    clear_value x3
    extract_lets +onlyGivenNames x4
    clear_value x4
    extract_lets +onlyGivenNames x5
    refine Frame.local x5 ?_ fun h5 => ?_
    · subst x5
      refine Frame.upd ?_ rfl
      exact Frame.refl _ _
    clear_value x5
    extract_lets +onlyGivenNames x6
    refine Frame.local x6 ?_ fun h6 => ?_
    · subst x6
      refine Frame.step ?_ (State.deviceMet_frame _ _ _) rfl
      assumption
    clear_value x6
    refine Frame.step ?_ (State.compare_frame _) rfl
    refine Frame.step ?_ (State.cwSend_frame _ _ _) rfl
    assumption

theorem execDigestSend_frame (s : State) (t : State) (h : execDigestSend s = .next t) : Frame 0x32001c1 s t := by
  unfold execDigestSend at h
  refine onEngines_frame h ?_
  refine Frame.step ?_ (State.digestSend_frame _) rfl
  exact Frame.refl _ _

theorem State.digestMissing_frame (s : State) : Frame 0x200081 s (State.digestMissing s) := by
  unfold State.digestMissing
  split
  · exact Frame.refl _ _
  · refine Frame.ite (fun _ => ?_) fun _ => ?_
    · exact Frame.refl _ _
    · refine Frame.step ?_ (State.count_frame _ _) rfl
      refine Frame.upd ?_ rfl
      exact Frame.refl _ _

theorem execDigestMissing_frame (s : State) (t : State) (h : execDigestMissing s = .next t) : Frame 0x200081 s t := by
  unfold execDigestMissing at h
  refine onEngines_frame h ?_
  refine Frame.step ?_ (State.digestMissing_frame _) rfl
  exact Frame.refl _ _

theorem State.cfgCompare_frame (s : State) : Frame 0x200001 s (State.cfgCompare s) := by
  unfold State.cfgCompare
  split
  · exact Frame.refl _ _
  · refine Frame.ite (fun _ => ?_) fun _ => ?_
    · exact Frame.refl _ _
    · refine Frame.ite (fun _ => ?_) fun _ => ?_
      · refine Frame.step ?_ (State.cfgAgrees_frame _) rfl
        exact Frame.refl _ _
      · refine Frame.upd ?_ rfl
        exact Frame.refl _ _

theorem State.healthTx_frame (s : State) : Frame 0x3a001c1 s (State.healthTx s) := by
  unfold State.healthTx
  refine Frame.ite (fun _ => ?_) fun _ => ?_
  · exact Frame.refl _ _
  · extract_lets +onlyGivenNames x1
    clear_value x1
    extract_lets +onlyGivenNames x2
    clear_value x2
    extract_lets +onlyGivenNames x3
    clear_value x3
    extract_lets +onlyGivenNames x4
    refine Frame.local x4 ?_ fun h4 => ?_
    · subst x4
      refine Frame.upd ?_ rfl
      exact Frame.refl _ _
    clear_value x4
    refine Frame.step ?_ (State.cfgCompare_frame _) rfl
    refine Frame.step ?_ (State.cwSend_frame _ _ _) rfl
    assumption

theorem execHealthTx_frame (s : State) (t : State) (h : execHealthTx s = .next t) : Frame 0x3a001c1 s t := by
  unfold execHealthTx at h
  refine onEngines_frame h ?_
  refine Frame.step ?_ (State.healthTx_frame _) rfl
  exact Frame.refl _ _

theorem State.checkpointTx_frame (s : State) : Frame 0x32001c1 s (State.checkpointTx s) := by
  unfold State.checkpointTx
  refine Frame.ite (fun _ => ?_) fun _ => ?_
  · refine Frame.step ?_ (State.sendImage_frame _ _) rfl
    refine Frame.upd ?_ rfl
    exact Frame.refl _ _
  · exact Frame.refl _ _

theorem execCheckpointTx_frame (s : State) (t : State) (h : execCheckpointTx s = .next t) : Frame 0x32001c1 s t := by
  unfold execCheckpointTx at h
  refine onEngines_frame h ?_
  refine Frame.step ?_ (State.checkpointTx_frame _) rfl
  exact Frame.refl _ _

theorem State.digestLate_frame (s : State) : Frame 0x200181 s (State.digestLate s) := by
  unfold State.digestLate
  extract_lets +onlyGivenNames x1
  clear_value x1
  refine Frame.ite (fun _ => ?_) fun _ => ?_
  · exact Frame.refl _ _
  · refine Frame.step ?_ (State.deviceMiss_frame _ _) rfl
    refine Frame.step ?_ (State.count_frame _ _) rfl
    refine Frame.upd ?_ rfl
    exact Frame.refl _ _

theorem execDigestLate_frame (s : State) (t : State) (h : execDigestLate s = .next t) : Frame 0x200181 s t := by
  unfold execDigestLate at h
  refine onEngines_frame h ?_
  refine Frame.step ?_ (State.digestLate_frame _) rfl
  exact Frame.refl _ _

end Sys2Proof.Machine
end

