-- ==== Sys2Proof/Laws/FrameResets.lean ====
section
/-!
SUPPORT. What each operation of Machine/Resets.lean can change: one lemma an operation, with the mask of the parts of the state it
may touch (the bits are listed in Laws/Frame.lean).
-/

set_option linter.unusedVariables false
set_option Elab.async false

namespace Sys2Proof.Machine

theorem State.coldRegs_wf (s : State) (cls : ResetClass) : Store.wf resetWord (s.coldRegs cls) = true := by
  have key : ∀ (l : Store Word) (a : Store Word), Store.wf resetWord a = true →
      Store.wf resetWord (l.foldl (fun a e =>
        if e.1 = HI_STATUS then a
        else if cls.covers (resetClassOf e.1) then Store.set resetWord a e.1 (coldWord e.1 e.2)
        else Store.set resetWord a e.1 e.2) a) = true := by
    intro l
    induction l with
    | nil => exact fun _ h => h
    | cons e l ih =>
      intro a h
      rw [List.foldl_cons]
      refine ih _ ?_
      by_cases h1 : e.1 = HI_STATUS
      · rw [if_pos h1]; exact h
      · rw [if_neg h1]
        by_cases h2 : cls.covers (resetClassOf e.1) = true
        · rw [if_pos h2]; exact Store.set_wf _ _ h
        · rw [if_neg h2]; exact Store.set_wf _ _ h
  exact key _ _ rfl

theorem State.coldReset_frame (s : State) (cls : ResetClass) (held : Bool) : Frame 0x6ffffff s (s.coldReset cls held) :=
  ⟨fun c => by
    simp only [State.canonical, Bool.and_eq_true] at *
    exact ⟨s.coldRegs_wf cls, Store.filter_wf _ c.2⟩, rfl, rfl, List.prefix_rfl, fun h => absurd h (by decide)⟩

theorem State.applyConfig_frame (s : State) (a1 : StoredConfig) : Frame 0x3affff9 s (State.applyConfig s a1) := by
  unfold State.applyConfig
  extract_lets +onlyGivenNames x1
  extract_lets +onlyGivenNames x2
  extract_lets +onlyGivenNames x3
  extract_lets +onlyGivenNames x4
  extract_lets +onlyGivenNames x5
  extract_lets +onlyGivenNames x6
  refine Frame.step ?_ (State.auditSet_frame _ _ _) rfl
  subst x6
  simp only [x1]
  refine Frame.foldlFst ?_ fun _ _ hu => State.loadInOrder_frame rfl _ _ _ hu
  dsimp -zeta only
  refine Frame.step ?_ (State.loadTables_frame _ _ _) rfl
  refine Frame.step ?_ (State.loadDisabled_frame _ _) rfl
  subst x5
  simp only [x1]
  refine Frame.foldlFst ?_ fun _ _ hu => State.loadInOrder_frame rfl _ _ _ hu
  dsimp -zeta only
  refine Frame.step ?_ (State.loadTables_frame _ _ _) rfl
  refine Frame.step ?_ (State.loadDisabled_frame _ _) rfl
  subst x4
  simp only [x1]
  refine Frame.foldlFst ?_ fun _ _ hu => State.loadInOrder_frame rfl _ _ _ hu
  dsimp -zeta only
  refine Frame.step ?_ (State.loadTables_frame _ _ _) rfl
  subst x3
  simp only [x1]
  refine Frame.foldlFst ?_ fun _ _ hu => State.loadInOrder_frame rfl _ _ _ hu
  dsimp -zeta only
  refine Frame.step ?_ (State.loadDisabled_frame _ _) rfl
  subst x2
  simp only [x1]
  refine Frame.foldlFst ?_ fun _ _ hu => State.loadInOrder_frame rfl _ _ _ hu
  dsimp -zeta only
  exact Frame.refl _ _

end Sys2Proof.Machine
end

