-- ==== Sys2Proof/Laws/FrameFirmware.lean ====
section
/-!
SUPPORT. What each operation of Machine/Firmware.lean can change: one lemma an operation, with the mask of the parts of the state it
may touch (the bits are listed in Laws/Frame.lean).
-/

set_option linter.unusedVariables false
set_option Elab.async false

namespace Sys2Proof.Machine

theorem State.restartThreads_frame (s : State) (a1 : Bool) : Frame 0x181 s (State.restartThreads s a1) := by
  unfold State.restartThreads
  extract_lets +onlyGivenNames x1
  clear_value x1
  extract_lets +onlyGivenNames x2
  clear_value x2
  extract_lets +onlyGivenNames x3
  refine Frame.local x3 ?_ fun h3 => ?_
  · subst x3
    refine Frame.upd ?_ rfl
    exact Frame.refl _ _
  clear_value x3
  extract_lets +onlyGivenNames x4
  clear_value x4
  extract_lets +onlyGivenNames x5
  refine Frame.local x5 ?_ fun h5 => ?_
  · subst x5
    refine Frame.forEach ?_ fun _ _ _ => ?_
    · assumption
    · refine Frame.step ?_ (State.put_frame _ _ _) rfl
      refine Frame.step ?_ (State.put_frame _ _ _) rfl
      refine Frame.step ?_ (State.put_frame _ _ _) rfl
      assumption
  clear_value x5
  refine Frame.forEach ?_ fun _ _ _ => ?_
  · assumption
  · extract_lets +onlyGivenNames x6
    clear_value x6
    refine Frame.ite (fun _ => ?_) fun _ => ?_
    · refine Frame.step ?_ (State.makeReady_frame _ _) rfl
      assumption
    · assumption

theorem State.startFirmware_frame (s : State) (a1 : ℕ) : Frame 0x181 s (State.startFirmware s a1) := by
  unfold State.startFirmware
  extract_lets +onlyGivenNames x1
  refine Frame.local x1 ?_ fun h1 => ?_
  · subst x1
    refine Frame.step ?_ (State.restartThreads_frame _ _) rfl
    refine Frame.step ?_ (State.put_frame _ _ _) rfl
    refine Frame.step ?_ (State.setWord_frame _ _ _) rfl
    exact Frame.refl _ _
  clear_value x1
  refine Frame.forEach ?_ fun _ _ _ => ?_
  · assumption
  · refine Frame.step ?_ (State.put_frame _ _ _) rfl
    refine Frame.step ?_ (State.put_frame _ _ _) rfl
    assumption

theorem State.refreshEnd_frame (s : State) (a1 : ℕ) : Frame 0x400181 s (State.refreshEnd s a1) := by
  unfold State.refreshEnd
  split
  · refine Frame.step ?_ (State.raise_frame _ _ _ _ _ _) rfl
    extract_lets +onlyGivenNames x1
    refine Frame.local x1 ?_ fun h1 => ?_
    · subst x1
      refine Frame.step ?_ (State.countN_frame _ _ _) rfl
      exact Frame.refl _ _
    clear_value x1
    refine Frame.upd ?_ rfl
    assumption
  · exact Frame.refl _ _

theorem execRefreshPassed_frame (a0 : ℕ) (s : State) (t : State) (h : execRefreshPassed a0 s = .next t) : Frame 0x400181 s t := by
  unfold execRefreshPassed at h
  refine onCore_frame h ?_
  refine Frame.step ?_ (State.refreshEnd_frame _ _) rfl
  exact Frame.refl _ _

theorem State.showRelay_frame (s : State) : Frame 0x1 s (State.showRelay s) := by
  unfold State.showRelay
  extract_lets +onlyGivenNames x1
  extract_lets +onlyGivenNames x2
  clear_value x2
  refine Frame.step ?_ (State.put_frame _ _ _) rfl
  exact Frame.refl _ _

theorem State.endStage_frame (s : State) (a1 : StageRun) (a2 : ℕ) (a3 : ℕ) (a4 : ℕ) : Frame 0x2000201 s (State.endStage s a1 a2 a3 a4) := by
  unfold State.endStage
  split
  · exact Frame.refl _ _
  · split
    · refine Frame.step ?_ (State.endJob_frame _ _ _ _ _ _) rfl
      exact Frame.refl _ _
    · refine Frame.step ?_ (State.complete_frame _ _) rfl
      exact Frame.refl _ _

theorem State.relayOut_frame (s : State) (a1 : Bool) (a2 : Bool) (a3 : ℕ) (a4 : ℕ) (a5 : ℕ) (a6 : List Byte) : Frame 0x32001e1 s (State.relayOut s a1 a2 a3 a4 a5 a6) := by
  unfold State.relayOut
  extract_lets +onlyGivenNames x1
  clear_value x1
  refine Frame.ite (fun _ => ?_) fun _ => ?_
  · refine Frame.step ?_ (State.cwSend_frame _ _ _) rfl
    exact Frame.refl _ _
  · extract_lets +onlyGivenNames x2
    clear_value x2
    extract_lets +onlyGivenNames x3
    clear_value x3
    refine Frame.step ?_ (State.txSend_frame _ _ _ _) rfl
    refine Frame.step ?_ (State.emit_frame _ _) rfl
    exact Frame.refl _ _

theorem State.relayResult_frame (s : State) (a1 : Bool) (a2 : ℕ) (a3 : ℕ) : Frame 0x32001e1 s (State.relayResult s a1 a2 a3) := by
  unfold State.relayResult
  refine Frame.step ?_ (State.relayOut_frame _ _ _ _ _ _ _) rfl
  exact Frame.refl _ _

theorem State.rejectImage_frame (s : State) (a1 : StageRun) (a2 : ℕ) (a3 : ℕ) : Frame 0x36003e1 s (State.rejectImage s a1 a2 a3) := by
  unfold State.rejectImage
  extract_lets +onlyGivenNames x1
  clear_value x1
  extract_lets +onlyGivenNames x2
  refine Frame.local x2 ?_ fun h2 => ?_
  · subst x2
    refine Frame.upd ?_ rfl
    exact Frame.refl _ _
  clear_value x2
  extract_lets +onlyGivenNames x3
  refine Frame.local x3 ?_ fun h3 => ?_
  · subst x3
    refine Frame.when ?_ fun _ _ => ?_
    · assumption
    · refine Frame.step ?_ (State.raise_frame _ _ _ _ _ _) rfl
      refine Frame.step ?_ (State.count_frame _ _) rfl
      assumption
  clear_value x3
  refine Frame.step ?_ (State.showRelay_frame _) rfl
  split
  · refine Frame.step ?_ (State.endStage_frame _ _ _ _ _) rfl
    assumption
  · refine Frame.step ?_ (State.relayResult_frame _ _ _ _) rfl
    assumption

theorem State.relaySendArm_frame (s : State) (a1 : RelaySend) (a2 : ℕ) : Frame 0x32001e1 s (State.relaySendArm s a1 a2) := by
  unfold State.relaySendArm
  refine Frame.step ?_ (State.relayOut_frame _ _ _ _ _ _ _) rfl
  exact Frame.refl _ _

theorem State.giveUp_frame (s : State) : Frame 0x36001e1 s (State.giveUp s) := by
  unfold State.giveUp
  extract_lets +onlyGivenNames x1
  clear_value x1
  extract_lets +onlyGivenNames x2
  clear_value x2
  extract_lets +onlyGivenNames x3
  refine Frame.local x3 ?_ fun h3 => ?_
  · subst x3
    split
    · refine Frame.ite (fun _ => ?_) fun _ => ?_
      · refine Frame.step ?_ (State.count_frame _ _) rfl
        refine Frame.step ?_ (State.relayOut_frame _ _ _ _ _ _ _) rfl
        refine Frame.upd ?_ rfl
        exact Frame.refl _ _
      · exact Frame.refl _ _
    · exact Frame.refl _ _
  clear_value x3
  refine Frame.step ?_ (State.showRelay_frame _) rfl
  refine Frame.foldl ?_ fun _ _ _ => ?_
  · assumption
  · refine Frame.ite (fun _ => ?_) fun _ => ?_
    · assumption
    · refine Frame.step ?_ (State.count_frame _ _) rfl
      refine Frame.step ?_ (State.relayOut_frame _ _ _ _ _ _ _) rfl
      refine Frame.upd ?_ rfl
      assumption

theorem execRelayGiveUp_frame (s : State) (t : State) (h : execRelayGiveUp s = .next t) : Frame 0x36001e1 s t := by
  unfold execRelayGiveUp at h
  refine onEngines_frame h ?_
  refine Frame.step ?_ (State.giveUp_frame _) rfl
  exact Frame.refl _ _

theorem State.relayAborted_frame (s : State) (a1 : Bool) (a2 : RelayHeader) (a3 : ℕ) : Frame 0x400001 s (State.relayAborted s a1 a2 a3) := by
  unfold State.relayAborted
  refine Frame.ite (fun _ => ?_) fun _ => ?_
  · refine Frame.step ?_ (State.showRelay_frame _) rfl
    refine Frame.upd ?_ rfl
    exact Frame.refl _ _
  · split
    · refine Frame.ite (fun _ => ?_) fun _ => ?_
      · refine Frame.step ?_ (State.showRelay_frame _) rfl
        refine Frame.upd ?_ rfl
        exact Frame.refl _ _
      · exact Frame.refl _ _
    · exact Frame.refl _ _

theorem State.relaySendChunk_frame (s : State) (a1 : RelaySend) (a2 : ℕ) : Frame 0x32001e1 s (State.relaySendChunk s a1 a2) := by
  unfold State.relaySendChunk
  refine Frame.step ?_ (State.relayOut_frame _ _ _ _ _ _ _) rfl
  exact Frame.refl _ _

theorem State.relayFill_frame (s : State) (a1 : ℕ) (a2 : RelaySend) : Frame 0x32001e1 s (State.relayFill s a1 a2).1 := by
  induction' a1 with n ih generalizing s a2
  · unfold State.relayFill
    dsimp -zeta only
    exact Frame.refl _ _
  · unfold State.relayFill
    refine Frame.iteFst (fun _ => ?_) fun _ => ?_
    · dsimp -zeta only
      exact Frame.refl _ _
    · refine Frame.step ?_ (ih _ _) rfl
      refine Frame.step ?_ (State.relaySendChunk_frame _ _ _) rfl
      exact Frame.refl _ _

theorem State.setSend_frame (s : State) (a1 : RelaySend) : Frame 0x400000 s (State.setSend s a1) := by
  unfold State.setSend
  refine Frame.upd ?_ rfl
  exact Frame.refl _ _

theorem State.relayAcked_frame (s : State) (a1 : Bool) (a2 : RelayHeader) (a3 : ℕ) (a4 : ℕ) : Frame 0x36001e1 s (State.relayAcked s a1 a2 a3 a4) := by
  unfold State.relayAcked
  split
  · exact Frame.refl _ _
  · extract_lets +onlyGivenNames x1
    clear_value x1
    extract_lets +onlyGivenNames x2
    clear_value x2
    split
    refine Frame.step ?_ (State.setSend_frame _ _) rfl
    refine Frame.step ?_ (Frame.ofFst ‹State.relayFill _ _ _ = _› (State.relayFill_frame _ _ _)) rfl
    exact Frame.refl _ _

theorem State.fwConfirm_frame (s : State) (a1 : CmdHeader) : Frame 0x2400201 s (State.fwConfirm s a1) := by
  unfold State.fwConfirm
  refine Frame.ite (fun _ => ?_) fun _ => ?_
  · refine Frame.step ?_ (State.finish_frame _ _ _ _ _ _ _) rfl
    exact Frame.refl _ _
  · extract_lets +onlyGivenNames x1
    clear_value x1
    extract_lets +onlyGivenNames x2
    refine Frame.local x2 ?_ fun h2 => ?_
    · subst x2
      refine Frame.when ?_ fun _ _ => ?_
      · exact Frame.refl _ _
      · refine Frame.step ?_ (State.setWord_frame _ _ _) rfl
        assumption
    clear_value x2
    extract_lets +onlyGivenNames x3
    clear_value x3
    extract_lets +onlyGivenNames x4
    refine Frame.local x4 ?_ fun h4 => ?_
    · subst x4
      refine Frame.upd ?_ rfl
      assumption
    clear_value x4
    refine Frame.step ?_ (State.finish_frame _ _ _ _ _ _ _) rfl
    refine Frame.step ?_ (State.put_frame _ _ _) rfl
    refine Frame.step ?_ (State.put_frame _ _ _) rfl
    assumption

theorem State.relayAck_frame (s : State) : Frame 0x36001e1 s (State.relayAck s) := by
  unfold State.relayAck
  split
  · exact Frame.refl _ _
  · extract_lets +onlyGivenNames x1
    clear_value x1
    extract_lets +onlyGivenNames x2
    refine Frame.local x2 ?_ fun h2 => ?_
    · subst x2
      refine Frame.upd ?_ rfl
      exact Frame.refl _ _
    clear_value x2
    refine Frame.step ?_ (State.relayOut_frame _ _ _ _ _ _ _) rfl
    assumption

theorem State.ackTimer_frame (s : State) : Frame 0x36001e1 s (State.ackTimer s) := by
  unfold State.ackTimer
  split
  · refine Frame.ite (fun _ => ?_) fun _ => ?_
    · exact Frame.refl _ _
    · refine Frame.step ?_ (State.relayAck_frame _) rfl
      exact Frame.refl _ _
  · exact Frame.refl _ _

theorem execRelayAckTimer_frame (s : State) (t : State) (h : execRelayAckTimer s = .next t) : Frame 0x36001e1 s t := by
  unfold execRelayAckTimer at h
  refine onEngines_frame h ?_
  refine Frame.step ?_ (State.ackTimer_frame _) rfl
  exact Frame.refl _ _

theorem State.startCustomer_frame (s : State) : Frame 0x181 s (State.startCustomer s) := by
  unfold State.startCustomer
  extract_lets +onlyGivenNames x1
  clear_value x1
  extract_lets +onlyGivenNames x2
  clear_value x2
  extract_lets +onlyGivenNames x3
  clear_value x3
  extract_lets +onlyGivenNames x4
  refine Frame.local x4 ?_ fun h4 => ?_
  · subst x4
    refine Frame.step ?_ (State.restartThreads_frame _ _) rfl
    refine Frame.upd ?_ rfl
    exact Frame.refl _ _
  clear_value x4
  refine Frame.forEach ?_ fun _ _ _ => ?_
  · assumption
  · extract_lets +onlyGivenNames x5
    clear_value x5
    refine Frame.step ?_ (State.put_frame _ _ _) rfl
    refine Frame.step ?_ (State.put_frame _ _ _) rfl
    assumption

theorem State.auditActivation_frame (s : State) (a1 : ℕ) (a2 : ℕ) : Frame 0x801 s (State.auditActivation s a1 a2) := by
  unfold State.auditActivation
  refine Frame.step ?_ (State.auditAdd_frame _ _) rfl
  exact Frame.refl _ _

theorem State.toProvisional_frame (s : State) (a1 : Image) (a2 : ℕ) : Frame 0x400981 s (State.toProvisional s a1 a2) := by
  unfold State.toProvisional
  extract_lets +onlyGivenNames x1
  refine Frame.local x1 ?_ fun h1 => ?_
  · subst x1
    refine Frame.step ?_ (State.auditActivation_frame _ _ _) rfl
    refine Frame.step ?_ (State.put_frame _ _ _) rfl
    exact Frame.refl _ _
  clear_value x1
  extract_lets +onlyGivenNames x2
  clear_value x2
  extract_lets +onlyGivenNames x3
  refine Frame.local x3 ?_ fun h3 => ?_
  · subst x3
    refine Frame.upd ?_ rfl
    assumption
  clear_value x3
  refine Frame.step ?_ (State.fire_frame _ _) rfl
  refine Frame.step ?_ (State.raise_frame _ _ _ _ _ _) rfl
  assumption

theorem State.activateCustomer_frame (s : State) (a1 : Image) : Frame 0x400981 s (State.activateCustomer s a1) := by
  unfold State.activateCustomer
  extract_lets +onlyGivenNames x1
  clear_value x1
  extract_lets +onlyGivenNames x2
  clear_value x2
  extract_lets +onlyGivenNames x3
  refine Frame.local x3 ?_ fun h3 => ?_
  · subst x3
    refine Frame.upd ?_ rfl
    exact Frame.refl _ _
  clear_value x3
  refine Frame.step ?_ (State.startCustomer_frame _) rfl
  refine Frame.step ?_ (State.setWord_frame _ _ _) rfl
  refine Frame.step ?_ (State.toProvisional_frame _ _ _) rfl
  assumption

theorem State.relayArm_frame (s : State) (a1 : ℕ) : Frame 0x32001e1 s (State.relayArm s a1) := by
  unfold State.relayArm
  split
  · exact Frame.refl _ _
  · refine Frame.foldl ?_ fun _ _ _ => ?_
    · exact Frame.refl _ _
    · refine Frame.step ?_ (State.relaySendArm_frame _ _ _) rfl
      assumption

theorem State.armKick_frame (s : State) (a1 : ℕ) : Frame 0x32001e1 s (State.armKick s a1) := by
  unfold State.armKick
  extract_lets +onlyGivenNames x1
  clear_value x1
  extract_lets +onlyGivenNames x2
  refine Frame.local x2 ?_ fun h2 => ?_
  · subst x2
    refine Frame.step ?_ (State.setWord_frame _ _ _) rfl
    refine Frame.step ?_ (State.setWord_frame _ _ _) rfl
    refine Frame.step ?_ (State.setWord_frame _ _ _) rfl
    exact Frame.refl _ _
  clear_value x2
  refine Frame.step ?_ (State.relayArm_frame _ _) rfl
  refine Frame.step ?_ (State.put_frame _ _ _) rfl
  refine Frame.step ?_ (State.put_frame _ _ _) rfl
  assumption

theorem State.fwArm_frame (s : State) (a1 : CmdHeader) (a2 : ℕ) : Frame 0x32003e1 s (State.fwArm s a1 a2) := by
  unfold State.fwArm
  refine Frame.ite (fun _ => ?_) fun _ => ?_
  · refine Frame.step ?_ (State.finish_frame _ _ _ _ _ _ _) rfl
    exact Frame.refl _ _
  · refine Frame.ite (fun _ => ?_) fun _ => ?_
    · refine Frame.step ?_ (State.finish_frame _ _ _ _ _ _ _) rfl
      exact Frame.refl _ _
    · refine Frame.ite (fun _ => ?_) fun _ => ?_
      · refine Frame.step ?_ (State.finish_frame _ _ _ _ _ _ _) rfl
        exact Frame.refl _ _
      · refine Frame.step ?_ (State.finish_frame _ _ _ _ _ _ _) rfl
        refine Frame.step ?_ (State.armKick_frame _ _) rfl
        exact Frame.refl _ _

theorem execFwArm_frame (a0 : CmdHeader) (a1 : ℕ) (s : State) (t : State) (h : execFwArm a0 a1 s = .next t) : Frame 0x32003e1 s t := by
  unfold execFwArm at h
  refine onCore_frame h ?_
  refine State.command_frame ?_ rfl fun _ _ => ?_
  · exact Frame.refl _ _
  · refine Frame.step ?_ (State.fwArm_frame _ _ _) rfl
    assumption

theorem State.serviceOn_frame (s : State) : Frame 0x400181 s (State.serviceOn s) := by
  unfold State.serviceOn
  extract_lets +onlyGivenNames x1
  clear_value x1
  extract_lets +onlyGivenNames x2
  refine Frame.local x2 ?_ fun h2 => ?_
  · subst x2
    refine Frame.when ?_ fun _ _ => ?_
    · exact Frame.refl _ _
    · refine Frame.step ?_ (State.put_frame _ _ _) rfl
      assumption
  clear_value x2
  extract_lets +onlyGivenNames x3
  refine Frame.local x3 ?_ fun h3 => ?_
  · subst x3
    refine Frame.when ?_ fun _ _ => ?_
    · assumption
    · refine Frame.step ?_ (State.fire_frame _ _) rfl
      refine Frame.step ?_ (State.put_frame _ _ _) rfl
      assumption
  clear_value x3
  refine Frame.upd ?_ rfl
  assumption

theorem State.switchOver_frame (s : State) : Frame 0x408381 s (State.switchOver s) := by
  unfold State.switchOver
  extract_lets +onlyGivenNames x1
  refine Frame.local x1 ?_ fun h1 => ?_
  · subst x1
    refine Frame.step ?_ (State.serviceOn_frame _) rfl
    refine Frame.step ?_ (State.put_frame _ _ _) rfl
    exact Frame.refl _ _
  clear_value x1
  extract_lets +onlyGivenNames x2
  clear_value x2
  extract_lets +onlyGivenNames x3
  clear_value x3
  extract_lets +onlyGivenNames x4
  clear_value x4
  extract_lets +onlyGivenNames x5
  clear_value x5
  extract_lets +onlyGivenNames x6
  refine Frame.local x6 ?_ fun h6 => ?_
  · subst x6
    refine Frame.upd ?_ rfl
    assumption
  clear_value x6
  refine Frame.foldl ?_ fun _ _ _ => ?_
  · assumption
  · refine Frame.step ?_ (State.cfgCheck_frame _ _) rfl
    assumption

theorem execActivationEnd_frame (s : State) (t : State) (h : execActivationEnd s = .next t) : Frame 0x408381 s t := by
  unfold execActivationEnd at h
  refine onCore_frame h ?_
  refine Frame.ite (fun _ => ?_) fun _ => ?_
  · refine Frame.step ?_ (State.switchOver_frame _) rfl
    exact Frame.refl _ _
  · exact Frame.refl _ _

theorem State.relayRx_frame {M : Nat} {s t : State} {causeway : Bool} {r : RelayHeader} {fromSender : Bool} {run : State → State}
    (h : Frame M s t) (hm : 0x81 &&& M = 0x81) (hr : ∀ u, Frame M s u → Frame M s (run u)) :
    Frame M s (t.relayRx causeway r fromSender run) := by
  unfold State.relayRx
  extract_lets admitted
  refine Frame.ite (fun _ => h) fun _ => Frame.ite (fun _ => ?_) fun _ => hr _ h
  exact h.step ((State.count_frame _ _).weaken rfl) hm

theorem State.relayOffer_frame (s : State) (a1 : Bool) (a2 : RelayHeader) (a3 : ℕ) (a4 : ℕ) (a5 : ℕ) (a6 : ℕ) : Frame 0x36001e1 s (State.relayOffer s a1 a2 a3 a4 a5 a6) := by
  unfold State.relayOffer
  extract_lets +onlyGivenNames x1
  clear_value x1
  extract_lets +onlyGivenNames x2
  clear_value x2
  refine Frame.ite (fun _ => ?_) fun _ => ?_
  · refine Frame.step ?_ (State.count_frame _ _) rfl
    exact Frame.refl _ _
  · refine Frame.ite (fun _ => ?_) fun _ => ?_
    · refine Frame.upd ?_ rfl
      exact Frame.refl _ _
    · refine Frame.ite (fun _ => ?_) fun _ => ?_
      · refine Frame.step ?_ (State.relayResult_frame _ _ _ _) rfl
        exact Frame.refl _ _
      · refine Frame.ite (fun _ => ?_) fun _ => ?_
        · refine Frame.step ?_ (State.relayResult_frame _ _ _ _) rfl
          exact Frame.refl _ _
        · extract_lets +onlyGivenNames x3
          clear_value x3
          refine Frame.step ?_ (State.showRelay_frame _) rfl
          refine Frame.upd ?_ rfl
          exact Frame.refl _ _

theorem execRelayOfferIn_frame (a0 : RelayHeader) (a1 : ℕ) (a2 : ℕ) (a3 : ℕ) (a4 : ℕ) (s : State) (t : State) (h : execRelayOfferIn a0 a1 a2 a3 a4 s = .next t) : Frame 0x36001e1 s t := by
  unfold execRelayOfferIn at h
  refine onEngines_frame h ?_
  refine State.relayRx_frame ?_ rfl fun _ _ => ?_
  · exact Frame.refl _ _
  · refine Frame.step ?_ (State.relayOffer_frame _ _ _ _ _ _ _) rfl
    assumption

theorem State.placeImage_frame (s : State) (a1 : Image) : Frame 0x400000 s (State.placeImage s a1) := by
  unfold State.placeImage
  refine Frame.ite (fun _ => ?_) fun _ => ?_
  · refine Frame.upd ?_ rfl
    exact Frame.refl _ _
  · refine Frame.ite (fun _ => ?_) fun _ => ?_
    · refine Frame.upd ?_ rfl
      exact Frame.refl _ _
    · refine Frame.upd ?_ rfl
      exact Frame.refl _ _

theorem State.imageCopied_frame (s : State) : Frame 0x6ffffff s (State.imageCopied s) := by
  unfold State.imageCopied
  split
  · exact Frame.refl _ _
  · extract_lets +onlyGivenNames x1
    clear_value x1
    refine Frame.ite (fun _ => ?_) fun _ => ?_
    · extract_lets +onlyGivenNames x2
      clear_value x2
      extract_lets +onlyGivenNames x3
      refine Frame.local x3 ?_ fun h3 => ?_
      · subst x3
        refine Frame.upd ?_ rfl
        exact Frame.refl _ _
      clear_value x3
      extract_lets +onlyGivenNames x4
      refine Frame.local x4 ?_ fun h4 => ?_
      · subst x4
        refine Frame.step ?_ (State.setWord_frame _ _ _) rfl
        refine Frame.step ?_ (State.endStage_frame _ _ _ _ _) rfl
        assumption
      clear_value x4
      refine Frame.step ?_ (State.coldReset_frame _ _ _) rfl
      refine Frame.step ?_ (State.emit_frame _ _) rfl
      assumption
    · extract_lets +onlyGivenNames x5
      clear_value x5
      extract_lets +onlyGivenNames x6
      refine Frame.local x6 ?_ fun h6 => ?_
      · subst x6
        refine Frame.step ?_ (State.placeImage_frame _ _) rfl
        refine Frame.upd ?_ rfl
        exact Frame.refl _ _
      clear_value x6
      extract_lets +onlyGivenNames x7
      refine Frame.local x7 ?_ fun h7 => ?_
      · subst x7
        refine Frame.step ?_ (State.setWord_frame _ _ _) rfl
        refine Frame.step ?_ (State.put_frame _ _ _) rfl
        refine Frame.step ?_ (State.put_frame _ _ _) rfl
        assumption
      clear_value x7
      refine Frame.step ?_ (State.endStage_frame _ _ _ _ _) rfl
      refine Frame.step ?_ (State.raise_frame _ _ _ _ _ _) rfl
      assumption

theorem State.relayChunk_frame (s : State) (a1 : Bool) (a2 : RelayHeader) (a3 : List Byte) : Frame 0x36001e1 s (State.relayChunk s a1 a2 a3) := by
  unfold State.relayChunk
  split
  · exact Frame.refl _ _
  · extract_lets +onlyGivenNames x1
    clear_value x1
    refine Frame.ite (fun _ => ?_) fun _ => ?_
    · exact Frame.refl _ _
    · refine Frame.ite (fun _ => ?_) fun _ => ?_
      · refine Frame.step ?_ (State.count_frame _ _) rfl
        exact Frame.refl _ _
      · refine Frame.ite (fun _ => ?_) fun _ => ?_
        · exact Frame.refl _ _
        · extract_lets +onlyGivenNames x2
          clear_value x2
          extract_lets +onlyGivenNames x3
          clear_value x3
          extract_lets +onlyGivenNames x4
          refine Frame.local x4 ?_ fun h4 => ?_
          · subst x4
            refine Frame.upd ?_ rfl
            exact Frame.refl _ _
          clear_value x4
          extract_lets +onlyGivenNames x5
          refine Frame.local x5 ?_ fun h5 => ?_
          · subst x5
            refine Frame.when ?_ fun _ _ => ?_
            · assumption
            · refine Frame.step ?_ (State.relayAck_frame _) rfl
              assumption
          clear_value x5
          refine Frame.ite (fun _ => ?_) fun _ => ?_
          · assumption
          · extract_lets +onlyGivenNames x6
            clear_value x6
            refine Frame.step ?_ (State.showRelay_frame _) rfl
            refine Frame.upd ?_ rfl
            assumption

theorem State.relayResulted_frame (s : State) (a1 : Bool) (a2 : RelayHeader) (a3 : ℕ) : Frame 0x36001e1 s (State.relayResulted s a1 a2 a3) := by
  unfold State.relayResulted
  split
  · exact Frame.refl _ _
  · refine Frame.ite (fun _ => ?_) fun _ => ?_
    · refine Frame.step ?_ (State.showRelay_frame _) rfl
      refine Frame.upd ?_ rfl
      exact Frame.refl _ _
    · extract_lets +onlyGivenNames x1
      refine Frame.local x1 ?_ fun h1 => ?_
      · subst x1
        refine Frame.step ?_ (State.showRelay_frame _) rfl
        refine Frame.step ?_ (State.setSend_frame _ _) rfl
        exact Frame.refl _ _
      clear_value x1
      extract_lets +onlyGivenNames x2
      clear_value x2
      refine Frame.ite (fun _ => ?_) fun _ => ?_
      · refine Frame.step ?_ (State.relaySendArm_frame _ _ _) rfl
        assumption
      · assumption

theorem State.relayArmed_frame (s : State) (a1 : RelayHeader) (a2 : ℕ) : Frame 0x32001e1 s (State.relayArmed s a1 a2) := by
  unfold State.relayArmed
  extract_lets +onlyGivenNames x1
  clear_value x1
  refine Frame.ite (fun _ => ?_) fun _ => ?_
  · exact Frame.refl _ _
  · refine Frame.step ?_ (State.armKick_frame _ _) rfl
    exact Frame.refl _ _

theorem State.relayPartner_frame (s : State) (a1 : RelayHeader) (a2 : RelayBody) : Frame 0x36001e1 s (State.relayPartner s a1 a2) := by
  unfold State.relayPartner
  split
  · refine State.relayRx_frame ?_ rfl fun _ _ => ?_
    · exact Frame.refl _ _
    · refine Frame.step ?_ (State.relayOffer_frame _ _ _ _ _ _ _) rfl
      assumption
  · refine State.relayRx_frame ?_ rfl fun _ _ => ?_
    · exact Frame.refl _ _
    · refine Frame.step ?_ (State.relayChunk_frame _ _ _ _) rfl
      assumption
  · refine State.relayRx_frame ?_ rfl fun _ _ => ?_
    · exact Frame.refl _ _
    · refine Frame.step ?_ (State.relayAcked_frame _ _ _ _ _) rfl
      assumption
  · refine State.relayRx_frame ?_ rfl fun _ _ => ?_
    · exact Frame.refl _ _
    · refine Frame.step ?_ (State.relayResulted_frame _ _ _ _) rfl
      assumption
  · refine State.relayRx_frame ?_ rfl fun _ _ => ?_
    · exact Frame.refl _ _
    · refine Frame.step ?_ (State.relayAborted_frame _ _ _ _) rfl
      assumption
  · refine State.relayRx_frame ?_ rfl fun _ _ => ?_
    · exact Frame.refl _ _
    · refine Frame.step ?_ (State.relayArmed_frame _ _ _) rfl
      assumption

theorem execCwRelayRx_frame (a0 : CwHeader) (a1 : RelayHeader) (a2 : RelayBody) (s : State) (t : State) (h : execCwRelayRx a0 a1 a2 s = .next t) : Frame 0x36001e1 s t := by
  unfold execCwRelayRx at h
  refine onEngines_frame h ?_
  refine State.cwRx_frame ?_ rfl fun _ _ => ?_
  · exact Frame.refl _ _
  · refine Frame.step ?_ (State.relayPartner_frame _ _ _) rfl
    assumption

theorem State.imageStage_frame (s : State) (a1 : CmdHeader) (a2 : Bool) (a3 : Image) (a4 : Bool) : Frame 0x2400201 s (State.imageStage s a1 a2 a3 a4) := by
  unfold State.imageStage
  refine Frame.ite (fun _ => ?_) fun _ => ?_
  · refine Frame.step ?_ (State.finish_frame _ _ _ _ _ _ _) rfl
    exact Frame.refl _ _
  · refine Frame.ite (fun _ => ?_) fun _ => ?_
    · refine Frame.step ?_ (State.finish_frame _ _ _ _ _ _ _) rfl
      exact Frame.refl _ _
    · refine Frame.ite (fun _ => ?_) fun _ => ?_
      · refine Frame.step ?_ (State.finish_frame _ _ _ _ _ _ _) rfl
        exact Frame.refl _ _
      · extract_lets +onlyGivenNames x1
        clear_value x1
        refine Frame.step ?_ (State.startJob_frame _ _ _ _ _ _) rfl
        refine Frame.upd ?_ rfl
        exact Frame.refl _ _

theorem execImageStage_frame (a0 : CmdHeader) (a1 : ℕ) (a2 : ℕ) (a3 : Image) (a4 : Bool) (s : State) (t : State) (h : execImageStage a0 a1 a2 a3 a4 s = .next t) : Frame 0x2400201 s t := by
  unfold execImageStage at h
  extract_lets +onlyGivenNames x1 at h
  refine onCore_frame h ?_
  refine State.command_frame ?_ rfl fun _ _ => ?_
  · exact Frame.refl _ _
  · refine Frame.step ?_ (State.imageStage_frame _ _ _ _ _) rfl
    assumption

theorem execFwConfirm_frame (a0 : CmdHeader) (s : State) (t : State) (h : execFwConfirm a0 s = .next t) : Frame 0x2400201 s t := by
  unfold execFwConfirm at h
  refine onCore_frame h ?_
  refine State.command_frame ?_ rfl fun _ _ => ?_
  · exact Frame.refl _ _
  · refine Frame.step ?_ (State.fwConfirm_frame _ _) rfl
    assumption

theorem State.fallBackTo_frame (s : State) (a1 : ℕ) : Frame 0x400981 s (State.fallBackTo s a1) := by
  unfold State.fallBackTo
  extract_lets +onlyGivenNames x1
  clear_value x1
  extract_lets +onlyGivenNames x2
  clear_value x2
  extract_lets +onlyGivenNames x3
  refine Frame.local x3 ?_ fun h3 => ?_
  · subst x3
    refine Frame.step ?_ (State.auditActivation_frame _ _ _) rfl
    exact Frame.refl _ _
  clear_value x3
  extract_lets +onlyGivenNames x4
  clear_value x4
  extract_lets +onlyGivenNames x5
  refine Frame.local x5 ?_ fun h5 => ?_
  · subst x5
    refine Frame.ite (fun _ => ?_) fun _ => ?_
    · refine Frame.upd ?_ rfl
      assumption
    · refine Frame.ite (fun _ => ?_) fun _ => ?_
      · refine Frame.step ?_ (State.setWord_frame _ _ _) rfl
        refine Frame.upd ?_ rfl
        assumption
      · refine Frame.upd ?_ rfl
        assumption
  clear_value x5
  extract_lets +onlyGivenNames x6
  clear_value x6
  extract_lets +onlyGivenNames x7
  refine Frame.local x7 ?_ fun h7 => ?_
  · subst x7
    refine Frame.upd ?_ rfl
    assumption
  clear_value x7
  extract_lets +onlyGivenNames x8
  refine Frame.local x8 ?_ fun h8 => ?_
  · subst x8
    refine Frame.step ?_ (State.put_frame _ _ _) rfl
    refine Frame.step ?_ (State.put_frame _ _ _) rfl
    refine Frame.step ?_ (State.put_frame _ _ _) rfl
    assumption
  clear_value x8
  refine Frame.step ?_ (State.raise_frame _ _ _ _ _ _) rfl
  assumption

theorem State.fallBack_frame (s : State) (a1 : ℕ) : Frame 0x3effff9 s (State.fallBack s a1) := by
  unfold State.fallBack
  extract_lets +onlyGivenNames x1
  clear_value x1
  extract_lets +onlyGivenNames x2
  clear_value x2
  extract_lets +onlyGivenNames x3
  refine Frame.local x3 ?_ fun h3 => ?_
  · subst x3
    refine Frame.step ?_ (State.fallBackTo_frame _ _) rfl
    exact Frame.refl _ _
  clear_value x3
  extract_lets +onlyGivenNames x4
  refine Frame.local x4 ?_ fun h4 => ?_
  · subst x4
    refine Frame.ite (fun _ => ?_) fun _ => ?_
    · refine Frame.step ?_ (State.switchOver_frame _) rfl
      refine Frame.step ?_ (State.tcpDropAll_frame _ _) rfl
      refine Frame.step ?_ (State.startFirmware_frame _ _) rfl
      assumption
    · refine Frame.ite (fun _ => ?_) fun _ => ?_
      · refine Frame.step ?_ (State.startCustomer_frame _) rfl
        assumption
      · assumption
  clear_value x4
  refine Frame.step ?_ (State.applyConfig_frame _ _) rfl
  assumption

theorem State.fwFallback_frame (s : State) (a1 : CmdHeader) : Frame 0x3effff9 s (State.fwFallback s a1) := by
  unfold State.fwFallback
  refine Frame.ite (fun _ => ?_) fun _ => ?_
  · refine Frame.step ?_ (State.finish_frame _ _ _ _ _ _ _) rfl
    exact Frame.refl _ _
  · refine Frame.step ?_ (State.fallBack_frame _ _) rfl
    refine Frame.step ?_ (State.finish_frame _ _ _ _ _ _ _) rfl
    exact Frame.refl _ _

theorem execFwFallback_frame (a0 : CmdHeader) (s : State) (t : State) (h : execFwFallback a0 s = .next t) : Frame 0x3effff9 s t := by
  unfold execFwFallback at h
  refine onCore_frame h ?_
  refine State.command_frame ?_ rfl fun _ _ => ?_
  · exact Frame.refl _ _
  · refine Frame.step ?_ (State.fwFallback_frame _ _) rfl
    assumption

theorem execRelayChunkIn_frame (a0 : RelayHeader) (a1 : List Byte) (s : State) (t : State) (h : execRelayChunkIn a0 a1 s = .next t) : Frame 0x36001e1 s t := by
  unfold execRelayChunkIn at h
  refine onEngines_frame h ?_
  refine State.relayRx_frame ?_ rfl fun _ _ => ?_
  · exact Frame.refl _ _
  · refine Frame.step ?_ (State.relayChunk_frame _ _ _ _) rfl
    assumption

theorem execRelayAckRx_frame (a0 : RelayHeader) (a1 : ℕ) (a2 : ℕ) (s : State) (t : State) (h : execRelayAckRx a0 a1 a2 s = .next t) : Frame 0x36001e1 s t := by
  unfold execRelayAckRx at h
  refine onEngines_frame h ?_
  refine State.relayRx_frame ?_ rfl fun _ _ => ?_
  · exact Frame.refl _ _
  · refine Frame.step ?_ (State.relayAcked_frame _ _ _ _ _) rfl
    assumption

theorem execRelayResultRx_frame (a0 : RelayHeader) (a1 : ℕ) (s : State) (t : State) (h : execRelayResultRx a0 a1 s = .next t) : Frame 0x36001e1 s t := by
  unfold execRelayResultRx at h
  refine onEngines_frame h ?_
  refine State.relayRx_frame ?_ rfl fun _ _ => ?_
  · exact Frame.refl _ _
  · refine Frame.step ?_ (State.relayResulted_frame _ _ _ _) rfl
    assumption

theorem execRelayAbortRx_frame (a0 : RelayHeader) (a1 : ℕ) (s : State) (t : State) (h : execRelayAbortRx a0 a1 s = .next t) : Frame 0x400081 s t := by
  unfold execRelayAbortRx at h
  refine onEngines_frame h ?_
  refine State.relayRx_frame ?_ rfl fun _ _ => ?_
  · exact Frame.refl _ _
  · refine Frame.step ?_ (State.relayAborted_frame _ _ _ _) rfl
    assumption

theorem execRelayArmRx_frame (a0 : RelayHeader) (a1 : ℕ) (s : State) (t : State) (h : execRelayArmRx a0 a1 s = .next t) : Frame 0x32001e1 s t := by
  unfold execRelayArmRx at h
  refine onEngines_frame h ?_
  refine State.relayRx_frame ?_ rfl fun _ _ => ?_
  · exact Frame.refl _ _
  · refine Frame.step ?_ (State.relayArmed_frame _ _ _) rfl
    assumption

theorem State.countStart_frame (s : State) : Frame 0x400001 s (State.countStart s) := by
  unfold State.countStart
  extract_lets +onlyGivenNames x1
  refine Frame.local x1 ?_ fun h1 => ?_
  · subst x1
    refine Frame.step ?_ (State.put_frame _ _ _) rfl
    exact Frame.refl _ _
  clear_value x1
  refine Frame.upd ?_ rfl
  assumption

theorem State.relayStart_frame (s : State) (a1 : Bool) (a2 : Image) (a3 : ℕ) : Frame 0x36001e1 s (State.relayStart s a1 a2 a3) := by
  unfold State.relayStart
  extract_lets +onlyGivenNames x1
  clear_value x1
  extract_lets +onlyGivenNames x2
  refine Frame.local x2 ?_ fun h2 => ?_
  · subst x2
    refine Frame.step ?_ (State.relayOut_frame _ _ _ _ _ _ _) rfl
    exact Frame.refl _ _
  clear_value x2
  split
  refine Frame.step ?_ (State.setSend_frame _ _) rfl
  refine Frame.step ?_ (Frame.ofFst ‹State.relayFill _ _ _ = _› (State.relayFill_frame _ _ _)) rfl
  assumption

theorem State.relayForward_frame (s : State) (a1 : StageRun) : Frame 0x36001e1 s (State.relayForward s a1) := by
  unfold State.relayForward
  refine Frame.ite (fun _ => ?_) fun _ => ?_
  · exact Frame.refl _ _
  · extract_lets +onlyGivenNames x1
    refine Frame.local x1 ?_ fun h1 => ?_
    · subst x1
      refine Frame.when ?_ fun _ _ => ?_
      · exact Frame.refl _ _
      · refine Frame.step ?_ (State.relayStart_frame _ _ _ _) rfl
        assumption
    clear_value x1
    refine Frame.when ?_ fun _ _ => ?_
    · assumption
    · refine Frame.step ?_ (State.relayStart_frame _ _ _ _) rfl
      assumption

theorem State.imageVerified_frame (s : State) : Frame 0x36003e1 s (State.imageVerified s) := by
  unfold State.imageVerified
  split
  · exact Frame.refl _ _
  · extract_lets +onlyGivenNames x1
    clear_value x1
    refine Frame.ite (fun _ => ?_) fun _ => ?_
    · exact Frame.refl _ _
    · refine Frame.ite (fun _ => ?_) fun _ => ?_
      · refine Frame.step ?_ (State.rejectImage_frame _ _ _ _) rfl
        exact Frame.refl _ _
      · split
        · refine Frame.step ?_ (State.rejectImage_frame _ _ _ _) rfl
          exact Frame.refl _ _
        · extract_lets +onlyGivenNames x2
          clear_value x2
          extract_lets +onlyGivenNames x3
          refine Frame.local x3 ?_ fun h3 => ?_
          · subst x3
            refine Frame.upd ?_ rfl
            exact Frame.refl _ _
          clear_value x3
          extract_lets +onlyGivenNames x4
          refine Frame.local x4 ?_ fun h4 => ?_
          · subst x4
            refine Frame.when ?_ fun _ _ => ?_
            · assumption
            · refine Frame.step ?_ (State.relayResult_frame _ _ _ _) rfl
              assumption
          clear_value x4
          refine Frame.step ?_ (State.showRelay_frame _) rfl
          refine Frame.step ?_ (State.relayForward_frame _ _) rfl
          assumption

theorem execImageVerified_frame (s : State) (t : State) (h : execImageVerified s = .next t) : Frame 0x36003e1 s t := by
  unfold execImageVerified at h
  refine onCore_frame h ?_
  refine Frame.step ?_ (State.imageVerified_frame _) rfl
  exact Frame.refl _ _

theorem execImageCopyDone_frame (s : State) (t : State) (h : execImageCopyDone s = .next t) : Frame 0x6ffffff s t := by
  unfold execImageCopyDone at h
  refine onCore_frame h ?_
  refine Frame.step ?_ (State.imageCopied_frame _) rfl
  exact Frame.refl _ _

theorem State.activateFirmware_frame (s : State) (a1 : Image) : Frame 0x2420b81 s (State.activateFirmware s a1) := by
  unfold State.activateFirmware
  extract_lets +onlyGivenNames x1
  clear_value x1
  extract_lets +onlyGivenNames x2
  clear_value x2
  extract_lets +onlyGivenNames x3
  refine Frame.local x3 ?_ fun h3 => ?_
  · subst x3
    refine Frame.upd ?_ rfl
    exact Frame.refl _ _
  clear_value x3
  extract_lets +onlyGivenNames x4
  refine Frame.local x4 ?_ fun h4 => ?_
  · subst x4
    refine Frame.step ?_ (State.put_frame _ _ _) rfl
    refine Frame.step ?_ (State.toProvisional_frame _ _ _) rfl
    assumption
  clear_value x4
  extract_lets +onlyGivenNames x5
  refine Frame.local x5 ?_ fun h5 => ?_
  · subst x5
    refine Frame.when ?_ fun _ _ => ?_
    · assumption
    · refine Frame.step ?_ (State.fire_frame _ _) rfl
      refine Frame.step ?_ (State.put_frame _ _ _) rfl
      assumption
  clear_value x5
  extract_lets +onlyGivenNames x6
  clear_value x6
  extract_lets +onlyGivenNames x7
  refine Frame.local x7 ?_ fun h7 => ?_
  · subst x7
    refine Frame.upd ?_ rfl
    assumption
  clear_value x7
  refine Frame.step ?_ (State.tcpDropAll_frame _ _) rfl
  refine Frame.step ?_ (State.countStart_frame _) rfl
  refine Frame.step ?_ (State.startFirmware_frame _ _) rfl
  assumption

theorem State.activateConfig_frame (s : State) (a1 : Image) : Frame 0x3effff9 s (State.activateConfig s a1) := by
  unfold State.activateConfig
  extract_lets +onlyGivenNames x1
  clear_value x1
  refine Frame.ite (fun _ => ?_) fun _ => ?_
  · refine Frame.step ?_ (State.raise_frame _ _ _ _ _ _) rfl
    refine Frame.step ?_ (State.put_frame _ _ _) rfl
    exact Frame.refl _ _
  · extract_lets +onlyGivenNames x2
    refine Frame.local x2 ?_ fun h2 => ?_
    · subst x2
      refine Frame.step ?_ (State.applyConfig_frame _ _) rfl
      refine Frame.step ?_ (State.toProvisional_frame _ _ _) rfl
      exact Frame.refl _ _
    clear_value x2
    refine Frame.upd ?_ rfl
    assumption

theorem State.kickOff_frame (s : State) : Frame 0x3effff9 s (State.kickOff s) := by
  unfold State.kickOff
  refine Frame.ite (fun _ => ?_) fun _ => ?_
  · exact Frame.refl _ _
  · refine Frame.ite (fun _ => ?_) fun _ => ?_
    · refine Frame.step ?_ (State.missKick_frame _) rfl
      exact Frame.refl _ _
    · split
      · refine Frame.step ?_ (State.missKick_frame _) rfl
        exact Frame.refl _ _
      · refine Frame.ite (fun _ => Frame.refl _ _) fun _ => ?_
        refine Frame.ite (fun _ => ?_) fun _ => ?_
        · refine Frame.step ?_ (State.activateFirmware_frame _ _) rfl
          exact Frame.refl _ _
        · refine Frame.ite (fun _ => ?_) fun _ => ?_
          · refine Frame.step ?_ (State.activateCustomer_frame _ _) rfl
            exact Frame.refl _ _
          · refine Frame.step ?_ (State.activateConfig_frame _ _) rfl
            exact Frame.refl _ _

theorem execKickoff_frame (s : State) (t : State) (h : execKickoff s = .next t) : Frame 0x3effff9 s t := by
  unfold execKickoff at h
  refine onEngines_frame h ?_
  refine Frame.step ?_ (State.kickOff_frame _) rfl
  exact Frame.refl _ _

theorem State.startLimit_frame (s : State) : Frame 0x3effff9 s (State.startLimit s) := by
  unfold State.startLimit
  split
  · exact Frame.refl _ _
  · refine Frame.ite (fun _ => ?_) fun _ => ?_
    · exact Frame.refl _ _
    · refine Frame.ite (fun _ => ?_) fun _ => ?_
      · refine Frame.step ?_ (State.fallBack_frame _ _) rfl
        exact Frame.refl _ _
      · refine Frame.step ?_ (State.countStart_frame _) rfl
        refine Frame.step ?_ (State.startFirmware_frame _ _) rfl
        exact Frame.refl _ _

theorem execStartLimitExpire_frame (s : State) (t : State) (h : execStartLimitExpire s = .next t) : Frame 0x3effff9 s t := by
  unfold execStartLimitExpire at h
  refine onCore_frame h ?_
  refine Frame.step ?_ (State.startLimit_frame _) rfl
  exact Frame.refl _ _

theorem State.configCopied_frame (s : State) : Frame 0x400001 s (State.configCopied s) := by
  unfold State.configCopied
  refine Frame.ite (fun _ => Frame.refl _ _) fun _ => ?_
  refine Frame.step ?_ (State.put_frame _ _ _) rfl
  exact Frame.ite (fun _ => Frame.upd (Frame.refl _ _) rfl) fun _ => Frame.refl _ _

theorem execConfigCopyDone_frame (s : State) (t : State) (h : execConfigCopyDone s = .next t) : Frame 0x400001 s t := by
  unfold execConfigCopyDone at h
  refine onCore_frame h ?_
  refine Frame.step ?_ (State.configCopied_frame _) rfl
  exact Frame.refl _ _

theorem State.retransmit_frame (s : State) : Frame 0x36001e1 s (State.retransmit s) := by
  unfold State.retransmit
  extract_lets +onlyGivenNames x1
  clear_value x1
  refine Frame.foldl ?_ fun _ _ _ => ?_
  · exact Frame.refl _ _
  · extract_lets +onlyGivenNames x2
    clear_value x2
    refine Frame.ite (fun _ => ?_) fun _ => ?_
    · assumption
    · extract_lets +onlyGivenNames x3
      refine Frame.local x3 ?_ fun h3 => ?_
      · subst x3
        refine Frame.foldl ?_ fun _ _ _ => ?_
        · assumption
        · refine Frame.step ?_ (State.count_frame _ _) rfl
          refine Frame.step ?_ (State.relaySendChunk_frame _ _ _) rfl
          assumption
      clear_value x3
      refine Frame.step ?_ (State.setSend_frame _ _) rfl
      assumption

theorem execRelayRetransmit_frame (s : State) (t : State) (h : execRelayRetransmit s = .next t) : Frame 0x36001e1 s t := by
  unfold execRelayRetransmit at h
  refine onEngines_frame h ?_
  refine Frame.step ?_ (State.retransmit_frame _) rfl
  exact Frame.refl _ _

theorem State.refresh_frame (s : State) : Frame 0x400000 s (State.refresh s) := by
  unfold State.refresh
  refine Frame.ite (fun _ => ?_) fun _ => ?_
  · exact Frame.refl _ _
  · split
    · refine Frame.upd ?_ rfl
      exact Frame.refl _ _
    · exact Frame.refl _ _

theorem execNandRefresh_frame (s : State) (t : State) (h : execNandRefresh s = .next t) : Frame 0x400000 s t := by
  unfold execNandRefresh at h
  refine onCore_frame h ?_
  refine Frame.step ?_ (State.refresh_frame _) rfl
  exact Frame.refl _ _

end Sys2Proof.Machine
end

