-- ==== Sys2Proof/Laws/FrameIntegrity.lean ====
section
/-!
SUPPORT. What each operation of Machine/Integrity.lean can change: one lemma an operation, with the mask of the parts of the state it
may touch (the bits are listed in Laws/Frame.lean).
-/

set_option linter.unusedVariables false
set_option Elab.async false

namespace Sys2Proof.Machine

theorem State.capsuleEnd_frame (s : State) (a1 : Job) : Frame 0x2800381 s (State.capsuleEnd s a1) := by
  unfold State.capsuleEnd
  extract_lets +onlyGivenNames x1
  clear_value x1
  extract_lets +onlyGivenNames x2
  refine Frame.local x2 ?_ fun h2 => ?_
  · subst x2
    refine Frame.upd ?_ rfl
    exact Frame.refl _ _
  clear_value x2
  refine Frame.step ?_ (State.endJob_frame _ _ _ _ _ _) rfl
  refine Frame.step ?_ (State.raise_frame _ _ _ _ _ _) rfl
  refine Frame.step ?_ (State.put_frame _ _ _) rfl
  assumption

theorem State.scrubBad_frame (s : State) (a1 : ℕ) : Frame 0x800981 s (State.scrubBad s a1) := by
  unfold State.scrubBad
  extract_lets +onlyGivenNames x1
  refine Frame.local x1 ?_ fun h1 => ?_
  · subst x1
    refine Frame.step ?_ (State.uecc_frame _ _) rfl
    exact Frame.refl _ _
  clear_value x1
  extract_lets +onlyGivenNames x2
  clear_value x2
  extract_lets +onlyGivenNames x3
  refine Frame.local x3 ?_ fun h3 => ?_
  · subst x3
    refine Frame.upd ?_ rfl
    assumption
  clear_value x3
  refine Frame.ite (fun _ => ?_) fun _ => ?_
  · assumption
  · extract_lets +onlyGivenNames x4
    clear_value x4
    refine Frame.step ?_ (State.spoilQueue_frame _ _ _) rfl
    refine Frame.step ?_ (State.spoilSaves_frame _ _ _) rfl
    assumption

theorem State.scrub_frame (s : State) (a1 : Bool) (a2 : List ℕ) (a3 : List ℕ) : Frame 0xa00981 s (State.scrub s a1 a2 a3) := by
  unfold State.scrub
  extract_lets +onlyGivenNames x1
  clear_value x1
  extract_lets +onlyGivenNames x2
  refine Frame.local x2 ?_ fun h2 => ?_
  · subst x2
    refine Frame.upd ?_ rfl
    exact Frame.refl _ _
  clear_value x2
  extract_lets +onlyGivenNames x3
  refine Frame.local x3 ?_ fun h3 => ?_
  · subst x3
    refine Frame.foldl ?_ fun _ _ _ => ?_
    · assumption
    · refine Frame.step ?_ (State.raise_frame _ _ _ _ _ _) rfl
      refine Frame.step ?_ (State.count_frame _ _) rfl
      assumption
  clear_value x3
  refine Frame.foldl ?_ fun _ _ _ => ?_
  · assumption
  · refine Frame.step ?_ (State.scrubBad_frame _ _) rfl
    assumption

theorem execScrubPass_frame (a0 : Bool) (a1 : List ℕ) (a2 : List ℕ) (s : State) (t : State) (h : execScrubPass a0 a1 a2 s = .next t) : Frame 0xa00981 s t := by
  unfold execScrubPass at h
  refine onEngines_frame h ?_
  refine Frame.step ?_ (State.scrub_frame _ _ _ _) rfl
  exact Frame.refl _ _

theorem State.knownAnswer_frame (s : State) (a1 : ℕ) (a2 : Bool) : Frame 0x200181 s (State.knownAnswer s a1 a2) := by
  unfold State.knownAnswer
  extract_lets +onlyGivenNames x1
  clear_value x1
  extract_lets +onlyGivenNames x2
  refine Frame.local x2 ?_ fun h2 => ?_
  · subst x2
    refine Frame.upd ?_ rfl
    exact Frame.refl _ _
  clear_value x2
  refine Frame.ite (fun _ => ?_) fun _ => ?_
  · assumption
  · refine Frame.step ?_ (State.raise_frame _ _ _ _ _ _) rfl
    refine Frame.step ?_ (State.count_frame _ _) rfl
    assumption

theorem execKatRun_frame (a0 : ℕ) (a1 : Bool) (s : State) (t : State) (h : execKatRun a0 a1 s = .next t) : Frame 0x200181 s t := by
  unfold execKatRun at h
  refine onEngines_frame h ?_
  refine Frame.step ?_ (State.knownAnswer_frame _ _ _) rfl
  exact Frame.refl _ _

theorem execEyeMeasure_frame (a0 : ℕ) (a1 : ℕ) (s : State) (t : State) (h : execEyeMeasure a0 a1 s = .next t) : Frame 0x1 s t := by
  unfold execEyeMeasure at h
  refine onEngines_frame h ?_
  refine Frame.step ?_ (State.put_frame _ _ _) rfl
  exact Frame.refl _ _

theorem State.returnCapsule_frame (s : State) (a1 : CmdHeader) : Frame 0x2000201 s (State.returnCapsule s a1) := by
  unfold State.returnCapsule
  refine Frame.ite (fun _ => ?_) fun _ => ?_
  · refine Frame.step ?_ (State.finish_frame _ _ _ _ _ _ _) rfl
    exact Frame.refl _ _
  · refine Frame.ite (fun _ => ?_) fun _ => ?_
    · refine Frame.step ?_ (State.finish_frame _ _ _ _ _ _ _) rfl
      exact Frame.refl _ _
    · refine Frame.step ?_ (State.startJob_frame _ _ _ _ _ _) rfl
      exact Frame.refl _ _

theorem execReturnCapsule_frame (a0 : CmdHeader) (a1 : ℕ) (s : State) (t : State) (h : execReturnCapsule a0 a1 s = .next t) : Frame 0x2000201 s t := by
  unfold execReturnCapsule at h
  extract_lets +onlyGivenNames x1 at h
  refine onCore_frame h ?_
  refine State.command_frame ?_ rfl fun _ _ => ?_
  · exact Frame.refl _ _
  · refine Frame.step ?_ (State.returnCapsule_frame _ _) rfl
    assumption

end Sys2Proof.Machine
end

