-- ==== Sys2Proof/Laws/FramePeatLog.lean ====
section
/-!
SUPPORT. What each operation of Machine/PeatLog.lean can change: one lemma an operation, with the mask of the parts of the state it
may touch (the bits are listed in Laws/Frame.lean).
-/

set_option linter.unusedVariables false
set_option Elab.async false

namespace Sys2Proof.Machine

theorem State.copyTail_frame (s : State) : Frame 0x81 s (State.copyTail s) := by
  unfold State.copyTail
  split
  · exact Frame.refl _ _
  · extract_lets +onlyGivenNames x1
    clear_value x1
    extract_lets +onlyGivenNames x2
    clear_value x2
    extract_lets +onlyGivenNames x3
    clear_value x3
    extract_lets +onlyGivenNames x4
    clear_value x4
    refine Frame.step ?_ (State.bump_frame _ _) rfl
    refine Frame.upd ?_ rfl
    exact Frame.refl _ _

theorem State.copyDue_frame (s : State) (a1 : ℕ) : Frame 0x81 s (State.copyDue s a1) := by
  induction' a1 with n ih generalizing s
  · unfold State.copyDue
    exact Frame.refl _ _
  · unfold State.copyDue
    refine Frame.step ?_ (ih _) rfl
    refine Frame.step ?_ (State.copyTail_frame _) rfl
    exact Frame.refl _ _

theorem State.peatHoldup_frame (s : State) : Frame 0x80 s (State.peatHoldup s) := by
  unfold State.peatHoldup
  refine Frame.upd ?_ rfl
  exact Frame.refl _ _

theorem State.showPeat_frame (s : State) : Frame 0x1 s (State.showPeat s) := by
  unfold State.showPeat
  extract_lets +onlyGivenNames x1
  clear_value x1
  extract_lets +onlyGivenNames x2
  clear_value x2
  extract_lets +onlyGivenNames x3
  refine Frame.local x3 ?_ fun h3 => ?_
  · subst x3
    refine Frame.step ?_ (State.put_frame _ _ _) rfl
    exact Frame.refl _ _
  clear_value x3
  extract_lets +onlyGivenNames x4
  refine Frame.local x4 ?_ fun h4 => ?_
  · subst x4
    refine Frame.step ?_ (State.put_frame _ _ _) rfl
    assumption
  clear_value x4
  extract_lets +onlyGivenNames x5
  refine Frame.local x5 ?_ fun h5 => ?_
  · subst x5
    refine Frame.step ?_ (State.setPair_frame _ _ _ _) rfl
    assumption
  clear_value x5
  extract_lets +onlyGivenNames x6
  refine Frame.local x6 ?_ fun h6 => ?_
  · subst x6
    refine Frame.step ?_ (State.setPair_frame _ _ _ _) rfl
    assumption
  clear_value x6
  refine Frame.step ?_ (State.put_frame _ _ _) rfl
  assumption

theorem State.peatFold_frame (s : State) (a1 : FoldWindow) (a2 : Occurrence) : Frame 0x80 s (State.peatFold s a1 a2) := by
  unfold State.peatFold
  extract_lets +onlyGivenNames x1
  clear_value x1
  extract_lets +onlyGivenNames x2
  clear_value x2
  extract_lets +onlyGivenNames x3
  clear_value x3
  extract_lets +onlyGivenNames x4
  clear_value x4
  refine Frame.upd ?_ rfl
  exact Frame.refl _ _

theorem State.openWindow_frame (s : State) (a1 : FoldWindow) : Frame 0x81 s (State.openWindow s a1) := by
  unfold State.openWindow
  extract_lets +onlyGivenNames x1
  refine Frame.local x1 ?_ fun h1 => ?_
  · subst x1
    refine Frame.ite (fun _ => ?_) fun _ => ?_
    · exact Frame.refl _ _
    · split
      · exact Frame.refl _ _
      · extract_lets +onlyGivenNames x2
        clear_value x2
        refine Frame.step ?_ (State.count_frame _ _) rfl
        refine Frame.upd ?_ rfl
        exact Frame.refl _ _
  clear_value x1
  refine Frame.upd ?_ rfl
  assumption

theorem State.detectionInterrupt_frame (s : State) : Frame 0x2000181 s (State.detectionInterrupt s) := by
  unfold State.detectionInterrupt
  refine Frame.step ?_ (State.fire_frame _ _) rfl
  refine Frame.when ?_ fun _ _ => ?_
  · exact Frame.refl _ _
  · refine Frame.step ?_ (State.message_frame _ _) rfl
    assumption

theorem State.peatCreate_frame (s : State) (a1 : Occurrence) : Frame 0x2000181 s (State.peatCreate s a1) := by
  unfold State.peatCreate
  split
  · extract_lets +onlyGivenNames x1
    clear_value x1
    extract_lets +onlyGivenNames x2
    refine Frame.local x2 ?_ fun h2 => ?_
    · subst x2
      refine Frame.step ?_ (State.count_frame _ _) rfl
      refine Frame.upd ?_ rfl
      exact Frame.refl _ _
    clear_value x2
    refine Frame.ite (fun _ => ?_) fun _ => ?_
    · refine Frame.step ?_ (State.log_frame _ _ _ _ _ _) rfl
      refine Frame.step ?_ (State.dropNoted_frame _ _) rfl
      assumption
    · assumption
  · extract_lets +onlyGivenNames x3
    refine Frame.local x3 ?_ fun h3 => ?_
    · subst x3
      refine Frame.ite (fun _ => ?_) fun _ => ?_
      · refine Frame.step ?_ (State.copyDue_frame _ _) rfl
        exact Frame.refl _ _
      · exact Frame.refl _ _
    clear_value x3
    extract_lets +onlyGivenNames x4
    clear_value x4
    extract_lets +onlyGivenNames x5
    clear_value x5
    extract_lets +onlyGivenNames x6
    clear_value x6
    extract_lets +onlyGivenNames x7
    clear_value x7
    extract_lets +onlyGivenNames x8
    refine Frame.local x8 ?_ fun h8 => ?_
    · subst x8
      refine Frame.upd ?_ rfl
      assumption
    clear_value x8
    extract_lets +onlyGivenNames x9
    refine Frame.local x9 ?_ fun h9 => ?_
    · subst x9
      refine Frame.step ?_ (State.openWindow_frame _ _) rfl
      assumption
    clear_value x9
    extract_lets +onlyGivenNames x10
    refine Frame.local x10 ?_ fun h10 => ?_
    · subst x10
      refine Frame.when ?_ fun _ _ => ?_
      · assumption
      · refine Frame.step ?_ (State.detectionInterrupt_frame _) rfl
        assumption
    clear_value x10
    refine Frame.ite (fun _ => ?_) fun _ => ?_
    · refine Frame.step ?_ (State.fire_frame _ _) rfl
      refine Frame.when ?_ fun _ _ => ?_
      · assumption
      · refine Frame.step ?_ (State.message_frame _ _) rfl
        assumption
    · assumption

theorem State.peatWriteOne_frame (s : State) : Frame 0x2000181 s (State.peatWriteOne s) := by
  unfold State.peatWriteOne
  split
  · exact Frame.refl _ _
  · extract_lets +onlyGivenNames x1
    clear_value x1
    extract_lets +onlyGivenNames x2
    clear_value x2
    extract_lets +onlyGivenNames x3
    refine Frame.local x3 ?_ fun h3 => ?_
    · subst x3
      refine Frame.upd ?_ rfl
      exact Frame.refl _ _
    clear_value x3
    split
    · refine Frame.step ?_ (State.showPeat_frame _) rfl
      refine Frame.step ?_ (State.peatFold_frame _ _ _) rfl
      assumption
    · refine Frame.step ?_ (State.showPeat_frame _) rfl
      refine Frame.step ?_ (State.peatCreate_frame _ _) rfl
      assumption

theorem State.peatDrain_frame (a0 : ℕ) (s : State) : Frame 0x2000181 s (State.peatDrain a0 s) := by
  induction' a0 with n ih generalizing s
  · unfold State.peatDrain
    exact Frame.refl _ _
  · unfold State.peatDrain
    refine Frame.step ?_ (ih _) rfl
    refine Frame.step ?_ (State.peatWriteOne_frame _) rfl
    exact Frame.refl _ _

theorem State.peatBoot_frame (s : State) : Frame 0x81 s (State.peatBoot s) := by
  unfold State.peatBoot
  extract_lets +onlyGivenNames x1
  clear_value x1
  refine Frame.step ?_ (State.showPeat_frame _) rfl
  refine Frame.upd ?_ rfl
  exact Frame.refl _ _

theorem execTailCopy_frame (s : State) (t : State) (h : execTailCopy s = .next t) : Frame 0x81 s t := by
  unfold execTailCopy at h
  refine onCore_frame h ?_
  refine Frame.step ?_ (State.copyTail_frame _) rfl
  exact Frame.refl _ _

theorem State.peatWarm_frame (s : State) : Frame 0x2000181 s (State.peatWarm s) := by
  unfold State.peatWarm
  extract_lets +onlyGivenNames x1
  refine Frame.local x1 ?_ fun h1 => ?_
  · subst x1
    refine Frame.step ?_ (State.peatDrain_frame _ _) rfl
    exact Frame.refl _ _
  clear_value x1
  refine Frame.step ?_ (State.showPeat_frame _) rfl
  refine Frame.upd ?_ rfl
  assumption

theorem execPeatEntryWrite_frame (s : State) (t : State) (h : execPeatEntryWrite s = .next t) : Frame 0x2000181 s t := by
  unfold execPeatEntryWrite at h
  refine onCore_frame h ?_
  refine Frame.step ?_ (State.peatWriteOne_frame _) rfl
  exact Frame.refl _ _

theorem State.closeEnded_frame (s : State) : Frame 0x81 s (State.closeEnded s) := by
  unfold State.closeEnded
  refine Frame.step ?_ (State.showPeat_frame _) rfl
  refine Frame.upd ?_ rfl
  exact Frame.refl _ _

theorem execFoldWindowClose_frame (s : State) (t : State) (h : execFoldWindowClose s = .next t) : Frame 0x81 s t := by
  unfold execFoldWindowClose at h
  refine onCore_frame h ?_
  refine Frame.step ?_ (State.closeEnded_frame _) rfl
  exact Frame.refl _ _

end Sys2Proof.Machine
end

