-- ==== Sys2Proof/Laws/FramePower.lean ====
section
/-!
SUPPORT. What each operation of Machine/Power.lean can change: one lemma an operation, with the mask of the parts of the state it
may touch (the bits are listed in Laws/Frame.lean).
-/

set_option linter.unusedVariables false
set_option Elab.async false

namespace Sys2Proof.Machine

theorem State.notCommitted_frame (s : State) : Frame 0x2000201 s (State.notCommitted s) := by
  unfold State.notCommitted
  refine Frame.foldl ?_ fun _ _ _ => ?_
  · exact Frame.refl _ _
  · refine Frame.step ?_ (State.endJob_frame _ _ _ _ _ _) rfl
    assumption

theorem State.trip_frame (s : State) (a1 : Bool) : Frame 0x3201b81 s (State.trip s a1) := by
  unfold State.trip
  refine Frame.ite (fun _ => ?_) fun _ => ?_
  · exact Frame.refl _ _
  · extract_lets +onlyGivenNames x1
    clear_value x1
    extract_lets +onlyGivenNames x2
    refine Frame.local x2 ?_ fun h2 => ?_
    · subst x2
      refine Frame.step ?_ (State.outageStart_frame _ _) rfl
      exact Frame.refl _ _
    clear_value x2
    extract_lets +onlyGivenNames x3
    refine Frame.local x3 ?_ fun h3 => ?_
    · subst x3
      refine Frame.when ?_ fun _ _ => ?_
      · assumption
      · refine Frame.step ?_ (State.snapshot_frame _ _) rfl
        refine Frame.step ?_ (State.abandonSaves_frame _) rfl
        refine Frame.step ?_ (State.cutBlocks_frame _) rfl
        assumption
    clear_value x3
    extract_lets +onlyGivenNames x4
    clear_value x4
    extract_lets +onlyGivenNames x5
    refine Frame.local x5 ?_ fun h5 => ?_
    · subst x5
      refine Frame.step ?_ (State.draw_frame _) rfl
      refine Frame.step ?_ (State.put_frame _ _ _) rfl
      refine Frame.step ?_ (State.put_frame _ _ _) rfl
      refine Frame.step ?_ (State.put_frame _ _ _) rfl
      assumption
    clear_value x5
    extract_lets +onlyGivenNames x6
    refine Frame.local x6 ?_ fun h6 => ?_
    · subst x6
      refine Frame.step ?_ (State.notCommitted_frame _) rfl
      refine Frame.step ?_ (State.put_frame _ _ _) rfl
      assumption
    clear_value x6
    extract_lets +onlyGivenNames x7
    clear_value x7
    extract_lets +onlyGivenNames x8
    extract_lets +onlyGivenNames x9
    refine Frame.local x9 ?_ fun h9 => ?_
    · subst x9
      refine Frame.upd ?_ rfl
      assumption
    clear_value x9
    extract_lets +onlyGivenNames x10
    refine Frame.local x10 ?_ fun h10 => ?_
    · subst x10
      refine Frame.step ?_ (State.raise_frame _ _ _ _ _ _) rfl
      refine Frame.step ?_ (State.count_frame _ _) rfl
      assumption
    clear_value x10
    refine Frame.step ?_ (State.modeConds_frame _) rfl
    refine Frame.step ?_ (State.peatHoldup_frame _) rfl
    assumption

theorem State.coreStop_frame (s : State) : Frame 0x3201f81 s (State.coreStop s) := by
  unfold State.coreStop
  refine Frame.ite (fun _ => ?_) fun _ => ?_
  · exact Frame.refl _ _
  · extract_lets +onlyGivenNames x1
    refine Frame.local x1 ?_ fun h1 => ?_
    · subst x1
      refine Frame.step ?_ (State.trip_frame _ _) rfl
      exact Frame.refl _ _
    clear_value x1
    extract_lets +onlyGivenNames x2
    refine Frame.local x2 ?_ fun h2 => ?_
    · subst x2
      refine Frame.ite (fun _ => ?_) fun _ => ?_
      · assumption
      · refine Frame.step ?_ (State.outageStart_frame _ _) rfl
        assumption
    clear_value x2
    extract_lets +onlyGivenNames x3
    refine Frame.local x3 ?_ fun h3 => ?_
    · subst x3
      refine Frame.step ?_ (State.emit_frame _ _) rfl
      assumption
    clear_value x3
    refine Frame.upd ?_ rfl
    assumption

theorem execCoreDomainStop_frame (s : State) (t : State) (h : execCoreDomainStop s = .next t) : Frame 0x3201f81 s t := by
  unfold execCoreDomainStop at h
  refine checked_frame h ?_
  refine Frame.step ?_ (State.coreStop_frame _) rfl
  exact Frame.refl _ _

theorem State.commitAll_frame (s : State) : Frame 0x981 s (State.commitAll s) := by
  unfold State.commitAll
  refine Frame.forEach ?_ fun _ _ _ => ?_
  · exact Frame.refl _ _
  · refine Frame.step ?_ (State.commitSave_frame _) rfl
    assumption

theorem State.resetPin_frame (s : State) : Frame 0x6ffffff s (State.resetPin s) := by
  unfold State.resetPin
  refine Frame.ite (fun _ => ?_) fun _ => ?_
  · exact Frame.refl _ _
  · extract_lets +onlyGivenNames x1
    refine Frame.local x1 ?_ fun h1 => ?_
    · subst x1
      refine Frame.when ?_ fun _ _ => ?_
      · exact Frame.refl _ _
      · refine Frame.step ?_ (State.snapshot_frame _ _) rfl
        refine Frame.step ?_ (State.abandonSaves_frame _) rfl
        refine Frame.step ?_ (State.cutBlocks_frame _) rfl
        assumption
    clear_value x1
    refine Frame.step ?_ (State.coldReset_frame _ _ _) rfl
    refine Frame.step ?_ (State.commitAll_frame _) rfl
    assumption

theorem execRstNAssert_frame (s : State) (t : State) (h : execRstNAssert s = .next t) : Frame 0x6ffffff s t := by
  unfold execRstNAssert at h
  refine checked_frame h ?_
  refine Frame.step ?_ (State.resetPin_frame _) rfl
  exact Frame.refl _ _

theorem State.pairWarm_frame (s : State) : Frame 0x3effff9 s (State.pairWarm s) := by
  unfold State.pairWarm
  extract_lets +onlyGivenNames x1
  refine Frame.local x1 ?_ fun h1 => ?_
  · subst x1
    refine Frame.step ?_ (State.setWord_frame _ _ _) rfl
    exact Frame.refl _ _
  extract_lets +onlyGivenNames x2
  clear_value x2
  extract_lets +onlyGivenNames x3
  refine Frame.local x3 ?_ fun h3 => ?_
  · subst x3
    refine Frame.upd ?_ rfl
    assumption
  refine Frame.ite (fun _ => ?_) fun _ => ?_
  · refine Frame.step ?_ (State.setRole_frame _ _ _) rfl
    refine Frame.step ?_ (State.put_frame _ _ _) rfl
    assumption
  · refine Frame.step ?_ (State.pairLost_frame _) rfl
    assumption

theorem State.warmReset_upd {s y : State} {p : Nat × Word → Bool} {phasor : PhasorState} {net : NetState} {fw : FwState} {power : PowerState}
    (hy : Frame 0x3effffd s y) : Frame 0x3effffd s { y with regs := y.regs.filter p, latches := [], phasor, net, fw, power } :=
  Frame.upd (t := { y with regs := y.regs.filter p }) (Frame.filterRegs p hy rfl) rfl

theorem State.warmReset_frame (s : State) : Frame 0x3effffd s s.warmReset := by
  unfold State.warmReset
  refine Frame.ite (fun _ => Frame.refl _ _) fun _ => State.warmReset_upd ?_
  refine Frame.step ?_ (State.pairWarm_frame _) rfl
  refine Frame.step ?_ (State.pinsWarm_frame _) rfl
  refine Frame.step ?_ (State.pulsesHold_frame _) rfl
  refine Frame.step ?_ (State.schedWarm_frame _) rfl
  refine Frame.step ?_ (State.alignPause_frame _) rfl
  refine Frame.step ?_ (State.analogueWarm_frame _) rfl
  refine Frame.step ?_ (State.lanesWarm_frame _) rfl
  refine Frame.step ?_ (State.tcpDropAll_frame _ _) rfl
  refine Frame.step ?_ (State.hostClear_frame _) rfl
  refine Frame.step ?_ (State.captureWarm_frame _) rfl
  refine Frame.step ?_ (State.peatWarm_frame _) rfl
  refine Frame.step ?_ (State.commitAll_frame _) rfl
  exact Frame.refl _ _

theorem execWarmResetTakeEffect_frame (s : State) (t : State) (h : execWarmResetTakeEffect s = .next t) : Frame 0x3effffd s t := by
  unfold execWarmResetTakeEffect at h
  refine checked_frame h ?_
  refine Frame.step ?_ (State.warmReset_frame _) rfl
  exact Frame.refl _ _

theorem State.powerOn_frame (s : State) (a1 : Bool) : Frame 0x6ffffff s (State.powerOn s a1) := by
  unfold State.powerOn
  refine Frame.ite (fun _ => ?_) fun _ => ?_
  · exact Frame.refl _ _
  · extract_lets +onlyGivenNames x1
    refine Frame.local x1 ?_ fun h1 => ?_
    · subst x1
      refine Frame.step ?_ (State.coldReset_frame _ _ _) rfl
      exact Frame.refl _ _
    clear_value x1
    refine Frame.ite (fun _ => ?_) fun _ => ?_
    · assumption
    · refine Frame.upd ?_ rfl
      assumption

theorem execBatteryPowerOn_frame (a0 : Bool) (s : State) (t : State) (h : execBatteryPowerOn a0 s = .next t) : Frame 0x6ffffff s t := by
  unfold execBatteryPowerOn at h
  refine checked_frame h ?_
  refine Frame.step ?_ (State.powerOn_frame _ _) rfl
  exact Frame.refl _ _

theorem execSupplyTrip_frame (a0 : Bool) (s : State) (t : State) (h : execSupplyTrip a0 s = .next t) : Frame 0x3201b81 s t := by
  unfold execSupplyTrip at h
  refine checked_frame h ?_
  refine Frame.step ?_ (State.trip_frame _ _) rfl
  exact Frame.refl _ _

theorem State.trimCheck_frame (s : State) : Frame 0x181 s (State.trimCheck s) := by
  unfold State.trimCheck
  refine Frame.when ?_ fun _ _ => ?_
  · exact Frame.refl _ _
  · refine Frame.step ?_ (State.raise_frame _ _ _ _ _ _) rfl
    refine Frame.step ?_ (State.put_frame _ _ _) rfl
    assumption

theorem State.wantedSlot_frame (s : State) : Frame 0x400981 s (State.wantedSlot s) := by
  unfold State.wantedSlot
  refine Frame.ite (fun _ => ?_) fun _ => ?_
  · refine Frame.ite (fun _ => ?_) fun _ => ?_
    · refine Frame.step ?_ (State.fallBackTo_frame _ _) rfl
      exact Frame.refl _ _
    · refine Frame.step ?_ (State.countStart_frame _) rfl
      exact Frame.refl _ _
  · exact Frame.refl _ _

theorem State.slotBad_frame (s : State) (a1 : ℕ) (a2 : ℕ) : Frame 0x181 s (State.slotBad s a1 a2) := by
  unfold State.slotBad
  refine Frame.ite (fun _ => ?_) fun _ => ?_
  · refine Frame.step ?_ (State.raise_frame _ _ _ _ _ _) rfl
    refine Frame.step ?_ (State.count_frame _ _) rfl
    exact Frame.refl _ _
  · refine Frame.step ?_ (State.raise_frame _ _ _ _ _ _) rfl
    exact Frame.refl _ _

theorem State.otherSlot_frame (s : State) : Frame 0x400981 s (State.otherSlot s) := by
  unfold State.otherSlot
  refine Frame.ite (fun _ => ?_) fun _ => ?_
  · refine Frame.step ?_ (State.fallBackTo_frame _ _) rfl
    exact Frame.refl _ _
  · extract_lets +onlyGivenNames x1
    clear_value x1
    extract_lets +onlyGivenNames x2
    refine Frame.local x2 ?_ fun h2 => ?_
    · subst x2
      refine Frame.upd ?_ rfl
      exact Frame.refl _ _
    refine Frame.ite (fun _ => ?_) fun _ => ?_
    · refine Frame.step ?_ (State.put_frame _ _ _) rfl
      refine Frame.upd ?_ rfl
      assumption
    · assumption

theorem State.bootSlot_frame (s : State) (a1 : List ℕ) : Frame 0x400d81 s (State.bootSlot s a1) := by
  unfold State.bootSlot
  extract_lets +onlyGivenNames x1
  refine Frame.local x1 ?_ fun h1 => ?_
  · subst x1
    refine Frame.step ?_ (State.wantedSlot_frame _) rfl
    exact Frame.refl _ _
  clear_value x1
  extract_lets +onlyGivenNames x2
  clear_value x2
  extract_lets +onlyGivenNames x3
  clear_value x3
  extract_lets +onlyGivenNames x4
  refine Frame.ite (fun _ => ?_) fun _ => ?_
  · simp only [x4]
    refine Frame.step ?_ (State.startFirmware_frame _ _) rfl
    assumption
  · extract_lets +onlyGivenNames x5
    refine Frame.local x5 ?_ fun h5 => ?_
    · subst x5
      refine Frame.step ?_ (State.slotBad_frame _ _ _) rfl
      assumption
    clear_value x5
    refine Frame.ite (fun _ => ?_) fun _ => ?_
    · simp only [x4]
      refine Frame.step ?_ (State.startFirmware_frame _ _) rfl
      refine Frame.step ?_ (State.otherSlot_frame _) rfl
      assumption
    · extract_lets +onlyGivenNames x6
      refine Frame.local x6 ?_ fun h6 => ?_
      · subst x6
        refine Frame.step ?_ (State.slotBad_frame _ _ _) rfl
        assumption
      clear_value x6
      refine Frame.upd ?_ rfl
      assumption

theorem State.bootHardware_frame (s : State) (a1 : List ℕ) : Frame 0x31001a9 s (State.bootHardware s a1) := by
  unfold State.bootHardware
  extract_lets +onlyGivenNames x1
  refine Frame.local x1 ?_ fun h1 => ?_
  · subst x1
    refine Frame.forEach ?_ fun _ _ _ => ?_
    · exact Frame.refl _ _
    · refine Frame.ite (fun _ => ?_) fun _ => ?_
      · refine Frame.step ?_ (State.sluiceFail_frame _ _) rfl
        assumption
      · refine Frame.step ?_ (State.sluiceActive_frame _ _ _) rfl
        assumption
  clear_value x1
  extract_lets +onlyGivenNames x2
  extract_lets +onlyGivenNames x3
  refine Frame.local x3 ?_ fun h3 => ?_
  · subst x3
    refine Frame.step ?_ (State.showLeap_frame _) rfl
    refine Frame.upd ?_ rfl
    assumption
  clear_value x3
  extract_lets +onlyGivenNames x4
  refine Frame.local x4 ?_ fun h4 => ?_
  · subst x4
    refine Frame.ite (fun _ => ?_) fun _ => ?_
    · assumption
    · refine Frame.step ?_ (State.linkTrain_frame _) rfl
      assumption
  clear_value x4
  refine Frame.step ?_ (State.setWord_frame _ _ _) rfl
  refine Frame.step ?_ (State.keysPowerUp_frame _) rfl
  assumption

theorem State.bootFirmware_frame (s : State) : Frame 0x201d81 s (State.bootFirmware s) := by
  unfold State.bootFirmware
  extract_lets +onlyGivenNames x1
  refine Frame.local x1 ?_ fun h1 => ?_
  · subst x1
    refine Frame.step ?_ (State.put_frame _ _ _) rfl
    refine Frame.step ?_ (State.peatBoot_frame _) rfl
    exact Frame.refl _ _
  clear_value x1
  extract_lets +onlyGivenNames x2
  refine Frame.local x2 ?_ fun h2 => ?_
  · subst x2
    refine Frame.step ?_ (State.modeConds_frame _) rfl
    refine Frame.step ?_ (State.laneConds_frame _) rfl
    refine Frame.step ?_ (State.copyOutages_frame _) rfl
    refine Frame.step ?_ (State.restoreCore_frame _ _ _) rfl
    assumption
  clear_value x2
  extract_lets +onlyGivenNames x3
  refine Frame.local x3 ?_ fun h3 => ?_
  · subst x3
    refine Frame.ite (fun _ => ?_) fun _ => ?_
    · refine Frame.step ?_ (State.missKick_frame _) rfl
      assumption
    · assumption
  clear_value x3
  extract_lets +onlyGivenNames x4
  refine Frame.local x4 ?_ fun h4 => ?_
  · subst x4
    refine Frame.when ?_ fun _ _ => ?_
    · assumption
    · refine Frame.step ?_ (State.put_frame _ _ _) rfl
      assumption
  clear_value x4
  refine Frame.upd ?_ rfl
  assumption

theorem State.bootUp_frame (s : State) (a1 : Bool) (a2 : List ℕ) (a3 : List ℕ) : Frame 0x3701da9 s (State.bootUp s a1 a2 a3) := by
  unfold State.bootUp
  refine Frame.ite (fun _ => ?_) fun _ => ?_
  · exact Frame.refl _ _
  · extract_lets +onlyGivenNames x1
    clear_value x1
    extract_lets +onlyGivenNames x2
    refine Frame.local x2 ?_ fun h2 => ?_
    · subst x2
      refine Frame.step ?_ (State.lastReset_frame _ _) rfl
      refine Frame.upd ?_ rfl
      exact Frame.refl _ _
    clear_value x2
    extract_lets +onlyGivenNames x3
    refine Frame.local x3 ?_ fun h3 => ?_
    · subst x3
      refine Frame.step ?_ (State.trimCheck_frame _) rfl
      refine Frame.step ?_ (State.put_frame _ _ _) rfl
      assumption
    clear_value x3
    refine Frame.ite (fun _ => ?_) fun _ => ?_
    · refine Frame.step ?_ (State.raise_frame _ _ _ _ _ _) rfl
      assumption
    · extract_lets +onlyGivenNames x4
      refine Frame.local x4 ?_ fun h4 => ?_
      · subst x4
        refine Frame.step ?_ (State.bootSlot_frame _ _) rfl
        refine Frame.step ?_ (State.bootHardware_frame _ _) rfl
        assumption
      clear_value x4
      refine Frame.ite (fun _ => ?_) fun _ => ?_
      · refine Frame.step ?_ (State.modeConds_frame _) rfl
        refine Frame.step ?_ (State.put_frame _ _ _) rfl
        refine Frame.step ?_ (State.peatBoot_frame _) rfl
        assumption
      · refine Frame.step ?_ (State.bootFirmware_frame _) rfl
        assumption

theorem execBootUp_frame (a0 : Bool) (a1 : ℕ) (a2 : ℕ) (a3 : List ℕ) (s : State) (t : State) (h : execBootUp a0 a1 a2 a3 s = .next t) : Frame 0x3701da9 s t := by
  unfold execBootUp at h
  refine checked_frame h ?_
  refine Frame.step ?_ (State.bootUp_frame _ _ _ _) rfl
  exact Frame.refl _ _

theorem State.configLoad_frame (s : State) (a1 : Bool) (a2 : List (ℕ × ℕ)) (a3 : List (ℕ × ℕ × List ℕ)) : Frame 0x3effff9 s (State.configLoad s a1 a2 a3) := by
  unfold State.configLoad
  refine Frame.ite (fun _ => ?_) fun _ => ?_
  · exact Frame.refl _ _
  · extract_lets +onlyGivenNames x1
    clear_value x1
    extract_lets +onlyGivenNames x2
    clear_value x2
    extract_lets +onlyGivenNames x3
    refine Frame.local x3 ?_ fun h3 => ?_
    · subst x3
      refine Frame.step ?_ (State.restartRecords_frame _ _) rfl
      exact Frame.refl _ _
    clear_value x3
    extract_lets +onlyGivenNames x4
    refine Frame.local x4 ?_ fun h4 => ?_
    · subst x4
      refine Frame.ite (fun _ => ?_) fun _ => ?_
      · refine Frame.step ?_ (State.applyConfig_frame _ _) rfl
        refine Frame.step ?_ (State.setPartition_frame _ _) rfl
        assumption
      · refine Frame.step ?_ (State.raise_frame _ _ _ _ _ _) rfl
        refine Frame.step ?_ (State.count_frame _ _) rfl
        assumption
    clear_value x4
    extract_lets +onlyGivenNames x5
    extract_lets +onlyGivenNames x6
    refine Frame.local x6 ?_ fun h6 => ?_
    · subst x6
      refine Frame.forEach ?_ fun _ _ _ => ?_
      · refine Frame.upd ?_ rfl
        assumption
      · refine Frame.step ?_ (State.refreshAble_frame _ _) rfl
        assumption
    clear_value x6
    refine Frame.step ?_ (State.serviceOn_frame _) rfl
    refine Frame.step ?_ (State.refreshPins_frame _) rfl
    refine Frame.step ?_ (State.showServices_frame _) rfl
    refine Frame.step ?_ (State.startCustomer_frame _) rfl
    assumption

theorem execConfigLoad_frame (a0 : Bool) (a1 : List (ℕ × ℕ)) (a2 : List (ℕ × ℕ × List ℕ)) (s : State) (t : State) (h : execConfigLoad a0 a1 a2 s = .next t) : Frame 0x3effff9 s t := by
  unfold execConfigLoad at h
  refine onCore_frame h ?_
  refine Frame.step ?_ (State.configLoad_frame _ _ _ _) rfl
  exact Frame.refl _ _

theorem State.vbatLow_frame (s : State) (a1 : ℕ) : Frame 0x181 s (State.vbatLow s a1) := by
  unfold State.vbatLow
  extract_lets +onlyGivenNames x1
  refine Frame.local x1 ?_ fun h1 => ?_
  · subst x1
    refine Frame.step ?_ (State.put_frame _ _ _) rfl
    exact Frame.refl _ _
  clear_value x1
  extract_lets +onlyGivenNames x2
  clear_value x2
  extract_lets +onlyGivenNames x3
  clear_value x3
  refine Frame.when ?_ fun _ _ => ?_
  · refine Frame.step ?_ (State.put_frame _ _ _) rfl
    assumption
  · refine Frame.step ?_ (State.raise_frame _ _ _ _ _ _) rfl
    assumption

theorem execVbatLow_frame (a0 : ℕ) (s : State) (t : State) (h : execVbatLow a0 s = .next t) : Frame 0x181 s t := by
  unfold execVbatLow at h
  refine onCore_frame h ?_
  refine Frame.step ?_ (State.vbatLow_frame _ _) rfl
  exact Frame.refl _ _

theorem State.warmEnd_frame (s : State) : Frame 0xa59da1 s (State.warmEnd s) := by
  unfold State.warmEnd
  refine Frame.ite (fun _ => ?_) fun _ => ?_
  · exact Frame.refl _ _
  · extract_lets +onlyGivenNames x1
    clear_value x1
    extract_lets +onlyGivenNames x2
    clear_value x2
    extract_lets +onlyGivenNames x3
    refine Frame.local x3 ?_ fun h3 => ?_
    · subst x3
      refine Frame.upd ?_ rfl
      exact Frame.refl _ _
    clear_value x3
    extract_lets +onlyGivenNames x4
    refine Frame.local x4 ?_ fun h4 => ?_
    · subst x4
      refine Frame.step ?_ (State.nextSave_frame _) rfl
      refine Frame.step ?_ (State.ledgerAgain_frame _) rfl
      refine Frame.step ?_ (State.lastReset_frame _ _) rfl
      assumption
    clear_value x4
    refine Frame.step ?_ (State.fire_frame _ _) rfl
    refine Frame.step ?_ (State.showRelay_frame _) rfl
    refine Frame.step ?_ (State.detectWarm_frame _) rfl
    refine Frame.step ?_ (State.phasorRestart_frame _ _) rfl
    refine Frame.step ?_ (State.alignRestart_frame _) rfl
    assumption

theorem execWarmResetEnd_frame (s : State) (t : State) (h : execWarmResetEnd s = .next t) : Frame 0xa59da1 s t := by
  unfold execWarmResetEnd at h
  refine checked_frame h ?_
  refine Frame.step ?_ (State.warmEnd_frame _) rfl
  exact Frame.refl _ _

theorem State.countOutage_frame (s : State) : Frame 0x800 s (State.countOutage s) := by
  unfold State.countOutage
  split
  · exact Frame.refl _ _
  · extract_lets +onlyGivenNames x1
    extract_lets +onlyGivenNames x2
    refine Frame.local x2 ?_ fun h2 => ?_
    · subst x2
      refine Frame.upd ?_ rfl
      exact Frame.refl _ _
    clear_value x2
    refine Frame.forEach ?_ fun _ _ _ => ?_
    · assumption
    · refine Frame.ite (fun _ => ?_) fun _ => ?_
      · extract_lets +onlyGivenNames x3
        clear_value x3
        extract_lets +onlyGivenNames x4
        clear_value x4
        refine Frame.step ?_ (State.setMeter_frame _ _ _) rfl
        assumption
      · assumption

theorem State.recover_frame (s : State) : Frame 0x201b81 s (State.recover s) := by
  unfold State.recover
  refine Frame.ite (fun _ => ?_) fun _ => ?_
  · exact Frame.refl _ _
  · extract_lets +onlyGivenNames x1
    refine Frame.local x1 ?_ fun h1 => ?_
    · subst x1
      refine Frame.step ?_ (State.put_frame _ _ _) rfl
      refine Frame.step ?_ (State.nextSave_frame _) rfl
      refine Frame.step ?_ (State.countOutage_frame _) rfl
      refine Frame.step ?_ (State.outageEnd_frame _) rfl
      exact Frame.refl _ _
    clear_value x1
    extract_lets +onlyGivenNames x2
    refine Frame.local x2 ?_ fun h2 => ?_
    · subst x2
      refine Frame.step ?_ (State.put_frame _ _ _) rfl
      refine Frame.step ?_ (State.put_frame _ _ _) rfl
      refine Frame.step ?_ (State.put_frame _ _ _) rfl
      refine Frame.step ?_ (State.put_frame _ _ _) rfl
      assumption
    clear_value x2
    extract_lets +onlyGivenNames x3
    clear_value x3
    extract_lets +onlyGivenNames x4
    clear_value x4
    extract_lets +onlyGivenNames x5
    refine Frame.local x5 ?_ fun h5 => ?_
    · subst x5
      refine Frame.upd ?_ rfl
      assumption
    clear_value x5
    refine Frame.step ?_ (State.modeConds_frame _) rfl
    refine Frame.step ?_ (State.raise_frame _ _ _ _ _ _) rfl
    assumption

theorem execSupplyRecover_frame (s : State) (t : State) (h : execSupplyRecover s = .next t) : Frame 0x201b81 s t := by
  unfold execSupplyRecover at h
  refine checked_frame h ?_
  refine Frame.step ?_ (State.recover_frame _) rfl
  exact Frame.refl _ _

theorem State.heartbeat_frame (s : State) : Frame 0x2201f81 s (State.heartbeat s) := by
  unfold State.heartbeat
  split
  · exact Frame.refl _ _
  · refine Frame.ite (fun _ => ?_) fun _ => ?_
    · exact Frame.refl _ _
    · refine Frame.step ?_ (State.requestWarm_frame _ _) rfl
      refine Frame.step ?_ (State.raise_frame _ _ _ _ _ _) rfl
      refine Frame.upd ?_ rfl
      exact Frame.refl _ _

theorem execHbTimeout_frame (s : State) (t : State) (h : execHbTimeout s = .next t) : Frame 0x2201f81 s t := by
  unfold execHbTimeout at h
  refine onEngines_frame h ?_
  refine Frame.step ?_ (State.heartbeat_frame _) rfl
  exact Frame.refl _ _

theorem State.vinReturn_frame (s : State) : Frame 0x6ffffff s (State.vinReturn s) := by
  unfold State.vinReturn
  refine Frame.ite (fun _ => ?_) fun _ => ?_
  · exact Frame.refl _ _
  · extract_lets +onlyGivenNames x1
    clear_value x1
    extract_lets +onlyGivenNames x2
    refine Frame.local x2 ?_ fun h2 => ?_
    · subst x2
      refine Frame.step ?_ (State.coldReset_frame _ _ _) rfl
      refine Frame.step ?_ (State.outageEnd_frame _) rfl
      exact Frame.refl _ _
    clear_value x2
    refine Frame.upd ?_ rfl
    assumption

theorem execVinReturn_frame (s : State) (t : State) (h : execVinReturn s = .next t) : Frame 0x6ffffff s t := by
  unfold execVinReturn at h
  refine checked_frame h ?_
  refine Frame.step ?_ (State.vinReturn_frame _) rfl
  exact Frame.refl _ _

theorem execBatteryLoss_frame (s : State) (t : State) (h : execBatteryLoss s = .next t) : Frame 0x400 s t := by
  unfold execBatteryLoss at h
  refine checked_frame h ?_
  refine Frame.ite (fun _ => ?_) fun _ => ?_
  · refine Frame.upd ?_ rfl
    exact Frame.refl _ _
  · exact Frame.refl _ _

theorem execVbatInsert_frame (s : State) (t : State) (h : execVbatInsert s = .next t) : Frame 0x1 s t := by
  unfold execVbatInsert at h
  refine onCore_frame h ?_
  refine Frame.step ?_ (State.put_frame _ _ _) rfl
  exact Frame.refl _ _

end Sys2Proof.Machine
end

