-- ==== Sys2Proof/Laws/FrameCommands.lean ====
section
/-!
SUPPORT. What each operation of Machine/Commands.lean can change: one lemma an operation, with the mask of the parts of the state it
may touch (the bits are listed in Laws/Frame.lean).
-/

set_option linter.unusedVariables false
set_option Elab.async false

namespace Sys2Proof.Machine

theorem State.stopJob_frame (s : State) (a1 : Job) (a2 : ℕ) : Frame 0x3609381 s (State.stopJob s a1 a2) := by
  unfold State.stopJob
  extract_lets +onlyGivenNames x1
  clear_value x1
  extract_lets +onlyGivenNames x2
  clear_value x2
  extract_lets +onlyGivenNames x3
  clear_value x3
  extract_lets +onlyGivenNames x4
  refine Frame.local x4 ?_ fun h4 => ?_
  · subst x4
    split
    · refine Frame.step ?_ (State.setPin_frame _ _ _) rfl
      exact Frame.refl _ _
    · refine Frame.step ?_ (State.captureReadEnd_frame _ _ _ _) rfl
      exact Frame.refl _ _
    · refine Frame.upd ?_ rfl
      exact Frame.refl _ _
    · refine Frame.ite (fun _ => ?_) fun _ => ?_
      · extract_lets +onlyGivenNames x5
        refine Frame.local x5 ?_ fun h5 => ?_
        · subst x5
          refine Frame.step ?_ (State.dropJoin_frame _ _) rfl
          exact Frame.refl _ _
        clear_value x5
        refine Frame.upd ?_ rfl
        assumption
      · exact Frame.refl _ _
    · exact Frame.refl _ _
  clear_value x4
  refine Frame.step ?_ (State.endJob_frame _ _ _ _ _ _) rfl
  assumption

theorem State.logCopy_frame {M : Nat} {s : State} {es : List PeatEntry} {dst minSev n : Nat} {r : State × Nat × Nat}
    (h : Frame M s r.1) (hm : 0x2000000 &&& M = 0x2000000) : Frame M s (State.logCopy es dst minSev n r).1 := by
  induction n generalizing r with
  | zero => exact h
  | succ n ih =>
    obtain ⟨t, cursor, k⟩ := r
    unfold State.logCopy
    split
    · exact ih (h.step ((State.emit_frame _ _).weaken rfl) hm)
    · exact h

theorem State.workUnits_frame (s : State) (a1 : Job) (a2 : ℕ) (a3 : ℕ) : Frame 0x2008000 s (State.workUnits s a1 a2 a3).1 := by
  unfold State.workUnits
  split
  · refine Frame.foldlFst ?_ fun _ _ _ => ?_
    · dsimp -zeta only
      exact Frame.refl _ _
    · split
      dsimp -zeta only
      refine Frame.step ?_ (State.emit_frame _ _) rfl
      assumption
  · dsimp -zeta only
    refine Frame.foldl ?_ fun _ _ _ => ?_
    · exact Frame.refl _ _
    · refine Frame.step ?_ (State.pinUnit_frame _ _ _ _) rfl
      assumption
  · dsimp -zeta only
    refine Frame.step ?_ (State.captureReadUnits_frame _ _ _ _ _ _ _ _) rfl
    exact Frame.refl _ _
  · split
    dsimp -zeta only
    refine Frame.ofFst (by assumption) ?_
    refine State.logCopy_frame ?_ rfl
    dsimp -zeta only
    exact Frame.refl _ _
  · dsimp -zeta only
    exact Frame.refl _ _

theorem State.setJob_frame (s : State) (a1 : Job) : Frame 0x200 s (State.setJob s a1) := by
  unfold State.setJob
  refine Frame.upd ?_ rfl
  exact Frame.refl _ _

theorem State.stopBad_frame (s : State) (a1 : Job) (a2 : ℕ) (a3 : ℕ) : Frame 0x3609381 s (State.stopBad s a1 a2 a3) := by
  unfold State.stopBad
  split
  extract_lets +onlyGivenNames x1
  clear_value x1
  refine Frame.step ?_ (State.stopJob_frame _ _ _) rfl
  refine Frame.step ?_ (State.uecc_frame _ _) rfl
  refine Frame.step ?_ (State.setJob_frame _ _) rfl
  refine Frame.step ?_ (Frame.ofFst ‹State.workUnits _ _ _ _ = _› (State.workUnits_frame _ _ _ _)) rfl
  exact Frame.refl _ _

theorem State.jobEnds_frame (s : State) (a1 : Job) : Frame 0x3bffff9 s (State.jobEnds s a1) := by
  unfold State.jobEnds
  split
  · refine Frame.step ?_ (State.endJob_frame _ _ _ _ _ _) rfl
    exact Frame.refl _ _
  · refine Frame.step ?_ (State.endJob_frame _ _ _ _ _ _) rfl
    refine Frame.step ?_ (State.showPins_frame _) rfl
    exact Frame.refl _ _
  · extract_lets +onlyGivenNames x1
    clear_value x1
    refine Frame.step ?_ (State.endJob_frame _ _ _ _ _ _) rfl
    refine Frame.step ?_ (State.captureReadEnd_frame _ _ _ _) rfl
    exact Frame.refl _ _
  · refine Frame.step ?_ (State.endJob_frame _ _ _ _ _ _) rfl
    exact Frame.refl _ _
  · refine Frame.step ?_ (State.capsuleEnd_frame _ _) rfl
    exact Frame.refl _ _
  · refine Frame.step ?_ (State.joinRun_frame _ _ _ _ _) rfl
    exact Frame.refl _ _
  · exact Frame.refl _ _
  · exact Frame.refl _ _
  · refine Frame.step ?_ (State.endKeyJob_frame _ _) rfl
    exact Frame.refl _ _

theorem State.commandStep_frame (s : State) (a1 : ℕ) (a2 : Bool) : Frame 0x3fffff9 s (State.commandStep s a1 a2) := by
  unfold State.commandStep
  split
  · exact Frame.refl _ _
  · extract_lets +onlyGivenNames x1
    clear_value x1
    refine Frame.ite (fun _ => ?_) fun _ => ?_
    · refine Frame.ite (fun _ => ?_) fun _ => ?_
      · refine Frame.step ?_ (State.stopJob_frame _ _ _) rfl
        exact Frame.refl _ _
      · exact Frame.refl _ _
    · refine Frame.ite (fun _ => ?_) fun _ => ?_
      · exact Frame.refl _ _
      · extract_lets +onlyGivenNames x2
        refine Frame.local x2 ?_ fun h2 => ?_
        · subst x2
          refine Frame.step ?_ (State.turnTaken_frame _ _) rfl
          exact Frame.refl _ _
        clear_value x2
        refine Frame.ite (fun _ => ?_) fun _ => ?_
        · assumption
        · refine Frame.ite (fun _ => ?_) fun _ => ?_
          · refine Frame.step ?_ (State.stopJob_frame _ _ _) rfl
            assumption
          · refine Frame.ite (fun _ => ?_) fun _ => ?_
            · refine Frame.step ?_ (State.stopJob_frame _ _ _) rfl
              assumption
            · extract_lets +onlyGivenNames x3
              clear_value x3
              split
              · refine Frame.step ?_ (State.endJob_frame _ _ _ _ _ _) rfl
                assumption
              · extract_lets +onlyGivenNames x4
                clear_value x4
                extract_lets +onlyGivenNames x5
                clear_value x5
                extract_lets +onlyGivenNames x6
                clear_value x6
                split
                · refine Frame.step ?_ (State.stopBad_frame _ _ _ _) rfl
                  assumption
                · split
                  extract_lets +onlyGivenNames x7
                  clear_value x7
                  extract_lets +onlyGivenNames x8
                  refine Frame.local x8 ?_ fun h8 => ?_
                  · subst x8
                    refine Frame.step ?_ (State.deviceMet_frame _ _ _) rfl
                    refine Frame.step ?_ (State.setJob_frame _ _) rfl
                    refine Frame.step ?_ (Frame.ofFst ‹State.workUnits _ _ _ _ = _› (State.workUnits_frame _ _ _ _)) rfl
                    assumption
                  clear_value x8
                  refine Frame.ite (fun _ => ?_) fun _ => ?_
                  · refine Frame.step ?_ (State.jobEnds_frame _ _) rfl
                    assumption
                  · split
                    · refine Frame.ite (fun _ => ?_) fun _ => ?_
                      · refine Frame.step ?_ (State.progress_frame _ _) rfl
                        assumption
                      · assumption
                    · assumption

theorem execCommandStep_frame (a0 : ℕ) (a1 : Bool) (s : State) (t : State) (h : execCommandStep a0 a1 s = .next t) : Frame 0x3fffff9 s t := by
  unfold execCommandStep at h
  refine onCore_frame h ?_
  refine Frame.step ?_ (State.commandStep_frame _ _ _) rfl
  exact Frame.refl _ _

theorem State.regSet_frame (s : State) (a1 : CmdHeader) (a2 : List (ℕ × ℕ)) : Frame 0x3effff9 s (State.regSet s a1 a2) := by
  unfold State.regSet
  extract_lets +onlyGivenNames x1
  clear_value x1
  split
  · extract_lets +onlyGivenNames x2
    refine Frame.local x2 ?_ fun h2 => ?_
    · subst x2
      refine Frame.step ?_ (State.refuse_frame _ _ _ _ _) rfl
      exact Frame.refl _ _
    clear_value x2
    extract_lets +onlyGivenNames x3
    refine Frame.local x3 ?_ fun h3 => ?_
    · subst x3
      split
      · refine Frame.step ?_ (State.refusedEffects_frame _ _ _ _ _) rfl
        assumption
      · assumption
    clear_value x3
    refine Frame.step ?_ (State.finish_frame _ _ _ _ _ _ _) rfl
    assumption
  · refine Frame.ite (fun _ => ?_) fun _ => ?_
    · refine Frame.step ?_ (State.finish_frame _ _ _ _ _ _ _) rfl
      exact Frame.refl _ _
    · refine Frame.step ?_ (State.finish_frame _ _ _ _ _ _ _) rfl
      refine Frame.step ?_ (State.runSet_frame _ _ _ _) rfl
      exact Frame.refl _ _

theorem State.setTable_frame (s : State) (a1 : CmdHeader) (a2 : ℕ) (a3 : ℕ) (a4 : List ℕ) : Frame 0x3effff9 s (State.setTable s a1 a2 a3 a4) := by
  unfold State.setTable
  refine Frame.ite (fun _ => ?_) fun _ => ?_
  · refine Frame.step ?_ (State.finish_frame _ _ _ _ _ _ _) rfl
    exact Frame.refl _ _
  · extract_lets +onlyGivenNames x1
    refine Frame.local x1 ?_ fun h1 => ?_
    · subst x1
      refine Frame.step ?_ (State.ahead_frame _) rfl
      exact Frame.refl _ _
    clear_value x1
    split
    · refine Frame.ite (fun _ => ?_) fun _ => ?_
      · extract_lets +onlyGivenNames x2
        clear_value x2
        refine Frame.step ?_ (State.finish_frame _ _ _ _ _ _ _) rfl
        exact Frame.refl _ _
      · refine Frame.step ?_ (State.finish_frame _ _ _ _ _ _ _) rfl
        exact Frame.refl _ _
    · extract_lets +onlyGivenNames x3
      clear_value x3
      extract_lets +onlyGivenNames x4
      refine Frame.local x4 ?_ fun h4 => ?_
      · subst x4
        refine Frame.ite (fun _ => ?_) fun _ => ?_
        · refine Frame.step ?_ (State.deferConfig_frame _ _) rfl
          exact Frame.refl _ _
        · refine Frame.step ?_ (State.acceptTable_frame _ _ _ _) rfl
          exact Frame.refl _ _
      clear_value x4
      refine Frame.step ?_ (State.finish_frame _ _ _ _ _ _ _) rfl
      assumption

theorem execTableSet_frame (a0 : CmdHeader) (a1 : ℕ) (a2 : ℕ) (a3 : List (ℕ × ℕ)) (a4 : Bool) (s : State) (t : State) (h : execTableSet a0 a1 a2 a3 a4 s = .next t) : Frame 0x3effff9 s t := by
  unfold execTableSet at h
  refine onCore_frame h ?_
  refine State.command_frame ?_ rfl fun _ _ => ?_
  · exact Frame.refl _ _
  · refine Frame.ite (fun _ => ?_) fun _ => ?_
    · refine Frame.step ?_ (State.finish_frame _ _ _ _ _ _ _) rfl
      assumption
    · refine Frame.ite (fun _ => ?_) fun _ => ?_
      · refine Frame.step ?_ (State.regSet_frame _ _ _) rfl
        assumption
      · refine Frame.step ?_ (State.setTable_frame _ _ _ _ _) rfl
        assumption

theorem State.getTable_frame (s : State) (a1 : CmdHeader) (a2 : ℕ) (a3 : ℕ) (a4 : ℕ) : Frame 0x2000201 s (State.getTable s a1 a2 a3 a4) := by
  unfold State.getTable
  extract_lets +onlyGivenNames x1
  clear_value x1
  refine Frame.ite (fun _ => ?_) fun _ => ?_
  · exact Frame.refl _ _
  · refine Frame.step ?_ (State.finish_frame _ _ _ _ _ _ _) rfl
    refine Frame.step ?_ (State.emit_frame _ _) rfl
    exact Frame.refl _ _

theorem State.opSet_frame (s : State) (a1 : CmdHeader) (a2 : ℕ) : Frame 0x2000601 s (State.opSet s a1 a2) := by
  unfold State.opSet
  extract_lets +onlyGivenNames x1
  clear_value x1
  refine Frame.ite (fun _ => ?_) fun _ => ?_
  · refine Frame.step ?_ (State.finish_frame _ _ _ _ _ _ _) rfl
    exact Frame.refl _ _
  · refine Frame.ite (fun _ => ?_) fun _ => ?_
    · refine Frame.step ?_ (State.finish_frame _ _ _ _ _ _ _) rfl
      exact Frame.refl _ _
    · refine Frame.ite (fun _ => ?_) fun _ => ?_
      · refine Frame.step ?_ (State.finish_frame _ _ _ _ _ _ _) rfl
        exact Frame.refl _ _
      · refine Frame.ite (fun _ => ?_) fun _ => ?_
        · refine Frame.step ?_ (State.finish_frame _ _ _ _ _ _ _) rfl
          exact Frame.refl _ _
        · extract_lets +onlyGivenNames x2
          refine Frame.local x2 ?_ fun h2 => ?_
          · subst x2
            refine Frame.step ?_ (State.put_frame _ _ _) rfl
            refine Frame.step ?_ (State.put_frame _ _ _) rfl
            refine Frame.step ?_ (State.put_frame _ _ _) rfl
            exact Frame.refl _ _
          clear_value x2
          extract_lets +onlyGivenNames x3
          clear_value x3
          extract_lets +onlyGivenNames x4
          refine Frame.local x4 ?_ fun h4 => ?_
          · subst x4
            refine Frame.upd ?_ rfl
            assumption
          clear_value x4
          refine Frame.step ?_ (State.startJob_frame _ _ _ _ _ _) rfl
          assumption

theorem execOpSet_frame (a0 : CmdHeader) (a1 : ℕ) (s : State) (t : State) (h : execOpSet a0 a1 s = .next t) : Frame 0x2000601 s t := by
  unfold execOpSet at h
  refine onCore_frame h ?_
  refine State.command_frame ?_ rfl fun _ _ => ?_
  · exact Frame.refl _ _
  · refine Frame.step ?_ (State.opSet_frame _ _ _) rfl
    assumption

theorem State.logRead_frame (s : State) (a1 : CmdHeader) (a2 : ℕ) (a3 : ℕ) (a4 : ℕ) (a5 : ℕ) (a6 : Bool) : Frame 0x200 s (State.logRead s a1 a2 a3 a4 a5 a6) := by
  unfold State.logRead
  extract_lets +onlyGivenNames x1
  clear_value x1
  refine Frame.step ?_ (State.startJob_frame _ _ _ _ _ _) rfl
  exact Frame.refl _ _

theorem execLogRead_frame (a0 : CmdHeader) (a1 : ℕ) (a2 : ℕ) (a3 : ℕ) (a4 : ℕ) (a5 : ℕ) (a6 : ℕ) (s : State) (t : State) (h : execLogRead a0 a1 a2 a3 a4 a5 a6 s = .next t) : Frame 0x2000201 s t := by
  unfold execLogRead at h
  extract_lets +onlyGivenNames x1 at h
  refine onCore_frame h ?_
  refine State.command_frame ?_ rfl fun _ _ => ?_
  · exact Frame.refl _ _
  · refine Frame.step ?_ (State.logRead_frame _ _ _ _ _ _ _) rfl
    assumption

theorem execReadTable_frame (a0 : CmdHeader) (a1 : ℕ) (a2 : ℕ) (a3 : ℕ) (a4 : ℕ) (s : State) (t : State) (h : execReadTable a0 a1 a2 a3 a4 s = .next t) : Frame 0x2000201 s t := by
  unfold execReadTable at h
  refine onCore_frame h ?_
  extract_lets +onlyGivenNames x1
  clear_value x1
  refine State.command_frame ?_ rfl fun _ _ => ?_
  · exact Frame.refl _ _
  · refine Frame.step ?_ (State.getTable_frame _ _ _ _ _) rfl
    assumption

end Sys2Proof.Machine
end

