-- ==== Sys2Proof/Laws/FrameReads.lean ====
section
/-!
SUPPORT. What each operation of Machine/Reads.lean can change: one lemma an operation, with the mask of the parts of the state it
may touch (the bits are listed in Laws/Frame.lean).
-/

set_option linter.unusedVariables false
set_option Elab.async false

namespace Sys2Proof.Machine

theorem State.busRead_frame (s : State) (a1 : Master) (a2 : ℕ) : Frame 0x185 s (State.busRead s a1 a2).2 := by
  unfold State.busRead
  refine Frame.iteSnd (fun _ => ?_) fun _ => ?_
  · dsimp -zeta only
    exact Frame.refl _ _
  · split
    · dsimp -zeta only
      refine Frame.step ?_ (State.decodeMiss_frame _ _) rfl
      exact Frame.refl _ _
    · extract_lets +onlyGivenNames x1
      clear_value x1
      extract_lets +onlyGivenNames x2
      refine Frame.local x2 ?_ fun h2 => ?_
      · subst x2
        refine Frame.ite (fun _ => ?_) fun _ => ?_
        · refine Frame.step ?_ (State.coefStep_frame _ _) rfl
          exact Frame.refl _ _
        · exact Frame.refl _ _
      clear_value x2
      split
      · dsimp -zeta only
        refine Frame.step ?_ (State.dropLatch_frame _ _ _) rfl
        assumption
      · extract_lets +onlyGivenNames x3
        refine Frame.local x3 ?_ fun h3 => ?_
        · subst x3
          refine Frame.when ?_ fun _ _ => ?_
          · assumption
          · refine Frame.step ?_ (State.count_frame _ _) rfl
            refine Frame.step ?_ (State.put_frame _ _ _) rfl
            assumption
        clear_value x3
        dsimp -zeta only
        refine Frame.foldl ?_ fun _ _ _ => ?_
        · assumption
        · refine Frame.step ?_ (State.setLatch_frame _ _ _ _) rfl
          assumption

theorem State.readOut_frame (s : State) (a1 : Master) (a2 : ℕ) : Frame 0x2000185 s (State.readOut s a1 a2) := by
  unfold State.readOut
  refine Frame.ite (fun _ => ?_) fun _ => ?_
  · refine Frame.step ?_ (State.misTrap_frame _ _ _) rfl
    exact Frame.refl _ _
  · split
    refine Frame.step ?_ (State.emit_frame _ _) rfl
    refine Frame.step ?_ (Frame.ofSnd ‹State.busRead _ _ _ = _› (State.busRead_frame _ _ _)) rfl
    exact Frame.refl _ _

end Sys2Proof.Machine
end

