-- ==== Sys2Proof/Laws/FrameTick.lean ====
section
/-!
SUPPORT. What each operation of Machine/Tick.lean can change: one lemma an operation, with the mask of the parts of the state it
may touch (the bits are listed in Laws/Frame.lean).
-/

set_option linter.unusedVariables false
set_option Elab.async false

namespace Sys2Proof.Machine

theorem State.clockRun_frame (s : State) : Frame 0x4000008 s (State.clockRun s) := by
  unfold State.clockRun
  extract_lets +onlyGivenNames x1
  clear_value x1
  refine Frame.upd (Frame.refl _ _) rfl List.prefix_rfl (fun h => absurd h (by decide))

theorem State.readSupplies_frame (s : State) : Frame 0x1000001 s (State.readSupplies s) := by
  unfold State.readSupplies
  extract_lets +onlyGivenNames x1
  refine Frame.local x1 ?_ fun h1 => ?_
  · subst x1
    refine Frame.step ?_ (State.draw_frame _) rfl
    refine Frame.step ?_ (State.setWord_frame _ _ _) rfl
    exact Frame.refl _ _
  clear_value x1
  refine Frame.step ?_ (State.draw_frame _) rfl
  refine Frame.step ?_ (State.put_frame _ _ _) rfl
  assumption

theorem State.rtcRun_frame (s : State) : Frame 0x400199 s s.rtcRun := by
  unfold State.rtcRun
  extract_lets +onlyGivenNames raw gain still c0 s0 c1 s1 phase
  clear_value raw gain still
  refine Frame.local s0 ?_ fun h0 => ?_
  · subst s0
    exact Frame.when (Frame.upd (Frame.refl _ _) rfl) fun u hu => hu.step (State.put_frame _ _ _) rfl
  clear_value s0
  refine Frame.local s1 ?_ fun h1 => ?_
  · subst s1
    exact Frame.ite (fun _ => Frame.upd h0 rfl) fun _ => Frame.upd h0 rfl
  clear_value phase s1
  refine Frame.ite (fun _ => Frame.upd h1 rfl) fun _ => ?_
  refine Frame.step ?_ (State.calTick_frame _) rfl
  exact Frame.upd h1 rfl

theorem State.hiddenErrors_frame (s : State) : Frame 0x181 s s.hiddenErrors := by
  unfold State.hiddenErrors
  extract_lets +onlyGivenNames n x1
  clear_value n
  refine Frame.local x1 ?_ fun h1 => ?_
  · subst x1
    split
    · refine Frame.step ?_ (State.raise_frame _ _ _ _ _ _) rfl
      refine Frame.step ?_ (State.count_frame _ _) rfl
      exact Frame.refl _ _
    · exact Frame.refl _ _
  clear_value x1
  split
  · refine Frame.ite (fun _ => ?_) fun _ => h1
    exact Frame.when (h1.step (State.sluiceEcc_frame _ _ _ _) rfl) fun u hu => hu.step (State.count_frame _ _) rfl
  · exact h1

theorem State.tick_frame (s : State) : Frame 0x76201b9 s (State.tick s) := by
  unfold State.tick
  refine Frame.ite (fun _ => ?_) fun _ => ?_
  · exact Frame.refl _ _
  · extract_lets +onlyGivenNames x1
    refine Frame.local x1 ?_ fun h1 => ?_
    · subst x1
      refine Frame.step ?_ (State.rtcRun_frame _) rfl
      exact Frame.refl _ _
    clear_value x1
    refine Frame.ite (fun _ => ?_) fun _ => ?_
    · assumption
    · extract_lets +onlyGivenNames x2
      refine Frame.local x2 ?_ fun h2 => ?_
      · subst x2
        refine Frame.step ?_ (State.hiddenErrors_frame _) rfl
        refine Frame.step ?_ (State.slewDone_frame _) rfl
        refine Frame.step ?_ (State.clockRun_frame _) rfl
        assumption
      clear_value x2
      extract_lets +onlyGivenNames x3
      refine Frame.local x3 ?_ fun h3 => ?_
      · subst x3
        refine Frame.ite (fun _ => ?_) fun _ => ?_
        · refine Frame.step ?_ (State.readSupplies_frame _) rfl
          assumption
        · assumption
      clear_value x3
      refine Frame.ite (fun _ => ?_) fun _ => ?_
      · refine Frame.step ?_ (State.osSend_frame _) rfl
        assumption
      · assumption

end Sys2Proof.Machine
end

