-- ==== Sys2Proof/Laws/FrameViews.lean ====
section
/-!
SUPPORT. What each operation of Machine/Views.lean can change: one lemma an operation, with the mask of the parts of the state it
may touch (the bits are listed in Laws/Frame.lean).
-/

set_option linter.unusedVariables false
set_option Elab.async false

namespace Sys2Proof.Machine

theorem State.patchCapture_frame (s : State) (a1 : ℕ) (a2 : List Byte) : Frame 0x1000 s (State.patchCapture s a1 a2) := by
  unfold State.patchCapture
  refine Frame.forEach ?_ fun _ _ _ => ?_
  · exact Frame.refl _ _
  · refine Frame.step ?_ (State.setCu_frame _ _ _) rfl
    assumption

theorem State.patchFen_frame (s : State) (a1 : ℕ) (a2 : List Byte) : Frame 0x8000 s (State.patchFen s a1 a2) := by
  unfold State.patchFen
  extract_lets +onlyGivenNames x1
  clear_value x1
  extract_lets +onlyGivenNames x2
  clear_value x2
  extract_lets +onlyGivenNames x3
  clear_value x3
  extract_lets +onlyGivenNames x4
  clear_value x4
  extract_lets +onlyGivenNames x5
  clear_value x5
  extract_lets +onlyGivenNames x6
  clear_value x6
  extract_lets +onlyGivenNames x7
  clear_value x7
  refine Frame.upd ?_ rfl
  exact Frame.refl _ _

theorem State.patchChain_frame (s : State) (a1 : ℕ) (a2 : List Byte) : Frame 0x100000 s (State.patchChain s a1 a2) := by
  unfold State.patchChain
  refine Frame.upd ?_ rfl
  exact Frame.refl _ _

theorem State.patchMeter_frame (s : State) (a1 : ℕ) (a2 : List Byte) : Frame 0x800 s (State.patchMeter s a1 a2) := by
  unfold State.patchMeter
  extract_lets +onlyGivenNames x1
  clear_value x1
  refine Frame.upd ?_ rfl
  exact Frame.refl _ _

theorem State.patchPeat_frame (s : State) (a1 : ℕ) (a2 : List Byte) : Frame 0x80 s (State.patchPeat s a1 a2) := by
  unfold State.patchPeat
  extract_lets +onlyGivenNames x1
  clear_value x1
  refine Frame.upd ?_ rfl
  exact Frame.refl _ _

theorem State.viewWrite_frame (s : State) (a1 : ℕ) (a2 : List Byte) : Frame 0x909882 s (State.viewWrite s a1 a2) := by
  unfold State.viewWrite
  extract_lets +onlyGivenNames x1
  refine Frame.local x1 ?_ fun h1 => ?_
  · subst x1
    refine Frame.ite (fun _ => ?_) fun _ => ?_
    · refine Frame.step ?_ (State.patchCapture_frame _ _ _) rfl
      refine Frame.step ?_ (State.patchFen_frame _ _ _) rfl
      exact Frame.refl _ _
    · refine Frame.step ?_ (State.patchChain_frame _ _ _) rfl
      refine Frame.step ?_ (State.patchMeter_frame _ _ _) rfl
      exact Frame.refl _ _
  clear_value x1
  refine Frame.step ?_ (State.memWrite_frame _ _ _) rfl
  refine Frame.step ?_ (State.patchPeat_frame _ _ _) rfl
  assumption

end Sys2Proof.Machine
end

