-- ==== Sys2Proof/Laws/FrameWrites.lean ====
section
/-!
SUPPORT. What each operation of Machine/Writes.lean can change: one lemma an operation, with the mask of the parts of the state it
may touch (the bits are listed in Laws/Frame.lean).
-/

set_option linter.unusedVariables false
set_option Elab.async false

namespace Sys2Proof.Machine

theorem execLaneEnable_frame (a0 : Master) (a1 : ℕ) (a2 : ℕ) (s : State) (t : State) (h : execLaneEnable a0 a1 a2 s = .next t) : Frame 0x3effff9 s t := by
  unfold execLaneEnable at h
  refine onCore_frame h ?_
  refine Frame.step ?_ (State.busWrite_frame _ _ _ _ _) rfl
  exact Frame.refl _ _

theorem State.readAny_frame (s : State) (a1 : Master) (a2 : ℕ) (a3 : ℕ) : Frame 0x2000185 s (State.readAny s a1 a2 a3) := by
  unfold State.readAny
  refine Frame.ite (fun _ => ?_) fun _ => ?_
  · refine Frame.step ?_ (State.misTrap_frame _ _ _) rfl
    exact Frame.refl _ _
  · refine Frame.ite (fun _ => ?_) fun _ => ?_
    · refine Frame.step ?_ (State.emit_frame _ _) rfl
      exact Frame.refl _ _
    · split
      · refine Frame.ite (fun _ => ?_) fun _ => ?_
        · refine Frame.step ?_ (State.claimRead_frame _ _ _) rfl
          exact Frame.refl _ _
        · refine Frame.step ?_ (State.readOut_frame _ _ _) rfl
          exact Frame.refl _ _
      · refine Frame.step ?_ (State.readOut_frame _ _ _) rfl
        exact Frame.refl _ _

theorem execPartnerRead_frame (a0 : Master) (a1 : ℕ) (a2 : ℕ) (s : State) (t : State) (h : execPartnerRead a0 a1 a2 s = .next t) : Frame 0x2000185 s t := by
  unfold execPartnerRead at h
  refine onCore_frame h ?_
  refine Frame.step ?_ (State.readAny_frame _ _ _ _) rfl
  exact Frame.refl _ _

theorem execMeterDisable_frame (a0 : Master) (a1 : ℕ) (a2 : ℕ) (s : State) (t : State) (h : execMeterDisable a0 a1 a2 s = .next t) : Frame 0x3effff9 s t := by
  unfold execMeterDisable at h
  refine onCore_frame h ?_
  refine Frame.step ?_ (State.busWrite_frame _ _ _ _ _) rfl
  exact Frame.refl _ _

theorem execCoreRun_frame (a0 : Master) (a1 : ℕ) (a2 : ℕ) (s : State) (t : State) (h : execCoreRun a0 a1 a2 s = .next t) : Frame 0x3effff9 s t := by
  unfold execCoreRun at h
  refine onCore_frame h ?_
  refine Frame.step ?_ (State.busWrite_frame _ _ _ _ _) rfl
  exact Frame.refl _ _

theorem execCoreYield_frame (a0 : Master) (a1 : ℕ) (a2 : ℕ) (s : State) (t : State) (h : execCoreYield a0 a1 a2 s = .next t) : Frame 0x3effff9 s t := by
  unfold execCoreYield at h
  refine onCore_frame h ?_
  refine Frame.step ?_ (State.busWrite_frame _ _ _ _ _) rfl
  exact Frame.refl _ _

theorem execPairDisable_frame (a0 : Master) (a1 : ℕ) (s : State) (t : State) (h : execPairDisable a0 a1 s = .next t) : Frame 0x3effff9 s t := by
  unfold execPairDisable at h
  refine onCore_frame h ?_
  refine Frame.step ?_ (State.busWrite_frame _ _ _ _ _) rfl
  exact Frame.refl _ _

theorem execCpReleaseAll_frame (a0 : Master) (a1 : ℕ) (a2 : ℕ) (s : State) (t : State) (h : execCpReleaseAll a0 a1 a2 s = .next t) : Frame 0x3effff9 s t := by
  unfold execCpReleaseAll at h
  refine onCore_frame h ?_
  refine Frame.step ?_ (State.busWrite_frame _ _ _ _ _) rfl
  exact Frame.refl _ _

theorem State.mramWrite_frame (s : State) (a1 : Master) (a2 : ℕ) (a3 : List Byte) : Frame 0x909883 s (State.mramWrite s a1 a2 a3) := by
  unfold State.mramWrite
  refine Frame.ite (fun _ => ?_) fun _ => ?_
  · refine Frame.step ?_ (State.viewWrite_frame _ _ _) rfl
    exact Frame.refl _ _
  · refine Frame.ite (fun _ => ?_) fun _ => ?_
    · refine Frame.step ?_ (State.refuse_frame _ _ _ _ _) rfl
      exact Frame.refl _ _
    · extract_lets +onlyGivenNames x1
      clear_value x1
      extract_lets +onlyGivenNames x2
      refine Frame.local x2 ?_ fun h2 => ?_
      · subst x2
        refine Frame.step ?_ (State.auditAdd_frame _ _) rfl
        refine Frame.step ?_ (State.sealBy_frame _ _) rfl
        exact Frame.refl _ _
      clear_value x2
      refine Frame.step ?_ (State.viewWrite_frame _ _ _) rfl
      assumption

theorem execRegisterWrite_frame (a0 : Master) (a1 : ℕ) (a2 : ℕ) (a3 : ℕ) (s : State) (t : State) (h : execRegisterWrite a0 a1 a2 a3 s = .next t) : Frame 0x3effff9 s t := by
  unfold execRegisterWrite at h
  refine onCore_frame h ?_
  refine Frame.step ?_ (State.busWrite_frame _ _ _ _ _) rfl
  exact Frame.refl _ _

theorem execStatCounterClear_frame (a0 : Master) (a1 : ℕ) (a2 : ℕ) (s : State) (t : State) (h : execStatCounterClear a0 a1 a2 s = .next t) : Frame 0x3effff9 s t := by
  unfold execStatCounterClear at h
  refine onCore_frame h ?_
  refine Frame.step ?_ (State.busWrite_frame _ _ _ _ _) rfl
  exact Frame.refl _ _

theorem execLatchRead_frame (a0 : Master) (a1 : ℕ) (a2 : ℕ) (s : State) (t : State) (h : execLatchRead a0 a1 a2 s = .next t) : Frame 0x2000185 s t := by
  unfold execLatchRead at h
  refine onCore_frame h ?_
  refine Frame.step ?_ (State.readAny_frame _ _ _ _) rfl
  exact Frame.refl _ _

theorem State.memStore_frame (s : State) (a1 : Master) (a2 : ℕ) (a3 : List Byte) : Frame 0x909883 s (State.memStore s a1 a2 a3) := by
  unfold State.memStore
  refine Frame.ite (fun _ => ?_) fun _ => ?_
  · refine Frame.step ?_ (State.mramWrite_frame _ _ _ _) rfl
    exact Frame.refl _ _
  · refine Frame.ite (fun _ => ?_) fun _ => ?_
    · exact Frame.refl _ _
    · refine Frame.step ?_ (State.viewWrite_frame _ _ _) rfl
      exact Frame.refl _ _

theorem State.access_frame (s : State) (a1 : Master) (a2 : ℕ) (a3 : Bool) (a4 : List Byte) : Frame 0x3ffffff s (State.access s a1 a2 a3 a4) := by
  unfold State.access
  refine Frame.ite (fun _ => ?_) fun _ => ?_
  · refine Frame.step ?_ (State.misTrap_frame _ _ _) rfl
    exact Frame.refl _ _
  · refine Frame.ite (fun _ => ?_) fun _ => ?_
    · refine Frame.when ?_ fun _ _ => ?_
      · refine Frame.step ?_ (State.decodeMiss_frame _ _) rfl
        exact Frame.refl _ _
      · refine Frame.step ?_ (State.emit_frame _ _) rfl
        assumption
    · refine Frame.ite (fun _ => ?_) fun _ => ?_
      · refine Frame.ite (fun _ => ?_) fun _ => ?_
        · refine Frame.step ?_ (State.busWrite_frame _ _ _ _ _) rfl
          exact Frame.refl _ _
        · refine Frame.step ?_ (State.readAny_frame _ _ _ _) rfl
          exact Frame.refl _ _
      · refine Frame.ite (fun _ => ?_) fun _ => ?_
        · refine Frame.ite (fun _ => ?_) fun _ => ?_
          · refine Frame.step ?_ (State.emit_frame _ _) rfl
            exact Frame.refl _ _
          · refine Frame.step ?_ (State.draw_frame _) rfl
            refine Frame.step ?_ (State.emit_frame _ _) rfl
            exact Frame.refl _ _
        · refine Frame.ite (fun _ => ?_) fun _ => ?_
          · exact Frame.refl _ _
          · refine Frame.ite (fun _ => ?_) fun _ => ?_
            · refine Frame.step ?_ (State.memStore_frame _ _ _ _) rfl
              exact Frame.refl _ _
            · split
              · refine Frame.step ?_ (State.emit_frame _ _) rfl
                refine Frame.step ?_ (State.uecc_frame _ _) rfl
                exact Frame.refl _ _
              · refine Frame.step ?_ (State.emit_frame _ _) rfl
                exact Frame.refl _ _

theorem execInternalAccess_frame (a0 : Master) (a1 : ℕ) (a2 : Bool) (a3 : List Byte) (s : State) (t : State) (h : execInternalAccess a0 a1 a2 a3 s = .next t) : Frame 0x3ffffff s t := by
  unfold execInternalAccess at h
  refine onCore_frame h ?_
  refine Frame.step ?_ (State.access_frame _ _ _ _ _) rfl
  exact Frame.refl _ _

theorem execMramLegalWrite_frame (a0 : Master) (a1 : ℕ) (a2 : List Byte) (s : State) (t : State) (h : execMramLegalWrite a0 a1 a2 s = .next t) : Frame 0x909883 s t := by
  unfold execMramLegalWrite at h
  refine onCore_frame h ?_
  refine Frame.step ?_ (State.mramWrite_frame _ _ _ _) rfl
  exact Frame.refl _ _

theorem execGlReset_frame (a0 : Master) (a1 : ℕ) (s : State) (t : State) (h : execGlReset a0 a1 s = .next t) : Frame 0x3effff9 s t := by
  unfold execGlReset at h
  refine onCore_frame h ?_
  refine Frame.step ?_ (State.busWrite_frame _ _ _ _ _) rfl
  exact Frame.refl _ _

theorem execCalCommit_frame (a0 : Master) (a1 : ℕ) (s : State) (t : State) (h : execCalCommit a0 a1 s = .next t) : Frame 0x3effff9 s t := by
  unfold execCalCommit at h
  refine onCore_frame h ?_
  refine Frame.step ?_ (State.busWrite_frame _ _ _ _ _) rfl
  exact Frame.refl _ _

theorem execCalSnapRead_frame (a0 : Master) (s : State) (t : State) (h : execCalSnapRead a0 s = .next t) : Frame 0x2000185 s t := by
  unfold execCalSnapRead at h
  refine onCore_frame h ?_
  refine Frame.step ?_ (State.readOut_frame _ _ _) rfl
  exact Frame.refl _ _

theorem execTrimStart_frame (a0 : Master) (a1 : ℕ) (s : State) (t : State) (h : execTrimStart a0 a1 s = .next t) : Frame 0x3effff9 s t := by
  unfold execTrimStart at h
  refine onCore_frame h ?_
  refine Frame.step ?_ (State.busWrite_frame _ _ _ _ _) rfl
  exact Frame.refl _ _

theorem execLaneResync_frame (a0 : Master) (a1 : ℕ) (a2 : ℕ) (s : State) (t : State) (h : execLaneResync a0 a1 a2 s = .next t) : Frame 0x3effff9 s t := by
  unfold execLaneResync at h
  refine onCore_frame h ?_
  refine Frame.step ?_ (State.busWrite_frame _ _ _ _ _) rfl
  exact Frame.refl _ _

theorem execLaneDisable_frame (a0 : Master) (a1 : ℕ) (a2 : ℕ) (s : State) (t : State) (h : execLaneDisable a0 a1 a2 s = .next t) : Frame 0x3effff9 s t := by
  unfold execLaneDisable at h
  refine onCore_frame h ?_
  refine Frame.step ?_ (State.busWrite_frame _ _ _ _ _) rfl
  exact Frame.refl _ _

theorem execInjSoftTrigger_frame (a0 : Master) (a1 : ℕ) (a2 : ℕ) (s : State) (t : State) (h : execInjSoftTrigger a0 a1 a2 s = .next t) : Frame 0x3effff9 s t := by
  unfold execInjSoftTrigger at h
  refine onCore_frame h ?_
  refine Frame.step ?_ (State.busWrite_frame _ _ _ _ _) rfl
  exact Frame.refl _ _

theorem execFcSwap_frame (a0 : Master) (a1 : ℕ) (a2 : ℕ) (s : State) (t : State) (h : execFcSwap a0 a1 a2 s = .next t) : Frame 0x3effff9 s t := by
  unfold execFcSwap at h
  refine onCore_frame h ?_
  refine Frame.step ?_ (State.busWrite_frame _ _ _ _ _) rfl
  exact Frame.refl _ _

theorem execFcLoadFactory_frame (a0 : Master) (a1 : ℕ) (a2 : ℕ) (s : State) (t : State) (h : execFcLoadFactory a0 a1 a2 s = .next t) : Frame 0x3effff9 s t := by
  unfold execFcLoadFactory at h
  refine onCore_frame h ?_
  refine Frame.step ?_ (State.busWrite_frame _ _ _ _ _) rfl
  exact Frame.refl _ _

theorem execFcCoefWrite_frame (a0 : Master) (a1 : ℕ) (a2 : ℕ) (s : State) (t : State) (h : execFcCoefWrite a0 a1 a2 s = .next t) : Frame 0x3effff9 s t := by
  unfold execFcCoefWrite at h
  refine onCore_frame h ?_
  refine Frame.step ?_ (State.busWrite_frame _ _ _ _ _) rfl
  exact Frame.refl _ _

theorem execOsEnable_frame (a0 : Master) (a1 : ℕ) (a2 : ℕ) (s : State) (t : State) (h : execOsEnable a0 a1 a2 s = .next t) : Frame 0x3effff9 s t := by
  unfold execOsEnable at h
  refine onCore_frame h ?_
  refine Frame.step ?_ (State.busWrite_frame _ _ _ _ _) rfl
  exact Frame.refl _ _

theorem execSlotEnable_frame (a0 : Master) (a1 : ℕ) (a2 : ℕ) (s : State) (t : State) (h : execSlotEnable a0 a1 a2 s = .next t) : Frame 0x3effff9 s t := by
  unfold execSlotEnable at h
  refine onCore_frame h ?_
  refine Frame.step ?_ (State.busWrite_frame _ _ _ _ _) rfl
  exact Frame.refl _ _

theorem execAlignEnable_frame (a0 : Master) (a1 : ℕ) (s : State) (t : State) (h : execAlignEnable a0 a1 s = .next t) : Frame 0x3effff9 s t := by
  unfold execAlignEnable at h
  refine onCore_frame h ?_
  refine Frame.step ?_ (State.busWrite_frame _ _ _ _ _) rfl
  exact Frame.refl _ _

theorem execAlignDisable_frame (a0 : Master) (a1 : ℕ) (s : State) (t : State) (h : execAlignDisable a0 a1 s = .next t) : Frame 0x3effff9 s t := by
  unfold execAlignDisable at h
  refine onCore_frame h ?_
  refine Frame.step ?_ (State.busWrite_frame _ _ _ _ _) rfl
  exact Frame.refl _ _

theorem execRuleClear_frame (a0 : Master) (a1 : ℕ) (a2 : ℕ) (s : State) (t : State) (h : execRuleClear a0 a1 a2 s = .next t) : Frame 0x3effff9 s t := by
  unfold execRuleClear at h
  refine onCore_frame h ?_
  refine Frame.step ?_ (State.busWrite_frame _ _ _ _ _) rfl
  exact Frame.refl _ _

theorem execIwClear_frame (a0 : Master) (a1 : ℕ) (a2 : ℕ) (s : State) (t : State) (h : execIwClear a0 a1 a2 s = .next t) : Frame 0x3effff9 s t := by
  unfold execIwClear at h
  refine onCore_frame h ?_
  refine Frame.step ?_ (State.busWrite_frame _ _ _ _ _) rfl
  exact Frame.refl _ _

theorem execOwEnable_frame (a0 : Master) (a1 : ℕ) (a2 : ℕ) (s : State) (t : State) (h : execOwEnable a0 a1 a2 s = .next t) : Frame 0x3effff9 s t := by
  unfold execOwEnable at h
  refine onCore_frame h ?_
  refine Frame.step ?_ (State.busWrite_frame _ _ _ _ _) rfl
  exact Frame.refl _ _

theorem execIwEnable_frame (a0 : Master) (a1 : ℕ) (a2 : ℕ) (s : State) (t : State) (h : execIwEnable a0 a1 a2 s = .next t) : Frame 0x3effff9 s t := by
  unfold execIwEnable at h
  refine onCore_frame h ?_
  refine Frame.step ?_ (State.busWrite_frame _ _ _ _ _) rfl
  exact Frame.refl _ _

theorem execIwDisable_frame (a0 : Master) (a1 : ℕ) (a2 : ℕ) (s : State) (t : State) (h : execIwDisable a0 a1 a2 s = .next t) : Frame 0x3effff9 s t := by
  unfold execIwDisable at h
  refine onCore_frame h ?_
  refine Frame.step ?_ (State.busWrite_frame _ _ _ _ _) rfl
  exact Frame.refl _ _

theorem execLedgerAck_frame (a0 : Master) (a1 : ℕ) (s : State) (t : State) (h : execLedgerAck a0 a1 s = .next t) : Frame 0x3effff9 s t := by
  unfold execLedgerAck at h
  refine onCore_frame h ?_
  refine Frame.step ?_ (State.busWrite_frame _ _ _ _ _) rfl
  exact Frame.refl _ _

theorem execLedgerResend_frame (a0 : Master) (a1 : ℕ) (s : State) (t : State) (h : execLedgerResend a0 a1 s = .next t) : Frame 0x3effff9 s t := by
  unfold execLedgerResend at h
  refine onCore_frame h ?_
  refine Frame.step ?_ (State.busWrite_frame _ _ _ _ _) rfl
  exact Frame.refl _ _

theorem execCpArm_frame (a0 : Master) (a1 : ℕ) (a2 : ℕ) (s : State) (t : State) (h : execCpArm a0 a1 a2 s = .next t) : Frame 0x3effff9 s t := by
  unfold execCpArm at h
  refine onCore_frame h ?_
  refine Frame.step ?_ (State.busWrite_frame _ _ _ _ _) rfl
  exact Frame.refl _ _

theorem execCpDisarm_frame (a0 : Master) (a1 : ℕ) (a2 : ℕ) (s : State) (t : State) (h : execCpDisarm a0 a1 a2 s = .next t) : Frame 0x3effff9 s t := by
  unfold execCpDisarm at h
  refine onCore_frame h ?_
  refine Frame.step ?_ (State.busWrite_frame _ _ _ _ _) rfl
  exact Frame.refl _ _

theorem execCpTrig_frame (a0 : Master) (a1 : ℕ) (a2 : ℕ) (s : State) (t : State) (h : execCpTrig a0 a1 a2 s = .next t) : Frame 0x3effff9 s t := by
  unfold execCpTrig at h
  refine onCore_frame h ?_
  refine Frame.step ?_ (State.busWrite_frame _ _ _ _ _) rfl
  exact Frame.refl _ _

theorem execSqDoorbell_frame (a0 : Master) (a1 : ℕ) (a2 : ℕ) (s : State) (t : State) (h : execSqDoorbell a0 a1 a2 s = .next t) : Frame 0x3effff9 s t := by
  unfold execSqDoorbell at h
  refine onCore_frame h ?_
  refine Frame.step ?_ (State.busWrite_frame _ _ _ _ _) rfl
  exact Frame.refl _ _

theorem execCqDoorbell_frame (a0 : Master) (a1 : ℕ) (a2 : ℕ) (s : State) (t : State) (h : execCqDoorbell a0 a1 a2 s = .next t) : Frame 0x3effff9 s t := by
  unfold execCqDoorbell at h
  refine onCore_frame h ?_
  refine Frame.step ?_ (State.busWrite_frame _ _ _ _ _) rfl
  exact Frame.refl _ _

theorem execDrDoorbell_frame (a0 : Master) (a1 : ℕ) (a2 : ℕ) (s : State) (t : State) (h : execDrDoorbell a0 a1 a2 s = .next t) : Frame 0x3effff9 s t := by
  unfold execDrDoorbell at h
  refine onCore_frame h ?_
  refine Frame.step ?_ (State.busWrite_frame _ _ _ _ _) rfl
  exact Frame.refl _ _

theorem execRingEnable_frame (a0 : Master) (a1 : ℕ) (a2 : ℕ) (s : State) (t : State) (h : execRingEnable a0 a1 a2 s = .next t) : Frame 0x3effff9 s t := by
  unfold execRingEnable at h
  refine onCore_frame h ?_
  refine Frame.step ?_ (State.busWrite_frame _ _ _ _ _) rfl
  exact Frame.refl _ _

theorem execRingDisable_frame (a0 : Master) (a1 : ℕ) (a2 : ℕ) (s : State) (t : State) (h : execRingDisable a0 a1 a2 s = .next t) : Frame 0x3effff9 s t := by
  unfold execRingDisable at h
  refine onCore_frame h ?_
  refine Frame.step ?_ (State.busWrite_frame _ _ _ _ _) rfl
  exact Frame.refl _ _

theorem execMsixUnmask_frame (a0 : Master) (a1 : ℕ) (a2 : ℕ) (s : State) (t : State) (h : execMsixUnmask a0 a1 a2 s = .next t) : Frame 0x3effff9 s t := by
  unfold execMsixUnmask at h
  refine onCore_frame h ?_
  refine Frame.step ?_ (State.busWrite_frame _ _ _ _ _) rfl
  exact Frame.refl _ _

theorem execHbWrite_frame (a0 : Master) (a1 : ℕ) (s : State) (t : State) (h : execHbWrite a0 a1 s = .next t) : Frame 0x3effff9 s t := by
  unfold execHbWrite at h
  refine onCore_frame h ?_
  refine Frame.step ?_ (State.busWrite_frame _ _ _ _ _) rfl
  exact Frame.refl _ _

theorem execThreadFlagSet_frame (a0 : Master) (a1 : ℕ) (a2 : ℕ) (s : State) (t : State) (h : execThreadFlagSet a0 a1 a2 s = .next t) : Frame 0x3effff9 s t := by
  unfold execThreadFlagSet at h
  refine onCore_frame h ?_
  refine Frame.step ?_ (State.busWrite_frame _ _ _ _ _) rfl
  exact Frame.refl _ _

theorem execThreadFlagClear_frame (a0 : Master) (a1 : ℕ) (a2 : ℕ) (s : State) (t : State) (h : execThreadFlagClear a0 a1 a2 s = .next t) : Frame 0x3effff9 s t := by
  unfold execThreadFlagClear at h
  refine onCore_frame h ?_
  refine Frame.step ?_ (State.busWrite_frame _ _ _ _ _) rfl
  exact Frame.refl _ _

theorem execThreadWait_frame (a0 : Master) (a1 : ℕ) (a2 : ℕ) (s : State) (t : State) (h : execThreadWait a0 a1 a2 s = .next t) : Frame 0x3effff9 s t := by
  unfold execThreadWait at h
  refine onCore_frame h ?_
  refine Frame.step ?_ (State.busWrite_frame _ _ _ _ _) rfl
  exact Frame.refl _ _

theorem execThreadEnable_frame (a0 : Master) (a1 : ℕ) (a2 : ℕ) (s : State) (t : State) (h : execThreadEnable a0 a1 a2 s = .next t) : Frame 0x3effff9 s t := by
  unfold execThreadEnable at h
  refine onCore_frame h ?_
  refine Frame.step ?_ (State.busWrite_frame _ _ _ _ _) rfl
  exact Frame.refl _ _

theorem execThreadDisable_frame (a0 : Master) (a1 : ℕ) (a2 : ℕ) (s : State) (t : State) (h : execThreadDisable a0 a1 a2 s = .next t) : Frame 0x3effff9 s t := by
  unfold execThreadDisable at h
  refine onCore_frame h ?_
  refine Frame.step ?_ (State.busWrite_frame _ _ _ _ _) rfl
  exact Frame.refl _ _

theorem execSoftwareEvent_frame (a0 : Master) (a1 : ℕ) (s : State) (t : State) (h : execSoftwareEvent a0 a1 s = .next t) : Frame 0x3effff9 s t := by
  unfold execSoftwareEvent at h
  refine onCore_frame h ?_
  refine Frame.step ?_ (State.busWrite_frame _ _ _ _ _) rfl
  exact Frame.refl _ _

theorem execDlArm_frame (a0 : Master) (a1 : ℕ) (a2 : ℕ) (s : State) (t : State) (h : execDlArm a0 a1 a2 s = .next t) : Frame 0x3effff9 s t := by
  unfold execDlArm at h
  refine onCore_frame h ?_
  refine Frame.step ?_ (State.busWrite_frame _ _ _ _ _) rfl
  exact Frame.refl _ _

theorem execDlDueArm_frame (a0 : Master) (a1 : ℕ) (a2 : ℕ) (s : State) (t : State) (h : execDlDueArm a0 a1 a2 s = .next t) : Frame 0x3effff9 s t := by
  unfold execDlDueArm at h
  refine onCore_frame h ?_
  refine Frame.step ?_ (State.busWrite_frame _ _ _ _ _) rfl
  exact Frame.refl _ _

theorem execDlDone_frame (a0 : Master) (a1 : ℕ) (a2 : ℕ) (s : State) (t : State) (h : execDlDone a0 a1 a2 s = .next t) : Frame 0x3effff9 s t := by
  unfold execDlDone at h
  refine onCore_frame h ?_
  refine Frame.step ?_ (State.busWrite_frame _ _ _ _ _) rfl
  exact Frame.refl _ _

theorem execPairEnable_frame (a0 : Master) (a1 : ℕ) (s : State) (t : State) (h : execPairEnable a0 a1 s = .next t) : Frame 0x3effff9 s t := by
  unfold execPairEnable at h
  refine onCore_frame h ?_
  refine Frame.step ?_ (State.busWrite_frame _ _ _ _ _) rfl
  exact Frame.refl _ _

end Sys2Proof.Machine
end

