-- ==== Sys2Proof/Laws/KeyStore.lean ====
section
/-!
SUPPORT. Key cells: what sealing a cell leaves alone, that a sealed cell verifies, and what a slot holds after it has been written.
-/

set_option Elab.async false

namespace Sys2Proof.Machine

@[simp] theorem KeyCell.seal_share (c : KeyCell) : c.seal.share = c.share := rfl
@[simp] theorem KeyCell.seal_mask (c : KeyCell) : c.seal.mask = c.mask := rfl
@[simp] theorem KeyCell.seal_attr (c : KeyCell) : c.seal.attr = c.attr := rfl
@[simp] theorem KeyCell.seal_gen (c : KeyCell) : c.seal.gen = c.gen := rfl
@[simp] theorem KeyCell.seal_check (c : KeyCell) : c.seal.check = c.check := rfl

/-- A sealed cell verifies (R331, R337). -/
@[simp] theorem KeyCell.seal_ok (c : KeyCell) : c.seal.ok = true := beq_self_eq_true _

/-- Every slot leaves the factory with a cell that verifies in force. -/
@[simp] theorem factorySlot_ok (k : Nat) : (factorySlot k).cell.ok = true := by
  unfold factorySlot
  split <;> exact KeyCell.seal_ok _

end Sys2Proof.Machine
end

