-- ==== Sys2Proof/Laws/Windows.lean ====
section
/-!
SUPPORT. Which blocks' registers the shared operations can change: a mask with one bit for each 64 KiB window of BAR0.
-/

set_option Elab.async false

namespace Sys2Proof.Machine

/-- t has the registers of s in every window outside the mask. -/
def Keeps (W : Nat) (s t : State) : Prop := ∀ o, W.testBit (o / 0x10000) = false → t.reg o = s.reg o

variable {W V : Nat} {s t u : State}

theorem Keeps.refl (W : Nat) (s : State) : Keeps W s s := fun _ _ => rfl

theorem Keeps.of_regs (h : t.regs = s.regs) : Keeps W s t := fun o _ => by simp [State.reg, h]

theorem Keeps.trans (h : Keeps W s t) (h' : Keeps W t u) : Keeps W s u := fun o ho => (h' o ho).trans (h o ho)

theorem Keeps.weaken (h : Keeps V s t) (hm : V &&& W = V) : Keeps W s t := fun o ho =>
  h o (by rw [← hm, Nat.testBit_land, ho, Bool.and_false])

theorem Keeps.step (h : Keeps W s t) (h' : Keeps V t u) (hm : V &&& W = V) : Keeps W s u := h.trans (h'.weaken hm)

theorem Keeps.ite {c : Prop} {_ : Decidable c} (h : c → Keeps W s t) (h' : ¬ c → Keeps W s u) : Keeps W s (if c then t else u) := by
  split
  · exact h ‹_›
  · exact h' ‹_›

theorem Keeps.when {c : Bool} {f : State → State} (h : Keeps W s t) (hf : c = true → Keeps W t (f t)) : Keeps W s (t.when c f) := by
  unfold State.when
  split
  · exact h.trans (hf ‹_›)
  · exact h

theorem Keeps.foldl {α : Type} {f : State → α → State} (hf : ∀ s a, Keeps W s (f s a)) (l : List α) :
    ∀ s, Keeps W s (l.foldl f s) := by
  induction l with
  | nil => exact fun s => Keeps.refl W s
  | cons a l ih => exact fun s => (hf s a).trans (ih (f s a))

theorem Keeps.forEach {f : Nat → State → State} {n : Nat} (hf : ∀ i < n, ∀ s, Keeps W s (f i s)) (s : State) :
    Keeps W s (s.forEach n f) := by
  unfold State.forEach
  suffices h : ∀ l : List Nat, (∀ i ∈ l, i < n) → ∀ s, Keeps W s (l.foldl (fun t i => f i t) s) from
    h _ (fun i hi => List.mem_range.mp hi) s
  intro l
  induction l with
  | nil => exact fun _ s => Keeps.refl W s
  | cons a l ih =>
    exact fun hl s => (hf a (hl a (by simp)) s).trans (ih (fun i hi => hl i (by simp [hi])) (f a s))

theorem Keeps.setReg {off : Nat} (w : Word) (h : Keeps W s t) (ho : W.testBit (off / 0x10000) = true) : Keeps W s (t.setReg off w) :=
  h.trans fun o hw => State.reg_setReg_other w (by rintro rfl; simp_all)

theorem Keeps.put {f : Fld} (v : Nat) (h : Keeps W s t) (ho : W.testBit (f.off / 0x10000) = true) : Keeps W s (t.put f v) :=
  h.setReg _ ho

theorem Keeps.bump {f : Fld} (h : Keeps W s t) (ho : W.testBit (f.off / 0x10000) = true) : Keeps W s (t.bump f) := h.put _ ho

theorem Keeps.setWord {off : Nat} (v : Nat) (h : Keeps W s t) (ho : W.testBit (off / 0x10000) = true) : Keeps W s (t.setWord off v) :=
  h.setReg _ ho

theorem Keeps.setPair {lo hi : Nat} (v : Nat) (h : Keeps W s t) (hl : W.testBit (lo / 0x10000) = true) (hh : W.testBit (hi / 0x10000) = true) :
    Keeps W s (t.setPair lo hi v) := (h.setWord _ hl).setWord _ hh

/-- A register kept, as a field, a word, a flag or a pair. -/
theorem Keeps.get {f : Fld} (h : Keeps W s t) (ho : W.testBit (f.off / 0x10000) = false) : t.get f = s.get f := by
  simp only [State.get, h f.off ho]

theorem Keeps.flag {f : Fld} (h : Keeps W s t) (ho : W.testBit (f.off / 0x10000) = false) : t.flag f = s.flag f := by
  simp only [State.flag, h.get ho]

theorem Keeps.word {off : Nat} (h : Keeps W s t) (ho : W.testBit (off / 0x10000) = false) : t.word off = s.word off := by
  simp only [State.word, h off ho]

theorem Keeps.pair {lo hi : Nat} (h : Keeps W s t) (hl : W.testBit (lo / 0x10000) = false) (hh : W.testBit (hi / 0x10000) = false) :
    t.pair lo hi = s.pair lo hi := by simp only [State.pair, h.word hl, h.word hh]

/-! ### The peat log and the counters -/

/-- The window of the peat log, bit 0x38. -/
abbrev winPl : Nat := 0x100000000000000

theorem State.countRaw_keeps (s : State) (c : Cnt) (h : W.testBit (c.off / 0x10000) = true) (h' : W.testBit (c.sat.off / 0x10000) = true) :
    Keeps W s (s.countRaw c) := by
  unfold State.countRaw
  refine Keeps.ite (fun _ => Keeps.refl W s) fun _ => ?_
  exact Keeps.ite (fun _ => ((Keeps.refl W s).setWord _ h).put _ h') fun _ => (Keeps.refl W s).setWord _ h

theorem field_lt_eight (s : State) (c : Nat) : s.get ⟨c, 2, 0⟩ < 8 := Word.field_lt _ _ _

theorem State.enqueue_keeps (n : Nat) : ∀ (o : Occurrence) (s : State), o.sev < 8 → Keeps winPl s (State.enqueue n o s) := by
  induction n with
  | zero => exact fun o s _ => Keeps.refl _ s
  | succ n ih =>
    intro o s ho
    have hd : ∀ (s : State) (v : Nat), v < 8 → Keeps winPl s (s.countRaw (plDrop v)) := fun s v hv =>
      s.countRaw_keeps _ (by
        have : PL_DROP v / 0x10000 = 0x38 := by simp only [PL_DROP]; omega
        simp only [plDrop, this]; rfl) (by simp only [plDrop]; rfl)
    have hf : ∀ s : State, Keeps winPl s (s.countRaw plFiltered) := fun s => s.countRaw_keeps _ rfl rfl
    simp only [State.enqueue]
    refine Keeps.ite (fun _ => Keeps.ite (fun _ => (hf s).trans (ih _ _ (show sevInfo < 8 by decide))) fun _ => hf s) fun _ => ?_
    refine Keeps.ite (fun _ => Keeps.of_regs rfl) fun _ => ?_
    refine Keeps.ite (fun _ => Keeps.of_regs rfl) fun _ => ?_
    have h1 : Keeps winPl s (s.dropCounted o.sev) := (hd s _ ho).trans (Keeps.of_regs rfl)
    have h2 : ∀ (c : Bool) (a : State), Keeps winPl s a →
        Keeps winPl s (if c = true then State.enqueue n (a.occurrence EV_PL_CNT_SAT sevInfo 0xff o.sev 0) a else a) := by
      intro c a h
      split
      · exact h.trans (ih _ _ (show sevInfo < 8 by decide))
      · exact h
    have h3 := h2 (s.saturates (plDrop o.sev)) _ h1
    generalize (if s.saturates (plDrop o.sev) = true then
      State.enqueue n ((s.dropCounted o.sev).occurrence EV_PL_CNT_SAT sevInfo 0xff o.sev 0) (s.dropCounted o.sev) else s.dropCounted o.sev) = b at *
    exact Keeps.ite (fun _ => (h3.trans (Keeps.of_regs rfl)).trans (ih _ _ (show sevWarning < 8 by decide))) fun _ => h3

/-- An event logged changes registers of the peat log alone. -/
theorem State.log_keeps (s : State) {sev : Nat} (code cause inst data : Nat) (h : sev < 8) : Keeps winPl s (s.log code sev cause inst data) :=
  State.enqueue_keeps _ _ s h

/-- A count changes its own counter, its SAT bit's register, and registers of the peat log. -/
theorem State.count_keeps (s : State) (c : Cnt) (h : W.testBit (c.off / 0x10000) = true) (h' : W.testBit (c.sat.off / 0x10000) = true)
    (hw : winPl &&& W = winPl) : Keeps W s (s.count c) := by
  simp only [State.count]
  exact Keeps.ite (fun _ => (s.countRaw_keeps c h h').step (State.log_keeps _ _ _ _ _ (by decide)) hw) fun _ => s.countRaw_keeps c h h'

theorem State.countN_keeps (s : State) (c : Cnt) (n : Nat) (h : W.testBit (c.off / 0x10000) = true) (h' : W.testBit (c.sat.off / 0x10000) = true)
    (hw : winPl &&& W = winPl) : Keeps W s (s.countN c n) := by
  simp only [State.countN]
  refine Keeps.ite (fun _ => Keeps.refl W s) fun _ => Keeps.ite (fun _ => (Keeps.refl W s).setWord _ h) fun _ => ?_
  exact (((Keeps.refl W s).setWord _ h).put _ h').step (State.log_keeps _ _ _ _ _ (by decide)) hw

/-! ### The scheduler -/

/-- The windows of the scheduler and the peat log. -/
abbrev winFire : Nat := 0x500000000000000

theorem scThr_window {t a : Nat} (h : t < 512) (ha : a < 0x20) : (0x3a0000 + a + 0x20 * t) / 0x10000 = 0x3a := by omega

theorem State.signalThread_keeps (s : State) (t : Nat) : Keeps winFire s (s.signalThread t) := by
  have hc : s.get (SC_THR_CFG_CORE t) < 8 := Word.field_lt _ _ _
  simp only [State.signalThread]
  generalize s.get (SC_THR_CFG_CORE t) = c at *
  have w1 : (SC_CORE_STAT c) / 0x10000 = 0x3a := by simp only [SC_CORE_STAT]; omega
  have w2 : (SC_CORE_CNT c 1) / 0x10000 = 0x3a := by simp only [SC_CORE_CNT]; omega
  refine Keeps.ite (fun _ => Keeps.refl _ s) fun _ => Keeps.ite (fun _ => (Keeps.refl _ s).put _ ?_) fun _ => ?_
  · simp only [SC_CORE_STAT_PREEMPT_HELD, w1]; rfl
  · refine ((Keeps.refl _ s).put _ ?_).trans (State.count_keeps _ _ ?_ ?_ rfl)
    · simp only [SC_CORE_STAT_MEIP, w1]; rfl
    · simp only [scCnt, w2]; rfl
    · simp only [scCnt, w1]; rfl

theorem State.makeReady_keeps (s : State) {t : Nat} (h : t < 512) : Keeps winFire s (s.makeReady t) := by
  have w1 : (SC_THR_STAT t) / 0x10000 = 0x3a := by simp only [SC_THR_STAT]; omega
  simp only [State.makeReady]
  refine Keeps.trans (t := { s with sched := { s.sched with ready := s.sched.ready ++ [t] } }) (Keeps.of_regs rfl) ?_
  exact ((Keeps.refl _ _).put _ (by simp only [SC_THR_STAT_STATE, w1]; rfl)).trans (State.signalThread_keeps _ t)

theorem State.checkWait_keeps (s : State) {t : Nat} (h : t < 512) : Keeps winFire s (s.checkWait t) := by
  have w1 : (SC_THR_FLAGS t) / 0x10000 = 0x3a := by simp only [SC_THR_FLAGS]; omega
  have w2 : (SC_THR_WAKES t) / 0x10000 = 0x3a := by simp only [SC_THR_WAKES]; omega
  unfold State.checkWait
  split
  · refine Keeps.ite (fun _ => ?_) fun _ => Keeps.refl _ s
    refine Keeps.trans ?_ (State.makeReady_keeps _ h)
    refine Keeps.bump ?_ (by simp only [whole, w2]; rfl)
    exact ((Keeps.refl _ s).setWord _ (by simp only [w1]; rfl)).trans (Keeps.of_regs rfl)
  · exact Keeps.refl _ s

theorem State.setFlags_keeps (s : State) {t : Nat} (mask : Nat) (h : t < 512) : Keeps winFire s (s.setFlags t mask) := by
  have w1 : (SC_THR_FLAGS t) / 0x10000 = 0x3a := by simp only [SC_THR_FLAGS]; omega
  exact ((Keeps.refl _ s).setWord _ (by simp only [w1]; rfl)).trans (State.checkWait_keeps _ h)

/-- A source that fires changes registers of the scheduler and the peat log alone. -/
theorem State.fire_keeps (s : State) (e : Nat) : Keeps winFire s (s.fire e) := by
  simp only [State.fire]
  refine Keeps.when (Keeps.when (Keeps.refl _ s) fun _ => ?_) fun _ => ?_
  · exact State.setFlags_keeps _ _ (Word.field_lt _ _ _)
  · exact State.setFlags_keeps _ _ (Word.field_lt _ _ _)

/-! ### Faults, misses, refusals -/

/-- The windows of the scheduler, the peat log and the integrity block. -/
abbrev winRaise : Nat := 0x8500000000000000

theorem State.igFault_keeps (s : State) (code cause : Nat) : Keeps winRaise s (s.igFault code cause) := by
  have hr : ∀ {p : Nat → Bool} {i : Nat}, (List.range 32).find? p = some i → i < 32 := fun h =>
    List.mem_range.mp (List.mem_of_find?_eq_some h)
  simp only [State.igFault]
  refine Keeps.step ?_ (State.fire_keeps _ _) rfl
  split
  · rename_i i hi
    have := hr hi
    refine Keeps.ite (fun _ => Keeps.refl _ s) fun _ => (Keeps.refl _ s).bump ?_
    have w : (IG_FAULT_COUNT i).off / 0x10000 = 0x3f := by simp only [IG_FAULT_COUNT, IG_FAULT]; omega
    rw [w]; rfl
  · split
    · rename_i i hi
      have := hr hi
      have w1 : (IG_FAULT_COUNT i).off / 0x10000 = 0x3f := by simp only [IG_FAULT_COUNT, IG_FAULT]; omega
      have w2 : (IG_FAULT_OPEN i).off / 0x10000 = 0x3f := by simp only [IG_FAULT_OPEN, IG_FAULT]; omega
      have w3 : (IG_FAULT_CODE i).off / 0x10000 = 0x3f := by simp only [IG_FAULT_CODE, IG_FAULT]; omega
      have w4 : (IG_FAULT_CAUSE i) / 0x10000 = 0x3f := by simp only [IG_FAULT_CAUSE]; omega
      refine Keeps.bump (Keeps.setWord _ (Keeps.put _ (Keeps.put _ (Keeps.put _ (Keeps.refl _ s) ?_) ?_) ?_) ?_) rfl
      · rw [w2]; rfl
      · rw [w1]; rfl
      · rw [w3]; rfl
      · rw [w4]; rfl
    · exact (Keeps.refl _ s).put _ rfl

/-- An event raised changes registers of the scheduler, the peat log and the integrity block alone. -/
theorem State.raise_keeps (s : State) {sev : Nat} (code cause inst data : Nat) (h : sev < 8) :
    Keeps winRaise s (s.raise code sev cause inst data) := by
  simp only [State.raise]
  have hl := (s.log_keeps code cause inst data h).weaken (W := winRaise) rfl
  exact Keeps.ite (fun _ => hl.trans (State.igFault_keeps _ _ _)) fun _ => hl

theorem State.igCnt_keeps (s : State) {i : Nat} (h : i < 32) : Keeps winRaise s (s.count (igCnt i)) := by
  have w : IG_CNT i / 0x10000 = 0x3f := by simp only [IG_CNT]; omega
  exact s.count_keeps _ (by simp only [igCnt, w]; rfl) (by simp only [igCnt]; decide) rfl

/-- The windows of misses: scheduler, deadline monitors, peat log, integrity. -/
abbrev winMiss : Nat := 0x8d00000000000000

theorem State.monitorMiss_keeps (s : State) {m : Nat} (h : m < 128) : Keeps winMiss s (s.monitorMiss m) := by
  have w1 : DL_CNT m / 0x10000 = 0x3b := by simp only [DL_CNT]; omega
  have w2 : DL_STAT m / 0x10000 = 0x3b := by simp only [DL_STAT]; omega
  simp only [State.monitorMiss]
  refine Keeps.step ?_ (State.fire_keeps _ _) rfl
  refine Keeps.put _ (State.count_keeps _ _ ?_ ?_ rfl) ?_
  · simp only [dlCnt, w1]; rfl
  · simp only [dlCnt, DL_STAT_SAT, w2]; rfl
  · simp only [DL_STAT_LAST_MISS, w2]; rfl

theorem State.deviceMiss_keeps (s : State) {m : Nat} (h : m < 128) : Keeps winMiss s (s.deviceMiss m) := by
  simp only [State.deviceMiss]
  exact Keeps.ite (fun _ => (s.monitorMiss_keeps h).step (State.raise_keeps _ _ _ _ _ (by decide)) rfl) fun _ => s.monitorMiss_keeps h

theorem State.refuse_keeps (s : State) (m : Master) (space off reason : Nat) : Keeps winRaise s (s.refuse m space off reason) := by
  simp only [State.refuse]
  refine Keeps.put _ (Keeps.put _ (Keeps.put _ (Keeps.put _ (State.count_keeps _ _ rfl rfl rfl) rfl) rfl) rfl) rfl

theorem State.decodeMiss_keeps (s : State) (addr : Nat) : Keeps winRaise s (s.decodeMiss addr) := by
  simp only [State.decodeMiss]
  refine Keeps.trans ?_ (State.raise_keeps _ _ _ _ _ (by decide))
  exact ((Keeps.refl _ s).setPair _ rfl rfl).trans (State.igCnt_keeps _ (by decide))

theorem State.sealBy_keeps (s : State) (n : Nat) : Keeps winPl s (s.sealBy n) := (Keeps.refl _ s).setWord _ rfl

theorem State.auditPut_keeps (s : State) (n : AuditNote) : Keeps winPl s (s.auditPut n) := by
  simp only [State.auditPut]
  exact Keeps.put _ (Keeps.put _ (Keeps.put _ (Keeps.of_regs rfl) rfl) rfl) rfl

theorem State.auditAdd_keeps (s : State) (n : AuditNote) : Keeps winPl s (s.auditAdd n) := by
  simp only [State.auditAdd]
  refine Keeps.ite (fun _ => ((Keeps.refl _ s).put _ rfl).bump rfl) fun _ => ?_
  exact Keeps.ite (fun _ => (s.auditPut_keeps n).trans (State.auditPut_keeps _ _)) fun _ => s.auditPut_keeps n

end Sys2Proof.Machine
end

