-- ==== Sys2Proof/Laws/Writes.lean ====
section
/-!
SUPPORT. Register writes that go through: what the bus does with one, and the row of the register table for each register that
has a write command of its own.
-/

set_option Elab.async false

namespace Sys2Proof.Machine

/-- An access at a multiple of its width does not trap. -/
theorem coreTraps_aligned {m : Master} {off width : Nat} (h : off % max 1 width = 0) : coreTraps m off width = false := by
  cases m <;> simp [coreTraps, h]

/-- A write that goes through is stored and takes effect at once. -/
theorem State.busWrite_takes {s : State} {m : Master} {off v : Nat} {r : RegSpec} {ix : List Nat} (hl : lookup off = some (r, ix))
    (h : s.takesWrite m off v = true) : s.busWrite m off 4 v = s.acceptWrite m r ix off (BitVec.ofNat 32 v) false := by
  simp only [State.takesWrite, hl, Bool.and_eq_true, decide_eq_true_eq, Option.isNone_iff_eq_none, Bool.not_eq_true',
    Bool.and_eq_false_iff] at h
  obtain ⟨⟨⟨⟨_, h0⟩, h1⟩, h2⟩, h3, h4⟩ := h
  have h5 : ¬ (m = .host ∧ s.orderOn = true ∧ follows r.base off ix = true) := by
    rintro ⟨rfl, a, b⟩
    simp [a, b] at h4
  simp only [State.busWrite, coreTraps_aligned (m := m) (width := 4) h0, h1, h2, hl, h3, State.carryOut, h5]
  simp [h0]

theorem State.coreOn_takes {s : State} {m : Master} {off v : Nat} (h : s.takesWrite m off v = true) : s.coreOn = true := by
  simp only [State.takesWrite, Bool.and_eq_true] at h
  exact h.1.1.1.1

/-- A command of the core domain that is well formed acts while the core domain runs. -/
theorem onCore_next {i : Instr} {s : State} {f : State → State} (hw : i.wf = true) (h : s.coreOn = true) :
    onCore i s f = .next (f s) := by simp [onCore, checked, hw, h]

/-- A command of the engines that is well formed acts while they run. -/
theorem onEngines_next {i : Instr} {s : State} {f : State → State} (hw : i.wf = true) (h : s.enginesOn = true) :
    onEngines i s f = .next (f s) := by simp [onEngines, checked, hw, h]

/-- A well-formed command that takes effect whatever the supply. -/
theorem checked_next {i : Instr} {s : State} {f : State → State} (hw : i.wf = true) : checked i s f = .next (f s) := by
  simp [checked, hw]

/-- What is remembered of a write stands in the firmware part alone. -/
theorem State.remember_eq (s : State) (m : Master) (r : RegSpec) (ix : List Nat) (off : Nat) (w : Word) :
    ∃ fw, s.remember m r ix off w = { s with fw } := by
  have key : ∀ c, ∃ fw, s.setPartition c = { s with fw } := fun c => by
    unfold State.setPartition
    split <;> exact ⟨_, rfl⟩
  unfold State.remember
  split
  · unfold State.storeArm
    split
    · exact ⟨s.fw, rfl⟩
    · exact key _
  · split
    · exact key _
    · exact ⟨s.fw, rfl⟩

/-- A write that is stored, of a register that is neither RWL nor a statistics counter. -/
theorem State.acceptWrite_plain {s : State} {m : Master} {r : RegSpec} {ix : List Nat} {off : Nat} {w : Word} {a : Bool}
    (hl : r.legal = false) (hs : satOf r.base ix = none) :
    s.acceptWrite m r ix off w a =
      ((s.setReg off (r.written (s.reg off) w)).effects r.base ix (s.reg off) w).remember m r ix off w := by
  simp only [State.acceptWrite, hl, State.storeWrite, hs, State.when, Bool.false_and]
  rfl

/-! ### Rows -/

theorem lookup_GL_RESET : lookup GL_RESET = some (⟨0x1c, [], 0x0, .c, [
      ⟨31, 16, .wo, false, 23063, 23063⟩, ⟨0, 0, .wo, false, 1, 1⟩]⟩, []) := by decide +kernel

theorem lookup_CAL_COMMIT : lookup CAL_COMMIT = some (⟨0x30018, [], 0x0, .p, [
      ⟨31, 16, .wo, false, 19581, 19581⟩, ⟨0, 0, .wo, false, 0, 1⟩]⟩, []) := by decide +kernel

theorem lookup_CAL_TRIM_CTRL : lookup CAL_TRIM_CTRL = some (⟨0x30034, [], 0x0, .c, [
      ⟨12, 11, .ro, false, 0, 3⟩, ⟨10, 10, .rw, false, 0, 1⟩, ⟨9, 9, .rw, false, 0, 1⟩, ⟨8, 3, .rw, false, 0, 63⟩, ⟨2, 1, .rw, false, 0, 1⟩, ⟨0, 0, .wo, false, 0, 1⟩]⟩, []) := by decide +kernel

theorem lookup_LN_CTRL {n : Nat} (h : n < 256) : lookup (LN_CTRL n) = some (⟨0x10001c, [(1024, 256)], 0x0, .c, [
      ⟨0, 0, .wo, false, 0, 1⟩]⟩, [n]) := by
  have key : ∀ n < 256, lookup (LN_CTRL n) = some (⟨0x10001c, [(1024, 256)], 0x0, .c, [
      ⟨0, 0, .wo, false, 0, 1⟩]⟩, [n]) := by decide +kernel
  exact key n h

theorem lookup_LN_CFG {n : Nat} (h : n < 256) : lookup (LN_CFG n) = some (⟨0x100000, [(1024, 256)], 0x30000, .c, [
      ⟨19, 16, .rwl, false, 0, 15⟩, ⟨12, 11, .rwl, false, 0, 3⟩, ⟨10, 8, .rwl, false, 0, 7⟩, ⟨4, 4, .rwl, false, 0, 1⟩, ⟨3, 3, .rwl, false, 0, 1⟩, ⟨2, 1, .rwl, false, 0, 1⟩, ⟨0, 0, .rwl, false, 0, 1⟩]⟩, [n]) := by
  have key : ∀ n < 256, lookup (LN_CFG n) = some (⟨0x100000, [(1024, 256)], 0x30000, .c, [
      ⟨19, 16, .rwl, false, 0, 15⟩, ⟨12, 11, .rwl, false, 0, 3⟩, ⟨10, 8, .rwl, false, 0, 7⟩, ⟨4, 4, .rwl, false, 0, 1⟩, ⟨3, 3, .rwl, false, 0, 1⟩, ⟨2, 1, .rwl, false, 0, 1⟩, ⟨0, 0, .rwl, false, 0, 1⟩]⟩, [n]) := by decide +kernel
  exact key n h

theorem lookup_AF_INJ_TRIG {n : Nat} (h : n < 8) : lookup (AF_INJ_TRIG n) = some (⟨0x140110, [(64, 8)], 0x0, .c, [
      ⟨0, 0, .wo, false, 0, 1⟩]⟩, [n]) := by
  have key : ∀ n < 8, lookup (AF_INJ_TRIG n) = some (⟨0x140110, [(64, 8)], 0x0, .c, [
      ⟨0, 0, .wo, false, 0, 1⟩]⟩, [n]) := by decide +kernel
  exact key n h

theorem lookup_FC_CTRL {n : Nat} (h : n < 64) : lookup (FC_CTRL n) = some (⟨0x150004, [(512, 64)], 0x0, .c, [
      ⟨1, 1, .wo, false, 0, 1⟩, ⟨0, 0, .wo, false, 0, 1⟩]⟩, [n]) := by
  have key : ∀ n < 64, lookup (FC_CTRL n) = some (⟨0x150004, [(512, 64)], 0x0, .c, [
      ⟨1, 1, .wo, false, 0, 1⟩, ⟨0, 0, .wo, false, 0, 1⟩]⟩, [n]) := by decide +kernel
  exact key n h

theorem lookup_FC_COEF_DATA {n : Nat} (h : n < 64) : lookup (FC_COEF_DATA n) = some (⟨0x150010, [(512, 64)], 0x0, .c, [
      ⟨31, 24, .ro, false, 0, 255⟩, ⟨23, 0, .rw, false, 0, 16777215⟩]⟩, [n]) := by
  have key : ∀ n < 64, lookup (FC_COEF_DATA n) = some (⟨0x150010, [(512, 64)], 0x0, .c, [
      ⟨31, 24, .ro, false, 0, 255⟩, ⟨23, 0, .rw, false, 0, 16777215⟩]⟩, [n]) := by decide +kernel
  exact key n h

theorem lookup_OS_CFG {n : Nat} (h : n < 32) : lookup (OS_CFG n) = some (⟨0x180000, [(256, 32)], 0x3c55800, .c, [
      ⟨26, 20, .rw, false, 0, 120⟩, ⟨19, 17, .rw, false, 0, 7⟩, ⟨16, 16, .rw, false, 0, 1⟩, ⟨15, 15, .rw, false, 0, 1⟩, ⟨14, 11, .rw, false, 0, 15⟩, ⟨10, 8, .rw, false, 0, 4⟩, ⟨7, 5, .rw, false, 0, 6⟩, ⟨4, 3, .rw, false, 0, 3⟩, ⟨2, 1, .rw, false, 0, 2⟩, ⟨0, 0, .rw, false, 0, 1⟩]⟩, [n]) := by
  have key : ∀ n < 32, lookup (OS_CFG n) = some (⟨0x180000, [(256, 32)], 0x3c55800, .c, [
      ⟨26, 20, .rw, false, 0, 120⟩, ⟨19, 17, .rw, false, 0, 7⟩, ⟨16, 16, .rw, false, 0, 1⟩, ⟨15, 15, .rw, false, 0, 1⟩, ⟨14, 11, .rw, false, 0, 15⟩, ⟨10, 8, .rw, false, 0, 4⟩, ⟨7, 5, .rw, false, 0, 6⟩, ⟨4, 3, .rw, false, 0, 3⟩, ⟨2, 1, .rw, false, 0, 2⟩, ⟨0, 0, .rw, false, 0, 1⟩]⟩, [n]) := by decide +kernel
  exact key n h

theorem lookup_AE_SLOT_CFG {n : Nat} (h : n < 8192) : lookup (AE_SLOT_CFG n) = some (⟨0x200000, [(64, 8464)], 0xa0070, .c, [
      ⟨23, 16, .rw, false, 0, 255⟩, ⟨13, 12, .rw, false, 0, 3⟩, ⟨11, 11, .rw, false, 0, 1⟩, ⟨10, 10, .rw, false, 0, 1⟩, ⟨9, 9, .rw, false, 0, 1⟩, ⟨8, 7, .rw, false, 0, 3⟩, ⟨6, 4, .rw, false, 0, 7⟩, ⟨0, 0, .rw, false, 0, 1⟩]⟩, [n]) := by
  have key : ∀ a < 128, ∀ b < 64, lookup (AE_SLOT_CFG (64 * a + b)) = some (⟨0x200000, [(64, 8464)], 0xa0070, .c, [
      ⟨23, 16, .rw, false, 0, 255⟩, ⟨13, 12, .rw, false, 0, 3⟩, ⟨11, 11, .rw, false, 0, 1⟩, ⟨10, 10, .rw, false, 0, 1⟩, ⟨9, 9, .rw, false, 0, 1⟩, ⟨8, 7, .rw, false, 0, 3⟩, ⟨6, 4, .rw, false, 0, 7⟩, ⟨0, 0, .rw, false, 0, 1⟩]⟩, [64 * a + b]) := by decide +kernel
  have := key (n / 64) (by omega) (n % 64) (by omega)
  rwa [show 64 * (n / 64) + n % 64 = n by omega] at this

theorem lookup_AE_CFG : lookup AE_CFG = some (⟨0x2f0000, [], 0x503c4, .c, [
      ⟨22, 16, .rw, false, 0, 100⟩, ⟨15, 5, .rw, false, 1, 2000⟩, ⟨3, 1, .rw, false, 0, 4⟩, ⟨0, 0, .rw, false, 0, 1⟩]⟩, []) := by decide +kernel

theorem lookup_AL_RULE_CTRL {n : Nat} (h : n < 32) : lookup (AL_RULE_CTRL n) = some (⟨0x320118, [(32, 32)], 0x0, .c, [
      ⟨0, 0, .wo, false, 0, 1⟩]⟩, [n]) := by
  have key : ∀ n < 32, lookup (AL_RULE_CTRL n) = some (⟨0x320118, [(32, 32)], 0x0, .c, [
      ⟨0, 0, .wo, false, 0, 1⟩]⟩, [n]) := by decide +kernel
  exact key n h

theorem lookup_IW_CTRL {n : Nat} (h : n < 16) : lookup (IW_CTRL n) = some (⟨0x310028, [(512, 16)], 0x0, .c, [
      ⟨0, 0, .wo, false, 0, 1⟩]⟩, [n]) := by
  have key : ∀ n < 16, lookup (IW_CTRL n) = some (⟨0x310028, [(512, 16)], 0x0, .c, [
      ⟨0, 0, .wo, false, 0, 1⟩]⟩, [n]) := by decide +kernel
  exact key n h

theorem lookup_OW_CFG {n : Nat} (h : n < 64) : lookup (OW_CFG n) = some (⟨0x300000, [(256, 64)], 0x100, .c, [
      ⟨24, 16, .rw, false, 0, 511⟩, ⟨9, 8, .rw, false, 0, 3⟩, ⟨6, 4, .rw, false, 0, 5⟩, ⟨3, 1, .rw, false, 0, 4⟩, ⟨0, 0, .rw, false, 0, 1⟩]⟩, [n]) := by
  have key : ∀ n < 64, lookup (OW_CFG n) = some (⟨0x300000, [(256, 64)], 0x100, .c, [
      ⟨24, 16, .rw, false, 0, 511⟩, ⟨9, 8, .rw, false, 0, 3⟩, ⟨6, 4, .rw, false, 0, 5⟩, ⟨3, 1, .rw, false, 0, 4⟩, ⟨0, 0, .rw, false, 0, 1⟩]⟩, [n]) := by decide +kernel
  exact key n h

theorem lookup_IW_CFG {n : Nat} (h : n < 16) : lookup (IW_CFG n) = some (⟨0x310000, [(512, 16)], 0x8603e4, .c, [
      ⟨25, 22, .rw, false, 0, 15⟩, ⟨21, 17, .rw, false, 1, 16⟩, ⟨16, 14, .rw, false, 0, 7⟩, ⟨13, 10, .rw, false, 0, 15⟩, ⟨9, 5, .rw, false, 0, 31⟩, ⟨4, 4, .rw, false, 0, 1⟩, ⟨3, 1, .rw, false, 0, 4⟩, ⟨0, 0, .rw, false, 0, 1⟩]⟩, [n]) := by
  have key : ∀ n < 16, lookup (IW_CFG n) = some (⟨0x310000, [(512, 16)], 0x8603e4, .c, [
      ⟨25, 22, .rw, false, 0, 15⟩, ⟨21, 17, .rw, false, 1, 16⟩, ⟨16, 14, .rw, false, 0, 7⟩, ⟨13, 10, .rw, false, 0, 15⟩, ⟨9, 5, .rw, false, 0, 31⟩, ⟨4, 4, .rw, false, 0, 1⟩, ⟨3, 1, .rw, false, 0, 4⟩, ⟨0, 0, .rw, false, 0, 1⟩]⟩, [n]) := by decide +kernel
  exact key n h

theorem lookup_ME_LEDGER_ACK_HI : lookup ME_LEDGER_ACK_HI = some (⟨0x350024, [], 0x0, .c, [
      ⟨31, 0, .rw, false, 0, 4294967295⟩]⟩, []) := by decide +kernel

theorem lookup_ME_LEDGER_CTRL : lookup ME_LEDGER_CTRL = some (⟨0x350028, [], 0x0, .c, [
      ⟨0, 0, .wo, false, 0, 1⟩]⟩, []) := by decide +kernel

theorem lookup_ME_CFG {n : Nat} (h : n < 256) : lookup (ME_CFG n) = some (⟨0x340000, [(256, 256)], 0x0, .c, [
      ⟨7, 4, .rwl, false, 0, 15⟩, ⟨0, 0, .rwl, false, 0, 1⟩]⟩, [n]) := by
  have key : ∀ n < 256, lookup (ME_CFG n) = some (⟨0x340000, [(256, 256)], 0x0, .c, [
      ⟨7, 4, .rwl, false, 0, 15⟩, ⟨0, 0, .rwl, false, 0, 1⟩]⟩, [n]) := by decide +kernel
  exact key n h

theorem lookup_CP_CTRL {n : Nat} (h : n < 16) : lookup (CP_CTRL n) = some (⟨0x370014, [(1024, 16)], 0x0, .c, [
      ⟨3, 3, .wo, false, 0, 1⟩, ⟨2, 2, .wo, false, 0, 1⟩, ⟨1, 1, .wo, false, 0, 1⟩, ⟨0, 0, .wo, false, 0, 1⟩]⟩, [n]) := by
  have key : ∀ n < 16, lookup (CP_CTRL n) = some (⟨0x370014, [(1024, 16)], 0x0, .c, [
      ⟨3, 3, .wo, false, 0, 1⟩, ⟨2, 2, .wo, false, 0, 1⟩, ⟨1, 1, .wo, false, 0, 1⟩, ⟨0, 0, .wo, false, 0, 1⟩]⟩, [n]) := by decide +kernel
  exact key n h

theorem lookup_HI_SQ_DB {n : Nat} (h : n < 16) : lookup (HI_SQ_DB n) = some (⟨0x390000, [(8, 16)], 0x0, .f, [
      ⟨15, 0, .wo, false, 0, 65535⟩]⟩, [n]) := by
  have key : ∀ n < 16, lookup (HI_SQ_DB n) = some (⟨0x390000, [(8, 16)], 0x0, .f, [
      ⟨15, 0, .wo, false, 0, 65535⟩]⟩, [n]) := by decide +kernel
  exact key n h

theorem lookup_HI_CQ_DB {n : Nat} (h : n < 16) : lookup (HI_CQ_DB n) = some (⟨0x390004, [(8, 16)], 0x0, .f, [
      ⟨15, 0, .wo, false, 0, 65535⟩]⟩, [n]) := by
  have key : ∀ n < 16, lookup (HI_CQ_DB n) = some (⟨0x390004, [(8, 16)], 0x0, .f, [
      ⟨15, 0, .wo, false, 0, 65535⟩]⟩, [n]) := by decide +kernel
  exact key n h

theorem lookup_HI_DR_DB {n : Nat} (h : n < 8) : lookup (HI_DR_DB n) = some (⟨0x390080, [(4, 8)], 0x0, .f, [
      ⟨31, 0, .wo, false, 0, 4294967295⟩]⟩, [n]) := by
  have key : ∀ n < 8, lookup (HI_DR_DB n) = some (⟨0x390080, [(4, 8)], 0x0, .f, [
      ⟨31, 0, .wo, false, 0, 4294967295⟩]⟩, [n]) := by decide +kernel
  exact key n h

theorem lookup_HI_SQ_CFG {n : Nat} (h : n < 16) : lookup (HI_SQ_CFG n) = some (⟨0x391008, [(32, 16)], 0x0, .f, [
      ⟨12, 8, .rw, false, 0, 31⟩, ⟨7, 4, .rw, false, 0, 15⟩, ⟨0, 0, .rw, false, 0, 1⟩]⟩, [n]) := by
  have key : ∀ n < 16, lookup (HI_SQ_CFG n) = some (⟨0x391008, [(32, 16)], 0x0, .f, [
      ⟨12, 8, .rw, false, 0, 31⟩, ⟨7, 4, .rw, false, 0, 15⟩, ⟨0, 0, .rw, false, 0, 1⟩]⟩, [n]) := by decide +kernel
  exact key n h

theorem lookup_HI_CQ_CFG {n : Nat} (h : n < 16) : lookup (HI_CQ_CFG n) = some (⟨0x391408, [(32, 16)], 0x0, .f, [
      ⟨30, 21, .rw, false, 0, 1000⟩, ⟨20, 13, .rw, false, 0, 255⟩, ⟨12, 7, .rw, false, 0, 63⟩, ⟨6, 6, .rw, false, 0, 1⟩, ⟨5, 1, .rw, false, 0, 31⟩, ⟨0, 0, .rw, false, 0, 1⟩]⟩, [n]) := by
  have key : ∀ n < 16, lookup (HI_CQ_CFG n) = some (⟨0x391408, [(32, 16)], 0x0, .f, [
      ⟨30, 21, .rw, false, 0, 1000⟩, ⟨20, 13, .rw, false, 0, 255⟩, ⟨12, 7, .rw, false, 0, 63⟩, ⟨6, 6, .rw, false, 0, 1⟩, ⟨5, 1, .rw, false, 0, 31⟩, ⟨0, 0, .rw, false, 0, 1⟩]⟩, [n]) := by decide +kernel
  exact key n h

theorem lookup_HI_DR_CFG {n : Nat} (h : n < 8) : lookup (HI_DR_CFG n) = some (⟨0x391808, [(32, 8)], 0x0, .f, [
      ⟨30, 21, .rw, false, 0, 1000⟩, ⟨20, 13, .rw, false, 0, 255⟩, ⟨12, 7, .rw, false, 0, 63⟩, ⟨6, 6, .rw, false, 0, 1⟩, ⟨5, 1, .rw, false, 0, 31⟩, ⟨0, 0, .rw, false, 0, 1⟩]⟩, [n]) := by
  have key : ∀ n < 8, lookup (HI_DR_CFG n) = some (⟨0x391808, [(32, 8)], 0x0, .f, [
      ⟨30, 21, .rw, false, 0, 1000⟩, ⟨20, 13, .rw, false, 0, 255⟩, ⟨12, 7, .rw, false, 0, 63⟩, ⟨6, 6, .rw, false, 0, 1⟩, ⟨5, 1, .rw, false, 0, 31⟩, ⟨0, 0, .rw, false, 0, 1⟩]⟩, [n]) := by decide +kernel
  exact key n h

theorem lookup_MSIX_CTRL {n : Nat} (h : n < 64) : lookup (MSIX_CTRL n) = some (⟨0x39800c, [(16, 64)], 0x1, .c, [
      ⟨0, 0, .rw, false, 0, 1⟩]⟩, [n]) := by
  have key : ∀ n < 64, lookup (MSIX_CTRL n) = some (⟨0x39800c, [(16, 64)], 0x1, .c, [
      ⟨0, 0, .rw, false, 0, 1⟩]⟩, [n]) := by decide +kernel
  exact key n h

theorem lookup_HI_HB : lookup HI_HB = some (⟨0x392008, [], 0x0, .f, [
      ⟨31, 0, .wo, false, 0, 4294967295⟩]⟩, []) := by decide +kernel

theorem lookup_SC_THR_FLAGS {n : Nat} (h : n < 512) : lookup (SC_THR_FLAGS n) = some (⟨0x3a000c, [(32, 512)], 0x0, .w, [
      ⟨31, 0, .w1s, false, 0, 4294967295⟩]⟩, [n]) := by
  have key : ∀ n < 512, lookup (SC_THR_FLAGS n) = some (⟨0x3a000c, [(32, 512)], 0x0, .w, [
      ⟨31, 0, .w1s, false, 0, 4294967295⟩]⟩, [n]) := by decide +kernel
  exact key n h

theorem lookup_SC_THR_FCLR {n : Nat} (h : n < 512) : lookup (SC_THR_FCLR n) = some (⟨0x3a0010, [(32, 512)], 0x0, .w, [
      ⟨31, 0, .w1c, false, 0, 4294967295⟩]⟩, [n]) := by
  have key : ∀ n < 512, lookup (SC_THR_FCLR n) = some (⟨0x3a0010, [(32, 512)], 0x0, .w, [
      ⟨31, 0, .w1c, false, 0, 4294967295⟩]⟩, [n]) := by decide +kernel
  exact key n h

theorem lookup_SC_THR_WAIT {n : Nat} (h : n < 512) : lookup (SC_THR_WAIT n) = some (⟨0x3a0008, [(32, 512)], 0x0, .c, [
      ⟨2, 2, .wo, false, 0, 1⟩, ⟨1, 1, .wo, false, 0, 1⟩, ⟨0, 0, .wo, false, 0, 1⟩]⟩, [n]) := by
  have key : ∀ n < 512, lookup (SC_THR_WAIT n) = some (⟨0x3a0008, [(32, 512)], 0x0, .c, [
      ⟨2, 2, .wo, false, 0, 1⟩, ⟨1, 1, .wo, false, 0, 1⟩, ⟨0, 0, .wo, false, 0, 1⟩]⟩, [n]) := by decide +kernel
  exact key n h

theorem lookup_SC_THR_CFG {n : Nat} (h : n < 512) : lookup (SC_THR_CFG n) = some (⟨0x3a0000, [(32, 512)], 0x0, .c, [
      ⟨13, 8, .rw, false, 0, 63⟩, ⟨4, 2, .rw, false, 0, 7⟩, ⟨1, 1, .rw, false, 0, 1⟩, ⟨0, 0, .rw, false, 0, 1⟩]⟩, [n]) := by
  have key : ∀ n < 512, lookup (SC_THR_CFG n) = some (⟨0x3a0000, [(32, 512)], 0x0, .c, [
      ⟨13, 8, .rw, false, 0, 63⟩, ⟨4, 2, .rw, false, 0, 7⟩, ⟨1, 1, .rw, false, 0, 1⟩, ⟨0, 0, .rw, false, 0, 1⟩]⟩, [n]) := by decide +kernel
  exact key n h

theorem lookup_SC_CORE_CTRL {n : Nat} (h : n < 8) : lookup (SC_CORE_CTRL n) = some (⟨0x3a5000, [(32, 8)], 0x0, .c, [
      ⟨1, 1, .wo, false, 0, 1⟩, ⟨0, 0, .rw, false, 0, 1⟩]⟩, [n]) := by
  have key : ∀ n < 8, lookup (SC_CORE_CTRL n) = some (⟨0x3a5000, [(32, 8)], 0x0, .c, [
      ⟨1, 1, .wo, false, 0, 1⟩, ⟨0, 0, .rw, false, 0, 1⟩]⟩, [n]) := by decide +kernel
  exact key n h

theorem lookup_SC_SWEVT : lookup SC_SWEVT = some (⟨0x3a7000, [], 0x0, .c, [
      ⟨31, 0, .wo, false, 0, 4294967295⟩]⟩, []) := by decide +kernel

theorem lookup_DL_ARM {n : Nat} (h : n < 128) : lookup (DL_ARM n) = some (⟨0x3b0008, [(32, 128)], 0x0, .c, [
      ⟨23, 0, .wo, false, 1, 16000000⟩]⟩, [n]) := by
  have key : ∀ n < 128, lookup (DL_ARM n) = some (⟨0x3b0008, [(32, 128)], 0x0, .c, [
      ⟨23, 0, .wo, false, 1, 16000000⟩]⟩, [n]) := by decide +kernel
  exact key n h

theorem lookup_DL_DUE_HI {n : Nat} (h : n < 128) : lookup (DL_DUE_HI n) = some (⟨0x3b0010, [(32, 128)], 0x0, .c, [
      ⟨31, 0, .rw, false, 0, 4294967295⟩]⟩, [n]) := by
  have key : ∀ n < 128, lookup (DL_DUE_HI n) = some (⟨0x3b0010, [(32, 128)], 0x0, .c, [
      ⟨31, 0, .rw, false, 0, 4294967295⟩]⟩, [n]) := by decide +kernel
  exact key n h

theorem lookup_DL_DONE {n : Nat} (h : n < 128) : lookup (DL_DONE n) = some (⟨0x3b0014, [(32, 128)], 0x0, .c, [
      ⟨0, 0, .wo, false, 0, 1⟩]⟩, [n]) := by
  have key : ∀ n < 128, lookup (DL_DONE n) = some (⟨0x3b0014, [(32, 128)], 0x0, .c, [
      ⟨0, 0, .wo, false, 0, 1⟩]⟩, [n]) := by decide +kernel
  exact key n h

theorem lookup_CW_CFG : lookup CW_CFG = some (⟨0x3d0000, [], 0xa140000, .c, [
      ⟨31, 24, .rw, false, 1, 255⟩, ⟨23, 16, .rw, false, 2, 100⟩, ⟨15, 8, .rw, false, 0, 255⟩, ⟨0, 0, .rw, false, 0, 1⟩]⟩, []) := by decide +kernel

theorem lookup_SC_CORE_CLAIM {n : Nat} (h : n < 8) : lookup (SC_CORE_CLAIM n) = some (⟨0x3a5008, [(32, 8)], 0x0, .c, [
      ⟨31, 31, .ro, false, 0, 1⟩, ⟨30, 30, .ro, false, 0, 1⟩, ⟨15, 10, .ro, false, 0, 63⟩, ⟨8, 0, .ro, false, 0, 511⟩]⟩, [n]) := by
  have key : ∀ n < 8, lookup (SC_CORE_CLAIM n) = some (⟨0x3a5008, [(32, 8)], 0x0, .c, [
      ⟨31, 31, .ro, false, 0, 1⟩, ⟨30, 30, .ro, false, 0, 1⟩, ⟨15, 10, .ro, false, 0, 63⟩, ⟨8, 0, .ro, false, 0, 511⟩]⟩, [n]) := by decide +kernel
  exact key n h

/-! ### Effects: every block leaves the registers of the others alone -/

theorem netEffect_other {base : Nat} (h : ¬ base ∈ [0x40000, 0x4000c, 0x40030, 0x50014, 0x50000]) (ix : List Nat) (old w : Word) (s : State) :
    netEffect base ix old w s = s := by
  unfold netEffect
  split <;> first | (exfalso; apply h; simp; done) | rfl

theorem hostEffect_other {base : Nat} (h : ¬ base ∈ [0x390000, 0x390004, 0x390080, 0x391008, 0x391408, 0x391808, 0x392008, 0x39800c]) (ix : List Nat) (old w : Word) (s : State) :
    hostEffect base ix old w s = s := by
  unfold hostEffect
  split <;> first | (exfalso; apply h; simp; done) | rfl

theorem schedEffect_other {base : Nat} (h : ¬ base ∈ [0x3a0000, 0x3a0008, 0x3a000c, 0x3a0010, 0x3a5000, 0x3a6000, 0x3a6004, 0x3a6008, 0x3a7000, 0x3b0008, 0x3b0010, 0x3b0014]) (ix : List Nat) (old w : Word) (s : State) :
    schedEffect base ix old w s = s := by
  unfold schedEffect
  split <;> first | (exfalso; apply h; simp; done) | rfl

theorem laneEffect_other {base : Nat} (h : ¬ base ∈ [0x100000, 0x100008, 0x10000c, 0x10001c, 0x10004c]) (ix : List Nat) (old w : Word) (s : State) :
    laneEffect base ix old w s = s := by
  unfold laneEffect
  split <;> first | (exfalso; apply h; simp; done) | rfl

theorem analogueEffect_other {base : Nat} (h : ¬ base ∈ [0x140000, 0x140100, 0x140108, 0x14010c, 0x140110, 0x140400, 0x150000, 0x150004, 0x150010, 0x378100]) (ix : List Nat) (old w : Word) (s : State) :
    analogueEffect base ix old w s = s := by
  unfold analogueEffect
  split <;> first | (exfalso; apply h; simp; done) | rfl

theorem phasorEffect_other {base : Nat} (h : ¬ base ∈ [0x160100, 0x162000, 0x160110, 0x160114, 0x160000, 0x150000]) (ix : List Nat) (old w : Word) (s : State) :
    phasorEffect base ix old w s = s := by
  unfold phasorEffect
  extract_lets
  split <;> first | (exfalso; apply h; simp; done) | rfl

theorem streamEffect_other {base : Nat} (h : ¬ base ∈ [0x180000, 0x160100, 0x162000, 0x200008, 0x180004, 0x180008, 0x18000c, 0x180010, 0x180020]) (ix : List Nat) (old w : Word) (s : State) :
    streamEffect base ix old w s = s := by
  unfold streamEffect
  split <;> first | (exfalso; apply h; simp; done) | rfl

theorem alignEffect_other {base : Nat} (h : ¬ base ∈ [0x200000, 0x200004, 0x200008, 0x200010, 0x200030, 0x2f0000]) (ix : List Nat) (old w : Word) (s : State) :
    alignEffect base ix old w s = s := by
  unfold alignEffect
  split <;> first | (exfalso; apply h; simp; done) | rfl

theorem oscillationEffect_other {base : Nat} (h : ¬ base ∈ [0x300000, 0x330008]) (ix : List Nat) (old w : Word) (s : State) :
    oscillationEffect base ix old w s = s := by
  unfold oscillationEffect
  split <;> first | (exfalso; apply h; simp; done) | rfl

theorem islandEffect_other {base : Nat} (h : ¬ base ∈ [0x310000, 0x310028]) (ix : List Nat) (old w : Word) (s : State) :
    islandEffect base ix old w s = s := by
  unfold islandEffect
  split <;> first | (exfalso; apply h; simp; done) | rfl

theorem alarmEffect_other {base : Nat} (h : ¬ base ∈ [0x320100, 0x320118, 0x320800]) (ix : List Nat) (old w : Word) (s : State) :
    alarmEffect base ix old w s = s := by
  unfold alarmEffect
  split <;> first | (exfalso; apply h; simp; done) | rfl

theorem meterEffect_other {base : Nat} (h : ¬ base ∈ [0x340000, 0x350000, 0x350024, 0x350028, 0x360000]) (ix : List Nat) (old w : Word) (s : State) :
    meterEffect base ix old w s = s := by
  unfold meterEffect
  split <;> first | (exfalso; apply h; simp; done) | rfl

theorem captureEffect_other {base : Nat} (h : ¬ base ∈ [0x370000, 0x370004, 0x370008, 0x370010, 0x370014, 0x378004, 0x378040]) (ix : List Nat) (old w : Word) (s : State) :
    captureEffect base ix old w s = s := by
  unfold captureEffect
  split <;> first | (exfalso; apply h; simp; done) | rfl

theorem timeEffect_other {base : Nat} (h : ¬ base ∈ [0x20000, 0x20040, 0x20100, 0x30000, 0x3000c, 0x30018, 0x30034]) (ix : List Nat) (old w : Word) (s : State) :
    timeEffect base ix old w s = s := by
  unfold timeEffect
  split <;> first | (exfalso; apply h; simp; done) | rfl

theorem roleEffect_other {base : Nat} (h : ¬ base ∈ [0x1c, 0x3d0000, 0x3d0018, 0x3f0100]) (ix : List Nat) (old w : Word) (s : State) :
    roleEffect base ix old w s = s := by
  unfold roleEffect
  split <;> first | (exfalso; apply h; simp; done) | rfl

theorem effects_GL_RESET (s : State) (ix : List Nat) (old w : Word) : s.effects 0x1c ix old w = roleEffect 0x1c ix old w s := by
  simp only [State.effects, netEffect_other (base := 0x1c) (by decide), hostEffect_other (base := 0x1c) (by decide), schedEffect_other (base := 0x1c) (by decide), laneEffect_other (base := 0x1c) (by decide), analogueEffect_other (base := 0x1c) (by decide), phasorEffect_other (base := 0x1c) (by decide), streamEffect_other (base := 0x1c) (by decide), alignEffect_other (base := 0x1c) (by decide), oscillationEffect_other (base := 0x1c) (by decide), islandEffect_other (base := 0x1c) (by decide), alarmEffect_other (base := 0x1c) (by decide), meterEffect_other (base := 0x1c) (by decide), captureEffect_other (base := 0x1c) (by decide), timeEffect_other (base := 0x1c) (by decide)]
  rfl

theorem effects_CAL_COMMIT (s : State) (ix : List Nat) (old w : Word) : s.effects 0x30018 ix old w = timeEffect 0x30018 ix old w s := by
  simp only [State.effects, netEffect_other (base := 0x30018) (by decide), hostEffect_other (base := 0x30018) (by decide), schedEffect_other (base := 0x30018) (by decide), laneEffect_other (base := 0x30018) (by decide), analogueEffect_other (base := 0x30018) (by decide), phasorEffect_other (base := 0x30018) (by decide), streamEffect_other (base := 0x30018) (by decide), alignEffect_other (base := 0x30018) (by decide), oscillationEffect_other (base := 0x30018) (by decide), islandEffect_other (base := 0x30018) (by decide), alarmEffect_other (base := 0x30018) (by decide), meterEffect_other (base := 0x30018) (by decide), captureEffect_other (base := 0x30018) (by decide), roleEffect_other (base := 0x30018) (by decide)]
  rfl

theorem effects_CAL_TRIM_CTRL (s : State) (ix : List Nat) (old w : Word) : s.effects 0x30034 ix old w = timeEffect 0x30034 ix old w s := by
  simp only [State.effects, netEffect_other (base := 0x30034) (by decide), hostEffect_other (base := 0x30034) (by decide), schedEffect_other (base := 0x30034) (by decide), laneEffect_other (base := 0x30034) (by decide), analogueEffect_other (base := 0x30034) (by decide), phasorEffect_other (base := 0x30034) (by decide), streamEffect_other (base := 0x30034) (by decide), alignEffect_other (base := 0x30034) (by decide), oscillationEffect_other (base := 0x30034) (by decide), islandEffect_other (base := 0x30034) (by decide), alarmEffect_other (base := 0x30034) (by decide), meterEffect_other (base := 0x30034) (by decide), captureEffect_other (base := 0x30034) (by decide), roleEffect_other (base := 0x30034) (by decide)]
  rfl

theorem effects_LN_CTRL (s : State) (ix : List Nat) (old w : Word) : s.effects 0x10001c ix old w = laneEffect 0x10001c ix old w s := by
  simp only [State.effects, netEffect_other (base := 0x10001c) (by decide), hostEffect_other (base := 0x10001c) (by decide), schedEffect_other (base := 0x10001c) (by decide), analogueEffect_other (base := 0x10001c) (by decide), phasorEffect_other (base := 0x10001c) (by decide), streamEffect_other (base := 0x10001c) (by decide), alignEffect_other (base := 0x10001c) (by decide), oscillationEffect_other (base := 0x10001c) (by decide), islandEffect_other (base := 0x10001c) (by decide), alarmEffect_other (base := 0x10001c) (by decide), meterEffect_other (base := 0x10001c) (by decide), captureEffect_other (base := 0x10001c) (by decide), timeEffect_other (base := 0x10001c) (by decide), roleEffect_other (base := 0x10001c) (by decide)]
  rfl

theorem effects_LN_CFG (s : State) (ix : List Nat) (old w : Word) : s.effects 0x100000 ix old w = (laneEffect 0x100000 ix old w s).showCaptureLoad := by
  simp only [State.effects, netEffect_other (base := 0x100000) (by decide), hostEffect_other (base := 0x100000) (by decide), schedEffect_other (base := 0x100000) (by decide), analogueEffect_other (base := 0x100000) (by decide), phasorEffect_other (base := 0x100000) (by decide), streamEffect_other (base := 0x100000) (by decide), alignEffect_other (base := 0x100000) (by decide), oscillationEffect_other (base := 0x100000) (by decide), islandEffect_other (base := 0x100000) (by decide), alarmEffect_other (base := 0x100000) (by decide), meterEffect_other (base := 0x100000) (by decide), captureEffect_other (base := 0x100000) (by decide), timeEffect_other (base := 0x100000) (by decide), roleEffect_other (base := 0x100000) (by decide)]
  rfl

theorem effects_AF_INJ_TRIG (s : State) (ix : List Nat) (old w : Word) : s.effects 0x140110 ix old w = analogueEffect 0x140110 ix old w s := by
  simp only [State.effects, netEffect_other (base := 0x140110) (by decide), hostEffect_other (base := 0x140110) (by decide), schedEffect_other (base := 0x140110) (by decide), laneEffect_other (base := 0x140110) (by decide), phasorEffect_other (base := 0x140110) (by decide), streamEffect_other (base := 0x140110) (by decide), alignEffect_other (base := 0x140110) (by decide), oscillationEffect_other (base := 0x140110) (by decide), islandEffect_other (base := 0x140110) (by decide), alarmEffect_other (base := 0x140110) (by decide), meterEffect_other (base := 0x140110) (by decide), captureEffect_other (base := 0x140110) (by decide), timeEffect_other (base := 0x140110) (by decide), roleEffect_other (base := 0x140110) (by decide)]
  rfl

theorem effects_FC_CTRL (s : State) (ix : List Nat) (old w : Word) : s.effects 0x150004 ix old w = analogueEffect 0x150004 ix old w s := by
  simp only [State.effects, netEffect_other (base := 0x150004) (by decide), hostEffect_other (base := 0x150004) (by decide), schedEffect_other (base := 0x150004) (by decide), laneEffect_other (base := 0x150004) (by decide), phasorEffect_other (base := 0x150004) (by decide), streamEffect_other (base := 0x150004) (by decide), alignEffect_other (base := 0x150004) (by decide), oscillationEffect_other (base := 0x150004) (by decide), islandEffect_other (base := 0x150004) (by decide), alarmEffect_other (base := 0x150004) (by decide), meterEffect_other (base := 0x150004) (by decide), captureEffect_other (base := 0x150004) (by decide), timeEffect_other (base := 0x150004) (by decide), roleEffect_other (base := 0x150004) (by decide)]
  rfl

theorem effects_FC_COEF_DATA (s : State) (ix : List Nat) (old w : Word) : s.effects 0x150010 ix old w = analogueEffect 0x150010 ix old w s := by
  simp only [State.effects, netEffect_other (base := 0x150010) (by decide), hostEffect_other (base := 0x150010) (by decide), schedEffect_other (base := 0x150010) (by decide), laneEffect_other (base := 0x150010) (by decide), phasorEffect_other (base := 0x150010) (by decide), streamEffect_other (base := 0x150010) (by decide), alignEffect_other (base := 0x150010) (by decide), oscillationEffect_other (base := 0x150010) (by decide), islandEffect_other (base := 0x150010) (by decide), alarmEffect_other (base := 0x150010) (by decide), meterEffect_other (base := 0x150010) (by decide), captureEffect_other (base := 0x150010) (by decide), timeEffect_other (base := 0x150010) (by decide), roleEffect_other (base := 0x150010) (by decide)]
  rfl

theorem effects_OS_CFG (s : State) (ix : List Nat) (old w : Word) : s.effects 0x180000 ix old w = streamEffect 0x180000 ix old w s := by
  simp only [State.effects, netEffect_other (base := 0x180000) (by decide), hostEffect_other (base := 0x180000) (by decide), schedEffect_other (base := 0x180000) (by decide), laneEffect_other (base := 0x180000) (by decide), analogueEffect_other (base := 0x180000) (by decide), phasorEffect_other (base := 0x180000) (by decide), alignEffect_other (base := 0x180000) (by decide), oscillationEffect_other (base := 0x180000) (by decide), islandEffect_other (base := 0x180000) (by decide), alarmEffect_other (base := 0x180000) (by decide), meterEffect_other (base := 0x180000) (by decide), captureEffect_other (base := 0x180000) (by decide), timeEffect_other (base := 0x180000) (by decide), roleEffect_other (base := 0x180000) (by decide)]
  rfl

theorem effects_AE_SLOT_CFG (s : State) (ix : List Nat) (old w : Word) : s.effects 0x200000 ix old w = alignEffect 0x200000 ix old w s := by
  simp only [State.effects, netEffect_other (base := 0x200000) (by decide), hostEffect_other (base := 0x200000) (by decide), schedEffect_other (base := 0x200000) (by decide), laneEffect_other (base := 0x200000) (by decide), analogueEffect_other (base := 0x200000) (by decide), phasorEffect_other (base := 0x200000) (by decide), streamEffect_other (base := 0x200000) (by decide), oscillationEffect_other (base := 0x200000) (by decide), islandEffect_other (base := 0x200000) (by decide), alarmEffect_other (base := 0x200000) (by decide), meterEffect_other (base := 0x200000) (by decide), captureEffect_other (base := 0x200000) (by decide), timeEffect_other (base := 0x200000) (by decide), roleEffect_other (base := 0x200000) (by decide)]
  rfl

theorem effects_AE_CFG (s : State) (ix : List Nat) (old w : Word) : s.effects 0x2f0000 ix old w = alignEffect 0x2f0000 ix old w s := by
  simp only [State.effects, netEffect_other (base := 0x2f0000) (by decide), hostEffect_other (base := 0x2f0000) (by decide), schedEffect_other (base := 0x2f0000) (by decide), laneEffect_other (base := 0x2f0000) (by decide), analogueEffect_other (base := 0x2f0000) (by decide), phasorEffect_other (base := 0x2f0000) (by decide), streamEffect_other (base := 0x2f0000) (by decide), oscillationEffect_other (base := 0x2f0000) (by decide), islandEffect_other (base := 0x2f0000) (by decide), alarmEffect_other (base := 0x2f0000) (by decide), meterEffect_other (base := 0x2f0000) (by decide), captureEffect_other (base := 0x2f0000) (by decide), timeEffect_other (base := 0x2f0000) (by decide), roleEffect_other (base := 0x2f0000) (by decide)]
  rfl

theorem effects_AL_RULE_CTRL (s : State) (ix : List Nat) (old w : Word) : s.effects 0x320118 ix old w = alarmEffect 0x320118 ix old w s := by
  simp only [State.effects, netEffect_other (base := 0x320118) (by decide), hostEffect_other (base := 0x320118) (by decide), schedEffect_other (base := 0x320118) (by decide), laneEffect_other (base := 0x320118) (by decide), analogueEffect_other (base := 0x320118) (by decide), phasorEffect_other (base := 0x320118) (by decide), streamEffect_other (base := 0x320118) (by decide), alignEffect_other (base := 0x320118) (by decide), oscillationEffect_other (base := 0x320118) (by decide), islandEffect_other (base := 0x320118) (by decide), meterEffect_other (base := 0x320118) (by decide), captureEffect_other (base := 0x320118) (by decide), timeEffect_other (base := 0x320118) (by decide), roleEffect_other (base := 0x320118) (by decide)]
  rfl

theorem effects_IW_CTRL (s : State) (ix : List Nat) (old w : Word) : s.effects 0x310028 ix old w = islandEffect 0x310028 ix old w s := by
  simp only [State.effects, netEffect_other (base := 0x310028) (by decide), hostEffect_other (base := 0x310028) (by decide), schedEffect_other (base := 0x310028) (by decide), laneEffect_other (base := 0x310028) (by decide), analogueEffect_other (base := 0x310028) (by decide), phasorEffect_other (base := 0x310028) (by decide), streamEffect_other (base := 0x310028) (by decide), alignEffect_other (base := 0x310028) (by decide), oscillationEffect_other (base := 0x310028) (by decide), alarmEffect_other (base := 0x310028) (by decide), meterEffect_other (base := 0x310028) (by decide), captureEffect_other (base := 0x310028) (by decide), timeEffect_other (base := 0x310028) (by decide), roleEffect_other (base := 0x310028) (by decide)]
  rfl

theorem effects_OW_CFG (s : State) (ix : List Nat) (old w : Word) : s.effects 0x300000 ix old w = oscillationEffect 0x300000 ix old w s := by
  simp only [State.effects, netEffect_other (base := 0x300000) (by decide), hostEffect_other (base := 0x300000) (by decide), schedEffect_other (base := 0x300000) (by decide), laneEffect_other (base := 0x300000) (by decide), analogueEffect_other (base := 0x300000) (by decide), phasorEffect_other (base := 0x300000) (by decide), streamEffect_other (base := 0x300000) (by decide), alignEffect_other (base := 0x300000) (by decide), islandEffect_other (base := 0x300000) (by decide), alarmEffect_other (base := 0x300000) (by decide), meterEffect_other (base := 0x300000) (by decide), captureEffect_other (base := 0x300000) (by decide), timeEffect_other (base := 0x300000) (by decide), roleEffect_other (base := 0x300000) (by decide)]
  rfl

theorem effects_IW_CFG (s : State) (ix : List Nat) (old w : Word) : s.effects 0x310000 ix old w = islandEffect 0x310000 ix old w s := by
  simp only [State.effects, netEffect_other (base := 0x310000) (by decide), hostEffect_other (base := 0x310000) (by decide), schedEffect_other (base := 0x310000) (by decide), laneEffect_other (base := 0x310000) (by decide), analogueEffect_other (base := 0x310000) (by decide), phasorEffect_other (base := 0x310000) (by decide), streamEffect_other (base := 0x310000) (by decide), alignEffect_other (base := 0x310000) (by decide), oscillationEffect_other (base := 0x310000) (by decide), alarmEffect_other (base := 0x310000) (by decide), meterEffect_other (base := 0x310000) (by decide), captureEffect_other (base := 0x310000) (by decide), timeEffect_other (base := 0x310000) (by decide), roleEffect_other (base := 0x310000) (by decide)]
  rfl

theorem effects_ME_LEDGER_ACK_HI (s : State) (ix : List Nat) (old w : Word) : s.effects 0x350024 ix old w = meterEffect 0x350024 ix old w s := by
  simp only [State.effects, netEffect_other (base := 0x350024) (by decide), hostEffect_other (base := 0x350024) (by decide), schedEffect_other (base := 0x350024) (by decide), laneEffect_other (base := 0x350024) (by decide), analogueEffect_other (base := 0x350024) (by decide), phasorEffect_other (base := 0x350024) (by decide), streamEffect_other (base := 0x350024) (by decide), alignEffect_other (base := 0x350024) (by decide), oscillationEffect_other (base := 0x350024) (by decide), islandEffect_other (base := 0x350024) (by decide), alarmEffect_other (base := 0x350024) (by decide), captureEffect_other (base := 0x350024) (by decide), timeEffect_other (base := 0x350024) (by decide), roleEffect_other (base := 0x350024) (by decide)]
  rfl

theorem effects_ME_LEDGER_CTRL (s : State) (ix : List Nat) (old w : Word) : s.effects 0x350028 ix old w = meterEffect 0x350028 ix old w s := by
  simp only [State.effects, netEffect_other (base := 0x350028) (by decide), hostEffect_other (base := 0x350028) (by decide), schedEffect_other (base := 0x350028) (by decide), laneEffect_other (base := 0x350028) (by decide), analogueEffect_other (base := 0x350028) (by decide), phasorEffect_other (base := 0x350028) (by decide), streamEffect_other (base := 0x350028) (by decide), alignEffect_other (base := 0x350028) (by decide), oscillationEffect_other (base := 0x350028) (by decide), islandEffect_other (base := 0x350028) (by decide), alarmEffect_other (base := 0x350028) (by decide), captureEffect_other (base := 0x350028) (by decide), timeEffect_other (base := 0x350028) (by decide), roleEffect_other (base := 0x350028) (by decide)]
  rfl

theorem effects_ME_CFG (s : State) (ix : List Nat) (old w : Word) : s.effects 0x340000 ix old w = meterEffect 0x340000 ix old w s := by
  simp only [State.effects, netEffect_other (base := 0x340000) (by decide), hostEffect_other (base := 0x340000) (by decide), schedEffect_other (base := 0x340000) (by decide), laneEffect_other (base := 0x340000) (by decide), analogueEffect_other (base := 0x340000) (by decide), phasorEffect_other (base := 0x340000) (by decide), streamEffect_other (base := 0x340000) (by decide), alignEffect_other (base := 0x340000) (by decide), oscillationEffect_other (base := 0x340000) (by decide), islandEffect_other (base := 0x340000) (by decide), alarmEffect_other (base := 0x340000) (by decide), captureEffect_other (base := 0x340000) (by decide), timeEffect_other (base := 0x340000) (by decide), roleEffect_other (base := 0x340000) (by decide)]
  rfl

theorem effects_CP_CTRL (s : State) (ix : List Nat) (old w : Word) : s.effects 0x370014 ix old w = captureEffect 0x370014 ix old w s := by
  simp only [State.effects, netEffect_other (base := 0x370014) (by decide), hostEffect_other (base := 0x370014) (by decide), schedEffect_other (base := 0x370014) (by decide), laneEffect_other (base := 0x370014) (by decide), analogueEffect_other (base := 0x370014) (by decide), phasorEffect_other (base := 0x370014) (by decide), streamEffect_other (base := 0x370014) (by decide), alignEffect_other (base := 0x370014) (by decide), oscillationEffect_other (base := 0x370014) (by decide), islandEffect_other (base := 0x370014) (by decide), alarmEffect_other (base := 0x370014) (by decide), meterEffect_other (base := 0x370014) (by decide), timeEffect_other (base := 0x370014) (by decide), roleEffect_other (base := 0x370014) (by decide)]
  rfl

theorem effects_HI_SQ_DB (s : State) (ix : List Nat) (old w : Word) : s.effects 0x390000 ix old w = hostEffect 0x390000 ix old w s := by
  simp only [State.effects, netEffect_other (base := 0x390000) (by decide), schedEffect_other (base := 0x390000) (by decide), laneEffect_other (base := 0x390000) (by decide), analogueEffect_other (base := 0x390000) (by decide), phasorEffect_other (base := 0x390000) (by decide), streamEffect_other (base := 0x390000) (by decide), alignEffect_other (base := 0x390000) (by decide), oscillationEffect_other (base := 0x390000) (by decide), islandEffect_other (base := 0x390000) (by decide), alarmEffect_other (base := 0x390000) (by decide), meterEffect_other (base := 0x390000) (by decide), captureEffect_other (base := 0x390000) (by decide), timeEffect_other (base := 0x390000) (by decide), roleEffect_other (base := 0x390000) (by decide)]
  rfl

theorem effects_HI_CQ_DB (s : State) (ix : List Nat) (old w : Word) : s.effects 0x390004 ix old w = hostEffect 0x390004 ix old w s := by
  simp only [State.effects, netEffect_other (base := 0x390004) (by decide), schedEffect_other (base := 0x390004) (by decide), laneEffect_other (base := 0x390004) (by decide), analogueEffect_other (base := 0x390004) (by decide), phasorEffect_other (base := 0x390004) (by decide), streamEffect_other (base := 0x390004) (by decide), alignEffect_other (base := 0x390004) (by decide), oscillationEffect_other (base := 0x390004) (by decide), islandEffect_other (base := 0x390004) (by decide), alarmEffect_other (base := 0x390004) (by decide), meterEffect_other (base := 0x390004) (by decide), captureEffect_other (base := 0x390004) (by decide), timeEffect_other (base := 0x390004) (by decide), roleEffect_other (base := 0x390004) (by decide)]
  rfl

theorem effects_HI_DR_DB (s : State) (ix : List Nat) (old w : Word) : s.effects 0x390080 ix old w = hostEffect 0x390080 ix old w s := by
  simp only [State.effects, netEffect_other (base := 0x390080) (by decide), schedEffect_other (base := 0x390080) (by decide), laneEffect_other (base := 0x390080) (by decide), analogueEffect_other (base := 0x390080) (by decide), phasorEffect_other (base := 0x390080) (by decide), streamEffect_other (base := 0x390080) (by decide), alignEffect_other (base := 0x390080) (by decide), oscillationEffect_other (base := 0x390080) (by decide), islandEffect_other (base := 0x390080) (by decide), alarmEffect_other (base := 0x390080) (by decide), meterEffect_other (base := 0x390080) (by decide), captureEffect_other (base := 0x390080) (by decide), timeEffect_other (base := 0x390080) (by decide), roleEffect_other (base := 0x390080) (by decide)]
  rfl

theorem effects_HI_SQ_CFG (s : State) (ix : List Nat) (old w : Word) : s.effects 0x391008 ix old w = hostEffect 0x391008 ix old w s := by
  simp only [State.effects, netEffect_other (base := 0x391008) (by decide), schedEffect_other (base := 0x391008) (by decide), laneEffect_other (base := 0x391008) (by decide), analogueEffect_other (base := 0x391008) (by decide), phasorEffect_other (base := 0x391008) (by decide), streamEffect_other (base := 0x391008) (by decide), alignEffect_other (base := 0x391008) (by decide), oscillationEffect_other (base := 0x391008) (by decide), islandEffect_other (base := 0x391008) (by decide), alarmEffect_other (base := 0x391008) (by decide), meterEffect_other (base := 0x391008) (by decide), captureEffect_other (base := 0x391008) (by decide), timeEffect_other (base := 0x391008) (by decide), roleEffect_other (base := 0x391008) (by decide)]
  rfl

theorem effects_HI_CQ_CFG (s : State) (ix : List Nat) (old w : Word) : s.effects 0x391408 ix old w = hostEffect 0x391408 ix old w s := by
  simp only [State.effects, netEffect_other (base := 0x391408) (by decide), schedEffect_other (base := 0x391408) (by decide), laneEffect_other (base := 0x391408) (by decide), analogueEffect_other (base := 0x391408) (by decide), phasorEffect_other (base := 0x391408) (by decide), streamEffect_other (base := 0x391408) (by decide), alignEffect_other (base := 0x391408) (by decide), oscillationEffect_other (base := 0x391408) (by decide), islandEffect_other (base := 0x391408) (by decide), alarmEffect_other (base := 0x391408) (by decide), meterEffect_other (base := 0x391408) (by decide), captureEffect_other (base := 0x391408) (by decide), timeEffect_other (base := 0x391408) (by decide), roleEffect_other (base := 0x391408) (by decide)]
  rfl

theorem effects_HI_DR_CFG (s : State) (ix : List Nat) (old w : Word) : s.effects 0x391808 ix old w = hostEffect 0x391808 ix old w s := by
  simp only [State.effects, netEffect_other (base := 0x391808) (by decide), schedEffect_other (base := 0x391808) (by decide), laneEffect_other (base := 0x391808) (by decide), analogueEffect_other (base := 0x391808) (by decide), phasorEffect_other (base := 0x391808) (by decide), streamEffect_other (base := 0x391808) (by decide), alignEffect_other (base := 0x391808) (by decide), oscillationEffect_other (base := 0x391808) (by decide), islandEffect_other (base := 0x391808) (by decide), alarmEffect_other (base := 0x391808) (by decide), meterEffect_other (base := 0x391808) (by decide), captureEffect_other (base := 0x391808) (by decide), timeEffect_other (base := 0x391808) (by decide), roleEffect_other (base := 0x391808) (by decide)]
  rfl

theorem effects_MSIX_CTRL (s : State) (ix : List Nat) (old w : Word) : s.effects 0x39800c ix old w = hostEffect 0x39800c ix old w s := by
  simp only [State.effects, netEffect_other (base := 0x39800c) (by decide), schedEffect_other (base := 0x39800c) (by decide), laneEffect_other (base := 0x39800c) (by decide), analogueEffect_other (base := 0x39800c) (by decide), phasorEffect_other (base := 0x39800c) (by decide), streamEffect_other (base := 0x39800c) (by decide), alignEffect_other (base := 0x39800c) (by decide), oscillationEffect_other (base := 0x39800c) (by decide), islandEffect_other (base := 0x39800c) (by decide), alarmEffect_other (base := 0x39800c) (by decide), meterEffect_other (base := 0x39800c) (by decide), captureEffect_other (base := 0x39800c) (by decide), timeEffect_other (base := 0x39800c) (by decide), roleEffect_other (base := 0x39800c) (by decide)]
  rfl

theorem effects_HI_HB (s : State) (ix : List Nat) (old w : Word) : s.effects 0x392008 ix old w = hostEffect 0x392008 ix old w s := by
  simp only [State.effects, netEffect_other (base := 0x392008) (by decide), schedEffect_other (base := 0x392008) (by decide), laneEffect_other (base := 0x392008) (by decide), analogueEffect_other (base := 0x392008) (by decide), phasorEffect_other (base := 0x392008) (by decide), streamEffect_other (base := 0x392008) (by decide), alignEffect_other (base := 0x392008) (by decide), oscillationEffect_other (base := 0x392008) (by decide), islandEffect_other (base := 0x392008) (by decide), alarmEffect_other (base := 0x392008) (by decide), meterEffect_other (base := 0x392008) (by decide), captureEffect_other (base := 0x392008) (by decide), timeEffect_other (base := 0x392008) (by decide), roleEffect_other (base := 0x392008) (by decide)]
  rfl

theorem effects_SC_THR_FLAGS (s : State) (ix : List Nat) (old w : Word) : s.effects 0x3a000c ix old w = schedEffect 0x3a000c ix old w s := by
  simp only [State.effects, netEffect_other (base := 0x3a000c) (by decide), hostEffect_other (base := 0x3a000c) (by decide), laneEffect_other (base := 0x3a000c) (by decide), analogueEffect_other (base := 0x3a000c) (by decide), phasorEffect_other (base := 0x3a000c) (by decide), streamEffect_other (base := 0x3a000c) (by decide), alignEffect_other (base := 0x3a000c) (by decide), oscillationEffect_other (base := 0x3a000c) (by decide), islandEffect_other (base := 0x3a000c) (by decide), alarmEffect_other (base := 0x3a000c) (by decide), meterEffect_other (base := 0x3a000c) (by decide), captureEffect_other (base := 0x3a000c) (by decide), timeEffect_other (base := 0x3a000c) (by decide), roleEffect_other (base := 0x3a000c) (by decide)]
  rfl

theorem effects_SC_THR_FCLR (s : State) (ix : List Nat) (old w : Word) : s.effects 0x3a0010 ix old w = schedEffect 0x3a0010 ix old w s := by
  simp only [State.effects, netEffect_other (base := 0x3a0010) (by decide), hostEffect_other (base := 0x3a0010) (by decide), laneEffect_other (base := 0x3a0010) (by decide), analogueEffect_other (base := 0x3a0010) (by decide), phasorEffect_other (base := 0x3a0010) (by decide), streamEffect_other (base := 0x3a0010) (by decide), alignEffect_other (base := 0x3a0010) (by decide), oscillationEffect_other (base := 0x3a0010) (by decide), islandEffect_other (base := 0x3a0010) (by decide), alarmEffect_other (base := 0x3a0010) (by decide), meterEffect_other (base := 0x3a0010) (by decide), captureEffect_other (base := 0x3a0010) (by decide), timeEffect_other (base := 0x3a0010) (by decide), roleEffect_other (base := 0x3a0010) (by decide)]
  rfl

theorem effects_SC_THR_WAIT (s : State) (ix : List Nat) (old w : Word) : s.effects 0x3a0008 ix old w = schedEffect 0x3a0008 ix old w s := by
  simp only [State.effects, netEffect_other (base := 0x3a0008) (by decide), hostEffect_other (base := 0x3a0008) (by decide), laneEffect_other (base := 0x3a0008) (by decide), analogueEffect_other (base := 0x3a0008) (by decide), phasorEffect_other (base := 0x3a0008) (by decide), streamEffect_other (base := 0x3a0008) (by decide), alignEffect_other (base := 0x3a0008) (by decide), oscillationEffect_other (base := 0x3a0008) (by decide), islandEffect_other (base := 0x3a0008) (by decide), alarmEffect_other (base := 0x3a0008) (by decide), meterEffect_other (base := 0x3a0008) (by decide), captureEffect_other (base := 0x3a0008) (by decide), timeEffect_other (base := 0x3a0008) (by decide), roleEffect_other (base := 0x3a0008) (by decide)]
  rfl

theorem effects_SC_THR_CFG (s : State) (ix : List Nat) (old w : Word) : s.effects 0x3a0000 ix old w = schedEffect 0x3a0000 ix old w s := by
  simp only [State.effects, netEffect_other (base := 0x3a0000) (by decide), hostEffect_other (base := 0x3a0000) (by decide), laneEffect_other (base := 0x3a0000) (by decide), analogueEffect_other (base := 0x3a0000) (by decide), phasorEffect_other (base := 0x3a0000) (by decide), streamEffect_other (base := 0x3a0000) (by decide), alignEffect_other (base := 0x3a0000) (by decide), oscillationEffect_other (base := 0x3a0000) (by decide), islandEffect_other (base := 0x3a0000) (by decide), alarmEffect_other (base := 0x3a0000) (by decide), meterEffect_other (base := 0x3a0000) (by decide), captureEffect_other (base := 0x3a0000) (by decide), timeEffect_other (base := 0x3a0000) (by decide), roleEffect_other (base := 0x3a0000) (by decide)]
  rfl

theorem effects_SC_CORE_CTRL (s : State) (ix : List Nat) (old w : Word) : s.effects 0x3a5000 ix old w = schedEffect 0x3a5000 ix old w s := by
  simp only [State.effects, netEffect_other (base := 0x3a5000) (by decide), hostEffect_other (base := 0x3a5000) (by decide), laneEffect_other (base := 0x3a5000) (by decide), analogueEffect_other (base := 0x3a5000) (by decide), phasorEffect_other (base := 0x3a5000) (by decide), streamEffect_other (base := 0x3a5000) (by decide), alignEffect_other (base := 0x3a5000) (by decide), oscillationEffect_other (base := 0x3a5000) (by decide), islandEffect_other (base := 0x3a5000) (by decide), alarmEffect_other (base := 0x3a5000) (by decide), meterEffect_other (base := 0x3a5000) (by decide), captureEffect_other (base := 0x3a5000) (by decide), timeEffect_other (base := 0x3a5000) (by decide), roleEffect_other (base := 0x3a5000) (by decide)]
  rfl

theorem effects_SC_SWEVT (s : State) (ix : List Nat) (old w : Word) : s.effects 0x3a7000 ix old w = schedEffect 0x3a7000 ix old w s := by
  simp only [State.effects, netEffect_other (base := 0x3a7000) (by decide), hostEffect_other (base := 0x3a7000) (by decide), laneEffect_other (base := 0x3a7000) (by decide), analogueEffect_other (base := 0x3a7000) (by decide), phasorEffect_other (base := 0x3a7000) (by decide), streamEffect_other (base := 0x3a7000) (by decide), alignEffect_other (base := 0x3a7000) (by decide), oscillationEffect_other (base := 0x3a7000) (by decide), islandEffect_other (base := 0x3a7000) (by decide), alarmEffect_other (base := 0x3a7000) (by decide), meterEffect_other (base := 0x3a7000) (by decide), captureEffect_other (base := 0x3a7000) (by decide), timeEffect_other (base := 0x3a7000) (by decide), roleEffect_other (base := 0x3a7000) (by decide)]
  rfl

theorem effects_DL_ARM (s : State) (ix : List Nat) (old w : Word) : s.effects 0x3b0008 ix old w = schedEffect 0x3b0008 ix old w s := by
  simp only [State.effects, netEffect_other (base := 0x3b0008) (by decide), hostEffect_other (base := 0x3b0008) (by decide), laneEffect_other (base := 0x3b0008) (by decide), analogueEffect_other (base := 0x3b0008) (by decide), phasorEffect_other (base := 0x3b0008) (by decide), streamEffect_other (base := 0x3b0008) (by decide), alignEffect_other (base := 0x3b0008) (by decide), oscillationEffect_other (base := 0x3b0008) (by decide), islandEffect_other (base := 0x3b0008) (by decide), alarmEffect_other (base := 0x3b0008) (by decide), meterEffect_other (base := 0x3b0008) (by decide), captureEffect_other (base := 0x3b0008) (by decide), timeEffect_other (base := 0x3b0008) (by decide), roleEffect_other (base := 0x3b0008) (by decide)]
  rfl

theorem effects_DL_DUE_HI (s : State) (ix : List Nat) (old w : Word) : s.effects 0x3b0010 ix old w = schedEffect 0x3b0010 ix old w s := by
  simp only [State.effects, netEffect_other (base := 0x3b0010) (by decide), hostEffect_other (base := 0x3b0010) (by decide), laneEffect_other (base := 0x3b0010) (by decide), analogueEffect_other (base := 0x3b0010) (by decide), phasorEffect_other (base := 0x3b0010) (by decide), streamEffect_other (base := 0x3b0010) (by decide), alignEffect_other (base := 0x3b0010) (by decide), oscillationEffect_other (base := 0x3b0010) (by decide), islandEffect_other (base := 0x3b0010) (by decide), alarmEffect_other (base := 0x3b0010) (by decide), meterEffect_other (base := 0x3b0010) (by decide), captureEffect_other (base := 0x3b0010) (by decide), timeEffect_other (base := 0x3b0010) (by decide), roleEffect_other (base := 0x3b0010) (by decide)]
  rfl

theorem effects_DL_DONE (s : State) (ix : List Nat) (old w : Word) : s.effects 0x3b0014 ix old w = schedEffect 0x3b0014 ix old w s := by
  simp only [State.effects, netEffect_other (base := 0x3b0014) (by decide), hostEffect_other (base := 0x3b0014) (by decide), laneEffect_other (base := 0x3b0014) (by decide), analogueEffect_other (base := 0x3b0014) (by decide), phasorEffect_other (base := 0x3b0014) (by decide), streamEffect_other (base := 0x3b0014) (by decide), alignEffect_other (base := 0x3b0014) (by decide), oscillationEffect_other (base := 0x3b0014) (by decide), islandEffect_other (base := 0x3b0014) (by decide), alarmEffect_other (base := 0x3b0014) (by decide), meterEffect_other (base := 0x3b0014) (by decide), captureEffect_other (base := 0x3b0014) (by decide), timeEffect_other (base := 0x3b0014) (by decide), roleEffect_other (base := 0x3b0014) (by decide)]
  rfl

theorem effects_SC_CORE_CLAIM (s : State) (ix : List Nat) (old w : Word) : s.effects 0x3a5008 ix old w = s := by
  simp only [State.effects, netEffect_other (base := 0x3a5008) (by decide), hostEffect_other (base := 0x3a5008) (by decide), schedEffect_other (base := 0x3a5008) (by decide), laneEffect_other (base := 0x3a5008) (by decide), analogueEffect_other (base := 0x3a5008) (by decide), phasorEffect_other (base := 0x3a5008) (by decide), streamEffect_other (base := 0x3a5008) (by decide), alignEffect_other (base := 0x3a5008) (by decide), oscillationEffect_other (base := 0x3a5008) (by decide), islandEffect_other (base := 0x3a5008) (by decide), alarmEffect_other (base := 0x3a5008) (by decide), meterEffect_other (base := 0x3a5008) (by decide), captureEffect_other (base := 0x3a5008) (by decide), timeEffect_other (base := 0x3a5008) (by decide), roleEffect_other (base := 0x3a5008) (by decide)]
  rfl

end Sys2Proof.Machine
end

