-- ==== Sys2Proof/Machine/Descriptor.lean ====
section
/-!
DEFINITION. The 64-byte submission descriptor (11, R297, R308): the fields of each opcode, the bytes that must be zero, and the command that
a descriptor gives with what the device reads for it from host memory.
-/

namespace Sys2Proof.Machine

/-- A field of a descriptor, little-endian. -/
def descField (d : List Byte) (off size : Nat) : Nat := leNat ((d.drop off).take size)

/-- Offsets and sizes of the parameters of an opcode (R308). -/
def paramFields (op : Nat) : List (Nat × Nat) :=
  if op = 0x02 ∨ op = 0x03 then [(24, 2), (26, 2), (28, 4), (32, 8)]
  else if op = 0x10 then [(24, 8), (32, 8), (40, 8), (48, 8), (56, 4), (60, 2), (62, 1), (63, 1)]
  else if op = 0x11 then [(24, 8), (32, 8), (40, 8), (60, 2), (62, 1), (63, 1)]
  else if op = 0x20 then [(24, 2), (32, 16)]
  else if op = 0x21 ∨ op = 0x82 then [(24, 1)]
  else if op = 0x30 then [(24, 1), (25, 1)]
  else if op = 0x31 then [(24, 1), (25, 1), (28, 4), (32, 4), (36, 4), (40, 8), (48, 4)]
  else if op = 0x40 then [(24, 8), (32, 8), (40, 4), (44, 4), (48, 1), (49, 1)]
  else if op = 0x50 then [(24, 1), (25, 1), (26, 1), (28, 2), (32, 8), (40, 4)]
  else if op = 0x51 ∨ op = 0x60 then [(24, 1), (25, 1), (28, 4), (32, 8)]
  else if op = 0x52 then [(24, 1), (25, 1), (28, 4), (32, 8), (40, 8), (48, 4)]
  else if op = 0x53 then [(24, 1), (25, 1), (32, 8), (40, 4), (48, 16)]
  else if op = 0x54 ∨ op = 0x55 then [(24, 1), (28, 4), (32, 8), (40, 8), (48, 4)]
  else if op = 0x61 then [(24, 12)]
  else if op = 0x70 then [(24, 1), (32, 8), (40, 8), (48, 4)]
  else if op = 0x81 then [(24, 1), (32, 8), (40, 4)]
  else if op = 0x90 then [(24, 4)]
  else []

/-- FEN_PIN with RELEASE, whose LIST must be zero (R310). -/
def isRelease (d : List Byte) : Bool := descField d 0 1 == 0x11 && (descField d 62 1).testBit 0

/-- The first byte that must be zero and is not (R297): of FLAGS, of START_BY's QUAL, of PARAM outside the opcode's fields, of PFLAGS
beside RELEASE, and of LIST with RELEASE. -/
def badByte (d : List Byte) : Option Nat :=
  if 1 < descField d 1 1 then some 1
  else if descField d 22 2 ≠ 0 then some 22
  else if descField d 0 1 = 0x11 ∧ 1 < descField d 62 1 then some 62
  else (List.range 64).find? fun k => decide (24 ≤ k) && descField d k 1 != 0 &&
    (!((paramFields (descField d 0 1)).any fun f => decide (f.1 ≤ k) && decide (k < f.1 + f.2)) || (isRelease d && decide (40 ≤ k) && decide (k < 48)))

/-- An instant in the record time-stamp format. -/
def descInstant (d : List Byte) (off : Nat) : Nat := descField d off 6 * 1000000000 + descField d (off + 6) 4

/-- The header of the command a descriptor of a ring gives. -/
def headerOfDesc (q : Nat) (d : List Byte) : CmdHeader where
  sq := q
  tag := BitVec.ofNat 32 (descField d 4 4)
  progEn := (descField d 1 1).testBit 0
  progEvery := descField d 2 2
  limitMs := descField d 8 4
  startBy := descInstant d 12
  badReserved := badByte d

/-- What the device reads from host memory for a command: slot numbers, table entries, a key blob, a message, a signature, an image, a
checkpoint; and whether the read came back good. -/
structure HostBuffers where
  slots : List Nat := []
  entries : List (Nat × Nat) := []
  blob : KeyBlob := {}
  message : List Byte := []
  signature : List Byte := []
  image : Image := []
  checkpoint : Option Checkpoint := none
  readOk : Bool := true
deriving DecidableEq, Repr

/-- The command that a descriptor of a ring gives; none of an unknown opcode, which COMMAND_START itself completes. -/
def commandOf (q : Nat) (d : List Byte) (b : HostBuffers) : Option Instr :=
  let h := headerOfDesc q d
  let at_ := descField d
  let op := at_ 0 1
  if op = 0x01 then some (.nop h)
  else if op = 0x02 then some (.tableSet h (at_ 24 2) (at_ 26 2) b.entries b.readOk)
  else if op = 0x03 then some (.readTable h (at_ 24 2) (at_ 26 2) (at_ 32 8) (at_ 28 4))
  else if op = 0x10 then some (.fenQuery h (at_ 24 8) (at_ 32 8) (at_ 48 8) (at_ 56 4) b.slots (at_ 62 1) (at_ 63 1))
  else if op = 0x11 then
    some (if isRelease d then .fenUnpin h (at_ 24 8) (at_ 32 8) (List.replicate (at_ 60 2) 0) (at_ 63 1)
      else .fenPin h (at_ 24 8) (at_ 32 8) b.slots (at_ 63 1))
  else if op = 0x20 then some (.laneRecordClose h (at_ 24 2) ((d.drop 32).take 16))
  else if op = 0x21 then some (.metrologyMode h (at_ 24 1))
  else if op = 0x30 then some (.captureArm h (at_ 24 1) (at_ 25 1))
  else if op = 0x31 then some (.captureRead h (at_ 24 1) (at_ 25 1) (at_ 28 4) (at_ 32 4) (at_ 36 4) (at_ 40 8) (at_ 48 4))
  else if op = 0x40 then some (.logRead h (at_ 24 8) (at_ 32 8) (at_ 40 4) (at_ 44 4) (at_ 48 1) (at_ 49 1))
  else if op = 0x50 then some (.keyGenerate h (at_ 24 1) (at_ 25 1) (at_ 26 1) (at_ 28 2) (at_ 32 8) (at_ 40 4))
  else if op = 0x51 then some (.keyImport h (at_ 24 1) (at_ 25 1) b.blob)
  else if op = 0x52 then some (.keyUpdate h (at_ 24 1) (at_ 25 1) b.blob (at_ 40 8) (at_ 48 4))
  else if op = 0x53 then some (.attest h (at_ 24 1) (at_ 25 1) (at_ 32 8) (at_ 40 4) (at_ 48 16))
  else if op = 0x54 then some (.sign h (at_ 24 1) b.message (at_ 40 8) (at_ 48 4))
  else if op = 0x55 then some (.verify h (at_ 24 1) b.message b.signature)
  else if op = 0x60 then some (.imageStage h (at_ 24 1) (at_ 25 1) b.image b.readOk)
  else if op = 0x61 then some (.fwArm h (descInstant d 24))
  else if op = 0x62 then some (.fwConfirm h)
  else if op = 0x63 then some (.fwFallback h)
  else if op = 0x70 then some (.pairJoin h (at_ 24 1) (at_ 32 8) (at_ 40 8) (at_ 48 4) b.checkpoint)
  else if op = 0x71 then some (.pairPromote h)
  else if op = 0x72 then some (.pairDrill h)
  else if op = 0x80 then some (.timeAcquire h)
  else if op = 0x81 then
    some (if at_ 24 1 = 0 then .timeStep h 0 (signedOf 64 (at_ 32 8)) (signedOf 32 (at_ 40 4))
      else .timeStep h (at_ 24 1) (at_ 32 8) (at_ 40 4))
  else if op = 0x82 then some (.opSet h (at_ 24 1))
  else if op = 0x90 then some (.returnCapsule h (at_ 24 4))
  else none

end Sys2Proof.Machine
end

