-- ==== Sys2Proof/Tests/Slice0.lean ====
section
/-!
SUPPORT. Tests: an ill-formed command for each check of well-formedness, and for each clause of a statement a state and operands that
meet its hypotheses together, run for one step, with what the rule says of it.
-/

namespace Sys2Proof.Tests

open Sys2Proof Sys2Proof.Machine

set_option Elab.async false

/-- The state a command leaves has a property. -/
def after (c : Instr) (s : State) (p : State → Bool) : Bool :=
  match exec c s with
  | .next t => p t
  | _ => false

/-- A command is refused as ill formed. -/
def refusedBy (c : Instr) (s : State) : Bool :=
  match exec c s with
  | .refused .illFormed => true
  | _ => false

/-- A unit that runs, out of reset, with fields set. -/
def running (fs : List (Fld × Nat)) : State :=
  fs.foldl (fun s f => s.put f.1 f.2)
    { State.reset.put GL_STATUS_BOOT_DONE 1 |>.put GL_STATUS_SERVICE 1 with power := { phase := .running } }

/-- The same at a monotonic count and a TAI. -/
def timed (mono tai : Nat) (fs : List (Fld × Nat)) : State := { running fs with time := { mono, tai } }

/-- Every item holds. -/
def holds (l : List Bool) : Bool := l.all id

/-- The header of a command of ring 0. -/
def header : CmdHeader := {}

/-- A running unit whose ring 0 has started a command of an opcode. -/
def serving (op : Nat) (fs : List (Fld × Nat)) : State := { running fs with host := { started := [(0, op)] } }

/-! ### Well-formedness: one ill-formed command for each check -/

theorem test_wf_offset : refusedBy (.statCounterClear .host 0x400000 0) (running []) = true := by decide +kernel
theorem test_wf_address : refusedBy (.internalAccess .host (2 ^ 48 - 1) true [0, 0]) (running []) = true := by decide +kernel
theorem test_wf_access_empty : refusedBy (.internalAccess .host 0 false []) (running []) = true := by decide +kernel
theorem test_wf_mram_end : refusedBy (.mramLegalWrite .host 0x21fffff [1, 2]) (running []) = true := by decide +kernel
theorem test_wf_mram_empty : refusedBy (.mramLegalWrite .host 0 []) (running []) = true := by decide +kernel
theorem test_wf_sluice : refusedBy (.sluiceSelftest 26 true) (running []) = true := by decide +kernel
theorem test_wf_ring : refusedBy (.nop { sq := 16 }) (running []) = true := by decide +kernel
theorem test_wf_value : refusedBy (.calCommit .host (2 ^ 32)) (running []) = true := by decide +kernel
theorem test_wf_ptp_port : refusedBy (.syncTimeout 3) (running []) = true := by decide +kernel
theorem test_wf_ptp_kind : refusedBy (.ptpMasterTx 0 3) (running []) = true := by decide +kernel
theorem test_wf_alarm : refusedBy (.calAlarm 2) (running []) = true := by decide +kernel
theorem test_wf_start_bit : refusedBy (.trimStart .host 2) (running []) = true := by decide +kernel
theorem test_wf_stop_bit : refusedBy (.laneDisable .host 0 1) (running []) = true := by decide +kernel
theorem test_wf_port : refusedBy (.phyLinkLoss 4) (running []) = true := by decide +kernel
theorem test_wf_queue : refusedBy (.txqStarve 0 8) (running []) = true := by decide +kernel
theorem test_wf_lane : refusedBy (.laneSilence 256) (running []) = true := by decide +kernel
theorem test_wf_converter : refusedBy (.converterFrame 8) (running []) = true := by decide +kernel
theorem test_wf_chain : refusedBy (.chainOutput 64) (running []) = true := by decide +kernel
theorem test_wf_function : refusedBy (.pmuDeadlineMiss 272) (running []) = true := by decide +kernel
theorem test_wf_half_cycle : refusedBy (.halfWindow 0 8) (running []) = true := by decide +kernel
theorem test_wf_stream : refusedBy (.osTcpClose 32) (running []) = true := by decide +kernel
theorem test_wf_slot : refusedBy (.slotStale 8192) (running []) = true := by decide +kernel
theorem test_wf_watcher : refusedBy (.owSample 64 0) (running []) = true := by decide +kernel
theorem test_wf_island : refusedBy (.iwLearnEnd 16) (running []) = true := by decide +kernel
theorem test_wf_rule : refusedBy (.ruleMinOnEnd 32) (running []) = true := by decide +kernel
theorem test_wf_job_kind : refusedBy (.detectionDeadlineMiss 5 0) (running []) = true := by decide +kernel
theorem test_wf_job_index : refusedBy (.detectionDeadlineMiss 4 1) (running []) = true := by decide +kernel
theorem test_wf_pulse : refusedBy (.pulseEmit 8) (running []) = true := by decide +kernel
theorem test_wf_sentinel : refusedBy (.sentinelSample [0, 0, 0]) (running []) = true := by decide +kernel
theorem test_wf_tamper : refusedBy (.tamperInput 2 true) (running []) = true := by decide +kernel
theorem test_wf_capture : refusedBy (.captureHoldoffEnd 16) (running []) = true := by decide +kernel
theorem test_wf_ring_register : refusedBy (.ringEnable .host 0x391000 1) (running []) = true := by decide +kernel
theorem test_wf_opcode : refusedBy (.commandStart 0 .ok 256 0) (running []) = true := by decide +kernel
theorem test_wf_source : refusedBy (.msixCoalesceTimer 24) (running []) = true := by decide +kernel
theorem test_wf_vector : refusedBy (.msixUnmask .host 64 0) (running []) = true := by decide +kernel
theorem test_wf_thread : refusedBy (.threadFlagSet .host 512 1) (running []) = true := by decide +kernel
theorem test_wf_core : refusedBy (.preemptTrap 8) (running []) = true := by decide +kernel
theorem test_wf_timer : refusedBy (.schedTimer 16) (running []) = true := by decide +kernel
theorem test_wf_monitor : refusedBy (.threadDeadlineMiss 63) (running []) = true := by decide +kernel
theorem test_wf_causeway_lane : refusedBy (.cwLaneSilence 2) (running []) = true := by decide +kernel
theorem test_wf_engine : refusedBy (.katRun 17 true) (running []) = true := by decide +kernel
theorem test_wf_region : refusedBy (.scrubPass true [0x100000000000 - 8] []) (running []) = true := by decide +kernel
theorem test_wf_scrub_word : refusedBy (.scrubPass false [] [12]) (running []) = true := by decide +kernel
theorem test_wf_chunk : refusedBy (.relayChunkIn {} (List.replicate 8193 0)) (running []) = true := by decide +kernel
theorem test_wf_image_slot : refusedBy (.bootUp false 3 0 []) (running []) = true := by decide +kernel
theorem test_wf_path : refusedBy (.pathCheck 4 true) (running []) = true := by decide +kernel

/-! ### The machine -/

theorem test_step_front :
    (let s := { running [] with pending := [.tempUpdate 7, .kickoff] }
     match step s with
     | .next t => t.pending == [Instr.kickoff] && t.getS GL_TEMP_NOW == 7
     | _ => false) = true := by decide +kernel
theorem test_idle :
    (let s := running []
     holds [s.pending == [], s.coreOn, { running [] with power := { phase := .unpowered } }.power.phase = .unpowered]) = true := by decide +kernel
theorem test_well_formed : ((Instr.tempUpdate 0).wf && !(Instr.calAlarm 2).wf) = true := by decide +kernel
theorem test_audit_kept :
    (after (.mramLegalWrite .host 0 [1]) (running []) fun u => u.meter.audit.length = 1) = true := by decide +kernel
theorem test_mono_command :
    (after .kickoff (timed 5 0 []) (fun t => t.time.mono = 5) && after .rstNAssert (timed 5 0 []) (fun t => t.time.mono = 0)) = true := by decide +kernel
theorem test_memory_step :
    (let s := { running [] with mem := [⟨7, 1⟩, ⟨bar4Base, 2⟩] }
     holds [s.canonical, after .kickoff s fun t => t.mem = s.mem, after (.internalAccess .host 8 true [3]) s fun t => t.memByte 7 = 1 && t.memByte 8 == 3,
       after (.mramLegalWrite .host 1 [4]) s fun t => t.memByte bar4Base = 2 && t.memByte (bar4Base + 1) == 4,
       after .rstNAssert s fun t => t.memByte bar4Base = 2, after (.owModalUpdate 0) s fun t => t.mem = s.mem]) = true := by decide +kernel
theorem test_key_frame :
    (let s := { running [] with keys := { slots := [(9, some { a := { share := 5 } })] } }
     holds [!Instr.kickoff.touchesKeys, after .kickoff s fun t => t.keys == s.keys]) = true := by decide +kernel
theorem test_battery_loss :
    (let s := { State.reset with power := { phase := .battery } }
     holds [after .batteryLoss s fun t => t.power.phase == .unpowered, !(Instr.tempUpdate 5).actsInBattery,
       after (.tempUpdate 5) s fun t => t == s]) = true := by decide +kernel
theorem test_unpowered_idle :
    (after (.tempUpdate 5) { State.reset with power := { phase := .unpowered } } fun t => t.word GL_TEMP == 0) = true := by decide +kernel

/-! ### Register access (00, 01) -/

theorem test_range_refused :
    (let s := running []
     s.canonical && s.coreOn && s.answers 0x20014 && !s.followsPrimary &&
     (match lookup 0x20014 with
      | some (r, ix) => (satOf r.base ix).isNone && r.fields.any fun f => !f.inRange 0x4000032
      | none => false) &&
     after (.registerWrite .host 0x20014 4 0x4000032) s fun u =>
       u.reg 0x20014 == s.reg 0x20014 && u.word IG_CFG_REJ == 1 && u.get IG_CFG_REJ_ADDR_OFFSET == 0x20014 && u.get IG_CFG_REJ_INFO_REASON == 1) = true := by
  decide +kernel
theorem test_narrow_write :
    (after (.registerWrite (.core 2) GL_SCRATCH 2 7) (running []) fun u =>
       u.word GL_SCRATCH == 0 && u.get IG_CFG_REJ_INFO_REASON == 5 && u.get IG_CFG_REJ_ADDR_OFFSET == GL_SCRATCH && u.get IG_CFG_REJ_INFO_MASTER == 3) = true := by
  decide +kernel
theorem test_core_trap :
    (let s := running []
     holds [!coreTraps (.core 2) GL_SCRATCH 2, after (.registerWrite (.core 7) 0x22 4 7) s fun u => u.out = [.trap 7 6],
       after (.latchRead (.core 0) 0x21 2) s fun u => u.out = [.trap 0 4]]) = true := by decide +kernel
theorem test_unaligned_read :
    (after (.latchRead .host 0x27 4) (running [(whole GL_SCRATCH, 9)]) fun u => u.out == [.readData .host 0x27 0]) = true := by decide +kernel
theorem test_width :
    (let s := running [(whole GL_SCRATCH, 9)]
     holds [s.canonical, after (.latchRead .host GL_SCRATCH 2) s fun u => u.out = [.readData .host GL_SCRATCH 0],
       after (.partnerRead .host PL_NEWEST_HI 8) s fun u => u.out = [.readData .host PL_NEWEST_HI 0] && !u.flag IG_STATUS_TORN_READ]) = true := by
  decide +kernel
theorem test_scratch :
    (let s := running []
     s.takesWrite .host GL_SCRATCH 0xffffffff && after (.registerWrite .host GL_SCRATCH 4 0xffffffff) s fun u => u.word GL_SCRATCH == 0xffffffff) = true := by
  decide +kernel
theorem test_counter_clear :
    (let s := running [(whole IG_CFG_REJ, 0xffffffff), (IG_STATUS_SAT_REJ, 1)]
     s.canonical && s.takesWrite .host IG_CFG_REJ 5 &&
     (match lookup IG_CFG_REJ with
      | some (r, ix) => satOf r.base ix == some IG_STATUS_SAT_REJ
      | none => false) &&
     after (.statCounterClear .host IG_CFG_REJ 5) s fun u => u.word IG_CFG_REJ == 0 && u.get IG_STATUS_SAT_REJ == 0) = true := by decide +kernel
theorem test_latch_set :
    (let s := { running [(whole PL_NEWEST_LO, 5), (whole PL_NEWEST_HI, 1)] with latches := [⟨.core 0, PL_NEWEST_HI, 7⟩] }
     s.answers PL_NEWEST_LO && (lookup PL_NEWEST_LO).isSome && (latchedBy PL_NEWEST_LO).isNone && (latchPartners PL_NEWEST_LO).contains PL_NEWEST_HI &&
     after (.latchRead .host PL_NEWEST_LO 4) s fun u =>
       u.latchOf .host PL_NEWEST_HI == some 1 && u.latchOf (.core 0) PL_NEWEST_HI == some 7 && u.out == [.readData .host PL_NEWEST_LO 5]) = true := by
  decide +kernel
theorem test_latch_used :
    (let s := { running [(whole PL_NEWEST_HI, 2)] with latches := [⟨.host, PL_NEWEST_HI, 1⟩] }
     (latchedBy PL_NEWEST_HI).isSome && (lookup PL_NEWEST_HI).isSome &&
     after (.partnerRead .host PL_NEWEST_HI 4) s fun u => u.latches == [] && u.out == [.readData .host PL_NEWEST_HI 1]) = true := by decide +kernel
theorem test_torn_read :
    (after (.partnerRead .host PL_NEWEST_HI 4) (running [(whole PL_NEWEST_HI, 2)]) fun u =>
       u.flag IG_STATUS_TORN_READ && u.out == [.readData .host PL_NEWEST_HI 2]) = true := by decide +kernel
theorem test_decode_miss :
    (unmapped 0x10000d000000 && after (.internalAccess .host 0x10000d000000 false [0]) (running []) fun u =>
       u.pair IG_DECODE_ADDR_LO IG_DECODE_ADDR_HI == 0x10000d000000 && u.word (IG_CNT 8) == 1 && u.out == [.readData .host 0x10000d000000 0]) = true := by
  decide +kernel
theorem test_decoded_edge : (!unmapped (bar4Base + 0x9ffffff) && unmapped (bar4Base + 0xa000000)) = true := by decide +kernel
theorem test_mram_write :
    (let s := running [(LA_COUNT_USED, 8126)]
     s.canonical && after (.mramLegalWrite .host 0x21ffffe [1, 2]) s fun u =>
       u.memByte (bar4Base + 0x21fffff) == 2 && u.word LA_SEAL == 1 && u.get LA_COUNT_USED == 8127 && u.meter.audit.length == 1) = true := by
  decide +kernel
theorem test_mram_full :
    (after (.mramLegalWrite .host 0 [1]) (running [(LA_COUNT_USED, 8128)]) fun u =>
       u.mem == [] && u.get IG_CFG_REJ_ADDR_SPACE == 1 && u.get IG_CFG_REJ_INFO_REASON == 3) = true := by decide +kernel
theorem test_reset_key :
    (let s := running []
     let b := running [(GL_STATUS_BOOT_DONE, 0)]
     holds [s.canonical, b.canonical, after (.glReset .host 0x5a160001) s fun u => u.word IG_CFG_REJ = 1 && u.power == s.power,
       after (.glReset .host 0x5a170000) s fun u => u.word IG_CFG_REJ = 1, after (.glReset .host 0x5a170001) b fun u => u.word IG_CFG_REJ = 1]) = true := by
  decide +kernel
theorem test_op_set_busy :
    (let s := serving 0x82 [(OP_STATUS_SWITCHING, 1)]
     holds [s.serves header 0x82, after (.opSet header 2) s fun u => u.host.waiting.length = 1 && u.get OP_STATUS_TARGET == s.get OP_STATUS_TARGET]) = true := by
  decide +kernel
theorem test_op_set :
    (let s := serving 0x82 []
     holds [s.canonical, s.serves header 0x82, !s.flag OP_STATUS_SWITCHING, s.point != 2, s.loadsFit 0, !s.holdup,
       after (.opSet header 2) s fun u => u.point = 1 && u.get OP_STATUS_TARGET == 2,
       after (.opSet header 0) s fun u => u.point = 0 && u.flag OP_STATUS_SWITCHING]) = true := by decide +kernel
theorem test_op_set_load :
    (let s := serving 0x82 [(AE_LOAD_LOAD, 420001)]
     holds [s.serves header 0x82, !s.loadsFit 0, after (.opSet header 0) s fun u => u.point = 1 && u.host.waiting.length == 1]) = true := by decide +kernel
theorem test_switch_end :
    (let s := { running [(OP_STATUS_SWITCHING, 1), (OP_STATUS_TARGET, 2)] with power := { phase := .running, switchStart := some 0 } }
     holds [s.canonical, s.coreOn, s.power.switchStart = some 0, s.host.jobs == []]) = true := by decide +kernel
theorem test_temperature :
    (let s := running []
     let t := { running [(GL_TEMP_MAX, 100)] with power := { phase := .running, tempSeen := true } }
     holds [s.canonical, after (.tempUpdate 1921) s fun u => u.flag OP_STATUS_THERMAL && u.getS GL_TEMP_MAX == 1921,
       after (.tempUpdate (-640)) s fun u => !u.flag OP_STATUS_THERMAL && u.getS GL_TEMP_NOW == -640, t.canonical,
       after (.tempUpdate (-640)) t fun u => u.getS GL_TEMP_MAX = 100]) = true := by decide +kernel
theorem test_reset_write :
    (let s := running []
     holds [s.takesWrite .host GL_RESET 0x5a170001,
       after (.glReset .host 0x5a170001) s fun u => u.power.pendingReset = some .w && u.power.warmCause == 3]) = true := by decide +kernel
theorem test_warm_end :
    (let s := { running [] with power := { phase := .warm }, net := { pathsClosed := true } }
     after .warmResetEnd s fun u => u.power.phase = .running && !u.net.pathsClosed) = true := by decide +kernel
theorem test_warm_effect :
    (let s := { running [] with power := { phase := .running, pendingReset := some .w }, latches := [⟨.host, 0, 0⟩] }
     after .warmResetTakeEffect s fun u => u.power.phase = .warm && u.latches == [] && u.net.pathsClosed) = true := by decide +kernel
theorem test_memory_access :
    (let s := { running [] with mem := [⟨0x10, 9⟩] }
     holds [s.canonical, (s.badWord 0x10 2).isNone, after (.internalAccess (.core 0) 0x10 true [9, 8]) s fun u => u.memByte 0x11 = 8,
       after (.internalAccess .host 0x10 false [0, 0]) s fun u => u.out = [.memData .host 0x10 [9, 0] false],
       after (.internalAccess .host (2 ^ 48 - 1) true [7]) s fun u => u.out = [.hostWrite 0x7fffffffffff [7]]]) = true := by decide +kernel
theorem test_register_write :
    (let s := running []
     holds [s.takesWrite .host AE_CFG 0x503c4, (lookup AE_CFG).isSome, (satOf AE_CFG []).isNone,
       after (.registerWrite .host AE_CFG 4 0x503c4) s fun u => u.word AE_CFG = 0x503c4]) = true := by decide +kernel

/-! ### Time base and calendar (02) -/

theorem test_ptp_message :
    (let s := timed 5 7 [(TB_PORT_CFG_EN 2, 1)]
     let m : PtpMessage := { body := .management }
     holds [m.transport = s.get TB_PTP_CFG_TRANSPORT, !s.ptpBad m, s.ptpBad { m with version := 1 },
       after (.ptpMessageRx 2 { m with version := 1 }) s fun u => u.regs = (s.count tbPtpBad).regs]) = true := by decide +kernel
theorem test_ptp_delay :
    (let s := timed 5 7 [(TB_PORT_CFG_EN 2, 1)]
     let m : PtpMessage := { body := .peerDelay (some 100) }
     holds [s.canonical, s.coreOn, m.transport = s.get TB_PTP_CFG_TRANSPORT, !s.ptpBad m,
       after (.ptpMessageRx 2 m) s fun u => (u.ptp 2).delay = some (s.linkDelay 2 100)]) = true := by decide +kernel
theorem test_announce_timeout :
    (let s0 := running [(TB_PORT_CFG_EN 1, 1), (TB_PORT_CFG_ANN_TMO 1, 3), (TB_PORT_CFG_ROLE 1, 0)]
     let s := { s0 with time := { mono := 3000000000 * 2 ^ s0.get (TB_PORT_CFG_LOG_ANN 1), ptp := [(1, { gm := some 9 })] } }
     holds [s.ptpSlave 1, (s.ptp 1).gm.isSome,
       (s.ptp 1).lastAnnounce + s.get (TB_PORT_CFG_ANN_TMO 1) * 2 ^ s.get (TB_PORT_CFG_LOG_ANN 1) * 1000000000 ≤ s.time.mono,
       after (.announceTimeout 1) s fun u => (u.ptp 1).gm = none]) = true := by decide +kernel
theorem test_sync_timeout :
    (let s := { running [(TB_PORT_CFG_EN 1, 1), (TB_PORT_CFG_ROLE 1, 0)] with time := { mono := 3000000000, ptp := [(1, { gm := some 9 })] } }
     holds [s.ptpSlave 1, (s.ptp 1).lastSync + 3 * 1000000000 / 2 ^ (-(s.getS (TB_PORT_CFG_LOG_SYNC 1))).toNat ≤ s.time.mono,
       after (.syncTimeout 1) s fun u => (u.ptp 1).gm = none]) = true := by decide +kernel
theorem test_qualify_wait :
    (let s := { running [] with time := { mono := 4, waitEnds := some 4 } }
     holds [s.coreOn, after .portQualifyWaitEnd s fun u => !u.flag TB_STATUS_SRC_VALID]) = true := by decide +kernel
theorem test_ptp_master :
    (let s := running [(TB_PORT_CFG_EN 2, 1), (NP_CFG_EN 3, 1)]
     holds [s.ptpMaster 2, !s.flag TB_PTP_CFG_TWO_STEP_TX, !(s.txOffer 2 7 (s.ptpFrame .ptpSync 44 [])).flag TB_PTP_CFG_TWO_STEP_TX,
       after (.ptpMasterTx 2 0) s fun u => u.coreOn, after (.ptpMasterTx 2 1) s fun u => u.free = s.free + 1,
       after (.ptpMasterTx 2 2) s fun u => u.free = s.free]) = true := by decide +kernel
theorem test_pps_edge :
    (let s := { running [(TB_CTRL_GM_MODE, 1), (TB_PPS_CFG_DEGLITCH, 3)] with time := { mono := 999000000, ppsLast := some 0 } }
     holds [true ≠ s.flag TB_PPS_CFG_IN_POL, after (.ppsInEdge true 3) s fun u => u.time.ppsLast = some 999000000,
       after (.ppsInEdge true 2) s fun u => u.time.ppsLast = some 0]) = true := by decide +kernel
theorem test_pps_miss :
    (let s := { running [(TB_CTRL_GM_MODE, 1)] with time := { mono := 9, ppsWindow := 9 } }
     holds [s.coreOn, after .ppsWindowMiss s fun u => u.time.ppsWindow > 9]) = true := by decide +kernel
theorem test_tod_sentence :
    (let s := { running [(TB_CTRL_GM_MODE, 1)] with time := { mono := 8 } }
     let z : Zda := { utcSecond := 77 }
     holds [s.time.ppsTai = none, after (.todSentenceRx z) s fun u => u.time.todLast = some 8,
       after (.todSentenceRx { z with checksumOk := false }) s fun u => u.time.todLast = none]) = true := by decide +kernel
theorem test_tod_timeout :
    (let s (src : Nat) : State := { running [(TB_CTRL_GM_MODE, 1), (TB_TOD_CFG_TOD_TMO, 5), (TB_STATUS_SRC, src)] with
       time := { mono := 5000000000, todLast := some 0, todTai := some 1 } }
     holds [after .todTimeout (s 0) fun u => u.time.todTai = none, after .todTimeout (s 3) fun u => u.time.todTai = none,
       (s 0).get TB_STATUS_SRC ≠ 3, (s 3).get TB_STATUS_SRC = 3]) = true := by decide +kernel
theorem test_tai_second :
    (let s := timed 6 5000000015 [(TB_CTRL_PPS_OUT_EN, 1), (TB_STATUS_STATE, 2), (TB_STATUS_QUALITY, 0), (TB_PPS_CFG_OUT_WIDTH, 1)]
     holds [s.ppsAllowed, !(running []).ppsAllowed, after .taiSecond s fun u => u.time.ppsOutEnds = some 1000006,
       after .taiSecond (timed 6 5000000015 []) fun u => u.time.lastSecond = 5 && u.time.ppsOutEnds == none]) = true := by decide +kernel
theorem test_pps_out_end :
    (let s := { running [] with time := { mono := 6, ppsOutEnds := some 6 } }
     after .ppsOutEnd s fun u => u.time.ppsOutEnds == none && u.out.length == 1) = true := by decide +kernel
theorem test_tod_tx :
    (let s := { running [(TB_CTRL_TOD_TX_EN, 1)] with time := { mono := 100000000, todTxFrom := some 0 } }
     after .todTxSend s fun u => u.time.todTxFrom == none && u.out.length == 1) = true := by decide +kernel
theorem test_quality_tick :
    (let s := { running [(TB_STATUS_STATE, 3), (TB_HOLD_CFG_LIMIT, 15)] with time := { bound := some 50 } }
     holds [s.canonical, s.boundGrows, s.timeState ≠ tsFreerun, (s.boundNow.map boundCode).getD 15 ≤ s.get TB_HOLD_CFG_LIMIT,
       after .qualityTick s fun u => u.get TB_STATUS_QUALITY = boundCode 50]) = true := by decide +kernel
theorem test_time_acquire :
    (let s := serving 0x80 [(TB_STATUS_SRC_VALID, 1)]
     holds [s.canonical, s.serves header 0x80, s.timeState = tsFreerun, after (.timeAcquire header) s fun u => u.timeState = tsAcquire]) = true := by decide +kernel
theorem test_time_step :
    (let s := serving 0x81 []
     let q := serving 0x81 [(TB_STATUS_STATE, tsAcquire)]
     holds [s.serves header 0x81, (stepField 0 1 5).isNone, s.timeState = tsFreerun, q.timeState = tsAcquire, !q.flag TB_STATUS_STEP_USED]) = true := by
  decide +kernel
theorem test_cal_commit :
    (let s := running [(whole CAL_SET_DATE, 31 * 2 ^ 20 + 12 * 2 ^ 16 + 2025)]
     holds [s.canonical, s.takesWrite .host CAL_COMMIT 0x4c7d0001,
       after (.calCommit .host 0x4c7d0001) s fun u => u.get CAL_STATUS_VALID = 1 && u.cal.ticks == calTicks (s.word CAL_SET_DATE) (s.word CAL_SET_TIME)]) = true := by decide +kernel
theorem test_cal_alarm :
    (let s := running [(CAL_ALM_CTRL_EN 1, 1)]
     holds [s.canonical, !s.flag CAL_CTRL_HALT, s.secondStart, s.alarmNow 1, s.cal.matched.getD 1 none ≠ some s.secondName,
       after (.calAlarm 1) s fun u => u.flag (CAL_ALM_STAT_FIRED 1)]) = true := by decide +kernel
theorem test_trim_start :
    (let s := running []
     holds [s.canonical, s.takesWrite .host CAL_TRIM_CTRL (1 + 2 ^ CAL_TRIM_CTRL_SRC.lo),
       after (.trimStart .host (1 + 2 ^ CAL_TRIM_CTRL_SRC.lo)) s fun u => u.get CAL_TRIM_CTRL_STATE = 1]) = true := by decide +kernel
theorem test_trim_done :
    (let s := { running [] with time := { tai := 1000000000000, trim := some ⟨1000000000000, 0⟩ }, cal := { osc := 32768000 } }
     holds [s.canonical, s.trimOver, after .trimFinish s fun u => u.get CAL_TRIM_CTRL_STATE = 2 && u.get CAL_TRIM_RES_VALID == 1]) = true := by decide +kernel
theorem test_utc_midnight :
    (let s (fs : List (Fld × Nat)) (sec : Nat) : State := { running fs with time := { tai := sec * 1000000000, leapFrom := some 0 } }
     let a := s [(CAL_UTC_LEAP61, 1)] (864000 * 10 + 1)
     let b := s [(CAL_UTC_LEAP59, 1)] (864000 * 10 - 1)
     let c : State := { running [(TB_STATUS_SRC_VALID, 1), (TB_STATUS_SRC, 1)] with time := { tai := 86400000000000, utcOffset := some 37 } }
     holds [a.utcOffset = 0, a.leapIns, a.firstSecond (a.utcOffset + 1), a.leapBefore (a.time.tai / 1000000000 - 1),
       !b.leapIns, b.leapDel, b.firstSecond (b.utcOffset - 1), b.leapBefore (b.time.tai / 1000000000), c.ptpValid, c.firstSecond c.utcOffset,
       after .utcMidnight a fun u => u.utcOffset = 1, after .utcMidnight b fun u => u.utcOffset = -1, after .utcMidnight c fun u => u.utcOffset = 37]) = true := by
  decide +kernel
theorem test_snapshot :
    (let s := { running [(CAL_CTRL_HALT, 1)] with cal := { ticks := 5 }, latches := [⟨.core 0, CAL_SNAP_DATE, 7⟩] }
     holds [s.flag GL_STATUS_BOOT_DONE, s.latchOf .host CAL_SNAP_CMD = none,
       after (.calSnapRead .host) s fun u => u.latchOf .host CAL_SNAP_TIME = some (BitVec.ofNat 32 s.calTime) && u.latchOf (.core 0) CAL_SNAP_DATE == some 7]) = true := by
  decide +kernel

/-! ### Network ports and sluices (03) -/

/-- A port that runs, with fields set. -/
def portUp (p : Nat) (r : PortState) (fs : List (Fld × Nat)) : State :=
  { running ([(NP_CFG_EN p, 1), (SL_STATUS_ACTIVE (2 * p), 1), (SL_STATUS_ACTIVE (2 * p + 1), 1), (NP_VLAN_UNTAG_OK p, 1)] ++ fs) with
    net := { ports := [(p, r)] }, time := { mono := 4000000000 } }

theorem test_frame_outcomes :
    (let s := portUp 0 {} [(NP_PRP_CFG_EN, 1), (NP_CFG_PAUSE_RX 0, 1), (NP_CFG_EN 1, 1)]
     let f : EthFrame := { dst := 0xffffffffffff, etype := 0x0806, src := 9, trailer := some ⟨true, 5⟩ }
     holds [s.rxRuns 0, s.classify 0 f = .path 3 0xff, (s.rxLoss f 3).isNone, s.classify 0 { f with etype := 0x8808 } = .pause,
       s.classify 0 { f with dst := 2, trailer := none } = .drop 5, (s.checkFails 0 { f with dst := 2 }).isNone,
       (s.trailerOf 0 { f with dst := 2, trailer := none }).isNone,
       after (.ethFrameRx 0 f) s fun u => u.net.dd.length = 1 && u.word (NP_CNT 0 16) == 1 && u.word (NP_CNT 0 0) == 1,
       after (.ethFrameRx 0 { f with etype := 0x8808, pauseQuanta := 3 }) s fun u => u.flag (NP_STATUS_PAUSED 0),
       after (.ethFrameRx 0 { f with dst := 2, trailer := none }) s fun u => u.word (NP_CNT 0 5) = 1]) = true := by decide +kernel
theorem test_dd_expire :
    (let s := { running [] with net := { dd := [⟨1, 2, 5⟩, ⟨1, 3, 6⟩] }, time := { mono := 5 } }
     after .prpDdExpire s fun u => u.net.dd == [⟨1, 3, 6⟩]) = true := by decide +kernel
theorem test_tx_start :
    (let s := portUp 0 { physUp := true, queues := [(2, [{ kind := .supervision, length := 64 }]), (7, [{ kind := .supervision, length := 65 }])] } []
     let q := portUp 0 { physUp := true, pausePending := some 4 } []
     holds [s.txRuns 0, s.txNext 0 = some 7, !s.flag (NP_STATUS_PAUSED 0),
       after (.txBegin 0 1 false) s fun u => (u.port 0).sending.isSome && u.txNext 0 == some 2 && u.word (SL_CECC 1) == 1,
       q.txRuns 0, after (.txBegin 0 0 true) q fun u => (u.port 0).pausePending = none && u.out.length == 1]) = true := by decide +kernel
theorem test_link_loss :
    (let s := portUp 3 { physUp := true, queues := [(2, [{ kind := .supervision, length := 64 }])] } []
     after (.phyLinkLoss 3) s fun u => u.txNext 3 == none && !(u.port 3).physUp) = true := by decide +kernel
theorem test_starve :
    (let s := portUp 1 { since := [(7, some 0)] } [(NP_TXQ_CFG_STARVE 1 7, 4000)]
     holds [s.get (NP_TXQ_CFG_STARVE 1 7) ≠ 0, after (.txqStarve 1 7) s fun u => (u.port 1).starved = [7] && u.peat.queue.length == 1]) = true := by decide +kernel
theorem test_supervision :
    (let s := portUp 0 { physUp := true } [(NP_PRP_CFG_EN, 1), (NP_PRP_CFG_LIFE_CHECK, 20)]
     holds [s.net.supervisionAt ≤ s.time.mono, after .prpSupervisionTx s fun u => u.net.supervisionAt = 2000000000]) = true := by decide +kernel
theorem test_pause_end :
    (let s := portUp 0 { pausedUntil := some 4000000000 } [(NP_STATUS_PAUSED 0, 1)]
     after (.pauseHoldEnd 0) s fun u => !u.flag (NP_STATUS_PAUSED 0) && (u.port 0).pausedUntil == none) = true := by decide +kernel
theorem test_pause_high :
    (let s := portUp 0 {} [(NP_CFG_PAUSE_TX 0, 1), (NP_PAUSE_CFG_HIGH_WM 0, 15), (NP_PAUSE_CFG_QUANTA 0, 9)]
     let level := sluiceDepth 0 - sluiceDepth 0 / 16
     holds [s.canonical, s.portRuns 0, s.get (NP_PAUSE_CFG_HIGH_WM 0) * sluiceDepth (s.rxSluice 0) ≤ level * 16,
       after (.pauseHighWm 0 level) s fun u => u.flag (NP_STATUS_PAUSING 0) && (u.port 0).pausePending == some 9]) = true := by decide +kernel
theorem test_pause_repeat :
    (let s := portUp 0 { pauseRepeatAt := some 4000000000 } [(NP_STATUS_PAUSING 0, 1), (NP_PAUSE_CFG_QUANTA 0, 9)]
     after (.pauseRepeat 0) s fun u => (u.port 0).pausePending == some 9) = true := by decide +kernel
theorem test_pause_low :
    (let s := portUp 0 {} [(NP_STATUS_PAUSING 0, 1), (NP_PAUSE_CFG_LOW_WM 0, 1)]
     let level := sluiceDepth 0 / 16
     holds [s.canonical, level * 16 ≤ s.get (NP_PAUSE_CFG_LOW_WM 0) * sluiceDepth (s.rxSluice 0),
       after (.pauseLowWm 0 level) s fun u => !u.flag (NP_STATUS_PAUSING 0) && (u.port 0).pausePending == some 0]) = true := by decide +kernel
theorem test_link_up :
    (let s := portUp 3 {} []
     holds [s.portRuns 3, after (.phyLinkUp 3 true 2) s fun u => (u.port 3).physUp && (u.port 3).changedAt == 4000000000]) = true := by decide +kernel
theorem test_link_reports :
    (let d := portUp 0 {} [(NP_STATUS_LINK 0, 1), (NP_STATUS_SPEED 0, 3)]
     let u := portUp 0 { physUp := true } []
     holds [d.canonical, d.linkHeld 0, u.canonical, u.linkHeld 0, u.get (NP_CFG_MODE 0) ≠ 2,
       after (.linkDownReport 0) d fun t => !t.flag (NP_STATUS_LINK 0) && t.get (NP_STATUS_SPEED 0) == 0,
       after (.linkUpReport 0) u fun t => t.flag (NP_STATUS_LINK 0) && (t.port 0).silentFrom == some 4000000000]) = true := by decide +kernel
theorem test_rx_silence :
    (let s := portUp 0 { silentFrom := some 0 } [(NP_LINK_CFG_RX_SILENCE 0, 4000)]
     holds [s.get (NP_LINK_CFG_RX_SILENCE 0) ≠ 0, after (.rxSilenceExpire 0) s fun u => u.flag (NP_STATUS_RX_SILENT 0)]) = true := by decide +kernel
theorem test_bad_rate :
    (let s (n : Nat) := portUp 0 { drops := n, dropAt := 3000000000 } [(NP_BAD_THR_THR 0, 5)]
     holds [after (.rxBadRateCheck 0) (s 5) fun u => u.peat.queue.length = 1, after (.rxBadRateCheck 0) (s 4) fun u => u.peat.queue = []]) = true := by
  decide +kernel
theorem test_sluice :
    (let s := running [(NP_CFG_EN 3, 1)]
     let a := running [(SL_STATUS_ACTIVE 25, 1), (SL_CFG_TEST_EN 25, 1)]
     holds [s.canonical, s.sluiceSides 6, after (.sluiceSelftest 6 true) s fun u => u.flag (SL_STATUS_ACTIVE 6),
       after (.sluiceSelftest 25 true) a fun u => u.regs = a.regs, after (.sluiceSelftest 25 false) a fun u => u.regs ≠ a.regs]) = true := by decide +kernel

/-! ### Measurement lanes (04) -/

/-- A lane enabled under the key of slot 2, of generation 3, and its next one of slot 3, of generation 4. -/
def laneOn (n : Nat) (l : LaneLink) (fs : List (Fld × Nat)) : State :=
  let slots := [2, 3].flatMap fun k => [(KS_ATTR_ALG k, 1), (KS_ATTR_USAGE k, 4), (KS_ATTR_DEST k, 8), (whole (KS_GEN k), k + 1)]
  { running (slots ++ [(LN_CFG_EN n, 1), (LN_KEY_SLOT n, 2), (LN_KEY_NEXT n, 3), (LN_KEY_NEXT_EN n, 1)] ++ fs) with
    links := [(n, l)],
    keys := { slots := [(2, some { a := KeyCell.seal { share := 77, attr := 0x10401, gen := 3 } }), (3, some { a := KeyCell.seal { share := 78, gen := 4 } })] },
    time := { mono := 9000000000, tai := 9000000000 } }

theorem test_sample_block :
    (let s := laneOn 255 { headId := 5, seq := some 6, t0 := 6000000 } [(LN_STATUS_STATE 255, lnSyncing)]
     let b (gen key : Nat) : ReedBlock :=
       let b : ReedBlock := {
         lane := 255, headId := 5, keyGen := gen, seq := 7, t0 := 7000000, length := 88, payloadLen := 88, samples := List.replicate 8 1,
         stamp := 8000000, flags := 1 }
       { b with tag := gcmTag 16 key (laneIv 1 b.headId b.seq) (reedAad b) [] }
     let ok (b : ReedBlock) (next : Bool) : List Bool :=
       let a := s.authenticate b.lane b.headId b.keyGen (laneIv 1 b.headId b.seq) (reedAad b) b.tag
       [reedFormat b, a.2 = some next, next = false || (a.1.keySwap 255).isSome,
        after (.sampleBlockRx b) s fun u => (u.link 255).seq = some 7 && u.word (LN_CNT 255 0) == 1]
     holds [s.laneNq 255 = 1, s.get (LN_CFG_RATE 255) = 0, s.ageOk 255 0, holds (ok (b 3 77) false), holds (ok (b 4 78) true)]) = true := by decide +kernel
theorem test_descriptor :
    (let s := laneOn 0 { headId := 5, dseq := some 6 } []
     let d : DescBlock := { headId := 5, keyGen := 3, dseq := 7, segments := List.replicate 8 {} }
     let d := { d with tag := gcmTag 16 77 (laneIv 2 d.headId d.dseq) (descAad d) [] }
     holds [descFormat d, (s.authenticate 0 5 3 (laneIv 2 5 7) (descAad d) d.tag).2 = some false, d.qidx < s.laneNq 0,
       after (.descriptorRx d) s fun u => (u.link 0).dseq = some 7 && u.word (LN_CNT 0 9) == 1]) = true := by decide +kernel
theorem test_sv_frame :
    (let s := laneOn 4 { headId := 6 } [(LN_CFG_KIND 4, 1), (LN_SV_APPID 4, 0x4001), (LN_SV_ASDU 4, 1)]
     let f : SvFrame := { appid := 0x4001, src := 6, asdus := [{ samples := List.replicate 8 (1, true) }], stamp := 1000000000 / s.laneRate 4 }
     holds [s.svLane f = some 4, f.asdus.length = s.asdu 4,
       s.ageOk 4 ((f.stamp : Int) - ((s.svCount 4 f + s.asdu 4) * 1000000000 / s.laneRate 4 : Nat)),
       after (.svFrameRx f) s fun u => (u.link 4).confRev = some 1 && u.word (LN_CNT 4 0) == 1]) = true := by decide +kernel
theorem test_lane_gap :
    (let s := laneOn 4 { seq := some 3, t0 := 3000000, rel := some 4 } [(LN_STATUS_STATE 4, lnUp)]
     holds [s.releasing 4, s.ranFor (s.posT0 4 4 + s.posSpan 4) (s.maxLate 4 + 100001),
       after (.gapPositionRelease 4) s fun u => (u.link 4).rel = some 5, after (.laneDeadlineMiss 4) s fun u => (u.link 4).rel = some 5]) = true := by
  decide +kernel
theorem test_lane_silence :
    (let s := laneOn 4 { silentFrom := some 0 } [(LN_STATUS_STATE 4, lnSyncing), (LN_TMO_SILENCE 4, 8999)]
     holds [s.canonical, s.laneState 4 = 1 || s.laneState 4 = 2 || s.laneState 4 = 3, s.get (LN_TMO_SILENCE 4) * 1000000 < s.jobMono,
       after (.laneSilence 4) s fun u => u.laneState 4 = lnDown]) = true := by decide +kernel
theorem test_lane_resync :
    (let s := laneOn 4 { seq := some 3 } [(LN_STATUS_STATE 4, lnFault)]
     holds [s.canonical, s.takesWrite .host (LN_CTRL 4) 1,
       after (.laneResync .host 4 1) s fun u => u.laneState 4 = lnDown && (u.link 4).seq == none]) = true := by decide +kernel
theorem test_lane_enable :
    (let s := (laneOn 4 { headId := 6 } [(whole (LN_HEAD_ID_LO 4), 6)]).put (LN_CFG_EN 4) 0
     let v := (s.word (LN_CFG 4)) + 1
     holds [s.canonical, s.takesWrite .host (LN_CFG 4) v, after (.laneEnable .host 4 v) s fun u => u.flag (LN_CFG_EN 4) && u.laneState 4 == s.laneState 4]) = true := by
  decide +kernel
theorem test_lane_disable :
    (let s := laneOn 4 { headId := 6 } [(LN_STATUS_STATE 4, lnUp), (LN_DESC_INFO_VALID 4 7, 1)]
     let v := (s.word (LN_CFG 4)) - 1
     holds [s.canonical, s.takesWrite .host (LN_CFG 4) v,
       after (.laneDisable .host 4 v) s fun u => u.laneState 4 = lnDown && !u.flag (LN_DESC_INFO_VALID 4 7)]) = true := by decide +kernel

/-! ### Analogue front end (05) -/

/-- A converter that runs, with fields set, at a TAI. -/
def convOn (c tai : Nat) (v : Converter) (fs : List (Fld × Nat)) : State :=
  { running ([(AF_CTRL_EN c, 1), (afRunning c, 1)] ++ fs) with afe := { convs := [(c, v)] }, time := { tai } }

/-- A chain with what it holds, at a TAI. -/
def chainOn (n tai : Nat) (c : Chain) (fs : List (Fld × Nat)) : State :=
  { running ([(FC_CFG_EN n, 1)] ++ fs) with afe := { chains := [(n, c)] }, time := { mono := tai, tai } }

theorem test_converter_frame :
    (let s := convOn 7 1000000 {} [(AF_SEQ_L 7, 2), (AF_SEQ_SLOT 7, 8)]
     holds [(s.conv 7).notBefore < frameOf s.time.tai, s.regList 7 = [0, 1],
       after (.converterFrame 7) s fun u => (u.conv 7).frame = 256 && (u.conv 7).cur == some (0, false)]) = true := by decide +kernel
theorem test_conversion :
    (let s := convOn 0 1000000 { cur := some (7, false), work := [3] } []
     let i := convOn 0 1000000 { cur := some (7, true), injOn := true } []
     holds [s.canonical, s.flag (AF_CTRL_EN 0), i.canonical, after (.conversionEnd 0 200000 false {} false) s fun u => (u.conv 0).cur = some (3, false),
       after (.conversionEnd 0 5 true {} false) i fun u => u.word (AF_INJ_SEQ 0) = 1]) = true := by decide +kernel
theorem test_inj_timer :
    (let s := convOn 0 5000000 { notBefore := 9999 } [(AF_INJ_CFG_SRC 0, 1), (AF_INJ_PER_PERIOD 0, 1000)]
     holds [(s.conv 0).injLast < 5000000, after (.injTimerTrigger 0) s fun u => (u.conv 0).injLast = 5000000]) = true := by decide +kernel
theorem test_inj_soft :
    (let s := convOn 0 1 { inj := [2], notBefore := 9999 } []
     holds [s.takesWrite .host (AF_INJ_TRIG 0) 1, after (.injSoftTrigger .host 0 1) s fun u => (u.conv 0).cur = some (2, true)]) = true := by decide +kernel
theorem test_ref_ready :
    (let s := { running [] with afe := { refAt := some 0 }, time := { mono := 2000000 } }
     holds [s.canonical, after .refReady s fun u => u.flag AF_REF_READY]) = true := by decide +kernel
theorem test_chain_output :
    (let d : ChainDue := ⟨512, 2000000, [], true, false, false⟩
     let s := chainOn 63 2000000 { due := [d] } [(FC_STAT_SETTLE_LEFT 63, 1)]
     holds [s.canonical, s.time.mono ≤ 2040000,
       after (.chainOutput 63) s fun u => u.get (FC_STAT_SETTLE_LEFT 63) = 0 && (u.chain 63).due == [] && u.reg (FC_LAST 63) == outputWord 0 3]) = true := by decide +kernel
theorem test_chain_late :
    (let d : ChainDue := ⟨512, 2000000, [], true, false, false⟩
     let s := chainOn 63 2040001 { due := [d] } []
     holds [2040000 < s.time.mono,
       after (.chainDeadlineMiss 63) s fun u => (u.chain 63).due = [{ d with late := true }] && u.word (FC_CNT 63 1) == 1]) = true := by decide +kernel
theorem test_chain_writes :
    (let s := chainOn 0 0 {} []
     let off := s.put (FC_CFG_EN 0) 0
     holds [s.takesWrite .host (FC_CTRL 0) 1, off.takesWrite .host (FC_CTRL 0) 2,
       after (.fcSwap .host 0 1) s fun u => (u.chain 0).swap, after (.fcLoadFactory .host 0 2) off fun u => (u.chain 0).coefPreset = 1]) = true := by decide +kernel
theorem test_coefficient :
    (let s := chainOn 0 0 {} [(FC_COEF_SEL_BANK 0, 1), (FC_COEF_SEL_TAP 0, 3), (FC_COEF_SEL_AUTO_INC 0, 1)]
     holds [s.takesWrite .host (FC_COEF_DATA 0) 0xffffffff,
       after (.fcCoefWrite .host 0 0xffffffff) s fun u => u.coef 0 1 3 = -1 && u.get (FC_COEF_SEL_TAP 0) == 4]) = true := by decide +kernel

/-! ### Phasor estimation and output streams (06) -/

/-- A local function whose next window has just ended, by a time more. -/
def fnOwes (f late : Nat) (fs : List (Fld × Nat)) : State :=
  let s := running ([(PE_FN_CFG_EN f, 1)] ++ fs)
  { s with time := { tai := s.windowEnd f (s.instantAfter f 0) + late } }

theorem test_estimate :
    (let s := fnOwes 15 0 []
     let t := s.instantAfter 15 0
     holds [s.fnOn 15, !s.cold, (s.fnLink 15).late = [], s.inputsArrived 15 (s.windowEnd 15 t), !s.inputsOverdue 15 (s.windowEnd 15 t) 500000]) = true := by decide +kernel
theorem test_estimate_late :
    (let s := fnOwes 15 600000 []
     let t := s.instantAfter 15 0
     holds [t = s.instantAfter 15 ((s.fnLink 15).late.foldl max 0), s.inputsOverdue 15 (s.windowEnd 15 t) 500000,
       after (.pmuDeadlineMiss 15) s fun u => (u.fnLink 15).late = [t] && u.peat.queue.length == 2]) = true := by decide +kernel
theorem test_half_cycle :
    (let s0 := running [(PE_FN_CFG_EN 0, 1), (PE_FN_CFG_H_EN 0, 1), (PE_FN_CFG_NPH 0, 0)]
     let k := s0.halfAfter 0 0 0
     let s := { s0 with time := { tai := halfEnd s0.fNom k + 1 } }
     let q := { s0 with time := { tai := halfEnd s0.fNom k + 300000 } }
     holds [s.halfOn 0 0, s.halfOverdue 0 0 = none, (s.phasorChains 0 0).all fun n => s.chainBad n,
       after (.halfWindow 0 0) s fun u => (u.halfLink 0 0).last = some k,
       q.halfOverdue 0 0 = some k, after (.halfCycleDeadlineMiss 0) q fun u => (u.halfLink 0 0).late = [k]]) = true := by decide +kernel
theorem test_stream_commands :
    (let s := running [(OS_CFG_EN 31, 1), (OS_CFG_MODE 31, 2), (OS_STATUS_TCP_CONN 31, 1), (OS_STATUS_TX_ON 31, 1), (OS_IDCODE_IDCODE 31, 7)]
     let c : OsCommand := { idcode := 7 }
     holds [s.osConnected 31, s.osSound 31 c, !s.osSound 31 { c with idcode := 8 },
       after (.osCmdDataOff 31 c) s fun u => !u.flag (OS_STATUS_TX_ON 31), after (.osCmdDataOn 31 c) s fun u => u.flag (OS_STATUS_TX_ON 31),
       
       after (.osCmdReject 31 c 7) s fun u => u.word (OS_CNT 31 2) = 1, after (.osCmdReject 31 { c with idcode := 8 } 1) s fun u => u.word (OS_CNT 31 2) = 1]) = true := by
  decide +kernel
theorem test_stream_connection :
    (let s := running [(OS_CFG_EN 0, 1), (OS_CFG_MODE 0, 1), (OS_TCP_PORT 0, 4712)]
     let t : State := { s.put (OS_STATUS_TCP_CONN 0) 1 with time := { mono := 30000000000 } }
     let x : State := { t with streams := { links := [(0, { probes := 3 })] }, time := { mono := 60000000000 } }
     holds [s.drives, after (.osConnect 0 4712) s fun u => u.flag (OS_STATUS_TCP_CONN 0), after (.osConnect 0 4712) t fun u => u.out = [.tcpReset 0],
       after (.osTcpClose 0) t fun u => !u.flag (OS_STATUS_TCP_CONN 0), after (.osTcpKeepalive 0 false) t fun u => (u.streamLink 0).probes = 1,
       (x.streamLink 0).idleAt + (30 + 10 * (x.streamLink 0).probes) * 1000000000 ≤ x.time.mono,
       after (.osTcpKeepalive 0 false) x fun u => !u.flag (OS_STATUS_TCP_CONN 0)]) = true := by decide +kernel
theorem test_cfg2_repeat :
    (let s := { running [(OS_CFG_EN 0, 1), (OS_CFG_CFG_EVERY 0, 60)] with streams := { links := [(0, { cfgDue := some 0 })] } }
     holds [s.get (OS_CFG_MODE 0) = 0, s.flag (OS_CFG_EN 0), s.get (OS_CFG_CFG_EVERY 0) = 60, (s.streamLink 0).cfgDue = some 0]) = true := by decide +kernel
theorem test_stream_late :
    (let s := { running [] with streams := { ready := [⟨3, 9, true, false, 0⟩] }, time := { mono := 1000001 } }
     after (.osDeadlineMiss 3) s fun u => u.word (OS_CNT 3 0) == 1 && (u.streams.ready.all fun r => r.missed)) = true := by decide +kernel
theorem test_stream_enable :
    (let s := { running [(OS_IDCODE_IDCODE 0, 7), (NP_FRAME_CFG_MAX_LEN 0, 1518)] with tables := [(64, [5])] }
     let v := (s.word (OS_CFG 0)) + 1
     holds [s.canonical, s.takesWrite .host (OS_CFG 0) v, v % 2 = 1, !s.flag (OS_CFG_EN 0)]) = true := by decide +kernel

/-! ### Stream alignment (07) -/

/-- An external slot of IDCODE 7 with one phasor at 10/s, enabled, and alignment running with one bucket open. -/
def aligned (fs : List (Fld × Nat)) (a : AlignState) (mono tai : Nat) : State :=
  { running ([(AE_CFG_EN, 1), (AE_STATUS_RUNNING, 1), (AE_SLOT_SRC_IDCODE 9, 7), (AE_SLOT_CFG_EN 9, 1), (AE_SLOT_CFG_PORTS 9, 3),
      (AE_SLOT_CFG_RATE 9, 0), (AE_SLOT_FMT_PHNMR 9, 1)] ++ fs) with
    align := a, time := { mono, tai } }

theorem test_align_frame :
    (let s := aligned [] {} 5 5
     let f : C37Frame := { idcode := 7, frameSize := 16 + s.blockSize 9, actualLen := 16 + s.blockSize 9, body := List.replicate (s.blockSize 9) 0 }
     holds [s.idHeld 7, s.parseBlocks 7 255 0 f.body = some ([(9, f.body)], false), f.body.length + 16 = f.frameSize,
       s.parseBlocks 7 255 0 (f.body ++ [0]) = some ([(9, f.body)], true),
       after (.alignFrameRx f) s fun u => u.coreOn]) = true := by decide +kernel
theorem test_cfg_check :
    (let s := aligned [] {} 5 5
     holds [!s.flag FU_STATUS_SWITCHING, after (.cfgFrameCheck { idcode := 7 }) s fun u => u.fw.cfgWaiting = [],
       after (.cfgFrameCheck { idcode := 7 }) (s.put FU_STATUS_SWITCHING 1) fun u => u.fw.cfgWaiting.length = 1]) = true := by decide +kernel
theorem test_bucket :
    (let s := aligned [(AE_SLOT_STAT_STATE 9, 2)] { layout := some ⟨10, 0, [(9, 10)]⟩, floor := 3 } 5 300000000
     let o : OpenBucket := { number := 3, closeAt := 300000000, expected := [9] }
     let c := aligned [] { layout := some ⟨10, 0, [(9, 10)]⟩, opens := [o], newest := some 3 } 5 300000000
     let l := aligned [] { opens := [o], newest := some 3 } 5 302000000
     holds [s.gridRate = 50, s.nextBucket = 3, bucketInstant s.gridRate 3 ≤ s.jobTai, after .bucketOpen s fun u => u.align.newest = some 3,
       c.closable 3 = some o, after (.bucketClose 3) c fun u => u.align.opens = [],
       l.opened 3 = some o, l.ranFor o.closeAt 1000001, after (.bucketDeadlineMiss 3) l fun u => u.align.opens = [{ o with late := true }]]) = true := by
  decide +kernel
theorem test_slot_stale :
    (let s := aligned [(AE_SLOT_STAT_STATE 9, slActive), (AE_SLOT_TMO_STALE 9, 4000)] { slots := [(9, { last := some 0 })] } 4000000000 0
     holds [s.slotState 9 = slActive, after (.slotStale 9) s fun u => u.slotState 9 = slStale]) = true := by decide +kernel
theorem test_slot_enable :
    (let s := (aligned [(AE_SLOT_FMT_FNOM 9, 1)] {} 6 0).put (AE_SLOT_CFG_EN 9) 0 |>.put AE_CFG_EN 0
     let v := s.word (AE_SLOT_CFG 9) + 1
     holds [s.canonical, s.takesWrite .host (AE_SLOT_CFG 9) v, s.takesWrite .host (AE_SLOT_CFG 9) v = true,
       after (.slotEnable .host 9 v) s fun u => u.slotState 9 = slWaiting && (u.slotLink 9).last == some 6]) = true := by decide +kernel
theorem test_align_enable :
    (let s := (aligned [] {} 6 0).put AE_CFG_EN 0
     let v := s.word AE_CFG + 1
     let e := aligned [] { layout := some ⟨10, 0, []⟩ } 6 0
     let d := e.word AE_CFG - 1
     holds [s.canonical, s.takesWrite .host AE_CFG v, after (.alignEnable .host v) s fun u => u.flag AE_STATUS_RUNNING && u.align.layout.isSome,
       e.canonical, e.takesWrite .host AE_CFG d, after (.alignDisable .host d) e fun u => !u.flag AE_STATUS_RUNNING && u.align.layout.isSome]) = true := by
  decide +kernel
theorem test_fen_query :
    (let s := { aligned [] { newest := some 8 } 6 0 with host := { started := [(0, 0x10)] } }
     let p : PinCopy := { first := 1, last := 4, slots := [9], bytes := 768, copies := List.replicate 4 (default, []) }
     let q := { s with align := { newest := some 8, pins := [(15, some p)] } }
     holds [s.serves header 0x10, (queryField 5 8 [9] 0 0).isNone, (s.badSlot [9]).isNone, q.pinHeld 15 = some p, (queryField 1 4 [] 2 15).isNone,
       after (.fenQuery header 5 8 0 768 [9] 0 0) s fun u => u.host.jobs.length = 1,
       after (.fenQuery header 1 4 0 768 [] 2 15) q fun u => u.host.jobs.length = 1]) = true := by decide +kernel
theorem test_fen_pin :
    (let s := { aligned [(FS_CFG_PIN, 1)] { newest := some 8 } 6 0 with host := { started := [(0, 0x11)] } }
     let q := { s with align := { pins := [(15, some { first := 1, last := 4, slots := [9], bytes := 768, copies := List.replicate 4 (default, []) })] } }
     holds [s.serves header 0x11, (queryField 5 8 [9] 0 15).isNone, (s.pinOf 15).isNone, 768 ≤ s.pinFree,
       after (.fenPin header 5 8 [9] 15) s fun u => u.host.jobs.length = 1 && (u.pinOf 15).isSome,
       after (.fenUnpin header 0 0 [] 15) q fun u => (u.pinOf 15).isNone]) = true := by decide +kernel

/-! ### Detection (08) -/

/-- A unit whose bucket 0 has closed, with watchers. -/
def watching (d : DetectState) (fs : List (Fld × Nat)) : State :=
  { running ((FS_STATUS_HISTORY, 60) :: fs) with
    detect := d
    align := { layout := some ⟨50, 0, []⟩, headers := [(0, some { number := 0, instant := 0, state := 2 })], newest := some 0 }
    time := { mono := 9000000000, tai := 9000000000 } }

theorem test_ow_sample :
    (let s := watching {} [(OW_CFG_EN 63, 1)]
     holds [s.bucketClosed 0, 0 % (s.gridRate / s.owRate 63) = 0, (s.ow 63).last = none,
       after (.owSample 63 0) s fun u => (u.ow 63).last = some 0]) = true := by decide +kernel
theorem test_ow_modal :
    (let s := watching { ow := [(1, { owed := [⟨0, 0, [], true⟩, ⟨5, 0, [], false⟩] })] } [(OW_CFG_EN 1, 1)]
     holds [s.canonical, s.detect.resBase = 0, (s.ow 1).owed.length = 2]) = true := by decide +kernel
theorem test_iw_wide :
    (let s := watching {} [(IW_CFG_EN 15, 1)]
     holds [s.bucketClosed 0, 0 % (s.gridRate / frameRate s.fNom (s.get (IW_CFG_RATE 15))) = 0,
       after (.iwWaEval 15 0) s fun u => (u.iw 15).last = some 0]) = true := by decide +kernel
theorem test_iw_local :
    (let s := { watching {} [(IW_CFG_EN 0, 1)] with phasor := { halves := [(0, { recs := [⟨7, 0, 0, 0, 0, 0, 0, 1⟩] })] } }
     holds [s.nextHalf 0 = some 7, after (.iwLocalEval 0) s fun u => (u.iw 0).lastHalf = some 7]) = true := by decide +kernel
theorem test_iw_learn :
    (let s := watching { iw := [(0, { seedAt := some 0, base := some 1 })] } [(IW_STATUS_STATE 0, iwLearn), (IW_WA_TIME_LEARN 0, 9)]
     holds [s.canonical, (s.iw 0).base.isSome, after (.iwLearnEnd 0) s fun u => u.get (IW_STATUS_STATE 0) = iwWide]) = true := by decide +kernel
theorem test_vs_hold :
    (let s := watching { iw := [(0, { vsEnds := some 9000000000 })] } [(iwCond 0 4, 1)]
     after (.locVsHoldEnd 0) s fun u => !u.flag (iwCond 0 4) && (u.iw 0).vsEnds == none) = true := by decide +kernel
theorem test_detection_late :
    (let s := watching { ow := [(63, { owed := [⟨0, 0, [], false⟩] })] } []
     holds [after (.detectionDeadlineMiss 0 63) s fun u => u.word (OW_CNT 63 0) = 1,
       after (.detectionDeadlineMiss 1 63) s fun u => (u.ow 63).owed.all (·.late), after (.detectionDeadlineMiss 2 15) s fun u => u.word (IW_CNT 15 0) = 1,
       after (.detectionDeadlineMiss 3 15) s fun u => u.word (IW_CNT 15 1) = 1, after (.detectionDeadlineMiss 4 0) s fun u => u.detect.late]) = true := by
  decide +kernel
theorem test_rule_eval :
    (let s := { watching {} [] with capture := { forRules := [⟨0, 1, ⟨0, 0⟩, ⟨0, 0⟩, none⟩] } }
     after .ruleEval s fun u => u.capture.forRules == []) = true := by decide +kernel
theorem test_rule_falls :
    (let s := watching { rules := [(31, { onUntil := some 9000000000 })] } [(AL_RULE_STAT_ON 31, 1)]
     holds [s.canonical, !(s.rule 31).raw, after (.ruleMinOnEnd 31) s fun u => !u.flag (AL_RULE_STAT_ON 31)]) = true := by decide +kernel
theorem test_rule_clear :
    (let s := watching {} [(AL_RULE_STAT_ON 31, 1), (AL_RULE_STAT_LATCHED 31, 1)]
     holds [s.canonical, s.takesWrite .host (AL_RULE_CTRL 31) 1, after (.ruleClear .host 31 1) s fun u => !u.flag (AL_RULE_STAT_ON 31)]) = true := by decide +kernel
theorem test_iw_clear :
    (let s := watching {} [(IW_CFG_EN 3, 1), (IW_STATUS_LATCHED 3, 1)]
     holds [s.canonical, s.takesWrite .host (IW_CTRL 3) 1, after (.iwClear .host 3 1) s fun u => !u.flag (IW_STATUS_LATCHED 3)]) = true := by decide +kernel
theorem test_ow_enable :
    (let s := { watching {} [] with tables := [(4 * 64 + 5, [9])] }
     let v := s.word (OW_CFG 5) / 512 % 128 * 512 + 1 + 2 * 2
     holds [s.canonical, !s.flag (OW_CFG_EN 5), s.takesWrite .host (OW_CFG 5) v,
       after (.owEnable .host 5 v) s fun u => u.flag (OW_CFG_EN 5) && u.get (OW_STATUS_COND 5) == 0]) = true := by decide +kernel
theorem test_iw_enable :
    (let s := watching {} [(PE_FN_CFG_EN 0, 1), (PE_FN_CFG_RATE 0, 4), (AE_SLOT_CFG_RATE 8192, 4), (IW_REF_EN 5 0, 1), (IW_REF_SLOT 5 0, 8192)]
     let v := 1 + 2 * s.get AE_CFG_GRID + 2 ^ 17
     holds [s.canonical, !s.flag (IW_CFG_EN 5), s.takesWrite .host (IW_CFG 5) v, !s.cold, (s.setWord (IW_CFG 5) v).takesWrite .host (IW_CFG 5) (v - 1),
       after (.iwEnable .host 5 v) s fun u => u.get (IW_STATUS_STATE 5) = iwLearn,
       after (.iwDisable .host 5 (v - 1)) (s.setWord (IW_CFG 5) v) fun u => u.get (IW_STATUS_STATE 5) = iwIdle]) = true := by decide +kernel

/-! ### Metering, records, saves and pulses (09) -/

/-- A unit with metering state at 9 s. -/
def metering (m : MeterState) (fs : List (Fld × Nat)) : State :=
  { running fs with meter := m, time := { mono := 9000000000, tai := 9000000000 } }

/-- A record body of a lane. -/
def aBody : LedgerBody where
  type := 1
  mode := 0
  lane := 3
  flags := 0
  recordSeq := 1
  queueSeq := 7
  start := ⟨0, 0⟩
  stop := ⟨0, 0⟩
  regs := []
  deltas := []
  headId := 0
  mcfgDigest := 0
  sealNo := 0
  gapMs := 0
  outageMs := 0
  lossBound := 0
  deviceId := 0
  pairId := 0
  context := []
  blocks := 0
  creepBlocks := 0
  signSlot := 0
  signGen := 0
  fwVer := 0
  prevHash := 0

/-- A save under way. -/
def aSave : CoreSave :=
  { seq := 4, time := ⟨0, 0⟩, mono := 0, cause := 0, mode := 0, sealNo := 0, laCount := 0, pairId := 0, queueSeq := 0, lanes := [] }

theorem test_block_book :
    (let s := metering { lanes := [(255, { ready := [{}] })] } []
     after (.blockBook 255 false false) s fun u => (u.laneMeter 255).ready == []) = true := by decide +kernel
theorem test_block_late :
    (let s := metering { lanes := [(0, { ready := [{ due := 8999499999 }] })] } []
     after (.meBlockDeadlineMiss 0) s fun u => ((u.laneMeter 0).ready.all (·.late)) && u.word (ME_CNT 0 2) == 1) = true := by decide +kernel
theorem test_interval :
    (let s := metering {} [(ME_G_CFG_INTERVAL, 0)]
     let t : State := { s with time := { s.time with tai := 86400 * 10 ^ 9 } }
     holds [!s.cold, s.meter.boundary < t.lastBoundary t.jobTai, after .intervalBoundary t fun u => u.meter.boundary = t.lastBoundary t.jobTai]) = true := by
  decide +kernel
theorem test_record_close :
    (let s (able : Bool) : State := { metering { lanes := [(3, { able })] } [] with host := { started := [(0, 0x20)] } }
     holds [(s true).serves header 0x20, (s true).get CW_STATUS_ROLE ≠ 2, !(s true).reserve, !(s true).orderOn,
       after (.laneRecordClose header 3 []) (s true) fun u => (u.laneMeter 3).closes.length = 1,
       after (.laneRecordClose header 3 []) (s false) fun u => u.host.waiting.length = 1]) = true := by decide +kernel
theorem test_mode :
    (let s (mode : Nat) (l : Bool) : State := { metering { configLoaded := l } [(ME_G_STATUS_MODE, mode)] with host := { started := [(0, 0x21)] } }
     let moves (a b : Nat) (l : Bool) : Bool := after (.metrologyMode header b) (s a l) fun u => u.get ME_G_STATUS_MODE == b && u.host.waiting.length == 1
     holds [(s 0 true).serves header 0x21, !(s 0 true).auditFull, !(s 0 true).orderOn, moves 0 2 true, moves 0 3 true, moves 1 0 true, moves 2 0 false,
       moves 3 3 true]) = true := by decide +kernel
theorem test_ledger_sign :
    (let b : QueuedBody := { body := aBody, closedAt := 0 }
     let s := metering { queue := [b] } [(ME_G_CFG_LEDGER_EN, 1)]
     holds [s.enginesOn, s.drives, s.flag ME_G_CFG_LEDGER_EN, s.unsigned = some b, b.filled]) = true := by decide +kernel
theorem test_sign_late :
    (let s := metering { queue := [{ body := aBody, closedAt := 3999999999 }] } []
     after .signDeadlineMiss s fun u => (u.meter.queue.all (·.late)) && u.word (ME_G_CNT 1) == 1) = true := by decide +kernel
theorem test_ledger_place :
    (let s := { metering { queue := [{ body := aBody, closedAt := 0, signature := some [] }] }
         [(HI_DR_CFG_EN 0, 1), (HI_DR_CFG_LOG2SIZE 0, 20), (HI_STATUS_BUS_MASTER, 1), (HI_STATUS_SPEED, 1)] with host := {} }
     holds [s.get ME_G_CFG_DLV_RING = 0, s.drFits 0 ((ledgerBytes aBody ++ []).length), after .ledgerPlace s fun u => u.meter.queue.all (·.placed)]) = true := by
  decide +kernel
theorem test_ledger_writes :
    (let s := metering { queue := [{ body := aBody, closedAt := 0, placed := true, signature := some [] }] } [(ME_CFG_EN 255, 1), (whole ME_LEDGER_HEAD_LO, 8), (whole ME_LEDGER_ACK_LO, 7)]
     holds [s.takesWrite .host ME_LEDGER_ACK_HI 0, s.takesWrite .host ME_LEDGER_CTRL 1, s.takesWrite .host (ME_CFG 255) (s.word (ME_CFG 255) - 1),
       after (.ledgerResend .host 1) s fun u => u.meter.queue.all fun b => !b.placed,
       after (.ledgerAck .host 0) s fun u => u.meter.queue = [],
       after (.meterDisable .host 255 (s.word (ME_CFG 255) - 1)) s fun u => !u.flag (ME_CFG_EN 255)]) = true := by decide +kernel
theorem test_save :
    (let s := metering { lastSeq := 3, saveDue := 9000000000 } []
     let c := metering { saving := [aSave] } []
     holds [!s.holdup, !s.cold, after .saveSnapshot s fun u => u.meter.lastSeq = 4 && u.meter.saving.length == 1,
       after .saveCommit c fun u => u.meter.saving = [] && u.meter.saves.length == 1 && u.pair ME_SAVE_SEQ_LO ME_SAVE_SEQ_HI == 4,
       after .saveDeadlineMiss c fun u => (u.meter.saving.all (·.late)) && u.word (ME_G_CNT 0) == 1]) = true := by decide +kernel
theorem test_pulse :
    (let s := metering { pulses := [(7, { due := [9000000000, 9000000001] })] } [(PO_CFG_EN 7, 1), (PO_CFG_WIDTH 7, 30)]
     let e := metering { pulses := [(7, { high := some 9000000000 })] } [(PO_CFG_EN 7, 1)]
     holds [s.canonical, after (.pulseEmit 7) s fun u => u.word (PO_COUNT 7) = 1 && u.get (PO_STATUS_BACKLOG 7) == 1 && u.out == [.pulse 7 true],
       after (.pulseWidthEnd 7) e fun u => u.out = [.pulse 7 false]]) = true := by decide +kernel
theorem test_battery_inputs :
    (let s (ph : Phase) : State := { running [(CAL_SENT_CFG_EN, 1), (CAL_SENT_IN_EN 3, 1), (CAL_TAMP_CFG_EN1, 1)] with power := { phase := ph } }
     holds [after (.sentinelSample [0, 0, 0, 5]) (s .battery) fun u => u.get (CAL_SENT_RMS_LAST 3) = 5,
       after (.tamperInput 1 true) (s .battery) fun u => u.flag CAL_TAMP_STAT_TAMP1 && u.meter.audit == [],
       after (.tamperInput 1 true) (s .running) fun u => u.flag CAL_TAMP_STAT_TAMP1 && u.meter.audit.length == 1]) = true := by decide +kernel

/-! ### Capture and event log (10) -/

/-- An enabled capture unit in a state. -/
def unitOn (k st : Nat) (v : CaptureUnit) (fs : List (Fld × Nat)) : State :=
  { running ([(CP_CFG_EN k, 1), (CP_STATUS_STATE k, st), (CP_POOL_SIZE k, 1)] ++ fs) with
    capture := { units := [(k, v)] }, time := { mono := 900, tai := 900 } }

/-- An occurrence of an event. -/
def anEvent : Occurrence :=
  { code := 5, sev := 1, cause := 0, inst := 0, data := 0, stamp := ⟨0, 0⟩, mono := 0, utcDate := 0, utcTime := 0, utcInvalid := false }

theorem test_capture_row :
    (let late (s : State) : State := { s with time := { mono := 9000000000, tai := 9000000000 } }
     let post (n : Nat) := late <| unitOn 15 cpPost { lastRow := some 0, records := [(0, { state := 2, post := n })] } [(CP_POST_POST 15, 2)]
     let pre (st : Nat) := late <| unitOn 15 st { lastRow := some 0, records := [(0, { state := 1 })] } [(CP_PRE_PRE 15, 2)]
     holds [(post 0).cuOn 15, (post 0).rowComplete 15, (post 1).rowComplete 15, (pre cpPre).rowComplete 15, (post 0).drainMatches.cuState 15 = cpPost,
       after (.captureRow 15 []) (post 0) fun u => (u.curRec 15).post = 1,
       after (.captureRow 15 []) (post 1) fun u => u.cuState 15 ≠ cpPost,
       after (.captureRow 15 []) (pre cpPre) fun u => u.cuState 15 = cpPre || u.cuState 15 == cpArmed,
       after (.captureRow 15 []) (pre cpArmed) fun u => u.cuState 15 = cpArmed,
       after (.captureRow 15 []) (pre cpHoldoff) fun u => u.cuState 15 = cpHoldoff]) = true := by decide +kernel
theorem test_capture_match :
    (let s := { running [] with capture := { forUnits := [⟨0, 1, ⟨0, 0⟩, ⟨0, 0⟩, none⟩] } }
     after .captureMatch s fun u => u.capture.forUnits == []) = true := by decide +kernel
theorem test_capture_timers :
    (let s := unitOn 0 cpHoldoff { holdoffEnds := some 900, records := [(0, { state := 1 })] } []
     let p0 := unitOn 0 cpPost { records := [(0, { state := 2 })] } []
     let p : State := { p0 with time := { mono := 2000000000, tai := 2000000000 } }
     holds [p.recordDue 0 < p.jobTai, after (.captureHoldoffEnd 0) s fun u => u.cuState 0 ≠ cpHoldoff,
       after (.captureDeadlineMiss 0) p fun u => (u.curRec 0).flags = 16 && u.word (CP_CNT 0 3) == 1]) = true := by decide +kernel
theorem test_capture_control :
    (let s := unitOn 0 cpPost { records := [(0, { state := 2 })] } []
     let c : State := { s with host := { started := [(0, 0x30)] } }
     holds [s.takesWrite .host (CP_CTRL 0) 2, s.takesWrite .host (CP_CTRL 0) 1, after (.cpDisarm .host 0 2) s fun u => u.cuState 0 = cpIdle,
       after (.cpArm .host 0 1) s fun u => u.cuState 0 = cpPost, after (.cpTrig .host 0 4) s fun u => u.cuState 0 = cpPost,
       after (.cpReleaseAll .host 0 8) s fun u => u.cuState 0 = cpPost,
       c.serves header 0x30, after (.captureArm header 0 1) c fun u => u.cuState 0 = cpIdle && u.host.waiting.length == 1]) = true := by decide +kernel
theorem test_capture_read :
    (let s0 := unitOn 0 cpIdle { records := [(0, { state := 3, rows := [⟨⟨0, 0⟩, [1], [], []⟩] })] } []
     let s : State := { s0 with host := { started := [(0, 0x31)] } }
     let fits (first rows : Nat) (head : Bool) : Bool :=
       decide (first + rows ≤ (s.slotRec 0 0).rows.length) && decide ((s.slotRec 0 0).readSize first rows head ≤ 4096)
     holds [s.serves header 0x31, 0 < s.cuSlots 0, (s.slotRec 0 0).state = 3, fits 0 1 false, fits 0 0 true,
       after (.captureRead header 0 0 0 0 1 0 4096) s fun u => u.host.jobs.length = 1,
       after (.captureRead header 0 3 0 0 0 0 4096) s fun u => u.host.jobs.length = 1]) = true := by decide +kernel
theorem test_log_read :
    (let s := serving 0x40 []
     holds [s.serves header 0x40, after (.logRead header 0 0 640 10 7 1) s fun u => u.host.jobs.length = 1]) = true := by decide +kernel
theorem test_event_log :
    (let s := { running [] with peat := { queue := [anEvent], held := [{ anEvent with code := 6 }] }, time := { mono := 4 } }
     let w := { running [] with peat := { windows := [⟨5, 0, 0, 4⟩, ⟨6, 0, 0, 5⟩], entries := [(0, { seq := 1 })], used := 1 }, time := { mono := 4 } }
     let t := { running [(whole PL_TAIL_SEQ, 0xffffffff)] with peat := { toCopy := [0], entries := [(0, { seq := 1 })], used := 1 } }
     holds [t.canonical, after .peatEntryWrite s fun u => u.peat.queue = [{ anEvent with code := 6 }] && u.peat.held == [] && u.peat.used == 1,
       after .foldWindowClose w fun u => u.peat.windows.length = 1, after .tailCopy t fun u => u.word PL_TAIL_SEQ = 0 && u.peat.toCopy == []]) = true := by
  decide +kernel

/-! ### Host interface (11) -/

/-- A unit whose host lets DMA flow, with ring 15 enabled and one descriptor in it. -/
def ringOn (h : HostState) (fs : List (Fld × Nat)) : State :=
  { running ([(HI_STATUS_BUS_MASTER, 1), (HI_STATUS_SPEED, 4), (HI_STATUS_WIDTH, 4), (HI_STATUS_MSIX_EN, 1), (HI_SQ_CFG_EN 15, 1), (HI_SQ_CFG_LOG2SIZE 15, 4),
      (HI_CQ_CFG_EN 0, 1), (HI_CQ_CFG_LOG2SIZE 0, 4), (HI_SQ_CFG_CQ 15, 0), (HI_SQ_STAT_STATE 15, sqIdle), (HI_SQ_HEAD_HEAD 15, 15)] ++ fs) with
    host := h, time := { mono := 9000000000 } }

theorem test_doorbells :
    (let s := ringOn {} [(HI_DR_CFG_EN 7, 1), (HI_DR_CFG_LOG2SIZE 7, 20), (whole (HI_DR_WP 7), 64)]
     holds [s.canonical, s.takesWrite .host (HI_SQ_DB 15) 3, s.takesWrite .host (HI_CQ_DB 0) 0, s.takesWrite .host (HI_DR_DB 7) 64,
       after (.sqDoorbell .host 15 3) s fun u => u.get (HI_SQ_STAT_TAIL 15) = 3,
       after (.cqDoorbell .host 0 0) s fun u => Store.get (fun _ => 0) u.host.cqHead 0 = 0,
       after (.drDoorbell .host 7 64) s fun u => u.word (HI_DR_RP 7) = 64 && u.word (HI_DR_WP 7) == 64]) = true := by decide +kernel
theorem test_ring_enable :
    (let s := ringOn { started := [(3, 1)] } [(HI_SQ_CFG_LOG2SIZE 2, 6), (HI_SQ_CFG_LOG2SIZE 3, 6), (HI_CQ_CFG_LOG2SIZE 15, 6), (HI_DR_CFG_LOG2SIZE 7, 20)]
     let on (off : Nat) (p : State → Bool) : Bool :=
       s.takesWrite .host off (s.word off / 2 * 2 + 1) && after (.ringEnable .host off (s.word off / 2 * 2 + 1)) s p
     holds [s.canonical, !s.flag (HI_SQ_CFG_EN 2), !s.flag (HI_SQ_CFG_EN 3), !s.flag (HI_CQ_CFG_EN 15), !s.flag (HI_DR_CFG_EN 7),
       on (HI_SQ_CFG 2) fun u => u.get (HI_SQ_STAT_STATE 2) = sqIdle, on (HI_SQ_CFG 3) fun u => u.get (HI_SQ_STAT_STATE 3) = sqBusy,
       on (HI_CQ_CFG 15) fun u => u.get (HI_CQ_TAIL_PHASE 15) = 1, on (HI_DR_CFG 7) fun u => u.flag (HI_DR_CFG_EN 7)]) = true := by decide +kernel
theorem test_ring_disable :
    (let s := ringOn {} [(HI_CQ_CFG_EN 9, 1), (HI_DR_CFG_EN 7, 1)]
     let off_ (off : Nat) (p : State → Bool) : Bool :=
       s.takesWrite .host off (s.word off / 2 * 2) && after (.ringDisable .host off (s.word off / 2 * 2)) s p
     holds [s.canonical, s.flag (HI_SQ_CFG_EN 15), off_ (HI_SQ_CFG 15) fun u => u.get (HI_SQ_STAT_STATE 15) = sqDisabled,
       off_ (HI_CQ_CFG 9) fun u => !u.flag (HI_CQ_CFG_EN 9), off_ (HI_DR_CFG 7) fun u => !u.flag (HI_DR_CFG_EN 7)]) = true := by decide +kernel
theorem test_command_start :
    (let s := ringOn { nextRing := 15 } []
     holds [s.canonical, s.ringTurn 15, opcodes.contains 1, after (.commandStart 15 .ok 1 7) s fun u => u.get (HI_SQ_HEAD_HEAD 15) = 0 && u.host.nextRing == 0,
       after (.commandStart 15 .failed 1 7) s fun u => u.get (HI_SQ_STAT_STATE 15) = sqError]) = true := by decide +kernel
theorem test_command_step :
    (let j (d : Nat) (p : Option Nat) : Job := {
       sq := 15, tag := 7, opcode := 0x10, kind := .fenQuery 1 2 [] 0 false none, progEvery := p, deadline := none, done := d, all := 2, steps := 1 }
     let s (d : Nat) (p : Option Nat) := ringOn { started := [(15, 0x10)], jobs := [j d p], nextRing := 15 } [(HI_SQ_STAT_STATE 15, sqBusy)]
     holds [(s 0 none).ringTurn 15, !(s 0 none).slotBlocked (j 0 none), !(j 0 none).waits, !(s 0 none).slhWork (j 0 none).kind,
       after (.commandStep 15 true) (s 0 none) fun u => (u.host.jobs.map (·.done)) = [1] && u.host.waiting == [] && u.out.length == 1,
       after (.commandStep 15 true) (s 0 (some 2)) fun u => (u.host.jobs.map (·.steps)) = [2] && u.out.length == 2,
       after (.commandStep 15 true) (s 0 (some 3)) fun u => (u.host.jobs.map (·.steps)) = [2] && u.out.length == 1,
       after (.commandStep 15 true) (s 1 none) fun u => u.host.jobs = []]) = true := by decide +kernel
theorem test_step_late :
    (let s := ringOn { started := [(15, 0x40)] } []
     after (.stepDeadlineMiss 15) s fun u => u.word (HI_CNT 2) == 1) = true := by decide +kernel
theorem test_completion :
    (let c : Completion := { tag := 7, sq := 15, opcode := 1, status := 0 }
     let s := ringOn { started := [(15, 1)], waiting := [c] } [(HI_SQ_STAT_STATE 15, sqBusy)]
     holds [0 < s.cqFree (s.cqOf 15), s.dmaOn, after .completionPost s fun u => u.host.waiting = [] && u.get (HI_SQ_STAT_STATE 15) == sqIdle]) = true := by
  decide +kernel
theorem test_nop : (let s := serving 1 []; holds [s.serves header 1, after (.nop header) s fun u => u.host.waiting.length = 1]) = true := by decide +kernel
theorem test_tables :
    (let s := { serving 2 [] with host := { started := [(0, 2)] } }
     let r := ringOn { started := [(0, 3)] } []
     holds [s.serves header 2, (s.trySet .host [(GL_SCRATCH, 5)]).bad = none, (s.trySet .host [(GL_SCRATCH, 5)]).legal = [],
       after (.tableSet header 0 0 [(GL_SCRATCH, 5)] true) s fun u => u.word GL_SCRATCH = 5,
       (tableField 3 7 1).isNone, !s.followsPrimary, !s.orderOn, (s.ahead.tableBad 3 7 [5]).isNone,
       after (.tableSet header 3 7 [(5, 0)] true) s fun u => u.table 3 7 = [5],
       r.serves header 3, r.dmaOn, after (.readTable header 3 7 64 0) r fun u => u.host.started = []]) = true := by decide +kernel
theorem test_messages :
    (let s := ringOn { coalesce := [(23, { count := 1, first := 0 })] } [(HI_DR_CFG_EN 7, 1), (⟨coalesceCfg 23, 6, 6⟩, 1)]
     let v := ringOn {} [(⟨MSIX_CTRL 63, 0, 0⟩, 1), (⟨MSIX_PBA 1, 31, 31⟩, 1)]
     holds [after (.msixCoalesceTimer 23) s fun u => (Store.get (fun _ => {}) u.host.coalesce 23).count = 0,
       v.canonical, v.takesWrite .host (MSIX_CTRL 63) 0, after (.msixUnmask .host 63 0) v fun u => u.out = [.msix 63]]) = true := by decide +kernel
theorem test_heartbeat :
    (let s := ringOn {} [(HI_HB_CFG_TIMEOUT_MS, 20)]
     let e := ringOn { hbDue := some 9000000000 } []
     holds [s.takesWrite .host HI_HB 1, after (.hbWrite .host 1) s fun u => u.host.hbDue = some 9020000000,
       !e.holdup, !e.flag FU_STATUS_SWITCHING, after .hbTimeout e fun u => u.power.pendingReset = some .w && u.power.warmCause == 4]) = true := by decide +kernel
theorem test_interface_resets :
    (let s := ringOn { started := [(15, 1)] } []
     let p := ringOn { perst := true } []
     holds [s.canonical, s.get HI_STATUS_SPEED ≠ 0, after (.configSpaceWrite true false true) s fun u => u.host.d3hot && !u.flag HI_STATUS_MSIX_EN,
       after .functionLevelReset s fun u => u.host.started = [] && u.get GL_STATUS_LAST_RESET == 5,
       after .perstAssert s fun u => u.host.perst && u.get HI_STATUS_SPEED == 0, after .perstRelease p fun u => !u.host.perst]) = true := by decide +kernel
/-- A descriptor by its table (R297): KEY_GENERATE of slot 9 with TAG 0x01020304, and the same with byte 30 not zero. -/
theorem test_submission :
    (let d : List Byte := [0x50, 0, 0, 0, 4, 3, 2, 1] ++ List.replicate 16 0 ++ [9, 3, 1, 0, 1] ++ List.replicate 35 0
     holds [d.length = 64, commandOf 5 d {} = some (.keyGenerate { sq := 5, tag := 0x01020304 } 9 3 1 1 0 0),
       commandOf 5 (d.set 30 1) {} = some (.keyGenerate { sq := 5, tag := 0x01020304, badReserved := some 30 } 9 3 1 1 0 0)]) = true := by decide +kernel

/-! ### Cores, threads and monitors (12) -/

/-- A unit with its scheduler in a state, at 9 µs. -/
def scheduling (d : SchedState) (fs : List (Fld × Nat)) : State := { running fs with sched := d, time := { mono := 9000, tai := 9000 } }

theorem test_flags :
    (let s := scheduling {} [(whole (SC_THR_FLAGS 511), 12)]
     holds [s.canonical, s.takesWrite .host (SC_THR_FLAGS 511) 3, s.takesWrite .host (SC_THR_FCLR 511) 4,
       after (.threadFlagSet .host 511 3) s fun u => u.word (SC_THR_FLAGS 511) = 15,
       after (.threadFlagClear .host 511 4) s fun u => u.word (SC_THR_FLAGS 511) = 8]) = true := by decide +kernel
theorem test_wait :
    (let s (f : Nat) := scheduling {} [(SC_THR_CFG_EN 5, 1), (SC_THR_STAT_STATE 5, thrRunning), (whole (SC_THR_MASK 5), 3), (whole (SC_THR_FLAGS 5), f)]
     let w : ThreadWait := ⟨3, true, true⟩
     holds [(s 1).canonical, (s 1).takesWrite .host (SC_THR_WAIT 5) 7, (s 3).takesWrite .host (SC_THR_WAIT 5) 7, !w.met 1, w.met 3,
       after (.threadWait .host 5 7) (s 1) fun u => u.get (SC_THR_STAT_STATE 5) = thrWaiting,
       after (.threadWait .host 5 7) (s 3) fun u => u.get (SC_THR_STAT_STATE 5) = thrRunning && u.word (SC_THR_FLAGS 5) == 0]) = true := by decide +kernel
theorem test_thread_enable :
    (let s := scheduling { ready := [7] } [(SC_THR_CFG_EN 7, 1)]
     holds [s.canonical, s.takesWrite .host (SC_THR_CFG 6) 1, s.takesWrite .host (SC_THR_CFG 7) 0,
       after (.threadEnable .host 6 1) s fun u => u.sched.ready = [7, 6], after (.threadDisable .host 7 0) s fun u => u.sched.ready = []]) = true := by decide +kernel
theorem test_core_control :
    (let s := scheduling {} [(SC_CORE_STAT_CUR 3, 9), (SC_CORE_STAT_CUR_VALID 3, 1), (SC_THR_STAT_STATE 9, thrRunning)]
     let c := scheduling { customerCores := [7], customerImage := true } []
     holds [s.canonical, s.takesWrite .host (SC_CORE_CTRL 3) 3, s.currentRunning 3 = some 9,
       after (.coreYield .host 3 3) s fun u => u.get (SC_THR_STAT_STATE 9) = thrReady,
       c.takesWrite .host (SC_CORE_CTRL 7) 1, c.get (SC_CORE_CTRL_RUN 7) = 0,
       after (.coreRun .host 7 1) c fun u => u.get (SC_CORE_STAT_STATE 7) = 1]) = true := by decide +kernel
theorem test_software_event :
    (let s := scheduling {} []
     holds [s.takesWrite .host SC_SWEVT (2 ^ 31), after (.softwareEvent .host (2 ^ 31)) s fun u => u.word SC_SWEVT = 0]) = true := by decide +kernel
theorem test_claim :
    (let s := scheduling { ready := [9] } [(SC_THR_CFG_EN 9, 1), (SC_THR_CFG_CORE 9, 7), (SC_THR_STAT_STATE 9, thrReady)]
     holds [s.canonical, s.answers (SC_CORE_CLAIM 7), s.bestReady 7 = some 9, s.currentRunning 7 = none,
       after (.coreClaim (.core 7) 7) s fun u => u.get (SC_CORE_STAT_CUR 7) = 9 && u.get (SC_THR_STAT_STATE 9) == thrRunning]) = true := by decide +kernel
theorem test_preempt :
    (let s := scheduling {} [(SC_CORE_STAT_PREEMPT_HELD 7, 1)]
     after (.preemptTrap 7) s fun u => !u.flag (SC_CORE_STAT_PREEMPT_HELD 7) && u.out.length == 1) = true := by decide +kernel
theorem test_sched_timer :
    (let s (b : Nat) := scheduling { timers := [(15, some 9000)] } [(SC_TMR_CFG_BASE 15, b), (SC_TMR_PERIOD_PERIOD 15, 5)]
     holds [after (.schedTimer 15) (s 0) fun u => Store.get (fun _ => none) u.sched.timers 15 = some 14000,
       after (.schedTimer 15) (s 1) fun u => Store.get (fun _ => none) u.sched.timers 15 ≠ some 9000]) = true := by decide +kernel
theorem test_monitor_arm :
    (let s := scheduling {} [(DL_CFG_EN 127, 1), (DL_CFG_THREAD 127, 256)]
     holds [s.canonical, s.takesWrite .host (DL_ARM 127) 16, s.takesWrite .host (DL_DUE_HI 127) 1,
       after (.dlArm .host 127 16) s fun u => Store.get (fun _ => []) u.sched.dues 127 = [25000],
       after (.dlDueArm .host 127 1) s fun u => Store.get (fun _ => []) u.sched.dues 127 = [2 ^ 32 * 1000]]) = true := by decide +kernel
theorem test_monitor_done :
    (let s (mode : Nat) := scheduling { dues := [(64, [8000])] } [(DL_CFG_EN 64, 1), (DL_CFG_MODE 64, mode), (DL_PERIOD_PERIOD 64, 5), (DL_STAT_ARMED 64, 1)]
     holds [(s 0).canonical, (s 0).takesWrite .host (DL_DONE 64) 1, (s 1).takesWrite .host (DL_DONE 64) 1,
       after (.dlDone .host 64 1) (s 0) fun u => !u.flag (DL_STAT_ARMED 64),
       after (.dlDone .host 64 1) (s 1) fun u => Store.get (fun _ => []) u.sched.dues 64 = [13000],
       after (.threadDeadlineMiss 64) (s 0) fun u => u.flag (DL_STAT_LAST_MISS 64) && u.word (DL_CNT 64) == 1]) = true := by decide +kernel

/-! ### Key store and random generator (13) -/

/-- A unit whose DMA flows, with the wrapping key 55 in slot 1 and what else is set, serving an opcode. -/
def keyed (op : Nat) (slots : Store (Option KeySlot)) (fs : List (Fld × Nat)) : State :=
  { running ([(HI_STATUS_BUS_MASTER, 1), (HI_STATUS_SPEED, 1), (SE_STATUS_DRBG_READY, 1), (KS_ATTR_ALG 1, 2), (KS_ATTR_USAGE 1, 7), (KS_ATTR_DEST 1, 2)] ++ fs) with
    host := { started := [(0, op)] }
    keys := { slots := (1, some { a := KeyCell.seal { share := 55, attr := 0x20702, gen := 1 } }) :: slots } }

/-- A wrapped HMAC key for a slot, under that key. -/
def aBlob (k : Nat) : KeyBlob :=
  let ct := List.replicate 32 0
  let aad := leBytes 4 0x574b5a4b ++ leBytes 1 1 ++ leBytes 1 3 ++ leBytes 1 6 ++ leBytes 1 k ++ leBytes 2 32 ++ leBytes 2 32 ++ leBytes 4 1 ++ leBytes 8 0 ++
    leBytes 12 9
  { alg := 3, usage := 6, slot := k, dest := 32, klen := 32, targetGen := 1, iv := 9, ct, tag := gcmTag 32 55 9 aad ct }

theorem test_key_erase :
    (let s := keyed 0x50 [(9, some { a := KeyCell.seal { gen := 4, attr := 0x200103 } })] [(KS_ATTR_ALG 9, 3), (whole (KS_GEN 9), 4)]
     holds [s.canonical, s.serves header 0x50, !s.slotBusy 9, s.dmaOn, !s.generateBad 9 0, !s.holdup,
       after (.keyGenerate header 9 0 0 0 0 0) s fun u => u.get (KS_ATTR_ALG 9) = 0 && u.word (KS_GEN 9) == 5]) = true := by decide +kernel
theorem test_key_generate :
    (let s := keyed 0x50 [] []
     holds [(generateField 255 3 1 1).isNone, publicSize 3 1 ≤ 0, !s.generateBad 255 3, generateSteps 3 1 = 1,
       (generateField 255 4 3 4).isNone, publicSize 4 3 ≤ 16896, !s.generateBad 255 4, generateSteps 4 3 ≠ 1,
       after (.keyGenerate header 255 3 1 1 0 0) s fun u => u.get (KS_ATTR_ALG 255) = 3,
       after (.keyGenerate header 255 4 3 4 0 16896) s fun u => u.host.jobs.length = 1]) = true := by decide +kernel
theorem test_key_import :
    (let s := keyed 0x51 [] []
     holds [s.serves header 0x51, s.wrapSlot 1, !s.slotWritten 1, !s.slotBusy 2, !s.inService 2, s.keyAlg 2 = 0, (s.blobBad 2 1 (aBlob 2)).isNone,
       after (.keyImport header 2 1 (aBlob 2)) s fun u => u.get (KS_ATTR_ALG 2) = 3]) = true := by decide +kernel
theorem test_key_update :
    (let s := keyed 0x52 [] [(KS_ATTR_ALG 2, 3)]
     holds [s.serves header 0x52, s.wrapSlot 1, !s.slotWritten 1, !s.slotBusy 2, !s.inService 2, s.keyAlg 2 ≠ 0, (s.blobBad 2 1 (aBlob 2)).isNone,
       after (.keyUpdate header 2 1 (aBlob 2) 0 0) s fun u => u.get (KS_ATTR_ALG 2) = 3]) = true := by decide +kernel
theorem test_attest :
    (let s := keyed 0x53 [] [(KS_ATTR_ALG 255, 3), (KS_ATTR_USAGE 255, 6), (KS_ATTR_DEST 255, 32)]
     holds [s.serves header 0x53, s.attestSlot 255, !s.slotBusy 255, s.dmaOn]) = true := by decide +kernel
theorem test_sign :
    (let s := keyed 0x54 [] [(KS_ATTR_ALG 255, 4), (KS_ATTR_USAGE 255, 1), (KS_ATTR_DEST 255, 4)]
     let v := keyed 0x55 [] [(KS_ATTR_ALG 255, 7), (KS_ATTR_USAGE 255, 1), (KS_ATTR_DEST 255, 4)]
     holds [s.serves header 0x54, s.signSlot 255, signatureSize (s.keyAlg 255) ≤ 17088, v.serves header 0x55, v.verifySlot 255,
       after (.sign header 255 [1] 0 17088) s fun u => u.host.jobs.length = 1,
       after (.verify header 255 [1] [2]) v fun u => u.host.jobs.length = 1]) = true := by decide +kernel
theorem test_random :
    (let s := { keyed 1 [] [] with keys := { requests := 65536 }, time := { mono := 5 } }
     holds [s.canonical, s.flag SE_STATUS_DRBG_READY, after .drbgReseed s fun u => u.keys.requests = 0 && u.keys.reseedAt == 5,
       after .entropyFail s fun u => u.flag SE_STATUS_ES_FAIL && !u.flag SE_STATUS_DRBG_READY && u.flag SE_STATUS_DETERMINISTIC]) = true := by decide +kernel

/-! ### The pair (14) -/

/-- A unit that holds causeway key 200 and hears frames of partner 77, in a role and sync state, with a pair state. -/
def paired (role sync : Nat) (p : PairState) (fs : List (Fld × Nat)) : State :=
  { running ([(CW_STATUS_ROLE, role), (CW_STATUS_SYNC, sync), (CW_STATUS_PARTNER, 1), (CW_CFG_PAIR_EN, 1), (CW_CFG_KEY_SLOT, 200),
      (KS_ATTR_ALG 200, 2), (KS_ATTR_USAGE 200, 5), (KS_ATTR_DEST 200, 16), (whole (KS_GEN 200), 3), (whole CW_PARTNER_LO, 77),
      (whole CW_PAIR_ID_LO, 9)] ++ fs) with
    pair_ := p, time := { mono := 10000000000, tai := 10000000000 } }

/-- A frame header of that partner. -/
def aFrame : CwHeader := { lane := 1, fseq := 5, pairId := 9, sender := 77, keyGen := 3, tagOk := true }

theorem test_causeway_frame :
    (let s := paired 2 1 {} []
     holds [s.enginesOn, s.cwHears aFrame false, s.cwHears aFrame true, (paired 2 1 { heard := [⟨77, 1028, []⟩] } []).cwHears aFrame false,
       !(paired 2 1 { heard := [⟨77, 1029, []⟩] } []).cwHears aFrame false, !(paired 2 1 { heard := [⟨77, 5, [10]⟩] } []).cwHears aFrame false,
       !s.cwHears { aFrame with tagOk := false } false, s.pair_.join.isSome == false,
       after (.cwKeepaliveRx aFrame 1 2 ⟨0, 0⟩) s fun u => u.flag (CW_LANE_STAT_UP 1) && u.pair_.lastFrame == some 10000000000 && u.pair_.partnerRole == 1,
       after (.cwPromoteRx aFrame 0 0) s fun u => u.pair_.heard == [⟨77, 5, [11]⟩]]) = true := by decide +kernel
theorem test_join_frames :
    (let s := paired 1 0 {} [(CW_STATUS_PARTNER, 0)]
     let j := paired 0 0 { join := some ⟨0, 7, 2⟩ } [(CW_STATUS_PARTNER, 0)]
     holds [s.cwHears { aFrame with sender := 78 } true, !s.cwHears { aFrame with sender := 78 } false, j.cwHears aFrame j.pair_.join.isSome]) = true := by
  decide +kernel
theorem test_tick :
    (let s := { paired 1 2 {} [] with order := { running := true, tickAt := 9999990000 } }
     holds [s.enginesOn, s.orderOn, s.order.tickAt + stampLag ≤ s.time.mono, after .orderTick s fun u => u.order.tickAt = 10000090000]) = true := by decide +kernel
theorem test_order_flush :
    (let r (t : Nat) : OrderRec := ⟨3, t, .tick ⟨0, 0⟩ 0⟩
     let s (t n : Nat) := { paired 1 2 {} [] with order := { unsent := List.replicate n (r t) } }
     holds [after .orderFlush (s 9999980000 1) fun u => u.order.unsent == [], after .orderFlush (s 9999980001 511) fun u => u.order.unsent == [],
       after .orderFlush (s 9999980001 510) fun u => u.order.unsent.length = 510]) = true := by decide +kernel
theorem test_fetch :
    (let s := { paired 2 1 {} [] with order := { waiting := [⟨4, 9998000000, .tick ⟨0, 0⟩ 0⟩], want := 4 } }
     holds [s.following, after .fetchTimer s fun u => u.order.fetched == [8]]) = true := by decide +kernel
theorem test_held :
    (let h (t : Nat) : HeldFrame := { path := 0, length := 64, crc := 0, stamp := 0, at_ := t }
     let s := { paired 2 1 {} [(CW_CFG_MATCH_MS, 5)] with order := { held := [h 9995000000, h 9995000001] } }
     after .orderMatchExpire s fun u => u.order.held.length = 1 && u.word (CW_CNT 6) == 1) = true := by decide +kernel
theorem test_keepalive :
    (let s := paired 2 1 { keepAt := 10000000000 } []
     holds [s.role = 2, after .cwKeepaliveTx s fun u => u.pair_.keepAt = 10000250000]) = true := by decide +kernel
theorem test_health :
    (after .healthTx (paired 2 1 { healthAt := 10000000000, cecc := 3 } []) fun u => u.pair_.healthAt = 11000000000 && u.pair_.cecc == 0) = true := by
  decide +kernel
theorem test_digest :
    (let s := paired 2 2 { window := 900, judgeFrom := 1 } []
     let l := paired 2 2 { window := 900 } []
     let m := paired 2 2 { own := [⟨900, 255, [], 9900000000⟩] } []
     let v := { l with time := { mono := 10000000000, tai := 10000000000 } }
     holds [s.lockstep, s.digestDue 900 ≤ s.jobTai, v.digestDue 900 + 10000000 ≤ v.jobTai, v.pair_.lateDigest ≠ 901,
       after .digestLate v fun u => u.pair_.lateDigest = 901 && u.word (CW_CNT 9) == 1,
       after .digestMissing m fun u => u.pair_.own == [] && u.word (CW_CNT 8) == 1]) = true := by decide +kernel
theorem test_checkpoint :
    (let s := paired 1 0 { partnerRole := 3, ckptAt := 10000000000 } []
     holds [s.role = rolePrimary, s.flag CW_STATUS_PARTNER, s.pair_.partnerRole = roleCold, s.pair_.ckptAt ≤ s.time.mono]) = true := by decide +kernel
theorem test_silence :
    (let s := paired 1 2 { lastFrame := some 9997000000, laneLast := [some 9997000000, some 9997000001] } [(CW_LANE_STAT_UP 0, 1)]
     holds [after (.cwLaneSilence 0) s fun u => !u.flag (CW_LANE_STAT_UP 0), s.role = rolePrimary,
       after .partnerSilence s fun u => !u.flag CW_STATUS_PARTNER]) = true := by decide +kernel
theorem test_promote_effect :
    (let s (role : Nat) (up : Bool) := paired role 2 { promote := some (10000000000, 2, up) } []
     holds [(s 2 true).following, (s 1 false).role = rolePrimary, (s 2 true).effectReached 10000000000, (s 1 false).effectReached 10000000000, (s 2 true).mayPromote]) = true := by decide +kernel
theorem test_divergence :
    (let s := paired 2 2 { diverge := some { window := 4, classes := 1 } } []
     after (.selftestResult false) s fun u => u.word (CW_CNT 11) == 1 && (u.pair_.diverge.map (·.own)) == some (some false)) = true := by decide +kernel
theorem test_paths :
    (let s := paired 1 0 {} []
     holds [s.role = rolePrimary, after (.pathCheck 3 true) s fun u => u.word CW_PROOF = 8, after (.pathCheck 3 false) s fun u => u.word CW_PROOF = 2048]) = true := by
  decide +kernel
theorem test_pair_enable :
    (let s := running [(CW_CFG_KEY_SLOT, 200), (KS_ATTR_ALG 200, 2), (KS_ATTR_USAGE 200, 5), (whole CW_PAIR_ID_LO, 9)]
     let v := s.word CW_CFG
     holds [s.canonical, v % 2 = 0, s.takesWrite .host CW_CFG (v + 1), s.role = roleSolo,
       after (.pairEnable .host (v + 1)) s fun u => u.role = rolePrimary]) = true := by decide +kernel
theorem test_pair_disable :
    (let s := paired 1 0 {} [(CW_STATUS_PARTNER, 0)]
     let v := s.word CW_CFG - 1
     holds [s.canonical, v % 2 = 0, s.takesWrite .host CW_CFG v, after (.pairDisable .host v) s fun u => u.role = roleSolo]) = true := by decide +kernel
theorem test_promote_command :
    (let s (role sync op : Nat) := { paired role sync {} [] with host := { started := [(0, op)] } }
     let d := { s 1 2 0x72 with order := { running := true, tickAt := 10000100000 } }
     holds [(s 3 0 0x71).serves header 0x71, (s 3 0 0x71).role = roleCold, (s 2 2 0x72).serves header 0x72, (s 2 2 0x72).get CW_STATUS_SYNC = syIn,
       d.orderOn, after (.pairDrill header) d fun u => u.pair_.promote = some (10020000000, 2, false),
       after (.pairDrill header) (s 2 2 0x72) fun u => u.pair_.promote = some (10020000000, 2, true)]) = true := by decide +kernel
theorem test_join :
    (let s := serving 0x70 [(CW_CFG_KEY_SLOT, 200), (KS_ATTR_ALG 200, 2), (KS_ATTR_USAGE 200, 5)]
     holds [s.serves header 0x70, s.role = roleSolo, s.causewayKey (s.get CW_CFG_KEY_SLOT), s.mayJoin 3,
       after (.pairJoin header 3 9 64 5 none) s fun u => (u.host.jobs.map (·.all)) == [5],
       after (.pairJoin header 2 9 0 0 none) s fun u => (u.host.jobs.map (·.all)) == [1]]) = true := by decide +kernel

/-! ### Firmware update (15) -/

/-- An image of a kind with no body. -/
def anImage (kind : Nat) : Image := [0x4b, 0x5a, 0x46, 0x49, 1, 0, BitVec.ofNat 8 kind] ++ List.replicate 249 0

/-- A running unit serving an opcode, in an update state, with a firmware state. -/
def updating (op st : Nat) (f : FwState) (fs : List (Fld × Nat)) : State :=
  { serving op ([(FU_STATUS_STATE, st)] ++ fs) with fw := f, time := { mono := 10000000000, tai := 10000000000 } }

theorem test_stage :
    (let s := updating 0x60 fuStaged {} []
     holds [s.serves header 0x60, imgKind (anImage 2) = 2, s.fw.verifying == none, s.fw.copying == none, s.fw.receive == none,
       after (.imageStage header 2 0 (anImage 2) true) s fun u => u.fw.verifying.isSome && u.host.jobs.length == 1]) = true := by decide +kernel
theorem test_verified :
    (let r (i : Image) : StageRun := { image := i, digest := 0, sender := 0, hops := 0, forward := false, command := some (0, 7) }
     let s := { updating 0x60 fuRunning { verifying := some (r []) } [] with host := { jobs := [{ sq := 0, tag := 7, opcode := 0x60, kind := .imageStage [] false, progEvery := none, deadline := none, done := 1 }] } }
     holds [after .imageVerified s fun u => u.fw.verifying == none && u.fw.copying == none && u.host.jobs == []]) = true := by decide +kernel
theorem test_copied :
    (let r : StageRun := { image := anImage 0, digest := 0, sender := 0, hops := 0, forward := false }
     let s := updating 0x60 fuRunning { copying := some r } []
     holds [!s.power.bootHeld, after .imageCopyDone s fun u => u.fuState = fuStaged && u.fw.staged.isSome]) = true := by decide +kernel
theorem test_arm :
    (let s := updating 0x61 fuStaged {} [(FU_CFG_MIN_LEAD, 10)]
     holds [s.serves header 0x61, s.leadOk 20000000000, !s.leadOk 19999999999,
       after (.fwArm header 20000000000) s fun u => u.fuState = fuArmed && u.kickTai == 20000000000]) = true := by decide +kernel
theorem test_kickoff :
    (let s := updating 0 fuArmed { staged := some (anImage 1) } [(TB_STATUS_STATE, tsLocked), (whole FU_KICK_SEC_LO, 10)]
     holds [s.kickTai ≤ s.jobTai, s.timeState = tsLocked, !s.holdup]) = true := by decide +kernel
theorem test_switching : (updating 0 fuProvisional {} [(FU_STATUS_SWITCHING, 1)]).flag FU_STATUS_SWITCHING = true := by decide +kernel
theorem test_confirm :
    (let s := updating 0x62 fuProvisional {} [(whole (FU_VER 1), 4)]
     holds [s.canonical, s.serves header 0x62,
       after (.fwConfirm header) s fun u => u.fuState = fuRunning && u.flag FU_STATUS_COPYING && u.word (FU_VER 0) == 4]) = true := by decide +kernel
theorem test_copy_done :
    (let s := updating 0 fuRunning {} [(FU_STATUS_COPYING, 1)]
     holds [s.canonical, after .configCopyDone s fun u => !u.flag FU_STATUS_COPYING]) = true := by decide +kernel
theorem test_fallback :
    (let s := updating 0x63 fuProvisional {} []
     holds [s.serves header 0x63, s.fuState = fuProvisional]) = true := by decide +kernel
theorem test_start_limit :
    (let s := updating 0 fuProvisional { startEnds := some 10000000000 } [(GL_STATUS_SERVICE, 0), (FU_CFG_BOOT_MAX, 3), (FU_STATUS_BOOT_TRIES, 2)]
     holds [!s.flag GL_STATUS_SERVICE, after .startLimitExpire s fun u => u.get FU_STATUS_BOOT_TRIES = 3]) = true := by decide +kernel
theorem test_refresh :
    (let s := updating 0 fuRunning { ages := [0, 365 * dayTicks] } []
     let r := updating 0 fuRunning { refreshing := some 1, ages := [0, 365 * dayTicks] } []
     holds [((List.range 5).find? fun p => decide (365 * dayTicks ≤ s.fw.ages.getD p 0) && !s.stagingWrites p) = some 1,
       after .nandRefresh s fun u => u.fw.refreshing = some 1,
       after (.refreshPassed 9) r fun u => u.fw.ages = [0, 0] && u.word (FU_CNT 5) == 9]) = true := by decide +kernel

/-- A packet from upstream. -/
def aPacket : RelayHeader := { session := 3, sender := 9 }

theorem test_relay_in :
    (let x : RelayReceive := { session := 3, sender := 9, causeway := false, length := 20000, kind := 0, digest := 3, hops := 1, lastAt := 9990000000, progress := 0 }
     let s := updating 0 fuRunning { receive := some x } [(FU_RELAY_CFG_ACCEPT, 1)]
     holds [s.enginesOn, s.flag FU_RELAY_CFG_ACCEPT, aPacket.crcOk && aPacket.formatOk && aPacket.fromUpstream, !x.acked, x.lastAt + 10000000 ≤ s.time.mono]) = true := by decide +kernel
theorem test_relay_causeway :
    (let s := paired 2 1 {} []
     holds [s.enginesOn, s.cwHears aFrame false, after (.cwRelayRx aFrame aPacket (.result 0)) s fun u => u.pair_.heard == [⟨77, 5, [11]⟩]]) = true := by decide +kernel
theorem test_relay_out :
    (let x : RelaySend := { session := 3, causeway := false, image := anImage 0, hops := 1, unacked := [(0, 9000000000), (1, 9999999999)], next := 2, progress := 0 }
     let s := updating 0 fuRunning { sends := [x] } [(FU_RELAY_CFG_RTO, 100)]
     holds [x.unacked.filter (fun c => decide (c.2 + s.get FU_RELAY_CFG_RTO * 10000000 ≤ s.time.mono))  ≠ []]) = true := by decide +kernel
theorem test_relay_give_up :
    (let x : RelayReceive := { session := 3, sender := 9, causeway := false, length := 20000, kind := 0, digest := 3, hops := 1, lastAt := 0, progress := 0 }
     let s := { updating 0 fuRunning { receive := some x } [] with time := { mono := 30000000000, tai := 30000000000 } }
     holds [s.fw.sends == [], s.fw.verifying == none, x.progress + 30000000000 ≤ s.time.mono]) = true := by decide +kernel

/-! ### Integrity and return (16) -/

theorem test_known_answer :
    (let s := running []
     holds [s.enginesOn, after (.katRun 16 true) s fun u => u.pair_.stPass = 65536,
       after (.katRun 0 false) s fun u => u.pair_.stFail = 1 && u.word (IG_CNT 7) == 1]) = true := by decide +kernel
theorem test_scrub :
    (after (.scrubPass false [0x10] [0x28]) (running []) (fun u => u.word (IG_CNT 1) = 1 && u.word (IG_CNT 2) == 1 && u.pair_.cecc == 1) &&
     after (.scrubPass true [0x100000000000] []) (running []) (fun u => u.word (IG_CNT 3) = 1 && u.pair_.scrubMram == 1)) = true := by decide +kernel
theorem test_eye :
    (let s := running []
     holds [s.canonical, after (.eyeMeasure 1 65535) s fun u => u.get (CW_LANE_STAT_EYE 1) = 65535]) = true := by decide +kernel
theorem test_capsule :
    (let s := serving 0x90 []
     holds [s.serves header 0x90, !s.flag IG_STATUS_CAPSULE, after (.returnCapsule header 0x63617073) s fun u => u.host.jobs.length = 1]) = true := by
  decide +kernel

/-! ### Supplies, start-up and resets (17) -/

/-- The unit as reset leaves it, in a supply phase. -/
def supplied (p : Phase) : State := { State.reset with power := { phase := p, classP := false } }

theorem test_first_supply :
    (after (.batteryPowerOn false) (supplied .unpowered) (fun u => u.power.phase = .battery) &&
     after (.batteryPowerOn true) (supplied .unpowered) (fun u => u.power.phase = .held || u.power.phase == .booting)) = true := by decide +kernel
theorem test_vin_return : after .vinReturn (supplied .battery) (fun u => !u.power.classP && u.power.phase != .battery) = true := by decide +kernel
theorem test_trip :
    (let s := running []
     let h := running [(PW_STATUS_STATE, 1)]
     holds [s.canonical, !s.holdup, h.canonical, h.holdup,
       after .supplyRecover h fun u => u.get PW_STATUS_STATE = 0]) = true := by decide +kernel
theorem test_battery_end :
    after .batteryLoss (supplied .battery) (fun u => u.power.phase = .unpowered) = true := by decide +kernel
theorem test_vbat :
    (let s := running []
     holds [s.canonical, after (.vbatLow 2499) s fun u => u.flag PW_STATUS_VBAT_LOW && u.get PW_VBAT_VBAT == 2499,
       after (.vbatLow 70000) s fun u => !u.flag PW_STATUS_VBAT_LOW && u.get PW_VBAT_VBAT == 65535,
       after .vbatInsert (running [(PW_STATUS_VBAT_LOW, 1)]) fun u => !u.flag PW_STATUS_VBAT_LOW]) = true := by decide +kernel
theorem test_power_up :
    (let s := supplied .held
     holds [!s.flag GL_STATUS_BOOT_DONE, !s.power.testmode, s.power.phase == .held]) = true := by decide +kernel
theorem test_load :
    (let s := { State.reset.put GL_STATUS_BOOT_DONE 1 with power := { phase := .running } }
     holds [s.power.phase == .running, !s.meter.configLoaded, (s.readPartition [(GL_SCRATCH, 5)] []).writes == [(GL_SCRATCH, 5)]]) = true := by
  decide +kernel
theorem test_reset_pin :
    after .rstNAssert (running [(whole GL_SCRATCH, 5)]) (fun u => u.word GL_SCRATCH = 0 && u.power.phase != .running) = true := by decide +kernel

end Sys2Proof.Tests
end

section
/-!
Register access (00, 01; R5, R10, R12, R13): what a refused write and a register read leave in the registers and in the latches.
-/

namespace Sys2Proof.Machine

/-! ### Counters and the peat log change their own registers alone (R10, R287) -/

/-- The registers that logging an event can change: the counters of the peat log and their SAT bits. -/
def logCounters : List Nat := [PL_FILTERED, PL_SAT] ++ (List.range 8).map PL_DROP

theorem PL_DROP_mem_logCounters {v : Nat} (h : v < 8) : PL_DROP v ∈ logCounters :=
  List.mem_append_right _ (List.mem_map.mpr ⟨v, List.mem_range.mpr h, rfl⟩)

/-- One count leaves every register but the counter and the one with its SAT bit. -/
theorem State.countRaw_reg_other (s : State) {c : Cnt} {o : Nat} (h : o ≠ c.off) (h' : o ≠ c.sat.off) :
    (s.countRaw c).reg o = s.reg o := by
  have hw := State.reg_setWord_other (s := s) (s.word c.off + 1) h
  simp only [State.countRaw]
  split
  · rfl
  · split
    · exact (State.reg_put_other 1 h').trans hw
    · exact hw

/-- An occurrence dropped changes its drop counter alone. -/
theorem State.dropCounted_reg_other (s : State) {v o : Nat} (hv : v < 8) (ho : o ∉ logCounters) :
    (s.dropCounted v).reg o = s.reg o :=
  s.countRaw_reg_other (c := plDrop v) (fun h => ho (h ▸ PL_DROP_mem_logCounters hv))
    (fun h => ho (h ▸ (by decide : PL_SAT ∈ logCounters)))

/-- An occurrence queued, filtered or dropped changes no register but the counters of the peat log. -/
theorem State.enqueue_reg_other {o : Nat} (ho : o ∉ logCounters) (n : Nat) :
    ∀ (e : Occurrence) (s : State), e.sev < 8 → (State.enqueue n e s).reg o = s.reg o := by
  induction n with
  | zero => exact fun _ _ _ => rfl
  | succ n ih =>
    intro e s he
    have filtered : (s.countRaw plFiltered).reg o = s.reg o :=
      s.countRaw_reg_other (fun h => ho (h ▸ (by decide : PL_FILTERED ∈ logCounters)))
        (fun h => ho (h ▸ (by decide : PL_SAT ∈ logCounters)))
    have dropped := s.dropCounted_reg_other he ho
    have info : ∀ t : State, (State.enqueue n (t.occurrence EV_PL_CNT_SAT sevInfo 0xff e.sev 0) t).reg o = t.reg o :=
      fun t => ih _ t (show sevInfo < 8 by decide)
    have warned : ∀ t : State,
        (State.enqueue n (t.occurrence EV_PL_DROP sevWarning e.sev e.sev 0) (t.dropNoted e.sev)).reg o = t.reg o :=
      fun t => ih _ (t.dropNoted e.sev) (show sevWarning < 8 by decide)
    simp only [State.enqueue]
    split
    · split
      · exact (ih _ _ (show sevInfo < 8 by decide)).trans filtered
      · exact filtered
    · split
      · rfl
      · split
        · rfl
        · split <;> split <;> simp only [warned, info, dropped]

/-- A count leaves every register but the counter, the one with its SAT bit, and the counters of the peat log. -/
theorem State.count_reg_other (s : State) {c : Cnt} {o : Nat} (h : o ≠ c.off) (h' : o ≠ c.sat.off) (ho : o ∉ logCounters) :
    (s.count c).reg o = s.reg o := by
  have hc := s.countRaw_reg_other h h'
  simp only [State.count, State.log]
  split
  · exact (State.enqueue_reg_other ho 3 _ _ (show sevInfo < 8 by decide)).trans hc
  · exact hc

/-- One count adds one to its counter, which stays at its greatest value (R10). -/
theorem State.countRaw_word {s : State} (hs : Store.wf resetWord s.regs = true) {c : Cnt} (hsat : c.off ≠ c.sat.off) :
    (s.countRaw c).word c.off = min (s.word c.off + 1) 0xffffffff := by
  have hlt : s.word c.off < 2 ^ 32 := (s.reg c.off).isLt
  have hset : s.word c.off ≠ 0xffffffff →
      (s.setWord c.off (s.word c.off + 1)).word c.off = min (s.word c.off + 1) 0xffffffff := by
    intro hv
    rw [State.word_setWord_same hs]
    omega
  simp only [State.countRaw]
  split
  · omega
  · rename_i hv
    split
    · have hput := State.reg_put_other (s := s.setWord c.off (s.word c.off + 1)) (f := c.sat) 1 hsat
      rw [State.word, hput]
      exact hset hv
    · exact hset hv

/-- A count, with the event of a counter that saturates, adds one to its counter up to its greatest value (R10). -/
theorem State.count_word {s : State} (hs : Store.wf resetWord s.regs = true) {c : Cnt} (hsat : c.off ≠ c.sat.off)
    (ho : c.off ∉ logCounters) : (s.count c).word c.off = min (s.word c.off + 1) 0xffffffff := by
  have hc := State.countRaw_word hs hsat
  simp only [State.count, State.log]
  split
  · rw [State.word, State.enqueue_reg_other ho 3 _ _ (show sevInfo < 8 by decide)]
    exact hc
  · exact hc

/-! ### A refused write recorded (R5, R398) -/

/-- The registers that record a refused write. -/
def refusalRecords : List Nat := [IG_CFG_REJ, IG_STATUS, IG_CFG_REJ_ADDR, IG_CFG_REJ_INFO] ++ logCounters

/-- Recording a refused write leaves every register but those that record it. -/
theorem State.refuse_reg_other (s : State) (m : Master) (space off reason : Nat) {o : Nat} (ho : o ∉ refusalRecords) :
    (s.refuse m space off reason).reg o = s.reg o := by
  simp only [refusalRecords, List.mem_append, List.mem_cons, List.not_mem_nil, or_false, not_or] at ho
  obtain ⟨⟨hrej, hstatus, haddr, hinfo⟩, hlog⟩ := ho
  rw [State.refuse, State.reg_put_other (f := IG_CFG_REJ_INFO_MASTER) _ hinfo,
    State.reg_put_other (f := IG_CFG_REJ_INFO_REASON) _ hinfo, State.reg_put_other (f := IG_CFG_REJ_ADDR_OFFSET) _ haddr,
    State.reg_put_other (f := IG_CFG_REJ_ADDR_SPACE) _ haddr]
  exact s.count_reg_other (c := cfgRej) hrej hstatus hlog

/-- A refused write is counted in IG_CFG_REJ, which stays at its greatest value (R5, R10). -/
theorem State.refuse_word_rej {s : State} (hs : Store.wf resetWord s.regs = true) (m : Master) (space off reason : Nat) :
    (s.refuse m space off reason).word IG_CFG_REJ = min (s.word IG_CFG_REJ + 1) 0xffffffff := by
  rw [State.word, State.refuse, State.reg_put_other (f := IG_CFG_REJ_INFO_MASTER) _ (by decide),
    State.reg_put_other (f := IG_CFG_REJ_INFO_REASON) _ (by decide), State.reg_put_other (f := IG_CFG_REJ_ADDR_OFFSET) _ (by decide),
    State.reg_put_other (f := IG_CFG_REJ_ADDR_SPACE) _ (by decide)]
  exact State.count_word (c := cfgRej) hs (by decide) (by decide)

/-- A refused write's address is captured, its space in 4 bits and its offset in 28 (R5, R398). -/
theorem State.refuse_addr {s : State} (hs : s.canonical = true) (m : Master) (space off reason : Nat) :
    (s.refuse m space off reason).get IG_CFG_REJ_ADDR_SPACE = space % 2 ^ 4 ∧
    (s.refuse m space off reason).get IG_CFG_REJ_ADDR_OFFSET = off % 2 ^ 28 := by
  have hcount := State.canonical_regs ((s.count_frame cfgRej).canon hs)
  have hspace := State.put_wf hcount IG_CFG_REJ_ADDR_SPACE space
  have info : ∀ f : Fld, f.off = IG_CFG_REJ_ADDR → (s.refuse m space off reason).get f =
      (((s.count cfgRej).put IG_CFG_REJ_ADDR_SPACE space).put IG_CFG_REJ_ADDR_OFFSET off).get f := by
    intro f hf
    rw [State.refuse, State.get_put_other (f := IG_CFG_REJ_INFO_MASTER) _ (by rw [hf]; decide),
      State.get_put_other (f := IG_CFG_REJ_INFO_REASON) _ (by rw [hf]; decide)]
  constructor
  · rw [info _ rfl, State.get_put_apart hspace (by decide) (by decide) (by decide) (.inl (by decide)),
      State.get_put_same hcount (by decide) (by decide)]
    rfl
  · rw [info _ rfl, State.get_put_same hspace (by decide) (by decide)]
    rfl

/-! ### Registers with a stated range (R5) -/

/-- A field that no write puts outside its range: read-only, or one whose every code may be written. -/
def FieldSpec.takesAny (f : FieldSpec) : Bool :=
  f.acc == .ro || (!f.signed && decide (f.min ≤ 0) && decide (2 ^ (f.hi + 1 - f.lo) - 1 ≤ f.max))

/-- A row that no write puts outside a range. -/
def RegSpec.takesAny (r : RegSpec) : Bool := r.fields.all FieldSpec.takesAny

theorem FieldSpec.inRange_of_takesAny {f : FieldSpec} (h : f.takesAny = true) (w : Word) : f.inRange w = true := by
  simp only [FieldSpec.takesAny, Bool.or_eq_true, Bool.and_eq_true, Bool.not_eq_true', decide_eq_true_eq] at h
  rcases h with hro | ⟨⟨hu, hmin⟩, hmax⟩
  · simp [FieldSpec.inRange, hro]
  · have hlt : ((w.field f.hi f.lo : Nat) : Int) < 2 ^ (f.hi + 1 - f.lo) := by exact_mod_cast Word.field_lt w f.hi f.lo
    simp only [FieldSpec.inRange, hu, Bool.or_eq_true, Bool.and_eq_true, decide_eq_true_eq, Bool.false_eq_true, if_false]
    exact .inr ⟨by omega, by omega⟩

/-- A row that a write puts outside a range has a field with a stated range. -/
theorem RegSpec.takesAny_eq_false {r : RegSpec} {w : Word} (h : (r.fields.any fun f => !f.inRange w) = true) :
    r.takesAny = false := by
  obtain ⟨f, hf, hout⟩ := List.any_eq_true.mp h
  by_contra hall
  have hin := FieldSpec.inRange_of_takesAny (List.all_eq_true.mp (Bool.not_eq_false _ ▸ hall) f hf) w
  simp [hin] at hout

/-- The row found for an offset stands in the table searched. -/
theorem mem_of_findReg {rs : List RegSpec} {off : Nat} {r : RegSpec} {ix : List Nat} (h : findReg rs off = some (r, ix)) : r ∈ rs := by
  induction rs with
  | nil => simp [findReg] at h
  | cons q rs ih =>
    simp only [findReg] at h
    split at h
    · simp only [Option.some.injEq, Prod.mk.injEq] at h
      simp [h.1]
    · exact List.mem_cons_of_mem _ (ih h)

/-- BAR0 has registers in its first 64 windows alone. -/
theorem tableOf_beyond {w : Nat} (h : 64 ≤ w) : tableOf w = [] := by
  unfold tableOf
  split <;> simp at h ⊢

/-- A register lies below the end of BAR0. -/
theorem lookup_lt {off : Nat} {r : RegSpec} {ix : List Nat} (h : lookup off = some (r, ix)) : off < 0x400000 := by
  by_contra hge
  rw [lookup, tableOf_beyond (by omega)] at h
  cases h

/-- The rows whose refused writes act on registers of their block, whatever the layout (R117, R133, R303): converters, coefficients and
doorbells. -/
def refusalActs : List Nat := [0x140100, 0x150010, 0x390000, 0x390004, 0x390080]

/-- No such row has a field with a stated range. -/
theorem base_not_mem_refusalActs {off : Nat} {r : RegSpec} {ix : List Nat} (hl : lookup off = some (r, ix))
    (hr : r.takesAny = false) : r.base ∉ refusalActs := by
  have rows : ∀ w < 64, ∀ q ∈ tableOf w, q.takesAny = false → q.base ∉ refusalActs := by decide +kernel
  have hlt := lookup_lt hl
  exact rows (off / 0x10000) (by omega) r (mem_of_findReg hl) hr

/-- The registers that a refused write of a row with a stated range can change. -/
def rangeRecords : List Nat := refusalRecords ++ [AE_STATUS, AE_LAYOUT_SLOT]

/-- No register of those has a field with a stated range. -/
theorem not_mem_rangeRecords {off : Nat} {r : RegSpec} {ix : List Nat} (hl : lookup off = some (r, ix))
    (hr : r.takesAny = false) : off ∉ rangeRecords := by
  have rows : ∀ o ∈ rangeRecords, ((lookup o).all fun e => e.1.takesAny) = true := by decide +kernel
  intro ho
  have := rows off ho
  simp [hl, hr] at this

/-! ### What a refused write does beside being recorded -/

/-- A refused layout shows in AE_STATUS and AE_LAYOUT_SLOT alone (R167). -/
theorem State.layoutShown_reg_other (s : State) (fault : Option Nat) {o : Nat} (h : o ≠ AE_STATUS) (h' : o ≠ AE_LAYOUT_SLOT) :
    (s.layoutShown fault).reg o = s.reg o := by
  cases fault with
  | none => rfl
  | some n => exact (State.reg_put_other (f := AE_LAYOUT_SLOT_SLOT) n h').trans (State.reg_put_other (f := AE_STATUS_LAYOUT_ERR) 1 h)

/-- A refused write of a row outside `refusalActs` shows at most a refused layout. -/
theorem State.refusedEffects_eq (s : State) (layout : Option Nat) {base : Nat} (ix : List Nat) (w : Word) (h : base ∉ refusalActs) :
    s.refusedEffects layout base ix w = s.layoutShown layout := by
  simp only [refusalActs, List.mem_cons, List.not_mem_nil, or_false, not_or] at h
  obtain ⟨h1, h2, h3, h4, h5⟩ := h
  have hhost : hostRefused base ix s = s := by
    unfold hostRefused
    split
    · exact absurd rfl h3
    · exact absurd rfl h4
    · exact absurd rfl h5
    · rfl
  have hafe : analogueRefused base ix w s = s := by
    unfold analogueRefused
    split
    · exact absurd rfl h1
    · exact absurd rfl h2
    · rfl
  rw [State.refusedEffects, hhost, hafe]

/-- A write outside a stated range is refused for its range, whatever else would refuse it (R5, R10). -/
theorem State.refusal_range (s : State) {m : Master} {r : RegSpec} {ix : List Nat} {off : Nat} {w : Word}
    (hsat : (satOf r.base ix).isNone = true) (hpair : ¬ (m = .host ∧ s.followsPrimary = true ∧ follows r.base off ix = true))
    (hout : (r.fields.any fun f => !f.inRange w) = true) : s.refusal m r ix off w = some reasonRange := by
  have hs : (satOf r.base ix).isSome = false := by simpa using hsat
  rw [State.refusal, if_neg hpair, State.checkWrite, if_neg (by simp [hs]), if_pos hout]

/-- What a write does that the rules refuse. -/
theorem State.busWrite_refused {s : State} {m : Master} {off v k : Nat} {r : RegSpec} {ix : List Nat} (ha : off % 4 = 0)
    (hans : s.answers off = true) (hreach : s.reaches m off = true) (hl : lookup off = some (r, ix))
    (hk : s.refusal m r ix off (BitVec.ofNat 32 v) = some k) :
    s.busWrite m off 4 v =
      (s.refuse m 0 off k).refusedEffects (s.ahead.layoutRefused r.base (BitVec.ofNat 32 v)) r.base ix (BitVec.ofNat 32 v) := by
  simp [State.busWrite, coreTraps_aligned (m := m) (width := 4) ha, ha, hans, hreach, hl, hk]

/-! ### Latches (R13) -/

section Latches

variable (s : State) (m : Master)

@[simp] theorem State.dropLatch_regs (off : Nat) : (s.dropLatch m off).regs = s.regs := rfl
@[simp] theorem State.dropLatch_out (off : Nat) : (s.dropLatch m off).out = s.out := rfl
@[simp] theorem State.emit_latchOf (o : Output) (off : Nat) : (s.emit o).latchOf m off = s.latchOf m off := rfl

/-- A latch used up is gone; every other stays. -/
theorem State.latchOf_dropLatch (m' : Master) (off q : Nat) :
    (s.dropLatch m off).latchOf m' q = if m' = m ∧ q = off then none else s.latchOf m' q := by
  simp only [State.latchOf, State.dropLatch, List.find?_filter]
  split
  · next h =>
    obtain ⟨rfl, rfl⟩ := h
    exact Option.map_eq_none_iff.mpr (List.find?_eq_none.mpr fun l _ => by
      cases (l.master == m' && l.off == q) <;> simp)
  · next h =>
    congr 2
    funext l
    by_cases hl : l.master = m' ∧ l.off = q
    · obtain ⟨rfl, rfl⟩ := hl
      have : (l.master == m && l.off == off) = false := by simpa using h
      simp [this]
    · have : (l.master == m' && l.off == q) = false := by simpa using hl
      simp [this]

/-- A latch set holds its value; every other stays. -/
theorem State.latchOf_setLatch (m' : Master) (off v q : Nat) :
    (s.setLatch m off v).latchOf m' q = if m' = m ∧ q = off then some (BitVec.ofNat 32 v) else s.latchOf m' q := by
  have hdrop := s.latchOf_dropLatch m m' off q
  simp only [State.latchOf] at hdrop ⊢
  simp only [State.setLatch, List.find?_append, Option.map_or, hdrop]
  split
  · next h =>
    obtain ⟨rfl, rfl⟩ := h
    simp
  · next h =>
    have : (m == m' && off == q) = false := by
      simpa using fun (hm : m = m') (ho : off = q) => h ⟨hm.symm, ho.symm⟩
    simp [this]

/-- The partners of a register latched for a master, as the registers stand (R12, R13). -/
def State.latchAll (s : State) (m : Master) (ps : List Nat) : State := ps.foldl (fun t p => t.setLatch m p (s.readWord p)) s

/-- Latches set one after the other hold their values; every other stays. -/
theorem latchOf_foldl_setLatch (f : Nat → Nat) (m' : Master) (q : Nat) (ps : List Nat) : ∀ t : State,
    (ps.foldl (fun t p => t.setLatch m p (f p)) t).latchOf m' q =
      if m' = m ∧ q ∈ ps then some (BitVec.ofNat 32 (f q)) else t.latchOf m' q := by
  induction ps with
  | nil => simp
  | cons p ps ih =>
    intro t
    rw [List.foldl_cons, ih, State.latchOf_setLatch]
    by_cases hm : m' = m
    · by_cases hq : q = p
      · simp [hm, hq]
      · simp [hm, hq]
    · simp [hm]

theorem State.latchOf_latchAll (m' : Master) (ps : List Nat) (q : Nat) :
    (s.latchAll m ps).latchOf m' q = if m' = m ∧ q ∈ ps then some (BitVec.ofNat 32 (s.readWord q)) else s.latchOf m' q :=
  latchOf_foldl_setLatch m s.readWord m' q ps s

theorem State.latchAll_frame (ps : List Nat) : Frame 0x4 s (s.latchAll m ps) :=
  (Frame.refl _ s).foldl fun u p hu => hu.step (u.setLatch_frame m p (s.readWord p)) rfl

end Latches

/-! ### Register reads (R12, R13) -/

/-- What a read does to FC_COEF_SEL: one of FC_COEF_DATA moves its tap on, any other leaves it (R133). -/
def State.coefRead (s : State) (r : RegSpec) (ix : List Nat) : State := if r.base = FC_COEF_DATA 0 then s.coefStep (ix.headD 0) else s

/-- A read of a partner that no latch serves: TORN_READ set and counted (R12). -/
def State.tornRead (s : State) (off : Nat) : State :=
  s.when (latchedBy off).isSome fun s => (s.put IG_STATUS_TORN_READ 1).count (igCnt 9)

theorem State.coefRead_frame (s : State) (r : RegSpec) (ix : List Nat) : Frame 0x1 s (s.coefRead r ix) :=
  Frame.ite (fun _ => s.coefStep_frame _) fun _ => Frame.refl _ s

theorem State.coefRead_latchOf (s : State) (r : RegSpec) (ix : List Nat) (m : Master) (off : Nat) :
    (s.coefRead r ix).latchOf m off = s.latchOf m off := by
  rw [State.latchOf, (s.coefRead_frame r ix).latches rfl, State.latchOf]

theorem State.coefRead_other (s : State) {r : RegSpec} (ix : List Nat) (h : r.base ≠ FC_COEF_DATA 0) : s.coefRead r ix = s := if_neg h

theorem State.tornRead_frame (s : State) (off : Nat) : Frame 0x81 s (s.tornRead off) :=
  (Frame.refl _ s).when fun u hu => (hu.step (u.put_frame _ _) rfl).step (State.count_frame _ _) rfl

theorem State.tornRead_unlatched (s : State) {off : Nat} (h : latchedBy off = none) : s.tornRead off = s := by
  simp [State.tornRead, State.when, h]

/-- A torn read shows in IG_STATUS: its count leaves that register alone (R12, R398). -/
theorem State.tornRead_flag {s : State} (hs : s.canonical = true) {off : Nat} (h : (latchedBy off).isSome = true) :
    (s.tornRead off).flag IG_STATUS_TORN_READ = true := by
  have hput := State.get_put_same (State.canonical_regs hs) (f := IG_STATUS_TORN_READ) (by decide) (by decide) 1
  have hcount := (s.put IG_STATUS_TORN_READ 1).count_reg_other (c := igCnt 9) (o := IG_STATUS) (by decide) (by decide) (by decide)
  rw [State.tornRead, State.when, if_pos h, State.flag, State.get, show IG_STATUS_TORN_READ.off = IG_STATUS from rfl, hcount]
  exact beq_iff_eq.mpr hput

section Reads

variable {s : State} {m : Master} {off : Nat} {r : RegSpec} {ix : List Nat} (ha : off % 4 = 0) (hans : s.answers off = true)
  (hreach : s.reaches m off = true) (hl : lookup off = some (r, ix))

include ha hans hreach hl

/-- A read that a latch of the reader serves returns the latch and uses it up (R12). -/
theorem State.busRead_latched {w : Word} (hw : s.latchOf m off = some w) :
    s.busRead m off = (w.toNat, (s.coefRead r ix).dropLatch m off) := by
  have hlatch := (s.coefRead_latchOf r ix m off).trans hw
  have hgo : ¬ (off % 4 ≠ 0 ∨ (!s.answers off) = true ∨ (!s.reaches m off) = true) := by simp [ha, hans, hreach]
  rw [State.coefRead] at hlatch
  simp only [State.busRead, if_neg hgo, hl, hlatch, State.coefRead]

/-- A read that no latch serves returns the live value and latches the partners of the register (R12). -/
theorem State.busRead_live (hw : s.latchOf m off = none) :
    s.busRead m off = (s.readWord off, ((s.coefRead r ix).tornRead off).latchAll m (latchPartners off)) := by
  have hlatch := (s.coefRead_latchOf r ix m off).trans hw
  have hgo : ¬ (off % 4 ≠ 0 ∨ (!s.answers off) = true ∨ (!s.reaches m off) = true) := by simp [ha, hans, hreach]
  rw [State.coefRead] at hlatch
  simp only [State.busRead, if_neg hgo, hl, hlatch, State.coefRead, State.tornRead, State.latchAll]

omit hans hreach

/-- A read of a register other than SC_CORE_CLAIM is the bus's, and its value goes out to the reader. -/
theorem State.readAny_eq (hc : r.base ≠ SC_CORE_CLAIM 0) :
    s.readAny m off 4 = (s.busRead m off).2.emit (.readData m off (BitVec.ofNat 32 (s.busRead m off).1)) := by
  simp [State.readAny, State.readOut, coreTraps_aligned (m := m) (width := 4) ha, hl, hc]

end Reads

/-! ### The commands -/

/-- A register write in the core domain answers with what the bus makes of it. -/
theorem runs_registerWrite {s : State} {m : Master} {off width v : Nat} {P : State → Prop} (hon : s.coreOn = true)
    (h : P (s.busWrite m off width v)) : Runs (.registerWrite m off width v) s P :=
  ⟨_, onCore_next (i := .registerWrite m off width v) (f := fun s => s.busWrite m off width v) rfl hon, h⟩

/-- A latching read in the core domain answers with what the read leaves. -/
theorem runs_latchRead {s : State} {m : Master} {off width : Nat} {P : State → Prop} (hon : s.coreOn = true) (ho : off < 0x400000)
    (h : P (s.readAny m off width)) : Runs (.latchRead m off width) s P :=
  ⟨_, onCore_next (i := .latchRead m off width) (f := fun s => s.readAny m off width) (decide_eq_true ho) hon, h⟩

/-- A read of a partner in the core domain answers with what the read leaves. -/
theorem runs_partnerRead {s : State} {m : Master} {off width : Nat} {P : State → Prop} (hon : s.coreOn = true) (ho : off < 0x400000)
    (h : P (s.readAny m off width)) : Runs (.partnerRead m off width) s P :=
  ⟨_, onCore_next (i := .partnerRead m off width) (f := fun s => s.readAny m off width) (decide_eq_true ho) hon, h⟩

/-! ### The statements settled -/

/-- Settles O11. The write is refused for its range before any block's own rule is asked. A refusal changes only the registers of
`rangeRecords`, none of which has a field with a stated range: so the register written is not among them. -/
theorem rangeRefused : Obligations.RangeRefused := by
  intro s m off v r ix hs hon ha hans hreach hl hsat hpair hout
  have hr := RegSpec.takesAny_eq_false hout
  have hwrite := State.busWrite_refused ha hans hreach hl (s.refusal_range hsat hpair hout)
  rw [State.refusedEffects_eq _ _ _ _ (base_not_mem_refusalActs hl hr)] at hwrite
  refine runs_registerWrite hon ?_
  rw [hwrite]
  generalize s.ahead.layoutRefused r.base (BitVec.ofNat 32 v) = layout
  have shown : ∀ {o : Nat}, o ≠ AE_STATUS → o ≠ AE_LAYOUT_SLOT →
      ((s.refuse m 0 off reasonRange).layoutShown layout).reg o = (s.refuse m 0 off reasonRange).reg o :=
    fun h h' => State.layoutShown_reg_other _ layout h h'
  have haddr := State.refuse_addr hs m 0 off reasonRange
  have hfree := not_mem_rangeRecords hl hr
  simp only [rangeRecords, List.mem_append, List.mem_cons, List.not_mem_nil, or_false, not_or] at hfree
  obtain ⟨hrec, hstatus, hslot⟩ := hfree
  refine ⟨?_, ?_, ?_, ?_⟩
  · rw [shown hstatus hslot, s.refuse_reg_other m 0 off reasonRange hrec]
  · rw [State.word, shown (by decide) (by decide)]
    exact State.refuse_word_rej (State.canonical_regs hs) m 0 off reasonRange
  · rw [State.get, shown (by decide) (by decide)]
    exact haddr.1
  · have hlt := lookup_lt hl
    rw [State.get, shown (by decide) (by decide)]
    exact haddr.2.trans (Nat.mod_eq_of_lt (by omega))

/-- Settles O14, clause by clause: a read that no latch serves latches the partners for the reader, one that a latch serves drops that latch
alone, and one of a partner without a latch sets TORN_READ, which its own count leaves as it is. -/
theorem latchesPerMaster : Obligations.LatchesPerMaster := by
  refine ⟨?latching, ?partner, ?torn⟩
  case latching =>
    intro s m off p r ix hon ho ha hans hreach hl hclaim hcoef hp hfree hnone
    have hread := State.busRead_live ha hans hreach hl hnone
    rw [State.coefRead_other s ix hcoef, State.tornRead_unlatched s hfree] at hread
    refine runs_latchRead hon ho ?_
    rw [State.readAny_eq ha hl hclaim, hread]
    have hframe := s.latchAll_frame m (latchPartners off)
    refine ⟨?_, ?_, hframe.regs rfl, fun m' q hm => ?_⟩
    · simp [State.latchOf_latchAll, hp]
    · rw [State.emit_out, hframe.out rfl]
    · simp [State.latchOf_latchAll, hm]
  case partner =>
    intro s m off w r ix hon ho ha hans hreach hl hclaim hcoef hw
    have hread := State.busRead_latched ha hans hreach hl hw
    rw [State.coefRead_other s ix hcoef] at hread
    refine runs_partnerRead hon ho ?_
    rw [State.readAny_eq ha hl hclaim, hread]
    refine ⟨?_, ?_, ?_, fun m' q hm => ?_⟩
    · simp [State.latchOf_dropLatch]
    · simp
    · simp
    · simp [State.latchOf_dropLatch, hm]
  case torn =>
    intro s m off r ix hs hon ho ha hans hreach hl hclaim hby hnone
    have hcoef := s.coefRead_frame r ix
    have htorn := (s.coefRead r ix).tornRead_frame off
    have hall := ((s.coefRead r ix).tornRead off).latchAll_frame m (latchPartners off)
    refine runs_partnerRead hon ho ?_
    rw [State.readAny_eq ha hl hclaim, State.busRead_live ha hans hreach hl hnone]
    refine ⟨?_, ?_⟩
    · have hflag := State.tornRead_flag (hcoef.canon hs) hby
      rw [State.flag, State.emit_get, State.get, State.reg, hall.regs rfl]
      exact hflag
    · rw [State.emit_out, hall.out rfl, htorn.out rfl, hcoef.out rfl]

end Sys2Proof.Machine
end

section
/-!
Accesses that the device turns away (01; R25, R29, R34): an undecoded address, a GL_RESET write that is refused, and an OP_SET during a
switch.
-/

namespace Sys2Proof.Machine

/-! ### What a decode miss captures (R29) -/

/-- A 64-bit value written into two registers reads back modulo 2⁶⁴. -/
theorem State.pair_setPair {s : State} (hs : Store.wf resetWord s.regs = true) {lo hi : Nat} (h : lo ≠ hi) (v : Nat) :
    (s.setPair lo hi v).pair lo hi = v % 2 ^ 64 := by
  have hlow : Store.wf resetWord (s.setWord lo (v % 2 ^ 32)).regs = true := State.setReg_wf hs _ _
  have hword : (s.setPair lo hi v).word lo = v % 2 ^ 32 := by
    rw [State.word, State.setPair, State.reg_setWord_other _ h]
    exact (State.word_setWord_same hs lo _).trans (Nat.mod_mod _ _)
  rw [State.pair, hword, State.setPair, State.word_setWord_same hlow]
  omega

/-- Recording an IG fault leaves the registers of block IG between IG_STATUS and the fault table (R401). -/
theorem State.igFault_reg_other (s : State) (code cause : Nat) {o : Nat} (h : 0x3f0000 < o) (h' : o < 0x3f0100) :
    (s.igFault code cause).reg o = s.reg o := by
  have fired : ∀ t : State, (t.fire 217).reg o = t.reg o := fun t =>
    t.fire_keeps 217 o (by rw [show o / 0x10000 = 0x3f by omega]; decide)
  have hstatus : o ≠ IG_STATUS := by simp only [IG_STATUS]; omega
  have hfault : ∀ i, o ≠ IG_FAULT i := fun i => by simp only [IG_FAULT]; omega
  have hcause : ∀ i, o ≠ IG_FAULT_CAUSE i := fun i => by simp only [IG_FAULT_CAUSE]; omega
  simp only [State.igFault, fired]
  split
  case h_1 i _ =>
    split
    · rfl
    · exact State.reg_put_other (f := IG_FAULT_COUNT i) _ (hfault i)
  case h_2 =>
    split
    case h_1 i _ =>
      rw [State.bump, State.reg_put_other (f := IG_STATUS_OPEN) _ hstatus, State.reg_setWord_other _ (hcause i),
        State.reg_put_other (f := IG_FAULT_CODE i) _ (hfault i), State.reg_put_other (f := IG_FAULT_COUNT i) _ (hfault i),
        State.reg_put_other (f := IG_FAULT_OPEN i) _ (hfault i)]
    case h_2 => exact State.reg_put_other (f := IG_STATUS_FAULT_OVF) _ hstatus

/-- An event raised leaves those registers too: its log has counters of its own (R287). -/
theorem State.raise_reg_other (s : State) {sev : Nat} (code cause inst data : Nat) (hsev : sev < 8) {o : Nat} (h : 0x3f0000 < o)
    (h' : o < 0x3f0100) : (s.raise code sev cause inst data).reg o = s.reg o := by
  have hlog : (s.log code sev cause inst data).reg o = s.reg o :=
    s.log_keeps code cause inst data hsev o (by rw [show o / 0x10000 = 0x3f by omega]; decide)
  simp only [State.raise]
  split
  · exact (State.igFault_reg_other _ code cause h h').trans hlog
  · exact hlog

/-- The address of an undecoded access stands in IG_DECODE_ADDR: neither its count nor its fault overwrites it (R29). -/
theorem State.decodeMiss_pair {s : State} (hs : s.canonical = true) (addr : Nat) :
    (s.decodeMiss addr).pair IG_DECODE_ADDR_LO IG_DECODE_ADDR_HI = addr % 2 ^ 64 := by
  have kept : ∀ o, o = IG_DECODE_ADDR_LO ∨ o = IG_DECODE_ADDR_HI →
      (s.decodeMiss addr).reg o = (s.setPair IG_DECODE_ADDR_LO IG_DECODE_ADDR_HI addr).reg o := by
    rintro o (rfl | rfl)
    all_goals
      rw [State.decodeMiss, State.raise_reg_other _ _ _ _ _ (by decide) (by decide) (by decide)]
      exact State.count_reg_other _ (by decide) (by decide) (by decide)
  rw [← State.pair_setPair (State.canonical_regs hs) (lo := IG_DECODE_ADDR_LO) (hi := IG_DECODE_ADDR_HI) (by decide)]
  simp only [State.pair, State.word, kept _ (.inl rfl), kept _ (.inr rfl)]

/-- An access outside every target misses; a read of it answers zero (R29). -/
theorem State.access_unmapped (s : State) {m : Master} {addr : Nat} {bytes : List Byte} (write : Bool)
    (htrap : coreTraps m addr bytes.length = false) (hun : unmapped addr = true) :
    s.access m addr write bytes = if write then s.decodeMiss addr else (s.decodeMiss addr).emit (.readData m addr 0) := by
  cases write <;> simp [State.access, htrap, hun, State.when]

/-- An internal access in the core domain answers with what the access leaves. -/
theorem runs_internalAccess {s : State} {m : Master} {addr : Nat} {write : Bool} {bytes : List Byte} {P : State → Prop}
    (hon : s.coreOn = true) (hlen : 0 < bytes.length) (hend : addr + bytes.length ≤ 2 ^ 48) (h : P (s.access m addr write bytes)) :
    Runs (.internalAccess m addr write bytes) s P :=
  ⟨_, onCore_next (i := .internalAccess m addr write bytes) (f := fun s => s.access m addr write bytes)
    (by simp only [Instr.wf, Bool.and_eq_true, decide_eq_true_eq]; exact ⟨hlen, hend⟩) hon, h⟩

/-! ### Refused writes of GL_RESET (R34) -/

/-- The row of GL_RESET in the register table. -/
def glResetRow : RegSpec := ⟨0x1c, [], 0x0, .c, [⟨31, 16, .wo, false, 23063, 23063⟩, ⟨0, 0, .wo, false, 1, 1⟩]⟩

theorem lookup_glResetRow : lookup GL_RESET = some (glResetRow, []) := lookup_GL_RESET

/-- A field that takes one value alone. -/
theorem FieldSpec.inRange_exact (hi lo : Nat) (c : Int) (w : Word) :
    FieldSpec.inRange ⟨hi, lo, .wo, false, c, c⟩ w = decide ((w.field hi lo : Int) = c) := by
  rw [Bool.eq_iff_iff]
  simp only [FieldSpec.inRange, Bool.or_eq_true, Bool.and_eq_true, decide_eq_true_eq, beq_iff_eq, reduceCtorEq, false_or,
    Bool.false_eq_true, if_false]
  omega

/-- A value without the key, or with WARM at 0, lies outside the ranges of the row. -/
theorem glResetRow_outOfRange {v : Nat} (hv : v < 2 ^ 32) (h : v / 65536 ≠ 0x5a17 ∨ v % 2 = 0) :
    (glResetRow.fields.any fun f => !f.inRange (BitVec.ofNat 32 v)) = true := by
  have hkey : Word.field (BitVec.ofNat 32 v) 31 16 = v / 65536 := by
    rw [Word.field_ofNat 31 16 hv]
    omega
  have hwarm : Word.field (BitVec.ofNat 32 v) 0 0 = v % 2 := by
    rw [Word.field_ofNat 0 0 hv]
    omega
  simp only [glResetRow, List.any_cons, List.any_nil, FieldSpec.inRange_exact, hkey, hwarm, Bool.or_false, Bool.or_eq_true,
    Bool.not_eq_true', decide_eq_false_iff_not]
  omega

/-- A block that refuses a write refuses it whatever the other blocks say (R5). -/
theorem State.guards_isSome_of_roleGuard {s : State} {base : Nat} {ix : List Nat} {w : Word}
    (h : (roleGuard s base ix w).isSome = true) : (s.guards base ix w).isSome = true :=
  List.findSome?_isSome_iff.mpr ⟨roleGuard s base ix w, by simp, h⟩

/-- Before boot has ended every write of GL_RESET is refused by its block (R34). -/
theorem roleGuard_GL_RESET_before_boot {s : State} (h : s.flag GL_STATUS_BOOT_DONE = false) (ix : List Nat) (w : Word) :
    (roleGuard s 0x1c ix w).isSome = true := by
  simp only [roleGuard, h, Bool.false_eq_true, not_false_eq_true, true_or, if_true]
  split <;> rfl

/-- A GL_RESET write is refused for its value, whatever waits for a TICK, or before boot has ended (R34). -/
theorem State.refusal_GL_RESET {s : State} {m : Master} {v : Nat} (hv : v < 2 ^ 32)
    (h : v / 65536 ≠ 0x5a17 ∨ v % 2 = 0 ∨ (s.flag GL_STATUS_BOOT_DONE = false ∧ s.order.effects = [])) :
    ∃ k, s.refusal m glResetRow [] GL_RESET (BitVec.ofNat 32 v) = some k := by
  have hpair : ¬ (m = .host ∧ s.followsPrimary = true ∧ follows glResetRow.base GL_RESET [] = true) := fun hp =>
    absurd hp.2.2 (by decide)
  by_cases hvalue : v / 65536 ≠ 0x5a17 ∨ v % 2 = 0
  · exact ⟨_, s.refusal_range rfl hpair (glResetRow_outOfRange hv hvalue)⟩
  · obtain ⟨hboot, hnone⟩ : s.flag GL_STATUS_BOOT_DONE = false ∧ s.order.effects = [] := by tauto
    have hahead : s.ahead = s := by simp [State.ahead, hnone]
    have hguard := State.guards_isSome_of_roleGuard (roleGuard_GL_RESET_before_boot hboot [] (BitVec.ofNat 32 v))
    obtain ⟨k, hk⟩ := Option.isSome_iff_exists.mp hguard
    rw [State.refusal, if_neg hpair, hahead, State.checkWrite, if_neg (by decide)]
    split
    · exact ⟨_, rfl⟩
    · exact ⟨k, by simp only [glResetRow, hk]⟩

/-- A write of GL_RESET in the core domain answers with what the bus makes of it. -/
theorem runs_glReset {s : State} {m : Master} {v : Nat} {P : State → Prop} (hon : s.coreOn = true) (hv : v < 2 ^ 32)
    (h : P (s.busWrite m GL_RESET 4 v)) : Runs (.glReset m v) s P :=
  ⟨_, onCore_next (i := .glReset m v) (f := fun s => s.busWrite m GL_RESET 4 v) (decide_eq_true hv) hon, h⟩

/-! ### A final completion leaves the registers below the host interface (R299, R312) -/

section Completions

variable (s : State) {o : Nat} (ho : o < 0x390000)

include ho

theorem State.message_reg_below (v : Nat) : (s.message v).reg o = s.reg o := by
  simp only [State.message]
  split
  · rfl
  · split
    · exact State.reg_put_other (f := ⟨MSIX_PBA (v / 32), v % 32, v % 32⟩) 1 (by simp only [MSIX_PBA]; omega)
    · rfl

theorem State.signal_reg_below (src : Nat) (urgent : Bool) : (s.signal src urgent).reg o = s.reg o := by
  simp only [State.signal]
  split
  · rfl
  · split
    · exact State.message_reg_below _ ho _
    · rfl

theorem State.cqWrite_reg_below (c : Completion) : (s.cqWrite c).reg o = s.reg o := by
  have htail : ∀ q, o ≠ HI_CQ_TAIL q := fun q => by simp only [HI_CQ_TAIL]; omega
  simp only [State.cqWrite]
  rw [State.signal_reg_below _ ho]
  split
  · rw [State.reg_put_other (f := HI_CQ_TAIL_PHASE _) _ (htail _), State.reg_put_other (f := HI_CQ_TAIL_TAIL _) _ (htail _),
      State.emit_reg]
  · rw [State.reg_put_other (f := HI_CQ_TAIL_TAIL _) _ (htail _), State.emit_reg]

theorem State.ringDone_reg_below (q : Nat) : (s.ringDone q).reg o = s.reg o :=
  State.reg_put_other (f := HI_SQ_STAT_STATE q) _ (by simp only [HI_SQ_STAT_STATE, HI_SQ_STAT]; omega)

theorem State.complete_reg_below (c : Completion) : (s.complete c).reg o = s.reg o := by
  simp only [State.complete]
  split
  · rfl
  · split
    · rw [State.ringDone_reg_below _ ho, State.cqWrite_reg_below _ ho]
    · rfl

theorem State.finish_reg_below (h : CmdHeader) (op status detail res0 res1 : Nat) :
    (s.finish h op status detail res0 res1).reg o = s.reg o := s.complete_reg_below ho _

end Completions

/-! ### Commands that a ring has started (R308) -/

/-- A command that the checks of R308 let through has its effect. -/
theorem State.command_serves {s : State} {h : CmdHeader} {op : Nat} (hs : s.serves h op = true) (run : State → State) :
    s.command h op none none run = run s := by
  simp only [State.serves, Bool.and_eq_true, Bool.or_eq_true, Bool.not_eq_true', beq_iff_eq, decide_eq_true_eq,
    Option.isNone_iff_eq_none, Bool.and_eq_false_iff, beq_eq_false_iff_ne] at hs
  obtain ⟨⟨⟨⟨⟨⟨_, hstarted⟩, hreserved⟩, hprog⟩, hservice⟩, hstart⟩, hhold⟩ := hs
  have hprog' : ¬ (h.progEn = true ∧ h.progEvery = 0) := by grind
  have hservice' : ¬ (¬ s.flag GL_STATUS_SERVICE = true ∧ ¬ servedWithout op = true) := by tauto
  have hstart' : ¬ (h.startBy ≠ 0 ∧ h.startBy < s.time.tai) := by omega
  have hhold' : ¬ (s.holdup = true ∧ commits op = true) := by grind
  simp only [State.command, hstarted, hreserved, if_neg hprog', if_neg hservice', if_neg hstart', if_neg hhold', not_true_eq_false,
    if_false]

theorem State.coreOn_serves {s : State} {h : CmdHeader} {op : Nat} (hs : s.serves h op = true) : s.coreOn = true := by
  simp only [State.serves, Bool.and_eq_true] at hs
  exact hs.1.1.1.1.1.1

/-- An OP_SET of a point that exists, let through by the checks of R308, answers with its effect. -/
theorem runs_opSet {s : State} {h : CmdHeader} {point : Nat} {P : State → Prop} (hq : h.sq < 16) (hpoint : point < 3)
    (hs : s.serves h 0x82 = true) (hP : P (s.opSet h point)) : Runs (.opSet h point) s P := by
  have hfields : (if 2 < point then some 24 else none) = (none : Option Nat) := if_neg (by omega)
  refine ⟨_, onCore_next (i := .opSet h point)
    (f := fun s => s.command h 0x82 (if 2 < point then some 24 else none) none fun s => s.opSet h point)
    (decide_eq_true hq) (State.coreOn_serves hs), ?_⟩
  simpa only [hfields, State.command_serves hs] using hP

/-- An OP_SET during a switch does nothing but complete (R25). -/
theorem State.opSet_switching {s : State} (h : s.flag OP_STATUS_SWITCHING = true) (c : CmdHeader) (point : Nat) :
    s.opSet c point = s.finish c 0x82 stBusy := by
  simp [State.opSet, h]

/-! ### The statements settled -/

/-- Settles O15. The access is the decode miss, which changes no memory; its address stays captured, since the count and the fault it
raises have other registers. -/
theorem decodeMiss : Obligations.DecodeMiss := by
  intro s m addr write bytes hs hon hlen hend htrap hun
  refine runs_internalAccess hon hlen hend ?_
  rw [s.access_unmapped write htrap hun]
  have hpair : (s.decodeMiss addr).pair IG_DECODE_ADDR_LO IG_DECODE_ADDR_HI = addr :=
    (State.decodeMiss_pair hs addr).trans (Nat.mod_eq_of_lt (by omega))
  have hmem : (s.decodeMiss addr).mem = s.mem := (s.decodeMiss_frame addr).mem rfl
  cases write
  case false => exact ⟨rfl, hpair, hmem, rfl⟩
  case true => exact ⟨rfl, hpair, hmem, rfl⟩

/-- Settles O17. The range of KEY and WARM refuses a wrong value whatever waits for a TICK; before boot has ended the block's own rule
does. A refusal is recorded in block IG, and the layout it may show lies in block AE. -/
theorem resetKey : Obligations.ResetKey := by
  intro s m v hs hon hv hreach hbad
  obtain ⟨k, hk⟩ := State.refusal_GL_RESET (m := m) hv hbad
  have hans : s.answers GL_RESET = true := by simp [State.answers, GL_RESET]
  have hwrite := State.busWrite_refused (by decide) hans hreach lookup_glResetRow hk
  rw [State.refusedEffects_eq _ _ _ _ (by decide)] at hwrite
  refine runs_glReset hon hv ?_
  rw [hwrite]
  generalize s.ahead.layoutRefused glResetRow.base (BitVec.ofNat 32 v) = layout
  have shown : ∀ {o : Nat}, o ≠ AE_STATUS → o ≠ AE_LAYOUT_SLOT →
      ((s.refuse m 0 GL_RESET k).layoutShown layout).reg o = (s.refuse m 0 GL_RESET k).reg o :=
    fun h h' => State.layoutShown_reg_other _ layout h h'
  have hframe : Frame 0x81 s ((s.refuse m 0 GL_RESET k).layoutShown layout) :=
    (s.refuse_frame m 0 GL_RESET k).step (State.layoutShown_frame _ _) rfl
  obtain ⟨hspace, hoffset⟩ := State.refuse_addr hs m 0 GL_RESET k
  refine ⟨?_, ?_, ?_, hframe.power rfl, hframe.meter rfl⟩
  · rw [State.word, shown (by decide) (by decide)]
    exact State.refuse_word_rej (State.canonical_regs hs) m 0 GL_RESET k
  · rw [State.get, shown (by decide) (by decide)]
    exact hoffset
  · rw [State.get, shown (by decide) (by decide)]
    exact hspace

/-- Settles O18. The command completes and no more, and a completion changes neither the power state nor a register of the operating
point. -/
theorem opSetBusy : Obligations.OpSetBusy := by
  intro s h point hq hpoint hs hswitch
  refine runs_opSet hq hpoint hs ?_
  have hkept := s.finish_reg_below (o := OP_STATUS) (by decide) h 0x82 stBusy 0 0 0
  rw [State.opSet_switching hswitch]
  refine ⟨rfl, (s.finish_frame h 0x82 stBusy 0 0 0).power rfl, ?_, ?_⟩
  · exact congrArg (Word.field · OP_STATUS_POINT.hi OP_STATUS_POINT.lo) hkept
  · exact congrArg (Word.field · OP_STATUS_TARGET.hi OP_STATUS_TARGET.lo) hkept

end Sys2Proof.Machine
end

section
/-!
The calendar snapshot (02; R59): a read of CAL_SNAP_CMD latches the date and the time of the calendar for its reader.
-/

namespace Sys2Proof.Machine

/-! ### A read that latches (R12, R13) -/

/-- A read of a register that is no partner and that no latch serves changes the reader's latches alone, beside its answer: the partners
are latched as they stand, and the live value goes out (R12, R13). -/
theorem State.readOut_live {s : State} {m : Master} {off : Nat} {r : RegSpec} {ix : List Nat} (ha : off % 4 = 0)
    (hans : s.answers off = true) (hreach : s.reaches m off = true) (hl : lookup off = some (r, ix)) (hcoef : r.base ≠ FC_COEF_DATA 0)
    (hfree : latchedBy off = none) (hnone : s.latchOf m off = none) :
    s.readOut m off =
      (s.latchAll m (latchPartners off)).emit (.readData m off (BitVec.ofNat 32 (s.readWord off))) := by
  have hread := State.busRead_live ha hans hreach hl hnone
  rw [State.coefRead_other s ix hcoef, State.tornRead_unlatched s hfree] at hread
  simp [State.readOut, coreTraps_aligned (m := m) (width := 4) ha, hread]

/-! ### The registers of the snapshot (R59) -/

/-- The row of CAL_SNAP_CMD in the register table. -/
def calSnapRow : RegSpec := ⟨0x30020, [], 0, .p, [.all 31 31 .ro, .all 14 0 .ro]⟩

theorem lookup_calSnapRow : lookup CAL_SNAP_CMD = some (calSnapRow, []) := by decide +kernel

theorem latchPartners_CAL_SNAP_CMD : latchPartners CAL_SNAP_CMD = [CAL_SNAP_DATE, CAL_SNAP_TIME] := rfl

theorem latchedBy_CAL_SNAP_CMD : latchedBy CAL_SNAP_CMD = none := by decide

section Words

variable (s : State)

theorem State.readWord_CAL_SNAP_CMD : s.readWord CAL_SNAP_CMD = s.get CAL_CTRL_HALT * 2 ^ 31 + s.calTime / 2 ^ 17 := rfl
theorem State.readWord_CAL_SNAP_DATE : s.readWord CAL_SNAP_DATE = s.calDate := rfl
theorem State.readWord_CAL_SNAP_TIME : s.readWord CAL_SNAP_TIME = s.calTime := rfl

end Words

/-- What a read of CAL_SNAP_CMD does: date and time latched for the reader as the calendar stands, halt flag and ticks of the same state
sent out (R59). -/
theorem State.readOut_CAL_SNAP_CMD {s : State} {m : Master} (hboot : s.flag GL_STATUS_BOOT_DONE = true)
    (hreach : s.reaches m CAL_SNAP_CMD = true) (hnone : s.latchOf m CAL_SNAP_CMD = none) :
    s.readOut m CAL_SNAP_CMD =
      (s.latchAll m [CAL_SNAP_DATE, CAL_SNAP_TIME]).emit
        (.readData m CAL_SNAP_CMD (BitVec.ofNat 32 (s.get CAL_CTRL_HALT * 2 ^ 31 + s.calTime / 2 ^ 17))) := by
  have hans : s.answers CAL_SNAP_CMD = true := by simp [State.answers, hboot]
  rw [State.readOut_live (by decide) hans hreach lookup_calSnapRow (by decide) latchedBy_CAL_SNAP_CMD hnone,
    latchPartners_CAL_SNAP_CMD, State.readWord_CAL_SNAP_CMD]

/-- A calendar snapshot in the core domain answers with what the read leaves. -/
theorem runs_calSnapRead {s : State} {m : Master} {P : State → Prop} (hon : s.coreOn = true) (h : P (s.readOut m CAL_SNAP_CMD)) :
    Runs (.calSnapRead m) s P :=
  ⟨_, onCore_next (i := .calSnapRead m) (f := fun s => s.readOut m CAL_SNAP_CMD) rfl hon, h⟩

/-! ### The statement settled -/

/-- Settles O24. Both latches and the word sent out are values of the state the read finds, and setting latches changes no other part of
it. -/
theorem calendarSnapshot : Obligations.CalendarSnapshot := by
  intro s m hon hboot hreach hnone
  refine runs_calSnapRead hon ?_
  rw [State.readOut_CAL_SNAP_CMD hboot hreach hnone]
  have hframe := s.latchAll_frame m [CAL_SNAP_DATE, CAL_SNAP_TIME]
  refine ⟨?date, ?time, fun m' q hm => ?others, hframe.cal rfl, hframe.regs rfl, ?answer⟩
  case date => simp [State.latchOf_latchAll, State.readWord_CAL_SNAP_DATE]
  case time => simp [State.latchOf_latchAll, State.readWord_CAL_SNAP_TIME]
  case others => simp [State.latchOf_latchAll, hm]
  case answer => rw [State.emit_out, hframe.out rfl]

end Sys2Proof.Machine
end

section
/-!
What every command keeps, and which commands can change what (00, 01; R28 to R32, R405, R407): the queue, the canonical form, the audit
log, the monotonic count, device memory and the key store.
-/

set_option Elab.async false

namespace Sys2Proof.Machine

/-! ### What a command can change -/

/-- The parts of the state that a command can change, as masks of Laws/Frame.lean: all but device memory, the key store and the monotonic
count; these and the key store; all but the count; all. -/
abbrev eventReach : Nat := 0x3effffd
@[inherit_doc eventReach] abbrev keyReach : Nat := 0x3fffffd
@[inherit_doc eventReach] abbrev accessReach : Nat := 0x3ffffff
@[inherit_doc eventReach] abbrev resetReach : Nat := 0x7ffffff

/-- How far a command reaches, by the groups of Safety.lean. -/
def Instr.reach (c : Instr) : Nat :=
  if c.coldResets then resetReach else if c.writesMemory then accessReach else if c.touchesKeys then keyReach else eventReach

/-- Every command changes what lies within its reach alone, and keeps the queue, the canonical form and the audit log's entries. -/
theorem exec_frame {c : Instr} {s t : State} (h : exec c s = .next t) : Frame (Instr.reach c) s t := by
  cases c with
  | registerWrite => exact (execRegisterWrite_frame _ _ _ _ s t h).weaken (M := eventReach) rfl
  | statCounterClear => exact (execStatCounterClear_frame _ _ _ s t h).weaken (M := eventReach) rfl
  | latchRead => exact (execLatchRead_frame _ _ _ s t h).weaken (M := eventReach) rfl
  | partnerRead => exact (execPartnerRead_frame _ _ _ s t h).weaken (M := eventReach) rfl
  | internalAccess => exact (execInternalAccess_frame _ _ _ _ s t h).weaken (M := accessReach) rfl
  | mramLegalWrite => exact (execMramLegalWrite_frame _ _ _ s t h).weaken (M := accessReach) rfl
  | sluiceSelftest => exact (execSluiceSelftest_frame _ _ s t h).weaken (M := eventReach) rfl
  | opSet => exact (execOpSet_frame _ _ s t h).weaken (M := eventReach) rfl
  | tempUpdate => exact (execTempUpdate_frame _ s t h).weaken (M := eventReach) rfl
  | glReset => exact (execGlReset_frame _ _ s t h).weaken (M := eventReach) rfl
  | ptpMessageRx => exact (execPtpMessageRx_frame _ _ s t h).weaken (M := eventReach) rfl
  | announceTimeout => exact (execAnnounceTimeout_frame _ s t h).weaken (M := eventReach) rfl
  | syncTimeout => exact (execSyncTimeout_frame _ s t h).weaken (M := eventReach) rfl
  | ptpMasterTx => exact (execPtpMasterTx_frame _ _ s t h).weaken (M := eventReach) rfl
  | ppsInEdge => exact (execPpsInEdge_frame _ _ s t h).weaken (M := eventReach) rfl
  | todSentenceRx => exact (execTodSentenceRx_frame _ s t h).weaken (M := eventReach) rfl
  | timeAcquire => exact (execTimeAcquire_frame _ s t h).weaken (M := eventReach) rfl
  | timeStep => exact (execTimeStep_frame _ _ _ _ s t h).weaken (M := eventReach) rfl
  | calCommit => exact (execCalCommit_frame _ _ s t h).weaken (M := eventReach) rfl
  | calSnapRead => exact (execCalSnapRead_frame _ s t h).weaken (M := eventReach) rfl
  | calAlarm => exact (execCalAlarm_frame _ s t h).weaken (M := eventReach) rfl
  | trimStart => exact (execTrimStart_frame _ _ s t h).weaken (M := eventReach) rfl
  | ethFrameRx => exact (execEthFrameRx_frame _ _ s t h).weaken (M := eventReach) rfl
  | pauseHoldEnd => exact (execPauseHoldEnd_frame _ s t h).weaken (M := eventReach) rfl
  | txBegin => exact (execTxBegin_frame _ _ _ s t h).weaken (M := eventReach) rfl
  | phyLinkLoss => exact (execPhyLinkLoss_frame _ s t h).weaken (M := eventReach) rfl
  | linkDownReport => exact (execLinkDownReport_frame _ s t h).weaken (M := eventReach) rfl
  | linkUpReport => exact (execLinkUpReport_frame _ s t h).weaken (M := eventReach) rfl
  | rxSilenceExpire => exact (execRxSilenceExpire_frame _ s t h).weaken (M := eventReach) rfl
  | rxBadRateCheck => exact (execRxBadRateCheck_frame _ s t h).weaken (M := eventReach) rfl
  | txqStarve => exact (execTxqStarve_frame _ _ s t h).weaken (M := eventReach) rfl
  | pauseHighWm => exact (execPauseHighWm_frame _ _ s t h).weaken (M := eventReach) rfl
  | pauseRepeat => exact (execPauseRepeat_frame _ s t h).weaken (M := eventReach) rfl
  | pauseLowWm => exact (execPauseLowWm_frame _ _ s t h).weaken (M := eventReach) rfl
  | sampleBlockRx => exact (execSampleBlockRx_frame _ s t h).weaken (M := eventReach) rfl
  | descriptorRx => exact (execDescriptorRx_frame _ s t h).weaken (M := eventReach) rfl
  | svFrameRx => exact (execSvFrameRx_frame _ s t h).weaken (M := eventReach) rfl
  | gapPositionRelease => exact (execGapPositionRelease_frame _ s t h).weaken (M := eventReach) rfl
  | laneDeadlineMiss => exact (execLaneDeadlineMiss_frame _ s t h).weaken (M := eventReach) rfl
  | laneSilence => exact (execLaneSilence_frame _ s t h).weaken (M := eventReach) rfl
  | laneResync => exact (execLaneResync_frame _ _ _ s t h).weaken (M := eventReach) rfl
  | laneEnable => exact (execLaneEnable_frame _ _ _ s t h).weaken (M := eventReach) rfl
  | laneDisable => exact (execLaneDisable_frame _ _ _ s t h).weaken (M := eventReach) rfl
  | converterFrame => exact (execConverterFrame_frame _ s t h).weaken (M := eventReach) rfl
  | conversionEnd => exact (execConversionEnd_frame _ _ _ _ _ s t h).weaken (M := eventReach) rfl
  | injTimerTrigger => exact (execInjTimerTrigger_frame _ s t h).weaken (M := eventReach) rfl
  | injSoftTrigger => exact (execInjSoftTrigger_frame _ _ _ s t h).weaken (M := eventReach) rfl
  | chainOutput => exact (execChainOutput_frame _ s t h).weaken (M := eventReach) rfl
  | chainDeadlineMiss => exact (execChainDeadlineMiss_frame _ s t h).weaken (M := eventReach) rfl
  | fcSwap => exact (execFcSwap_frame _ _ _ s t h).weaken (M := eventReach) rfl
  | fcLoadFactory => exact (execFcLoadFactory_frame _ _ _ s t h).weaken (M := eventReach) rfl
  | fcCoefWrite => exact (execFcCoefWrite_frame _ _ _ s t h).weaken (M := eventReach) rfl
  | phasorEstimate => exact (execPhasorEstimate_frame _ s t h).weaken (M := eventReach) rfl
  | halfWindow => exact (execHalfWindow_frame _ _ s t h).weaken (M := eventReach) rfl
  | pmuDeadlineMiss => exact (execPmuDeadlineMiss_frame _ s t h).weaken (M := eventReach) rfl
  | halfCycleDeadlineMiss => exact (execHalfCycleDeadlineMiss_frame _ s t h).weaken (M := eventReach) rfl
  | osDeadlineMiss => exact (execOsDeadlineMiss_frame _ s t h).weaken (M := eventReach) rfl
  | osCmdDataOff => exact (execOsCmdDataOff_frame _ _ s t h).weaken (M := eventReach) rfl
  | osCmdDataOn => exact (execOsCmdDataOn_frame _ _ s t h).weaken (M := eventReach) rfl
  | osCmdHeader => exact (execOsCmdHeader_frame _ _ s t h).weaken (M := eventReach) rfl
  | osCmdCfg1 => exact (execOsCmdCfg1_frame _ _ s t h).weaken (M := eventReach) rfl
  | osCmdCfg2 => exact (execOsCmdCfg2_frame _ _ s t h).weaken (M := eventReach) rfl
  | osCmdCfg3 => exact (execOsCmdCfg3_frame _ _ s t h).weaken (M := eventReach) rfl
  | osCmdReject => exact (execOsCmdReject_frame _ _ _ s t h).weaken (M := eventReach) rfl
  | osConnect => exact (execOsConnect_frame _ _ s t h).weaken (M := eventReach) rfl
  | osTcpClose => exact (execOsTcpClose_frame _ s t h).weaken (M := eventReach) rfl
  | osTcpKeepalive => exact (execOsTcpKeepalive_frame _ _ s t h).weaken (M := eventReach) rfl
  | osCfg2Repeat => exact (execOsCfg2Repeat_frame _ s t h).weaken (M := eventReach) rfl
  | osEnable => exact (execOsEnable_frame _ _ _ s t h).weaken (M := eventReach) rfl
  | alignFrameRx => exact (execAlignFrameRx_frame _ s t h).weaken (M := eventReach) rfl
  | cfgFrameCheck => exact (execCfgFrameCheck_frame _ s t h).weaken (M := eventReach) rfl
  | bucketClose => exact (execBucketClose_frame _ s t h).weaken (M := eventReach) rfl
  | bucketDeadlineMiss => exact (execBucketDeadlineMiss_frame _ s t h).weaken (M := eventReach) rfl
  | slotStale => exact (execSlotStale_frame _ s t h).weaken (M := eventReach) rfl
  | slotEnable => exact (execSlotEnable_frame _ _ _ s t h).weaken (M := eventReach) rfl
  | alignEnable => exact (execAlignEnable_frame _ _ s t h).weaken (M := eventReach) rfl
  | alignDisable => exact (execAlignDisable_frame _ _ s t h).weaken (M := eventReach) rfl
  | fenQuery => exact (execFenQuery_frame _ _ _ _ _ _ _ _ s t h).weaken (M := eventReach) rfl
  | fenPin => exact (execFenPin_frame _ _ _ _ _ s t h).weaken (M := eventReach) rfl
  | fenUnpin => exact (execFenUnpin_frame _ _ _ _ _ s t h).weaken (M := eventReach) rfl
  | owSample => exact (execOwSample_frame _ _ s t h).weaken (M := eventReach) rfl
  | owModalUpdate => exact (execOwModalUpdate_frame _ s t h).weaken (M := accessReach) rfl
  | iwWaEval => exact (execIwWaEval_frame _ _ s t h).weaken (M := eventReach) rfl
  | iwLocalEval => exact (execIwLocalEval_frame _ s t h).weaken (M := eventReach) rfl
  | iwLearnEnd => exact (execIwLearnEnd_frame _ s t h).weaken (M := eventReach) rfl
  | locVsHoldEnd => exact (execLocVsHoldEnd_frame _ s t h).weaken (M := eventReach) rfl
  | ruleMinOnEnd => exact (execRuleMinOnEnd_frame _ s t h).weaken (M := eventReach) rfl
  | ruleClear => exact (execRuleClear_frame _ _ _ s t h).weaken (M := eventReach) rfl
  | iwClear => exact (execIwClear_frame _ _ _ s t h).weaken (M := eventReach) rfl
  | owEnable => exact (execOwEnable_frame _ _ _ s t h).weaken (M := eventReach) rfl
  | iwEnable => exact (execIwEnable_frame _ _ _ s t h).weaken (M := eventReach) rfl
  | iwDisable => exact (execIwDisable_frame _ _ _ s t h).weaken (M := eventReach) rfl
  | detectionDeadlineMiss => exact (execDetectionDeadlineMiss_frame _ _ s t h).weaken (M := eventReach) rfl
  | blockBook => exact (execBlockBook_frame _ _ _ s t h).weaken (M := eventReach) rfl
  | meBlockDeadlineMiss => exact (execMeBlockDeadlineMiss_frame _ s t h).weaken (M := eventReach) rfl
  | supplyTrip => exact (execSupplyTrip_frame _ s t h).weaken (M := eventReach) rfl
  | laneRecordClose => exact (execLaneRecordClose_frame _ _ _ s t h).weaken (M := eventReach) rfl
  | metrologyMode => exact (execMetrologyMode_frame _ _ s t h).weaken (M := eventReach) rfl
  | ledgerAck => exact (execLedgerAck_frame _ _ s t h).weaken (M := eventReach) rfl
  | ledgerResend => exact (execLedgerResend_frame _ _ s t h).weaken (M := eventReach) rfl
  | meterDisable => exact (execMeterDisable_frame _ _ _ s t h).weaken (M := eventReach) rfl
  | pulseEmit => exact (execPulseEmit_frame _ s t h).weaken (M := eventReach) rfl
  | pulseWidthEnd => exact (execPulseWidthEnd_frame _ s t h).weaken (M := eventReach) rfl
  | sentinelSample => exact (execSentinelSample_frame _ s t h).weaken (M := eventReach) rfl
  | tamperInput => exact (execTamperInput_frame _ _ s t h).weaken (M := eventReach) rfl
  | captureRow => exact (execCaptureRow_frame _ _ s t h).weaken (M := eventReach) rfl
  | captureHoldoffEnd => exact (execCaptureHoldoffEnd_frame _ s t h).weaken (M := eventReach) rfl
  | captureDeadlineMiss => exact (execCaptureDeadlineMiss_frame _ s t h).weaken (M := eventReach) rfl
  | cpArm => exact (execCpArm_frame _ _ _ s t h).weaken (M := eventReach) rfl
  | cpDisarm => exact (execCpDisarm_frame _ _ _ s t h).weaken (M := eventReach) rfl
  | cpTrig => exact (execCpTrig_frame _ _ _ s t h).weaken (M := eventReach) rfl
  | cpReleaseAll => exact (execCpReleaseAll_frame _ _ _ s t h).weaken (M := eventReach) rfl
  | captureArm => exact (execCaptureArm_frame _ _ _ s t h).weaken (M := eventReach) rfl
  | captureRead => exact (execCaptureRead_frame _ _ _ _ _ _ _ _ s t h).weaken (M := eventReach) rfl
  | logRead => exact (execLogRead_frame _ _ _ _ _ _ _ s t h).weaken (M := eventReach) rfl
  | sqDoorbell => exact (execSqDoorbell_frame _ _ _ s t h).weaken (M := eventReach) rfl
  | cqDoorbell => exact (execCqDoorbell_frame _ _ _ s t h).weaken (M := eventReach) rfl
  | drDoorbell => exact (execDrDoorbell_frame _ _ _ s t h).weaken (M := eventReach) rfl
  | ringEnable => exact (execRingEnable_frame _ _ _ s t h).weaken (M := eventReach) rfl
  | ringDisable => exact (execRingDisable_frame _ _ _ s t h).weaken (M := eventReach) rfl
  | commandStart => exact (execCommandStart_frame _ _ _ _ s t h).weaken (M := eventReach) rfl
  | commandStep => exact (execCommandStep_frame _ _ s t h).weaken (M := keyReach) rfl
  | stepDeadlineMiss => exact (execStepDeadlineMiss_frame _ s t h).weaken (M := eventReach) rfl
  | msixCoalesceTimer => exact (execMsixCoalesceTimer_frame _ s t h).weaken (M := eventReach) rfl
  | msixUnmask => exact (execMsixUnmask_frame _ _ _ s t h).weaken (M := eventReach) rfl
  | hbWrite => exact (execHbWrite_frame _ _ s t h).weaken (M := eventReach) rfl
  | nop => exact (execNop_frame _ s t h).weaken (M := eventReach) rfl
  | tableSet => exact (execTableSet_frame _ _ _ _ _ s t h).weaken (M := eventReach) rfl
  | readTable => exact (execReadTable_frame _ _ _ _ _ s t h).weaken (M := eventReach) rfl
  | threadFlagSet => exact (execThreadFlagSet_frame _ _ _ s t h).weaken (M := eventReach) rfl
  | threadFlagClear => exact (execThreadFlagClear_frame _ _ _ s t h).weaken (M := eventReach) rfl
  | threadWait => exact (execThreadWait_frame _ _ _ s t h).weaken (M := eventReach) rfl
  | threadEnable => exact (execThreadEnable_frame _ _ _ s t h).weaken (M := eventReach) rfl
  | threadDisable => exact (execThreadDisable_frame _ _ _ s t h).weaken (M := eventReach) rfl
  | preemptTrap => exact (execPreemptTrap_frame _ s t h).weaken (M := eventReach) rfl
  | coreClaim => exact (execCoreClaim_frame _ _ s t h).weaken (M := eventReach) rfl
  | coreYield => exact (execCoreYield_frame _ _ _ s t h).weaken (M := eventReach) rfl
  | coreRun => exact (execCoreRun_frame _ _ _ s t h).weaken (M := eventReach) rfl
  | softwareEvent => exact (execSoftwareEvent_frame _ _ s t h).weaken (M := eventReach) rfl
  | schedTimer => exact (execSchedTimer_frame _ s t h).weaken (M := eventReach) rfl
  | dlArm => exact (execDlArm_frame _ _ _ s t h).weaken (M := eventReach) rfl
  | dlDueArm => exact (execDlDueArm_frame _ _ _ s t h).weaken (M := eventReach) rfl
  | dlDone => exact (execDlDone_frame _ _ _ s t h).weaken (M := eventReach) rfl
  | threadDeadlineMiss => exact (execThreadDeadlineMiss_frame _ s t h).weaken (M := eventReach) rfl
  | keyGenerate => exact (execKeyGenerate_frame _ _ _ _ _ _ _ s t h).weaken (M := keyReach) rfl
  | keyImport => exact (execKeyImport_frame _ _ _ _ s t h).weaken (M := keyReach) rfl
  | keyUpdate => exact (execKeyUpdate_frame _ _ _ _ _ _ s t h).weaken (M := keyReach) rfl
  | attest => exact (execAttest_frame _ _ _ _ _ _ s t h).weaken (M := eventReach) rfl
  | sign => exact (execSign_frame _ _ _ _ _ s t h).weaken (M := eventReach) rfl
  | verify => exact (execVerify_frame _ _ _ _ s t h).weaken (M := eventReach) rfl
  | pairEnable => exact (execPairEnable_frame _ _ s t h).weaken (M := eventReach) rfl
  | pairDisable => exact (execPairDisable_frame _ _ s t h).weaken (M := eventReach) rfl
  | pairJoin => exact (execPairJoin_frame _ _ _ _ _ _ s t h).weaken (M := eventReach) rfl
  | pairPromote => exact (execPairPromote_frame _ s t h).weaken (M := eventReach) rfl
  | pairDrill => exact (execPairDrill_frame _ s t h).weaken (M := eventReach) rfl
  | cwKeepaliveRx => exact (execCwKeepaliveRx_frame _ _ _ _ s t h).weaken (M := eventReach) rfl
  | cwOrderRx => exact (execCwOrderRx_frame _ _ _ s t h).weaken (M := eventReach) rfl
  | cwFetchRx => exact (execCwFetchRx_frame _ _ _ s t h).weaken (M := eventReach) rfl
  | cwFrameCopyRx => exact (execCwFrameCopyRx_frame _ _ _ _ s t h).weaken (M := eventReach) rfl
  | cwDigestRx => exact (execCwDigestRx_frame _ _ _ _ s t h).weaken (M := eventReach) rfl
  | cwLedgerNoteRx => exact (execCwLedgerNoteRx_frame _ _ _ _ s t h).weaken (M := eventReach) rfl
  | cwHealthRx => exact (execCwHealthRx_frame _ _ _ _ _ s t h).weaken (M := eventReach) rfl
  | cwStateRx => exact (execCwStateRx_frame _ _ _ _ _ _ s t h).weaken (M := eventReach) rfl
  | cwStateAckRx => exact (execCwStateAckRx_frame _ _ _ s t h).weaken (M := eventReach) rfl
  | cwPromoteRx => exact (execCwPromoteRx_frame _ _ _ s t h).weaken (M := eventReach) rfl
  | cwDivergeRx => exact (execCwDivergeRx_frame _ _ _ _ s t h).weaken (M := eventReach) rfl
  | cwJoinRx => exact (execCwJoinRx_frame _ _ _ _ _ s t h).weaken (M := eventReach) rfl
  | cwJoinReplyRx => exact (execCwJoinReplyRx_frame _ _ _ s t h).weaken (M := eventReach) rfl
  | cwRelayRx => exact (execCwRelayRx_frame _ _ _ s t h).weaken (M := eventReach) rfl
  | cwLaneSilence => exact (execCwLaneSilence_frame _ s t h).weaken (M := eventReach) rfl
  | selftestResult => exact (execSelftestResult_frame _ s t h).weaken (M := eventReach) rfl
  | katRun => exact (execKatRun_frame _ _ s t h).weaken (M := eventReach) rfl
  | scrubPass => exact (execScrubPass_frame _ _ _ s t h).weaken (M := eventReach) rfl
  | eyeMeasure => exact (execEyeMeasure_frame _ _ s t h).weaken (M := eventReach) rfl
  | pathCheck => exact (execPathCheck_frame _ _ s t h).weaken (M := eventReach) rfl
  | imageStage => exact (execImageStage_frame _ _ _ _ _ s t h).weaken (M := eventReach) rfl
  | fwArm => exact (execFwArm_frame _ _ s t h).weaken (M := eventReach) rfl
  | fwConfirm => exact (execFwConfirm_frame _ s t h).weaken (M := eventReach) rfl
  | fwFallback => exact (execFwFallback_frame _ s t h).weaken (M := eventReach) rfl
  | relayOfferIn => exact (execRelayOfferIn_frame _ _ _ _ _ s t h).weaken (M := eventReach) rfl
  | relayChunkIn => exact (execRelayChunkIn_frame _ _ s t h).weaken (M := eventReach) rfl
  | relayAckRx => exact (execRelayAckRx_frame _ _ _ s t h).weaken (M := eventReach) rfl
  | relayResultRx => exact (execRelayResultRx_frame _ _ s t h).weaken (M := eventReach) rfl
  | relayAbortRx => exact (execRelayAbortRx_frame _ _ s t h).weaken (M := eventReach) rfl
  | relayArmRx => exact (execRelayArmRx_frame _ _ s t h).weaken (M := eventReach) rfl
  | refreshPassed => exact (execRefreshPassed_frame _ s t h).weaken (M := eventReach) rfl
  | returnCapsule => exact (execReturnCapsule_frame _ _ s t h).weaken (M := eventReach) rfl
  | batteryPowerOn => exact (execBatteryPowerOn_frame _ s t h).weaken (M := resetReach) rfl
  | bootUp => exact (execBootUp_frame _ _ _ _ s t h).weaken (M := keyReach) rfl
  | configLoad => exact (execConfigLoad_frame _ _ _ s t h).weaken (M := eventReach) rfl
  | vbatLow => exact (execVbatLow_frame _ s t h).weaken (M := eventReach) rfl
  | phyLinkUp => exact (execPhyLinkUp_frame _ _ _ s t h).weaken (M := eventReach) rfl
  | configSpaceWrite => exact (execConfigSpaceWrite_frame _ _ _ s t h).weaken (M := eventReach) rfl
  | opSwitchEnd => exact (execOpSwitchEnd_frame s t h).weaken (M := eventReach) rfl
  | warmResetTakeEffect => exact (execWarmResetTakeEffect_frame s t h).weaken (M := eventReach) rfl
  | warmResetEnd => exact (execWarmResetEnd_frame s t h).weaken (M := eventReach) rfl
  | portQualifyWaitEnd => exact (execPortQualifyWaitEnd_frame s t h).weaken (M := eventReach) rfl
  | qualityTick => exact (execQualityTick_frame s t h).weaken (M := eventReach) rfl
  | ppsWindowMiss => exact (execPpsWindowMiss_frame s t h).weaken (M := eventReach) rfl
  | todTimeout => exact (execTodTimeout_frame s t h).weaken (M := eventReach) rfl
  | taiSecond => exact (execTaiSecond_frame s t h).weaken (M := eventReach) rfl
  | ppsOutEnd => exact (execPpsOutEnd_frame s t h).weaken (M := eventReach) rfl
  | todTxSend => exact (execTodTxSend_frame s t h).weaken (M := eventReach) rfl
  | trimFinish => exact (execTrimFinish_frame s t h).weaken (M := eventReach) rfl
  | utcMidnight => exact (execUtcMidnight_frame s t h).weaken (M := eventReach) rfl
  | prpDdExpire => exact (execPrpDdExpire_frame s t h).weaken (M := eventReach) rfl
  | prpSupervisionTx => exact (execPrpSupervisionTx_frame s t h).weaken (M := eventReach) rfl
  | refReady => exact (execRefReady_frame s t h).weaken (M := eventReach) rfl
  | bucketOpen => exact (execBucketOpen_frame s t h).weaken (M := eventReach) rfl
  | ruleEval => exact (execRuleEval_frame s t h).weaken (M := eventReach) rfl
  | saveSnapshot => exact (execSaveSnapshot_frame s t h).weaken (M := eventReach) rfl
  | saveCommit => exact (execSaveCommit_frame s t h).weaken (M := eventReach) rfl
  | saveDeadlineMiss => exact (execSaveDeadlineMiss_frame s t h).weaken (M := eventReach) rfl
  | supplyRecover => exact (execSupplyRecover_frame s t h).weaken (M := eventReach) rfl
  | coreDomainStop => exact (execCoreDomainStop_frame s t h).weaken (M := eventReach) rfl
  | intervalBoundary => exact (execIntervalBoundary_frame s t h).weaken (M := eventReach) rfl
  | ledgerSign => exact (execLedgerSign_frame s t h).weaken (M := keyReach) rfl
  | ledgerPlace => exact (execLedgerPlace_frame s t h).weaken (M := eventReach) rfl
  | signDeadlineMiss => exact (execSignDeadlineMiss_frame s t h).weaken (M := eventReach) rfl
  | captureMatch => exact (execCaptureMatch_frame s t h).weaken (M := eventReach) rfl
  | peatEntryWrite => exact (execPeatEntryWrite_frame s t h).weaken (M := eventReach) rfl
  | foldWindowClose => exact (execFoldWindowClose_frame s t h).weaken (M := eventReach) rfl
  | tailCopy => exact (execTailCopy_frame s t h).weaken (M := eventReach) rfl
  | completionPost => exact (execCompletionPost_frame s t h).weaken (M := eventReach) rfl
  | hbTimeout => exact (execHbTimeout_frame s t h).weaken (M := eventReach) rfl
  | functionLevelReset => exact (execFunctionLevelReset_frame s t h).weaken (M := eventReach) rfl
  | perstAssert => exact (execPerstAssert_frame s t h).weaken (M := eventReach) rfl
  | drbgReseed => exact (execDrbgReseed_frame s t h).weaken (M := keyReach) rfl
  | entropyFail => exact (execEntropyFail_frame s t h).weaken (M := keyReach) rfl
  | cwKeepaliveTx => exact (execCwKeepaliveTx_frame s t h).weaken (M := eventReach) rfl
  | partnerSilence => exact (execPartnerSilence_frame s t h).weaken (M := eventReach) rfl
  | promoteEffect => exact (execPromoteEffect_frame s t h).weaken (M := eventReach) rfl
  | orderTick => exact (execOrderTick_frame s t h).weaken (M := eventReach) rfl
  | orderFlush => exact (execOrderFlush_frame s t h).weaken (M := eventReach) rfl
  | orderMatchExpire => exact (execOrderMatchExpire_frame s t h).weaken (M := eventReach) rfl
  | fetchTimer => exact (execFetchTimer_frame s t h).weaken (M := eventReach) rfl
  | digestSend => exact (execDigestSend_frame s t h).weaken (M := eventReach) rfl
  | digestMissing => exact (execDigestMissing_frame s t h).weaken (M := eventReach) rfl
  | healthTx => exact (execHealthTx_frame s t h).weaken (M := eventReach) rfl
  | checkpointTx => exact (execCheckpointTx_frame s t h).weaken (M := eventReach) rfl
  | imageVerified => exact (execImageVerified_frame s t h).weaken (M := eventReach) rfl
  | imageCopyDone => exact (execImageCopyDone_frame s t h).weaken (M := resetReach) rfl
  | kickoff => exact (execKickoff_frame s t h).weaken (M := eventReach) rfl
  | activationEnd => exact (execActivationEnd_frame s t h).weaken (M := eventReach) rfl
  | startLimitExpire => exact (execStartLimitExpire_frame s t h).weaken (M := eventReach) rfl
  | configCopyDone => exact (execConfigCopyDone_frame s t h).weaken (M := eventReach) rfl
  | relayAckTimer => exact (execRelayAckTimer_frame s t h).weaken (M := eventReach) rfl
  | relayRetransmit => exact (execRelayRetransmit_frame s t h).weaken (M := eventReach) rfl
  | relayGiveUp => exact (execRelayGiveUp_frame s t h).weaken (M := eventReach) rfl
  | nandRefresh => exact (execNandRefresh_frame s t h).weaken (M := eventReach) rfl
  | vinReturn => exact (execVinReturn_frame s t h).weaken (M := resetReach) rfl
  | rstNAssert => exact (execRstNAssert_frame s t h).weaken (M := resetReach) rfl
  | batteryLoss => exact (execBatteryLoss_frame s t h).weaken (M := eventReach) rfl
  | perstRelease => exact (execPerstRelease_frame s t h).weaken (M := eventReach) rfl
  | digestLate => exact (execDigestLate_frame s t h).weaken (M := eventReach) rfl
  | vbatInsert => exact (execVbatInsert_frame s t h).weaken (M := eventReach) rfl

/-- A command that resets nothing leaves the monotonic count. -/
theorem Instr.reach_mono {c : Instr} (h : c.coldResets = false) : (Instr.reach c).testBit 26 = false := by
  simp only [Instr.reach, h]
  cases c.writesMemory <;> cases c.touchesKeys <;> decide

/-- A command that writes no memory leaves device memory. -/
theorem Instr.reach_mem {c : Instr} (h : c.coldResets = false) (h' : c.writesMemory = false) : (Instr.reach c).testBit 1 = false := by
  simp only [Instr.reach, h, h']
  cases c.touchesKeys <;> decide

/-- Every command is the checked form of an update: refused when ill formed, else the update's result. -/
theorem exec_checked (c : Instr) : ∃ f : State → State, ∀ s, exec c s = checked c s f := by
  cases c <;> exact ⟨_, fun _ => rfl⟩

/-- One step changes no entry of the audit log and keeps the canonical form, be it a command or a tick. -/
theorem step_frame {s t : State} (h : step s = .next t) :
    (s.canonical = true → t.canonical = true) ∧ s.meter.audit <+: t.meter.audit := by
  unfold step at h
  split at h
  · cases h
    exact ⟨(State.tick_frame s).canon, (State.tick_frame s).audit⟩
  · exact ⟨fun hs => (exec_frame h).canon hs, (exec_frame h).audit⟩

/-! ### Class C and P resets (R415) -/

/-- What a command that can reset the device has done of it: nothing, to the count and to memory, or all of a class C or P reset. -/
def ColdOutcome (s t : State) : Prop :=
  (t.time.mono = s.time.mono ∧ t.mem = s.mem) ∨ (t.time.mono = 0 ∧ t.mem = s.mem.filter fun c => inMram c.1)

theorem ColdOutcome.refl (s : State) : ColdOutcome s s := .inl ⟨rfl, rfl⟩

theorem ColdOutcome.kept {M : Nat} {s t : State} (h : Frame M s t) (hm : M.testBit 1 = false) (hc : M.testBit 26 = false) :
    ColdOutcome s t := .inl ⟨h.mono hc, h.mem hm⟩

theorem ColdOutcome.reset {M : Nat} {s u : State} (h : Frame M s u) (hm : M.testBit 1 = false) (cls : ResetClass) (held : Bool) :
    ColdOutcome s (u.coldReset cls held) := .inr ⟨rfl, by rw [← h.mem hm]; rfl⟩

theorem State.powerOn_outcome (s : State) (vin : Bool) : ColdOutcome s (s.powerOn vin) := by
  unfold State.powerOn
  split
  · exact .refl s
  · cases vin
    · exact .inr ⟨rfl, rfl⟩
    · exact .inr ⟨rfl, rfl⟩

theorem State.vinReturn_outcome (s : State) : ColdOutcome s s.vinReturn := by
  unfold State.vinReturn
  split
  · exact .refl s
  · exact ColdOutcome.reset s.outageEnd_frame rfl .c false

theorem State.resetPin_outcome (s : State) : ColdOutcome s s.resetPin := by
  unfold State.resetPin
  split
  · exact .refl s
  · have hcut : Frame 0x2201b81 s (s.when (s.meter.configLoaded && !s.holdup) fun s => (s.cutBlocks.abandonSaves).snapshot 1) :=
      Frame.when (Frame.refl _ s) fun u hu =>
        ((hu.step (State.cutBlocks_frame _) rfl).step (State.abandonSaves_frame _) rfl).step (State.snapshot_frame _ _) rfl
    exact ColdOutcome.reset (hcut.step (State.commitAll_frame _) rfl) rfl .c true

theorem State.imageCopied_outcome (s : State) : ColdOutcome s s.imageCopied := by
  unfold State.imageCopied
  split
  · exact .refl s
  · next r _ =>
    dsimp only
    split
    · refine ColdOutcome.reset (M := 0x2400201) ?_ rfl .c false
      refine Frame.step ?_ (State.emit_frame _ _) rfl
      refine Frame.step ?_ (State.setWord_frame _ _ _) rfl
      refine Frame.step ?_ (State.endStage_frame _ _ _ _ _) rfl
      exact Frame.upd (Frame.refl _ s) rfl
    · refine ColdOutcome.kept (M := 0x2400381) ?_ rfl rfl
      refine Frame.step ?_ (State.endStage_frame _ _ _ _ _) rfl
      refine Frame.step ?_ (State.raise_frame _ _ _ _ _ _) rfl
      refine Frame.step ?_ (State.setWord_frame _ _ _) rfl
      refine Frame.step ?_ (State.put_frame _ _ _) rfl
      refine Frame.step ?_ (State.put_frame _ _ _) rfl
      refine Frame.step ?_ (State.placeImage_frame _ _) rfl
      exact Frame.upd (Frame.refl _ s) rfl

/-- A command that can end in a class C or P reset has that outcome. -/
theorem exec_coldOutcome {c : Instr} {s t : State} (hc : c.coldResets = true) (h : exec c s = .next t) : ColdOutcome s t := by
  unfold Instr.coldResets at hc
  split at hc
  case h_1 vin => cases h; exact s.powerOn_outcome vin
  case h_2 => cases h; exact s.vinReturn_outcome
  case h_3 => cases h; exact s.resetPin_outcome
  case h_4 =>
    cases h
    dsimp only
    split
    · exact s.imageCopied_outcome
    · exact .refl s
  case h_5 => cases hc

/-! ### Bytes of device memory that a write spares -/

/-- Every byte outside the addresses from `lo` up to `hi` is as it was. -/
def Spares (lo hi : Nat) (s t : State) : Prop := ∀ a, a < lo ∨ hi ≤ a → t.memByte a = s.memByte a

theorem Spares.of_mem {lo hi : Nat} {s t : State} (h : t.mem = s.mem) : Spares lo hi s t := fun a _ => by
  rw [State.memByte, h, State.memByte]

theorem Spares.refl (lo hi : Nat) (s : State) : Spares lo hi s s := .of_mem rfl

theorem Spares.trans {lo hi : Nat} {s t u : State} (h : Spares lo hi s t) (h' : Spares lo hi t u) : Spares lo hi s u :=
  fun a ha => (h' a ha).trans (h a ha)

theorem State.memWrite_spares (s : State) (a : Nat) (bs : List Byte) : Spares a (a + bs.length) s (s.memWrite a bs) := fun _ hi =>
  Memory.read_writeAll_other bs hi

/-- A write of fewer bytes spares more. -/
theorem Spares.widen {lo hi hi' : Nat} {s t : State} (h : Spares lo hi s t) (hle : hi ≤ hi') : Spares lo hi' s t := fun a ha =>
  h a (ha.imp id fun h' => Nat.le_trans hle h')

/-- A write of memory seen as records spares what lies outside it (log 28): the records are parts of their own. -/
theorem State.viewWrite_spares (s : State) (a : Nat) (bs : List Byte) : Spares a (a + bs.length) s (s.viewWrite a bs) := by
  refine .trans (t := (if a < mramBase then (s.patchFen a bs).patchCapture a bs else (s.patchMeter a bs).patchChain a bs).patchPeat a bs)
    (.of_mem ?_) (State.memWrite_spares _ a bs)
  refine Frame.mem (M := 0x109880) (Frame.step (Frame.ite (fun _ => ?_) fun _ => ?_) (State.patchPeat_frame _ a bs) rfl) rfl
  · exact ((s.patchFen_frame a bs).weaken rfl).step (State.patchCapture_frame _ a bs) rfl
  · exact ((s.patchMeter_frame a bs).weaken rfl).step (State.patchChain_frame _ a bs) rfl

theorem Spares.ite {lo hi : Nat} {s t u : State} {c : Prop} {_ : Decidable c} (h : c → Spares lo hi s t) (h' : ¬ c → Spares lo hi s u) :
    Spares lo hi s (if c then t else u) := by
  split
  · exact h ‹_›
  · exact h' ‹_›

theorem State.mramWrite_spares (s : State) (m : Master) (off : Nat) (bs : List Byte) :
    Spares (bar4Base + off) (bar4Base + off + bs.length) s (s.mramWrite m off bs) := by
  unfold State.mramWrite
  refine .ite (fun _ => s.viewWrite_spares _ bs) fun _ => .ite (fun _ => .of_mem ((s.refuse_frame _ _ _ _).mem rfl)) fun _ => ?_
  refine Spares.trans (.of_mem ?_) (State.viewWrite_spares _ _ bs)
  exact ((s.sealBy_frame 1).weaken (M := 0x801) rfl |>.step (State.auditAdd_frame _ _) rfl).mem rfl

/-- The same by the internal address of the write. -/
theorem State.mramWrite_spares_at (s : State) (m : Master) {a : Nat} (bs : List Byte) (h : bar4Base ≤ a) :
    Spares a (a + bs.length) s (s.mramWrite m (a - bar4Base) bs) := by
  have hw := s.mramWrite_spares m (a - bar4Base) bs
  rwa [show bar4Base + (a - bar4Base) = a from Nat.add_sub_of_le h] at hw

theorem State.memStore_spares (s : State) (m : Master) (a : Nat) (bs : List Byte) : Spares a (a + bs.length) s (s.memStore m a bs) := by
  unfold State.memStore
  exact .ite (fun h => s.mramWrite_spares_at m bs h.1) fun _ => .ite (fun _ => .refl _ _ s) fun _ => s.viewWrite_spares a bs

/-- A read at an internal address changes no byte. -/
theorem State.access_read_mem (s : State) (m : Master) (addr : Nat) (bs : List Byte) : (s.access m addr false bs).mem = s.mem := by
  refine Frame.mem (M := 0x3000185) ?_ rfl
  simp only [State.access, Bool.false_eq_true, if_false]
  refine .ite (fun _ => (s.misTrap_frame _ _).weaken rfl) fun _ => .ite (fun _ => ?miss) fun _ =>
    .ite (fun _ => (s.readAny_frame _ _ _).weaken rfl) fun _ => .ite (fun _ => ?host) fun _ => .ite (fun _ => .refl _ s) fun _ => ?load
  case miss => exact Frame.when ((s.decodeMiss_frame _).weaken rfl) fun u hu => hu.step (State.emit_frame _ _) rfl
  case host => exact ((s.emit_frame _).weaken (M := 0x3000185) rfl).step (State.draw_frame _) rfl
  case load =>
    split
    · exact ((s.uecc_frame _).weaken (M := 0x3000185) rfl).step (State.emit_frame _ _) rfl
    · exact (s.emit_frame _).weaken rfl

/-- A write at an internal address reaches the bytes it writes alone. -/
theorem State.access_write_spares (s : State) (m : Master) (addr : Nat) (bs : List Byte) :
    Spares addr (addr + bs.length) s (s.access m addr true bs) := by
  simp only [State.access, if_true]
  exact .ite (fun _ => .of_mem ((s.misTrap_frame _ _).mem rfl)) fun _ => .ite (fun _ => .of_mem ((s.decodeMiss_frame _).mem rfl)) fun _ =>
    .ite (fun _ => .of_mem ((s.busWrite_frame _ _ _ _).mem rfl)) fun _ => .ite (fun _ => .of_mem ((s.emit_frame _).mem rfl)) fun _ =>
    .ite (fun _ => .refl _ _ s) fun _ => s.memStore_spares m addr bs

/-! ### The record of a modal update (R210) -/

@[simp] theorem length_leBytes (n v : Nat) : (leBytes n v).length = n := by
  induction n generalizing v with
  | zero => rfl
  | succ n ih => simp [leBytes, ih]

@[simp] theorem length_stampBytes (t : Stamp) : (stampBytes t).length = 12 := by simp [stampBytes]

@[simp] theorem length_f32Bytes (r : Rat) : (f32Bytes r).length = 4 := by simp [f32Bytes]

/-- Pieces of one length, put one after another. -/
theorem length_flatMap_const {α β : Type} {l : List α} {f : α → List β} {k : Nat} (h : ∀ x ∈ l, (f x).length = k) :
    (l.flatMap f).length = l.length * k := by
  induction l with
  | nil => simp
  | cons x l ih =>
    rw [List.flatMap_cons, List.length_append, h x (by simp), ih fun y hy => h y (by simp [hy]), List.length_cons]
    ring

theorem OwMode.length_shapeBytes (m : OwMode) (es : List SigEntry) (ref : Nat) : (m.shapeBytes es ref).length = 4096 := by
  unfold OwMode.shapeBytes
  rw [length_flatMap_const (k := 8)]
  · simp
  · intro i _
    split
    · simp
    · split <;> simp

/-- A watcher's result record fits the place it has in memory. -/
theorem State.length_owRecord (s : State) (w gen seq flags n : Nat) (ins : List (Option (List Rat))) (ms : List OwMode) (stamp : Stamp) :
    (s.owRecord w gen seq flags n ins ms stamp).length = 16576 := by
  rw [State.owRecord, List.length_append, List.length_append, length_flatMap_const (k := 32), length_flatMap_const (k := 4096)]
  · simp
  · intro i _
    split
    · exact OwMode.length_shapeBytes _ _ _
    · rw [List.length_replicate]
  · intro i _
    split <;> simp

/-- A watcher's record put in memory reaches its place alone, wherever results lie. -/
theorem State.owStored_spares {s u : State} {w g : Nat} {bs : List Byte} (hbase : u.detect.resBase = s.detect.resBase) (hmem : u.mem = s.mem)
    (hlen : bs.length = 16576) :
    Spares (s.detect.resBase + 0x8000 * w) (s.detect.resBase + 0x8000 * (w + 1)) s
      (if u.detect.resBase = 0 then u else (u.memWrite (u.detect.resBase + 0x8000 * w) bs).setWord (OW_RES_GEN w) g) := by
  refine .trans (.of_mem hmem) (.ite (fun _ => .refl _ _ u) fun _ => ?_)
  have hw := u.memWrite_spares (u.detect.resBase + 0x8000 * w) bs
  rw [hlen, hbase] at hw
  rw [hbase]
  exact .trans (hw.widen (by omega)) (.of_mem ((State.setWord_frame _ _ _).mem rfl))

/-- A modal update reaches its watcher's record alone. -/
theorem State.modalUpdate_spares (s : State) (w : Nat) :
    Spares (s.detect.resBase + 0x8000 * w) (s.detect.resBase + 0x8000 * (w + 1)) s (s.modalUpdate w) := by
  unfold State.modalUpdate
  split
  · exact .refl _ _ s
  · refine .ite (fun _ => .refl _ _ s) fun _ => ?_
    extract_lets +onlyGivenNames t n ins ms used gap flags s1
    have hbase1 : s1.detect.resBase = s.detect.resBase := by
      rw [(State.deviceMet_frame _ _ _).detect rfl]
      rfl
    have hmem1 : s1.mem = s.mem := (Frame.step (State.setOw_frame s w _ |>.weaken (M := 0x40001) rfl) (State.deviceMet_frame _ _ _) rfl).mem rfl
    clear_value t n ins ms flags s1
    extract_lets +onlyGivenNames s2
    have hframe2 : Frame 0x181 s1 s2 := (Frame.refl _ s1).when fun v hv => hv.step (State.count_frame _ _) rfl
    clear_value s2
    extract_lets +onlyGivenNames gen s3 s4
    have hspares : Spares (s.detect.resBase + 0x8000 * w) (s.detect.resBase + 0x8000 * (w + 1)) s s3 :=
      State.owStored_spares ((congrArg DetectState.resBase (hframe2.detect rfl)).trans hbase1) ((hframe2.mem rfl).trans hmem1)
        (State.length_owRecord _ _ _ _ _ _ _ _ _)
    have hdamp : Frame 0x40181 s3 s4 := State.owDamp_frame _ _ _
    clear_value s3 s4
    refine hspares.trans (.of_mem ?_)
    exact (((hdamp.weaken (M := 0x2c1181) rfl).step (State.setConds_frame _ _ _ _) rfl).step (State.fire_frame _ _) rfl).mem rfl

/-! ### Memory over a reset -/

/-- Entries left out of a store show in no key that the filter passes. -/
theorem Store.get_filter {α : Type} {d : Nat → α} {p : Nat → Bool} {k : Nat} (hk : p k = true) (m : Store α) :
    Store.get d (m.filter fun e => p e.1) k = Store.get d m k := by
  induction m with
  | nil => rfl
  | cons e m ih =>
    obtain ⟨j, v⟩ := e
    by_cases hj : j = k
    · simp [hj, hk, Store.get]
    · by_cases hp : p j = true
      · simp [hp, Store.get, hj, ih]
      · simp [hp, Store.get, hj, ih]

/-- A command that can reset the device keeps MRAM. -/
theorem ColdOutcome.mram {s t : State} (h : ColdOutcome s t) {a : Nat} (ha : inMram a = true) : t.memByte a = s.memByte a := by
  obtain ⟨_, hmem⟩ | ⟨_, hmem⟩ := h
  · rw [State.memByte, hmem, State.memByte]
  · rw [State.memByte, hmem]
    exact Store.get_filter ha s.mem

/-! ### The key store under a write into legal MRAM (R346, log 28) -/

/-- A write that ends below the certificate chain leaves it. -/
theorem State.patchChain_below (s : State) {a : Nat} {bs : List Byte} (h : a + bs.length ≤ chainBase) : (s.patchChain a bs).keys = s.keys := by
  have key : ∀ (l : List (Byte × Nat)) (m : Store (Option Byte)), (∀ b ∈ l, a + b.2 < chainBase) →
      l.foldl (fun m b => if chainBase ≤ a + b.2 ∧ a + b.2 < chainBase + 0x10000 then
        Store.set (fun _ => none) m (a + b.2 - chainBase) (some b.1) else m) m = m := by
    intro l
    induction l with
    | nil => exact fun _ _ => rfl
    | cons b l ih =>
      intro m hl
      have hb := hl b (by simp)
      rw [List.foldl_cons, if_neg (by omega)]
      exact ih m fun c hc => hl c (by simp [hc])
  have hall : ∀ b ∈ bs.zipIdx, a + b.2 < chainBase := fun b hb => by
    have := List.snd_lt_of_mem_zipIdx hb
    omega
  rw [State.patchChain]
  exact congrArg (fun chain => { s.keys with chain }) (key bs.zipIdx s.keys.chain hall)

theorem State.viewWrite_keys_below (s : State) {a : Nat} {bs : List Byte} (h : a + bs.length ≤ chainBase) :
    (s.viewWrite a bs).keys = s.keys := by
  rw [State.viewWrite, (State.memWrite_frame _ _ _).keys rfl, (State.patchPeat_frame _ _ _).keys rfl]
  split
  · rw [(State.patchCapture_frame _ _ _).keys rfl, (State.patchFen_frame _ _ _).keys rfl]
  · rw [State.patchChain_below _ h, (State.patchMeter_frame _ _ _).keys rfl]

/-- Legal MRAM lies below the certificate chain: a write into it leaves the key store. -/
theorem State.mramWrite_keys (s : State) (m : Master) {off : Nat} {bs : List Byte} (h : off + bs.length ≤ 0x2200000) :
    (s.mramWrite m off bs).keys = s.keys := by
  have hbelow : bar4Base + off + bs.length ≤ chainBase := by
    simp only [bar4Base, chainBase, mramBase]
    omega
  unfold State.mramWrite
  split
  · exact s.viewWrite_keys_below hbelow
  · split
    · exact (s.refuse_frame _ _ _ _).keys rfl
    · rw [State.viewWrite_keys_below _ hbelow, (State.auditAdd_frame _ _).keys rfl, (State.sealBy_frame _ _).keys rfl]

/-! ### What acts without the core domain (R405, R407) -/

theorem onCore_idles {i : Instr} {s t : State} {f : State → State} (hoff : s.coreOn = false) (h : onCore i s f = .next t) : t = s := by
  simp only [onCore, checked, hoff] at h
  split at h
  · cases h
    rfl
  · cases h

theorem onEngines_idles {i : Instr} {s t : State} {f : State → State} (hoff : s.coreOn = false) (h : onEngines i s f = .next t) : t = s := by
  have hengines : s.enginesOn = false := by
    simp only [State.coreOn, State.enginesOn, Bool.or_eq_false_iff] at hoff ⊢
    exact hoff.1.2
  simp only [onEngines, checked, hengines] at h
  split at h
  · cases h
    rfl
  · cases h

end Sys2Proof.Machine
end

section
/-!
The statements about every command and every step (00, 01): O1 to O10.
-/

set_option Elab.async false

namespace Sys2Proof.Machine

/-- Settles O1. A step of a state with a command waiting is that command's. -/
theorem stepRunsFront : Obligations.StepRunsFront := by
  intro c rest s h
  rw [step, h]

/-- What a tick does to the monotonic count (R36). -/
theorem State.tick_mono (s : State) : s.tick.time.mono = s.time.mono + if s.coreOn then 8 else 0 := by
  have hrtc : s.rtcRun.time.mono = s.time.mono := s.rtcRun_frame.mono rfl
  have hphase : s.rtcRun.coreOn = s.coreOn := by rw [State.coreOn, s.rtcRun_frame.power rfl, State.coreOn]
  unfold State.tick
  split
  · next h => simp [State.coreOn, h]
  · dsimp only
    rw [hphase]
    cases hon : s.coreOn
    · simpa [hon] using hrtc
    · have hclock : Frame 0x3fffffb s.rtcRun.clockRun s.rtcRun.clockRun.slewDone.hiddenErrors :=
        ((State.slewDone_frame _).weaken rfl).step (State.hiddenErrors_frame _) rfl
      rw [if_neg (by simp)]
      generalize s.rtcRun.clockRun.slewDone.hiddenErrors = u at hclock ⊢
      have hu : u.time.mono = s.time.mono + 8 := (hclock.mono rfl).trans (congrArg (· + 8) hrtc)
      have hread : (if u.time.mono % 1000000 = 0 then u.readSupplies else u).time.mono = u.time.mono := by
        split
        · exact u.readSupplies_frame.mono rfl
        · rfl
      generalize (if u.time.mono % 1000000 = 0 then u.readSupplies else u) = v at hread ⊢
      have hsend : (if v.enginesOn then v.osSend else v).time.mono = v.time.mono := by
        split
        · exact v.osSend_frame.mono rfl
        · rfl
      exact hsend.trans (hread.trans hu)

/-- Settles O2. Of a tick's parts only the clock advances the count; none reaches memory, the key store or metering. -/
theorem idleStepTicks : Obligations.IdleStepTicks := by
  intro s h
  have hframe := s.tick_frame
  refine ⟨s.tick, by rw [step, h], fun hoff => ?_, s.tick_mono, hframe.mem rfl, hframe.keys rfl, hframe.meter rfl⟩
  rw [State.tick, if_pos hoff]

/-- Settles O3: every command and the tick have the frame of their parts, which keeps the canonical form. -/
theorem stepKeepsCanonical : Obligations.StepKeepsCanonical := fun _ _ hs h => (step_frame h).1 hs

/-- Settles O4. -/
theorem resetCanonical : Obligations.ResetCanonical := ⟨rfl, rfl⟩

/-- Settles O5: a command is the checked form of an update, and no update touches the queue. -/
theorem wellFormedCompletes : Obligations.WellFormedCompletes := by
  intro c s
  obtain ⟨f, hf⟩ := exec_checked c
  refine ⟨fun hw => ⟨f s, ?runs, ?queue⟩, fun hw => by rw [hf s, checked, hw]; rfl⟩
  case runs => rw [hf s, checked_next hw]
  case queue => exact (exec_frame ((hf s).trans (checked_next hw))).queue

/-- Settles O6: every command and the tick only append to the log. -/
theorem auditLogAppendOnly : Obligations.AuditLogAppendOnly := fun _ _ h => (step_frame h).2

/-- Settles O7: only a class C or P reset reaches the count, and it restarts it. -/
theorem monotonicCountStands : Obligations.MonotonicCountStands := by
  intro c s t h
  cases hc : c.coldResets
  · exact .inl ((exec_frame h).mono (Instr.reach_mono hc))
  · exact (exec_coldOutcome hc h).imp And.left fun hreset => ⟨rfl, hreset.1⟩

/-- A command that writes no memory resets nothing. -/
theorem coldResets_of_writesMemory {c : Instr} (h : c.writesMemory = false) : c.coldResets = false := by
  cases c <;> simp_all [Instr.writesMemory, Instr.coldResets]

/-- A command of the core domain answers the state as it was, or what it does. -/
theorem onCore_cases {i : Instr} {s t : State} {f : State → State} {P : State → Prop} (h : onCore i s f = .next t) (hs : P s)
    (hf : i.wf = true → P (f s)) : P t := by
  unfold onCore checked at h
  split at h
  · next hw =>
    cases h
    dsimp only
    split
    · exact hf hw
    · exact hs
  · cases h

theorem onEngines_cases {i : Instr} {s t : State} {f : State → State} {P : State → Prop} (h : onEngines i s f = .next t) (hs : P s)
    (hf : i.wf = true → P (f s)) : P t := by
  unfold onEngines checked at h
  split at h
  · next hw =>
    cases h
    dsimp only
    split
    · exact hf hw
    · exact hs
  · cases h

/-- Settles O8, clause by clause: what the frame of a command leaves, and which bytes each of the writing ones spares. -/
theorem memoryFrame : Obligations.MemoryFrame := by
  intro c s t h
  refine ⟨fun hw => ?others, fun m addr write bytes a hc hrange => ?access, fun m off bytes a hc hrange => ?legal,
    fun w a hc hrange => ?modal, fun a hcold _ ha => (exec_coldOutcome hcold h).mram ha⟩
  case others => exact (exec_frame h).mem (Instr.reach_mem (coldResets_of_writesMemory hw) hw)
  case access =>
    subst hc
    refine onCore_cases (i := .internalAccess m addr write bytes) (f := fun s => s.access m addr write bytes)
      (P := fun t => t.memByte a = s.memByte a) h rfl fun _ => ?_
    cases write
    · rw [State.memByte, State.access_read_mem, State.memByte]
    · exact s.access_write_spares m addr bytes a (hrange.resolve_left (by decide))
  case legal =>
    subst hc
    exact onCore_cases (i := .mramLegalWrite m off bytes) (f := fun s => s.mramWrite m off bytes)
      (P := fun t => t.memByte a = s.memByte a) h rfl fun _ => s.mramWrite_spares m off bytes a hrange
  case modal =>
    subst hc
    exact onEngines_cases (i := .owModalUpdate w) (f := fun s => s.modalUpdate w) (P := fun t => t.memByte a = s.memByte a) h rfl fun _ => s.modalUpdate_spares w a hrange

/-- Settles O9: of the commands that reach memory, the modal update has no key in its frame, and legal MRAM lies below the certificate
chain. -/
theorem keyStoreFrame : Obligations.KeyStoreFrame := by
  intro c s t h hc
  cases hw : c.writesMemory
  case false =>
    refine (exec_frame h).keys ?_
    simp only [Instr.reach, coldResets_of_writesMemory hw, hw, hc]
    decide
  case true =>
    unfold Instr.writesMemory at hw
    split at hw
    case h_1 => cases hc
    case h_2 m off bytes =>
      refine onCore_cases (i := .mramLegalWrite m off bytes) (f := fun s => s.mramWrite m off bytes) (P := fun t => t.keys = s.keys) h rfl fun hwf => s.mramWrite_keys m ?_
      simp only [Instr.wf, Bool.and_eq_true, decide_eq_true_eq] at hwf
      exact hwf.1.2
    case h_3 w => exact (execOwModalUpdate_frame w s t h).keys rfl
    case h_4 =>
      exfalso
      revert hc hw
      cases c <;> simp [Instr.coldResets, Instr.touchesKeys]

/-- Refutes O10: a class W reset that waits takes effect without asking for a supply where boot is held for an image. The state has no
supply, a reset waiting and boot held, and after the command it is in its class W reset. -/
theorem not_supplyGates : ¬ Obligations.SupplyGates := by
  intro h
  let s : State := { power := { phase := .unpowered, pendingReset := some .w, bootHeld := true } }
  have hstays : s.warmReset = s := (h .warmResetTakeEffect s s.warmReset rfl).1 rfl fun _ hc => by cases hc
  have hphase : s.warmReset.power.phase = .warm := rfl
  rw [hstays] at hphase
  cases hphase

end Sys2Proof.Machine
end

section
/-!
How a command runs (01, R407, R409): one rule for each of the ways in which a command acts, on the core domain, on the engines, always,
by a register write that goes through, or as a ring's command. The statements on single commands begin with one of these.
-/

set_option Elab.async false

namespace Sys2Proof.Machine

/-! ### Commands of a domain -/

section Running

variable {c : Instr} {s : State} {f : State → State} {P : State → Prop}

/-- A command of the core domain answers with its effect while the core domain runs. -/
theorem runs_core (he : exec c s = onCore c s f) (hw : c.wf = true) (hon : s.coreOn = true) (h : P (f s)) : Runs c s P :=
  ⟨f s, he.trans (onCore_next hw hon), h⟩

/-- A command of the engines answers with its effect while they run. -/
theorem runs_engines (he : exec c s = onEngines c s f) (hw : c.wf = true) (hon : s.enginesOn = true) (h : P (f s)) : Runs c s P :=
  ⟨f s, he.trans (onEngines_next hw hon), h⟩

/-- A command that acts whatever the supply. -/
theorem runs_checked (he : exec c s = checked c s f) (hw : c.wf = true) (h : P (f s)) : Runs c s P :=
  ⟨f s, he.trans (checked_next hw), h⟩

end Running

/-! ### Commands that a ring has started (R308) -/

/-- A command that the checks of R308 let through, and whose fields and buffer are sound, has its effect. -/
theorem State.command_runs {s : State} {h : CmdHeader} {op : Nat} {fields buffer : Option Nat} (hs : s.serves h op = true)
    (hf : fields = none) (hb : buffer = none) (run : State → State) : s.command h op fields buffer run = run s := by
  subst hf hb
  exact State.command_serves hs run

/-! ### Register writes that go through (R6, R8) -/

section Writes

variable {s : State} {m : Master} {off v : Nat} {r : RegSpec} {ix : List Nat}

/-- Auditing a write changes registers of the peat log's window alone. -/
theorem State.auditWrite_keeps (s : State) (m : Master) (r : RegSpec) (ix : List Nat) (off : Nat) (old new w : Word) :
    Keeps winPl s (s.auditWrite m r ix off old new w) :=
  (s.sealBy_keeps 1).trans (State.auditAdd_keeps _ _)

/-- A write that goes through is stored, has its block's effect, and is remembered, in this order. The old value that the block sees is
the one before the write: no audit entry stands in a register that is audited. -/
theorem State.busWrite_stored (hl : lookup off = some (r, ix)) (hs : satOf r.base ix = none)
    (hold : r.legal = false ∨ off / 0x10000 ≠ 0x38) (h : s.takesWrite m off v = true) :
    s.busWrite m off 4 v =
      ((s.stored m off v).effects r.base ix (s.reg off) (BitVec.ofNat 32 v)).recorded m off v := by
  have hreg : (s.when r.legal fun t =>
      t.auditWrite m r ix off (s.reg off) (r.written (s.reg off) (BitVec.ofNat 32 v)) (BitVec.ofNat 32 v)).reg off = s.reg off := by
    rcases hold with hleg | hwin
    · simp [State.when, hleg]
    · refine Keeps.when (W := winPl) (Keeps.refl _ s) (fun _ => s.auditWrite_keeps m r ix off _ _ _) off ?_
      rw [winPl, show (0x100000000000000 : Nat) = 2 ^ 0x38 from rfl, Nat.testBit_two_pow]
      exact decide_eq_false fun h => hwin h.symm
  rw [State.busWrite_takes hl h]
  simp only [State.acceptWrite, State.storeWrite, hs, State.stored, State.recorded, hl, Bool.not_false, Bool.and_true]
  rw [hreg]

/-- The effect of a write that goes through, as the register's own rule. -/
theorem runs_write {c : Instr} {P : State → Prop} (he : exec c s = onCore c s fun s => s.busWrite m off 4 v) (hw : c.wf = true)
    (hl : lookup off = some (r, ix)) (hs : satOf r.base ix = none) (hold : r.legal = false ∨ off / 0x10000 ≠ 0x38)
    (ht : s.takesWrite m off v = true)
    (h : P (((s.stored m off v).effects r.base ix (s.reg off) (BitVec.ofNat 32 v)).recorded m off v)) : Runs c s P :=
  runs_core he hw (State.coreOn_takes ht) (by rw [State.busWrite_stored hl hs hold ht]; exact h)

/-- What is recorded of a write stands in the firmware part alone. -/
theorem State.recorded_eq (s : State) (m : Master) (off v : Nat) : ∃ fw, s.recorded m off v = { s with fw } := by
  unfold State.recorded
  split
  · exact State.remember_eq ..
  · exact ⟨s.fw, rfl⟩

/-- A write stored changes registers and, where it is audited, the audit log. -/
theorem State.stored_frame (s : State) (m : Master) (off v : Nat) : Frame 0x801 s (s.stored m off v) := by
  unfold State.stored
  split
  · refine Frame.step ?_ (State.setReg_frame _ _ _) rfl
    exact (Frame.refl _ s).when fun u hu => hu.step (State.auditWrite_frame u ..) rfl
  · exact Frame.refl _ s

end Writes

/-! ### Fields written and read back (R6) -/

/-- A field lies in a register: its bits in order, the highest below 32. -/
def Fld.sound (f : Fld) : Bool := Nat.ble f.lo f.hi && Nat.blt f.hi 32

/-- Two fields share no bit: they lie apart in one register, or in two. -/
def Fld.apart (f g : Fld) : Bool := f.sound && g.sound && (Nat.blt f.hi g.lo || Nat.blt g.hi f.lo || f.off != g.off)

theorem Fld.sound_iff {f : Fld} : f.sound = true ↔ f.lo ≤ f.hi ∧ f.hi < 32 := by
  simp [Fld.sound, Nat.blt_eq]

section Fields

variable {s : State} {f g : Fld} {v : Nat}

theorem State.canonical_of_regs {t : State} (hs : s.canonical = true) (hr : t.regs = s.regs) (hm : t.mem = s.mem) :
    t.canonical = true := by
  rw [State.canonical, hr, hm]
  exact hs

theorem State.canonical_put (hs : s.canonical = true) (f : Fld) (v : Nat) : (s.put f v).canonical = true := (s.put_frame f v).canon hs

theorem State.canonical_setWord (hs : s.canonical = true) (off v : Nat) : (s.setWord off v).canonical = true :=
  (s.setWord_frame off v).canon hs

/-- A field written with a value it can hold reads back as written. -/
theorem State.get_put_fit (hs : s.canonical = true) (hf : f.sound = true) (hv : v < 2 ^ (f.hi + 1 - f.lo)) : (s.put f v).get f = v := by
  obtain ⟨hlo, hhi⟩ := Fld.sound_iff.mp hf
  exact (State.get_put_same (State.canonical_regs hs) hlo hhi v).trans (Nat.mod_eq_of_lt hv)

/-- A one-bit field written reads back as a truth value. -/
theorem State.flag_put (hs : s.canonical = true) (hf : f.sound = true) (b : Bool) : (s.put f (bit b)).flag f = b := by
  have hlo := (Fld.sound_iff.mp hf).1
  have hv : bit b < 2 ^ (f.hi + 1 - f.lo) := by
    have h2 : 2 ^ 1 ≤ 2 ^ (f.hi + 1 - f.lo) := Nat.pow_le_pow_right (by omega) (by omega)
    have hb : bit b < 2 := by cases b <;> decide
    omega
  rw [State.flag, State.get_put_fit hs hf hv]
  cases b <;> rfl

theorem State.flag_put_one (hs : s.canonical = true) (hf : f.sound = true) : (s.put f 1).flag f = true := State.flag_put hs hf true

theorem State.flag_put_zero (hs : s.canonical = true) (hf : f.sound = true) : (s.put f 0).flag f = false := State.flag_put hs hf false

/-- A field beside the one written is kept. -/
theorem State.get_put_beside (hs : s.canonical = true) (h : f.apart g = true) (v : Nat) : (s.put f v).get g = s.get g := by
  simp only [Fld.apart, Bool.and_eq_true, Bool.or_eq_true, Nat.blt_eq, bne_iff_ne] at h
  obtain ⟨⟨hf, hg⟩, hfg⟩ := h
  obtain ⟨hflo, hfhi⟩ := Fld.sound_iff.mp hf
  obtain ⟨hglo, -⟩ := Fld.sound_iff.mp hg
  rcases hfg with hbits | hoff
  · exact State.get_put_apart (State.canonical_regs hs) hflo hfhi hglo hbits v
  · exact State.get_put_other v (Ne.symm hoff)

theorem State.flag_put_beside (hs : s.canonical = true) (h : f.apart g = true) (v : Nat) : (s.put f v).flag g = s.flag g := by
  rw [State.flag, State.get_put_beside hs h, State.flag]

theorem State.flag_put_other (v : Nat) (h : g.off ≠ f.off) : (s.put f v).flag g = s.flag g := by
  rw [State.flag, State.get_put_other v h, State.flag]

theorem State.word_put_other {o : Nat} (v : Nat) (h : o ≠ f.off) : (s.put f v).word o = s.word o := by
  rw [State.word, State.reg_put_other v h, State.word]

/-- A counter of a whole register advances by one. -/
theorem State.word_bump_whole (hs : s.canonical = true) (off : Nat) : (s.bump (whole off)).word off = (s.word off + 1) % 2 ^ 32 := by
  have hword : ∀ t : State, t.word off = t.get (whole off) := fun t => (Word.field_whole _).symm
  rw [hword, hword, State.bump]
  exact State.get_put_same (f := whole off) (State.canonical_regs hs) (Nat.zero_le _) (Nat.le_refl 32) _

end Fields

/-! ### Registers below a bound -/

/-- Every register below `B` is kept. -/
def SameBelow (B : Nat) (s t : State) : Prop := ∀ o < B, t.reg o = s.reg o

section Below

variable {B C W M : Nat} {s t u : State}

theorem SameBelow.refl (B : Nat) (s : State) : SameBelow B s s := fun _ _ => rfl

theorem SameBelow.trans (h : SameBelow B s t) (h' : SameBelow B t u) : SameBelow B s u := fun o ho => (h' o ho).trans (h o ho)

theorem SameBelow.weaken (h : SameBelow C s t) (hBC : B ≤ C) : SameBelow B s t := fun o ho => h o (Nat.lt_of_lt_of_le ho hBC)

theorem SameBelow.of_frame (h : Frame M s t) (hm : M.testBit 0 = false) : SameBelow B s t := fun o _ => by
  rw [State.reg, h.regs hm, State.reg]

theorem SameBelow.of_regs (h : t.regs = s.regs) : SameBelow B s t := fun o _ => by rw [State.reg, h, State.reg]

/-- What keeps every register outside windows from `B` up keeps those below. -/
theorem Keeps.sameBelow (h : Keeps W s t) (hW : W % 2 ^ (B / 0x10000) = 0) : SameBelow (B / 0x10000 * 0x10000) s t := fun o ho => by
  refine h o ?_
  have hlt : o / 0x10000 < B / 0x10000 := Nat.div_lt_of_lt_mul (by omega)
  have hbit := congrArg (Nat.testBit · (o / 0x10000)) hW
  simpa [Nat.testBit_mod_two_pow, hlt] using hbit

theorem SameBelow.setReg {off : Nat} (w : Word) (h : SameBelow B s t) (ho : B ≤ off) : SameBelow B s (t.setReg off w) := fun o hlt =>
  (State.reg_setReg_other w (by omega)).trans (h o hlt)

theorem SameBelow.put {f : Fld} (v : Nat) (h : SameBelow B s t) (ho : B ≤ f.off) : SameBelow B s (t.put f v) := h.setReg _ ho

theorem SameBelow.bump {f : Fld} (h : SameBelow B s t) (ho : B ≤ f.off) : SameBelow B s (t.bump f) := h.setReg _ ho

theorem SameBelow.setWord {off : Nat} (v : Nat) (h : SameBelow B s t) (ho : B ≤ off) : SameBelow B s (t.setWord off v) := h.setReg _ ho

theorem SameBelow.setPair {lo hi : Nat} (v : Nat) (h : SameBelow B s t) (hlo : B ≤ lo) (hhi : B ≤ hi) :
    SameBelow B s (t.setPair lo hi v) := (h.setWord _ hlo).setWord _ hhi

theorem SameBelow.ite {c : Prop} {_ : Decidable c} (h : c → SameBelow B s t) (h' : ¬ c → SameBelow B s u) :
    SameBelow B s (if c then t else u) := by
  split
  · exact h ‹_›
  · exact h' ‹_›

theorem SameBelow.when {c : Bool} {f : State → State} (h : SameBelow B s t) (hf : c = true → SameBelow B t (f t)) :
    SameBelow B s (t.when c f) := by
  unfold State.when
  split
  · exact h.trans (hf ‹_›)
  · exact h

theorem SameBelow.foldl {α : Type} {f : State → α → State} (hf : ∀ s a, SameBelow B s (f s a)) (l : List α) :
    ∀ s, SameBelow B s (l.foldl f s) := by
  induction l with
  | nil => exact SameBelow.refl B
  | cons a l ih => exact fun s => (hf s a).trans (ih (f s a))

theorem SameBelow.forEach {n : Nat} {f : Nat → State → State} (hf : ∀ i s, SameBelow B s (f i s)) (s : State) :
    SameBelow B s (s.forEach n f) := SameBelow.foldl (fun t i => hf i t) _ s

theorem SameBelow.get {f : Fld} (h : SameBelow B s t) (ho : f.off < B) : t.get f = s.get f := by rw [State.get, h _ ho, State.get]

theorem SameBelow.getS {f : Fld} (h : SameBelow B s t) (ho : f.off < B) : t.getS f = s.getS f := by rw [State.getS, h.get ho, State.getS]

theorem SameBelow.flag {f : Fld} (h : SameBelow B s t) (ho : f.off < B) : t.flag f = s.flag f := by rw [State.flag, h.get ho, State.flag]

theorem SameBelow.word {off : Nat} (h : SameBelow B s t) (ho : off < B) : t.word off = s.word off := by rw [State.word, h _ ho, State.word]

/-- A property of states that each turn of a loop keeps. -/
theorem State.forEach_induction {P : State → Prop} {f : Nat → State → State} {n : Nat} (h0 : P s) (h : ∀ i < n, ∀ t, P t → P (f i t)) :
    P (s.forEach n f) := by
  unfold State.forEach
  have hl : ∀ l : List Nat, (∀ i ∈ l, i < n) → ∀ t, P t → P (l.foldl (fun t i => f i t) t) := by
    intro l
    induction l with
    | nil => exact fun _ _ ht => ht
    | cons i l ih => exact fun hi t ht => ih (fun j hj => hi j (by simp [hj])) _ (h i (hi i (by simp)) t ht)
  exact hl _ (fun i hi => List.mem_range.mp hi) s h0

end Below

/-! ### What the peat log and the scheduler keep -/

/-- The first register of the peat log: events, faults, misses and firing sources change none below. -/
abbrev plBase : Nat := 0x380000

section Events

variable (s : State)

theorem State.log_below {sev : Nat} (code cause inst data : Nat) (h : sev < 8) : SameBelow plBase s (s.log code sev cause inst data) :=
  (s.log_keeps code cause inst data h).sameBelow (B := plBase) rfl

theorem State.fire_below (e : Nat) : SameBelow plBase s (s.fire e) := (s.fire_keeps e).sameBelow (B := plBase) rfl

theorem State.raise_below {sev : Nat} (code cause inst data : Nat) (h : sev < 8) :
    SameBelow plBase s (s.raise code sev cause inst data) := (s.raise_keeps code cause inst data h).sameBelow (B := plBase) rfl

theorem State.deviceMiss_below {m : Nat} (h : m < 128) : SameBelow plBase s (s.deviceMiss m) :=
  (s.deviceMiss_keeps h).sameBelow (B := plBase) rfl

theorem State.auditAdd_below (n : AuditNote) : SameBelow plBase s (s.auditAdd n) := (s.auditAdd_keeps n).sameBelow (B := plBase) rfl

theorem State.deviceMet_below (m : Nat) (late : Bool) : SameBelow plBase s (s.deviceMet m late) :=
  (SameBelow.refl _ s).when fun _ => (SameBelow.refl _ s).put _ (show 0x380000 ≤ 0x3b0018 + 0x20 * m by omega)

/-- A count changes no register below its counter, its SAT bit and the peat log. -/
theorem State.count_below {B : Nat} {c : Cnt} (h : B ≤ c.off) (h' : B ≤ c.sat.off) (hB : B ≤ plBase) : SameBelow B s (s.count c) := by
  have hraw : SameBelow B s (s.countRaw c) := by
    unfold State.countRaw
    exact .ite (fun _ => .refl _ s) fun _ =>
      .ite (fun _ => ((SameBelow.refl _ s).setWord _ h).put _ h') fun _ => (SameBelow.refl _ s).setWord _ h
  simp only [State.count]
  exact .ite (fun _ => hraw.trans ((State.log_below _ _ _ _ _ (by decide)).weaken hB)) fun _ => hraw

end Events

end Sys2Proof.Machine
end

section
/-!
Register and memory access (00, 01): widths and alignment (R2, R316), what an accepted write stores (R6, R10), writes into legal MRAM
(R32), and accesses that go through (R28 to R30). Settles O12, O13, O16 and O20.
-/

set_option Elab.async false

namespace Sys2Proof.Machine

/-! ### Widths and alignment (R2, R3, R316) -/

/-- A row whose base and strides are multiples of four. -/
def RegSpec.aligned (r : RegSpec) : Bool := r.base % 4 == 0 && r.dims.all fun d => d.1 % 4 == 0

theorem tableOf_aligned : ∀ w < 64, ∀ r ∈ tableOf w, r.aligned = true := by decide +kernel

theorem indicesOf_aligned {ds : List (Nat × Nat)} (hd : ∀ d ∈ ds, d.1 % 4 = 0) :
    ∀ {n : Nat} {ix : List Nat}, indicesOf ds n = some ix → n % 4 = 0 := by
  induction ds with
  | nil =>
    intro n ix h
    simp only [indicesOf] at h
    split at h
    · omega
    · cases h
  | cons d ds ih =>
    intro n ix h
    obtain ⟨stride, count⟩ := d
    simp only [indicesOf] at h
    split at h
    · obtain ⟨ix', h', -⟩ := Option.map_eq_some_iff.mp h
      have hrest := ih (fun d hd' => hd d (List.mem_cons_of_mem _ hd')) h'
      have hstride : 4 ∣ stride := Nat.dvd_of_mod_eq_zero (hd (stride, count) (by simp))
      rwa [Nat.mod_mod_of_dvd _ hstride] at hrest
    · cases h

theorem indices_of_findReg {rs : List RegSpec} {off : Nat} {r : RegSpec} {ix : List Nat} (h : findReg rs off = some (r, ix)) :
    r.indices off = some ix := by
  induction rs with
  | nil => cases h
  | cons q rs ih =>
    simp only [findReg] at h
    split at h
    · next hq =>
      cases h
      exact hq
    · exact ih h

/-- A register lies at a multiple of four. -/
theorem lookup_aligned {off : Nat} {r : RegSpec} {ix : List Nat} (h : lookup off = some (r, ix)) : off % 4 = 0 := by
  have hlt := lookup_lt h
  have hr := tableOf_aligned (off / 0x10000) (by omega) r (mem_of_findReg h)
  have hix := indices_of_findReg h
  simp only [RegSpec.aligned, Bool.and_eq_true, beq_iff_eq, List.all_eq_true] at hr
  simp only [RegSpec.indices] at hix
  split at hix
  · have := indicesOf_aligned (fun d hd => hr.2 d hd) hix
    omega
  · cases hix

/-- A read of another width, or at no multiple of four, gives zero and changes nothing (R2). -/
theorem State.readAny_refused (s : State) {m : Master} {off width : Nat} (h : width ≠ 4 ∨ off % 4 ≠ 0)
    (htrap : coreTraps m off width = false) : s.readAny m off width = s.emit (.readData m off 0) := by
  by_cases hw : width = 4
  · subst hw
    have hoff : off % 4 ≠ 0 := by tauto
    have hl : lookup off = none := by
      by_contra hne
      obtain ⟨⟨r, ix⟩, hl⟩ := Option.ne_none_iff_exists'.mp hne
      exact hoff (lookup_aligned hl)
    have hread : s.busRead m off = (0, s) := if_pos (.inl hoff)
    simp [State.readAny, State.readOut, htrap, hl, hread]
  · simp [State.readAny, htrap, hw]

theorem State.busWrite_width (s : State) {m : Master} {off width v : Nat} (h : width ≠ 4 ∨ off % 4 ≠ 0)
    (htrap : coreTraps m off width = false) : s.busWrite m off width v = s.refuse m 0 off reasonWidth := by
  rw [State.busWrite, htrap, if_neg Bool.false_ne_true, if_pos h]

/-- The reason of a refused write stands in IG_CFG_REJ_INFO (R398). -/
theorem State.refuse_reason {s : State} (hs : s.canonical = true) (m : Master) (space off reason : Nat) :
    (s.refuse m space off reason).get IG_CFG_REJ_INFO_REASON = reason % 2 ^ (IG_CFG_REJ_INFO_REASON.hi + 1 - IG_CFG_REJ_INFO_REASON.lo) := by
  have h1 := State.canonical_regs ((s.count_frame cfgRej).canon hs)
  have h2 := State.put_wf (State.put_wf h1 IG_CFG_REJ_ADDR_SPACE space) IG_CFG_REJ_ADDR_OFFSET off
  rw [State.refuse, State.get_put_apart (State.put_wf h2 _ _) (by decide) (by decide) (by decide) (by decide),
    State.get_put_same h2 (by decide) (by decide)]

/-- Settles O12. The bus refuses such a write before it asks anything else, and no register lies where such a read could reach one. -/
theorem widthAndAlignment : Obligations.WidthAndAlignment := by
  refine ⟨?write, ?read, ?trap⟩
  case write =>
    intro s m off width v hs hon hbad hoff htrap
    refine runs_registerWrite hon ?_
    rw [s.busWrite_width hbad htrap]
    refine ⟨rfl, ?_, ?_, ?_, (s.refuse_frame m 0 off reasonWidth).mem rfl⟩
    · exact (State.refuse_addr hs m 0 off reasonWidth).2.trans (Nat.mod_eq_of_lt hoff)
    · exact State.refuse_reason hs m 0 off reasonWidth
    · exact State.refuse_word_rej (State.canonical_regs hs) m 0 off reasonWidth
  case read =>
    intro s m off width hon hoff hbad htrap
    have hread := s.readAny_refused hbad htrap
    exact ⟨runs_latchRead hon hoff hread, runs_partnerRead hon hoff hread⟩
  case trap =>
    intro s c off width v _ hon hoff hbad
    have htrap : coreTraps (.core c) off width = true := bne_iff_ne.mpr hbad
    refine ⟨runs_registerWrite hon ?_, runs_latchRead hon hoff ?_⟩
    · simp only [State.busWrite, htrap, if_true, State.misTrap]
    · simp only [State.readAny, htrap, if_true, State.misTrap, Bool.false_eq_true, if_false]

/-! ### Registers stored (R6, R10) -/

/-- The row of GL_SCRATCH in the register table. -/
def scratchRow : RegSpec := ⟨0x20, [], 0, .c, [.all 31 0 .rw]⟩

theorem lookup_scratchRow : lookup GL_SCRATCH = some (scratchRow, []) := by decide +kernel

/-- No block has an effect for a write of GL_SCRATCH. -/
theorem State.effects_scratch (s : State) (ix : List Nat) (old w : Word) : s.effects 0x20 ix old w = s := by
  simp only [State.effects, netEffect_other (base := 0x20) (by decide), hostEffect_other (base := 0x20) (by decide),
    schedEffect_other (base := 0x20) (by decide), laneEffect_other (base := 0x20) (by decide),
    analogueEffect_other (base := 0x20) (by decide), phasorEffect_other (base := 0x20) (by decide),
    streamEffect_other (base := 0x20) (by decide), alignEffect_other (base := 0x20) (by decide),
    oscillationEffect_other (base := 0x20) (by decide), islandEffect_other (base := 0x20) (by decide),
    alarmEffect_other (base := 0x20) (by decide), meterEffect_other (base := 0x20) (by decide),
    captureEffect_other (base := 0x20) (by decide), timeEffect_other (base := 0x20) (by decide),
    roleEffect_other (base := 0x20) (by decide)]
  rfl

/-- A row whose one field is the whole register takes the word written. -/
theorem RegSpec.written_whole {r : RegSpec} {f : FieldSpec} (hr : r.fields = [f]) (hf : f.hi = 31 ∧ f.lo = 0 ∧ f.acc = .rw) (old w : Word) :
    r.written old w = w := by
  obtain ⟨hhi, hlo, hacc⟩ := hf
  simp [RegSpec.written, hr, FieldSpec.written, hacc, hhi, hlo, Word.field_whole, Word.withField_whole]

/-- A write of a register below the configuration blocks is not remembered. -/
theorem State.remember_low {s : State} {m : Master} {r : RegSpec} {ix : List Nat} {off : Nat} {w : Word} (h : off < 0x10000)
    (hb : r.base ≠ CP_CTRL 0) : s.remember m r ix off w = s := by
  rw [State.remember, if_neg (fun h' => hb h'.2), if_neg (by omega)]

/-- What a counter's clearing leaves: both the counter and its SAT bit zero (R10). -/
theorem State.clearCount_zero {s : State} (hs : s.canonical = true) {off : Nat} {sat : Fld} (hoff : sat.off ≠ off) (hlo : sat.lo ≤ sat.hi)
    (hhi : sat.hi < 32) : (s.clearCount off sat).word off = 0 ∧ (s.clearCount off sat).get sat = 0 := by
  have hset := State.setReg_wf (State.canonical_regs hs) off (BitVec.ofNat 32 0)
  constructor
  · rw [State.word, State.clearCount, State.reg_put_other (f := sat) 0 hoff.symm]
    exact State.word_setWord_same (State.canonical_regs hs) off 0
  · exact (State.get_put_same hset hlo hhi 0).trans (Nat.zero_mod _)

/-- A write of a statistics counter clears it, whatever is audited first (R10). -/
theorem State.acceptWrite_counter (s : State) (m : Master) {r : RegSpec} {ix : List Nat} (off : Nat) (w : Word) {sat : Fld}
    (hsat : satOf r.base ix = some sat) :
    ∃ t, Frame 0x801 s t ∧ s.acceptWrite m r ix off w false = (t.clearCount off sat).remember m r ix off w := by
  refine ⟨s.when (r.legal && !false) fun s => s.auditWrite m r ix off (s.reg off) (r.written (s.reg off) w) w, ?_, ?_⟩
  · exact (Frame.refl _ s).when fun u hu => hu.step (State.auditWrite_frame u ..) rfl
  · simp only [State.acceptWrite, State.storeWrite, hsat]
    rfl

/-- Settles O13. GL_SCRATCH is one field that no block acts on; a counter's write is the clearing of its two fields, whatever is audited
before and remembered after. -/
theorem registerStores : Obligations.RegisterStores := by
  refine ⟨?scratch, ?clear⟩
  case scratch =>
    intro s m v hs ht
    have hlook := lookup_scratchRow
    refine runs_registerWrite (State.coreOn_takes ht) ?_
    rw [State.busWrite_takes hlook ht, State.acceptWrite_plain rfl rfl, State.remember_low (by decide) (by decide)]
    have hw := scratchRow.written_whole rfl ⟨rfl, rfl, rfl⟩ (s.reg GL_SCRATCH) (BitVec.ofNat 32 v)
    rw [hw, show scratchRow.base = 0x20 from rfl, State.effects_scratch]
    exact ⟨rfl, (State.word_setReg_same (State.canonical_regs hs) _ _).trans (BitVec.toNat_ofNat _ _)⟩
  case clear =>
    intro s m off v r ix sat hs ht hl hsat hne hlo hhi
    refine runs_core (execStatCounterClear.eq_1 ..) (decide_eq_true (lookup_lt hl)) (State.coreOn_takes ht) ?_
    obtain ⟨t, haudit, haccept⟩ := State.acceptWrite_counter s m off (BitVec.ofNat 32 v) hsat
    rw [State.busWrite_takes hl ht, haccept]
    have hzero := State.clearCount_zero (haudit.canon hs) hne hlo hhi
    have hclear := haudit.step (State.clearCount_frame t off sat) rfl
    obtain ⟨fw, hfw⟩ := State.remember_eq (t.clearCount off sat) m r ix off (BitVec.ofNat 32 v)
    rw [hfw]
    exact ⟨hzero.1, hzero.2, hclear.mem rfl, hclear.out rfl⟩

/-! ### Writes into legal MRAM (R32, R252 to R254) -/

/-- What a write by internal address does beside the bytes: no register, no audit record. -/
theorem State.viewWrite_audit (s : State) (a : Nat) (bs : List Byte) : (s.viewWrite a bs).meter.audit = s.meter.audit := by
  simp only [State.viewWrite]
  split <;> rfl

/-- The bytes stored stand in memory where they were written. -/
theorem State.viewWrite_memByte {s : State} (hs : s.canonical = true) (a : Nat) {bs : List Byte} {i : Nat} (hi : i < bs.length) :
    (s.viewWrite a bs).memByte (a + i) = bs.getD i 0 := by
  have hframe : Frame 0x109880 s ((if a < mramBase then (s.patchFen a bs).patchCapture a bs
      else (s.patchMeter a bs).patchChain a bs).patchPeat a bs) := by
    refine Frame.step (Frame.ite (fun _ => ?_) fun _ => ?_) (State.patchPeat_frame _ a bs) rfl
    · exact ((s.patchFen_frame a bs).weaken rfl).step (State.patchCapture_frame _ a bs) rfl
    · exact ((s.patchMeter_frame a bs).weaken rfl).step (State.patchChain_frame _ a bs) rfl
  have hcanon := hframe.canon hs
  simp only [State.canonical, Bool.and_eq_true] at hcanon
  exact (Memory.read_writeAll bs hcanon.2 hi).trans (by simp [hi])

/-- An entry appended to an audit log that has room: one more is used, and the seal is as it was (R252). -/
theorem State.auditAdd_room {s : State} (hs : s.canonical = true) (n : AuditNote) (h : s.get LA_COUNT_USED < 8127) :
    (s.auditAdd n).get LA_COUNT_USED = s.get LA_COUNT_USED + 1 ∧ (s.auditAdd n).word LA_SEAL = s.word LA_SEAL ∧
    ∃ e, (s.auditAdd n).meter.audit = s.meter.audit ++ [e] ∧ e.type = n.type ∧ e.master = n.master ∧ e.addrFirst = n.addrFirst := by
  have hput : s.auditAdd n = s.auditPut n := by
    rw [State.auditAdd, if_neg (by omega)]
    exact if_neg (by omega)
  rw [hput]
  refine ⟨?_, ?_, ⟨_, rfl, rfl, rfl, rfl⟩⟩
  · simp only [State.auditPut]
    rw [State.get_put_other (f := LA_STATUS_EXHAUSTED) _ (by decide), State.get_put_other (f := LA_STATUS_FULL) _ (by decide)]
    refine (State.get_put_same (f := LA_COUNT_USED) (State.canonical_regs hs) (by decide) (by decide) _).trans ?_
    exact Nat.mod_eq_of_lt (show s.get LA_COUNT_USED + 1 < 2 ^ 14 by omega)
  · simp only [State.auditPut, State.word]
    rw [State.reg_put_other (f := LA_STATUS_EXHAUSTED) _ (by decide), State.reg_put_other (f := LA_STATUS_FULL) _ (by decide),
      State.reg_put_other (f := LA_COUNT_USED) _ (by decide)]
    rfl

/-- Settles O16. The audit entry changes the count of entries and keeps the seal just counted; the bytes change no register. -/
theorem legalMramWrite : Obligations.LegalMramWrite := by
  have hwf : ∀ {m : Master} {off : Nat} {bytes : List Byte}, off + bytes.length ≤ 0x2200000 → 0 < bytes.length →
      (Instr.mramLegalWrite m off bytes).wf = true := fun h h0 => by
    simp only [Instr.wf, Bool.and_eq_true, decide_eq_true_eq]
    omega
  refine ⟨?room, ?full⟩
  case room =>
    intro s m off bytes hs hon hm hend hlen hroom
    refine runs_core (execMramLegalWrite.eq_1 ..) (hwf hend hlen) hon ?_
    have hfull : s.auditFull = false := decide_eq_false (by omega)
    simp only [State.mramWrite, hm, hfull, Bool.false_eq_true, if_false]
    generalize hnote : (AuditNote.mk 3 (masterCode m) 1 (bar4Base + off) _ 0 0 0xffff _ []) = note
    have hseal : (s.sealBy 1).word LA_SEAL = (s.word LA_SEAL + 1) % 2 ^ 32 := State.word_setWord_same (State.canonical_regs hs) _ _
    have hused : (s.sealBy 1).get LA_COUNT_USED = s.get LA_COUNT_USED := State.get_setWord_other _ (by decide)
    have hcanon := (s.sealBy_frame 1).canon hs
    have hadd := State.auditAdd_room hcanon note (by omega)
    have hcanon' := ((s.sealBy 1).auditAdd_frame note).canon hcanon
    generalize (s.sealBy 1).auditAdd note = t at hadd hcanon'
    obtain ⟨hcount, hsealed, e, haudit, htype, hmaster, hfirst⟩ := hadd
    have hregs : (t.viewWrite (bar4Base + off) bytes).regs = t.regs := (t.viewWrite_frame _ _).regs rfl
    refine ⟨fun i hi => State.viewWrite_memByte hcanon' _ hi, ?_, ?_, e, ?_, ?_⟩
    · rw [State.word, State.reg, hregs]
      exact hsealed.trans hseal
    · rw [State.get, State.reg, hregs]
      exact hcount.trans (by rw [hused])
    · exact (t.viewWrite_audit _ _).trans haudit
    · subst hnote
      exact ⟨htype, hmaster, hfirst⟩
  case full =>
    intro s m off bytes hon hm hend hlen hfull
    refine runs_core (execMramLegalWrite.eq_1 ..) (hwf hend hlen) hon ?_
    have hfull' : s.auditFull = true := decide_eq_true hfull
    simp only [State.mramWrite, hm, hfull', Bool.false_eq_true, if_false, if_true]
    exact ⟨trivial, (s.refuse_frame m 1 off reasonAudit).mem rfl, (s.refuse_frame m 1 off reasonAudit).meter rfl⟩

/-! ### Accesses that go through (R6, R28 to R30) -/

/-- An address of DRAM lies in a target. -/
theorem unmapped_dram {a : Nat} (h : a < 0x800000000) : unmapped a = false := by
  rw [unmapped, if_pos h]

/-- Below MRAM nothing is silent. -/
theorem mramSilent_below {a : Nat} (h : a < bar4Base) : mramSilent a = false := by
  unfold mramSilent
  generalize bar4Base = b at *
  have hlow (k : Nat) : decide (b + k ≤ a) = false := decide_eq_false (Nat.not_le.mpr (Nat.lt_add_right k h))
  rw [hlow, hlow]
  rfl

/-- A write into DRAM stores its bytes (R28). -/
theorem State.access_write_dram {s : State} {m : Master} {a : Nat} {bs : List Byte} (ha : a < 0x800000000)
    (htrap : coreTraps m a bs.length = false) (hstop : s.flag (SL_STATUS_STOPPED 23) = false) :
    s.access m a true bs = s.viewWrite a bs := by
  have hbar0 : ¬ (bar0Base ≤ a ∧ a < bar0Base + 0x4000000) := fun h => by simp only [bar0Base] at h; omega
  have hhost : ¬ 0x800000000000 ≤ a := by omega
  have hbar4 : ¬ (bar4Base ≤ a ∧ a < bar4Base + 0x2200000) := fun h => by simp only [bar4Base] at h; omega
  have hsilent := mramSilent_below (a := a) (by simp only [bar4Base]; omega)
  rw [State.access, htrap, if_neg Bool.false_ne_true, unmapped_dram ha, if_neg Bool.false_ne_true, if_neg hbar0, if_neg hhost]
  simp only [hstop, State.memStore, hbar4, hsilent, if_true, if_false, Bool.false_eq_true, and_false]

/-- A read of DRAM that meets no bad word gives its bytes (R30). -/
theorem State.access_read_dram {s : State} {m : Master} {a : Nat} {bs : List Byte} (ha : a < 0x800000000)
    (htrap : coreTraps m a bs.length = false) (hstop : s.flag (SL_STATUS_STOPPED 24) = false) (hbad : s.badWord a bs.length = none) :
    s.access m a false bs = s.emit (.memData m a (s.viewRead a bs.length) false) := by
  have hbar0 : ¬ (bar0Base ≤ a ∧ a < bar0Base + 0x4000000) := fun h => by simp only [bar0Base] at h; omega
  have hhost : ¬ 0x800000000000 ≤ a := by omega
  have hsilent := mramSilent_below (a := a) (by simp only [bar4Base]; omega)
  rw [State.access, htrap, if_neg Bool.false_ne_true, unmapped_dram ha, if_neg Bool.false_ne_true, if_neg hbar0, if_neg hhost]
  simp only [hstop, State.memLoad, hbad, hsilent, if_false, Bool.false_eq_true, and_false]

/-- A write to host memory goes out (R28). -/
theorem State.access_write_host {s : State} {m : Master} {a : Nat} {bs : List Byte} (ha : 0x800000000000 ≤ a)
    (htrap : coreTraps m a bs.length = false) : s.access m a true bs = s.emit (.hostWrite (a - 0x800000000000) bs) := by
  have hbar0 : ¬ (bar0Base ≤ a ∧ a < bar0Base + 0x4000000) := fun h => by simp only [bar0Base] at h; omega
  have hun : unmapped a = false := by
    have h1 : ¬ a < 0x800000000 := by omega
    have h2 : ¬ (bar4Base ≤ a ∧ a < bar4Base + 0xa000000) := fun h => by simp only [bar4Base] at h; omega
    have h3 : ¬ (bar4Base + 0xc000000 ≤ a ∧ a < bar4Base + 0xc100000) := fun h => by simp only [bar4Base] at h; omega
    rw [unmapped, if_neg h1, if_neg h2, if_neg h3, if_neg hbar0]
    exact decide_eq_false (by omega)
  simp only [State.access, htrap, hun, hbar0, ha, if_true, if_false, Bool.false_eq_true]

/-- Settles O20, clause by clause: the bus, DRAM and host memory. -/
theorem accesses : Obligations.Accesses := by
  refine ⟨?write, ?dram, ?host⟩
  case write =>
    intro s m off v r ix ht hl hsat
    refine runs_registerWrite (State.coreOn_takes ht) ?_
    rw [State.busWrite_takes hl ht]
    simp only [State.acceptWrite, State.storeWrite, hsat, Bool.not_false, Bool.and_true]
  case dram =>
    intro s m addr bytes _ hon hlen hend htrap hw hr
    exact ⟨runs_internalAccess hon hlen (by omega) (State.access_write_dram (by omega) htrap hw),
      fun hbad => runs_internalAccess hon hlen (by omega) (State.access_read_dram (by omega) htrap hr hbad)⟩
  case host =>
    intro s m addr bytes hon hlen hlow hend htrap
    exact runs_internalAccess hon hlen hend (State.access_write_host hlow htrap)

end Sys2Proof.Machine
end

section
/-!
What a stored write leaves in the fields of its register (R6): each field by its access type, the other registers as they were.
-/

set_option Elab.async false

namespace Sys2Proof.Machine

/-! ### Fields of a written register -/

/-- A field of a row lies in a register. -/
def FieldSpec.sound (f : FieldSpec) : Bool := decide (f.lo ≤ f.hi) && decide (f.hi < 32)

/-- Two fields of a row share no bit. -/
def FieldSpec.apart (f g : FieldSpec) : Bool := decide (f.hi < g.lo) || decide (g.hi < f.lo)

/-- A row whose fields lie in the register and share no bit. -/
def RegSpec.tidy (r : RegSpec) : Bool := r.fields.all FieldSpec.sound && decide (r.fields.Pairwise fun f g => f.apart g = true)

/-- What a write leaves in a field, by its access type (R6). -/
def FieldSpec.leaves (f : FieldSpec) (old w : Word) : Nat :=
  match f.acc with
  | .ro => old.field f.hi f.lo
  | .rw => w.field f.hi f.lo
  | .rwl => w.field f.hi f.lo
  | .wo => 0
  | .w1c => old.field f.hi f.lo - (old.field f.hi f.lo &&& w.field f.hi f.lo)
  | .w1s => old.field f.hi f.lo ||| w.field f.hi f.lo

theorem Word.field_withField_apart (w : Word) {f g : FieldSpec} (v : Nat) (hf : f.sound = true) (hg : g.sound = true)
    (h : f.apart g = true) : (w.withField f.hi f.lo v).field g.hi g.lo = w.field g.hi g.lo := by
  simp only [FieldSpec.sound, Bool.and_eq_true, decide_eq_true_eq] at hf hg
  simp only [FieldSpec.apart, Bool.or_eq_true, decide_eq_true_eq] at h
  rcases h with h | h
  · exact Word.field_withField_above w v hf.1 hf.2 h
  · exact Word.field_withField_below w v hf.1 hf.2 h hg.1

/-- A field's write leaves the others. -/
theorem FieldSpec.written_apart {f g : FieldSpec} (hf : f.sound = true) (hg : g.sound = true) (h : f.apart g = true) (old w acc : Word) :
    (f.written old w acc).field g.hi g.lo = acc.field g.hi g.lo := by
  unfold FieldSpec.written
  split
  · rfl
  all_goals exact Word.field_withField_apart acc _ hf hg h

/-- A field's write leaves in it what its access type says. -/
theorem FieldSpec.written_field {f : FieldSpec} (hf : f.sound = true) (old w : Word) {acc : Word}
    (h : acc.field f.hi f.lo = old.field f.hi f.lo) : (f.written old w acc).field f.hi f.lo = f.leaves old w := by
  simp only [FieldSpec.sound, Bool.and_eq_true, decide_eq_true_eq] at hf
  obtain ⟨hlo, hhi⟩ := hf
  have hold := Word.field_lt old f.hi f.lo
  have hnew := Word.field_lt w f.hi f.lo
  have hput (v : Nat) (hv : v < 2 ^ (f.hi + 1 - f.lo)) : (acc.withField f.hi f.lo v).field f.hi f.lo = v :=
    (Word.field_withField_same acc v hlo hhi).trans (Nat.mod_eq_of_lt hv)
  unfold FieldSpec.written FieldSpec.leaves
  split
  · next ha => simp only [ha, h]
  · next ha => simp only [ha, hput _ hnew]
  · next ha => simp only [ha, hput _ hnew]
  · next ha => simp only [ha, hput _ (Nat.two_pow_pos _)]
  · next ha => simp only [ha, hput _ (Nat.lt_of_le_of_lt (Nat.sub_le _ _) hold)]
  · next ha => simp only [ha, hput _ (Nat.or_lt_two_pow hold hnew)]

/-- Writes of other fields leave a field as it was. -/
theorem foldl_written_apart {fs : List FieldSpec} {g : FieldSpec} (hg : g.sound = true) (old w : Word)
    (h : ∀ f ∈ fs, f.sound = true ∧ f.apart g = true) :
    ∀ acc : Word, (fs.foldl (fun a f => f.written old w a) acc).field g.hi g.lo = acc.field g.hi g.lo := by
  induction fs with
  | nil => exact fun _ => rfl
  | cons f fs ih =>
    obtain ⟨hf, hfg⟩ := h f (by simp)
    exact fun acc => (ih (fun f' hf' => h f' (by simp [hf'])) _).trans (FieldSpec.written_apart hf hg hfg old w acc)

theorem FieldSpec.apart_comm (f g : FieldSpec) : f.apart g = g.apart f := Bool.or_comm _ _

theorem foldl_written_field {fs : List FieldSpec} {f : FieldSpec} (hs : ∀ g ∈ fs, g.sound = true)
    (hp : fs.Pairwise fun f g => f.apart g = true) (hf : f ∈ fs) (old w : Word) :
    ∀ acc : Word, acc.field f.hi f.lo = old.field f.hi f.lo →
      (fs.foldl (fun a f => f.written old w a) acc).field f.hi f.lo = f.leaves old w := by
  induction fs with
  | nil => cases hf
  | cons g fs ih =>
    intro acc hacc
    obtain ⟨hg, hrest⟩ := List.pairwise_cons.mp hp
    rcases List.mem_cons.mp hf with rfl | hmem
    · rw [List.foldl_cons, foldl_written_apart (hs f (by simp)) old w fun f' hf' => ⟨hs f' (by simp [hf']), FieldSpec.apart_comm f f' ▸ hg f' hf'⟩]
      exact FieldSpec.written_field (hs f (by simp)) old w hacc
    · exact ih (fun g' hg' => hs g' (by simp [hg'])) hrest hmem _
        ((FieldSpec.written_apart (hs g (by simp)) (hs f (by simp [hmem])) (hg f hmem) old w acc).trans hacc)

/-- A write leaves in each field of a register what the field's access type says (R6). -/
theorem RegSpec.written_field {r : RegSpec} {f : FieldSpec} (hr : r.tidy = true) (hf : f ∈ r.fields) (old w : Word) :
    (r.written old w).field f.hi f.lo = f.leaves old w := by
  simp only [RegSpec.tidy, Bool.and_eq_true, List.all_eq_true, decide_eq_true_eq] at hr
  exact foldl_written_field hr.1 hr.2 hf old w old rfl

/-! ### The state that a stored write leaves -/

section Stored

variable {s : State} {m : Master} {off v : Nat} {r : RegSpec} {ix : List Nat}

/-- A write of a register that is not audited stores its word and no more. -/
theorem State.stored_plain (hl : lookup off = some (r, ix)) (hleg : r.legal = false) :
    s.stored m off v = s.setReg off (r.written (s.reg off) (BitVec.ofNat 32 v)) := by
  simp only [State.stored, hl, hleg, State.when, Bool.false_eq_true, if_false]

theorem State.stored_canonical (hs : s.canonical = true) : (s.stored m off v).canonical = true := (s.stored_frame m off v).canon hs

/-- The state that the audit of a write leaves. -/
theorem State.stored_audited (s : State) (m : Master) (v : Nat) (hl : lookup off = some (r, ix)) :
    ∃ t, Frame 0x801 s t ∧ Keeps winPl s t ∧ s.stored m off v = t.setReg off (r.written (t.reg off) (BitVec.ofNat 32 v)) := by
  refine ⟨s.when r.legal fun t => t.auditWrite m r ix off (s.reg off) (r.written (s.reg off) (BitVec.ofNat 32 v)) (BitVec.ofNat 32 v),
    ?_, ?_, by simp only [State.stored, hl]⟩
  · exact (Frame.refl _ s).when fun u hu => hu.step (State.auditWrite_frame u ..) rfl
  · exact (Keeps.refl _ s).when fun _ => s.auditWrite_keeps m r ix off _ _ _

/-- What stands in the register after a write. -/
theorem State.stored_reg (hs : s.canonical = true) (hl : lookup off = some (r, ix)) (ho : off < plBase) :
    (s.stored m off v).reg off = r.written (s.reg off) (BitVec.ofNat 32 v) := by
  obtain ⟨t, hframe, hkeeps, ht⟩ := s.stored_audited m v hl
  rw [ht, State.reg_setReg_same (State.canonical_regs (hframe.canon hs)), (hkeeps.sameBelow (B := plBase) rfl) off ho]

/-- What a write leaves in a field of its register, by the field's access type (R6). -/
theorem State.stored_get (hs : s.canonical = true) (hl : lookup off = some (r, ix)) (ho : off < plBase) (hr : r.tidy = true) {f : FieldSpec}
    (hf : f ∈ r.fields) : (s.stored m off v).get ⟨off, f.hi, f.lo⟩ = f.leaves (s.reg off) (BitVec.ofNat 32 v) := by
  rw [State.get, State.stored_reg hs hl ho]
  exact RegSpec.written_field hr hf _ _

/-- A write leaves every other register below the peat log. -/
theorem State.stored_reg_other {o : Nat} (h : o ≠ off) (ho : o < plBase) : (s.stored m off v).reg o = s.reg o := by
  cases hl : lookup off with
  | none => simp only [State.stored, hl]
  | some p =>
    obtain ⟨r, ix⟩ := p
    obtain ⟨t, -, hkeeps, ht⟩ := s.stored_audited m v hl
    rw [ht, State.reg_setReg_other _ h, (hkeeps.sameBelow (B := plBase) rfl) o ho]

theorem State.stored_get_other {f : Fld} (h : f.off ≠ off) (ho : f.off < plBase) : (s.stored m off v).get f = s.get f := by
  rw [State.get, State.stored_reg_other h ho, State.get]

theorem State.stored_flag_other {f : Fld} (h : f.off ≠ off) (ho : f.off < plBase) : (s.stored m off v).flag f = s.flag f := by
  rw [State.flag, State.stored_get_other h ho, State.flag]

theorem State.stored_word_other {o : Nat} (h : o ≠ off) (ho : o < plBase) : (s.stored m off v).word o = s.word o := by
  rw [State.word, State.stored_reg_other h ho, State.word]

/-- What is remembered of a write changes no register. -/
@[simp] theorem State.recorded_reg (s : State) (m : Master) (off v o : Nat) : (s.recorded m off v).reg o = s.reg o := by
  obtain ⟨fw, h⟩ := s.recorded_eq m off v
  rw [h]
  rfl

@[simp] theorem State.recorded_get (s : State) (m : Master) (off v : Nat) (f : Fld) : (s.recorded m off v).get f = s.get f := by
  rw [State.get, State.recorded_reg, State.get]

@[simp] theorem State.recorded_flag (s : State) (m : Master) (off v : Nat) (f : Fld) : (s.recorded m off v).flag f = s.flag f := by
  rw [State.flag, State.recorded_get, State.flag]

@[simp] theorem State.recorded_word (s : State) (m : Master) (off v o : Nat) : (s.recorded m off v).word o = s.word o := by
  rw [State.word, State.recorded_reg, State.word]

/-- A bit of a word given as a number. -/
theorem Word.bit_ofNat {v : Nat} (hv : v < 2 ^ 32) : Word.field (BitVec.ofNat 32 v) 0 0 = v % 2 := by
  rw [Word.field_ofNat 0 0 hv]
  omega

end Stored

end Sys2Proof.Machine
end

section
/-!
Time base and calendar (02): the inputs of the time base and the timers of its sources, its outputs and commands, and the calendar.
Settles O21, O22 and O23.
-/

set_option Elab.async false

namespace Sys2Proof.Machine

/-- The path delay shown fits its field. -/
theorem pathDelay_lt (d : Option Int) : pathDelay d < 2 ^ 16 := by
  cases d with
  | none => decide
  | some v =>
    simp only [pathDelay]
    split <;> omega

/-- Settles O21, clause by clause. -/
theorem timeInputs : Obligations.TimeInputs := by
  refine ⟨?message, ?delay, ?announce, ?sync, ?wait, ?peerTx, ?announceTx, ?syncTx, ?edge, ?window, ?sentence, ?badSentence, ?silent, ?silentSource⟩
  case message =>
    intro s p m hp hon hen htr
    refine runs_core (execPtpMessageRx.eq_1 ..) (decide_eq_true hp) hon ?_
    simp [hen, htr]
  case delay =>
    intro s p m turn hs hp hon hen htr hbad hbody
    refine runs_core (execPtpMessageRx.eq_1 ..) (decide_eq_true hp) hon ?_
    simp only [hen, htr, hbad, hbody, State.ptpUse, not_true_eq_false, ne_eq, or_self, if_false, Bool.false_eq_true, Option.map_some]
    refine ⟨?_, ?_⟩
    · exact congrArg PtpPort.delay (Store.get_set_of_ne _ p fun h => Option.some_ne_none _ (congrArg PtpPort.delay h))
    · exact State.get_put_fit (s := s.setPtp p _) (State.canonical_of_regs hs rfl rfl) rfl (pathDelay_lt _)
  case announce =>
    intro s p hp hon hslave hgm hdue
    refine runs_core (execAnnounceTimeout.eq_1 ..) (decide_eq_true hp) hon ?_
    exact if_pos ⟨hslave, hgm, hdue⟩
  case sync =>
    intro s p hp hon hslave hgm hdue
    refine runs_core (execSyncTimeout.eq_1 ..) (decide_eq_true hp) hon ?_
    exact if_pos ⟨hslave, hgm, hdue⟩
  case wait =>
    intro s t hon hwait hdue
    refine runs_core (execPortQualifyWaitEnd.eq_1 ..) rfl hon ?_
    simp only [hwait, hdue, if_true]
  case peerTx =>
    intro s p hp hon hen
    refine runs_core (execPtpMasterTx.eq_1 ..) (by simp [Instr.wf, hp]) hon ?_
    simp only [hen, if_true]
  case announceTx =>
    intro s p hp hon hmaster
    refine runs_core (execPtpMasterTx.eq_1 ..) (by simp [Instr.wf, hp]) hon ?_
    simp [hmaster]
  case syncTx =>
    intro s p hp hon hmaster h1 h2
    refine runs_core (execPtpMasterTx.eq_1 ..) (by simp [Instr.wf, hp]) hon ?_
    simp [hmaster, h2]
  case edge =>
    intro s rising us hon hgm hpol hwin
    refine runs_core (execPpsInEdge.eq_1 ..) rfl hon ?_
    simp only [hgm, hpol, not_true_eq_false, or_self, if_false]
    cases hlast : s.time.ppsLast with
    | none => simp
    | some t =>
      obtain ⟨h1, h2⟩ := hwin t hlast
      simp [h1, h2]
  case window =>
    intro s hon hgm hwin
    refine runs_core (execPpsWindowMiss.eq_1 ..) rfl hon ?_
    exact if_pos ⟨hgm, hwin⟩
  case sentence =>
    intro s z hon hgm hform hsum hagrees
    refine runs_core (execTodSentenceRx.eq_1 ..) rfl hon ?_
    simp only [hgm, hform, hsum, not_true_eq_false, false_or, if_false]
    cases hlast : s.time.ppsTai with
    | none => simp
    | some t => simp [hagrees t hlast]
  case badSentence =>
    intro s z hon hgm hbad
    refine runs_core (execTodSentenceRx.eq_1 ..) rfl hon ?_
    rcases hbad with h | h <;> simp [hgm, h]
  case silent =>
    intro s t hon hgm hlast hdue hsrc
    refine runs_core (execTodTimeout.eq_1 ..) rfl hon ?_
    simp only [hlast, hgm, hdue, and_self, if_true]
    exact if_neg hsrc
  case silentSource =>
    intro s t hon hgm hlast hdue hsrc
    refine runs_core (execTodTimeout.eq_1 ..) rfl hon ?_
    simp only [hlast, hgm, hdue, and_self, if_true]
    exact if_pos hsrc

/-! ### Outputs of the time base -/

theorem boundCode_lt (e : Nat) : boundCode e < 16 := by
  unfold boundCode
  cases h : (List.range 8).find? fun i => decide (e ≤ 100 * 10 ^ i) with
  | none => decide
  | some i =>
    have := List.mem_range.mp (List.mem_of_find?_eq_some h)
    show i < 16
    omega

/-- The code of the bound as it stands fits its field. -/
theorem State.boundCode_now_lt (s : State) : (s.boundNow.map boundCode).getD 15 < 16 := by
  cases s.boundNow with
  | none => decide
  | some e => exact boundCode_lt e

/-- The quality shown: the register of the code, and no other register changes. -/
theorem State.showQuality_regs (s : State) :
    s.showQuality.regs = (s.put TB_STATUS_QUALITY (if s.timeState = tsFreerun then 15 else (s.boundNow.map boundCode).getD 15)).regs := by
  rw [State.showQuality, (State.noteQual_frame _).regs rfl, (State.ppsHold_frame _).regs rfl]

theorem State.get_of_regs {s t : State} (h : t.regs = s.regs) (f : Fld) : t.get f = s.get f := by
  rw [State.get, State.reg, h, State.get, State.reg]

/-- The quality shown leaves the other fields. -/
theorem State.showQuality_get {s : State} (hs : s.canonical = true) {f : Fld} (h : TB_STATUS_QUALITY.apart f = true) :
    s.showQuality.get f = s.get f := by
  rw [State.get_of_regs s.showQuality_regs, State.get_put_beside hs h]

/-- A change of time state to ACQUIRE, which leaves neither LOCKED nor ACQUIRE, shows it. -/
theorem State.timeTo_acquire {s : State} (hs : s.canonical = true) (h : s.timeState = tsFreerun ∨ s.timeState = tsFault) :
    (s.timeTo tsAcquire).timeState = tsAcquire := by
  have hne : s.timeState ≠ tsAcquire := by rcases h with h | h <;> rw [h] <;> decide
  have hunlocked : (s.timeState == tsLocked) = false := by rcases h with h | h <;> rw [h] <;> rfl
  simp only [State.timeTo, if_neg hne, hunlocked, State.when, Bool.false_and, Bool.false_eq_true, if_false,
    show (tsAcquire == tsLocked) = false from rfl]
  rw [State.timeState]
  rw [(State.fire_below _ _).get (by decide), State.get_of_regs ((State.timeConds_frame _ _).regs rfl),
    (State.raise_below _ _ _ _ _ (by decide)).get (by decide), State.showQuality_get (State.canonical_put hs _ _) rfl]
  exact State.get_put_fit hs rfl (by decide)

theorem State.slewEnd_get {f : Fld} (s : State) (h : f.off ≠ TB_RATE) : s.slewEnd.get f = s.get f := by
  unfold State.slewEnd
  split
  · exact State.get_setWord_other _ h
  · rfl

/-- Acquiring from FREERUN or FAULT ends in ACQUIRE (R45). -/
theorem State.acquire_timeState {s : State} (hs : s.canonical = true) (h : s.timeState = tsFreerun ∨ s.timeState = tsFault) :
    s.acquire.timeState = tsAcquire := by
  have hslew : ({ s.slewEnd with time := { s.slewEnd.time with lockRun := 0 } } : State).canonical = true :=
    State.canonical_of_regs (s.slewEnd_frame.canon hs) rfl rfl
  have hused := State.canonical_put hslew TB_STATUS_STEP_USED 0
  refine State.timeTo_acquire (State.canonical_of_regs hused rfl rfl) ?_
  have hkeep : (State.put { s.slewEnd with time := { s.slewEnd.time with lockRun := 0 } } TB_STATUS_STEP_USED 0).timeState = s.timeState :=
    (State.get_put_beside (f := TB_STATUS_STEP_USED) (g := TB_STATUS_STATE) hslew rfl 0).trans (s.slewEnd_get (by decide))
  exact hkeep.symm ▸ h

/-- Whether the pulse is permitted stands in registers of the time base, which a firing source leaves. -/
theorem State.fire_ppsAllowed (s : State) (e : Nat) : (s.fire e).ppsAllowed = s.ppsAllowed := by
  have hkeep := s.fire_below e
  simp only [State.ppsAllowed, State.timeState, hkeep.flag (f := TB_CTRL_PPS_OUT_EN) (by decide), hkeep.get (f := TB_STATUS_STATE) (by decide),
    hkeep.get (f := TB_STATUS_QUALITY) (by decide), hkeep.get (f := TB_PPS_CFG_OUT_MIN_Q) (by decide)]

/-- Settles O22, clause by clause. The second fires a source before it looks at the permission, and the tick of the quality code shows it
before it compares; neither touches what is then read. -/
theorem timeOutputs : Obligations.TimeOutputs := by
  refine ⟨?second, ?pulseEnd, ?sentence, ?quality, ?acquire, ?step⟩
  case second =>
    intro s hon hfirst hnew
    refine runs_core (execTaiSecond.eq_1 ..) rfl hon ?_
    have hdue : ¬ (16 ≤ s.time.tai % 1000000000 ∨ s.time.tai / 1000000000 = s.time.lastSecond) := by omega
    simp only [if_neg hdue]
    generalize hu : ({ s with time := { s.time with lastSecond := s.time.tai / 1000000000 } } : State) = u
    have htime : (u.fire 8).time = { s.time with lastSecond := s.time.tai / 1000000000 } := by
      rw [(u.fire_frame 8).time rfl, ← hu]
    have hkeep := u.fire_below 8
    have hallowed : (u.fire 8).ppsAllowed = s.ppsAllowed := by rw [State.fire_ppsAllowed, ← hu]; rfl
    have hget (f : Fld) (hf : f.off < plBase) : (u.fire 8).get f = s.get f := by rw [hkeep.get hf, ← hu]; rfl
    rw [hallowed]
    split
    · next h =>
      refine ⟨by simp [htime], fun _ => ⟨?_, ?_, ?_⟩, fun h' => ?_⟩
      · simp [htime, hget TB_PPS_CFG_OUT_WIDTH (by decide)]
      · simp [htime]
      · simp [State.flag, hget TB_PPS_CFG_OUT_POL (by decide)]
      · simp [h] at h'
    · next h => exact ⟨by simp [htime], fun h' => absurd h' h, fun _ => by simp [htime]⟩
  case pulseEnd =>
    intro s t hon hends hdue
    refine runs_core (execPpsOutEnd.eq_1 ..) rfl hon ?_
    simp only [hends, if_pos hdue]
  case sentence =>
    intro s t hon hfrom hen hlow hhigh
    refine runs_core (execTodTxSend.eq_1 ..) rfl hon ?_
    simp only [hfrom, hen, hlow, hhigh, and_self, if_true]
  case quality =>
    intro s hs hon hgrows hrun hlimit
    refine runs_core (execQualityTick.eq_1 ..) rfl hon ?_
    have hcode : s.showQuality.get TB_STATUS_QUALITY = (s.boundNow.map boundCode).getD 15 := by
      rw [State.get_of_regs s.showQuality_regs, if_neg hrun]
      exact State.get_put_fit hs rfl s.boundCode_now_lt
    have hstate : s.showQuality.get TB_STATUS_STATE = s.get TB_STATUS_STATE := State.showQuality_get hs rfl
    have hhold : s.showQuality.get TB_HOLD_CFG_LIMIT = s.get TB_HOLD_CFG_LIMIT := by
      rw [State.get_of_regs s.showQuality_regs, State.get_put_other _ (by decide)]
    have hstay : ¬ (s.showQuality.timeState = tsHoldover ∧ s.showQuality.get TB_HOLD_CFG_LIMIT < s.showQuality.get TB_STATUS_QUALITY) := by
      rintro ⟨h, hlt⟩
      have := hlimit (hstate.symm.trans h)
      omega
    simp only [hgrows, not_true_eq_false, if_false, if_neg hstay]
    exact ⟨hcode, hstate⟩
  case acquire =>
    intro s h hs hq hserve hstate hsrc
    refine runs_core (execTimeAcquire.eq_1 ..) (decide_eq_true hq) (State.coreOn_serves hserve) ?_
    rw [State.command_runs hserve rfl rfl]
    exact ⟨if_pos ⟨hstate, hsrc⟩, State.acquire_timeState hs hstate⟩
  case step =>
    intro s h mode sec ns d hq hserve hfield hd hlow hhigh
    have hin : ¬ ((s.time.tai : Int) + d < 0 ∨ (2 ^ 48 : Int) * 1000000000 ≤ s.time.tai + d) := by omega
    have hd' : d = if mode = 1 then sec * 1000000000 + ns - s.time.tai else sec * 1000000000 + ns := by
      rw [hd]
      split <;> omega
    refine ⟨fun hstate => ?_, fun hstate hused => ?_⟩
    all_goals
      refine runs_core (execTimeStep.eq_1 ..) (decide_eq_true hq) (State.coreOn_serves hserve) ?_
      rw [State.command_runs hserve hfield rfl]
      simp only [← hd', if_neg hin]
    · simp [hstate, State.when]
    · simp [hstate, hused, State.when]

/-! ### Signed codes -/

theorem codeOf_lt (n : Nat) (i : Int) : codeOf n i < 2 ^ n := by
  have h1 := Int.emod_nonneg i (b := ((2 ^ n : Nat) : Int)) (by positivity)
  have h2 := Int.emod_lt_of_pos i (b := ((2 ^ n : Nat) : Int)) (by positivity)
  unfold codeOf
  omega

/-- The code of a value that fits gives the value back. -/
theorem signedOf_codeOf {n : Nat} {i : Int} (hlow : -(2 ^ n : Nat) ≤ i) (hhigh : i < (2 ^ n : Nat)) : signedOf (n + 1) (codeOf (n + 1) i) = i := by
  have hcode : codeOf (n + 1) i % 2 ^ (n + 1) = codeOf (n + 1) i := Nat.mod_eq_of_lt (codeOf_lt _ _)
  have hpow : (2 : Nat) ^ (n + 1) = 2 * 2 ^ n := Nat.pow_succ' ..
  have hval : (codeOf (n + 1) i : Int) = if 0 ≤ i then i else i + (2 ^ (n + 1) : Nat) := by
    have hcast : (codeOf (n + 1) i : Int) = i % (2 ^ (n + 1) : Nat) :=
      Int.toNat_of_nonneg (Int.emod_nonneg i (by positivity))
    rw [hcast, hpow]
    split
    · exact Int.emod_eq_of_lt ‹_› (by omega)
    · rw [← Int.add_emod_right]
      exact Int.emod_eq_of_lt (by omega) (by omega)
  rw [signedOf, hcode, Nat.add_sub_cancel]
  generalize codeOf (n + 1) i = c at hval ⊢
  rw [hpow] at hval ⊢
  split at hval <;> split <;> omega

/-- A signed field written with a value it can hold reads back as written. -/
theorem State.getS_put_fit {s : State} (hs : s.canonical = true) {f : Fld} {n : Nat} (hf : f.sound = true) (hn : f.hi + 1 - f.lo = n + 1)
    {i : Int} (hlow : -(2 ^ n : Nat) ≤ i) (hhigh : i < (2 ^ n : Nat)) : (s.put f (codeOf (n + 1) i)).getS f = i := by
  rw [State.getS, State.get_put_fit hs hf (hn ▸ codeOf_lt _ _), hn]
  exact signedOf_codeOf hlow hhigh

/-! ### Alarms and the commit of the calendar (R59 to R61) -/

/-- An alarm that fires changes its own status, and what an event changes. -/
theorem State.alarmFire_reg_other (s : State) (n : Nat) (skipped replayed : Bool) {o : Nat} (h : o ≠ CAL_ALM_STAT n) (ho : o < plBase) :
    (s.alarmFire n skipped replayed).reg o = s.reg o := by
  have hput : ∀ (t : State) (f : Fld) (v : Nat), f.off = CAL_ALM_STAT n → (t.put f v).reg o = t.reg o := fun t f v hf =>
    State.reg_put_other v (hf ▸ h)
  have hevents : ∀ (t : State) (c : Bool), (t.when c fun t => (t.raise (EV_CAL_ALARM0 + n) sevInfo).fire (11 + n)).reg o = t.reg o := fun t c =>
    ((SameBelow.refl _ t).when fun _ => (State.raise_below t _ 0 0 0 (by decide)).trans (State.fire_below _ _)) o ho
  have hover : ∀ (t : State) (c : Bool), (t.when c fun t => t.put (CAL_ALM_STAT_OVERRUN n) 1).reg o = t.reg o := by
    intro t c
    unfold State.when
    split
    · exact hput _ _ _ rfl
    · rfl
  simp only [State.alarmFire]
  rw [hevents, hput _ _ _ rfl, hput _ _ _ rfl, hput _ _ _ rfl, hover]

/-- What an alarm that fires shows: FIRED, how it came to fire, and OVERRUN where the last one was not taken. -/
theorem State.alarmFire_shows {s : State} (hs : s.canonical = true) {n : Nat} (hn : n < 2) (skipped replayed : Bool) :
    (s.alarmFire n skipped replayed).flag (CAL_ALM_STAT_FIRED n) = true ∧
    (s.alarmFire n skipped replayed).flag (CAL_ALM_STAT_SKIPPED n) = skipped ∧
    (s.flag (CAL_ALM_STAT_FIRED n) = true → (s.alarmFire n skipped replayed).flag (CAL_ALM_STAT_OVERRUN n) = true) ∧
    (s.alarmFire n skipped replayed).flag (CAL_ALM_STAT_REPLAYED n) = replayed := by
  have hlow : CAL_ALM_STAT n < plBase := by simp only [CAL_ALM_STAT, plBase]; omega
  have hevents : ∀ (t : State) (f : Fld), f.off = CAL_ALM_STAT n →
      (t.when t.coreOn fun t => (t.raise (EV_CAL_ALARM0 + n) sevInfo).fire (11 + n)).flag f = t.flag f := fun t f hf =>
    ((SameBelow.refl _ t).when fun _ => (State.raise_below t _ 0 0 0 (by decide)).trans (State.fire_below _ _)).flag (hf ▸ hlow)
  simp only [State.alarmFire]
  have h0 : (s.when (s.flag (CAL_ALM_STAT_FIRED n)) fun s => s.put (CAL_ALM_STAT_OVERRUN n) 1).canonical = true := by
    unfold State.when
    split
    · exact State.canonical_put hs _ _
    · exact hs
  have hover : s.flag (CAL_ALM_STAT_FIRED n) = true →
      (s.when (s.flag (CAL_ALM_STAT_FIRED n)) fun s => s.put (CAL_ALM_STAT_OVERRUN n) 1).flag (CAL_ALM_STAT_OVERRUN n) = true := by
    intro h
    rw [State.when, if_pos h]
    exact State.flag_put_one hs rfl
  generalize (s.when (s.flag (CAL_ALM_STAT_FIRED n)) fun s => s.put (CAL_ALM_STAT_OVERRUN n) 1) = t at h0 hover
  have h1 := State.canonical_put h0 (CAL_ALM_STAT_FIRED n) 1
  have h2 := State.canonical_put h1 (CAL_ALM_STAT_SKIPPED n) (bit skipped)
  refine ⟨?_, ?_, fun h => ?_, ?_⟩
  · rw [hevents _ _ rfl, State.flag_put_beside h2 rfl, State.flag_put_beside h1 rfl, State.flag_put_one h0 rfl]
  · rw [hevents _ _ rfl, State.flag_put_beside h2 rfl, State.flag_put h1 rfl]
  · rw [hevents _ _ rfl, State.flag_put_beside h2 rfl, State.flag_put_beside h1 rfl, State.flag_put_beside h0 rfl, hover h]
  · rw [hevents _ _ rfl, State.flag_put h2 rfl]

/-- The calendar stands at a committed instant. -/
def CalCommitted (t : Nat) (u : State) : Prop := u.cal.ticks = t ∧ u.cal.inLeap = false ∧ u.get CAL_STATUS_VALID = 1

/-- Alarms skipped over by a commit leave it standing. -/
theorem CalCommitted.alarms {t : Nat} {u : State} (hu : CalCommitted t u) (a : Nat) :
    CalCommitted t (u.forEach 2 fun n s => if s.flag (CAL_ALM_CTRL_EN n) ∧ s.alarmBetween n a t then
      State.alarmFire { s with cal := { s.cal with matched := s.cal.matched.set n (if t % 32768 = 0 then some (2 * (t / 32768)) else none) } } n true false
      else s) := by
  refine State.forEach_induction (P := CalCommitted t) hu fun n hn v hv => ?_
  split
  · have hcal : ∀ w : State, (w.alarmFire n true false).cal = w.cal := fun w => (w.alarmFire_frame n true false).cal rfl
    have hne : CAL_STATUS_VALID.off ≠ CAL_ALM_STAT n := by simp only [CAL_STATUS_VALID, CAL_STATUS, CAL_ALM_STAT]; omega
    refine ⟨by rw [hcal]; exact hv.1, by rw [hcal]; exact hv.2.1, ?_⟩
    rw [State.get, State.alarmFire_reg_other _ n true false hne (by decide)]
    exact hv.2.2
  · exact hv

/-- What a commit of the calendar leaves (R59). -/
theorem State.calCommit_shows {s : State} (hs : s.canonical = true) (t : Nat) : CalCommitted t (s.calCommit t) := by
  unfold State.calCommit
  extract_lets a cal s1 s2
  have h1 : s1.canonical = true := State.canonical_of_regs hs rfl rfl
  have hvalid : s2.get CAL_STATUS_VALID = 1 :=
    (State.get_put_beside (f := CAL_STATUS_OSC_FAIL) (State.canonical_put h1 _ _) rfl 0).trans (State.get_put_fit h1 rfl (by decide))
  have hbase : CalCommitted t s2 := ⟨rfl, rfl, hvalid⟩
  split
  · exact hbase.alarms a
  · exact hbase

/-! ### The measurement of the rate trim (R62) -/

/-- The row of CAL_TRIM_CTRL in the register table. -/
def trimRow : RegSpec := ⟨0x30034, [], 0x0, .c, [⟨12, 11, .ro, false, 0, 3⟩, ⟨10, 10, .rw, false, 0, 1⟩, ⟨9, 9, .rw, false, 0, 1⟩,
  ⟨8, 3, .rw, false, 0, 63⟩, ⟨2, 1, .rw, false, 0, 1⟩, ⟨0, 0, .wo, false, 0, 1⟩]⟩

theorem lookup_trimRow : lookup CAL_TRIM_CTRL = some (trimRow, []) := lookup_CAL_TRIM_CTRL

/-- A measurement begins where its source is there: running, with no result (R62). -/
theorem State.trimBegin_shows {s : State} (hs : s.canonical = true) (h : s.get CAL_TRIM_CTRL_SRC ≠ 0 ∨ s.timeState = tsLocked) :
    s.trimBegin.get CAL_TRIM_CTRL_STATE = 1 ∧ s.trimBegin.time.trim = some ⟨s.time.tai + 1000000000000, s.cal.osc⟩ ∧
    s.trimBegin.word CAL_TRIM_RES = 0 := by
  have hcanon := State.canonical_setWord hs CAL_TRIM_RES 0
  have hsrc : (s.setWord CAL_TRIM_RES 0).get CAL_TRIM_CTRL_SRC = s.get CAL_TRIM_CTRL_SRC := State.get_setWord_other _ (by decide)
  have hstate : (s.setWord CAL_TRIM_RES 0).timeState = s.timeState := State.get_setWord_other _ (by decide)
  have hgo : ¬ ((s.setWord CAL_TRIM_RES 0).get CAL_TRIM_CTRL_SRC = 0 ∧ (s.setWord CAL_TRIM_RES 0).timeState ≠ tsLocked) := by
    rw [hsrc, hstate]
    tauto
  have hres : ((s.setWord CAL_TRIM_RES 0).put CAL_TRIM_CTRL_STATE 1).word CAL_TRIM_RES = 0 :=
    (State.word_put_other 1 (by decide)).trans (State.word_setWord_same (State.canonical_regs hs) _ _)
  simp only [State.trimBegin, if_neg hgo]
  exact ⟨State.get_put_fit (f := CAL_TRIM_CTRL_STATE) hcanon rfl (by decide), rfl, hres⟩

/-- What the end of a measurement shows before any automatic write: its result, and the setting of the trim as it was. -/
theorem trimShown {s : State} (hs : s.canonical = true) (c : Nat) (hc : c < 2 ^ 16) (bad : Bool) :
    let u := (((s.put CAL_TRIM_CTRL_STATE 2).put CAL_TRIM_RES_RESULT c).put CAL_TRIM_RES_VALID 1).put CAL_TRIM_RES_OUT_OF_RANGE (bit bad)
    u.canonical = true ∧ u.get CAL_TRIM_CTRL_STATE = 2 ∧ u.get CAL_TRIM_RES_VALID = 1 ∧ u.get CAL_TRIM_RES_RESULT = c ∧
      u.flag CAL_TRIM_RES_OUT_OF_RANGE = bad ∧ u.flag CAL_TRIM_CTRL_AUTO_WRITE = s.flag CAL_TRIM_CTRL_AUTO_WRITE ∧
      u.get CAL_TRIM_RATE = s.get CAL_TRIM_RATE := by
  intro u
  have h1 := State.canonical_put hs CAL_TRIM_CTRL_STATE 2
  have h2 := State.canonical_put h1 CAL_TRIM_RES_RESULT c
  have h3 := State.canonical_put h2 CAL_TRIM_RES_VALID 1
  refine ⟨State.canonical_put h3 _ _, ?_, ?_, ?_, State.flag_put h3 rfl bad, ?_, ?_⟩
  · rw [State.get_put_beside h3 rfl, State.get_put_beside h2 rfl, State.get_put_beside h1 rfl, State.get_put_fit hs rfl (by decide)]
  · rw [State.get_put_beside h3 rfl, State.get_put_fit h2 rfl (by decide)]
  · rw [State.get_put_beside h3 rfl, State.get_put_beside h2 rfl, State.get_put_fit h1 rfl hc]
  · rw [State.flag_put_beside h3 rfl, State.flag_put_beside h2 rfl, State.flag_put_beside h1 rfl, State.flag_put_beside hs rfl]
  · rw [State.get_put_beside h3 rfl, State.get_put_beside h2 rfl, State.get_put_beside h1 rfl, State.get_put_beside hs rfl]

/-- Settles O23, clause by clause: the registers that commit, alarm and trim show are read back through the fields written after them, and
the three outcomes of UTC midnight are the branches of one definition. -/
theorem calendarEvents : Obligations.CalendarEvents := by
  refine ⟨?commit, ?alarm, ?trimStart, ?trimEnd, ?inserted, ?deleted, ?offset⟩
  case commit =>
    intro s m v hs hv hodd ht
    have hrow := lookup_CAL_COMMIT
    refine runs_write (execCalCommit.eq_1 ..) (decide_eq_true hv) hrow rfl (.inl rfl) ht ?_
    have hgo : Word.field (BitVec.ofNat 32 v) 0 0 = 1 := (Word.bit_ofNat hv).trans hodd
    rw [effects_CAL_COMMIT]
    simp only [timeEffect, if_pos hgo]
    have hdate : (s.stored m CAL_COMMIT v).word CAL_SET_DATE = s.word CAL_SET_DATE := State.stored_word_other (by decide) (by decide)
    have htime : (s.stored m CAL_COMMIT v).word CAL_SET_TIME = s.word CAL_SET_TIME := State.stored_word_other (by decide) (by decide)
    have hstored := s.stored_frame m CAL_COMMIT v
    rw [hdate, htime]
    obtain ⟨hticks, hleap, hvalid⟩ := State.calCommit_shows (hstored.canon hs) (calTicks (s.word CAL_SET_DATE) (s.word CAL_SET_TIME))
    have hcommit := (s.stored m CAL_COMMIT v).calCommit_frame (calTicks (s.word CAL_SET_DATE) (s.word CAL_SET_TIME))
    obtain ⟨fw, hfw⟩ := State.recorded_eq ((s.stored m CAL_COMMIT v).calCommit (calTicks (s.word CAL_SET_DATE) (s.word CAL_SET_TIME))) m CAL_COMMIT v
    rw [hfw]
    exact ⟨hticks, hleap, hvalid, (hcommit.time rfl).trans (hstored.time rfl), (hcommit.mem rfl).trans (hstored.mem rfl)⟩
  case alarm =>
    intro s n hs hn hphase hhalt hen hstart hnow hmatched
    refine runs_checked (execCalAlarm.eq_1 ..) (decide_eq_true hn) ?_
    have hgo : ¬ (s.power.phase = .unpowered ∨ s.flag CAL_CTRL_HALT = true ∨ ¬ s.flag (CAL_ALM_CTRL_EN n) = true ∨ ¬ s.secondStart = true ∨
        ¬ s.alarmNow n = true ∨ s.cal.matched.getD n none = some s.secondName) := by
      simp only [hphase, hhalt, hen, hstart, hnow, hmatched, Bool.false_eq_true, not_true_eq_false, or_self, not_false_eq_true]
    simp only [if_neg hgo]
    have hcanon : ({ s with cal := { s.cal with matched := s.cal.matched.set n (some s.secondName) } } : State).canonical = true :=
      State.canonical_of_regs hs rfl rfl
    have hcal (u : State) (b : Bool) : (u.alarmFire n false b).cal = u.cal := (u.alarmFire_frame n false b).cal rfl
    obtain ⟨hfired, hskipped, hoverrun, hreplayed⟩ := State.alarmFire_shows hcanon hn false
      (decide (s.cal.replayFrom < s.cal.ticks) && decide (s.cal.ticks ≤ s.cal.replayTo))
    exact ⟨hfired, hskipped, hoverrun, hreplayed, by rw [hcal]⟩
  case trimStart =>
    intro s m v hs hv hodd ht hsrc
    refine runs_write (execTrimStart.eq_1 ..) (by simp only [Instr.wf, hv, hodd, decide_true, Bool.and_self]) lookup_trimRow rfl (.inl rfl) ht ?_
    have hgo : Word.field (BitVec.ofNat 32 v) 0 0 = 1 := (Word.bit_ofNat hv).trans hodd
    rw [show trimRow.base = 0x30034 from rfl, effects_CAL_TRIM_CTRL]
    simp only [timeEffect, if_pos hgo]
    have hstored := s.stored_frame m CAL_TRIM_CTRL v
    have hget : (s.stored m CAL_TRIM_CTRL v).get CAL_TRIM_CTRL_SRC =
        Word.field (BitVec.ofNat 32 v) CAL_TRIM_CTRL_SRC.hi CAL_TRIM_CTRL_SRC.lo :=
      State.stored_get (f := ⟨2, 1, .rw, false, 0, 1⟩) hs lookup_trimRow (by decide) (by decide) (by decide)
    have hstate : (s.stored m CAL_TRIM_CTRL v).timeState = s.timeState := State.stored_get_other (by decide) (by decide)
    obtain ⟨hrun, htrim, hres⟩ := State.trimBegin_shows (hstored.canon hs) (by rw [hget, hstate]; exact hsrc)
    refine ⟨by rw [State.recorded_get]; exact hrun, ?_, by rw [State.recorded_word]; exact hres⟩
    obtain ⟨fw, hfw⟩ := State.recorded_eq (s.stored m CAL_TRIM_CTRL v).trimBegin m CAL_TRIM_CTRL v
    rw [hfw]
    exact htrim.trans (by rw [hstored.time rfl, hstored.cal rfl])
  case trimEnd =>
    intro s t hs hon hover htrim r
    refine runs_core (execTrimFinish.eq_1 ..) rfl hon ?_
    have hr : trimResult (s.cal.osc - (s.time.trim.map (·.from_)).getD 0) = r := by rw [htrim]; rfl
    simp only [hover, not_true_eq_false, if_false, hr]
    have hend : s.trimEnd.canonical = true := State.canonical_of_regs hs rfl rfl
    obtain ⟨hcanon, hstate, hvalid, hresult, hbad, hauto, hrate⟩ := trimShown hend (codeOf 16 (max (-32768) (min 32767 r))) (codeOf_lt _ _)
      (decide (2047 < r.natAbs))
    have htime : ((((s.trimEnd.put CAL_TRIM_CTRL_STATE 2).put CAL_TRIM_RES_RESULT (codeOf 16 (max (-32768) (min 32767 r)))).put
      CAL_TRIM_RES_VALID 1).put CAL_TRIM_RES_OUT_OF_RANGE (bit (decide (2047 < r.natAbs)))).time.trim = none := rfl
    generalize (((s.trimEnd.put CAL_TRIM_CTRL_STATE 2).put CAL_TRIM_RES_RESULT (codeOf 16 (max (-32768) (min 32767 r)))).put
      CAL_TRIM_RES_VALID 1).put CAL_TRIM_RES_OUT_OF_RANGE (bit (decide (2047 < r.natAbs))) = u at *
    have hsigned : u.getS CAL_TRIM_RES_RESULT = max (-32768) (min 32767 r) := by
      rw [State.getS, hresult]
      exact signedOf_codeOf (n := 15) (by omega) (by omega)
    have hauto' : u.flag CAL_TRIM_CTRL_AUTO_WRITE = s.flag CAL_TRIM_CTRL_AUTO_WRITE := hauto
    have hrate' : u.getS CAL_TRIM_RATE = s.getS CAL_TRIM_RATE := congrArg (signedOf _) hrate
    split
    · next h =>
      obtain ⟨hwrite, hsmall⟩ := h
      have hle : r.natAbs ≤ 2047 := by simpa using hsmall
      have hother {f : Fld} (hf : f.off ≠ CAL_TRIM) : (u.put CAL_TRIM_RATE (codeOf 12 r)).get f = u.get f := State.get_put_other _ hf
      refine ⟨by rw [hother (by decide)]; exact hstate, htime, by rw [hother (by decide)]; exact hvalid, ?_, ?_, fun _ _ => ?_, fun h => ?_⟩
      · rw [State.getS, hother (by decide)]
        exact hsigned
      · rw [State.flag, hother (by decide)]
        exact hbad
      · exact State.getS_put_fit (n := 11) hcanon rfl rfl (by omega) (by omega)
      · rw [hauto'] at hwrite
        rcases h with h | h
        · simp [h] at hwrite
        · omega
    · next h =>
      refine ⟨hstate, htime, hvalid, hsigned, hbad, fun hwrite hle => ?_, fun _ => hrate'⟩
      exact absurd ⟨hauto'.trans hwrite, by simpa using hle⟩ h
  case inserted =>
    intro s hon hins hfirst hbefore
    refine runs_core (execUtcMidnight.eq_1 ..) rfl hon ?_
    exact if_pos ⟨hins, hfirst, hbefore⟩
  case deleted =>
    intro s hon hins hdel hfirst hbefore
    refine runs_core (execUtcMidnight.eq_1 ..) rfl hon ?_
    simp [State.utcMidnight, hins, hdel, hfirst, hbefore]
  case offset =>
    intro s v hon hins hdel hfirst hvalid hoff
    refine runs_core (execUtcMidnight.eq_1 ..) rfl hon ?_
    simp [State.utcMidnight, hins, hdel, hfirst, hvalid, hoff]

end Sys2Proof.Machine
end

section
/-!
The Ethernet ports: frames received and sent, PAUSE, link supervision and sluice tests (R65 to R81).
-/

set_option Elab.async false

namespace Sys2Proof.Machine

/-! ### Received frames (R67) -/

/-- A frame that goes to a path has passed the checks before its class. -/
theorem State.classify_path {s : State} {p : Nat} {f : EthFrame} {a cls : Nat} (h : s.classify p f = .path a cls) :
    s.checkFails p f = none ∧ s.dstOk p f.dst = true ∧ s.tagOk p f.tags = true := by
  unfold State.classify at h
  split at h
  · cases h
  next hchk =>
    split at h
    · cases h
    split at h
    · cases h
    next hdst =>
      split at h
      · cases h
      next htag => exact ⟨by simpa using hchk, by simpa using hdst, by simpa using htag⟩

/-- Settles O25: in `rxFrame` each outcome of the classification is one branch; a frame for a path failed no check before it. -/
theorem frameReception : Obligations.FrameReception := by
  unfold Obligations.FrameReception
  refine ⟨?path, ?pause, ?drop, ?expire⟩
  case path =>
    intro s p f a cls hp hon hruns hclass hloss
    refine runs_core (execEthFrameRx.eq_1 ..) (decide_eq_true hp) hon ?_
    obtain ⟨hchk, hdst, htag⟩ := State.classify_path hclass
    cases hkey : s.prpKey p f (.path a cls)
    all_goals
      simp only [State.rxFrame, hruns, not_true_eq_false, if_false, hclass, hchk, hdst, htag, hloss, hkey, Option.isSome_none,
        Bool.not_true, Bool.or_false, Bool.not_false, Bool.true_and]
  case pause =>
    intro s p f hp hon hruns hclass hloss
    refine runs_core (execEthFrameRx.eq_1 ..) (decide_eq_true hp) hon ?_
    simp only [State.rxFrame, hruns, not_true_eq_false, if_false, hclass, hloss]
  case drop =>
    intro s p f i hp hon hruns hclass hi hchk htr
    refine runs_core (execEthFrameRx.eq_1 ..) (decide_eq_true hp) hon ?_
    simp only [State.rxFrame, hruns, not_true_eq_false, if_false, hclass, hchk, htr, State.prpKey, Option.isSome_none, Option.map_none,
      Option.getD_none, Bool.and_false, Bool.false_and, State.when, Bool.false_eq_true]
  case expire =>
    intro s hon
    exact runs_core (execPrpDdExpire.eq_1 ..) rfl hon rfl

/-! ### Transmission and the level of a receive sluice -/

theorem State.txDone_idle {s : State} {p : Nat} (h : (s.port p).sending = none) : s.txDone p = s := by
  unfold State.txDone
  rw [h]

/-- A new level shows in the sluice's status, and the ports stay as they were. -/
theorem State.setLevel_shows {s : State} (hs : s.canonical = true) (sl words : Nat) :
    (s.setLevel sl words).canonical = true ∧ (s.setLevel sl words).net = s.net ∧
    (s.setLevel sl words).get (SL_STATUS_LEVEL sl) = min words (sluiceDepth sl) := by
  have hfit : min words (sluiceDepth sl) < 2 ^ 16 := by
    refine Nat.lt_of_le_of_lt (Nat.min_le_right _ _) ?_
    unfold sluiceDepth
    repeat' split
    all_goals decide
  have hcanon := State.canonical_put hs (SL_STATUS_LEVEL sl) (min words (sluiceDepth sl))
  refine ⟨State.canonical_put hcanon _ _, rfl, ?_⟩
  · refine (State.get_put_other (g := SL_STATUS_LEVEL sl) (f := SL_LEVEL_MAX_MAX sl) _ ?_).trans (State.get_put_fit hs rfl hfit)
    simp only [SL_STATUS_LEVEL, SL_LEVEL_MAX_MAX, SL_STATUS, SL_LEVEL_MAX]
    omega

/-- Registers below the sluices keep a flag and a field over a new level. -/
theorem State.setLevel_below {s : State} (sl words : Nat) : SameBelow 0x50000 s (s.setLevel sl words) := by
  unfold State.setLevel
  exact ((SameBelow.refl _ s).put _ (by simp only [SL_STATUS_LEVEL, SL_STATUS]; omega)).put _
    (by simp only [SL_LEVEL_MAX_MAX, SL_LEVEL_MAX]; omega)

theorem State.setLevel_stopped {s : State} (hs : s.canonical = true) (sl words i : Nat) :
    (s.setLevel sl words).flag (SL_STATUS_STOPPED i) = s.flag (SL_STATUS_STOPPED i) := by
  have hmax : SL_STATUS i ≠ SL_LEVEL_MAX sl := by
    simp only [SL_STATUS, SL_LEVEL_MAX]
    omega
  refine (State.flag_put_other _ hmax).trans ?_
  by_cases hi : i = sl
  · rw [hi]
    exact State.flag_put_beside hs rfl _
  · refine State.flag_put_other _ ?_
    simp only [SL_STATUS_STOPPED, SL_STATUS_LEVEL, SL_STATUS]
    omega

theorem State.setLevel_portRuns {s : State} (hs : s.canonical = true) (sl words : Nat) {p : Nat} (hp : p < 4) :
    (s.setLevel sl words).portRuns p = s.portRuns p := by
  have hen : (s.setLevel sl words).flag (NP_CFG_EN p) = s.flag (NP_CFG_EN p) :=
    (State.setLevel_below sl words).flag (by simp only [NP_CFG_EN, NP_CFG]; omega)
  simp only [State.portRuns, hen, State.setLevel_stopped hs]

/-- The PAUSING bit, the port's record and the level shown, once a level has made a PAUSE frame due. -/
theorem State.pauseDue_shows {s : State} (hs : s.canonical = true) {p sl words : Nat} (b : Bool) (g : PortState → PortState) (hp : p < 4)
    (hg : ∀ r, (g r).pausePending ≠ none) :
    let u := (((s.setLevel sl words).setPort p g).put (NP_STATUS_PAUSING p) (bit b))
    u.flag (NP_STATUS_PAUSING p) = b ∧ u.port p = g (s.port p) ∧ u.get (SL_STATUS_LEVEL sl) = min words (sluiceDepth sl) := by
  intro u
  obtain ⟨hcanon, hnet, hlevel⟩ := State.setLevel_shows hs sl words
  have hset : ((s.setLevel sl words).setPort p g).canonical = true := State.canonical_of_regs hcanon rfl rfl
  refine ⟨State.flag_put hset rfl b, ?_, ?_⟩
  · have hport : (s.setLevel sl words).port p = s.port p := by rw [State.port, hnet, State.port]
    rw [← hport]
    refine Store.get_set_of_ne _ p fun h => hg _ (congrArg PortState.pausePending h)
  · refine (State.get_put_other _ ?_).trans hlevel
    simp only [SL_STATUS_LEVEL, SL_STATUS, NP_STATUS_PAUSING, NP_STATUS]
    omega

/-- Settles O26: each operation's condition is the clause's premise, so the branch taken is its effect; the two sluice levels write
sluice registers only, so the ports' registers read after them are those before. -/
theorem frameTransmission : Obligations.FrameTransmission := by
  unfold Obligations.FrameTransmission
  refine ⟨?begin, ?pause, ?loss, ?starve, ?supervision, ?holdEnd, ?high, ?again, ?low⟩
  case begin =>
    intro s p corrected q hp hon hruns hphys hsend hpause hpaused hnext
    refine runs_core (execTxBegin.eq_1 ..) (decide_eq_true hp) hon ?_
    simp only [State.txStart, State.txDone_idle hsend, hruns, hphys, hsend, hpause, hpaused, hnext, not_true_eq_false,
      Option.isSome_none, Bool.false_eq_true, or_self, if_false]
  case pause =>
    intro s p corrected quanta poisoned hp hon hruns hphys hsend hpause
    refine runs_core (execTxBegin.eq_1 ..) (decide_eq_true hp) hon ?_
    simp only [State.txStart, State.txDone_idle hsend, hruns, hphys, hsend, hpause, not_true_eq_false, Option.isSome_none,
      Bool.false_eq_true, or_self, if_false]
  case loss =>
    intro s p hp hon hphys t
    refine runs_core (execPhyLinkLoss.eq_1 ..) (decide_eq_true hp) hon ?_
    rw [State.physLoss, if_pos hphys]
  case starve =>
    intro s p q t hp hq hon hsince hcfg hdue hnew
    refine runs_core (execTxqStarve.eq_1 ..) (by simp only [Instr.wf, hp, hq, decide_true, Bool.and_self]) hon ?_
    simp only [State.txStarve, hsince]
    exact if_pos ⟨hcfg, hdue, by simpa using hnew⟩
  case supervision =>
    intro s hon hen hdue
    exact runs_core (execPrpSupervisionTx.eq_1 ..) rfl hon (if_pos ⟨hen, hdue⟩)
  case holdEnd =>
    intro s p t hp hon huntil hdue
    refine runs_core (execPauseHoldEnd.eq_1 ..) (decide_eq_true hp) hon ?_
    simp only [State.pauseEnd, huntil, hdue, if_true]
  case high =>
    intro s p level hs hp hon hruns htx hidle hwm
    refine runs_core (execPauseHighWm.eq_1 ..) (decide_eq_true hp) hon ?_
    have hsame := State.setLevel_below (s := s) (s.rxSluice p) level
    have hflag : (s.setLevel (s.rxSluice p) level).flag (NP_STATUS_PAUSING p) = false :=
      (hsame.flag (by simp only [NP_STATUS_PAUSING, NP_STATUS]; omega)).trans hidle
    have htx' : (s.setLevel (s.rxSluice p) level).flag (NP_CFG_PAUSE_TX p) = true :=
      (hsame.flag (by simp only [NP_CFG_PAUSE_TX, NP_CFG]; omega)).trans htx
    have hquanta : (s.setLevel (s.rxSluice p) level).get (NP_PAUSE_CFG_QUANTA p) = s.get (NP_PAUSE_CFG_QUANTA p) :=
      hsame.get (by simp only [NP_PAUSE_CFG_QUANTA, NP_PAUSE_CFG]; omega)
    have hmark : (s.setLevel (s.rxSluice p) level).get (NP_PAUSE_CFG_HIGH_WM p) = s.get (NP_PAUSE_CFG_HIGH_WM p) :=
      hsame.get (by simp only [NP_PAUSE_CFG_HIGH_WM, NP_PAUSE_CFG]; omega)
    have hruns' : (s.setLevel (s.rxSluice p) level).portRuns p = true := (State.setLevel_portRuns hs _ _ hp).trans hruns
    simp only [State.pauseHigh]
    rw [if_pos ⟨hruns', htx', by simpa using hflag, by rw [hmark]; exact hwm⟩]
    obtain ⟨hbit, hport, hlevel⟩ := State.pauseDue_shows (sl := s.rxSluice p) (words := level) hs true
      (fun r => { r with pausePending := some ((s.setLevel (s.rxSluice p) level).get (NP_PAUSE_CFG_QUANTA p)) }) hp
      fun _ => Option.some_ne_none _
    exact ⟨hbit, (congrArg PortState.pausePending hport).trans (congrArg some hquanta), hlevel⟩
  case again =>
    intro s p t hp hon hat hdue hpausing
    refine runs_core (execPauseRepeat.eq_1 ..) (decide_eq_true hp) hon ?_
    simp only [State.pauseAgain, hat]
    exact if_pos ⟨hpausing, hdue⟩
  case low =>
    intro s p level hs hp hon hpausing hwm
    refine runs_core (execPauseLowWm.eq_1 ..) (decide_eq_true hp) hon ?_
    have hsame := State.setLevel_below (s := s) (s.rxSluice p) level
    have hflag : (s.setLevel (s.rxSluice p) level).flag (NP_STATUS_PAUSING p) = true :=
      (hsame.flag (by simp only [NP_STATUS_PAUSING, NP_STATUS]; omega)).trans hpausing
    have hlow : (s.setLevel (s.rxSluice p) level).get (NP_PAUSE_CFG_LOW_WM p) = s.get (NP_PAUSE_CFG_LOW_WM p) :=
      hsame.get (by simp only [NP_PAUSE_CFG_LOW_WM, NP_PAUSE_CFG]; omega)
    simp only [State.pauseLow]
    rw [if_pos ⟨hflag, by rw [hlow]; exact hwm⟩]
    obtain ⟨hbit, hport, hlevel⟩ := State.pauseDue_shows (sl := s.rxSluice p) (words := level) hs false
      (fun r => { r with pausePending := some 0, pauseRepeatAt := none }) hp fun _ => Option.some_ne_none _
    exact ⟨hbit, congrArg PortState.pausePending hport, congrArg PortState.pauseRepeatAt hport, hlevel⟩

/-! ### Link supervision and sluice tests -/

/-- A register kept keeps its fields. -/
theorem State.get_of_reg {s t : State} {f : Fld} (h : t.reg f.off = s.reg f.off) : t.get f = s.get f := by rw [State.get, h, State.get]

theorem State.flag_of_reg {s t : State} {f : Fld} (h : t.reg f.off = s.reg f.off) : t.flag f = s.flag f := by
  rw [State.flag, State.get_of_reg h, State.flag]

theorem npStatus_apart_of_npCnt {p q i : Nat} (hi : i < 32) :
    NP_STATUS p ≠ NP_CNT q i ∧ NP_STATUS p ≠ NP_CNT_SAT q := by
  simp only [NP_STATUS, NP_CNT, NP_CNT_SAT]
  omega

/-- The event of a port leaves the status of every port. -/
theorem State.raise_npStatus (s : State) {p sev : Nat} (hp : p < 4) (code cause inst data : Nat) (h : sev < 8) :
    (s.raise code sev cause inst data).reg (NP_STATUS p) = s.reg (NP_STATUS p) :=
  s.raise_below code cause inst data h _ (by simp only [NP_STATUS, plBase]; omega)

/-- The counters of the log stand in the peat log's block. -/
theorem logCounters_above : ∀ o ∈ logCounters, plBase ≤ o := by decide

/-- Settles O27: each supervision condition is the clause's premise; the fields shown share no bit of `NP_STATUS`, which neither the
port's counters nor the event writes. -/
theorem linkSupervision : Obligations.LinkSupervision := by
  unfold Obligations.LinkSupervision
  refine ⟨?physUp, ?down, ?up, ?silence, ?rate, ?startTest, ?test⟩
  case physUp =>
    intro s p speed cw hp hon hruns hphys
    refine runs_core (execPhyLinkUp.eq_1 ..) (decide_eq_true hp) hon ?_
    rw [State.physUp, if_neg (by simpa using hruns)]
    extract_lets r t
    have hshown : (if t.flag (NP_STATUS_LINK p) then t.put (NP_STATUS_SPEED p) (t.speedCode p) else t).port p = t.port p := by
      split
      all_goals rfl
    have hport : t.port p = { s.port p with
        physUp := true, controlWord := cw || (r.physUp && r.controlWord), speed := if cw then speed % 4 else r.speed
        changedAt := if r.physUp then r.changedAt else s.time.mono } :=
      Store.get_set_of_ne _ p fun h => Bool.noConfusion (congrArg PortState.physUp h)
    have hdown : r.physUp = false := hphys
    rw [hshown, hport]
    simp only [hdown, Bool.false_and, Bool.or_false, Bool.false_eq_true, if_false, and_self]
  case down =>
    intro s p hs hp hon hlink hphys hheld
    refine runs_core (execLinkDownReport.eq_1 ..) (decide_eq_true hp) hon ?_
    rw [State.reportDown, if_pos ⟨hlink, by simpa using hphys, hheld⟩]
    extract_lets sev t t'
    have hsev : sev < 8 := by
      unfold sev
      split
      all_goals decide
    have h1 := State.canonical_put hs (NP_STATUS_LINK p) 0
    have h2 := State.canonical_put h1 (NP_STATUS_SPEED p) 0
    have h3 := State.canonical_put h2 (NP_STATUS_AN_DONE p) 0
    obtain ⟨hcnt, hsat⟩ := npStatus_apart_of_npCnt (p := p) (q := p) (i := 20) (by decide)
    have hlast : (((t'.count (npCnt p 20)).raise EV_NP_LINK_DOWN sev p p).reg (NP_STATUS p)) = t.reg (NP_STATUS p) :=
      (State.raise_npStatus _ hp _ _ _ _ hsev).trans
        (t'.count_reg_other hcnt hsat fun h => absurd (logCounters_above _ h) (by simp only [NP_STATUS, plBase]; omega))
    refine ⟨(State.flag_of_reg hlast).trans ?_, (State.get_of_reg hlast).trans ?_, (State.flag_of_reg hlast).trans (State.flag_put_zero h3 rfl)⟩
    · exact (State.flag_put_beside h3 rfl _).trans ((State.flag_put_beside h2 rfl _).trans
        ((State.flag_put_beside h1 rfl _).trans (State.flag_put_zero hs rfl)))
    · exact (State.get_put_beside h3 rfl _).trans ((State.get_put_beside h2 rfl _).trans (State.get_put_fit h1 rfl (Nat.two_pow_pos _)))
  case up =>
    intro s p hs hp hon hlink hphys hheld hmode
    refine runs_core (execLinkUpReport.eq_1 ..) (decide_eq_true hp) hon ?_
    rw [State.reportUp, if_pos ⟨by simpa using hlink, hphys, hheld, by simpa using hmode⟩]
    extract_lets t t'
    have h1 := State.canonical_put hs (NP_STATUS_LINK p) 1
    have h2 := State.canonical_put h1 (NP_STATUS_SPEED p) ((s.put (NP_STATUS_LINK p) 1).speedCode p)
    have hlast : (t'.raise EV_NP_LINK_UP sevNotice p p).reg (NP_STATUS p) = t.reg (NP_STATUS p) :=
      State.raise_npStatus _ hp _ _ _ _ (by decide)
    have hcode : (s.put (NP_STATUS_LINK p) 1).speedCode p = s.speedCode p := by
      have hother {f : Fld} (hf : f.off = NP_CFG p) : (s.put (NP_STATUS_LINK p) 1).get f = s.get f :=
        State.get_put_other _ (by rw [hf]; simp only [NP_STATUS_LINK, NP_STATUS, NP_CFG]; omega)
      simp only [State.speedCode, State.flag, hother (f := NP_CFG_MODE p) rfl, hother (f := NP_CFG_AN_EN p) rfl]
      rfl
    have hspeed : t.get (NP_STATUS_SPEED p) = s.speedCode p % 4 :=
      (State.get_put_beside h2 rfl _).trans ((State.get_put_same (State.canonical_regs h1) (show 2 ≤ 3 by decide)
        (show 3 < 32 by decide) _).trans (congrArg (· % 4) hcode))
    have hbit : t.flag (NP_STATUS_LINK p) = true :=
      (State.flag_put_beside h2 rfl _).trans ((State.flag_put_beside h1 rfl _).trans (State.flag_put_one hs rfl))
    refine ⟨(State.flag_of_reg hlast).trans hbit, (State.get_of_reg hlast).trans hspeed, ?_⟩
    · rw [State.port, (t'.raise_frame EV_NP_LINK_UP sevNotice p p 0).net rfl]
      exact congrArg PortState.silentFrom (Store.get_set_of_ne _ p fun h => Option.some_ne_none _ (congrArg PortState.silentFrom h))
  case silence =>
    intro s p t hp hon hfrom hcfg hdue hnew
    refine runs_core (execRxSilenceExpire.eq_1 ..) (decide_eq_true hp) hon ?_
    simp only [State.rxSilence, hfrom]
    exact if_pos ⟨hcfg, hdue, by simpa using hnew⟩
  case rate =>
    intro s p hp hon hdue n t
    refine runs_core (execRxBadRateCheck.eq_1 ..) (decide_eq_true hp) hon ?_
    exact if_pos hdue
  case startTest =>
    intro s i hs hi hon hstopped hactive hsides
    refine runs_core (execSluiceSelftest.eq_1 ..) (decide_eq_true hi) hon ?_
    simp only [State.sluiceTest, State.sluiceActive, hstopped, hactive, hsides, Bool.false_eq_true, and_false, if_false, if_true]
    exact (State.flag_put_beside (State.canonical_put hs _ _) rfl _).trans (State.flag_put_one hs rfl)
  case test =>
    intro s i pass hi hon hstopped hactive
    refine runs_core (execSluiceSelftest.eq_1 ..) (decide_eq_true hi) hon ?_
    simp only [State.sluiceTest, hstopped, hactive, Bool.false_eq_true, if_false, if_true, Bool.not_eq_true]

end Sys2Proof.Machine
end

section
/-!
What the ledger's records and the blocks write: registers of metering and above only.
-/

set_option Elab.async false

namespace Sys2Proof.Machine

/-! ### Records and blocks write registers of metering and above only -/

/-- The first register of metering. -/
abbrev meBase : Nat := 0x340000

section Metering

variable (s : State)

theorem State.digestItem_below (B cls at_ index : Nat) (bytes : List Byte) : SameBelow B s (s.digestItem cls at_ index bytes) :=
  .of_frame (s.digestItem_frame cls at_ index bytes) rfl

theorem State.setMeter_below (B n : Nat) (f : LaneMeter → LaneMeter) : SameBelow B s (s.setMeter n f) := .of_regs rfl

theorem State.complete_below (c : Completion) : SameBelow meBase s (s.complete c) := fun _ ho =>
  s.complete_reg_below (Nat.lt_trans ho (by decide)) c

theorem State.count_meGCnt (i : Nat) : SameBelow meBase s (s.count (meGCnt i)) :=
  s.count_below (show 0x340000 ≤ 0x350040 + 4 * i by omega) (show meBase ≤ ME_G_SAT by decide) (by decide)

theorem State.showQueue_below : SameBelow meBase s s.showQueue :=
  (((SameBelow.refl _ s).put _ (by decide)).put _ (by decide)).put _ (by decide)

theorem State.pushBody_below (b : LedgerBody) : SameBelow meBase s (s.pushBody b) := by
  have hfill (t : State) (b : QueuedBody) : SameBelow meBase t (t.fillBody b).2 := .of_regs rfl
  unfold State.pushBody
  extract_lets n rs qs q t took q'
  have ht : SameBelow meBase s t := s.digestItem_below _ _ _ _ _
  split
  next q'' t' heq =>
    have ht' : SameBelow meBase s t' := by
      split at heq
      · rw [show t' = _ from (congrArg Prod.snd heq).symm]
        refine SameBelow.trans ?_ (hfill _ _)
        exact ht.when fun _ => State.setMeter_below _ _ _ _
      · rw [show t' = _ from (congrArg Prod.snd heq).symm]
        exact ht
    extract_lets t1 queued t2
    have h1 : SameBelow meBase s t1 := (ht'.setPair _ (show 0x340000 ≤ 0x3400d0 + 0x100 * n by omega)
      (show 0x340000 ≤ 0x3400d4 + 0x100 * n by omega)).setPair _ (by decide) (by decide)
    have h2 : SameBelow meBase s t2 := h1.trans (.of_regs rfl)
    exact (h2.trans t2.showQueue_below).trans ((State.fire_below _ _).weaken (by decide))

theorem State.pushRecord_below (b : LedgerBody) (cmd : Option (Nat × Word)) : SameBelow meBase s (s.pushRecord b cmd) := by
  unfold State.pushRecord
  extract_lets rs qs t
  split
  · exact (s.pushBody_below b).trans (t.complete_below _)
  · exact s.pushBody_below b

theorem State.extendRecord_below (n : Nat) (p : PendClose) : SameBelow meBase s (s.extendRecord n p) := by
  unfold State.extendRecord
  split
  · exact (s.setMeter_below _ n _).when fun _ => State.count_meGCnt _ _
  · split
    · exact s.complete_below _
    · exact .refl _ s

theorem State.closeRecord_below (n : Nat) (p : PendClose) : SameBelow meBase s (s.closeRecord n p) := by
  unfold State.closeRecord
  extract_lets m a b held t next
  refine .ite (fun _ => .refl _ s) fun _ => .ite (fun _ => s.extendRecord_below n p) fun _ => ?_
  have ht : SameBelow meBase s t := .ite (fun _ _ _ => rfl) fun _ => s.pushRecord_below b p.cmd
  exact ht.trans (t.setMeter_below _ _ _)

theorem State.closeDue_below (n force k : Nat) : ∀ s : State, SameBelow meBase s (State.closeDue n force k s) := by
  induction k with
  | zero => exact SameBelow.refl _
  | succ k ih =>
    intro s
    unfold State.closeDue
    split
    · exact .refl _ s
    · next p rest _ =>
      refine .ite (fun _ => ?_) fun _ => .refl _ s
      exact ((s.setMeter_below _ n _).trans (State.closeRecord_below _ n p)).trans (ih _)

theorem State.tryClose_below (n : Nat) : SameBelow meBase s (s.tryClose n) := State.closeDue_below _ _ _ _

theorem State.endBlock_regs (n : Nat) (part : Bool) : (s.endBlock n part).regs = s.regs := by
  unfold State.endBlock
  split
  all_goals rfl

theorem State.laneStops_below (n : Nat) : SameBelow meBase s (s.laneStops n) :=
  (SameBelow.of_regs (s.endBlock_regs n false)).trans (State.tryClose_below _ n)

end Metering

end Sys2Proof.Machine
end

section
/-!
Measurement lanes: accepted inputs, timers and enables (R92 to R114).
-/

set_option Elab.async false

namespace Sys2Proof.Machine

/-! ### What a lane accepts -/

/-- The position of a last sequence number, where there is one, holds of what is asked of it. -/
theorem Option.map_getD_eq {o : Option Nat} {p : Nat → Bool} {d : Bool} (h : ∀ q, o = some q → p q = d) : (o.map p).getD d = d := by
  cases o with
  | none => rfl
  | some q => exact h q rfl

/-- A block that passes steps 6 to 9 of R99 is accepted. -/
theorem State.sampleSteps_accepts {s : State} {n : Nat} {b : ReedBlock} (hnq : b.nq = s.laneNq n) (hrate : b.rate = s.get (LN_CFG_RATE n))
    (hnew : ∀ q, (s.link n).seq = some q → q < b.seq) (hms : b.t0 % 1000000 = 0)
    (hfollows : ∀ q, (s.link n).seq = some q → s.laneState n = lnDown ∨ (b.t0 : Int) - (s.link n).t0 = ((b.seq : Int) - q) * 1000000)
    (hage : s.ageOk n ((b.stamp : Int) - (b.t0 + 1000000)) = true) :
    s.sampleSteps n b = s.accept n
      { seq := b.seq, t0 := b.t0, stamp := b.stamp, age := (b.stamp : Int) - (b.t0 + 1000000), show_ := some (b.flags, b.t0Qual % 16),
        why := s.reedWhy n b, tamper := b.flags.testBit 3, flags := 1 + (if b.flags.testBit 1 then 8 else 0),
        rows := rowsOf (perMs b.rate) b.nq (b.samples.map sampleOf) } := by
  have hrepeat : ((s.link n).seq.map fun q => decide (b.seq ≤ q)).getD false = false :=
    Option.map_getD_eq fun q hq => decide_eq_false (by have := hnew q hq; omega)
  rw [State.sampleSteps, if_neg (by simp [hnq, hrate]), if_neg (by simp [hrepeat])]
  extract_lets follows age
  have hf : follows = true := by
    unfold follows
    split
    · next q hq => simpa using hfollows q hq
    · rfl
  rw [if_neg (by simp [hms, hf]), if_neg (by simpa [age] using hage)]

/-- Settles O28: every check before the acceptance is one branch, and the clause's premises close them one after the other. -/
theorem laneInputs : Obligations.LaneInputs := by
  unfold Obligations.LaneInputs
  refine ⟨?block, ?descriptor, ?sv⟩
  case block =>
    intro s t b hon hgood hcold hopen hsub hformat hauth hnq hrate hnew hms hfollows hage
    refine runs_engines (execSampleBlockRx.eq_1 ..) rfl hon ?_
    rw [if_neg (by simp [hgood]), State.sampleBlock, if_neg (by simp [hcold, hopen]), if_neg (by simp [hsub]), if_neg (by simp [hformat])]
    rw [← State.sampleSteps_accepts hnq hrate hnew hms hfollows hage]
    simp only at hauth ⊢
    rcases hauth with hauth | ⟨hnext, hswap⟩
    · rw [hauth]
    · generalize s.authenticate b.lane b.headId b.keyGen (laneIv 1 b.headId b.seq) (reedAad b) b.tag = r at hnext hswap
      obtain ⟨u, verdict⟩ := r
      simp only at hnext hswap
      simp only [hnext, hswap]
  case descriptor =>
    intro s t d next hon hcold hopen hformat hauth hidx hnew
    refine runs_engines (execDescriptorRx.eq_1 ..) rfl hon ?_
    rw [State.descriptor, if_neg (by simp [hcold, hopen]), if_neg (by simp [hformat])]
    have hrepeat : ((t.link d.lane).dseq.map fun q => decide (d.dseq ≤ q)).getD false = false :=
      Option.map_getD_eq fun q hq => decide_eq_false (by have := hnew q hq; omega)
    simp only [hauth]
    rw [if_neg (by omega), if_neg (by simp [hrepeat])]
  case sv =>
    intro s f n hon hcold hopen hformat hsec hpos hmax hsamples hlane hsim hasdu hconf hseq hcounts hage t
    refine runs_engines (execSvFrameRx.eq_1 ..) rfl hon ?_
    have hne : f.asdus.isEmpty = false := by
      cases h : f.asdus with
      | nil => simp [h] at hpos
      | cons => rfl
    have hany : (f.asdus.any fun a => a.samples.length != 8) = false := by simpa using hsamples
    have hrev : ((s.link n).confRev.map fun v => v != f.confRev).getD false = false :=
      Option.map_getD_eq fun v hv => by simp [hconf v hv]
    have hrepeat : ((s.link n).seq.map fun q => decide (s.svCount n f ≤ q)).getD false = false :=
      Option.map_getD_eq fun q hq => decide_eq_false (by have := (hseq q hq).1; omega)
    rw [State.svFrame, if_neg (by simp [hcold, hopen]), if_neg (by simp [hformat, hsec, hne, hany, hmax])]
    simp only [hlane]
    rw [if_neg (by simpa using hsim), if_neg (by simp [hasdu, hrev]), if_neg (by simp [hrepeat])]
    rw [if_neg, if_neg (by simpa using hage)]
    rintro (hbad | ⟨hbad, -⟩)
    · exact hbad hcounts
    · refine hbad ?_
      split
      · next q hq => simpa using (hseq q hq).2
      · rfl

/-! ### A lane's changes of state -/

/-- The status of a lane that enters a state with a reason, or stays in it. -/
def State.laneShown (s : State) (n st why : Nat) : State :=
  if s.laneState n = st then s.put (LN_STATUS_REASON n) (max why (s.get (LN_STATUS_REASON n)))
  else (s.put (LN_STATUS_STATE n) st).put (LN_STATUS_REASON n) why

theorem laneSeverity_lt {st v : Nat} (h : laneSeverity st = some v) : v < 8 := by
  unfold laneSeverity at h
  split at h
  · cases h
    decide
  split at h
  · cases h
    decide
  split at h
  · cases h
    decide
  · cases h

/-- Below metering a lane's change of state writes its status and the counts of lanes. -/
theorem State.laneTo_reg (s : State) {n st why o : Nat} (ho : o < meBase) (h : o ≠ LN_G_STATUS) :
    (s.laneTo n st why).reg o = (s.laneShown n st why).reg o := by
  unfold State.laneTo State.laneShown
  extract_lets old was t t' t''
  split
  · rfl
  have h1 : t''.reg o = t.reg o := by
    have hstops : (if was ∧ ¬ t'.releasing n then (t'.setLink n fun l => { l with rel := none }).laneStops n else t').reg o = t.reg o := by
      split
      · exact State.laneStops_below _ n o ho
      · rfl
    exact hstops
  have h2 : (match laneSeverity st with
      | some v => t''.raise EV_LN_STATE_CHANGE v n n st
      | none => t'').reg o = t''.reg o := by
    split
    · next v hv =>
      exact t''.raise_below _ _ _ _ (laneSeverity_lt hv) o (Nat.lt_trans ho (by decide))
    · rfl
  refine (State.fire_below _ _ o (Nat.lt_trans ho (by decide))).trans ?_
  refine (congrArg (fun r => Store.get resetWord r o) (State.laneConds_frame _ |>.regs rfl)).trans ?_
  exact (State.reg_put_other _ h).trans ((State.reg_put_other _ h).trans (h2.trans h1))

/-- Registers of a lane other than its status, below metering. -/
theorem State.laneTo_reg_other (s : State) {n st why o : Nat} (ho : o < meBase) (h : o ≠ LN_STATUS n) (h' : o ≠ LN_G_STATUS) :
    (s.laneTo n st why).reg o = s.reg o := by
  rw [State.laneTo_reg s ho h', State.laneShown]
  split
  · exact State.reg_put_other _ h
  · exact (State.reg_put_other _ h).trans (State.reg_put_other _ h)

theorem LN_STATUS_apart (n : Nat) : LN_STATUS n ≠ LN_G_STATUS := by
  simp only [LN_STATUS, LN_G_STATUS]
  omega

theorem State.laneTo_status (s : State) {n st why : Nat} (hn : n < 256) :
    (s.laneTo n st why).reg (LN_STATUS n) = (s.laneShown n st why).reg (LN_STATUS n) :=
  s.laneTo_reg (by simp only [LN_STATUS, meBase]; omega) (LN_STATUS_apart n)

theorem State.laneTo_state {s : State} (hs : s.canonical = true) {n st why : Nat} (hn : n < 256) (hst : st < 8) :
    (s.laneTo n st why).laneState n = st := by
  refine (State.get_of_reg (f := LN_STATUS_STATE n) (s.laneTo_status hn)).trans ?_
  rw [State.laneShown]
  split
  · next h => exact (State.get_put_beside hs rfl _).trans h
  · exact (State.get_put_beside (State.canonical_put hs _ _) rfl _).trans (State.get_put_fit hs rfl hst)

/-- A lane that enters another state shows the reason it does so for. -/
theorem State.laneTo_reason {s : State} (hs : s.canonical = true) {n st why : Nat} (hn : n < 256) (hwhy : why < 16)
    (h : s.laneState n ≠ st) : (s.laneTo n st why).get (LN_STATUS_REASON n) = why := by
  refine (State.get_of_reg (f := LN_STATUS_REASON n) (s.laneTo_status hn)).trans ?_
  rw [State.laneShown, if_neg h]
  exact State.get_put_fit (State.canonical_put hs _ _) rfl hwhy

/-! ### A lane's configuration -/

theorem State.dropAble_below (s : State) (n : Nat) : SameBelow meBase s (s.dropAble n) := by
  unfold State.dropAble
  extract_lets m t
  refine (s.setMeter_below _ n _).trans (SameBelow.foldl (fun u p => ?_) _ _)
  split
  · exact u.complete_below _
  · exact .refl _ u

theorem State.refreshAble_below (s : State) (n : Nat) : SameBelow meBase s (s.refreshAble n) := by
  unfold State.refreshAble
  extract_lets now t
  refine .ite (fun _ => .refl _ s) fun _ => .ite (fun _ => s.setMeter_below _ n _) fun _ => .ite (fun _ => s.dropAble_below n) fun _ => .refl _ s

/-- What follows an accepted write of a lane's configuration, once the lane has been stopped where it was disabled: the load, the keys in
service, the lane's ability to close records, and its status. -/
def State.laneCfgShown (s : State) (n : Nat) (w : Word) : State :=
  let s := s.put ME_LOAD_LOAD (s.laneLoad n w)
  let s := (s.showService (s.get (LN_KEY_SLOT n))).showService (s.get (LN_KEY_NEXT n))
  ((s.refreshAble n).showLane n).showCaptureLoad

theorem State.effects_laneCfg (s : State) (n : Nat) (old w : Word) :
    s.effects 0x100000 [n] old w = (if old.field 0 0 = 1 ∧ w.field 0 0 = 0 then s.laneOff n else s).laneCfgShown n w := by
  rw [effects_LN_CFG]
  rfl

theorem State.laneCfgShown_frame (s : State) (n : Nat) (w : Word) : Frame 0x2000a01 s (s.laneCfgShown n w) := by
  unfold State.laneCfgShown State.showCaptureLoad State.showLane State.showService
  refine Frame.step (Frame.step (Frame.step (Frame.step ?_ (State.refreshAble_frame _ _) rfl) (State.put_frame ..) rfl)
    (State.put_frame ..) rfl) (State.put_frame ..) rfl
  exact Frame.step (Frame.step (Frame.step (Frame.refl _ _) (State.put_frame ..) rfl) (State.put_frame ..) rfl) (State.put_frame ..) rfl

/-- Below metering it writes the two bits of the lane's status that `showLane` brings up to date. -/
theorem State.laneCfgShown_below (s : State) (n : Nat) (w : Word) :
    ∃ t : State, SameBelow meBase s t ∧ Frame 0x2000a01 s t ∧ SameBelow meBase (t.showLane n) (s.laneCfgShown n w) := by
  unfold State.laneCfgShown
  extract_lets t u
  have hservice (v : State) (k : Nat) : SameBelow meBase v (v.showService k) :=
    (SameBelow.refl _ v).put _ (show 0x340000 ≤ 0x3c1008 + 0x10 * k by omega)
  have ht : SameBelow meBase s t := (SameBelow.refl _ s).put _ (by decide)
  refine ⟨u.refreshAble n, ht.trans ((hservice _ _).trans ((hservice _ _).trans (u.refreshAble_below n))), ?_, ?_⟩
  · refine Frame.step ?_ (State.refreshAble_frame _ _) rfl
    exact Frame.step (Frame.step (Frame.step (Frame.refl _ _) (State.put_frame ..) rfl) (State.showService_frame ..) rfl)
      (State.showService_frame ..) rfl
  · exact (SameBelow.refl _ _).put _ (by decide)

theorem State.laneCfgShown_reg (s : State) {n : Nat} (w : Word) {o : Nat} (ho : o < meBase) (h : o ≠ LN_STATUS n) :
    (s.laneCfgShown n w).reg o = s.reg o := by
  obtain ⟨t, hst, -, htu⟩ := s.laneCfgShown_below n w
  refine (htu o ho).trans (Eq.trans ?_ (hst o ho))
  exact (State.reg_put_other _ h).trans (State.reg_put_other _ h)

theorem State.laneCfgShown_state {s : State} (hs : s.canonical = true) {n : Nat} (hn : n < 256) (w : Word) :
    (s.laneCfgShown n w).laneState n = s.laneState n := by
  obtain ⟨t, hst, hframe, htu⟩ := s.laneCfgShown_below n w
  have ho : LN_STATUS n < meBase := by
    simp only [LN_STATUS, meBase]
    omega
  have ht := hframe.canon hs
  refine (htu.get (f := LN_STATUS_STATE n) ho).trans (Eq.trans ?_ (hst.get (f := LN_STATUS_STATE n) ho))
  exact (State.get_put_beside (State.canonical_put ht _ _) rfl _).trans (State.get_put_beside ht rfl _)

/-- The bit that holds a lane's enable is stored as it was written. -/
theorem State.stored_laneEn {s : State} (hs : s.canonical = true) (m : Master) {n v : Nat} (hn : n < 256) (hv : v < 2 ^ 32) :
    (s.stored m (LN_CFG n) v).get (LN_CFG_EN n) = v % 2 :=
  (State.stored_get (f := ⟨0, 0, .rwl, false, 0, 1⟩) hs (lookup_LN_CFG hn) (by simp only [LN_CFG, plBase]; omega) (by decide)
    (by decide)).trans (Word.bit_ofNat hv)

/-- What each turn of a loop brings about, and every turn keeps, holds of all its indices at the end. -/
theorem State.forEach_reaches {P : State → Prop} {Q : Nat → State → Prop} {f : Nat → State → State} {s : State} (h0 : P s)
    (hP : ∀ i t, P t → P (f i t)) (hmake : ∀ i t, P t → Q i (f i t)) (hkeep : ∀ i j t, Q i t → Q i (f j t)) (n : Nat) :
    P (s.forEach n f) ∧ ∀ i < n, Q i (s.forEach n f) := by
  induction n with
  | zero => exact ⟨h0, fun i hi => absurd hi (Nat.not_lt_zero i)⟩
  | succ n ih =>
    have hstep : s.forEach (n + 1) f = f n (s.forEach n f) := by
      simp only [State.forEach, List.range_succ, List.foldl_append, List.foldl_cons, List.foldl_nil]
    rw [hstep]
    refine ⟨hP _ _ ih.1, fun i hi => ?_⟩
    rcases Nat.lt_succ_iff_lt_or_eq.mp hi with hlt | rfl
    · exact hkeep _ _ _ (ih.2 i hlt)
    · exact hmake _ _ ih.1

/-- One descriptor's registers emptied (R106). -/
def State.dropDesc (n q : Nat) (s : State) : State :=
  (((s.setWord (LN_DESC_ID n q) 0).setWord (LN_DESC_RATED n q) 0).setWord (LN_DESC_INFO n q) 0).forEach 8 fun k s =>
    (s.setWord (LN_DESC_SEG_A n q k) 0).setWord (LN_DESC_SEG_B n q k) 0

theorem State.laneOff_eq (s : State) (n : Nat) :
    s.laneOff n = ((((s.laneTo n lnDown 0).setLink n fun l => { headId := l.headId }).forEach 8 (State.dropDesc n)).showLane n) := rfl

/-- A register of zero stays so under a write of zero anywhere. -/
theorem State.reg_zero_setWord {s : State} {o off : Nat} (h : s.canonical = true ∧ s.reg o = 0) :
    (s.setWord off 0).canonical = true ∧ (s.setWord off 0).reg o = 0 := by
  refine ⟨State.canonical_setWord h.1 _ _, ?_⟩
  by_cases ho : o = off
  · rw [ho]
    exact State.reg_setReg_same (State.canonical_regs h.1) _ _
  · exact (State.reg_setWord_other _ ho).trans h.2

/-- A register outside a lane's descriptors is kept while they are emptied. -/
theorem State.dropDesc_reg {s : State} {n q o : Nat} (hq : q < 8) (h : o < LN_DESC_ID n 0 ∨ LN_DESC_ID n 8 ≤ o) :
    (s.dropDesc n q).reg o = s.reg o := by
  unfold State.dropDesc
  simp only [LN_DESC_ID] at h
  refine State.forEach_induction (P := fun t => t.reg o = s.reg o) ?_ fun k hk t ht => ?_
  · refine (State.reg_setWord_other _ ?_).trans ((State.reg_setWord_other _ ?_).trans (State.reg_setWord_other _ ?_))
    all_goals simp only [LN_DESC_ID, LN_DESC_RATED, LN_DESC_INFO]
    all_goals omega
  · refine (State.reg_setWord_other _ ?_).trans ((State.reg_setWord_other _ ?_).trans ht)
    all_goals simp only [LN_DESC_SEG_A, LN_DESC_SEG_B]
    all_goals omega

/-- A descriptor emptied is not valid, and stays so while others are emptied. -/
theorem State.dropDesc_empties {s : State} (hs : s.canonical = true) (n q : Nat) :
    (s.dropDesc n q).canonical = true ∧ (s.dropDesc n q).reg (LN_DESC_INFO n q) = 0 := by
  unfold State.dropDesc
  refine State.forEach_induction (P := fun t => t.canonical = true ∧ t.reg (LN_DESC_INFO n q) = 0) ?_ fun k _ t ht =>
    State.reg_zero_setWord (State.reg_zero_setWord ht)
  have h := State.canonical_setWord (State.canonical_setWord hs (LN_DESC_ID n q) 0) (LN_DESC_RATED n q) 0
  exact ⟨State.canonical_setWord h _ _, State.reg_setReg_same (State.canonical_regs h) _ _⟩

theorem State.dropDesc_keeps_empty {s : State} {o : Nat} (n q : Nat) (h : s.canonical = true ∧ s.reg o = 0) :
    (s.dropDesc n q).canonical = true ∧ (s.dropDesc n q).reg o = 0 := by
  unfold State.dropDesc
  exact State.forEach_induction (P := fun t => t.canonical = true ∧ t.reg o = 0)
    (State.reg_zero_setWord (State.reg_zero_setWord (State.reg_zero_setWord h))) fun k _ t ht =>
    State.reg_zero_setWord (State.reg_zero_setWord ht)

/-- The loop that empties the descriptors of a lane leaves none valid, and keeps the lane's registers before them. -/
theorem State.dropDescs_shows {s : State} (hs : s.canonical = true) (n : Nat) :
    (s.forEach 8 (State.dropDesc n)).canonical = true ∧
    (∀ q < 8, (s.forEach 8 (State.dropDesc n)).reg (LN_DESC_INFO n q) = 0) ∧
    ∀ o < LN_DESC_ID n 0, (s.forEach 8 (State.dropDesc n)).reg o = s.reg o := by
  obtain ⟨hcanon, hempty⟩ := State.forEach_reaches (P := fun t => t.canonical = true)
    (Q := fun q t => t.canonical = true ∧ t.reg (LN_DESC_INFO n q) = 0) (f := State.dropDesc n) hs
    (fun q t ht => (State.dropDesc_empties ht n q).1) (fun q t ht => State.dropDesc_empties ht n q)
    (fun _ j _ h => State.dropDesc_keeps_empty n j h) 8
  refine ⟨hcanon, fun q hq => (hempty q hq).2, fun o ho => ?_⟩
  exact State.forEach_induction (P := fun t => t.reg o = s.reg o) rfl fun q hq t ht => (State.dropDesc_reg hq (.inl ho)).trans ht

/-- A lane disabled is DOWN, keeps its configuration and holds no descriptor. -/
theorem State.laneOff_shows {s : State} (hs : s.canonical = true) {n : Nat} (hn : n < 256) :
    (s.laneOff n).laneState n = lnDown ∧ (s.laneOff n).reg (LN_CFG n) = s.reg (LN_CFG n) ∧
      ∀ q < 8, (s.laneOff n).flag (LN_DESC_INFO_VALID n q) = false := by
  rw [State.laneOff_eq]
  have hdown := State.laneTo_state hs hn (st := lnDown) (why := 0) (by decide)
  have hcfg : (s.laneTo n lnDown 0).reg (LN_CFG n) = s.reg (LN_CFG n) :=
    s.laneTo_reg_other (by simp only [LN_CFG, meBase]; omega) (by simp only [LN_CFG, LN_STATUS]; omega)
      (by simp only [LN_CFG, LN_G_STATUS]; omega)
  have hcanon : ((s.laneTo n lnDown 0).setLink n fun l => { headId := l.headId }).canonical = true :=
    State.canonical_of_regs ((s.laneTo_frame _ _ _).canon hs) rfl rfl
  generalize hu : ((s.laneTo n lnDown 0).setLink n fun l => { headId := l.headId }) = u at hcanon
  have hregs (o : Nat) : u.reg o = (s.laneTo n lnDown 0).reg o := by rw [← hu]; rfl
  obtain ⟨hlast, hempty, hkept⟩ := State.dropDescs_shows hcanon n
  have hother {o : Nat} (h : o ≠ LN_STATUS n) :
      ((u.forEach 8 (State.dropDesc n)).showLane n).reg o = (u.forEach 8 (State.dropDesc n)).reg o :=
    (State.reg_put_other _ h).trans (State.reg_put_other _ h)
  refine ⟨?_, ?_, fun q hq => ?_⟩
  · refine (State.get_put_beside (State.canonical_put hlast _ _) rfl _).trans ((State.get_put_beside hlast rfl _).trans ?_)
    refine (State.get_of_reg (f := LN_STATUS_STATE n) ?_).trans hdown
    exact (hkept _ (by simp only [LN_STATUS_STATE, LN_STATUS, LN_DESC_ID]; omega)).trans (hregs _)
  · refine (hother ?_).trans ((hkept _ ?_).trans ((hregs _).trans hcfg))
    all_goals simp only [LN_CFG, LN_STATUS, LN_DESC_ID]
    all_goals omega
  · have hzero : ((u.forEach 8 (State.dropDesc n)).showLane n).reg (LN_DESC_INFO n q) = 0 :=
      (hother (by simp only [LN_DESC_INFO, LN_STATUS]; omega)).trans (hempty q hq)
    rw [State.flag, State.get, LN_DESC_INFO_VALID, hzero]
    rfl

/-- Settles O29: the two gap timers and RESYNC are the model's own operations under the clause's premises; a change of a lane's state
writes, below metering, its status and the counts of lanes only. -/
theorem laneEvents : Obligations.LaneEvents := by
  unfold Obligations.LaneEvents
  refine ⟨?gap, ?deadline, ?silence, ?resync, ?enable, ?disable⟩
  case gap =>
    intro s n p hn hon hrel hrun hdue
    refine runs_engines (execGapPositionRelease.eq_1 ..) (decide_eq_true hn) hon ?_
    simp only [State.gapDue, hrel, Nat.add_zero]
    rw [if_pos ⟨hrun, hdue⟩]
  case deadline =>
    intro s n p hn hon hrel hrun hdue
    refine runs_engines (execLaneDeadlineMiss.eq_1 ..) (decide_eq_true hn) hon ?_
    simp only [State.gapDue, hrel]
    rw [if_pos ⟨hrun, hdue⟩]
  case silence =>
    intro s n t hs hn hon hfrom hdue hlow hhigh
    refine runs_engines (execLaneSilence.eq_1 ..) (decide_eq_true hn) hon ?_
    simp only [State.laneSilent, hfrom]
    rw [if_pos hdue, if_pos ⟨hlow, hhigh⟩]
    generalize hu : State.setLink ((s.setLink n fun l => { l with silentFrom := none }).raise EV_LN_SILENT sevMajor 2 n) n
      (fun l => { l with run := 0, gapped := false }) = u
    have hframe : Frame 0x4181 s u := by
      rw [← hu]
      refine Frame.step ?_ (State.setLink_frame _ _ _) rfl
      refine Frame.step ?_ (State.raise_frame _ EV_LN_SILENT sevMajor 2 n 0) rfl
      exact Frame.step (Frame.refl _ _) (State.setLink_frame _ _ _) rfl
    have hstate : u.laneState n = s.laneState n := by
      refine State.get_of_reg ?_
      rw [← hu]
      exact State.raise_below _ _ _ _ _ (by decide) _ (show 0x100040 + 0x400 * n < 0x380000 by omega)
    exact ⟨State.laneTo_state (hframe.canon hs) hn (by decide), State.laneTo_reason (hframe.canon hs) hn (by decide) (by rw [hstate]; exact Nat.ne_of_gt hlow)⟩
  case resync =>
    intro s m n v hs hn hv hodd ht hfault
    refine runs_write (execLaneResync.eq_1 ..) (by simp only [Instr.wf, hn, hv, hodd, decide_true, Bool.and_self]) (lookup_LN_CTRL hn) rfl
      (.inl rfl) ht ?_
    have hgo : Word.field (BitVec.ofNat 32 v) 0 0 = 1 := (Word.bit_ofNat hv).trans hodd
    have hstate : (s.stored m (LN_CTRL n) v).laneState n = lnFault :=
      (State.stored_get_other (by simp only [LN_CTRL, LN_STATUS_STATE, LN_STATUS]; omega)
        (by simp only [LN_STATUS_STATE, LN_STATUS, plBase]; omega)).trans hfault
    rw [effects_LN_CTRL]
    simp only [laneEffect]
    rw [if_pos ⟨hgo, hstate⟩]
    have hcanon : ((s.stored m (LN_CTRL n) v).forget n false).canonical = true := State.canonical_of_regs (State.stored_canonical hs) rfl rfl
    exact ⟨(State.recorded_get ..).trans (State.laneTo_state hcanon hn (by decide)), rfl⟩
  case enable =>
    intro s m n v hs hn hv hodd ht hen
    have hcfg : LN_CFG n < meBase := by
      simp only [LN_CFG, meBase]
      omega
    have hapart : LN_CFG n ≠ LN_STATUS n := by
      simp only [LN_CFG, LN_STATUS]
      omega
    refine runs_write (execLaneEnable.eq_1 ..) (by simp only [Instr.wf, hn, hv, hodd, decide_true, Bool.and_self]) (lookup_LN_CFG hn) rfl
      (.inr (by simp only [LN_CFG]; omega)) ht ?_
    have hbit : Word.field (BitVec.ofNat 32 v) 0 0 = 1 := (Word.bit_ofNat hv).trans hodd
    rw [State.effects_laneCfg, if_neg (by simp [hbit])]
    have hcanon := State.stored_canonical (m := m) (off := LN_CFG n) (v := v) hs
    refine ⟨?_, ?_, ?_⟩
    · rw [State.recorded_flag, State.flag, State.get_of_reg (State.laneCfgShown_reg _ _ hcfg hapart), State.stored_laneEn hs m hn hv, hodd]
      rfl
    · refine (State.recorded_get ..).trans ((State.laneCfgShown_state hcanon hn _).trans (State.stored_get_other ?_ ?_))
      all_goals simp only [LN_STATUS_STATE, LN_STATUS, LN_CFG, plBase]
      all_goals omega
    · obtain ⟨fw, hfw⟩ := State.recorded_eq ((s.stored m (LN_CFG n) v).laneCfgShown n (BitVec.ofNat 32 v)) m (LN_CFG n) v
      rw [hfw]
      exact congrArg (fun l => Store.get (fun _ => {}) l n)
        (((State.laneCfgShown_frame ..).links rfl).trans ((s.stored_frame ..).links rfl))
  case disable =>
    intro s m n v hs hn hv heven ht hen
    have hcfg : LN_CFG n < meBase := by
      simp only [LN_CFG, meBase]
      omega
    have hapart : LN_CFG n ≠ LN_STATUS n := by
      simp only [LN_CFG, LN_STATUS]
      omega
    refine runs_write (execLaneDisable.eq_1 ..) (by simp only [Instr.wf, hn, hv, heven, decide_true, Bool.and_self]) (lookup_LN_CFG hn) rfl
      (.inr (by simp only [LN_CFG]; omega)) ht ?_
    have hbit : Word.field (BitVec.ofNat 32 v) 0 0 = 0 := (Word.bit_ofNat hv).trans heven
    have hold : (s.reg (LN_CFG n)).field 0 0 = 1 := by simpa [State.flag, State.get, LN_CFG_EN] using hen
    rw [State.effects_laneCfg, if_pos ⟨hold, hbit⟩]
    have hcanon := State.stored_canonical (m := m) (off := LN_CFG n) (v := v) hs
    obtain ⟨hdown, hreg, hdesc⟩ := State.laneOff_shows hcanon hn
    have hoff := ((s.stored m (LN_CFG n) v).laneOff_frame n).canon hcanon
    refine ⟨?_, ?_, fun q hq => ?_⟩
    · rw [State.recorded_flag, State.flag, State.get_of_reg (State.laneCfgShown_reg _ _ hcfg hapart), State.get_of_reg (f := LN_CFG_EN n) hreg,
        State.stored_laneEn hs m hn hv, heven]
      rfl
    · exact (State.recorded_get ..).trans ((State.laneCfgShown_state hoff hn _).trans hdown)
    · rw [State.recorded_flag]
      refine (State.flag_of_reg (State.laneCfgShown_reg _ _ ?_ ?_)).trans (hdesc q hq)
      all_goals simp only [LN_DESC_INFO_VALID, LN_DESC_INFO, LN_STATUS, meBase]
      all_goals omega

end Sys2Proof.Machine
end

section
/-!
Converters and filter chains: two statements that a store with a number twice refutes.
-/

set_option Elab.async false

namespace Sys2Proof.Machine

/-! ### Converters -/

/-- A state whose converter store names converter 0 twice: the entry in force converts the last input of an injected sequence, and the
one behind it, which shows once the first has become the default, has an input left. -/
def twiceNamedConverter : State :=
  { regs := [(AF_STATUS, 0x10000), (AF_CTRL 0, 1)], power := { phase := .running },
    afe := { convs := [(0, { cur := some (0, true) }), (0, { injWork := [1] })] } }

theorem twiceNamedConverter_runs : twiceNamedConverter.canonical = true ∧ twiceNamedConverter.flag (afRunning 0) = true ∧
    twiceNamedConverter.flag (AF_CTRL_EN 0) = true := by decide +kernel

/-- At the end of that conversion the sequence is not published, for the entry behind has an input left. -/
theorem twiceNamedConverter_unpublished : (twiceNamedConverter.conversionEnd 0 0 false {} false).word (AF_INJ_SEQ 0) = 0 := by
  decide +kernel

/-- Refutes O30: its third clause asks the inputs left of the converter before the conversion ends, the model of the one after; on a
store that names a converter twice the two differ, and the clause publishes where the model does not. -/
theorem not_converters : ¬ Obligations.Converters := by
  unfold Obligations.Converters
  rintro ⟨-, -, hinjected, -⟩
  obtain ⟨hcanon, hruns, hen⟩ := twiceNamedConverter_runs
  obtain ⟨u, hu, hclaim⟩ := hinjected twiceNamedConverter 0 0 0 false false {} hcanon (by decide) rfl hruns hen rfl (by decide)
  have hmodel : exec (.conversionEnd 0 0 false {} false) twiceNamedConverter =
      .next (twiceNamedConverter.conversionEnd 0 0 false {} false) := rfl
  obtain rfl : _ = u := Host.Outcome.next.inj (hmodel.symm.trans hu)
  have hpublished := congrArg (fun t : State => t.word (AF_INJ_SEQ 0)) hclaim
  rw [twiceNamedConverter_unpublished] at hpublished
  revert hpublished
  decide +kernel

/-! ### Filter chains -/

/-- An output that is due on time. -/
def dueOutput : ChainDue := { frame := 0, held := 0, line := [], ovr := false, lost := false }

/-- A state whose chain store names chain 0 twice: the entry in force holds one output that is due, and the one behind it, which shows
once the first has become the default, forbids to repeat any instant represented before. -/
def twiceNamedChain : State :=
  { power := { phase := .running }, afe := { chains := [(0, { due := [dueOutput] }), (0, { noRepeat := some 0 })] } }

/-- That output is left out as one that would come again. -/
theorem twiceNamedChain_silent : ((twiceNamedChain.chainOutput 0).chain 0).lastRep = none := by decide +kernel

/-- Refutes O31: its first clause asks the repeated instants of the chain before the due output is taken off its list, the model of the
one after; on a store that names a chain twice the two differ, and the model leaves the output out. -/
theorem not_filterChains : ¬ Obligations.FilterChains := by
  unfold Obligations.FilterChains
  rintro ⟨houtput, -⟩
  obtain ⟨u, hu, -, -, -, hlast⟩ := houtput twiceNamedChain 0 dueOutput [] (by decide +kernel) (by decide) rfl rfl (.inr (Nat.zero_le _)) rfl rfl rfl
  have hmodel : exec (.chainOutput 0) twiceNamedChain = .next (twiceNamedChain.chainOutput 0) :=
    (execChainOutput.eq_1 ..).trans (onEngines_next rfl rfl)
  obtain rfl : _ = u := Host.Outcome.next.inj (hmodel.symm.trans hu)
  rw [twiceNamedChain_silent] at hlast
  cases hlast

end Sys2Proof.Machine
end

section
/-!
Estimates and half-cycle estimates (R140 to R152).
-/

set_option Elab.async false

namespace Sys2Proof.Machine

/-! ### What the half-cycle estimator of a module reads -/

/-- Two states that agree in what the half-cycle estimator of module `m` reads, its own records apart: the registers below the peat log
but the counter of its late estimates, the role, the time and the inputs of the chains. -/
structure SameHalfInputs (m : Nat) (s t : State) : Prop where
  regs : ∀ o < plBase, o ≠ PE_FN_CNT m 6 → o ≠ PE_FN_STAT m → t.reg o = s.reg o
  role : t.get CW_STATUS_ROLE = s.get CW_STATUS_ROLE
  time : t.time = s.time
  order : t.order = s.order
  afe : t.afe = s.afe
  fns : t.phasor.fns = s.phasor.fns
  skips : t.phasor.skips = s.phasor.skips
  restart : t.phasor.restartAt = s.phasor.restartAt
  chains : t.phasor.chains = s.phasor.chains

namespace SameHalfInputs

variable {m : Nat} {s t u : State}

theorem refl (m : Nat) (s : State) : SameHalfInputs m s s := ⟨fun _ _ _ _ => rfl, rfl, rfl, rfl, rfl, rfl, rfl, rfl, rfl⟩

theorem trans (h : SameHalfInputs m s t) (h' : SameHalfInputs m t u) : SameHalfInputs m s u :=
  ⟨fun o ho h1 h2 => (h'.regs o ho h1 h2).trans (h.regs o ho h1 h2), h'.role.trans h.role, h'.time.trans h.time, h'.order.trans h.order,
    h'.afe.trans h.afe, h'.fns.trans h.fns, h'.skips.trans h.skips, h'.restart.trans h.restart, h'.chains.trans h.chains⟩

variable (h : SameHalfInputs m s t)
include h

theorem get {f : Fld} (hf : f.off < plBase) (h1 : f.off ≠ PE_FN_CNT m 6) (h2 : f.off ≠ PE_FN_STAT m) : t.get f = s.get f :=
  State.get_of_reg (h.regs _ hf h1 h2)

theorem fNom : t.fNom = s.fNom := by
  rw [State.fNom, h.get (by decide) (by simp only [PE_G_CFG_F_NOM, PE_G_CFG, PE_FN_CNT]; omega)
    (by simp only [PE_G_CFG_F_NOM, PE_G_CFG, PE_FN_STAT]; omega), State.fNom]

theorem fnLink (f : Nat) : t.fnLink f = s.fnLink f := by rw [State.fnLink, h.fns, State.fnLink]

theorem chainView (n : Nat) : t.chainView n = s.chainView n := by rw [State.chainView, h.chains, State.chainView]

/-- The fields of a module's configuration and of its inputs. -/
theorem source (hm : m < 16) {j : Nat} (hj : j < 8) {f : Fld} (hf : f.off = PE_PH_SRC m j) : t.get f = s.get f := by
  refine h.get ?_ ?_ ?_
  all_goals simp only [hf, PE_PH_SRC, plBase, PE_FN_CNT, PE_FN_STAT]
  all_goals omega

theorem config (hm : m < 16) {f : Fld} (hf : f.off = PE_FN_CFG m) : t.get f = s.get f := by
  refine h.get ?_ ?_ ?_
  all_goals simp only [hf, PE_FN_CFG, plBase, PE_FN_CNT, PE_FN_STAT]
  all_goals omega

theorem chain {n : Nat} (hn : n < 64) {f : Fld} (hf : f.off = FC_CFG n ∨ f.off = FC_DELAY n) : t.get f = s.get f := by
  simp only [FC_CFG, FC_DELAY] at hf
  refine h.get ?_ ?_ ?_
  all_goals simp only [plBase, PE_FN_CNT, PE_FN_STAT]
  all_goals omega

theorem phasorChains (hm : m < 16) {j : Nat} (hj : j < 8) : t.phasorChains m j = s.phasorChains m j := by
  simp only [State.phasorChains, h.source hm hj (f := PE_PH_SRC_TYPE m j) rfl, h.source hm hj (f := PE_PH_SRC_CHAIN_A m j) rfl,
    h.source hm hj (f := PE_PH_SRC_CHAIN_B m j) rfl, h.source hm hj (f := PE_PH_SRC_CHAIN_C m j) rfl]

theorem chainBad {n : Nat} (hn : n < 64) : t.chainBad n = s.chainBad n := by
  simp only [State.chainBad, State.flag, h.chain hn (f := FC_CFG_EN n) (.inl rfl), h.chain hn (f := FC_CFG_PRESET n) (.inl rfl)]

theorem lastHold {n : Nat} (hn : n < 64) (hi : Nat) : t.lastHold n hi = s.lastHold n hi := by
  simp only [State.lastHold, State.chain, h.afe, h.chain hn (f := FC_DELAY_DELAY n) (.inr rfl)]

theorem jobTai : t.jobTai = s.jobTai := by simp only [State.jobTai, h.order, h.role, h.time]

theorem ranFor (a d : Nat) : t.ranFor a d = s.ranFor a d := by
  have hrate : t.rate = s.rate := by
    rw [State.rate, State.getS, h.get (by decide) (by simp only [whole, TB_RATE, PE_FN_CNT]; omega)
      (by simp only [whole, TB_RATE, PE_FN_STAT]; omega), State.rate, State.getS]
  simp only [State.ranFor, State.ranBetween, hrate, h.jobTai]

theorem dueFrom (a : Nat) : t.dueFrom a = s.dueFrom a := by rw [State.dueFrom, h.restart, State.dueFrom]

theorem localPhasors (hm : m < 16) : t.localPhasors m = s.localPhasors m := by
  rw [State.localPhasors, h.config hm rfl, State.localPhasors]

theorem halfOn (hm : m < 16) (j : Nat) : t.halfOn m j = s.halfOn m j := by
  simp only [State.halfOn, State.fnOn, isLocal, decide_eq_true hm, if_true, State.flag, h.config hm (f := PE_FN_CFG_EN m) rfl,
    h.config hm (f := PE_FN_CFG_H_EN m) rfl, h.localPhasors hm, State.cold, h.role]

theorem halfAfter {j : Nat} (hl : t.halfLink m j = s.halfLink m j) (a : Nat) : t.halfAfter m j a = s.halfAfter m j a := by
  simp only [State.halfAfter, hl, h.skips, h.fNom, h.fnLink]

end SameHalfInputs

/-- The chains of a phasor are chains of the device. -/
theorem State.phasorChains_lt (s : State) (m j : Nat) : ∀ n ∈ s.phasorChains m j, n < 64 := by
  intro n hn
  unfold State.phasorChains at hn
  have hlt (f : Fld) (hf : f.hi + 1 - f.lo = 6) : s.get f < 64 := Nat.lt_of_lt_of_eq (Word.field_lt _ _ _) (by rw [hf]; rfl)
  split at hn
  all_goals simp only [List.mem_cons, List.not_mem_nil, or_false] at hn
  · rw [hn]
    exact hlt _ rfl
  · rcases hn with rfl | rfl | rfl
    all_goals exact hlt _ rfl

theorem List.all_congr_mem {α : Type} {l : List α} {p q : α → Bool} (h : ∀ x ∈ l, p x = q x) : l.all p = l.all q := by
  rw [Bool.eq_iff_iff, List.all_eq_true, List.all_eq_true]
  exact forall₂_congr fun x hx => by rw [h x hx]

theorem SameHalfInputs.halfOverdue {m : Nat} {s t : State} (h : SameHalfInputs m s t) (hm : m < 16) {j : Nat} (hj : j < 8)
    (hl : t.halfLink m j = s.halfLink m j) : t.halfOverdue m j = s.halfOverdue m j := by
  have hgood : ((s.phasorChains m j).filter fun n => !t.chainBad n) = (s.phasorChains m j).filter fun n => !s.chainBad n :=
    List.filter_congr fun n hn => by rw [h.chainBad (s.phasorChains_lt m j n hn)]
  have hran (hi : Nat) : (((s.phasorChains m j).filter fun n => !s.chainBad n).all fun n => s.ranFor (s.dueFrom (t.lastHold n hi)) 290001) =
      ((s.phasorChains m j).filter fun n => !s.chainBad n).all fun n => s.ranFor (s.dueFrom (s.lastHold n hi)) 290001 :=
    List.all_congr_mem fun n hn => by rw [h.lastHold (s.phasorChains_lt m j n (List.mem_of_mem_filter hn))]
  simp only [State.halfOverdue, hl, h.halfAfter hl, h.fNom, h.phasorChains hm hj, hgood, h.ranFor, h.dueFrom, hran, h.halfOn hm]

theorem logCounters_window : ∀ o ∈ logCounters, o / 0x10000 = 0x38 := by decide

theorem State.halfMissed_phasor (s : State) (m j k : Nat) :
    (s.halfMissed m j k).phasor = (s.setHalfLink m j { s.halfLink m j with late := (s.halfLink m j).late ++ [k] }).phasor := by
  unfold State.halfMissed
  exact ((State.deviceMiss_frame _ 3).phasor rfl).trans (((State.raise_frame _ EV_PE_H_DEADLINE sevMajor m m 0).phasor rfl).trans
    ((State.count_frame _ _).phasor rfl))

/-- A half-cycle marked as missed, with its count, event and monitor. -/
theorem State.halfMissed_inputs (s : State) {m : Nat} (hm : m < 16) (j k : Nat) : SameHalfInputs m s (s.halfMissed m j k) := by
  have hframe := s.halfMissed_frame m j k
  have hcnt : peCnt m 6 = ⟨PE_FN_CNT m 6, ⟨PE_FN_STAT m, 22, 22⟩, EV_PE_CNT_SAT, m, m⟩ := by
    simp only [peCnt, isLocal, decide_eq_true hm, if_true]
  have hreg {o : Nat} (h1 : o ≠ PE_FN_CNT m 6) (h2 : o ≠ PE_FN_STAT m) (hlog : o / 0x10000 ≠ 0x38) (t : State) :
      (t.count (peCnt m 6)).reg o = t.reg o := by
    rw [hcnt]
    exact t.count_reg_other h1 h2 fun h => hlog (logCounters_window o h)
  refine ⟨fun o ho h1 h2 => ?_, ?_, hframe.time rfl, hframe.order rfl, hframe.afe rfl, ?_, ?_, ?_, ?_⟩
  · unfold State.halfMissed
    refine (State.deviceMiss_below _ (by decide) o ho).trans ((State.raise_below _ _ _ _ _ (by decide) o ho).trans ?_)
    exact hreg h1 h2 (by simp only [plBase] at ho; omega) _
  · refine State.get_of_reg ?_
    unfold State.halfMissed
    refine (State.deviceMiss_keeps _ (by decide) _ (by decide)).trans ((State.raise_keeps _ _ _ _ _ (by decide) _ (by decide)).trans ?_)
    refine hreg ?_ ?_ (by decide) _
    all_goals simp only [CW_STATUS_ROLE, CW_STATUS, PE_FN_CNT, PE_FN_STAT]
    all_goals omega
  all_goals rw [s.halfMissed_phasor m j k]
  all_goals rfl

theorem State.halfMissed_link (s : State) (m j k j' : Nat) :
    (s.halfMissed m j k).halfLink m j' =
      if j' = j then { s.halfLink m j with late := (s.halfLink m j).late ++ [k] } else s.halfLink m j' := by
  rw [State.halfLink, s.halfMissed_phasor m j k]
  split
  · next h =>
    rw [h]
    exact Store.get_set_of_ne _ _ fun h => absurd (congrArg HalfLink.late h) (by simp)
  · next h => exact Store.get_set_other _ (by omega)

/-- One phasor's turn in the check of a module for overdue half-cycles. -/
def State.halfCheck (m j : Nat) (s : State) : State :=
  match s.halfOverdue m j with
  | some k => s.halfMissed m j k
  | none => s

theorem State.halfLate_eq (s : State) (m : Nat) : s.halfLate m = s.forEach 8 (State.halfCheck m) := rfl

theorem State.halfCheck_inputs (s : State) {m : Nat} (hm : m < 16) (j : Nat) : SameHalfInputs m s (s.halfCheck m j) := by
  unfold State.halfCheck
  split
  · exact s.halfMissed_inputs hm j _
  · exact .refl m s

theorem State.halfCheck_other (s : State) (m : Nat) {j j' : Nat} (h : j' ≠ j) : (s.halfCheck m j).halfLink m j' = s.halfLink m j' := by
  unfold State.halfCheck
  split
  · rw [State.halfMissed_link, if_neg h]
  · rfl

theorem State.forEach_succ (s : State) (n : Nat) (f : Nat → State → State) : s.forEach (n + 1) f = f n (s.forEach n f) := by
  simp only [State.forEach, List.range_succ, List.foldl_append, List.foldl_cons, List.foldl_nil]

/-- After some turns of the check: the phasors still to come are as they were, and those done that were overdue are marked. -/
theorem State.halfChecks (s : State) {m : Nat} (hm : m < 16) (n : Nat) (hn : n ≤ 8) :
    SameHalfInputs m s (s.forEach n (State.halfCheck m)) ∧
    (∀ j, n ≤ j → (s.forEach n (State.halfCheck m)).halfLink m j = s.halfLink m j) ∧
    ∀ j < n, ∀ k, s.halfOverdue m j = some k →
      ((s.forEach n (State.halfCheck m)).halfLink m j).late = (s.halfLink m j).late ++ [k] := by
  induction n with
  | zero => exact ⟨.refl m s, fun _ _ => rfl, fun j hj => absurd hj (Nat.not_lt_zero j)⟩
  | succ n ih =>
    obtain ⟨hsame, hlater, hdone⟩ := ih (by omega)
    rw [State.forEach_succ]
    refine ⟨hsame.trans (State.halfCheck_inputs _ hm n), fun j hj => ?_, fun j hj k hk => ?_⟩
    · rw [State.halfCheck_other _ m (by omega), hlater j (by omega)]
    · by_cases hjn : j = n
      · subst hjn
        have hdue := (hsame.halfOverdue hm (by omega) (hlater j (Nat.le_refl j))).trans hk
        rw [State.halfCheck, hdue]
        simp only
        rw [State.halfMissed_link, if_pos rfl, hlater j (Nat.le_refl j)]
      · rw [State.halfCheck_other _ m hjn, hdone j (by omega) k hk]

theorem State.localPhasors_le (s : State) (m : Nat) : s.localPhasors m ≤ 8 := by
  have h : s.get (PE_FN_CFG_NPH m) < 8 := Word.field_lt _ _ _
  rw [State.localPhasors]
  omega

theorem SameHalfInputs.phasorTerms {m : Nat} {s t : State} (h : SameHalfInputs m s t) (hm : m < 16) : t.phasorTerms m = s.phasorTerms m := by
  have hlocal : isLocal m = true := decide_eq_true hm
  simp only [State.phasorTerms, hlocal, if_true, h.localPhasors hm]
  refine List.map_congr_left fun j hj => ?_
  have hj8 : j < 8 := Nat.lt_of_lt_of_le (List.mem_range.mp hj) (s.localPhasors_le m)
  have hscale : t.word (PE_PH_SCALE m j) = s.word (PE_PH_SCALE m j) := by
    rw [State.word, h.regs, State.word]
    all_goals simp only [PE_PH_SCALE, plBase, PE_FN_CNT, PE_FN_STAT]
    all_goals omega
  simp only [hscale, h.source hm hj8 (f := PE_PH_SRC_TYPE m j) rfl, h.phasorChains hm hj8]

/-- The half-cycle estimate of the samples held, which agreement in the inputs leaves as it is. -/
theorem SameHalfInputs.halfPhasor {m : Nat} {s t : State} (h : SameHalfInputs m s t) (hm : m < 16) {j : Nat} (hj : j < 8) (k : Nat) :
    t.halfPhasor m j k = s.halfPhasor m j k := by
  have hlocal : isLocal m = true := decide_eq_true hm
  simp only [State.halfPhasor, h.fNom, h.fnLink, h.phasorTerms hm, State.inputSamples, hlocal, if_true, h.chainView, State.phasorFrom,
    h.phasorChains hm hj]

theorem State.deviceMet_inputs (s : State) (m i : Nat) (late : Bool) : SameHalfInputs m s (s.deviceMet i late) := by
  have hframe := s.deviceMet_frame i late
  refine ⟨fun o ho _ _ => s.deviceMet_below i late o ho, ?_, hframe.time rfl, hframe.order rfl, hframe.afe rfl, ?_, ?_, ?_, ?_⟩
  · unfold State.deviceMet State.when
    split
    · exact State.get_put_other _ (by simp only [CW_STATUS_ROLE, CW_STATUS, DL_STAT_LAST_MISS, DL_STAT]; omega)
    · rfl
  all_goals rw [hframe.phasor rfl]

/-- The half-cycle estimate that a phasor owes, made of what has arrived. -/
theorem State.halfEstimate_due {s : State} {m j k : Nat} (hm : m < 16) (hj : j < 8) (hk : k = s.halfAfter m j 0) (hon : s.halfOn m j = true)
    (hover : s.halfOverdue m j = none)
    (harrived : (decide (halfEnd s.fNom k < s.jobTai) && (s.phasorChains m j).all fun n =>
      s.chainBad n || ((s.chainView n).outputs.head?.map fun o =>
        decide (s.lastHold n (halfEnd s.fNom k) ≤ o.1 + s.get (FC_DELAY_DELAY n))).getD false) = true) :
    ∃ (v : State) (qual flags : Nat), s.halfEstimate m j = v.setHalfLink m j
      { recs := (⟨k, halfInstant s.fNom k, qual, flags, (s.halfPhasor m j k).1, (s.halfPhasor m j k).2,
          halfFreq s.fNom (s.halfLink m j).recs.head? k (s.halfPhasor m j k).2, ((s.halfLink m j).seq + 1) % 2 ^ 32⟩ ::
          (s.halfLink m j).recs).take 16
        last := some k, seq := ((s.halfLink m j).seq + 1) % 2 ^ 32, late := (s.halfLink m j).late.filter fun x => x != k } := by
  rw [State.halfEstimate, ← hk]
  extract_lets t l u lo chains w seq instant
  rw [if_neg (by simp only [harrived, hon]; simp)]
  have ht : t = s := by
    unfold t
    rw [hover]
  clear_value t
  subst ht
  have hsame : SameHalfInputs m t u := t.deviceMet_inputs m 3 _
  have hw : w.fNom = t.fNom := by
    have hcnt : peCnt m 1 = ⟨PE_FN_CNT m 1, ⟨PE_FN_STAT m, 17, 17⟩, EV_PE_CNT_SAT, m, m⟩ := by
      simp only [peCnt, isLocal, decide_eq_true hm, if_true]
    have hreg : w.reg PE_G_CFG = u.reg PE_G_CFG := by
      unfold w State.when
      split
      · rw [hcnt]
        refine u.count_reg_other ?_ ?_ (by decide)
        all_goals simp only [PE_G_CFG, PE_FN_CNT, PE_FN_STAT]
        all_goals omega
      · rfl
    rw [← hsame.fNom, State.fNom, State.get_of_reg (f := PE_G_CFG_F_NOM) hreg, State.fNom]
  have hinstant : instant = halfInstant t.fNom k := congrArg (halfInstant · k) hw
  rw [hsame.halfPhasor hm hj, hsame.fNom, hinstant]
  generalize t.halfPhasor m j k = p
  obtain ⟨mag, ang⟩ := p
  exact ⟨w, _, _, rfl⟩

/-- Settles O32: an estimate in time finds no late instant; the half-cycle estimator of a module reads nothing that its counts, events and
monitors write, so each overdue phasor is found in its turn as it was at first. -/
theorem estimates : Obligations.Estimates := by
  unfold Obligations.Estimates
  refine ⟨?estimate, ?half, ?late, ?halfLate⟩
  case estimate =>
    intro s f t hf hon hcold hfn hlate ht harrived hover e seq bad s1 s2
    refine runs_engines (execPhasorEstimate.eq_1 ..) (decide_eq_true hf) hon ?_
    have hnone : s.estimateLate f = s := by
      rw [State.estimateLate, hlate, List.foldl_nil, ← ht, if_pos (by simp [hover])]
    have hlate1 : ((s1.fnLink f).late.contains t) = false := by
      have hphasor : s1.phasor = s.phasor := by
        have hcount := (s.countFlags_frame f e.flags bad).phasor rfl
        unfold s1
        unfold State.when
        split
        · exact ((State.raise_frame _ EV_PE_FREQ_RANGE sevWarning f f 0).phasor rfl).trans hcount
        · exact hcount
      rw [State.fnLink, hphasor, ← State.fnLink, hlate]
      rfl
    rw [State.estimate, ← ht]
    rw [if_neg (by simp [hcold, hfn, harrived])]
    simp only [hnone]
    have hmet : s1.deviceMet 2 ((s1.fnLink f).late.contains t) = s1.deviceMet 2 false := by rw [hlate1]
    exact congrArg (fun d : State => State.closeComplete 512
      (((d.setFnLink f fun l => { l with
        last := some t, range := e.flags.testBit 5, late := l.late.filter fun x => x != t, freq := some (s.computeEstimate f t).2
        }).showEstimate f e.flags seq e.freq).fileEstimate f seq e)) hmet
  case half =>
    intro s m j k hm hj hon hhalf hk hover hend hin
    refine runs_engines (execHalfWindow.eq_1 ..) (by simp only [Instr.wf, hm, hj, decide_true, Bool.and_self]) hon ?_
    have harrived : ((s.phasorChains m j).all fun n => s.chainBad n || ((s.chainView n).outputs.head?.map fun o =>
        decide (s.lastHold n (halfEnd s.fNom k) ≤ o.1 + s.get (FC_DELAY_DELAY n))).getD false) = true := by
      refine List.all_eq_true.mpr fun n hn => ?_
      rcases hin n hn with hbad | ⟨o, ho, hle⟩
      · simp [hbad]
      · simp [ho, hle]
    obtain ⟨v, qual, flags, hv⟩ := State.halfEstimate_due hm hj hk hhalf hover (by simp [hend, harrived])
    rw [hv]
    have hlink (l : HalfLink) (hl : l.last ≠ none) : (v.setHalfLink m j l).halfLink m j = l :=
      Store.get_set_of_ne _ _ fun h => hl (congrArg HalfLink.last h)
    rw [hlink _ (Option.some_ne_none k)]
    exact ⟨rfl, rfl, _, rfl, rfl, rfl, rfl, rfl⟩
  case late =>
    intro s f t hf hon hcold hfn ht hover
    refine runs_engines (execPmuDeadlineMiss.eq_1 ..) (decide_eq_true hf) hon ?_
    rw [State.estimateLate, ← ht, if_neg (by simp [hcold, hfn, hover])]
  case halfLate =>
    intro s m j k hm hj hon hdue
    refine runs_engines (execHalfCycleDeadlineMiss.eq_1 ..) (decide_eq_true hm) hon ?_
    rw [State.halfLate_eq]
    exact (s.halfChecks hm 8 (Nat.le_refl 8)).2.2 j hj k hdue

end Sys2Proof.Machine
end

section
/-!
Output streams: commands, connections and the enable (R157 to R163).
-/

set_option Elab.async false

namespace Sys2Proof.Machine

/-! ### Commands of a stream (R158) -/

/-- A command that is sound comes to its code's effect. -/
theorem State.osCommand_sound {s : State} {k : Nat} {c : OsCommand} {code : Nat} (hcon : s.osConnected k = true) (hsound : s.osSound k c = true)
    (h0 : code ≠ 0) (h6 : code ≤ 6) :
    s.osCommand k c code =
      if code = 1 then (s.osHeard k).put (OS_STATUS_TX_ON k) 0
      else if code = 2 then (s.osHeard k).put (OS_STATUS_TX_ON k) 1
      else if code = 3 then (s.osHeard k).osPut k (.osHeader k) ((s.osHeard k).headerFrame k) true
      else (s.osHeard k).osPut k (.osCfg k (code - 3)) ((s.osHeard k).cfgBytes k (code - 3)) true := by
  simp only [State.osConnected, Bool.and_eq_true, Bool.not_eq_true', bne_iff_ne] at hcon
  obtain ⟨⟨⟨hen, hcold⟩, hmode⟩, hconn⟩ := hcon
  simp only [State.osSound, Bool.and_eq_true, Bool.or_eq_true, beq_iff_eq] at hsound
  obtain ⟨⟨hchk, hid⟩, hversion⟩ := hsound
  rw [State.osCommand, if_neg (by simp [hen, hcold, hmode, hconn])]
  extract_lets t u
  have hid' : c.idcode = t.get (OS_IDCODE_IDCODE k) := hid
  rw [if_neg]
  · rfl
  · rintro (h | h | h | h | h)
    · exact h hchk
    · exact h hid'
    · exact hversion.elim h.1 h.2
    · exact h0 h
    · omega

/-- One that fails its checks, or has another code, is counted as rejected. -/
theorem State.osCommand_rejected {s : State} {k : Nat} {c : OsCommand} {code : Nat} (hcon : s.osConnected k = true)
    (h : s.osSound k c = false ∨ code = 0 ∨ 6 < code) :
    s.osCommand k c code = (s.setStreamLink k fun l => { l with idleAt := s.time.mono, probes := 0 }).count (osCnt k 2) := by
  simp only [State.osConnected, Bool.and_eq_true, Bool.not_eq_true', bne_iff_ne] at hcon
  obtain ⟨⟨⟨hen, hcold⟩, hmode⟩, hconn⟩ := hcon
  rw [State.osCommand, if_neg (by simp [hen, hcold, hmode, hconn])]
  refine if_pos ?_
  rcases h with h | h | h
  · simp only [State.osSound, Bool.and_eq_false_iff, Bool.or_eq_false_iff, beq_eq_false_iff_ne] at h
    rcases h with (h | h) | h
    · exact .inl (by simp [h])
    · exact .inr (.inl h)
    · exact .inr (.inr (.inl h))
  · exact .inr (.inr (.inr (.inl h)))
  · exact .inr (.inr (.inr (.inr h)))

/-- Settles O33: a command on a connection either passes the checks, and its code chooses the effect, or is counted as rejected. -/
theorem streamCommands : Obligations.StreamCommands := by
  unfold Obligations.StreamCommands
  refine ⟨fun s k c hk hon hcon hsound => ⟨?_, ?_, ?_, ?_, ?_, ?_⟩, fun s k c code hk hon hcon h => ?_⟩
  · exact runs_engines (execOsCmdDataOff.eq_1 ..) (decide_eq_true hk) hon (State.osCommand_sound hcon hsound (by decide) (by decide))
  · exact runs_engines (execOsCmdDataOn.eq_1 ..) (decide_eq_true hk) hon (State.osCommand_sound hcon hsound (by decide) (by decide))
  · exact runs_engines (execOsCmdHeader.eq_1 ..) (decide_eq_true hk) hon (State.osCommand_sound hcon hsound (by decide) (by decide))
  · exact runs_engines (execOsCmdCfg1.eq_1 ..) (decide_eq_true hk) hon (State.osCommand_sound hcon hsound (by decide) (by decide))
  · exact runs_engines (execOsCmdCfg2.eq_1 ..) (decide_eq_true hk) hon (State.osCommand_sound hcon hsound (by decide) (by decide))
  · exact runs_engines (execOsCmdCfg3.eq_1 ..) (decide_eq_true hk) hon (State.osCommand_sound hcon hsound (by decide) (by decide))
  · exact runs_engines (execOsCmdReject.eq_1 ..) (decide_eq_true hk) hon (State.osCommand_rejected hcon h)

/-! ### What a stream's start leaves in its status -/

/-- A count keeps a field that is neither of its counter nor its SAT bit. -/
theorem State.count_get_beside {s : State} (hs : s.canonical = true) {c : Cnt} {f : Fld} (h : f.off ≠ c.off)
    (hf : f.off ≠ c.sat.off ∨ c.sat.apart f = true) (hlog : f.off ∉ logCounters) : (s.count c).get f = s.get f := by
  have hraw : (s.countRaw c).get f = s.get f := by
    unfold State.countRaw
    extract_lets v t
    have ht : t.get f = s.get f := State.get_of_reg (State.reg_setWord_other _ h)
    split
    · rfl
    split
    · rcases hf with hf | hf
      · exact (State.get_put_other _ hf).trans ht
      · exact (State.get_put_beside (State.canonical_setWord hs _ _) hf _).trans ht
    · exact ht
  simp only [State.count, State.log]
  split
  · exact (State.get_of_reg (State.enqueue_reg_other hlog _ _ _ (show sevInfo < 8 by decide))).trans hraw
  · exact hraw

/-- A frame offered to a port writes no register above the ports' but the peat log's. -/
theorem State.txOffer_reg (s : State) {p q o : Nat} (f : TxFrame) (hp : p < 4) (hq : q < 8) (ho : 0x50000 ≤ o) (hlog : o ∉ logCounters) :
    (s.txOffer p q f).reg o = s.reg o := by
  unfold State.txOffer
  extract_lets l used t
  split
  · refine s.count_reg_other ?_ ?_ hlog
    all_goals simp only [npCnt, NP_CNT, NP_CNT_SAT]
    all_goals omega
  · have ht : t.reg o = s.reg o := by
      unfold t State.when
      split
      all_goals rfl
    exact ht

theorem State.txSend_reg (s : State) {p q o : Nat} (f : TxFrame) (hp : p < 4) (hq : q < 8) (ho : 0x50000 ≤ o) (hlog : o ∉ logCounters) :
    (s.txSend p q f).reg o = s.reg o := by
  unfold State.txSend
  split
  · exact (State.txOffer_reg _ _ (by decide) hq ho hlog).trans (State.txOffer_reg _ _ (by decide) hq ho hlog)
  · exact s.txOffer_reg f hp hq ho hlog

/-- A datagram of a stream writes no register above the ports' but the peat log's. -/
theorem State.osPut_udp_reg (s : State) {k o : Nat} (kind : FrameKind) (bytes : List Byte) (ho : 0x50000 ≤ o) (hlog : o ∉ logCounters) :
    (s.osPut k kind bytes false).reg o = s.reg o := by
  have hp : s.get (OS_CFG_PORT k) < 4 := Word.field_lt _ _ _
  have hq : s.get (OS_CFG_QUEUE k) < 8 := Word.field_lt _ _ _
  unfold State.osPut
  exact State.txSend_reg _ _ hp hq ho hlog

theorem osRegister_unlogged {o : Nat} (h : o / 0x10000 = 0x18) : o ∉ logCounters := fun hmem => by
  have := logCounters_window o hmem
  omega

/-- A datagram keeps the stream's TX_ON and its configuration. -/
theorem State.osUdp_keeps {s : State} (hs : s.canonical = true) {k : Nat} (hk : k < 32) (kind : FrameKind) (bytes : List Byte) :
    (s.osUdp k kind bytes).2.get (OS_STATUS_TX_ON k) = s.get (OS_STATUS_TX_ON k) ∧
    (s.osUdp k kind bytes).2.reg (OS_CFG k) = s.reg (OS_CFG k) := by
  have hstatus : (OS_STATUS_TX_ON k).off ∉ logCounters := osRegister_unlogged (show (0x180034 + 0x100 * k) / 0x10000 = 0x18 by omega)
  have hcfg : OS_CFG k ∉ logCounters := osRegister_unlogged (by simp only [OS_CFG]; omega)
  have hapart : OS_CFG k ≠ OS_STATUS k := by
    simp only [OS_CFG, OS_STATUS]
    omega
  have hrouted : (s.routed k).2.canonical = true ∧ (s.routed k).2.get (OS_STATUS_TX_ON k) = s.get (OS_STATUS_TX_ON k) ∧
      (s.routed k).2.reg (OS_CFG k) = s.reg (OS_CFG k) := by
    refine ⟨(s.routed_frame k).canon hs, ?_⟩
    unfold State.routed
    split
    · exact ⟨rfl, rfl⟩
    · extract_lets top multi ok
      have hd : ∀ b : Bool, (s.when b State.draw).canonical = true ∧ (s.when b State.draw).regs = s.regs := fun b => by
        cases b
        · exact ⟨hs, rfl⟩
        · exact ⟨State.canonical_of_regs hs rfl rfl, rfl⟩
      refine ⟨(State.get_put_beside (hd _).1 rfl _).trans (State.get_of_regs (hd _).2 _), (State.reg_put_other _ hapart).trans ?_⟩
      rw [State.reg, (hd _).2, State.reg]
  obtain ⟨hcanon, htx, hreg⟩ := hrouted
  unfold State.osUdp
  generalize s.routed k = r at hcanon htx hreg
  obtain ⟨ok, t⟩ := r
  simp only at hcanon htx hreg ⊢
  split
  · exact ⟨(State.get_of_reg (t.osPut_udp_reg kind bytes (show 0x50000 ≤ 0x180034 + 0x100 * k by omega) hstatus)).trans htx,
      (t.osPut_udp_reg kind bytes (by simp only [OS_CFG]; omega) hcfg).trans hreg⟩
  · refine ⟨(State.count_get_beside hcanon ?_ (.inr rfl) hstatus).trans htx, (t.count_reg_other ?_ hapart hcfg).trans hreg⟩
    all_goals simp only [OS_STATUS_TX_ON, OS_STATUS, OS_CFG, osCnt, OS_CNT]
    all_goals omega

theorem State.cfg2Send_keeps {s : State} (hs : s.canonical = true) {k : Nat} (hk : k < 32) :
    (s.cfg2Send k).get (OS_STATUS_TX_ON k) = s.get (OS_STATUS_TX_ON k) ∧ (s.cfg2Send k).reg (OS_CFG k) = s.reg (OS_CFG k) := by
  unfold State.cfg2Send
  extract_lets t e
  have ht : t.get (OS_STATUS_TX_ON k) = s.get (OS_STATUS_TX_ON k) ∧ t.reg (OS_CFG k) = s.reg (OS_CFG k) := by
    unfold t
    split
    · exact State.osUdp_keeps hs hk _ _
    · exact ⟨rfl, rfl⟩
  exact ht

/-- A stream that starts sends at once in MODE 0. -/
theorem State.osStart_shows {s : State} (hs : s.canonical = true) {k : Nat} (hk : k < 32) :
    (s.osStart k).flag (OS_STATUS_TX_ON k) = decide (s.get (OS_CFG_MODE k) = 0) ∧ (s.osStart k).reg (OS_CFG k) = s.reg (OS_CFG k) := by
  have hapart : OS_CFG k ≠ OS_STATUS k := by
    simp only [OS_CFG, OS_STATUS]
    omega
  unfold State.osStart
  extract_lets t
  have ht : t.canonical = true := State.canonical_of_regs (State.canonical_put hs (OS_STATUS_ROUTE_OK k) 0) rfl rfl
  have hreg : t.reg (OS_CFG k) = s.reg (OS_CFG k) := State.reg_put_other _ hapart
  have hmode : t.get (OS_CFG_MODE k) = s.get (OS_CFG_MODE k) := State.get_of_reg hreg
  rw [hmode]
  split
  · next h =>
    obtain ⟨htx, hcfg⟩ := State.cfg2Send_keeps (State.canonical_put ht (OS_STATUS_TX_ON k) 1) hk
    refine ⟨?_, hcfg.trans ((State.reg_put_other _ hapart).trans hreg)⟩
    rw [State.flag, htx, ← State.flag, State.flag_put_one ht rfl, decide_eq_true h]
  · next h =>
    refine ⟨?_, (State.reg_put_other _ hapart).trans hreg⟩
    rw [State.flag_put_zero ht rfl, decide_eq_false h]

theorem State.tcpGone_open {s : State} {k : Nat} (h : s.flag (OS_STATUS_TCP_CONN k) = true) :
    s.tcpGone k =
      if s.get (OS_CFG_MODE k) = 2 then
        ((s.put (OS_STATUS_TCP_CONN k) 0).setStreamLink k fun l => { l with unacked := 0, probes := 0 }).put (OS_STATUS_TX_ON k) 0
      else (s.put (OS_STATUS_TCP_CONN k) 0).setStreamLink k fun l => { l with unacked := 0, probes := 0 } := by
  have hmode : (s.put (OS_STATUS_TCP_CONN k) 0).get (OS_CFG_MODE k) = s.get (OS_CFG_MODE k) :=
    State.get_put_other _ (by simp only [OS_CFG_MODE, OS_CFG, OS_STATUS_TCP_CONN, OS_STATUS]; omega)
  rw [State.tcpGone, if_neg (by simp [h])]
  extract_lets t
  have ht : t.get (OS_CFG_MODE k) = s.get (OS_CFG_MODE k) := hmode
  rw [ht]

/-- Settles O34: each timer's condition is the clause's premise; a stream that starts sends at once in MODE 0, and what CFG-2 writes lies
beside TX_ON. -/
theorem streamEvents : Obligations.StreamEvents := by
  unfold Obligations.StreamEvents
  refine ⟨?connect, ?close, ?keepalive, ?cfg2, ?late, ?enable⟩
  case connect =>
    intro s k port hk hport hon hen hmode hdrives hlisten
    refine runs_engines (execOsConnect.eq_1 ..) (by simp only [Instr.wf, hk, hport, decide_true, Bool.and_self]) hon ?_
    rw [State.tcpConnect, if_neg (by simp [hen, hmode, hdrives, hlisten])]
  case close =>
    intro s k hk hon hconn t
    exact runs_engines (execOsTcpClose.eq_1 ..) (decide_eq_true hk) hon (State.tcpGone_open hconn)
  case keepalive =>
    intro s k answered hk hon hconn hidle
    refine runs_engines (execOsTcpKeepalive.eq_1 ..) (decide_eq_true hk) hon ?_
    rw [State.tcpKeepalive]
    extract_lets l
    rw [if_neg (by simpa [hconn, l] using hidle)]
    rfl
  case cfg2 =>
    intro s k t hk hon hdue hen hmode hle hcold
    refine runs_engines (execOsCfg2Repeat.eq_1 ..) (decide_eq_true hk) hon ?_
    simp only [hdue]
    exact if_pos ⟨hen, hmode, hle, by simp [hcold]⟩
  case late =>
    intro s k hk hon hready
    refine runs_engines (execOsDeadlineMiss.eq_1 ..) (decide_eq_true hk) hon ?_
    rw [State.osLate, if_pos hready]
  case enable =>
    intro s m k v hs hk hv hodd ht hen
    refine runs_write (execOsEnable.eq_1 ..) (by simp only [Instr.wf, hk, hv, hodd, decide_true, Bool.and_self]) (lookup_OS_CFG hk) rfl
      (.inl rfl) ht ?_
    have hbit : Word.field (BitVec.ofNat 32 v) 0 0 = 1 := (Word.bit_ofNat hv).trans hodd
    have hold : (s.reg (OS_CFG k)).field 0 0 = 0 := by
      have hlt : (s.reg (OS_CFG k)).field 0 0 < 2 := Word.field_lt _ _ _
      have hne : (s.reg (OS_CFG k)).field 0 0 ≠ 1 := by simpa [State.flag, State.get, OS_CFG_EN] using hen
      omega
    rw [effects_OS_CFG]
    simp only [streamEffect]
    rw [if_pos ⟨hold, hbit⟩]
    have hstored := State.stored_canonical (m := m) (off := OS_CFG k) (v := v) hs
    have hlow : OS_CFG k < plBase := by
      simp only [OS_CFG, plBase]
      omega
    have hen' : (s.stored m (OS_CFG k) v).get (OS_CFG_EN k) = 1 :=
      (State.stored_get (f := ⟨0, 0, .rw, false, 0, 1⟩) hs (lookup_OS_CFG hk) hlow (by decide) (by decide)).trans hbit
    have hmode : (s.stored m (OS_CFG k) v).get (OS_CFG_MODE k) = v / 2 % 4 :=
      (State.stored_get (f := ⟨2, 1, .rw, false, 0, 2⟩) hs (lookup_OS_CFG hk) hlow (by decide) (by decide)).trans (Word.field_ofNat 2 1 hv)
    generalize s.stored m (OS_CFG k) v = t at hstored hen' hmode
    have hinfo : (t.osInfo k).reg (OS_CFG k) = t.reg (OS_CFG k) := by
      refine (State.reg_put_other _ ?_).trans (State.reg_put_other _ ?_)
      all_goals simp only [OS_CFG, OS_INFO_NBLK, OS_INFO_FRAME_LEN, OS_INFO]
      all_goals omega
    generalize hu : (t.osInfo k).when (Word.field (BitVec.ofNat 32 v) 26 1 != (s.reg (OS_CFG k)).field 26 1) (fun s => s.osChanged k) = u
    have hregs : u.regs = (t.osInfo k).regs := by
      rw [← hu, State.when]
      split
      all_goals rfl
    have hcanon : u.canonical = true := by
      rw [← hu, State.when]
      have h := (t.osInfo_frame k).canon hstored
      split
      · exact State.canonical_of_regs h rfl rfl
      · exact h
    have hreg : u.reg (OS_CFG k) = t.reg (OS_CFG k) := by rw [State.reg, hregs, ← State.reg, hinfo]
    obtain ⟨htx, hcfg⟩ := State.osStart_shows hcanon hk
    rw [State.recorded_flag, State.recorded_flag, htx, State.flag, State.get_of_reg (f := OS_CFG_EN k) (hcfg.trans hreg), hen',
      State.get_of_reg (f := OS_CFG_MODE k) hreg, hmode]
    exact ⟨rfl, rfl⟩

end Sys2Proof.Machine
end

section
/-!
Stream alignment and the fen store: events, enables and commands (R165 to R196).
-/

set_option Elab.async false

namespace Sys2Proof.Machine

/-! ### Frames, buckets and slots -/

/-- Settles O35: the checks before each effect are the branches that the clause's premises close. -/
theorem alignmentEvents : Obligations.AlignmentEvents := by
  unfold Obligations.AlignmentEvents
  refine ⟨?frame, ?config, ?waits, ?openNext, ?close, ?late, ?stale⟩
  case frame =>
    intro s f blocks left hon hcold hopen hen hsync hversion hsize hchk hkind hid hparse hleft
    refine runs_engines (execAlignFrameRx.eq_1 ..) rfl hon ?_
    have hver : ¬ (f.version ≠ 1 ∧ f.version ≠ 2) := by omega
    have hrest : ¬ (¬ left = true ∧ f.body.length + 16 ≠ f.frameSize) := fun h => hleft.elim h.1 h.2
    rw [State.alignFrame, if_neg (by simp [hcold, hopen]), if_neg (by simp [hen]), if_neg (by simp only [hsync, hsize]; simpa using hver),
      if_neg (by simp [hchk]), if_neg (by simp [hkind]), if_neg (by simp [hkind, hid])]
    simp only [hparse]
    rw [if_neg hrest]
  case config =>
    intro s f hon hswitch hen hcold
    refine runs_engines (execCfgFrameCheck.eq_1 ..) rfl hon ?_
    simp only [hswitch, Bool.false_eq_true, if_false]
    exact if_pos ⟨hen, by simp [hcold]⟩
  case waits =>
    intro s f hon hswitch
    refine runs_engines (execCfgFrameCheck.eq_1 ..) rfl hon ?_
    simp only [hswitch, if_true]
  case openNext =>
    intro s hon hen hcold hdue
    exact runs_engines (execBucketOpen.eq_1 ..) rfl hon (if_pos ⟨hen, by simp [hcold], hdue⟩)
  case close =>
    intro s b o hon hen hcold hclosable
    refine runs_engines (execBucketClose.eq_1 ..) rfl hon ?_
    simp only [hcold, hen, hclosable, Bool.false_eq_true, not_true_eq_false, or_self, if_false]
    rfl
  case late =>
    intro s b o hon hcold hopened hlate hreached hdue
    refine runs_engines (execBucketDeadlineMiss.eq_1 ..) rfl hon ?_
    simp only [State.bucketLate, hopened, hlate, hreached, hcold, hdue, Bool.true_or, Bool.false_eq_true, not_true_eq_false, or_self, if_false]
  case stale =>
    intro s n t hn hon hen hcold hlast hactive hdue
    refine runs_engines (execSlotStale.eq_1 ..) (decide_eq_true hn) hon ?_
    rw [if_pos ⟨hen, by simp [hcold]⟩]
    simp only [State.staleNow, hlast]
    exact if_pos ⟨hn, hactive, hdue⟩

/-! ### Enables of alignment -/

/-- A flag that is clear or set, as the bit of its register. -/
theorem State.bit_clear {s : State} {off b : Nat} (h : s.flag ⟨off, b, b⟩ = false) : (s.reg off).field b b = 0 := by
  have hlt : (s.reg off).field b b < 2 ^ (b + 1 - b) := Word.field_lt _ _ _
  have hne : (s.reg off).field b b ≠ 1 := by simpa [State.flag, State.get] using h
  rw [Nat.add_sub_cancel_left] at hlt
  omega

theorem State.bit_set {s : State} {off b : Nat} (h : s.flag ⟨off, b, b⟩ = true) : (s.reg off).field b b = 1 := by
  simpa [State.flag, State.get] using h

theorem State.jobMono_congr {s t : State} (horder : t.order = s.order) (hrole : t.get CW_STATUS_ROLE = s.get CW_STATUS_ROLE)
    (htime : t.time = s.time) (hpair : t.pair_ = s.pair_) : t.jobMono = s.jobMono := by
  simp only [State.jobMono, horder, hrole, htime, hpair]

theorem State.cold_congr {s t : State} (hrole : t.get CW_STATUS_ROLE = s.get CW_STATUS_ROLE) : t.cold = s.cold := by
  rw [State.cold, hrole, State.cold]

/-- A write that is not audited reaches no other register. -/
theorem State.stored_plain_get {s : State} {m : Master} {off v : Nat} {r : RegSpec} {ix : List Nat} {f : Fld} (hl : lookup off = some (r, ix))
    (hleg : r.legal = false) (h : f.off ≠ off) : (s.stored m off v).get f = s.get f := by
  rw [State.stored_plain hl hleg]
  exact State.get_of_reg (State.reg_setReg_other _ h)

theorem State.setSlotState_reg (s : State) {n v o : Nat} (ho : 0x2f0000 ≤ o) (hn : n < 8192) : (s.setSlotState n v).reg o = s.reg o :=
  State.reg_put_other _ (by simp only [AE_SLOT_STAT_STATE, AE_SLOT_STAT]; omega)

/-- The external slots that wait write the slots' registers alone, and keep the layout. -/
theorem State.slotsWait_keeps (s : State) :
    (∀ o, 0x2f0000 ≤ o → s.slotsWait.reg o = s.reg o) ∧ s.slotsWait.align.layout = s.align.layout := by
  unfold State.slotsWait
  have hall : ∀ n ∈ s.ringSlots.filter (fun n => decide (n < 8192) && s.flag (AE_SLOT_CFG_EN n)), n < 8192 := fun n hn => by
    have := (List.mem_filter.mp hn).2
    simp only [Bool.and_eq_true, decide_eq_true_eq] at this
    exact this.1
  generalize s.ringSlots.filter (fun n => decide (n < 8192) && s.flag (AE_SLOT_CFG_EN n)) = l at hall
  have hfold : ∀ t : State, (∀ o, 0x2f0000 ≤ o → (l.foldl (fun s n => (s.setSlotState n slWaiting).restartStale n) t).reg o = t.reg o) ∧
      (l.foldl (fun s n => (s.setSlotState n slWaiting).restartStale n) t).align.layout = t.align.layout := by
    induction l with
    | nil => exact fun _ => ⟨fun _ _ => rfl, rfl⟩
    | cons n l ih =>
      intro t
      obtain ⟨hregs, hlayout⟩ := ih (fun n hn => hall n (by simp [hn])) ((t.setSlotState n slWaiting).restartStale n)
      exact ⟨fun o ho => (hregs o ho).trans (t.setSlotState_reg ho (hall n (by simp))), hlayout⟩
  exact hfold s

/-- The states of alignment before and after agree in its configuration, in the two bits shown and in
the layout, and the one after is canonical. -/
structure SameAlignStatus (s t : State) : Prop where
  canon : t.canonical = true
  cfg : t.reg AE_CFG = s.reg AE_CFG
  running : t.flag AE_STATUS_RUNNING = s.flag AE_STATUS_RUNNING
  fault : t.flag AE_STATUS_LAYOUT_ERR = s.flag AE_STATUS_LAYOUT_ERR
  layout : t.align.layout = s.align.layout

namespace SameAlignStatus

variable {s t u : State}

theorem refl (hs : s.canonical = true) : SameAlignStatus s s := ⟨hs, rfl, rfl, rfl, rfl⟩

theorem trans (h : SameAlignStatus s t) (h' : SameAlignStatus t u) : SameAlignStatus s u :=
  ⟨h'.canon, h'.cfg.trans h.cfg, h'.running.trans h.running, h'.fault.trans h.fault, h'.layout.trans h.layout⟩

/-- Registers other than the two of alignment. -/
theorem of_reg (hu : u.canonical = true) (h : SameAlignStatus s t) (hcfg : u.reg AE_CFG = t.reg AE_CFG)
    (hstatus : u.reg AE_STATUS = t.reg AE_STATUS) (hlayout : u.align.layout = t.align.layout) : SameAlignStatus s u :=
  h.trans ⟨hu, hcfg, State.flag_of_reg hstatus, State.flag_of_reg hstatus, hlayout⟩

theorem setWord (h : SameAlignStatus s t) {off : Nat} (v : Nat) (ho : off ≠ AE_CFG) (ho' : off ≠ AE_STATUS) : SameAlignStatus s (t.setWord off v) :=
  of_reg (State.canonical_setWord h.canon _ _) h (State.reg_setWord_other _ ho.symm) (State.reg_setWord_other _ ho'.symm) rfl

theorem setPair (h : SameAlignStatus s t) {lo hi : Nat} (v : Nat) (ho : lo ≠ AE_CFG ∧ hi ≠ AE_CFG) (ho' : lo ≠ AE_STATUS ∧ hi ≠ AE_STATUS) :
    SameAlignStatus s (t.setPair lo hi v) := (h.setWord _ ho.1 ho'.1).setWord _ ho.2 ho'.2

theorem put (h : SameAlignStatus s t) {f : Fld} (v : Nat) (ho : f.off ≠ AE_CFG) (ho' : f.off ≠ AE_STATUS) : SameAlignStatus s (t.put f v) :=
  of_reg (State.canonical_put h.canon _ _) h (State.reg_put_other _ ho.symm) (State.reg_put_other _ ho'.symm) rfl

theorem align (h : SameAlignStatus s t) (a : AlignState) (ha : a.layout = t.align.layout) : SameAlignStatus s { t with align := a } :=
  of_reg (State.canonical_of_regs h.canon rfl rfl) h rfl rfl ha

/-- The counts and numbers of the fen store stand beside the two bits. -/
theorem showFen (h : SameAlignStatus s t) : SameAlignStatus s t.showFen := by
  unfold State.showFen
  have h1 : SameAlignStatus s (t.put AE_STATUS_OPEN t.align.opens.length) :=
    h.trans ⟨State.canonical_put h.canon _ _, State.reg_put_other _ (by decide), State.flag_put_beside h.canon (by decide) _,
      State.flag_put_beside h.canon (by decide) _, rfl⟩
  extract_lets u v held
  have h2 : SameAlignStatus s v := by
    unfold v
    split
    all_goals exact h1.setPair _ (by decide) (by decide)
  exact h2.setPair _ (by decide) (by decide)

theorem showPins (h : SameAlignStatus s t) : SameAlignStatus s t.showPins := (h.put _ (by decide) (by decide)).put _ (by decide) (by decide)

theorem resumeGrid (h : SameAlignStatus s t) (gap : Bool) : SameAlignStatus s (t.resumeGrid gap) := h.align _ rfl

theorem slotsWait (h : SameAlignStatus s t) : SameAlignStatus s t.slotsWait :=
  of_reg ((t.slotsWait_frame).canon h.canon) h (t.slotsWait_keeps.1 _ (by decide)) (t.slotsWait_keeps.1 _ (by decide)) t.slotsWait_keeps.2

/-- The bases of the slots written anew. -/
theorem bases (h : SameAlignStatus s t) (l : List (Nat × Nat)) : SameAlignStatus s (l.foldl (fun s e => s.setWord (AE_SLOT_BASE e.1) e.2) t) := by
  induction l generalizing t with
  | nil => exact h
  | cons e l ih => exact ih (h.setWord _ (by simp only [AE_SLOT_BASE, AE_CFG]; omega) (by simp only [AE_SLOT_BASE, AE_STATUS]; omega))

/-- The bases of the slots dropped. -/
theorem dropBases (h : SameAlignStatus s t) :
    SameAlignStatus s { t with regs := t.regs.filter fun e =>
      !(decide (0x200000 ≤ e.1) && decide (e.1 < 0x200000 + 0x40 * 8464) && e.1 % 64 == 0x3c) } := by
  have hcanon := h.canon
  refine of_reg ?_ h (Store.get_filter (p := fun o => !(decide (0x200000 ≤ o) && decide (o < 0x200000 + 0x40 * 8464) && o % 64 == 0x3c))
    (by decide) _) (Store.get_filter (p := fun o => !(decide (0x200000 ≤ o) && decide (o < 0x200000 + 0x40 * 8464) && o % 64 == 0x3c))
    (by decide) _) rfl
  simp only [State.canonical, Bool.and_eq_true] at hcanon ⊢
  exact ⟨Store.filter_wf _ hcanon.1, hcanon.2⟩

end SameAlignStatus

/-- The fen store emptied for a new layout (R187). -/
def State.emptyFen (s : State) (l : FenLayout) : State :=
  { s with align := { s.align with layout := some l, newest := none, cells := [], headers := [], annex := [], pins := [] } }

/-- The registers of a new layout. -/
def State.showLayout (s : State) (l : FenLayout) : State :=
  let s := s.put FS_STATUS_HISTORY l.history
  let s := s.put FS_ANNEX_INFO_ENTRIES (annexBytes (s.get FS_CFG_ANNEX) / 160)
  let s := { s with regs := s.regs.filter fun e => !(decide (0x200000 ≤ e.1) && decide (e.1 < 0x200000 + 0x40 * 8464) && e.1 % 64 == 0x3c) }
  let s := l.bases.foldl (fun s e => s.setWord (AE_SLOT_BASE e.1) e.2) s
  ((s.setPair FS_CLOSED_LO FS_CLOSED_HI 0).showFen.showPins).resumeGrid false

theorem State.layOut_eq (s : State) :
    s.layOut = (let t := ((s.put AE_STATUS_RUNNING (bit !s.cold)).put AE_STATUS_LAYOUT_ERR 0).slotsWait
      if t.align.layout = some s.wantedLayout then t.resumeGrid true else (t.emptyFen s.wantedLayout).showLayout s.wantedLayout) := rfl

theorem SameAlignStatus.showLayout {s t : State} (h : SameAlignStatus s t) (l : FenLayout) : SameAlignStatus s (t.showLayout l) := by
  have h2 := (h.put (f := FS_STATUS_HISTORY) l.history (by decide) (by decide)).put (f := FS_ANNEX_INFO_ENTRIES)
    (annexBytes ((t.put FS_STATUS_HISTORY l.history).get FS_CFG_ANNEX) / 160) (by decide) (by decide)
  have h4 := h2.dropBases.bases l.bases
  exact (((h4.setPair (lo := FS_CLOSED_LO) (hi := FS_CLOSED_HI) 0 (by decide) (by decide)).showFen).showPins).resumeGrid false

/-- Alignment started (R167). -/
theorem State.layOut_shows {s : State} (hs : s.canonical = true) :
    s.layOut.reg AE_CFG = s.reg AE_CFG ∧ s.layOut.flag AE_STATUS_RUNNING = !s.cold ∧ s.layOut.flag AE_STATUS_LAYOUT_ERR = false ∧
    s.layOut.align.layout = some s.wantedLayout := by
  have h1 := State.canonical_put hs AE_STATUS_RUNNING (bit !s.cold)
  have h2 := State.canonical_put h1 AE_STATUS_LAYOUT_ERR 0
  have hcfg : ((s.put AE_STATUS_RUNNING (bit !s.cold)).put AE_STATUS_LAYOUT_ERR 0).reg AE_CFG = s.reg AE_CFG :=
    (State.reg_put_other _ (by decide)).trans (State.reg_put_other _ (by decide))
  have hrun : ((s.put AE_STATUS_RUNNING (bit !s.cold)).put AE_STATUS_LAYOUT_ERR 0).flag AE_STATUS_RUNNING = !s.cold :=
    (State.flag_put_beside h1 (by decide) _).trans (State.flag_put hs rfl _)
  have hfault : ((s.put AE_STATUS_RUNNING (bit !s.cold)).put AE_STATUS_LAYOUT_ERR 0).flag AE_STATUS_LAYOUT_ERR = false :=
    State.flag_put_zero h1 rfl
  have hwait := (SameAlignStatus.refl h2).slotsWait
  rw [State.layOut_eq]
  generalize ((s.put AE_STATUS_RUNNING (bit !s.cold)).put AE_STATUS_LAYOUT_ERR 0) = a at *
  generalize a.slotsWait = t at *
  simp only
  split
  · next hl =>
    have h := hwait.resumeGrid true
    exact ⟨h.cfg.trans hcfg, h.running.trans hrun, h.fault.trans hfault, ((SameAlignStatus.refl hwait.canon).resumeGrid true).layout.trans hl⟩
  · have hempty : (t.emptyFen s.wantedLayout).canonical = true := State.canonical_of_regs hwait.canon rfl rfl
    have h := (SameAlignStatus.refl hempty).showLayout s.wantedLayout
    exact ⟨h.cfg.trans (hwait.cfg.trans hcfg), h.running.trans (hwait.running.trans hrun), h.fault.trans (hwait.fault.trans hfault), h.layout⟩

theorem State.setHeader_layout (s : State) (b : Nat) (f : BucketHeader → BucketHeader) : (s.setHeader b f).align.layout = s.align.layout := by
  unfold State.setHeader
  split
  all_goals rfl

/-- Alignment stopped (R434). -/
theorem State.alignStop_shows {s : State} (hs : s.canonical = true) :
    s.alignStop.reg AE_CFG = s.reg AE_CFG ∧ s.alignStop.flag AE_STATUS_RUNNING = false ∧ s.alignStop.align.opens = [] ∧
    s.alignStop.align.layout = s.align.layout := by
  have hfold : ∀ (l : List OpenBucket) (t : State), SameAlignStatus s t →
      SameAlignStatus s (l.foldl (fun s o => s.setHeader o.number fun h => { h with state := 4 }) t) := by
    intro l
    induction l with
    | nil => exact fun _ ht => ht
    | cons o l ih =>
      refine fun t ht => ih _ ?_
      have hframe := t.setHeader_frame o.number fun h => { h with state := 4 }
      have hreg (a : Nat) : (t.setHeader o.number fun h => { h with state := 4 }).reg a = t.reg a := by
        rw [State.reg, hframe.regs rfl, State.reg]
      exact SameAlignStatus.of_reg (hframe.canon ht.canon) ht (hreg _) (hreg _) (t.setHeader_layout _ _)
  have hheads := hfold s.align.opens s (.refl hs)
  have hlast := (hheads.align { (s.align.opens.foldl (fun s o => s.setHeader o.number fun h => { h with state := 4 }) s).align with
    opens := []
    slots := ((s.align.opens.foldl (fun s o => s.setHeader o.number fun h => { h with state := 4 }) s).align.slots.map
      fun (e : Nat × SlotLink) => (e.1, { changed := e.2.changed, last := e.2.last })).filter fun (e : Nat × SlotLink) => e.2 != ({} : SlotLink) } rfl).showFen
  refine ⟨(State.reg_put_other _ (by decide)).trans hlast.cfg, State.flag_put_zero hlast.canon rfl, ?_, hlast.layout⟩
  exact congrArg AlignState.opens ((State.showFen_frame _).align rfl)

theorem Option.map_decide_le {o : Option Nat} {a n : Nat} (ho : o = some n) (h : a ≤ n) : (o.map fun b => decide (a ≤ b)).getD false = true := by
  simp [ho, h]

/-- Settles O36: an enable stores its word and has its block's effect; each fen-store command's checks are the clause's premises. -/
theorem alignmentCommands : Obligations.AlignmentCommands := by
  unfold Obligations.AlignmentCommands
  refine ⟨?slot, ?enable, ?disable, ?query, ?queryPin, ?pin, ?unpin⟩
  case slot =>
    intro s m n v hs hn hv hodd ht hen
    refine runs_write (execSlotEnable.eq_1 ..) (by simp only [Instr.wf, hn, hv, hodd, decide_true, Bool.and_self]) (lookup_AE_SLOT_CFG hn) rfl
      (.inl rfl) ht ?_
    have hbit : Word.field (BitVec.ofNat 32 v) 0 0 = 1 := (Word.bit_ofNat hv).trans hodd
    have hold : (s.reg (AE_SLOT_CFG n)).field 0 0 = 0 := State.bit_clear hen
    rw [effects_AE_SLOT_CFG]
    simp only [alignEffect]
    rw [if_neg (by omega), if_pos ⟨hold, hbit⟩]
    have hen' : (s.stored m (AE_SLOT_CFG n) v).get (AE_SLOT_CFG_EN n) = 1 :=
      (State.stored_get (f := ⟨0, 0, .rw, false, 0, 1⟩) hs (lookup_AE_SLOT_CFG hn) (by simp only [AE_SLOT_CFG, plBase]; omega) (by decide)
        (by decide)).trans hbit
    have hstored := State.stored_canonical (m := m) (off := AE_SLOT_CFG n) (v := v) hs
    have hframe := s.stored_frame m (AE_SLOT_CFG n) v
    have hmono : ((s.stored m (AE_SLOT_CFG n) v).setSlotState n slWaiting).jobMono = s.jobMono := by
      refine State.jobMono_congr (hframe.order rfl) ((State.get_put_other _ ?_).trans
        (State.stored_plain_get (lookup_AE_SLOT_CFG hn) rfl ?_)) (hframe.time rfl) (hframe.pair_ rfl)
      all_goals simp only [CW_STATUS_ROLE, CW_STATUS, AE_SLOT_STAT_STATE, AE_SLOT_STAT, AE_SLOT_CFG]
      all_goals omega
    generalize s.stored m (AE_SLOT_CFG n) v = t at *
    have hload {f : Fld} (hf : f.off ≠ AE_LOAD) (w : Nat) : (((t.setSlotState n slWaiting).restartStale n).put AE_LOAD_LOAD w).get f =
        (t.setSlotState n slWaiting).get f := State.get_put_other _ hf
    refine ⟨?_, ?_, ?_⟩
    · rw [State.recorded_flag, State.flag, hload (by simp only [AE_SLOT_CFG_EN, AE_SLOT_CFG, AE_LOAD]; omega),
        State.setSlotState, State.get_put_other _ (by simp only [AE_SLOT_CFG_EN, AE_SLOT_CFG, AE_SLOT_STAT_STATE, AE_SLOT_STAT]; omega), hen']
      rfl
    · rw [State.slotState, State.recorded_get, hload (by simp only [AE_SLOT_STAT_STATE, AE_SLOT_STAT, AE_LOAD]; omega)]
      exact State.get_put_fit hstored rfl (show slWaiting < 2 ^ (2 + 1 - 0) by decide)
    · obtain ⟨fw, hfw⟩ := State.recorded_eq (((t.setSlotState n slWaiting).restartStale n).put AE_LOAD_LOAD
        (((t.setSlotState n slWaiting).restartStale n).alignLoad n (BitVec.ofNat 32 v))) m (AE_SLOT_CFG n) v
      rw [hfw]
      exact (congrArg SlotLink.last (Store.get_set_of_ne _ n fun h => Option.some_ne_none _ (congrArg SlotLink.last h))).trans
        (congrArg some hmono)
  case enable =>
    intro s m v hs hv hodd ht hen
    refine runs_write (execAlignEnable.eq_1 ..) (by simp only [Instr.wf, hv, hodd, decide_true, Bool.and_self]) lookup_AE_CFG rfl (.inl rfl) ht ?_
    have hbit : Word.field (BitVec.ofNat 32 v) 0 0 = 1 := (Word.bit_ofNat hv).trans hodd
    have hold : (s.reg AE_CFG).field 0 0 = 0 := State.bit_clear hen
    rw [effects_AE_CFG]
    simp only [alignEffect]
    rw [if_pos ⟨hold, hbit⟩]
    have hen' : (s.stored m AE_CFG v).get AE_CFG_EN = 1 :=
      (State.stored_get (f := ⟨0, 0, .rw, false, 0, 1⟩) hs lookup_AE_CFG (by decide) (by decide) (by decide)).trans hbit
    have hcold : (s.stored m AE_CFG v).cold = s.cold := State.cold_congr (State.stored_plain_get lookup_AE_CFG rfl (by decide))
    obtain ⟨hcfg, hrun, hfault, hlayout⟩ := State.layOut_shows (State.stored_canonical (m := m) (off := AE_CFG) (v := v) hs)
    obtain ⟨fw, hfw⟩ := State.recorded_eq (s.stored m AE_CFG v).layOut m AE_CFG v
    refine ⟨?_, ?_, ?_, ?_⟩
    · rw [State.recorded_flag, State.flag, State.get_of_reg (f := AE_CFG_EN) hcfg, hen']
      rfl
    · rw [State.recorded_flag, hrun, hcold]
    · rw [State.recorded_flag, hfault]
    · rw [hfw]
      exact hlayout
  case disable =>
    intro s m v hs hv heven ht hen
    refine runs_write (execAlignDisable.eq_1 ..) (by simp only [Instr.wf, hv, heven, decide_true, Bool.and_self]) lookup_AE_CFG rfl (.inl rfl) ht ?_
    have hbit : Word.field (BitVec.ofNat 32 v) 0 0 = 0 := (Word.bit_ofNat hv).trans heven
    have hold : (s.reg AE_CFG).field 0 0 = 1 := State.bit_set hen
    rw [effects_AE_CFG]
    simp only [alignEffect]
    rw [if_neg (by simp [hold]), if_pos ⟨hold, hbit⟩]
    have hen' : (s.stored m AE_CFG v).get AE_CFG_EN = 0 :=
      (State.stored_get (f := ⟨0, 0, .rw, false, 0, 1⟩) hs lookup_AE_CFG (by decide) (by decide) (by decide)).trans hbit
    obtain ⟨hcfg, hrun, hopens, hlayout⟩ := State.alignStop_shows (State.stored_canonical (m := m) (off := AE_CFG) (v := v) hs)
    obtain ⟨fw, hfw⟩ := State.recorded_eq (s.stored m AE_CFG v).alignStop m AE_CFG v
    refine ⟨?_, ?_, ?_, ?_⟩
    · rw [State.recorded_flag, State.flag, State.get_of_reg (f := AE_CFG_EN) hcfg, hen']
      rfl
    · rw [State.recorded_flag, hrun]
    · rw [hfw]
      exact hopens
    · rw [hfw]
      exact hlayout.trans (congrArg AlignState.layout ((s.stored_frame m AE_CFG v).align rfl))
  case query =>
    intro s h first last dst dstLen slots flags pin newest hsq hserve hfield hflag hlen hslots hnewest hle
    refine runs_core (execFenQuery.eq_1 ..) (decide_eq_true hsq) (State.coreOn_serves hserve) ?_
    have hbuffer : (if dstLen < (last + 1 - first) * (64 + 128 * (s.querySlots slots flags pin).length) then some 56 else none) = none := by
      simp only [State.querySlots, hflag, Bool.false_eq_true, if_false]
      exact if_neg (Nat.not_lt.mpr hlen)
    rw [State.command_runs hserve hfield hbuffer]
    simp only [State.startQuery, hflag, Bool.false_eq_true, if_false, hslots]
    rw [if_pos (Option.map_decide_le hnewest hle)]
  case queryPin =>
    intro s h first last dst dstLen slots flags pin p hsq hserve hfield hflag hheld hfirst hlast hlen
    refine runs_core (execFenQuery.eq_1 ..) (decide_eq_true hsq) (State.coreOn_serves hserve) ?_
    have hbuffer : (if dstLen < (last + 1 - first) * (64 + 128 * (s.querySlots slots flags pin).length) then some 56 else none) = none := by
      simp only [State.querySlots, hflag, if_true, hheld, Option.map_some, Option.getD_some]
      exact if_neg (Nat.not_lt.mpr hlen)
    rw [State.command_runs hserve hfield hbuffer]
    simp only [State.startQuery, hflag, if_true, hheld]
    rw [if_neg (by omega)]
  case pin =>
    intro s h first last slots pin newest hsq hserve hfield hfree hslots hnewest hle hclosed hroom
    refine runs_core (execFenPin.eq_1 ..) (decide_eq_true hsq) (State.coreOn_serves hserve) ?_
    rw [State.command_runs hserve hfield rfl]
    have hopen : (s.align.opens.any fun o => decide (first ≤ o.number) && decide (o.number ≤ last)) = false := by
      simp only [List.any_eq_false, Bool.and_eq_true, decide_eq_true_eq]
      intro o ho
      have := hclosed o ho
      omega
    simp only [State.startPin, hfree, Option.isSome_none, Bool.false_eq_true, if_false, hslots, hopen]
    rw [if_neg (by simp [hnewest, hle]), if_neg (Nat.not_lt.mpr hroom)]
  case unpin =>
    intro s h pin p hsq hserve hpin hheld
    refine runs_core (execFenUnpin.eq_1 ..) (decide_eq_true hsq) (State.coreOn_serves hserve) ?_
    rw [State.command_runs hserve (by simp; omega) rfl]
    simp only [hheld]

end Sys2Proof.Machine
end

section
/-!
The watchers and the rules of detection (O37, O38).
-/

set_option Elab.async false

namespace Sys2Proof.Machine

/-! ### Modal updates -/

/-- A modal update owed, of no samples. -/
def emptyUpdate : OwUpdate := { bucket := 0, count := 0, windows := [] }

/-- A state whose watcher store names watcher 0 twice: the entry in force owes one update and stands before the wrap of its sequence
number, and the one behind it shows once the first has become the default. -/
def twiceNamedWatcher : State :=
  { regs := [(OW_CFG 0, 1)], power := { phase := .running },
    detect := { ow := [(0, { owed := [emptyUpdate], seq := 0xffffffff }), (0, { seq := 5 })] } }

theorem twiceNamedWatcher_runs : twiceNamedWatcher.canonical = true ∧ twiceNamedWatcher.flag (OW_CFG_EN 0) = true ∧
    twiceNamedWatcher.cold = false := by decide +kernel

theorem State.ow_congr {s t : State} (h : t.detect = s.detect) (w : Nat) : t.ow w = s.ow w := by rw [State.ow, h, State.ow]

/-- The damping judged of a watcher keeps its sequence number, where that tells the watcher from the default. -/
theorem State.owDamp_seq {s : State} {w : Nat} (h : (s.ow w).seq ≠ 0) (ms : List OwMode) : ((s.owDamp w ms).ow w).seq = (s.ow w).seq := by
  unfold State.owDamp
  extract_lets sig low neg cause n v lowRun clearRun t t'
  have ht : (t.ow w).seq = (s.ow w).seq :=
    (congrArg OwWatcher.seq (Store.get_set_of_ne _ w fun h' => h (congrArg OwWatcher.seq h')) : _ = { s.ow w with lowRun, clearRun }.seq)
  have ht' : t'.detect = t.detect := by
    unfold t'
    clear_value low
    split
    · split
      · exact ((State.raise_frame _ EV_OW_LOW_DAMP sevMajor _ w 0).detect rfl).trans ((State.count_frame _ _).detect rfl)
      · rfl
    · split
      all_goals rfl
  refine Eq.trans (congrArg OwWatcher.seq (State.ow_congr ?_ w)) ht
  refine Eq.trans ?_ ht'
  clear_value neg
  split
  · split
    · rfl
    · exact (State.raise_frame _ EV_OW_NEG_DAMP sevCritical _ w 0).detect rfl
  · rfl

/-- Refutes O37: its second clause gives the sequence number of a modal update, which the model stores in the watcher's entry; on a store
that names a watcher twice, an entry that has become the default makes way for the one behind it. -/
theorem not_watcherEvents : ¬ Obligations.WatcherEvents := by
  unfold Obligations.WatcherEvents
  rintro ⟨-, hmodal, -⟩
  obtain ⟨hcanon, hen, hcold⟩ := twiceNamedWatcher_runs
  obtain ⟨u, -, hu, -, hseq, -⟩ := hmodal twiceNamedWatcher 0 emptyUpdate [] hcanon (by decide) rfl rfl hen hcold
  rw [if_pos (show twiceNamedWatcher.detect.resBase = 0 from rfl)] at hu
  generalize twiceNamedWatcher.modes 0 (twiceNamedWatcher.modalInputs 0 emptyUpdate) = ms at hu
  have hbehind : ((((twiceNamedWatcher.setOw 0 fun v => { v with owed := [], seq := (v.seq + 1) % 2 ^ 32 }).deviceMet 7 emptyUpdate.late).when
      ms.isEmpty fun s => s.count (owCnt 0 6)).ow 0).seq = 5 := by
    have hstored : ((twiceNamedWatcher.setOw 0 fun v => { v with owed := [], seq := (v.seq + 1) % 2 ^ 32 }).ow 0).seq = 5 := by decide +kernel
    refine Eq.trans (congrArg OwWatcher.seq (State.ow_congr ?_ 0)) hstored
    unfold State.when
    split
    · exact ((State.count_frame _ _).detect rfl).trans ((State.deviceMet_frame _ _ _).detect rfl)
    · exact (State.deviceMet_frame _ _ _).detect rfl
  generalize (((twiceNamedWatcher.setOw 0 fun v => { v with owed := [], seq := (v.seq + 1) % 2 ^ 32 }).deviceMet 7 emptyUpdate.late).when
      ms.isEmpty fun s => s.count (owCnt 0 6)) = s1 at hu hbehind
  have hkept : (u.ow 0).seq = 5 := by
    rw [hu]
    refine Eq.trans (congrArg OwWatcher.seq (State.ow_congr ?_ 0)) ((State.owDamp_seq (by rw [hbehind]; decide) ms).trans hbehind)
    exact ((State.fire_frame _ _).detect rfl).trans ((State.setConds_frame _ _ _ _).detect rfl)
  rw [hkept] at hseq
  revert hseq
  decide +kernel

/-! ### A rule that falls (R224 to R227) -/

/-- A register of a rule: above the router's status, below the pins. -/
def ruleRegister (o : Nat) : Prop := 0x320100 ≤ o ∧ o < 0x320800

theorem ruleRegister.low {o : Nat} (h : ruleRegister o) : o < plBase := Nat.lt_trans h.2 (by decide)

/-- A record placed in a delivery ring writes registers of the rings and above only. -/
theorem State.drPlace_below (s : State) (r type flags : Nat) (payload : List Byte) : SameBelow plBase s (s.drPlace r type flags payload) := by
  unfold State.drPlace
  extract_lets len base pos pad seq t start t1 t2 host t3 shadow t4
  have hemit (u : State) (e : Output) : SameBelow plBase u (u.emit e) := .of_regs rfl
  have ht : SameBelow plBase s t := (SameBelow.refl _ s).when fun _ => hemit _ _
  have h1 : SameBelow plBase s t1 := (ht.trans (hemit _ _)).trans (hemit _ _)
  have h2 : SameBelow plBase s t2 := h1.setWord _ (show 0x380000 ≤ 0x391814 + 0x20 * r by omega)
  have h3 : SameBelow plBase s t3 := h2
  have h4 : SameBelow plBase s t4 := h3.when fun _ => hemit _ _
  clear_value t4
  have hsignal : SameBelow plBase s (t4.signal (16 + r) false) := fun o ho =>
    (State.signal_reg_below _ (Nat.lt_trans ho (by decide)) _ _).trans (h4 o ho)
  exact hsignal.trans (State.fire_below _ _)

section Rules

variable {o : Nat} (ho : ruleRegister o)
include ho

theorem State.settlePins_rule (s : State) (before : List Bool) (more : List (Nat × Bool)) (data : Option Stamp) :
    (s.settlePins before more data).reg o = s.reg o := by
  have hother {a : Nat} (ha : 0x320800 ≤ a) : o ≠ a := Nat.ne_of_lt (Nat.lt_of_lt_of_le ho.2 ha)
  unfold State.settlePins
  extract_lets t
  refine (congrArg (fun r => Store.get resetWord r o) ((t.setConds_frame _ _ _).regs rfl)).trans ?_
  refine State.forEach_induction (P := fun u => u.reg o = s.reg o) rfl fun p _ u hu => ?_
  split
  · exact hu
  · refine (State.reg_put_other _ (hother ?_)).trans ((State.reg_setWord_other _ (hother ?_)).trans
      ((State.reg_put_other _ (hother ?_)).trans hu))
    all_goals simp only [AL_PIN_TS_SEC_HI_SEC_HI, AL_PIN_TS_SEC_HI, AL_PIN_TS_SEC_LO, AL_PIN_TS_NS_NS, AL_PIN_TS_NS]
    all_goals omega

theorem State.computePins_rule (s : State) : s.computePins.reg o = s.reg o := by
  have hstatus : o ≠ AL_STATUS := fun h => by
    have := ho.1
    rw [h] at this
    exact absurd this (by decide)
  exact (State.reg_put_other _ hstatus).trans (State.reg_put_other _ hstatus)

theorem State.alarmDeliver_rule (s : State) (e : RuleEdge) (late : Bool) (data : Stamp) : (s.alarmDeliver e late data).reg o = s.reg o := by
  unfold State.alarmDeliver
  split
  · rfl
  · extract_lets ring bytes t u
    split
    · exact (u.drPlace_below _ _ _ _ o ho.low)
    · refine (State.raise_below _ _ _ _ _ (by decide) o ho.low).trans (State.count_reg_other _ ?_ ?_ ?_)
      · exact Nat.ne_of_lt (Nat.lt_of_lt_of_le ho.2 (show 0x320800 ≤ AL_CNT 1 by decide))
      · exact Nat.ne_of_lt (Nat.lt_of_lt_of_le ho.2 (show 0x320800 ≤ AL_SAT by decide))
      · exact fun h => Nat.not_lt.mpr (logCounters_above o h) ho.low

/-- A rule that falls: the pins, the vector, the event and the record, none of which writes a register of a rule. -/
theorem State.ruleEdges_fall_rule (s : State) (r : Nat) (latched late : Bool) (data : Stamp) :
    (s.ruleEdges [⟨r, false, latched⟩] late data).reg o = s.reg o := by
  unfold State.ruleEdges
  extract_lets t u
  have ht : t.reg o = s.reg o := (State.settlePins_rule ho _ _ _ _).trans (State.computePins_rule ho s)
  have hu : u = t := by
    simp only [u, List.any_cons, List.any_nil, Bool.false_and, Bool.or_false, Bool.false_eq_true, if_false]
    exact State.forEach_induction (P := fun v => v = t) rfl fun _ _ v hv => hv
  rw [List.foldl_cons, List.foldl_nil, hu, State.ruleEdge, if_neg (by simp)]
  exact (State.alarmDeliver_rule ho _ _ _ _).trans ((t.raise_below EV_AL_RULE_OFF _ _ _ (by decide) o ho.low).trans ht)

end Rules

/-- A rule that nothing holds falls. -/
theorem State.resettle_falls {s : State} (hs : s.canonical = true) {r : Nat} (hr : r < 32) (hraw : (s.rule r).raw = false)
    (hlatched : s.flag (AL_RULE_STAT_LATCHED r) = false) (hheld : ∀ t, (s.rule r).onUntil = some t → t ≤ s.jobMono) :
    (s.resettle r).flag (AL_RULE_STAT_ON r) = false ∧ (s.resettle r).flag (AL_RULE_STAT_LATCHED r) = false := by
  have hstat : ruleRegister (AL_RULE_STAT r) := by
    simp only [ruleRegister, AL_RULE_STAT]
    omega
  have hnone : ((s.rule r).onUntil.map fun t => decide (s.jobMono < t)).getD false = false :=
    Option.map_getD_eq fun t ht => decide_eq_false (Nat.not_lt.mpr (hheld t ht))
  have h1 : ((s.put (AL_RULE_STAT_LATCHED r) 0).setRule r fun v => { v with onUntil := none }).canonical = true :=
    State.canonical_of_regs (State.canonical_put hs _ _) rfl rfl
  have hlat : ((s.put (AL_RULE_STAT_LATCHED r) 0).setRule r fun v => { v with onUntil := none }).flag (AL_RULE_STAT_LATCHED r) = false :=
    State.flag_put_zero hs rfl
  have hon1 : ((s.put (AL_RULE_STAT_LATCHED r) 0).setRule r fun v => { v with onUntil := none }).flag (AL_RULE_STAT_ON r) =
      s.flag (AL_RULE_STAT_ON r) := State.flag_put_beside hs rfl _
  simp only [State.resettle, State.settleRule, hraw, hlatched, hnone, Bool.or_false, Bool.and_false, Bool.false_eq_true, if_false]
  generalize (s.put (AL_RULE_STAT_LATCHED r) 0).setRule r (fun v => { v with onUntil := none }) = t at h1 hlat hon1
  cases hon : s.flag (AL_RULE_STAT_ON r) with
  | false =>
    simp only [if_true]
    exact ⟨hon1.trans hon, hlat⟩
  | true =>
    simp only [Bool.false_eq_true, if_false]
    have hfall := State.ruleEdges_fall_rule hstat (t.put (AL_RULE_STAT_ON r) (bit false)) r false false (t.put (AL_RULE_STAT_ON r) (bit false)).detect.data
    exact ⟨(State.flag_of_reg (f := AL_RULE_STAT_ON r) hfall).trans (State.flag_put h1 rfl false),
      (State.flag_of_reg (f := AL_RULE_STAT_LATCHED r) hfall).trans ((State.flag_put_beside h1 rfl _).trans hlat)⟩

/-! ### Watchers enabled and disabled -/

/-- The state shown of an oscillation watcher stands beside its conditions. -/
theorem State.owState_shows {s : State} (hs : s.canonical = true) (w : Nat) :
    (s.owState w).get (OW_STATUS_COND w) = s.get (OW_STATUS_COND w) ∧ (s.owState w).reg (OW_CFG w) = s.reg (OW_CFG w) :=
  ⟨State.get_put_beside hs rfl _, State.reg_put_other _ (by simp only [OW_CFG, OW_STATUS_STATE, OW_STATUS]; omega)⟩

/-- A restart of an oscillation watcher leaves its conditions shown. -/
theorem State.owRestart_shows {s : State} (hs : s.canonical = true) {w : Nat} (hw : w < 64) :
    (s.owRestart w).get (OW_STATUS_COND w) = s.get (OW_STATUS_COND w) ∧ (s.owRestart w).reg (OW_CFG w) = s.reg (OW_CFG w) := by
  unfold State.owRestart
  extract_lets t
  have ht : t.canonical = true := State.canonical_of_regs hs rfl rfl
  have hreg (o : Nat) : t.reg o = s.reg o := rfl
  clear_value t
  have hlog {o : Nat} (h : o ∈ logCounters) : ¬ o < plBase := Nat.not_lt.mpr (logCounters_above o h)
  simp only [plBase] at hlog
  obtain ⟨hcond, hcfg⟩ := State.owState_shows ((t.count_frame (owCnt w 3)).canon ht) w
  refine ⟨hcond.trans ((State.count_get_beside ht ?_ (.inr rfl) ?_).trans (State.get_of_reg (hreg _))),
    hcfg.trans ((State.count_reg_other _ ?_ ?_ ?_).trans (hreg _))⟩
  · simp only [owCnt, OW_CNT, OW_STATUS_COND, OW_STATUS]
    omega
  · exact fun h => hlog h (by simp only [OW_STATUS_COND, OW_STATUS]; omega)
  · simp only [owCnt, OW_CNT, OW_CFG]
    omega
  · simp only [owCnt, OW_STATUS, OW_CFG]
    omega
  · exact fun h => hlog h (by simp only [OW_CFG]; omega)

/-- An oscillation watcher that starts shows no condition, and keeps its configuration. -/
theorem State.owStart_shows {s : State} (hs : s.canonical = true) {w : Nat} (hw : w < 64) :
    (s.owStart w).get (OW_STATUS_COND w) = 0 ∧ (s.owStart w).reg (OW_CFG w) = s.reg (OW_CFG w) := by
  unfold State.owStart
  extract_lets t u
  have hclean : ((s.put (OW_STATUS_COND w) 0).setOw w fun v => { seq := v.seq }).canonical = true :=
    State.canonical_of_regs (State.canonical_put hs _ _) rfl rfl
  obtain ⟨hcond, hcfg⟩ := State.owState_shows hclean w
  have htcond : t.get (OW_STATUS_COND w) = 0 := hcond.trans (State.get_put_fit hs rfl (Nat.two_pow_pos _))
  have htcfg : t.reg (OW_CFG w) = s.reg (OW_CFG w) :=
    hcfg.trans (State.reg_put_other _ (by simp only [OW_CFG, OW_STATUS_COND, OW_STATUS]; omega))
  have ht : t.canonical = true := (s.owClean_frame w).canon hs
  have hu : u.get (OW_STATUS_COND w) = 0 ∧ u.reg (OW_CFG w) = s.reg (OW_CFG w) := by
    simp only [u]
    split
    · exact ⟨htcond, htcfg⟩
    · obtain ⟨hrcond, hrcfg⟩ := State.owRestart_shows ht hw
      exact ⟨hrcond.trans htcond, hrcfg.trans htcfg⟩
  have hreg (o : Nat) : (u.setConds (u.owBits w) u.now).reg o = u.reg o :=
    congrArg (fun r => Store.get resetWord r o) ((u.setConds_frame _ _ _).regs rfl)
  exact ⟨(State.get_of_reg (hreg _)).trans hu.1, (hreg _).trans hu.2⟩

/-- An island watcher cleaned shows no condition and the state it is to take, and keeps its configuration. -/
theorem State.iwClean_shows {s : State} (hs : s.canonical = true) {k st : Nat} (hk : k < 16) (hst : st < 8) :
    (s.iwClean k st).get (IW_STATUS_COND k) = 0 ∧ (s.iwClean k st).get (IW_STATUS_STATE k) = st ∧
    (s.iwClean k st).reg (IW_CFG k) = s.reg (IW_CFG k) := by
  unfold State.iwClean
  extract_lets t
  have hlow : IW_CFG k < plBase ∧ IW_STATUS k < plBase := by
    simp only [IW_CFG, IW_STATUS, plBase]
    omega
  have hapart : IW_CFG k ≠ IW_STATUS k := by
    simp only [IW_CFG, IW_STATUS]
    omega
  have h1 := State.canonical_put hs (IW_STATUS_COND k) 0
  have h2 : t.canonical = true := State.canonical_put h1 _ _
  have hcond : t.get (IW_STATUS_COND k) = 0 := (State.get_put_beside h1 rfl _).trans (State.get_put_fit hs rfl (Nat.two_pow_pos _))
  have hcfg : t.reg (IW_CFG k) = s.reg (IW_CFG k) := (State.reg_put_other _ hapart).trans (State.reg_put_other _ hapart)
  have h3 : ((t.setIw k fun _ => {}).setIw k fun v => { v with base := none }).canonical = true := State.canonical_of_regs h2 rfl rfl
  have h4 : ((t.setIw k fun _ => {}).setBase k none).canonical = true := State.canonical_put h3 _ _
  have hcond' : ((t.setIw k fun _ => {}).setBase k none).get (IW_STATUS_COND k) = 0 := (State.get_put_beside h3 rfl _).trans hcond
  have hcfg' : ((t.setIw k fun _ => {}).setBase k none).reg (IW_CFG k) = s.reg (IW_CFG k) := (State.reg_put_other _ hapart).trans hcfg
  generalize (t.setIw k fun _ => {}).setBase k none = u at h4 hcond' hcfg'
  unfold State.iwTo
  split
  next hstate => exact ⟨hcond', hstate, hcfg'⟩
  next =>
    have hfire {o : Nat} (ho : o < plBase) := State.fire_below (s := u.put (IW_STATUS_STATE k) st) (128 + k) o ho
    exact ⟨(State.get_of_reg (hfire hlow.2)).trans ((State.get_put_beside h4 rfl _).trans hcond'),
      (State.get_of_reg (hfire hlow.2)).trans (State.get_put_fit h4 rfl hst),
      (hfire hlow.1).trans ((State.reg_put_other _ hapart).trans hcfg')⟩

/-- What a write of `IW_CFG` shows once the watcher is cleaned: the enable as written, no condition, the state it is to take. -/
theorem State.iwConfigured_shows {s : State} {m : Master} (hs : s.canonical = true) {k v : Nat} (hk : k < 16) (hv : v < 2 ^ 32) (load : Nat)
    {st : Nat} (hst : st < 8) :
    let u := ((s.stored m (IW_CFG k) v).put DE_LOAD_LOAD load).iwClean k st
    (u.setConds (u.iwBits k) u.now).get (IW_STATUS_COND k) = 0 ∧ (u.setConds (u.iwBits k) u.now).get (IW_STATUS_STATE k) = st ∧
    (u.setConds (u.iwBits k) u.now).get (IW_CFG_EN k) = v % 2 := by
  intro u
  have hstored := State.stored_canonical (m := m) (off := IW_CFG k) (v := v) hs
  have hreg (o : Nat) : (u.setConds (u.iwBits k) u.now).reg o = u.reg o :=
    congrArg (fun r => Store.get resetWord r o) ((u.setConds_frame _ _ _).regs rfl)
  obtain ⟨hcond, hstate, hcfg⟩ := State.iwClean_shows (State.canonical_put hstored DE_LOAD_LOAD load) hk hst
  have hload : ((s.stored m (IW_CFG k) v).put DE_LOAD_LOAD load).reg (IW_CFG k) = (s.stored m (IW_CFG k) v).reg (IW_CFG k) :=
    State.reg_put_other _ (by simp only [IW_CFG, DE_LOAD_LOAD, DE_LOAD]; omega)
  refine ⟨(State.get_of_reg (hreg _)).trans hcond, (State.get_of_reg (hreg _)).trans hstate, ?_⟩
  exact (State.get_of_reg (f := IW_CFG_EN k) ((hreg _).trans (hcfg.trans hload))).trans
    ((State.stored_get (f := ⟨0, 0, .rw, false, 0, 1⟩) hs (lookup_IW_CFG hk) (by simp only [IW_CFG, plBase]; omega) (by decide)
      (by decide)).trans (Word.bit_ofNat hv))

/-- Settles O38: a rule that nothing holds falls; a watcher's start and its stop clean it. -/
theorem rulesAndWatchers : Obligations.RulesAndWatchers := by
  unfold Obligations.RulesAndWatchers
  refine ⟨?eval, ?minOn, ?clear, ?held, ?oscillation, ?island, ?stop⟩
  case eval =>
    intro s x rest hon hx
    refine runs_engines (execRuleEval.eq_1 ..) rfl hon ?_
    simp only [State.ruleEval, hx]
  case minOn =>
    intro s r hs hr hon hraw hlatched hheld
    exact runs_engines (execRuleMinOnEnd.eq_1 ..) (decide_eq_true hr) hon (State.resettle_falls hs hr hraw hlatched hheld).1
  case clear =>
    intro s m r v hs hr hv hodd ht hraw huntil
    refine runs_write (execRuleClear.eq_1 ..) (by simp only [Instr.wf, hr, hv, decide_true, Bool.and_self]) (lookup_AL_RULE_CTRL hr) rfl
      (.inl rfl) ht ?_
    have hbit : Word.field (BitVec.ofNat 32 v) 0 0 = 1 := (Word.bit_ofNat hv).trans hodd
    rw [effects_AL_RULE_CTRL]
    simp only [alarmEffect]
    have hstored := State.stored_canonical (m := m) (off := AL_RULE_CTRL r) (v := v) hs
    have hrule : (s.stored m (AL_RULE_CTRL r) v).rule r = s.rule r :=
      by
      rw [State.rule, (s.stored_frame m (AL_RULE_CTRL r) v).detect rfl, State.rule]
    generalize s.stored m (AL_RULE_CTRL r) v = t at hstored hrule
    rw [if_pos ⟨hbit, by simp [hrule, hraw]⟩]
    have hfalls := State.resettle_falls (State.canonical_put hstored (AL_RULE_STAT_LATCHED r) 0) hr ((congrArg RuleLink.raw hrule).trans hraw)
      (State.flag_put_zero hstored rfl) fun n hn => absurd (hn.symm.trans ((congrArg RuleLink.onUntil hrule).trans huntil)) (Option.some_ne_none n)
    simp only [State.recorded_flag]
    exact hfalls.symm
  case held =>
    intro s m k v hs hk hv hodd ht hen
    refine runs_write (execIwClear.eq_1 ..) (by simp only [Instr.wf, hk, hv, decide_true, Bool.and_self]) (lookup_IW_CTRL hk) rfl
      (.inl rfl) ht ?_
    have hbit : Word.field (BitVec.ofNat 32 v) 0 0 = 1 := (Word.bit_ofNat hv).trans hodd
    have hen' : (s.stored m (IW_CTRL k) v).flag (IW_CFG_EN k) = true := by
      rw [State.flag, State.stored_plain_get (lookup_IW_CTRL hk) rfl (by simp only [IW_CFG_EN, IW_CFG, IW_CTRL]; omega)]
      exact hen
    rw [effects_IW_CTRL]
    simp only [islandEffect]
    rw [if_pos ⟨hbit, hen'⟩]
  case oscillation =>
    intro s m w v hs hw hv hodd ht hen
    refine runs_write (execOwEnable.eq_1 ..) (by simp only [Instr.wf, hw, hv, hodd, decide_true, Bool.and_self]) (lookup_OW_CFG hw) rfl
      (.inl rfl) ht ?_
    have hbit : Word.field (BitVec.ofNat 32 v) 0 0 = 1 := (Word.bit_ofNat hv).trans hodd
    have hold : (s.reg (OW_CFG w)).field 0 0 = 0 := State.bit_clear hen
    rw [effects_OW_CFG]
    simp only [oscillationEffect]
    rw [if_pos ⟨hold, hbit⟩]
    have hstored := State.stored_canonical (m := m) (off := OW_CFG w) (v := v) hs
    have hen' : (s.stored m (OW_CFG w) v).get (OW_CFG_EN w) = 1 :=
      (State.stored_get (f := ⟨0, 0, .rw, false, 0, 1⟩) hs (lookup_OW_CFG hw) (by simp only [OW_CFG, plBase]; omega) (by decide)
        (by decide)).trans hbit
    generalize s.stored m (OW_CFG w) v = t at hstored hen' ⊢
    have hstart {u : State} (hu : u.canonical = true) (hcfg : u.reg (OW_CFG w) = t.reg (OW_CFG w)) (load : Nat) :
        ((u.put DE_LOAD_LOAD load).owStart w).flag (OW_CFG_EN w) = true ∧ ((u.put DE_LOAD_LOAD load).owStart w).get (OW_STATUS_COND w) = 0 := by
      obtain ⟨hcond, hkept⟩ := State.owStart_shows (State.canonical_put hu DE_LOAD_LOAD load) hw
      have hload : (u.put DE_LOAD_LOAD load).reg (OW_CFG w) = u.reg (OW_CFG w) :=
        State.reg_put_other _ (by simp only [OW_CFG, DE_LOAD_LOAD, DE_LOAD]; omega)
      refine ⟨?_, hcond⟩
      rw [State.flag, State.get_of_reg (f := OW_CFG_EN w) (hkept.trans (hload.trans hcfg)), hen']
      rfl
    simp only [State.recorded_flag, State.recorded_get]
    split
    · exact hstart hstored rfl _
    · exact hstart (State.canonical_setWord hstored _ _) (State.reg_setWord_other _ (by simp only [OW_CFG, OW_BAND]; omega)) _
  case island =>
    intro s m k v hs hk hv hodd ht hen
    refine runs_write (execIwEnable.eq_1 ..) (by simp only [Instr.wf, hk, hv, hodd, decide_true, Bool.and_self]) (lookup_IW_CFG hk) rfl
      (.inl rfl) ht ?_
    have hbit : Word.field (BitVec.ofNat 32 v) 0 0 = 1 := (Word.bit_ofNat hv).trans hodd
    have hold : (s.reg (IW_CFG k)).field 0 0 = 0 := State.bit_clear hen
    rw [effects_IW_CFG]
    simp only [islandEffect]
    rw [if_pos ⟨hold, hbit⟩]
    have hcold : (s.stored m (IW_CFG k) v).cold = s.cold := State.cold_congr (State.stored_plain_get (lookup_IW_CFG hk) rfl (by
      simp only [CW_STATUS_ROLE, CW_STATUS, IW_CFG]
      omega))
    have hcold' (load : Nat) : ((s.stored m (IW_CFG k) v).put DE_LOAD_LOAD load).cold = s.cold :=
      (State.cold_congr (State.get_put_other _ (by decide))).trans hcold
    obtain ⟨hcond, hstate, hen'⟩ := State.iwConfigured_shows (m := m) hs hk hv
      ((s.stored m (IW_CFG k) v).get DE_LOAD_LOAD + (s.stored m (IW_CFG k) v).iwLoad k (BitVec.ofNat 32 v) -
        (s.stored m (IW_CFG k) v).iwLoad k (s.reg (IW_CFG k))) (st := if s.cold then iwIdle else iwLearn) (by split <;> decide)
    simp only [State.recorded_flag, State.recorded_get, State.iwStart, hcold']
    refine ⟨?_, hcond, hstate⟩
    rw [State.flag, hen', hodd]
    rfl
  case stop =>
    intro s m k v hs hk hv heven ht hen
    refine runs_write (execIwDisable.eq_1 ..) (by simp only [Instr.wf, hk, hv, heven, decide_true, Bool.and_self]) (lookup_IW_CFG hk) rfl
      (.inl rfl) ht ?_
    have hbit : Word.field (BitVec.ofNat 32 v) 0 0 = 0 := (Word.bit_ofNat hv).trans heven
    have hold : (s.reg (IW_CFG k)).field 0 0 = 1 := State.bit_set hen
    rw [effects_IW_CFG]
    simp only [islandEffect]
    rw [if_neg (by simp [hold]), if_pos ⟨hold, hbit⟩]
    obtain ⟨hcond, hstate, hen'⟩ := State.iwConfigured_shows (m := m) hs hk hv
      ((s.stored m (IW_CFG k) v).get DE_LOAD_LOAD + (s.stored m (IW_CFG k) v).iwLoad k (BitVec.ofNat 32 v) -
        (s.stored m (IW_CFG k) v).iwLoad k (s.reg (IW_CFG k))) (st := iwIdle) (by decide)
    simp only [State.recorded_flag, State.recorded_get, State.iwStop]
    refine ⟨?_, hcond, hstate⟩
    rw [State.flag, hen', heven]
    rfl

end Sys2Proof.Machine
end

section
/-!
Metering, records, saves and pulses (O39 to O42).
-/

set_option Elab.async false

namespace Sys2Proof.Machine

/-! ### Blocks and intervals of metering -/

/-- A block whose two results agree, or that has one, books with nothing to recover (R243). -/
theorem State.dualCheck_agrees (s : State) (n : Nat) {b : MeterBlock} {mismatch : Bool} (again : Bool) (h : (b.dual && mismatch) = false) :
    s.dualCheck n b mismatch again = (s, 0) := by
  rw [State.dualCheck, if_neg (by simpa using h)]

/-- Settles O39: the branches that book, that mark and that pass a boundary are the ones the clauses' premises choose. -/
theorem blocksAndIntervals : Obligations.BlocksAndIntervals := by
  unfold Obligations.BlocksAndIntervals
  refine ⟨?book, ?late, ?boundary⟩
  case book =>
    intro s n b rest mismatch again hn hon hready hagree
    refine runs_engines (execBlockBook.eq_1 ..) (decide_eq_true hn) hon ?_
    simp only [State.bookNext, hready, State.dualCheck_agrees _ _ _ hagree, if_true]
  case late =>
    intro s n b rest hn hon hready hlate hdue
    refine runs_engines (execMeBlockDeadlineMiss.eq_1 ..) (decide_eq_true hn) hon ?_
    simp only [State.blockLate, hready]
    rw [if_neg (by simp [hlate, hdue])]
  case boundary =>
    intro s hon hcold
    refine runs_engines (execIntervalBoundary.eq_1 ..) rfl hon ?_
    simp [State.intervalBoundary, hcold]

/-! ### Records and modes by command -/

/-- The audit of a mode change leaves the order log's switch. -/
theorem State.modeAudit_orderOn (s : State) (old mode : Nat) : (s.modeAudit old mode).orderOn = s.orderOn := by
  have hkeeps : Keeps winPl s (s.modeAudit old mode) := (s.sealBy_keeps 1).trans (State.auditAdd_keeps _ _)
  have horder : (s.modeAudit old mode).order = s.order := ((State.auditAdd_frame _ _).order rfl).trans ((s.sealBy_frame 1).order rfl)
  rw [State.orderOn, hkeeps.get rfl, hkeeps.flag rfl, horder, State.orderOn]

/-- Settles O40: each premise chooses a branch of the command's checks. -/
theorem recordCommands : Obligations.RecordCommands := by
  unfold Obligations.RecordCommands
  refine ⟨?close, ?same, ?change⟩
  case close =>
    intro s h n context hsq hn hserve hrole
    refine runs_core (execLaneRecordClose.eq_1 ..) (decide_eq_true hsq) (State.coreOn_serves hserve) ?_
    rw [State.command_runs hserve (if_neg (by omega)) rfl]
    simp [State.recordClose, hrole]
  case same =>
    intro s h mode hsq hserve hrole hmode hle
    refine runs_core (execMetrologyMode.eq_1 ..) (decide_eq_true hsq) (State.coreOn_serves hserve) ?_
    rw [State.command_runs hserve (if_neg (by omega)) rfl]
    simp only [State.setMode]
    rw [if_neg hrole, if_pos hmode, ← hmode]
  case change =>
    intro s h mode hsq hserve hrole hmode hallowed hroom horder
    refine runs_core (execMetrologyMode.eq_1 ..) (decide_eq_true hsq) (State.coreOn_serves hserve) ?_
    rw [State.command_runs hserve (if_neg (by omega)) rfl]
    have hable : ¬ (mode = 1 ∨ (mode = 2 ∧ s.get ME_G_STATUS_MODE ≠ 0) ∨
        (mode = 0 ∧ s.get ME_G_STATUS_MODE = 1 ∧ ¬ s.meter.configLoaded = true)) := by
      rcases hallowed with rfl | ⟨rfl, hold⟩ | ⟨rfl, hloaded⟩
      · omega
      · omega
      · rintro (h1 | ⟨h2, -⟩ | ⟨-, hold, hnot⟩)
        · omega
        · omega
        · exact hnot (hloaded hold)
    simp only [State.setMode]
    rw [if_neg hrole, if_neg hmode, if_neg hable, hroom]
    simp only [State.modeAudit_orderOn, horder, Bool.false_eq_true, if_false]

/-! ### Ledger records -/

/-- Settles O41: the signing, the delivery and the register writes take the branch of the clauses' premises. -/
theorem ledgerRecords : Obligations.LedgerRecords := by
  unfold Obligations.LedgerRecords
  refine ⟨?sign, ?late, ?place, ?ack, ?resend, ?disable⟩
  case sign =>
    intro s b hon hdrives hen hbody hfilled
    refine runs_engines (execLedgerSign.eq_1 ..) rfl hon ?_
    simp only [State.signNext]
    rw [if_neg (by simp [hdrives, hen])]
    simp only [hbody, hfilled, if_true]
  case late =>
    intro s b hon hdrives hfind
    refine runs_engines (execSignDeadlineMiss.eq_1 ..) rfl hon ?_
    simp only [hdrives, if_true, State.signLate, hfind]
  case place =>
    intro s b sig hon hdrives hswitch hfind hsig hfits
    refine runs_engines (execLedgerPlace.eq_1 ..) rfl hon ?_
    simp only [State.placeNext, hfind, hsig]
    rw [hfits, if_neg (by simp [hdrives, hswitch])]
  case ack =>
    intro s m v hv ht
    refine runs_write (execLedgerAck.eq_1 ..) (decide_eq_true hv) lookup_ME_LEDGER_ACK_HI rfl (.inl rfl) ht ?_
    rw [effects_ME_LEDGER_ACK_HI]
    rfl
  case resend =>
    intro s m v hv hodd ht
    refine runs_write (execLedgerResend.eq_1 ..) (decide_eq_true hv) lookup_ME_LEDGER_CTRL rfl (.inl rfl) ht ?_
    have hbit : Word.field (BitVec.ofNat 32 v) 0 0 = 1 := (Word.bit_ofNat hv).trans hodd
    rw [effects_ME_LEDGER_CTRL]
    simp only [meterEffect, hbit]
    rfl
  case disable =>
    intro s m n v hn hv heven ht hen
    refine runs_write (execMeterDisable.eq_1 ..) (by simp only [Instr.wf, hn, hv, heven, decide_true, Bool.and_self]) (lookup_ME_CFG hn) rfl
      (.inr (by simp only [ME_CFG]; omega)) ht ?_
    have hbit : Word.field (BitVec.ofNat 32 v) 0 0 = 0 := (Word.bit_ofNat hv).trans heven
    have hold : (s.reg (ME_CFG n)).field 0 0 = 1 := State.bit_set hen
    rw [effects_ME_CFG]
    simp only [meterEffect]
    rw [if_neg (by simp [hold]), if_pos ⟨hold, hbit⟩]

/-! ### Saves, pulses, the sentinel and the tamper inputs -/

/-- Settles O42: a save and a pulse write the meter's part and registers of their own windows; the rest are the clauses' branches. -/
theorem savesAndPulses : Obligations.SavesAndPulses := by
  unfold Obligations.SavesAndPulses
  refine ⟨?snapshot, ?commit, ?late, ?emit, ?pulseOver, ?sentinel, ?tamper⟩
  case snapshot =>
    intro s hon hholdup hcold hdue
    refine runs_engines (execSaveSnapshot.eq_1 ..) rfl hon ?_
    rw [State.periodicSave, if_neg (by simp [hholdup, hcold, hdue])]
    exact ⟨rfl, rfl, _, rfl, rfl, rfl, rfl, rfl, rfl⟩
  case commit =>
    intro s v rest hon hsaving
    refine runs_core (execSaveCommit.eq_1 ..) rfl hon ?_
    simp only [State.commitSave, hsaving]
  case late =>
    intro s v hon hfind
    refine runs_core (execSaveDeadlineMiss.eq_1 ..) rfl hon ?_
    simp only [State.saveLate, hfind]
  case emit =>
    intro s p t rest hs hp hon hen hdue hhigh hready
    refine runs_engines (execPulseEmit.eq_1 ..) (decide_eq_true hp) hon ?_
    simp only [State.pulseEmit, hdue]
    rw [if_neg (by simp [hen, hhigh, hready])]
    obtain ⟨started, hstarted⟩ : ∃ st : PulseState, { s.pulse p with due := rest, high := some (s.jobMono + s.get (PO_CFG_WIDTH p) * 1000) } = st :=
      ⟨_, rfl⟩
    have hduest : started.due = rest := hstarted ▸ rfl
    have hhighst : started.high = some (s.jobMono + s.get (PO_CFG_WIDTH p) * 1000) := hstarted ▸ rfl
    rw [hstarted]
    have h1 : (s.setPulse p started).canonical = true := State.canonical_of_regs hs rfl rfl
    have h2 : ((s.setPulse p started).bump (whole (PO_COUNT p))).canonical = true := State.canonical_put h1 _ _
    have hword := State.word_bump_whole h1 (PO_COUNT p)
    have hpulse : (s.setPulse p started).pulse p = started :=
      Store.get_set_of_ne _ p fun h => Option.some_ne_none _ (hhighst.symm.trans (congrArg PulseState.high h))
    have hrole : (((s.setPulse p started).bump (whole (PO_COUNT p))).put (PO_STATUS_BACKLOG p) rest.length).drives = s.drives := by
      have hget : (((s.setPulse p started).bump (whole (PO_COUNT p))).put (PO_STATUS_BACKLOG p) rest.length).get CW_STATUS_ROLE =
          s.get CW_STATUS_ROLE := by
        refine (State.get_put_other _ ?_).trans (State.get_put_other _ ?_)
        · simp only [CW_STATUS_ROLE, CW_STATUS, PO_STATUS_BACKLOG, PO_STATUS]
          omega
        · simp only [CW_STATUS_ROLE, CW_STATUS, whole, PO_COUNT]
          omega
      rw [State.drives, hget, State.drives]
    have hcount : (((s.setPulse p started).bump (whole (PO_COUNT p))).put (PO_STATUS_BACKLOG p) rest.length).word (PO_COUNT p) =
        (s.word (PO_COUNT p) + 1) % 2 ^ 32 := by
      rw [State.word, State.reg_put_other _ (by simp only [PO_COUNT, PO_STATUS_BACKLOG, PO_STATUS]; omega)]
      exact hword
    have hbacklog : (((s.setPulse p started).bump (whole (PO_COUNT p))).put (PO_STATUS_BACKLOG p) rest.length).get (PO_STATUS_BACKLOG p) =
        rest.length % 65536 := State.get_put_same (State.canonical_regs h2) (by decide : 16 ≤ 31) (by decide : 31 < 32) _
    simp only [hrole]
    cases s.drives
    all_goals exact ⟨(congrArg PulseState.due hpulse).trans hduest, (congrArg PulseState.high hpulse).trans hhighst, hcount, hbacklog, by simp [State.when, State.setPulse]⟩
  case pulseOver =>
    intro s p t hp hon hhigh hready
    refine runs_engines (execPulseWidthEnd.eq_1 ..) (decide_eq_true hp) hon ?_
    simp only [State.pulseEnd, hhigh]
    rw [if_pos hready]
    rfl
  case sentinel =>
    intro s rms hlen hphase hen
    refine runs_checked (execSentinelSample.eq_1 ..) (decide_eq_true hlen) ?_
    rw [if_pos ⟨hphase, hen⟩]
  case tamper =>
    intro s pin level hpin hphase hen hlevel hwas
    refine runs_checked (execTamperInput.eq_1 ..) (decide_eq_true hpin) ?_
    have hactive : (level != s.flag ⟨CAL_TAMP_CFG, 2 + pin, 2 + pin⟩) = true := by
      rw [hlevel]
      cases s.flag ⟨CAL_TAMP_CFG, 2 + pin, 2 + pin⟩
      all_goals rfl
    rw [if_neg hphase, State.tamper]
    simp only [hen, hactive, hwas, not_true, Bool.false_eq_true, or_self, if_false]
    rfl

end Sys2Proof.Machine
end

section
/-!
Capture units and the event log (O43 to O45).
-/

set_option Elab.async false

namespace Sys2Proof.Machine

/-! ### Capture units and the event log -/

/-- Settles O43: a row, a match, the end of a hold-off and a late record take the branch of the clauses' premises. -/
theorem captureEvents : Obligations.CaptureEvents := by
  unfold Obligations.CaptureEvents
  refine ⟨?row, ?judged, ?holdoff, ?late⟩
  case row =>
    intro s k words hk hon hcu hcomplete t row flags t1 t2
    have hrun {P : State → Prop} (h : P (if t1.cuState k = cpPost then
        if t2.get (CP_POST_POST k) ≤ (t2.curRec k).post then ((t2.closeCapture k 0).afterClose k).unitConds t2.now else t2
        else if t1.cuState k = cpPre ∨ t1.cuState k = cpArmed ∨ t1.cuState k = cpHoldoff then
          ((t1.preRow k row flags).armIfReady k).unitConds t1.now
        else t1.leaveFull k)) : Runs (.captureRow k words) s P := by
      refine runs_engines (execCaptureRow.eq_1 ..) (decide_eq_true hk) hon ?_
      rw [State.captureRow, if_neg (by simp [hcu, hcomplete])]
      exact h
    refine ⟨fun hpost hfull => hrun ?_, fun hpost hopen => hrun ?_, fun hpre => hrun ?_⟩
    · rw [if_pos hpost, if_pos hfull]
    · rw [if_pos hpost, if_neg (Nat.not_le.mpr hopen)]
    · rw [if_neg (by rcases hpre with h | h | h <;> simp [h]), if_pos hpre]
  case judged =>
    intro s v rest hon hv
    refine runs_engines (execCaptureMatch.eq_1 ..) rfl hon ?_
    simp only [State.captureMatch, hv]
  case holdoff =>
    intro s k t hk hon hends hle
    refine runs_engines (execCaptureHoldoffEnd.eq_1 ..) (decide_eq_true hk) hon ?_
    simp only [hends, hle, if_true]
  case late =>
    intro s k hk hon hpost hflags hdue
    refine runs_engines (execCaptureDeadlineMiss.eq_1 ..) (decide_eq_true hk) hon ?_
    rw [State.captureLate, if_pos ⟨hpost, hflags, hdue⟩]

/-- A write of `CP_CTRL` controls its unit, whatever command carries it. -/
theorem runs_cuControl {c : Instr} {s : State} {m : Master} {k v : Nat} (he : exec c s = onCore c s fun s => s.busWrite m (CP_CTRL k) 4 v)
    (hwf : c.wf = true) (hk : k < 16) (ht : s.takesWrite m (CP_CTRL k) v = true) :
    Runs c s fun u => u = ((s.stored m (CP_CTRL k) v).cuControl k (BitVec.ofNat 32 v)).recorded m (CP_CTRL k) v := by
  refine runs_write he hwf (lookup_CP_CTRL hk) rfl (.inl rfl) ht ?_
  rw [effects_CP_CTRL]
  rfl

/-- Settles O44: the four writes are one; each command's checks are the clause's premises. -/
theorem captureCommands : Obligations.CaptureCommands := by
  unfold Obligations.CaptureCommands
  refine ⟨?control, ?arm, ?read, ?log⟩
  case control =>
    intro s m k v hk hv ht
    have hwf : (decide (v < 2 ^ 32) && decide (k < 16)) = true := by simp only [hv, hk, decide_true, Bool.and_self]
    exact ⟨runs_cuControl (execCpArm.eq_1 ..) hwf hk ht, runs_cuControl (execCpDisarm.eq_1 ..) hwf hk ht,
      runs_cuControl (execCpTrig.eq_1 ..) hwf hk ht, runs_cuControl (execCpReleaseAll.eq_1 ..) hwf hk ht⟩
  case arm =>
    intro s h k action hsq hserve hk haction hon hslot t
    refine runs_core (execCaptureArm.eq_1 ..) (decide_eq_true hsq) (State.coreOn_serves hserve) ?_
    rw [State.command_runs hserve (by rw [if_neg (by omega), if_neg (by omega)]) rfl, State.captureArm]
    simp only
    rw [if_neg (by simp [hon]), if_neg fun ⟨h0, hidle, hnone⟩ => hslot h0 hidle hnone]
  case read =>
    intro s h k flags slot first rows dst dstLen hsq hserve hk hflags hslot hstate hrows hfits n
    refine runs_core (execCaptureRead.eq_1 ..) (decide_eq_true hsq) (State.coreOn_serves hserve) ?_
    simp only
    rw [State.command_runs hserve ?_ (if_neg (by omega))]
    · simp only [State.captureReadStart]
      rw [if_neg (by simp [hstate])]
    · rw [if_neg (by omega), if_neg (by omega), if_neg (by omega), if_neg (by omega)]
  case log =>
    intro s h fromSeq dst dstLen most minSev src hsq hserve hsev hsrc hlen lowest
    refine runs_core (execLogRead.eq_1 ..) (decide_eq_true hsq) (State.coreOn_serves hserve) ?_
    rw [State.command_runs hserve (by rw [if_neg (by omega), if_neg (by omega)]) (if_neg (by omega))]
    rfl

/-- Settles O45: the writer and the closing of windows are the model's own; an entry copied is marked, so it stands in the log. -/
theorem eventLog : Obligations.EventLog := by
  unfold Obligations.EventLog
  refine ⟨?writer, ?windows, ?tail⟩
  case writer =>
    intro s o rest hon hqueue p
    refine runs_core (execPeatEntryWrite.eq_1 ..) rfl hon ?_
    simp only [State.peatWriteOne, hqueue]
    rfl
  case windows =>
    intro s hon
    exact runs_core (execFoldWindowClose.eq_1 ..) rfl hon rfl
  case tail =>
    intro s pos rest hs hon hcopy
    refine runs_core (execTailCopy.eq_1 ..) rfl hon ?_
    simp only [State.copyTail, hcopy]
    refine ⟨State.word_bump_whole (State.canonical_of_regs hs rfl rfl) _, rfl, ?_, rfl⟩
    exact congrArg PeatEntry.inTail (Store.get_set_of_ne _ pos fun h => Bool.noConfusion (congrArg PeatEntry.inTail h))

end Sys2Proof.Machine
end

section
/-!
The host interface: rings, commands, messages and resets (O46 to O48).
-/

set_option Elab.async false

namespace Sys2Proof.Machine

/-! ### Rings and doorbells -/

/-- What a write that is not audited leaves in a field of its register, wherever the register stands. -/
theorem State.stored_plain_field {s : State} {m : Master} {off v : Nat} {r : RegSpec} {ix : List Nat} (hs : s.canonical = true)
    (hl : lookup off = some (r, ix)) (hleg : r.legal = false) (hr : r.tidy = true) {f : FieldSpec} (hf : f ∈ r.fields) :
    (s.stored m off v).get ⟨off, f.hi, f.lo⟩ = f.leaves (s.reg off) (BitVec.ofNat 32 v) := by
  rw [State.get, State.stored_plain hl hleg, State.reg_setReg_same (State.canonical_regs hs)]
  exact RegSpec.written_field hr hf _ _

/-- Nothing is remembered of a write in the host interface's window (R382). -/
theorem State.recorded_hostWindow {s : State} {m : Master} {off v : Nat} {r : RegSpec} {ix : List Nat} (hl : lookup off = some (r, ix))
    (hb : r.base ≠ CP_CTRL 0) (h : 0x390000 ≤ off ∧ off < 0x3a0000) : s.recorded m off v = s := by
  simp only [State.recorded, hl]
  rw [State.remember, if_neg fun h' => hb h'.2, if_neg fun h' => h'.2.2.2.2 h]

/-- A flag, from its field. -/
theorem State.flag_of_get {s : State} {f : Fld} {v : Nat} (h : s.get f = v % 2) : s.flag f = decide (v % 2 = 1) := by
  have : v % 2 = 0 ∨ v % 2 = 1 := by omega
  rcases this with h2 | h2
  all_goals simp [State.flag, h, h2]

section Rings

variable {s : State} {m : Master} {q v : Nat} (hs : s.canonical = true) (hv : v < 2 ^ 32)
include hs hv

theorem State.stored_sqEn (hq : q < 16) : (s.stored m (HI_SQ_CFG q) v).get (HI_SQ_CFG_EN q) = v % 2 :=
  (State.stored_plain_field (f := ⟨0, 0, .rw, false, 0, 1⟩) hs (lookup_HI_SQ_CFG hq) rfl (by decide) (by decide)).trans (Word.bit_ofNat hv)

theorem State.stored_cqEn (hq : q < 16) : (s.stored m (HI_CQ_CFG q) v).get (HI_CQ_CFG_EN q) = v % 2 :=
  (State.stored_plain_field (f := ⟨0, 0, .rw, false, 0, 1⟩) hs (lookup_HI_CQ_CFG hq) rfl (by decide) (by decide)).trans (Word.bit_ofNat hv)

theorem State.stored_drEn (hq : q < 8) : (s.stored m (HI_DR_CFG q) v).get (HI_DR_CFG_EN q) = v % 2 :=
  (State.stored_plain_field (f := ⟨0, 0, .rw, false, 0, 1⟩) hs (lookup_HI_DR_CFG hq) rfl (by decide) (by decide)).trans (Word.bit_ofNat hv)

end Rings

theorem ringCfg_sq {q : Nat} (hq : q < 16) : ringCfg (HI_SQ_CFG q) = true := by
  have key : ∀ q < 16, ringCfg (HI_SQ_CFG q) = true := by decide
  exact key q hq

theorem ringCfg_cq {q : Nat} (hq : q < 16) : ringCfg (HI_CQ_CFG q) = true := by
  have key : ∀ q < 16, ringCfg (HI_CQ_CFG q) = true := by decide
  exact key q hq

theorem ringCfg_dr {q : Nat} (hq : q < 8) : ringCfg (HI_DR_CFG q) = true := by
  have key : ∀ q < 8, ringCfg (HI_DR_CFG q) = true := by decide
  exact key q hq

/-- A state of a submission ring shown: the enable, the head, the tail and the other fields stand beside it. -/
theorem State.sqShown {s : State} (hs : s.canonical = true) (q : Nat) {st : Nat} (hst : st < 8) :
    let u := (s.put (HI_SQ_STAT_ERR q) 0).put (HI_SQ_STAT_STATE q) st
    u.get (HI_SQ_CFG_EN q) = s.get (HI_SQ_CFG_EN q) ∧ u.get (HI_SQ_HEAD_HEAD q) = s.get (HI_SQ_HEAD_HEAD q) ∧
    u.get (HI_SQ_STAT_TAIL q) = s.get (HI_SQ_STAT_TAIL q) ∧ u.get (HI_SQ_STAT_ERR q) = 0 ∧ u.get (HI_SQ_STAT_STATE q) = st := by
  have h1 := State.canonical_put hs (HI_SQ_STAT_ERR q) 0
  have hother {f : Fld} (hf : f.off ≠ HI_SQ_STAT q) :
      ((s.put (HI_SQ_STAT_ERR q) 0).put (HI_SQ_STAT_STATE q) st).get f = s.get f :=
    (State.get_put_other _ hf).trans (State.get_put_other _ hf)
  refine ⟨hother ?_, hother ?_, (State.get_put_beside h1 rfl _).trans (State.get_put_beside hs rfl _),
    (State.get_put_beside h1 rfl _).trans (State.get_put_fit hs rfl (Nat.two_pow_pos _)), State.get_put_fit h1 rfl hst⟩
  · simp only [HI_SQ_CFG_EN, HI_SQ_CFG, HI_SQ_STAT]
    omega
  · simp only [HI_SQ_HEAD_HEAD, HI_SQ_HEAD, HI_SQ_STAT]
    omega

/-- Settles O46: a doorbell and a ring's configuration store their word and write the registers of their own ring. -/
theorem rings : Obligations.Rings := by
  unfold Obligations.Rings
  refine ⟨?sq, ?cq, ?dr, ?enable, ?disable⟩
  case sq =>
    intro s m q v hs hq hv ht
    refine runs_write (execSqDoorbell.eq_1 ..) (by simp only [Instr.wf, hq, hv, decide_true, Bool.and_self]) (lookup_HI_SQ_DB hq) rfl
      (.inl rfl) ht ?_
    have hstored := State.stored_canonical (m := m) (off := HI_SQ_DB q) (v := v) hs
    rw [effects_HI_SQ_DB]
    have htail : Word.field (BitVec.ofNat 32 v) 15 0 = v % 65536 := by
      rw [Word.field_ofNat 15 0 hv, Nat.pow_zero, Nat.div_one]
      rfl
    simp only [hostEffect, State.recorded_get, htail]
    refine ⟨State.get_put_fit hstored rfl (show v % 65536 < 2 ^ (31 + 1 - 16) by omega), (State.get_put_other _ ?_).trans
      (State.stored_plain_get (lookup_HI_SQ_DB hq) rfl ?_)⟩
    · simp only [HI_SQ_HEAD_HEAD, HI_SQ_HEAD, HI_SQ_STAT_TAIL, HI_SQ_STAT]
      omega
    · simp only [HI_SQ_HEAD_HEAD, HI_SQ_HEAD, HI_SQ_DB]
      omega
  case cq =>
    intro s m q v hq hv ht t
    refine runs_write (execCqDoorbell.eq_1 ..) (by simp only [Instr.wf, hq, hv, decide_true, Bool.and_self]) (lookup_HI_CQ_DB hq) rfl
      (.inl rfl) ht ?_
    rw [effects_HI_CQ_DB, State.recorded_hostWindow (lookup_HI_CQ_DB hq) (by decide) (by simp only [HI_CQ_DB]; omega)]
    simp only [hostEffect, Word.field_ofNat 15 0 hv, Nat.pow_zero, Nat.div_one]
    rfl
  case dr =>
    intro s m r v hs hr hv ht
    refine runs_write (execDrDoorbell.eq_1 ..) (by simp only [Instr.wf, hr, hv, decide_true, Bool.and_self]) (lookup_HI_DR_DB hr) rfl
      (.inl rfl) ht ?_
    have hstored := State.stored_canonical (m := m) (off := HI_DR_DB r) (v := v) hs
    rw [effects_HI_DR_DB]
    simp only [hostEffect, State.recorded_word]
    refine ⟨?_, ?_⟩
    · rw [State.word_setWord_same (State.canonical_regs hstored), BitVec.toNat_ofNat, Nat.mod_mod, Nat.mod_eq_of_lt hv]
    · rw [State.word, State.reg_setWord_other _ (by simp only [HI_DR_WP, HI_DR_RP]; omega), State.stored_plain (lookup_HI_DR_DB hr) rfl,
        State.reg_setReg_other _ (by simp only [HI_DR_WP, HI_DR_DB]; omega), State.word]
  case enable =>
    intro s m q v hs hq hv hodd
    have hbit : Word.field (BitVec.ofNat 32 v) 0 0 = 1 := (Word.bit_ofNat hv).trans hodd
    refine ⟨fun ht hen => ?_, fun ht hen => ?_, fun hq' ht hen => ?_⟩
    · refine runs_write (execRingEnable.eq_1 ..) (by simp only [Instr.wf, hodd, hv, ringCfg_sq hq, decide_true, Bool.and_self])
        (lookup_HI_SQ_CFG hq) rfl (.inl rfl) ht ?_
      have hold : (s.reg (HI_SQ_CFG q)).field 0 0 = 0 := State.bit_clear hen
      have hstored := State.stored_canonical (m := m) (off := HI_SQ_CFG q) (v := v) hs
      have hen' := State.stored_sqEn (m := m) hs hv hq
      have hhost : (s.stored m (HI_SQ_CFG q) v).host = s.host := (s.stored_frame m (HI_SQ_CFG q) v).host rfl
      rw [effects_HI_SQ_CFG]
      simp only [hostEffect]
      rw [if_pos ⟨hold, hbit⟩]
      generalize s.stored m (HI_SQ_CFG q) v = t at *
      have h1 := State.canonical_setWord hstored (HI_SQ_HEAD q) 0
      have h2 := State.canonical_put h1 (HI_SQ_STAT_TAIL q) 0
      have hstarted : (t.setWord (HI_SQ_HEAD q) 0).ringStarted q = s.ringStarted q := by
        rw [State.ringStarted, State.ringStarted, ← hhost]
        rfl
      rw [hstarted]
      obtain ⟨hcfg, hhead, htail, herr, hstate⟩ := State.sqShown h2 q (st := if s.ringStarted q then sqBusy else sqIdle) (by split <;> decide)
      simp only [State.recorded_flag, State.recorded_get]
      refine ⟨?_, ?_, htail.trans (State.get_put_fit h1 rfl (Nat.two_pow_pos _)), herr, hstate⟩
      · refine (State.flag_of_get (hcfg.trans ((State.get_put_other _ ?_).trans ((State.get_of_reg (State.reg_setWord_other _ ?_)).trans
          hen')))).trans (decide_eq_true hodd)
        · simp only [HI_SQ_CFG_EN, HI_SQ_CFG, HI_SQ_STAT_TAIL, HI_SQ_STAT]
          omega
        · simp only [HI_SQ_CFG_EN, HI_SQ_CFG, HI_SQ_HEAD]
          omega
      · refine hhead.trans ((State.get_put_other _ ?_).trans ?_)
        · simp only [HI_SQ_HEAD_HEAD, HI_SQ_HEAD, HI_SQ_STAT_TAIL, HI_SQ_STAT]
          omega
        · rw [State.get, HI_SQ_HEAD_HEAD, State.setWord, State.reg_setReg_same (State.canonical_regs hstored)]
          rfl
    · refine runs_write (execRingEnable.eq_1 ..) (by simp only [Instr.wf, hodd, hv, ringCfg_cq hq, decide_true, Bool.and_self])
        (lookup_HI_CQ_CFG hq) rfl (.inl rfl) ht ?_
      have hold : (s.reg (HI_CQ_CFG q)).field 0 0 = 0 := State.bit_clear hen
      have hstored := State.stored_canonical (m := m) (off := HI_CQ_CFG q) (v := v) hs
      have hen' := State.stored_cqEn (m := m) hs hv hq
      rw [effects_HI_CQ_CFG]
      simp only [hostEffect]
      rw [if_pos ⟨hold, hbit⟩, State.recorded_hostWindow (lookup_HI_CQ_CFG hq) (by simp only; decide) (by simp only [HI_CQ_CFG]; omega)]
      generalize s.stored m (HI_CQ_CFG q) v = t at *
      have h1 := State.canonical_put hstored (HI_CQ_TAIL_TAIL q) 0
      refine ⟨(State.flag_of_get (((State.get_put_other _ ?_).trans (State.get_put_other _ ?_)).trans hen')).trans (decide_eq_true hodd),
        (State.get_put_beside h1 rfl _).trans (State.get_put_fit hstored rfl (Nat.two_pow_pos _)), State.get_put_fit h1 rfl (by decide : 1 < 2)⟩
      all_goals simp only [HI_CQ_CFG_EN, HI_CQ_CFG, HI_CQ_TAIL_PHASE, HI_CQ_TAIL_TAIL, HI_CQ_TAIL]
      all_goals omega
    · refine runs_write (execRingEnable.eq_1 ..) (by simp only [Instr.wf, hodd, hv, ringCfg_dr hq', decide_true, Bool.and_self])
        (lookup_HI_DR_CFG hq') rfl (.inl rfl) ht ?_
      have hold : (s.reg (HI_DR_CFG q)).field 0 0 = 0 := State.bit_clear hen
      have hstored := State.stored_canonical (m := m) (off := HI_DR_CFG q) (v := v) hs
      have hen' := State.stored_drEn (m := m) hs hv hq'
      rw [effects_HI_DR_CFG]
      simp only [hostEffect]
      rw [if_pos ⟨hold, hbit⟩, State.recorded_hostWindow (lookup_HI_DR_CFG hq') (by simp only; decide) (by simp only [HI_DR_CFG]; omega)]
      generalize s.stored m (HI_DR_CFG q) v = t at *
      have h1 := State.canonical_setWord hstored (HI_DR_WP q) 0
      refine ⟨(State.flag_of_get (((State.get_of_reg (State.reg_setWord_other _ ?_)).trans
        (State.get_of_reg (State.reg_setWord_other _ ?_))).trans hen')).trans (decide_eq_true hodd), ?_, ?_⟩
      · simp only [HI_DR_CFG_EN, HI_DR_CFG, HI_DR_RP]
        omega
      · simp only [HI_DR_CFG_EN, HI_DR_CFG, HI_DR_WP]
        omega
      · refine Eq.trans ?_ (State.word_setWord_same (State.canonical_regs hstored) (HI_DR_WP q) 0)
        exact congrArg BitVec.toNat (State.reg_setWord_other _ (by simp only [HI_DR_WP, HI_DR_RP]; omega))
      · exact State.word_setWord_same (State.canonical_regs h1) (HI_DR_RP q) 0
  case disable =>
    intro s m q v hs hq hv heven
    have hbit : Word.field (BitVec.ofNat 32 v) 0 0 = 0 := (Word.bit_ofNat hv).trans heven
    refine ⟨fun ht hen => ?_, fun ht => ?_, fun hq' ht => ?_⟩
    · refine runs_write (execRingDisable.eq_1 ..) (by simp only [Instr.wf, heven, hv, ringCfg_sq hq, decide_true, Bool.and_self])
        (lookup_HI_SQ_CFG hq) rfl (.inl rfl) ht ?_
      have hold : (s.reg (HI_SQ_CFG q)).field 0 0 = 1 := State.bit_set hen
      have hstored := State.stored_canonical (m := m) (off := HI_SQ_CFG q) (v := v) hs
      have hen' := State.stored_sqEn (m := m) hs hv hq
      have hhost : (s.stored m (HI_SQ_CFG q) v).host = s.host := (s.stored_frame m (HI_SQ_CFG q) v).host rfl
      rw [effects_HI_SQ_CFG]
      simp only [hostEffect]
      rw [if_neg (by simp [hold]), if_pos ⟨hold, hbit⟩]
      generalize s.stored m (HI_SQ_CFG q) v = t at *
      have hstarted : t.ringStarted q = s.ringStarted q := by rw [State.ringStarted, hhost, State.ringStarted]
      rw [hstarted]
      obtain ⟨hcfg, -, -, herr, hstate⟩ := State.sqShown hstored q (st := if s.ringStarted q then sqBusy else sqDisabled) (by split <;> decide)
      simp only [State.recorded_flag, State.recorded_get]
      exact ⟨(State.flag_of_get (hcfg.trans hen')).trans (decide_eq_false (by omega)), herr, hstate⟩
    · refine runs_write (execRingDisable.eq_1 ..) (by simp only [Instr.wf, heven, hv, ringCfg_cq hq, decide_true, Bool.and_self])
        (lookup_HI_CQ_CFG hq) rfl (.inl rfl) ht ?_
      rw [effects_HI_CQ_CFG]
      simp only [hostEffect]
      rw [if_neg (by simp [hbit]), State.recorded_flag]
      exact (State.flag_of_get (State.stored_cqEn hs hv hq)).trans (decide_eq_false (by omega))
    · refine runs_write (execRingDisable.eq_1 ..) (by simp only [Instr.wf, heven, hv, ringCfg_dr hq', decide_true, Bool.and_self])
        (lookup_HI_DR_CFG hq') rfl (.inl rfl) ht ?_
      rw [effects_HI_DR_CFG]
      simp only [hostEffect]
      rw [if_neg (by simp [hbit]), State.recorded_flag]
      exact (State.flag_of_get (State.stored_drEn hs hv hq')).trans (decide_eq_false (by omega))

/-! ### Commands of the rings -/

theorem State.badUnit_none {s : State} (h : s.integ.bad = []) (j : Job) (lo hi : Nat) : s.badUnit j lo hi = none := by
  rw [State.badUnit, h]
  rfl

/-- The ring's turn, once taken, is not looked at by what a step waits for. -/
theorem State.turnTaken_waits (s : State) (q : Nat) (j : Job) :
    (s.turnTaken q).slotBlocked j = s.slotBlocked j ∧ (s.turnTaken q).slhWork j.kind = s.slhWork j.kind ∧
    (s.turnTaken q).ledgerFirst = s.ledgerFirst := ⟨rfl, rfl, rfl⟩

/-- Settles O47: a start, a step and a completion take the branch that the clause's premises choose. -/
theorem ringCommands : Obligations.RingCommands := by
  unfold Obligations.RingCommands
  refine ⟨?start, ?failed, ?step, ?late, ?post, ?nop, ?set, ?table, ?read⟩
  case start =>
    intro s q op tag hs hq hon hturn hop
    have hwf : Instr.wf (.commandStart q .ok op tag) = true := by
      have key : ∀ op ∈ opcodes, op < 256 := by decide
      simp only [Instr.wf, hq, key op hop, decide_true, Bool.and_self]
    refine runs_core (execCommandStart.eq_1 ..) hwf hon ?_
    simp only [State.commandStart, hturn, not_true, if_false]
    rw [if_pos (List.contains_iff_mem.mpr hop)]
    have hturned : (s.turnTaken q).canonical = true := State.canonical_of_regs hs rfl rfl
    have hhead := State.canonical_put hturned (HI_SQ_HEAD_HEAD q) (((s.turnTaken q).get (HI_SQ_HEAD_HEAD q) + 1) % (s.turnTaken q).sqSize q)
    refine ⟨(State.get_put_other _ ?_).trans ?_, State.get_put_fit hhead rfl (by decide : sqBusy < 8), rfl, rfl⟩
    · simp only [HI_SQ_HEAD_HEAD, HI_SQ_HEAD, HI_SQ_STAT_STATE, HI_SQ_STAT]
      omega
    · exact State.get_put_same (State.canonical_regs hturned) (Nat.zero_le 15) (by decide : 15 < 32) _
  case failed =>
    intro s q op tag hq hop hon hturn
    refine runs_core (execCommandStart.eq_1 ..) (by simp only [Instr.wf, hq, hop, decide_true, Bool.and_self]) hon ?_
    simp only [State.commandStart, hturn, not_true, if_false]
  case step =>
    intro s q j hq hon hjob hwaits hturn hblocked hledger hsteps hdeadline hbad hi w k t
    refine runs_core (execCommandStep.eq_1 ..) (decide_eq_true hq) hon ?_
    have hfirst : (j.steps == 0) = false := beq_eq_false_iff_ne.mpr hsteps
    have hready : ¬ ((s.turnTaken q).slotBlocked j = true ∨ ((s.turnTaken q).slhWork j.kind = true ∧ (s.turnTaken q).ledgerFirst = true)) := by
      obtain ⟨hblocked', hslh', hledger'⟩ := s.turnTaken_waits q j
      rw [hblocked', hslh', hledger', hblocked]
      simpa using hledger
    have hunits : (s.turnTaken q).badUnit j j.done (min j.all (j.done + j.perStep)) = none := State.badUnit_none hbad _ _ _
    simp only [State.commandStep, hjob, hwaits, hturn, not_true, Bool.false_eq_true, if_false, hfirst]
    rw [if_neg hready]
    cases hd : j.deadline with
    | none =>
      simp only [Bool.false_eq_true, if_false, hunits]
      rfl
    | some t =>
      have hpast : decide (t ≤ s.time.mono) = false := decide_eq_false (Nat.not_le.mpr (hdeadline t hd))
      simp only [hpast, Bool.false_eq_true, if_false, hunits]
      rfl
  case late =>
    intro s q hq hon hstarted
    refine runs_core (execStepDeadlineMiss.eq_1 ..) (decide_eq_true hq) hon ?_
    rw [State.stepLate, if_pos hstarted]
  case post =>
    intro s c hon hc
    refine runs_core (execCompletionPost.eq_1 ..) rfl hon ?_
    simp only [State.postWaiting, hc]
  case nop =>
    intro s h hsq hserve
    refine runs_core (execNop.eq_1 ..) (decide_eq_true hsq) (State.coreOn_serves hserve) ?_
    rw [State.command_runs hserve rfl rfl]
  case set =>
    intro s h entries hsq hserve hne hlen hbad hlegal
    refine runs_core (execTableSet.eq_1 ..) (decide_eq_true hsq) (State.coreOn_serves hserve) ?_
    have hcount : entries.length ≠ 0 := fun h => hne (List.length_eq_zero_iff.mp h)
    have hfield : tableField 0 0 entries.length = none := by
      simp only [tableField]
      rw [if_neg (by decide), if_pos trivial, if_neg (by decide), if_neg (by omega)]
    rw [State.command_runs hserve hfield rfl]
    simp only [not_true, if_false, if_true, State.regSet, hbad]
    rw [if_neg fun ⟨hsome, hfull⟩ => hlegal.elim hsome fun hroom => Bool.noConfusion (hroom.symm.trans hfull)]
  case table =>
    intro s h t i entries hsq hserve ht hfield hfollows horder vs hbad
    refine runs_core (execTableSet.eq_1 ..) (decide_eq_true hsq) (State.coreOn_serves hserve) ?_
    rw [State.command_runs hserve hfield rfl]
    simp only [not_true, if_false]
    rw [if_neg (by omega), State.setTable, hfollows]
    simp only [vs] at hbad
    simp only [Bool.false_eq_true, if_false, hbad, horder]
    rfl
  case read =>
    intro s h t i dst dstLen hsq hserve ht hle hi hlen hdma bytes
    refine runs_core (execReadTable.eq_1 ..) (decide_eq_true hsq) (State.coreOn_serves hserve) ?_
    simp only
    rw [State.command_runs hserve (by rw [if_neg (by omega), if_neg (by omega)]) (if_neg (by omega))]
    simp only [State.getTable, hdma, not_true, if_false]
    rfl

/-! ### Messages, heartbeat and the resets of the interface -/

/-- What a class F reset loses is in no entry of the audit log. -/
theorem State.commandsLost_audit (s : State) : s.commandsLost.meter.audit = s.meter.audit := by
  unfold State.commandsLost
  extract_lets +onlyGivenNames mine before
  clear_value before
  extract_lets +onlyGivenNames pair joined t
  have ht : t.meter = s.meter := by
    simp only [t]
    cases before with
    | none => rfl
    | some b =>
      simp only
      split
      · rfl
      · split <;> rfl
  clear_value t
  exact State.forEach_induction (P := fun v => v.meter.audit = s.meter.audit) (Eq.trans (b := t.meter.audit) rfl (congrArg MeterState.audit ht))
    fun k _ v hv => by split <;> exact hv

/-- What the host's configuration space shows, once written. -/
theorem State.configSpace_shows {s : State} (hs : s.canonical = true) (d3hot msix busMaster : Bool) :
    (s.configSpace d3hot msix busMaster).flag HI_STATUS_MSIX_EN = msix ∧
    (s.configSpace d3hot msix busMaster).flag HI_STATUS_BUS_MASTER = busMaster ∧
    (s.configSpace d3hot msix busMaster).get HI_STATUS_SPEED = s.get HI_STATUS_SPEED := by
  unfold State.configSpace
  extract_lets host t
  have ht : t.canonical = true := State.canonical_of_regs hs rfl rfl
  have h1 := State.canonical_put ht HI_STATUS_MSIX_EN (bit msix)
  exact ⟨(State.flag_put_beside h1 rfl _).trans (State.flag_put ht rfl _), State.flag_put h1 rfl _,
    (State.get_put_beside h1 rfl _).trans (State.get_put_beside ht rfl _)⟩

/-- A class F reset: the bus master off, no command left in the host's part. -/
theorem State.flr_shows {s : State} (hs : s.canonical = true) :
    s.flr.canonical = true ∧ s.flr.flag HI_STATUS_BUS_MASTER = false ∧ s.flr.meter.audit = s.meter.audit ∧ s.flr.host.started = [] ∧
    s.flr.host.jobs = [] ∧ s.flr.host.waiting = [] := by
  have hcanon : (s.hostClear.msixRestore.ledgerAgain).canonical = true :=
    (State.ledgerAgain_frame _).canon ((State.msixRestore_frame _).canon ((State.hostClear_frame _).canon hs))
  exact ⟨(State.flr_frame s).canon hs, (State.configSpace_shows hcanon false false false).2.1, s.commandsLost_audit, rfl, rfl, rfl⟩

/-- A link that trains shows a speed and a width it can have. -/
theorem State.linkTrain_shows {s : State} (hs : s.canonical = true) :
    (1 ≤ s.linkTrain.get HI_STATUS_SPEED ∧ s.linkTrain.get HI_STATUS_SPEED ≤ 4) ∧ s.linkTrain.get HI_STATUS_WIDTH ∈ [1, 2, 4] := by
  unfold State.linkTrain
  extract_lets v
  clear_value v
  have h1 := State.canonical_put hs HI_STATUS_SPEED (1 + v % 4)
  have hdraw (f : Fld) : ((s.put HI_STATUS_SPEED (1 + v % 4)).put HI_STATUS_WIDTH (2 ^ (v / 4 % 3))).draw.get f =
      ((s.put HI_STATUS_SPEED (1 + v % 4)).put HI_STATUS_WIDTH (2 ^ (v / 4 % 3))).get f := rfl
  have hspeed : 1 + v % 4 < 2 ^ (3 + 1 - 0) := Nat.lt_of_lt_of_le (Nat.add_lt_add_left (Nat.mod_lt v (by decide)) 1) (by decide : 1 + 4 ≤ 2 ^ 4)
  have hwidths : ∀ k < 3, 2 ^ k < 2 ^ (7 + 1 - 4) ∧ 2 ^ k ∈ [1, 2, 4] := by decide
  obtain ⟨hfit, hmem⟩ := hwidths (v / 4 % 3) (Nat.mod_lt _ (by decide))
  generalize 2 ^ (v / 4 % 3) = width at *
  generalize hn : 1 + v % 4 = speed at *
  rw [hdraw, hdraw, State.get_put_fit h1 rfl hfit, State.get_put_beside h1 rfl _, State.get_put_fit hs rfl hspeed]
  exact ⟨by omega, hmem⟩

/-- Settles O48: each clause's premises choose the branch; the fields shown of `HI_STATUS` share no bit. -/
theorem hostInterface : Obligations.HostInterface := by
  unfold Obligations.HostInterface
  refine ⟨?coalesce, ?unmask, ?heartbeat, ?expiry, ?config, ?flr, ?perst, ?release⟩
  case coalesce =>
    intro s src hsrc hon c hen hien hcount hdue
    refine runs_core (execMsixCoalesceTimer.eq_1 ..) (decide_eq_true hsrc) hon ?_
    simp only [State.coalesceExpire]
    rw [if_pos ⟨hen, hien, hcount, hdue⟩]
  case unmask =>
    intro s m v value hs hv hvalue heven ht hpending hmsix hdma
    refine runs_write (execMsixUnmask.eq_1 ..) (by simp only [Instr.wf, hvalue, hv, heven, decide_true, Bool.and_self]) (lookup_MSIX_CTRL hv)
      rfl (.inl rfl) ht ?_
    have hbit : Word.field (BitVec.ofNat 32 value) 0 0 = 0 := (Word.bit_ofNat hvalue).trans heven
    have hstored := State.stored_canonical (m := m) (off := MSIX_CTRL v) (v := value) hs
    have hframe := s.stored_frame m (MSIX_CTRL v) value
    have hflag {f : Fld} (hf : f.off ≠ MSIX_CTRL v) : (s.stored m (MSIX_CTRL v) value).flag f = s.flag f := by
      rw [State.flag, State.stored_plain_get (lookup_MSIX_CTRL hv) rfl hf, State.flag]
    have hlow {f : Fld} (hf : f.off < 0x398000) : (s.stored m (MSIX_CTRL v) value).flag f = s.flag f :=
      hflag (by simp only [MSIX_CTRL]; omega)
    have hpba : (s.stored m (MSIX_CTRL v) value).flag ⟨MSIX_PBA (v / 32), v % 32, v % 32⟩ = true :=
      (hflag (by simp only [MSIX_PBA, MSIX_CTRL]; omega)).trans hpending
    have hdma' : (s.stored m (MSIX_CTRL v) value).dmaOn = true := by
      rw [State.dmaOn, hlow (by decide), hlow (by decide), hlow (by decide), hframe.host rfl]
      exact hdma
    have hmsix' := (hlow (f := HI_STATUS_MSIX_EN) (by decide)).trans hmsix
    have hsound : Fld.sound ⟨MSIX_PBA (v / 32), v % 32, v % 32⟩ = true := Fld.sound_iff.mpr ⟨Nat.le_refl _, Nat.mod_lt _ (by decide)⟩
    rw [effects_MSIX_CTRL, State.recorded_hostWindow (lookup_MSIX_CTRL hv) (by simp only; decide) (by simp only [MSIX_CTRL]; omega)]
    simp only [hostEffect]
    rw [if_pos ⟨hbit, hpba, hmsix', hdma'⟩]
    exact ⟨State.flag_put_zero hstored hsound, congrArg (· ++ [Output.msix v]) (hframe.out rfl)⟩
  case heartbeat =>
    intro s m v hv ht
    refine runs_write (execHbWrite.eq_1 ..) (decide_eq_true hv) lookup_HI_HB rfl (.inl rfl) ht ?_
    rw [effects_HI_HB, State.recorded_hostWindow lookup_HI_HB (by simp only; decide) (by decide)]
    have htimeout : (s.stored m HI_HB v).get HI_HB_CFG_TIMEOUT_MS = s.get HI_HB_CFG_TIMEOUT_MS :=
      State.stored_plain_get lookup_HI_HB rfl (by decide)
    simp only [hostEffect, htimeout, (s.stored_frame m HI_HB v).time rfl]
    exact ⟨trivial, trivial⟩
  case expiry =>
    intro s t hon hdue hle hholdup hswitch
    refine runs_engines (execHbTimeout.eq_1 ..) rfl hon ?_
    simp only [State.heartbeat, hdue]
    rw [if_neg (by simp [hle, hholdup, hswitch])]
  case config =>
    intro s d3hot msix busMaster hs hon hspeed
    refine runs_core (execConfigSpaceWrite.eq_1 ..) rfl hon ?_
    rw [if_neg hspeed]
    exact ⟨rfl, State.configSpace_shows hs d3hot msix busMaster⟩
  case flr =>
    intro s hs hon
    refine runs_core (execFunctionLevelReset.eq_1 ..) rfl hon ?_
    obtain ⟨hcanon, hmaster, haudit, hstarted, hjobs, hwaiting⟩ := State.flr_shows hs
    exact ⟨hstarted, hjobs, hwaiting, (State.flag_of_reg (f := HI_STATUS_BUS_MASTER) (State.reg_put_other _ (by decide))).trans hmaster,
      State.get_put_fit hcanon rfl (by decide : 5 < 16), (State.flr_frame s).mem rfl, haudit⟩
  case perst =>
    intro s hs hon
    refine runs_core (execPerstAssert.eq_1 ..) rfl hon ?_
    obtain ⟨hcanon, -, -, hstarted, hjobs, -⟩ := State.flr_shows hs
    generalize s.flr = t at *
    have hreset : (t.lastReset 5).canonical = true := State.canonical_put hcanon _ _
    have hspeed := State.canonical_put hreset HI_STATUS_SPEED 0
    exact ⟨rfl, (State.get_put_beside hspeed rfl _).trans (State.get_put_fit hreset rfl (Nat.two_pow_pos _)),
      State.get_put_fit hspeed rfl (Nat.two_pow_pos _), hstarted, hjobs⟩
  case release =>
    intro s hs hon hperst
    refine runs_core (execPerstRelease.eq_1 ..) rfl hon ?_
    rw [if_pos hperst]
    obtain ⟨hspeed, hwidth⟩ := State.linkTrain_shows (s := { s with host := { s.host with perst := false } }) (State.canonical_of_regs hs rfl rfl)
    exact ⟨rfl, hspeed.1, hspeed.2, hwidth⟩

end Sys2Proof.Machine
end

section
/-!
The scheduler: register writes, claims, timers and thread monitors (O49, O50).
-/

set_option Elab.async false

namespace Sys2Proof.Machine

/-! ### The scheduler's registers -/

/-- Nothing is remembered of a write to a row that holds no configuration (R382). -/
theorem State.recorded_plain {s : State} {m : Master} {off v : Nat} {r : RegSpec} {ix : List Nat} (hl : lookup off = some (r, ix))
    (hb : r.base ≠ CP_CTRL 0) (h : r.config = false) : s.recorded m off v = s := by
  simp only [State.recorded, hl]
  rw [State.remember, if_neg fun h' => hb h'.2, if_neg fun h' => by simp [h] at h']

/-- A register of a thread: below the cores'. -/
def threadRegister (o : Nat) : Prop := 0x3a0000 ≤ o ∧ o < 0x3a5000

/-- A thread signalled writes the registers of its core alone. -/
theorem State.signalThread_thread (s : State) (t : Nat) {o : Nat} (ho : threadRegister o) : (s.signalThread t).reg o = s.reg o := by
  have hlow := ho.2
  have hstat (c : Nat) : o ≠ SC_CORE_STAT c := by
    simp only [SC_CORE_STAT]
    omega
  have hcnt (c : Nat) : o ≠ SC_CORE_CNT c 1 := by
    simp only [SC_CORE_CNT]
    omega
  unfold State.signalThread
  extract_lets c
  split
  · rfl
  · split
    · exact State.reg_put_other _ (hstat c)
    · refine (State.count_reg_other _ (hcnt c) (hstat c) fun h => ?_).trans (State.reg_put_other _ (hstat c))
      have hwindow := logCounters_window o h
      have := ho.1
      omega

/-- A thread made ready: its state, and the end of the ready list. -/
theorem State.makeReady_shows {s : State} (hs : s.canonical = true) {t : Nat} (ht : t < 512) :
    (s.makeReady t).get (SC_THR_STAT_STATE t) = thrReady ∧ (s.makeReady t).reg (SC_THR_CFG t) = s.reg (SC_THR_CFG t) ∧
    (s.makeReady t).sched.ready = s.sched.ready ++ [t] := by
  unfold State.makeReady
  extract_lets sched u
  have hu : u.canonical = true := State.canonical_of_regs hs rfl rfl
  have hkeep {o : Nat} (ho : threadRegister o) := (u.put (SC_THR_STAT_STATE t) thrReady).signalThread_thread t ho
  refine ⟨(State.get_of_reg (hkeep ?_)).trans (State.get_put_fit hu rfl (by decide : thrReady < 8)), (hkeep ?_).trans (State.reg_put_other _ ?_), ?_⟩
  · simp only [threadRegister, SC_THR_STAT_STATE, SC_THR_STAT]
    omega
  · simp only [threadRegister, SC_THR_CFG]
    omega
  · simp only [SC_THR_CFG, SC_THR_STAT_STATE, SC_THR_STAT]
    omega
  · exact congrArg SchedState.ready ((State.signalThread_frame _ t).sched rfl)

/-- Of a range of steps of which one alone acts, that one. -/
theorem State.forEach_one {f : Nat → State → State} {e : Nat} (hf : ∀ i, i ≠ e → ∀ u, f i u = u) (s : State) {n : Nat} (he : e < n) :
    s.forEach n f = f e s := by
  have hbelow : ∀ k, k ≤ e → s.forEach k f = s := by
    intro k
    induction k with
    | zero => exact fun _ => rfl
    | succ k ih =>
      intro hk
      rw [State.forEach_succ, ih (by omega), hf k (by omega)]
  induction n with
  | zero => omega
  | succ n ih =>
    rw [State.forEach_succ]
    by_cases h : e = n
    · rw [hbelow n (by omega), h]
    · rw [ih (by omega), hf n (fun h' => h h'.symm)]

/-- The word of a thread's flags as a set of them stores it. -/
theorem State.stored_flags (s : State) (m : Master) {t v : Nat} (ht : t < 512) (hv : v < 2 ^ 32) :
    s.stored m (SC_THR_FLAGS t) v = s.setWord (SC_THR_FLAGS t) (s.word (SC_THR_FLAGS t) ||| v) := by
  rw [State.stored_plain (lookup_SC_THR_FLAGS ht) rfl]
  have hword : RegSpec.written ⟨0x3a000c, [(32, 512)], 0x0, .w, [⟨31, 0, .w1s, false, 0, 4294967295⟩]⟩ (s.reg (SC_THR_FLAGS t)) (BitVec.ofNat 32 v) =
      BitVec.ofNat 32 (s.word (SC_THR_FLAGS t) ||| v) := by
    simp only [RegSpec.written, List.foldl_cons, List.foldl_nil, FieldSpec.written, Word.field_whole, Word.withField_whole, State.word,
      BitVec.toNat_ofNat, Nat.mod_eq_of_lt hv]
  rw [hword, State.setWord]

/-- A field of a register that a write of another leaves, as a word. -/
theorem State.stored_plain_word {s : State} {m : Master} {off v o : Nat} {r : RegSpec} {ix : List Nat} (hl : lookup off = some (r, ix))
    (hleg : r.legal = false) (h : o ≠ off) : (s.stored m off v).word o = s.word o := by
  rw [State.word, State.stored_plain hl hleg, State.reg_setReg_other _ h, State.word]

theorem ThreadWait.leave_le (w : ThreadWait) (flags : Nat) : w.leave flags ≤ flags := by
  unfold ThreadWait.leave
  split
  · exact Nat.sub_le _ _
  · exact Nat.le_refl _

theorem State.word_lt (s : State) (o : Nat) : s.word o < 2 ^ 32 := (s.reg o).isLt

/-- What a thread's wait leaves, met at once or not. -/
theorem State.beginWait_shows {s : State} (hs : s.canonical = true) {t : Nat} (andMode consume : Bool)
    (hrun : s.get (SC_THR_STAT_STATE t) = thrRunning) :
    let w : ThreadWait := ⟨s.word (SC_THR_MASK t), andMode, consume⟩
    if w.met (s.word (SC_THR_FLAGS t)) then
      (s.beginWait t andMode consume).get (SC_THR_STAT_STATE t) = thrRunning ∧
      (s.beginWait t andMode consume).word (SC_THR_FLAGS t) = w.leave (s.word (SC_THR_FLAGS t)) ∧
      (s.beginWait t andMode consume).sched = s.sched
    else
      (s.beginWait t andMode consume).get (SC_THR_STAT_STATE t) = thrWaiting ∧
      (s.beginWait t andMode consume).word (SC_THR_FLAGS t) = s.word (SC_THR_FLAGS t) ∧
      Store.get (fun _ => none) (s.beginWait t andMode consume).sched.waits t = some w := by
  intro w
  have hstat : SC_THR_STAT t ≠ SC_THR_FLAGS t := by
    simp only [SC_THR_STAT, SC_THR_FLAGS]
    omega
  rw [State.beginWait, if_neg (not_not_intro hrun)]
  simp only
  split
  · refine ⟨(State.get_of_reg (State.reg_setWord_other _ hstat)).trans hrun, ?_, rfl⟩
    rw [State.word_setWord_same (State.canonical_regs hs), Nat.mod_eq_of_lt (Nat.lt_of_le_of_lt (w.leave_le _) (s.word_lt _))]
  · have hwaits : Store.get (fun _ => none) (Store.set (fun _ => none) s.sched.waits t (some w)) t = some w :=
      Store.get_set_of_ne _ t (Option.some_ne_none w)
    have h1 : ({ s with sched := { s.sched with waits := Store.set (fun _ => none) s.sched.waits t (some w) } } : State).canonical = true :=
      State.canonical_of_regs hs rfl rfl
    have hstate := State.get_put_fit h1 (f := SC_THR_STAT_STATE t) rfl (by decide : thrWaiting < 8)
    have hflags : (State.put { s with sched := { s.sched with waits := Store.set (fun _ => none) s.sched.waits t (some w) } }
        (SC_THR_STAT_STATE t) thrWaiting).word (SC_THR_FLAGS t) = s.word (SC_THR_FLAGS t) := by
      rw [State.word, State.reg_put_other _ hstat.symm]
      rfl
    have hcore (c : Nat) : SC_THR_STAT t ≠ SC_CORE_STAT c ∧ SC_THR_FLAGS t ≠ SC_CORE_STAT c := by
      simp only [SC_THR_STAT, SC_THR_FLAGS, SC_CORE_STAT]
      omega
    unfold State.when
    split
    · refine ⟨(State.get_put_other _ (hcore _).1).trans hstate, ?_, hwaits⟩
      rw [State.word, State.reg_put_other _ (hcore _).2]
      exact hflags
    · exact ⟨hstate, hflags, hwaits⟩

/-- Settles O49: each write stores its word and has its block's effect, whose registers lie apart. -/
theorem schedulerWrites : Obligations.SchedulerWrites := by
  unfold Obligations.SchedulerWrites
  refine ⟨?set, ?clear, ?wait, ?enable, ?disable, ?yield, ?run, ?event⟩
  case set =>
    intro s m t v hs ht hv hw
    refine runs_write (execThreadFlagSet.eq_1 ..) (by simp only [Instr.wf, hv, ht, decide_true, Bool.and_self]) (lookup_SC_THR_FLAGS ht) rfl
      (.inl rfl) hw ?_
    rw [effects_SC_THR_FLAGS, State.recorded_plain (lookup_SC_THR_FLAGS ht) (by simp only; decide) rfl, State.stored_flags s m ht hv]
    rfl
  case clear =>
    intro s m t v hs ht hv hw
    refine runs_write (execThreadFlagClear.eq_1 ..) (by simp only [Instr.wf, hv, ht, decide_true, Bool.and_self]) (lookup_SC_THR_FCLR ht) rfl
      (.inl rfl) hw ?_
    rw [effects_SC_THR_FCLR, State.recorded_plain (lookup_SC_THR_FCLR ht) (by simp only; decide) rfl]
    have hflags : (s.stored m (SC_THR_FCLR t) v).word (SC_THR_FLAGS t) = s.word (SC_THR_FLAGS t) :=
      State.stored_plain_word (lookup_SC_THR_FCLR ht) rfl (by simp only [SC_THR_FLAGS, SC_THR_FCLR]; omega)
    simp only [schedEffect, hflags, BitVec.toNat_ofNat, Nat.mod_eq_of_lt hv]
    refine ⟨?_, (s.stored_frame m (SC_THR_FCLR t) v).sched rfl⟩
    rw [State.word_setWord_same (State.canonical_regs (State.stored_canonical hs)),
      Nat.mod_eq_of_lt (Nat.lt_of_le_of_lt (Nat.sub_le _ _) (s.word_lt _))]
  case wait =>
    intro s m t v hs ht hv hodd hw hrun w
    refine runs_write (execThreadWait.eq_1 ..) (by simp only [Instr.wf, hv, ht, hodd, decide_true, Bool.and_self]) (lookup_SC_THR_WAIT ht) rfl
      (.inl rfl) hw ?_
    have hbit : Word.field (BitVec.ofNat 32 v) 0 0 = 1 := (Word.bit_ofNat hv).trans hodd
    rw [effects_SC_THR_WAIT, State.recorded_plain (lookup_SC_THR_WAIT ht) (by simp only; decide) rfl]
    have hword {o : Nat} (ho : o ≠ SC_THR_WAIT t) : (s.stored m (SC_THR_WAIT t) v).word o = s.word o :=
      State.stored_plain_word (lookup_SC_THR_WAIT ht) rfl ho
    have hflags := hword (o := SC_THR_FLAGS t) (by simp only [SC_THR_FLAGS, SC_THR_WAIT]; omega)
    have hmask := hword (o := SC_THR_MASK t) (by simp only [SC_THR_MASK, SC_THR_WAIT]; omega)
    have hstate : (s.stored m (SC_THR_WAIT t) v).get (SC_THR_STAT_STATE t) = thrRunning :=
      (State.stored_plain_get (lookup_SC_THR_WAIT ht) rfl (by simp only [SC_THR_STAT_STATE, SC_THR_STAT, SC_THR_WAIT]; omega)).trans hrun
    have hand : Word.field (BitVec.ofNat 32 v) 1 1 = v / 2 % 2 := Word.field_ofNat 1 1 hv
    have hconsume : Word.field (BitVec.ofNat 32 v) 2 2 = v / 4 % 2 := Word.field_ofNat 2 2 hv
    have h := State.beginWait_shows (State.stored_canonical (m := m) (off := SC_THR_WAIT t) (v := v) hs) (v / 2 % 2 == 1) (v / 4 % 2 == 1) hstate
    simp only [hflags, hmask, (s.stored_frame m (SC_THR_WAIT t) v).sched rfl] at h
    simp only [schedEffect, hbit, hand, hconsume]
    exact h
  case enable =>
    intro s m t v hs ht hv hodd hw hen
    refine runs_write (execThreadEnable.eq_1 ..) (by simp only [Instr.wf, hodd, hv, ht, decide_true, Bool.and_self]) (lookup_SC_THR_CFG ht) rfl
      (.inl rfl) hw ?_
    have hbit : Word.field (BitVec.ofNat 32 v) 0 0 = 1 := (Word.bit_ofNat hv).trans hodd
    have hstored := State.stored_canonical (m := m) (off := SC_THR_CFG t) (v := v) hs
    have hen' : (s.stored m (SC_THR_CFG t) v).get (SC_THR_CFG_EN t) = 1 :=
      (State.stored_plain_field (f := ⟨0, 0, .rw, false, 0, 1⟩) hs (lookup_SC_THR_CFG ht) rfl (by decide) (by decide)).trans hbit
    obtain ⟨hstate, hcfg, hready⟩ := State.makeReady_shows hstored ht
    rw [effects_SC_THR_CFG]
    simp only [schedEffect]
    rw [if_pos ⟨hen, hbit⟩]
    obtain ⟨fw, hfw⟩ := State.recorded_eq ((s.stored m (SC_THR_CFG t) v).makeReady t) m (SC_THR_CFG t) v
    refine ⟨?_, (State.recorded_get ..).trans hstate, ?_⟩
    · rw [State.recorded_get, State.get_of_reg (f := SC_THR_CFG_EN t) hcfg, hen']
    · rw [hfw]
      exact hready.trans (congrArg (fun q : SchedState => q.ready ++ [t]) ((s.stored_frame m (SC_THR_CFG t) v).sched rfl))
  case disable =>
    intro s m t v hs ht hv heven hw hen
    refine runs_write (execThreadDisable.eq_1 ..) (by simp only [Instr.wf, heven, hv, ht, decide_true, Bool.and_self]) (lookup_SC_THR_CFG ht) rfl
      (.inl rfl) hw ?_
    have hbit : Word.field (BitVec.ofNat 32 v) 0 0 = 0 := (Word.bit_ofNat hv).trans heven
    have hold : (s.reg (SC_THR_CFG t)).field 0 0 = 1 := hen
    have hstored := State.stored_canonical (m := m) (off := SC_THR_CFG t) (v := v) hs
    have hen' : (s.stored m (SC_THR_CFG t) v).get (SC_THR_CFG_EN t) = 0 :=
      (State.stored_plain_field (f := ⟨0, 0, .rw, false, 0, 1⟩) hs (lookup_SC_THR_CFG ht) rfl (by decide) (by decide)).trans hbit
    have hflags : (s.stored m (SC_THR_CFG t) v).word (SC_THR_FLAGS t) = s.word (SC_THR_FLAGS t) :=
      State.stored_plain_word (lookup_SC_THR_CFG ht) rfl (by simp only [SC_THR_FLAGS, SC_THR_CFG]; omega)
    rw [effects_SC_THR_CFG]
    simp only [schedEffect]
    rw [if_neg (by simp [hold]), if_pos ⟨hold, hbit⟩]
    generalize s.stored m (SC_THR_CFG t) v = u at *
    have hcanon : (State.unready { u with sched := { u.sched with waits := Store.set (fun _ => none) u.sched.waits t none } } t).canonical = true :=
      State.canonical_of_regs hstored rfl rfl
    have hfilter : t ∉ (State.unready { u with sched := { u.sched with waits := Store.set (fun _ => none) u.sched.waits t none } } t).sched.ready := by
      simp [State.unready]
    have hreg (o : Nat) : (State.unready { u with sched := { u.sched with waits := Store.set (fun _ => none) u.sched.waits t none } } t).reg o =
        u.reg o := rfl
    generalize State.unready { u with sched := { u.sched with waits := Store.set (fun _ => none) u.sched.waits t none } } t = w at *
    obtain ⟨fw, hfw⟩ := State.recorded_eq (w.put (SC_THR_STAT_STATE t) thrDisabled) m (SC_THR_CFG t) v
    refine ⟨?_, (State.recorded_get ..).trans (State.get_put_fit hcanon rfl (by decide : thrDisabled < 8)), ?_, ?_⟩
    · rw [State.recorded_get, State.get_put_other _ (by simp only [SC_THR_CFG_EN, SC_THR_CFG, SC_THR_STAT_STATE, SC_THR_STAT]; omega),
        State.get_of_reg (hreg _), hen']
    · rw [hfw]
      exact hfilter
    · rw [State.recorded_word, State.word, State.reg_put_other _ (by simp only [SC_THR_FLAGS, SC_THR_STAT_STATE, SC_THR_STAT]; omega), hreg]
      exact hflags
  case yield =>
    intro s m c t v hs hc hv hyield hw hkeep hcur
    refine runs_write (execCoreYield.eq_1 ..) (by simp only [Instr.wf, hv, hc, decide_true, Bool.and_self]) (lookup_SC_CORE_CTRL hc) rfl
      (.inl rfl) hw ?_
    have hstored := State.stored_canonical (m := m) (off := SC_CORE_CTRL c) (v := v) hs
    have hget {f : Fld} (hf : f.off ≠ SC_CORE_CTRL c) : (s.stored m (SC_CORE_CTRL c) v).get f = s.get f :=
      State.stored_plain_get (lookup_SC_CORE_CTRL hc) rfl hf
    have hbit : Word.field (BitVec.ofNat 32 v) 0 0 = v % 2 := Word.bit_ofNat hv
    have hctrl : Word.field (BitVec.ofNat 32 v) 1 1 = 1 := (Word.field_ofNat 1 1 hv).trans hyield
    obtain ⟨hvalid, hrun, htcur⟩ : s.flag (SC_CORE_STAT_CUR_VALID c) = true ∧
        s.get (SC_THR_STAT_STATE (s.get (SC_CORE_STAT_CUR c))) = thrRunning ∧ s.get (SC_CORE_STAT_CUR c) = t := by
      simp only [State.currentRunning] at hcur
      split at hcur
      next h => exact ⟨h.1, h.2, Option.some.inj hcur⟩
      next => exact absurd hcur.symm (Option.some_ne_none _)
    have ht : t < 512 := htcur ▸ Word.field_lt (s.reg (SC_CORE_STAT c)) 14 6
    rw [htcur] at hrun
    have hcur' : (s.stored m (SC_CORE_CTRL c) v).get (SC_CORE_STAT_CUR c) = t :=
      (hget (by simp only [SC_CORE_STAT_CUR, SC_CORE_STAT, SC_CORE_CTRL]; omega)).trans htcur
    have hvalid' : (s.stored m (SC_CORE_CTRL c) v).flag (SC_CORE_STAT_CUR_VALID c) = true := by
      rw [State.flag, hget (by simp only [SC_CORE_STAT_CUR_VALID, SC_CORE_STAT, SC_CORE_CTRL]; omega)]
      exact hvalid
    have hrun' : (s.stored m (SC_CORE_CTRL c) v).get (SC_THR_STAT_STATE t) = thrRunning :=
      (hget (by simp only [SC_THR_STAT_STATE, SC_THR_STAT, SC_CORE_CTRL]; omega)).trans hrun
    have hold : 4 ≤ c → (s.reg (SC_CORE_CTRL c)).field 0 0 = 1 := fun h4 => (hkeep h4).1.symm.trans (hkeep h4).2
    have hcore : ((s.stored m (SC_CORE_CTRL c) v).when (4 ≤ c) fun u =>
        if Word.field (BitVec.ofNat 32 v) 0 0 = 0 then u.put (SC_CORE_STAT_STATE c) 0
        else if (s.reg (SC_CORE_CTRL c)).field 0 0 = 0 ∧ u.sched.customerCores.contains c then u.put (SC_CORE_STAT_STATE c) 1 else u) =
        s.stored m (SC_CORE_CTRL c) v := by
      unfold State.when
      split
      next h =>
        have h4 := of_decide_eq_true h
        have hset : ¬ Word.field (BitVec.ofNat 32 v) 0 0 = 0 := by
          have := (hkeep h4).2
          omega
        have hran : ¬ (s.reg (SC_CORE_CTRL c)).field 0 0 = 0 := by
          have := hold h4
          omega
        beta_reduce
        rw [if_neg hset, if_neg fun h' => hran h'.1]
      next => rfl
    obtain ⟨hstate, -, hready⟩ := State.makeReady_shows hstored ht
    rw [effects_SC_CORE_CTRL]
    simp only [schedEffect]
    rw [hcore, hcur', if_pos ⟨hctrl, hvalid', hrun'⟩]
    obtain ⟨fw, hfw⟩ := State.recorded_eq ((s.stored m (SC_CORE_CTRL c) v).makeReady t) m (SC_CORE_CTRL c) v
    refine ⟨(State.recorded_get ..).trans hstate, ?_⟩
    rw [hfw]
    exact hready.trans (congrArg (fun q : SchedState => q.ready ++ [t]) ((s.stored_frame m (SC_CORE_CTRL c) v).sched rfl))
  case run =>
    intro s m c v hs h4 hc hv hrun hw hold hcustomer
    refine runs_write (execCoreRun.eq_1 ..) (by simp only [Instr.wf, hv, hc, decide_true, Bool.and_self]) (lookup_SC_CORE_CTRL hc) rfl
      (.inl rfl) hw ?_
    have hbit : Word.field (BitVec.ofNat 32 v) 0 0 = 1 := (Word.bit_ofNat hv).trans (by omega)
    have hctrl : Word.field (BitVec.ofNat 32 v) 1 1 = 0 := (Word.field_ofNat 1 1 hv).trans (show v / 2 % 2 = 0 by omega)
    have hstored := State.stored_canonical (m := m) (off := SC_CORE_CTRL c) (v := v) hs
    have hrun' : (s.stored m (SC_CORE_CTRL c) v).get (SC_CORE_CTRL_RUN c) = 1 :=
      (State.stored_plain_field (f := ⟨0, 0, .rw, false, 0, 1⟩) hs (lookup_SC_CORE_CTRL hc) rfl (by decide) (by decide)).trans hbit
    have hcustomer' : (s.stored m (SC_CORE_CTRL c) v).sched.customerCores.contains c = true := by
      rw [(s.stored_frame m (SC_CORE_CTRL c) v).sched rfl]
      exact hcustomer
    rw [effects_SC_CORE_CTRL]
    simp only [schedEffect, State.when, h4, decide_true, if_true]
    have hset : ¬ Word.field (BitVec.ofNat 32 v) 0 0 = 0 := by omega
    have hstay : ¬ Word.field (BitVec.ofNat 32 v) 1 1 = 1 := by omega
    have hold' : (s.reg (SC_CORE_CTRL c)).field 0 0 = 0 := hold
    rw [if_neg fun h' => hstay h'.1, if_neg hset, if_pos ⟨hold', hcustomer'⟩]
    refine ⟨(State.recorded_get ..).trans ((State.get_put_other _ ?_).trans hrun'),
      (State.recorded_get ..).trans (State.get_put_fit hstored rfl (by decide : 1 < 4))⟩
    simp only [SC_CORE_CTRL_RUN, SC_CORE_CTRL, SC_CORE_STAT_STATE, SC_CORE_STAT]
    omega
  case event =>
    intro s m e he hw
    have hv : 2 ^ e < 2 ^ 32 := Nat.pow_lt_pow_right (by decide) he
    refine runs_write (execSoftwareEvent.eq_1 ..) (decide_eq_true hv) lookup_SC_SWEVT rfl (.inl rfl) hw ?_
    rw [effects_SC_SWEVT, State.recorded_plain lookup_SC_SWEVT (by simp only; decide) rfl]
    have hstored : s.stored m SC_SWEVT (2 ^ e) = s.setWord SC_SWEVT 0 := by
      rw [State.stored_plain lookup_SC_SWEVT rfl]
      simp only [RegSpec.written, List.foldl_cons, List.foldl_nil, FieldSpec.written, Word.withField_whole, State.setWord]
    have hfield (i : Nat) : Word.field (BitVec.ofNat 32 (2 ^ e)) i i = if i = e then 1 else 0 := by
      rw [Word.field_ofNat i i hv, Nat.add_sub_cancel_left]
      have hbit := Nat.testBit_two_pow (n := e) (m := i)
      rw [Nat.testBit_eq_decide_div_mod_eq] at hbit
      have hlt : 2 ^ e / 2 ^ i % 2 < 2 := Nat.mod_lt _ (by decide)
      split
      next h => simp [h]
      next h =>
        have : ¬ 2 ^ e / 2 ^ i % 2 = 1 := by simpa [Ne.symm h] using hbit
        omega
    rw [hstored]
    simp only [schedEffect, hfield]
    rw [State.forEach_one (e := e) (fun i hi u => by simp [hi, State.when]) _ he]
    simp [State.when]

/-! ### Due times of the thread monitors -/

/-- The monitors' due times and the misses noted are as they were. -/
def SameDues (s t : State) : Prop := t.sched.dues = s.sched.dues ∧ t.sched.missed = s.sched.missed

theorem SameDues.trans {s t u : State} (h : SameDues s t) (h' : SameDues t u) : SameDues s u := ⟨h'.1.trans h.1, h'.2.trans h.2⟩

theorem SameDues.of_sched {s t : State} (h : t.sched = s.sched) : SameDues s t := ⟨congrArg SchedState.dues h, congrArg SchedState.missed h⟩

theorem SameDues.when {s t : State} (h : SameDues s t) {b : Bool} {f : State → State} (hf : SameDues t (f t)) : SameDues s (t.when b f) := by
  cases b
  · exact h
  · exact h.trans hf

theorem State.makeReady_dues (s : State) (t : Nat) : SameDues s (s.makeReady t) := by
  unfold State.makeReady
  extract_lets sched u
  have hlast := SameDues.of_sched ((State.signalThread_frame (u.put (SC_THR_STAT_STATE t) thrReady) t).sched rfl)
  exact hlast

theorem State.checkWait_dues (s : State) (t : Nat) : SameDues s (s.checkWait t) := by
  unfold State.checkWait
  split
  · split
    · refine SameDues.trans ?_ (State.makeReady_dues _ _)
      exact ⟨rfl, rfl⟩
    · exact ⟨rfl, rfl⟩
  · exact ⟨rfl, rfl⟩

theorem State.setFlags_dues (s : State) (t mask : Nat) : SameDues s (s.setFlags t mask) := by
  refine SameDues.trans ?_ (State.checkWait_dues _ _)
  exact ⟨rfl, rfl⟩

theorem State.fire_dues (s : State) (e : Nat) : SameDues s (s.fire e) := by
  unfold State.fire
  extract_lets t
  have ht : SameDues s t := SameDues.when ⟨rfl, rfl⟩ (State.setFlags_dues _ _ _)
  exact ht.when (State.setFlags_dues _ _ _)

theorem State.raise_dues (s : State) (code sev cause inst data : Nat) : SameDues s (s.raise code sev cause inst data) := by
  unfold State.raise
  extract_lets t
  have hlog : SameDues s t := .of_sched ((State.log_frame s code sev cause inst data).sched rfl)
  split
  · refine hlog.trans ?_
    unfold State.igFault
    extract_lets +onlyGivenNames c hit
    clear_value t hit
    extract_lets u
    have hu : SameDues t u := by
      cases hit with
      | none =>
        simp only [u]
        split <;> exact ⟨rfl, rfl⟩
      | some i =>
        simp only [u]
        split <;> exact ⟨rfl, rfl⟩
    exact hu.trans (State.fire_dues _ _)
  · exact hlog

theorem State.monitorMiss_dues (s : State) (m : Nat) : SameDues s (s.monitorMiss m) :=
  by
  refine SameDues.trans ?_ (State.fire_dues _ _)
  exact SameDues.of_sched ((s.count_frame (dlCnt m)).sched rfl)

/-- A register of the thread monitors. -/
abbrev monitorWindow : Nat := 0x3b

/-- What a miss of a thread monitor leaves: its count, LAST_MISS, the miss noted; the monitors' other registers and due times stand. -/
theorem State.missNoted_shows {s : State} (hs : s.canonical = true) {m : Nat} (hm : m < 128) (sev thread mask : Nat) (hsev : sev < 8)
    (hthread : thread < 512) :
    let u := ((s.monitorMiss m).raise EV_DL_MISS sev m m).setFlags thread mask
    SameDues s u ∧ u.flag (DL_STAT_LAST_MISS m) = true ∧ u.word (DL_CNT m) = min (s.word (DL_CNT m) + 1) 0xffffffff ∧
    ∀ o, o / 0x10000 = monitorWindow → o ≠ DL_CNT m → o ≠ DL_STAT m → u.reg o = s.reg o := by
  intro u
  have hkeeps : Keeps winRaise ((s.count (dlCnt m)).put (DL_STAT_LAST_MISS m) 1) u :=
    (((State.fire_keeps _ _).weaken rfl).trans (State.raise_keeps _ _ _ _ _ hsev)).trans ((State.setFlags_keeps _ mask hthread).weaken rfl)
  have hwindow {o : Nat} (h : o / 0x10000 = monitorWindow) : u.reg o = ((s.count (dlCnt m)).put (DL_STAT_LAST_MISS m) 1).reg o :=
    hkeeps o (by rw [h]; decide)
  have hlog {o : Nat} (h : o / 0x10000 = monitorWindow) : o ∉ logCounters := fun hmem => by
    have := logCounters_window o hmem
    simp only [monitorWindow] at h
    omega
  have hstat : DL_STAT m / 0x10000 = monitorWindow := by simp only [DL_STAT, monitorWindow]; omega
  have hcnt : DL_CNT m / 0x10000 = monitorWindow := by simp only [DL_CNT, monitorWindow]; omega
  have hapart : DL_CNT m ≠ DL_STAT m := by simp only [DL_CNT, DL_STAT]; omega
  have hcounted := (s.count_frame (dlCnt m)).canon hs
  refine ⟨(s.monitorMiss_dues m).trans ((State.raise_dues _ _ _ _ _ _).trans (State.setFlags_dues _ _ _)), ?_, ?_, fun o ho h1 h2 => ?_⟩
  · exact (State.flag_of_reg (f := DL_STAT_LAST_MISS m) (hwindow hstat)).trans (State.flag_put_one hcounted rfl)
  · rw [State.word, hwindow hcnt, State.reg_put_other _ hapart]
    exact State.count_word (c := dlCnt m) (State.canonical_regs hs) hapart (hlog hcnt)
  · exact (hwindow ho).trans ((State.reg_put_other _ h2).trans (State.count_reg_other _ h1 h2 (hlog ho)))

/-- What the check of a thread monitor leaves, whether it was missed or not. -/
theorem State.threadMiss_shows {s : State} (hs : s.canonical = true) {m : Nat} (hm : m < 128) :
    (s.threadMiss m).sched.dues = s.sched.dues ∧
    ∀ o, o / 0x10000 = monitorWindow → o ≠ DL_CNT m → o ≠ DL_STAT m → (s.threadMiss m).reg o = s.reg o := by
  unfold State.threadMiss
  split
  · exact ⟨rfl, fun _ _ _ _ => rfl⟩
  · split
    · exact ⟨rfl, fun _ _ _ _ => rfl⟩
    · extract_lets sched t
      have ht : t.canonical = true := State.canonical_of_regs hs rfl rfl
      obtain ⟨hdues, -, -, hregs⟩ := State.missNoted_shows ht hm sevMajor (t.get (DL_CFG_THREAD m)) (2 ^ t.get (DL_CFG_FLAG m)) (by decide)
        (Word.field_lt _ _ _)
      exact ⟨hdues.1, hregs⟩

/-- A monitor armed. -/
theorem State.monitorArm_shows {s : State} (hs : s.canonical = true) (m due : Nat) :
    Store.get (fun _ => []) (s.monitorArm m due).sched.dues m = [due] ∧ (s.monitorArm m due).flag (DL_STAT_ARMED m) = true ∧
    m ∉ (s.monitorArm m due).sched.missed := by
  unfold State.monitorArm
  extract_lets sched t u
  have ht : t.canonical = true := State.canonical_of_regs hs rfl rfl
  have hu : u.canonical = true := State.canonical_setWord (State.canonical_setWord ht _ _) _ _
  have h1 := State.canonical_put hu (DL_STAT_ARMED m) 1
  exact ⟨Store.get_set_of_ne _ m (List.cons_ne_nil _ _), (State.flag_put_beside h1 rfl _).trans (State.flag_put_one hu rfl), by
    simp [t, u, State.setPair]⟩

/-- A monitor done (R328): one shot disarmed, a periodic one armed for its next period. -/
theorem State.monitorDone_shows {s : State} (hs : s.canonical = true) {m due : Nat} (hm : m < 128)
    (hdue : Store.get (fun _ => []) s.sched.dues m = [due]) :
    if s.get (DL_CFG_MODE m) = 0 then (s.monitorDone m).flag (DL_STAT_ARMED m) = false ∧ (s.monitorDone m).flag (DL_STAT_OUTSTANDING m) = false
    else Store.get (fun _ => []) (s.monitorDone m).sched.dues m = [due + s.get (DL_PERIOD_PERIOD m) * 1000] ∧
      (s.monitorDone m).flag (DL_STAT_ARMED m) = true := by
  obtain ⟨hdues, hregs⟩ := State.threadMiss_shows hs hm
  have ht := (State.threadMiss_frame s m).canon hs
  unfold State.monitorDone
  generalize s.threadMiss m = t at *
  simp only [(congrArg (fun l => Store.get (fun _ => []) l m) hdues).trans hdue]
  have hmark (b : Bool) : (t.when b fun t => t.put (DL_STAT_LAST_MISS m) 0).canonical = true ∧
      ∀ o, o ≠ DL_STAT m → (t.when b fun t => t.put (DL_STAT_LAST_MISS m) 0).reg o = t.reg o := by
    cases b
    · exact ⟨ht, fun _ _ => rfl⟩
    · exact ⟨State.canonical_put ht _ _, fun o ho => State.reg_put_other _ ho⟩
  obtain ⟨hu, hkept⟩ := hmark (decide (t.time.mono ≤ due))
  generalize (t.when (decide (t.time.mono ≤ due)) fun t => t.put (DL_STAT_LAST_MISS m) 0) = u at *
  have hreg {o : Nat} (hw : o / 0x10000 = monitorWindow) (h1 : o ≠ DL_CNT m) (h2 : o ≠ DL_STAT m) : u.reg o = s.reg o :=
    (hkept o h2).trans (hregs o hw h1 h2)
  have hmode : u.get (DL_CFG_MODE m) = s.get (DL_CFG_MODE m) := by
    refine State.get_of_reg (hreg ?_ ?_ ?_)
    all_goals simp only [DL_CFG_MODE, DL_CFG, DL_CNT, DL_STAT, monitorWindow]
    all_goals omega
  have hperiod : u.get (DL_PERIOD_PERIOD m) = s.get (DL_PERIOD_PERIOD m) := by
    refine State.get_of_reg (hreg ?_ ?_ ?_)
    all_goals simp only [DL_PERIOD_PERIOD, DL_PERIOD, DL_CNT, DL_STAT, monitorWindow]
    all_goals omega
  rw [hmode, hperiod]
  split
  · unfold State.monitorDisarm
    extract_lets sched w
    have hw : w.canonical = true := State.canonical_of_regs hu rfl rfl
    have h1 := State.canonical_put hw (DL_STAT_ARMED m) 0
    exact ⟨(State.flag_put_beside h1 rfl _).trans (State.flag_put_zero hw rfl), State.flag_put_zero h1 rfl⟩
  · obtain ⟨h1, h2, -⟩ := State.monitorArm_shows hu m (due + s.get (DL_PERIOD_PERIOD m) * 1000)
    exact ⟨h1, h2⟩

/-- The row of a monitor's due instant, which the write of its upper half completes. -/
theorem State.stored_due {s : State} {m : Master} (hs : s.canonical = true) {d v : Nat} (hd : d < 128) (hv : v < 2 ^ 32) :
    (s.stored m (DL_DUE_HI d) v).pair (DL_DUE_LO d) (DL_DUE_HI d) = v * 2 ^ 32 + s.word (DL_DUE_LO d) := by
  have hlow : (s.stored m (DL_DUE_HI d) v).word (DL_DUE_LO d) = s.word (DL_DUE_LO d) :=
    State.stored_plain_word (lookup_DL_DUE_HI hd) rfl (by simp only [DL_DUE_LO, DL_DUE_HI]; omega)
  have hhigh : (s.stored m (DL_DUE_HI d) v).word (DL_DUE_HI d) = v := by
    have h := State.stored_plain_field (m := m) (v := v) (f := ⟨31, 0, .rw, false, 0, 4294967295⟩) hs (lookup_DL_DUE_HI hd) rfl (by decide) (by decide)
    rw [State.get, Word.field_whole] at h
    exact h.trans ((Word.field_whole _).trans (by rw [BitVec.toNat_ofNat, Nat.mod_eq_of_lt hv]))
  rw [State.pair, hlow, hhigh]

/-- A claim lowers the interrupt of its core, which neither the choice of a thread nor the thread running looks at. -/
theorem State.claimBegun_shows {s : State} (hs : s.canonical = true) (c : Nat) :
    (s.put (SC_CORE_STAT_MEIP c) 0).bestReady c = s.bestReady c ∧ (s.put (SC_CORE_STAT_MEIP c) 0).currentRunning c = s.currentRunning c ∧
    ∀ t, (s.put (SC_CORE_STAT_MEIP c) 0).get (SC_THR_CFG_PRIO t) = s.get (SC_THR_CFG_PRIO t) := by
  have hcore (t : Nat) : (s.put (SC_CORE_STAT_MEIP c) 0).get (SC_THR_CFG_CORE t) = s.get (SC_THR_CFG_CORE t) :=
    State.get_put_other _ (by simp only [SC_THR_CFG_CORE, SC_THR_CFG, SC_CORE_STAT_MEIP, SC_CORE_STAT]; omega)
  have hprio (t : Nat) : (s.put (SC_CORE_STAT_MEIP c) 0).get (SC_THR_CFG_PRIO t) = s.get (SC_THR_CFG_PRIO t) :=
    State.get_put_other _ (by simp only [SC_THR_CFG_PRIO, SC_THR_CFG, SC_CORE_STAT_MEIP, SC_CORE_STAT]; omega)
  have hstate (t : Nat) : (s.put (SC_CORE_STAT_MEIP c) 0).get (SC_THR_STAT_STATE t) = s.get (SC_THR_STAT_STATE t) :=
    State.get_put_other _ (by simp only [SC_THR_STAT_STATE, SC_THR_STAT, SC_CORE_STAT_MEIP, SC_CORE_STAT]; omega)
  have hcur : (s.put (SC_CORE_STAT_MEIP c) 0).get (SC_CORE_STAT_CUR c) = s.get (SC_CORE_STAT_CUR c) := State.get_put_beside hs rfl _
  have hvalid : (s.put (SC_CORE_STAT_MEIP c) 0).flag (SC_CORE_STAT_CUR_VALID c) = s.flag (SC_CORE_STAT_CUR_VALID c) := State.flag_put_beside hs rfl _
  refine ⟨?_, ?_, hprio⟩
  · simp only [State.bestReady, hcore, hprio]
    rfl
  · simp only [State.currentRunning, hcur, hvalid, hstate]

/-- Settles O50: claims, traps and timers take the branch of the clauses' premises; a monitor's registers lie apart from what a miss fires. -/
theorem schedulerEvents : Obligations.SchedulerEvents := by
  unfold Obligations.SchedulerEvents
  refine ⟨?claim, ?trap, ?mono, ?tai, ?arm, ?dueArm, ?done, ?miss⟩
  case claim =>
    intro s m c t hs hon hanswers hreaches hc ht hbest hidle
    refine runs_core (execCoreClaim.eq_1 ..) (decide_eq_true hc) hon ?_
    obtain ⟨hbest', hcur', hprio⟩ := State.claimBegun_shows hs c
    have ht1 := State.canonical_put hs (SC_CORE_STAT_MEIP c) 0
    have hmeip : (s.put (SC_CORE_STAT_MEIP c) 0).flag (SC_CORE_STAT_MEIP c) = false := State.flag_put_zero hs rfl
    simp only [State.claimRead, hanswers, hreaches, Bool.not_true, Bool.or_self, Bool.false_eq_true, if_false, State.claim, hbest'.trans hbest,
      hcur'.trans hidle, hprio]
    have hready : ((s.put (SC_CORE_STAT_MEIP c) 0).unready t).sched.ready = s.sched.ready.filter (· != t) := rfl
    have hout : ((s.put (SC_CORE_STAT_MEIP c) 0).unready t).out = s.out := rfl
    have hreg (o : Nat) : ((s.put (SC_CORE_STAT_MEIP c) 0).unready t).reg o = (s.put (SC_CORE_STAT_MEIP c) 0).reg o := rfl
    have hcanon : ((s.put (SC_CORE_STAT_MEIP c) 0).unready t).canonical = true := State.canonical_of_regs ht1 rfl rfl
    generalize (s.put (SC_CORE_STAT_MEIP c) 0).unready t = u at *
    have hu1 := State.canonical_put hcanon (SC_THR_STAT_STATE t) thrRunning
    have hu2 := State.canonical_put hu1 (SC_CORE_STAT_CUR c) t
    have hthread : SC_CORE_STAT c ≠ SC_THR_STAT t := by
      simp only [SC_CORE_STAT, SC_THR_STAT]
      omega
    refine ⟨(State.get_put_beside hu2 rfl _).trans (State.get_put_fit hu1 rfl (show t < 2 ^ (14 + 1 - 6) from ht)), State.flag_put_one hu2 rfl,
      (State.get_put_other _ hthread.symm).trans ((State.get_put_other _ hthread.symm).trans (State.get_put_fit hcanon rfl (by decide : thrRunning < 8))),
      hready, ?_, congrArg (· ++ [_]) hout⟩
    refine (State.flag_put_beside hu2 rfl _).trans ((State.flag_put_beside hu1 rfl _).trans ((State.flag_put_other _ hthread).trans ?_))
    exact (State.flag_of_reg (f := SC_CORE_STAT_MEIP c) (hreg _)).trans hmeip
  case trap =>
    intro s c hon hc hheld
    refine runs_core (execPreemptTrap.eq_1 ..) (decide_eq_true hc) hon ?_
    rw [State.preemptTrap, if_pos hheld]
  case mono =>
    intro s i d hon hi hbase htimer hle
    refine runs_core (execSchedTimer.eq_1 ..) (decide_eq_true hi) hon ?_
    simp only [State.timerFire, htimer]
    rw [if_pos hbase, if_pos hle]
  case tai =>
    intro s i d hon hi hbase htimer hle
    refine runs_core (execSchedTimer.eq_1 ..) (decide_eq_true hi) hon ?_
    simp only [State.timerFire, htimer]
    rw [if_neg (by omega), if_pos hle]
  case arm =>
    intro s m d v hs h64 hd hpos hv hw
    have hv' : v < 2 ^ 32 := Nat.lt_trans hv (by decide)
    refine runs_write (execDlArm.eq_1 ..) (by simp only [Instr.wf, hv', h64, hd, decide_true, Bool.and_self]) (lookup_DL_ARM hd) rfl
      (.inl rfl) hw ?_
    have hstored := State.stored_canonical (m := m) (off := DL_ARM d) (v := v) hs
    have hspan : Word.field (BitVec.ofNat 32 v) 23 0 = v := by
      rw [Word.field_ofNat 23 0 hv', Nat.pow_zero, Nat.div_one]
      exact Nat.mod_eq_of_lt hv
    rw [effects_DL_ARM, State.recorded_plain (lookup_DL_ARM hd) (by simp only; decide) rfl]
    simp only [schedEffect, hspan, (s.stored_frame m (DL_ARM d) v).time rfl]
    exact State.monitorArm_shows ((State.threadMiss_frame _ _).canon hstored) d _
  case dueArm =>
    intro s m d v hs h64 hd hv hw
    refine runs_write (execDlDueArm.eq_1 ..) (by simp only [Instr.wf, hv, h64, hd, decide_true, Bool.and_self]) (lookup_DL_DUE_HI hd) rfl
      (.inl rfl) hw ?_
    have hstored := State.stored_canonical (m := m) (off := DL_DUE_HI d) (v := v) hs
    rw [effects_DL_DUE_HI]
    simp only [schedEffect]
    rw [if_neg (by omega), State.stored_due hs hd hv]
    obtain ⟨hdues, harmed, -⟩ := State.monitorArm_shows ((State.threadMiss_frame _ _).canon hstored) d ((v * 2 ^ 32 + s.word (DL_DUE_LO d)) * 1000)
    obtain ⟨fw, hfw⟩ := State.recorded_eq (((s.stored m (DL_DUE_HI d) v).threadMiss d).monitorArm d ((v * 2 ^ 32 + s.word (DL_DUE_LO d)) * 1000))
      m (DL_DUE_HI d) v
    refine ⟨?_, (State.recorded_flag ..).trans harmed⟩
    rw [hfw]
    exact hdues
  case done =>
    intro s m d v due hs h64 hd hv hw hdue
    have hv' : v < 2 ^ 32 := by omega
    refine runs_write (execDlDone.eq_1 ..) (by simp only [Instr.wf, hv', h64, hd, decide_true, Bool.and_self]) (lookup_DL_DONE hd) rfl
      (.inl rfl) hw ?_
    have hstored := State.stored_canonical (m := m) (off := DL_DONE d) (v := v) hs
    have hbit : Word.field (BitVec.ofNat 32 v) 0 0 = 1 := (Word.bit_ofNat hv').trans (by omega)
    rw [effects_DL_DONE, State.recorded_plain (lookup_DL_DONE hd) (by simp only; decide) rfl]
    simp only [schedEffect]
    have hacts : ¬ (d < 64 ∨ Word.field (BitVec.ofNat 32 v) 0 0 = 0) := by
      rw [hbit]
      omega
    rw [if_neg hacts]
    have hsched := (s.stored_frame m (DL_DONE d) v).sched rfl
    have hget {f : Fld} (hf : f.off ≠ DL_DONE d) : (s.stored m (DL_DONE d) v).get f = s.get f :=
      State.stored_plain_get (lookup_DL_DONE hd) rfl hf
    have hmode := hget (f := DL_CFG_MODE d) (by simp only [DL_CFG_MODE, DL_CFG, DL_DONE]; omega)
    have hperiod := hget (f := DL_PERIOD_PERIOD d) (by simp only [DL_PERIOD_PERIOD, DL_PERIOD, DL_DONE]; omega)
    rw [← hmode, ← hperiod]
    exact State.monitorDone_shows hstored hd ((congrArg (fun q : SchedState => Store.get (fun _ => []) q.dues d) hsched).trans hdue)
  case miss =>
    intro s d due hs hon h64 hd hdue hlate hnew hen
    refine runs_core (execThreadDeadlineMiss.eq_1 ..) (by simp only [Instr.wf, h64, hd, decide_true, Bool.and_self]) hon ?_
    have hbranch : ¬ (s.time.mono ≤ due ∨ s.sched.missed.contains d = true ∨ ¬ s.flag (DL_CFG_EN d) = true) := by
      rw [hnew, hen]
      simpa using hlate
    simp only [State.threadMiss, hdue]
    rw [if_neg hbranch]
    have ht : ({ s with sched := { s.sched with missed := s.sched.missed ++ [d] } } : State).canonical = true := State.canonical_of_regs hs rfl rfl
    obtain ⟨hdues, hmiss, hcnt, -⟩ := State.missNoted_shows ht hd sevMajor (s.get (DL_CFG_THREAD d)) (2 ^ s.get (DL_CFG_FLAG d)) (by decide)
      (Word.field_lt _ _ _)
    refine ⟨?_, hmiss, hcnt, (congrArg (fun l => Store.get (fun _ => []) l d) hdues.1).trans hdue⟩
    exact (congrArg (fun l => d ∈ l) hdues.2).mpr (List.mem_append_right _ (List.mem_singleton.mpr rfl))

end Sys2Proof.Machine
end

section
/-!
The key store and the security engine (O51, O52).
-/

set_option Elab.async false

namespace Sys2Proof.Machine

/-! ### The key slots, and what a completion leaves of them -/

/-- A register of the key store, or of a window above it, that no completion writes, whatever ring its command is bound to. -/
def upperRegister (o : Nat) : Prop := 0x3c0000 ≤ o ∧ o % 16 ≠ 12

section Completions

variable (s : State) {o : Nat} (ho : upperRegister o)
include ho

theorem State.message_upperRegister {v : Nat} (hv : v < 64) : (s.message v).reg o = s.reg o := by
  obtain ⟨hlow, -⟩ := ho
  unfold State.message
  split
  · rfl
  · split
    · exact State.reg_put_other (f := ⟨MSIX_PBA (v / 32), v % 32, v % 32⟩) 1 (by simp only [MSIX_PBA]; omega)
    · rfl

theorem State.signal_upperRegister (src : Nat) (urgent : Bool) : (s.signal src urgent).reg o = s.reg o := by
  unfold State.signal
  extract_lets cfg
  split
  · rfl
  · split
    · exact State.message_upperRegister _ ho (Word.field_lt cfg 12 7)
    · rfl

theorem State.cqWrite_upperRegister (c : Completion) : (s.cqWrite c).reg o = s.reg o := by
  have htail (q : Nat) : o ≠ HI_CQ_TAIL q := by
    obtain ⟨-, hplace⟩ := ho
    simp only [HI_CQ_TAIL]
    omega
  unfold State.cqWrite
  extract_lets q tail base t u
  have hu : u.reg o = s.reg o := by
    simp only [u]
    split
    · exact (State.reg_put_other _ (htail q)).trans (State.reg_put_other _ (htail q))
    · exact State.reg_put_other _ (htail q)
  exact (u.signal_upperRegister ho _ _).trans hu

theorem State.complete_upperRegister {c : Completion} (hc : c.sq < 16) : (s.complete c).reg o = s.reg o := by
  have hstat : o ≠ HI_SQ_STAT c.sq := by
    obtain ⟨hlow, -⟩ := ho
    simp only [HI_SQ_STAT]
    omega
  unfold State.complete
  split
  · rfl
  · split
    · exact (State.reg_put_other _ hstat).trans (s.cqWrite_upperRegister ho c)
    · rfl

theorem State.finish_upperRegister {h : CmdHeader} (hsq : h.sq < 16) (op status detail res0 res1 : Nat) :
    (s.finish h op status detail res0 res1).reg o = s.reg o := s.complete_upperRegister ho hsq

end Completions

/-- What is shown of a slot written: the attributes and the generation of its cell in force. -/
theorem State.showSlot_shows {s : State} (hs : s.canonical = true) {k : Nat} (hk : k < 256) (v : KeySlot) :
    (s.showSlot k v).word (KS_ATTR k) = v.cell.attr % 2 ^ 32 ∧ (s.showSlot k v).word (KS_GEN k) = v.cell.gen % 2 ^ 32 ∧
    (s.showSlot k v).flag (KS_SLOT_STAT_VALID k) = (v.cell.attr % 16 != 0) := by
  unfold State.showSlot
  extract_lets t u
  have h1 := State.canonical_setWord hs (KS_ATTR k) v.cell.attr
  have ht : t.canonical = true := State.canonical_setWord h1 _ _
  have hused {o : Nat} (ho : 0x3c1000 ≤ o) : (u.put KS_STATUS_USED u.slotsUsed).reg o = u.reg o :=
    State.reg_put_other _ (by simp only [KS_STATUS_USED, KS_STATUS]; omega)
  have hvalid {o : Nat} (ho : o ≠ KS_SLOT_STAT k) : u.reg o = t.reg o := State.reg_put_other _ ho
  refine ⟨?_, ?_, ?_⟩
  · rw [State.word, hused (by simp only [KS_ATTR]; omega), hvalid (by simp only [KS_ATTR, KS_SLOT_STAT]; omega),
      State.reg_setWord_other _ (by simp only [KS_ATTR, KS_GEN]; omega)]
    exact State.word_setWord_same (State.canonical_regs hs) _ _
  · rw [State.word, hused (by simp only [KS_GEN]; omega), hvalid (by simp only [KS_GEN, KS_SLOT_STAT]; omega)]
    exact State.word_setWord_same (State.canonical_regs h1) _ _
  · exact (State.flag_of_reg (f := KS_SLOT_STAT_VALID k) (hused (by simp only [KS_SLOT_STAT_VALID, KS_SLOT_STAT]; omega))).trans
      (State.flag_put ht rfl _)

/-- A slot stored and its change reported. -/
theorem State.slotChanged_shows {s : State} (hs : s.canonical = true) {k : Nat} (hk : k < 256) {v : KeySlot} {attr gen : Nat}
    (hattr : v.cell.attr = attr) (hgen : v.cell.gen = gen % 2 ^ 32) (n : Nat) :
    let u := (s.setSlot k v).raise EV_KS_KEY_CHANGE sevNotice k k n
    u.word (KS_ATTR k) = attr % 2 ^ 32 ∧ u.word (KS_GEN k) = gen % 2 ^ 32 ∧ u.flag (KS_SLOT_STAT_VALID k) = (attr % 16 != 0) := by
  intro u
  have hcanon : ({ s with keys := { s.keys with slots := Store.set (fun _ => none) s.keys.slots k (some v) } } : State).canonical = true :=
    State.canonical_of_regs hs rfl rfl
  obtain ⟨h1, h2, h3⟩ := State.showSlot_shows hcanon hk v
  rw [hattr] at h1 h3
  rw [hgen, Nat.mod_mod] at h2
  have hraise : Keeps winRaise (s.setSlot k v) u := State.raise_keeps _ _ _ _ _ (by decide)
  have hwindow {o : Nat} (ho : o / 0x10000 = 0x3c) : u.reg o = (s.setSlot k v).reg o := hraise o (by rw [ho]; decide)
  refine ⟨(congrArg BitVec.toNat (hwindow ?_)).trans h1, (congrArg BitVec.toNat (hwindow ?_)).trans h2,
    (State.flag_of_reg (f := KS_SLOT_STAT_VALID k) (hwindow ?_)).trans h3⟩
  · simp only [KS_ATTR]
    omega
  · simp only [KS_GEN]
    omega
  · simp only [KS_SLOT_STAT_VALID, KS_SLOT_STAT]
    omega

/-- The generation a write puts in force is the next one, and its attributes those written. -/
theorem State.keyWrite_shows {s : State} (hs : s.canonical = true) {k : Nat} (hk : k < 256) (alg usage dest value : Nat) :
    (s.keyWrite k alg usage dest value).word (KS_ATTR k) = (dest * 65536 + usage * 256 + alg) % 2 ^ 32 ∧
    (s.keyWrite k alg usage dest value).word (KS_GEN k) = ((s.slot k).cell.gen + 1) % 2 ^ 32 ∧
    (s.keyWrite k alg usage dest value).flag (KS_SLOT_STAT_VALID k) = ((dest * 65536 + usage * 256 + alg) % 16 != 0) := by
  unfold State.keyWrite
  exact State.slotChanged_shows ((s.random_frame (keyBytes alg)).canon hs) hk (by split <;> rfl) (by split <;> rfl) _

/-- A reseed changes no slot. -/
theorem State.reseed_slot (s : State) (k : Nat) : s.reseed.slot k = s.slot k := rfl

/-- Settles O51: the checks of each command are the clause's premises; an erase shows the slot that its write stores. -/
theorem keyCommands : Obligations.KeyCommands := by
  unfold Obligations.KeyCommands
  refine ⟨?erase, ?generate, ?import_, ?update⟩
  case erase =>
    intro s h k pubDst pubLen hs hsq hserve hk hbusy hdma hbad hholdup
    refine runs_core (execKeyGenerate.eq_1 ..) (decide_eq_true hsq) (State.coreOn_serves hserve) ?_
    have hfield : generateField k 0 0 0 = none := by
      unfold generateField
      rw [if_neg (by omega), if_neg (by decide), if_neg (by decide), if_neg (by decide), if_pos rfl, if_neg (by decide), if_neg (by decide)]
    simp only
    rw [State.command_runs hserve hfield (if_neg (show ¬ pubLen < publicSize 0 0 from Nat.not_lt_zero _)), if_neg (by simp [hbusy, hdma]), if_neg (by simp [hbad]),
      if_pos ⟨rfl, by simp [State.ledgerBars, State.slhWork]⟩, State.generateRun, if_neg (by simp [hbad]), if_neg (by simp [hholdup]), if_pos rfl]
    have hcanon : (s.when (s.flag SE_STATUS_DRBG_READY) State.reseed).canonical = true := by
      cases s.flag SE_STATUS_DRBG_READY
      · exact hs
      · exact s.reseed_frame.canon hs
    have hslot : (s.when (s.flag SE_STATUS_DRBG_READY) State.reseed).slot k = s.slot k := by
      cases s.flag SE_STATUS_DRBG_READY <;> rfl
    generalize s.when (s.flag SE_STATUS_DRBG_READY) State.reseed = t at *
    obtain ⟨hattr, hgen, hvalid⟩ := State.keyWrite_shows hcanon hk 0 0 0 0
    rw [hslot] at hgen
    generalize t.keyWrite k 0 0 0 0 = u at *
    have hreg {o : Nat} (ho : upperRegister o) := u.finish_upperRegister ho hsq 0x50 stOk (if stOk = stState then 24 else 0) (u.keyGen k) 0
    have hregs : upperRegister (KS_ATTR k) ∧ upperRegister (KS_GEN k) ∧ upperRegister (KS_SLOT_STAT k) := by
      simp only [upperRegister, KS_ATTR, KS_GEN, KS_SLOT_STAT]
      omega
    refine ⟨?_, ?_, (State.flag_of_reg (f := KS_SLOT_STAT_VALID k) (hreg hregs.2.2)).trans hvalid⟩
    · have hzero : u.reg (KS_ATTR k) = 0 := BitVec.eq_of_toNat_eq hattr
      rw [State.get_of_reg (f := KS_ATTR_ALG k) (hreg hregs.1), State.get, KS_ATTR_ALG, hzero]
      rfl
    · rw [State.word, hreg hregs.2.1]
      exact hgen
  case generate =>
    intro s h k alg usage dest pubDst pubLen hsq hserve hfield hlen hbusy hdma hbad r
    refine runs_core (execKeyGenerate.eq_1 ..) (decide_eq_true hsq) (State.coreOn_serves hserve) ?_
    simp only
    rw [State.command_runs hserve hfield (if_neg (Nat.not_lt.mpr hlen)), if_neg (by simp [hbusy, hdma]), if_neg (by simp [hbad])]
    simp only [Bool.not_eq_true]
    rfl
  case import_ =>
    intro s h k wrap b hsq hserve hk1 hk hwrap hslot hwritten hbusy hdma hservice halg hblob hholdup t
    refine runs_core (execKeyImport.eq_1 ..) (decide_eq_true hsq) (State.coreOn_serves hserve) ?_
    have hfield : s.wrapField wrap = false := by simp [State.wrapField, hslot, Nat.not_lt.mpr (Nat.lt_succ_iff.mp hwrap)]
    rw [State.command_runs hserve (by rw [if_neg (by omega), if_neg (by simp [hfield])]) rfl, if_neg (by simp [hbusy, hwritten, hdma])]
    have himport : s.importBad k = none := by
      rw [State.importBad, if_neg (by simp [hservice, halg]; omega)]
    simp only [State.importRun, himport, State.blobInto, hblob, hholdup, Bool.false_eq_true, if_false]
    rfl
  case update =>
    intro s h k wrap pubDst pubLen b hsq hserve hk0 hk hwrap hone hslot hwritten hbusy hdma hservice halg hblob hholdup t
    refine runs_core (execKeyUpdate.eq_1 ..) (decide_eq_true hsq) (State.coreOn_serves hserve) ?_
    have hne : wrap ≠ 0xff := by omega
    have hfield : s.wrapField wrap = false := by simp [State.wrapField, hslot]; omega
    have hsteps : s.updateSteps k wrap = 1 := if_neg hne
    have hbars : s.ledgerBars (.keyUpdate k wrap b pubDst pubLen) = false := by
      simp [State.ledgerBars, State.slhWork, hne]
    simp only
    rw [State.command_runs hserve (by rw [if_neg (by omega), if_neg (by simp [hfield])]) (if_neg fun h => hne h.1),
      if_neg (by simp [hbusy, hwritten, hdma, hsteps, hbars])]
    have hupdate : s.updateBad k wrap pubLen = none := by
      rw [State.updateBad, if_neg (by simp [hservice, halg]; omega), if_pos hne]
    simp only [State.updateRun, hupdate, if_pos hne, State.blobInto, hblob, hholdup, Bool.false_eq_true, if_false]
    rfl

/-! ### Quotes, signatures and the random generator -/

/-- A failed health test: the generator's registers are in no window that an event writes. -/
theorem State.entropyFail_shows {s : State} (hs : s.canonical = true) :
    s.entropyFail.flag SE_STATUS_ES_FAIL = true ∧ s.entropyFail.flag SE_STATUS_DRBG_READY = false ∧
    s.entropyFail.flag SE_STATUS_DETERMINISTIC = true ∧ s.entropyFail.keys = { s.keys with drbg := none } ∧
    s.entropyFail.word (SE_CNT 3) = min (s.word (SE_CNT 3) + 1) 0xffffffff := by
  unfold State.entropyFail
  extract_lets t u
  have hcount := (s.count_frame (seCnt 3)).canon hs
  have ht : t.canonical = true := State.canonical_put hcount _ _
  have h1 := State.canonical_put ht SE_STATUS_DRBG_READY 0
  have hraise : Keeps winRaise { u with keys := { u.keys with drbg := none } }
      (State.raise { u with keys := { u.keys with drbg := none } } EV_SE_ENTROPY_FAIL sevCritical) := State.raise_keeps _ _ _ _ _ (by decide)
  have hkeys : u.keys = s.keys := (s.count_frame (seCnt 3)).keys rfl
  have hword : u.word (SE_CNT 3) = min (s.word (SE_CNT 3) + 1) 0xffffffff := by
    have hput : u.word (SE_CNT 3) = (s.count (seCnt 3)).word (SE_CNT 3) := by
      rw [State.word, State.reg_put_other _ (by decide), State.reg_put_other _ (by decide), State.reg_put_other _ (by decide), State.word]
    exact hput.trans (State.count_word (c := seCnt 3) (State.canonical_regs hs) (by decide) (by decide))
  refine ⟨(hraise.flag (by decide)).trans ?_, (hraise.flag (by decide)).trans ?_, (hraise.flag (by decide)).trans ?_, ?_,
    (hraise.word (by decide)).trans hword⟩
  · exact (State.flag_put_beside h1 rfl _).trans ((State.flag_put_beside ht rfl _).trans (State.flag_put_one hcount rfl))
  · exact (State.flag_put_beside h1 rfl _).trans (State.flag_put_zero ht rfl)
  · exact State.flag_put_one h1 rfl
  · exact ((State.raise_frame _ EV_SE_ENTROPY_FAIL sevCritical 0 0 0).keys rfl).trans (congrArg (fun k : KeyState => { k with drbg := none }) hkeys)

/-- Settles O52: the checks of each command are the clause's premises; the generator's registers stand apart from what an event writes. -/
theorem quotesAndSignatures : Obligations.QuotesAndSignatures := by
  unfold Obligations.QuotesAndSignatures
  refine ⟨?attest, ?sign, ?verify, ?reseed, ?fail⟩
  case attest =>
    intro s h k dst dstLen challenge hsq hserve hk hslot hlen hbusy hdma
    refine runs_core (execAttest.eq_1 ..) (decide_eq_true hsq) (State.coreOn_serves hserve) ?_
    have hfield : ¬ (255 < k ∨ (¬ s.slotWritten k = true ∧ ¬ s.attestSlot k = true)) := fun h => h.elim (by omega) fun h => h.2 hslot
    have hbuffer : ¬ (dstLen < if 0 = 1 then 16416 else 192) := Nat.not_lt.mpr hlen
    rw [State.command_runs hserve (by rw [if_neg hfield, if_neg (by decide)]) (if_neg hbuffer), if_neg (by simp [hbusy, hdma])]
  case sign =>
    intro s h k dst dstLen message hsq hserve hk0 hk hslot hne hlen hsize
    refine runs_core (execSign.eq_1 ..) (decide_eq_true hsq) (State.coreOn_serves hserve) ?_
    have hpos : message.length ≠ 0 := fun h => hne (List.length_eq_zero_iff.mp h)
    have hfield : ¬ (255 < k ∨ (k ≠ 0 ∧ ¬ s.slotWritten k = true ∧ ¬ s.signSlot k = true)) :=
      fun h => h.elim (by omega) fun h => h.2.2 hslot
    have hbuffer : ¬ (k ≠ 0 ∧ ¬ s.slotWritten k = true ∧ dstLen < signatureSize (s.keyAlg k)) := fun h => Nat.not_lt.mpr hsize h.2.2
    rw [State.command_runs hserve (by rw [if_neg hfield, if_neg (by omega)]) (if_neg hbuffer), if_neg (by omega)]
  case verify =>
    intro s h k message sig hsq hserve hk hslot
    refine runs_core (execVerify.eq_1 ..) (decide_eq_true hsq) (State.coreOn_serves hserve) ?_
    have hfield : ¬ (255 < k ∨ (¬ s.slotWritten k = true ∧ ¬ s.verifySlot k = true)) := fun h => h.elim (by omega) fun h => h.2 hslot
    rw [State.command_runs hserve (if_neg hfield) rfl]
  case reseed =>
    intro s hs hon hready hdue
    refine runs_core (execDrbgReseed.eq_1 ..) rfl hon ?_
    rw [State.reseedDue, if_pos ⟨hready, hdue⟩]
    exact ⟨rfl, rfl, rfl, State.word_bump_whole (State.canonical_of_regs hs rfl rfl) _, rfl⟩
  case fail =>
    intro s hs hon
    exact runs_core (execEntropyFail.eq_1 ..) rfl hon (State.entropyFail_shows hs)

end Sys2Proof.Machine
end

section
/-!
The pair: frames of the causeway, timers and roles (O53 to O55).
-/

set_option Elab.async false

namespace Sys2Proof.Machine

/-! ### Frames of the causeway -/

/-- A frame that is good and new runs on the state that has noted it (R353, R356). -/
theorem State.cwRx_heard {s : State} {c : CwHeader} {opens : Bool} (h : s.cwHears c opens = true) (run : State → State) :
    s.cwRx c opens run = run (s.cwHeard c) := by
  simp only [State.cwHears, Bool.and_eq_true, Bool.not_eq_true', beq_iff_eq, decide_eq_true_eq] at h
  obtain ⟨⟨⟨⟨hstopped, hclean⟩, hfault⟩, hnew⟩, hrecent⟩ := h
  have hpair : (s.sluiceEcc 9 c.corrected false).pair_ = s.pair_ := (s.sluiceEcc_frame 9 c.corrected false).pair_ rfl
  have hheard : (s.sluiceEcc 9 c.corrected false).heardOf c.sender = s.heardOf c.sender := by rw [State.heardOf, hpair, State.heardOf]
  have hnew' : (s.sluiceEcc 9 c.corrected false).hasHeard c = false := by
    rw [State.hasHeard, hheard]
    exact hnew
  have hcopy : (s.heardOf c.sender).seen.contains (2 * c.fseq + c.lane % 2) = false := by
    rw [Bool.eq_false_iff]
    intro hmem
    have hsame : (2 * c.fseq + c.lane % 2) / 2 = c.fseq := by omega
    have : s.hasHeard c = true := List.any_eq_true.mpr ⟨_, List.contains_iff_mem.mp hmem, by rw [hsame]; exact beq_self_eq_true _⟩
    exact Bool.noConfusion (this.symm.trans hnew)
  simp only [State.cwRx, hstopped, hclean, Bool.false_eq_true, if_false, State.cwTake, hfault, hheard, hcopy, hnew']
  rw [if_neg (by omega)]
  rfl

/-- Settles O53: every type of frame goes through the one receiver. -/
theorem causewayFrames : Obligations.CausewayFrames := by
  unfold Obligations.CausewayFrames
  refine fun s c hon => ⟨fun h => ⟨?keepalive, ?order, ?fetch, ?copy, ?digest, ?note, ?health, ?image, ?ack, ?promote, ?diverge⟩, ?join, ?reply⟩
  case keepalive => exact fun _ _ _ => runs_engines (execCwKeepaliveRx.eq_1 ..) rfl hon (State.cwRx_heard h _)
  case order => exact fun _ _ => runs_engines (execCwOrderRx.eq_1 ..) rfl hon (State.cwRx_heard h _)
  case fetch => exact fun _ _ => runs_engines (execCwFetchRx.eq_1 ..) rfl hon (State.cwRx_heard h _)
  case copy => exact fun _ _ _ => runs_engines (execCwFrameCopyRx.eq_1 ..) rfl hon (State.cwRx_heard h _)
  case digest => exact fun _ _ _ => runs_engines (execCwDigestRx.eq_1 ..) rfl hon (State.cwRx_heard h _)
  case note => exact fun _ _ _ => runs_engines (execCwLedgerNoteRx.eq_1 ..) rfl hon (State.cwRx_heard h _)
  case health => exact fun _ _ _ _ => runs_engines (execCwHealthRx.eq_1 ..) rfl hon (State.cwRx_heard h _)
  case image => exact fun _ _ _ _ _ => runs_engines (execCwStateRx.eq_1 ..) rfl hon (State.cwRx_heard h _)
  case ack => exact fun _ _ => runs_engines (execCwStateAckRx.eq_1 ..) rfl hon (State.cwRx_heard h _)
  case promote => exact fun _ _ => runs_engines (execCwPromoteRx.eq_1 ..) rfl hon (State.cwRx_heard h _)
  case diverge => exact fun _ _ _ => runs_engines (execCwDivergeRx.eq_1 ..) rfl hon (State.cwRx_heard h _)
  case join => exact fun h _ _ _ _ => runs_engines (execCwJoinRx.eq_1 ..) rfl hon (State.cwRx_heard h _)
  case reply =>
    intro h result id
    have hnew : s.hasHeard c = false := by
      simp only [State.cwHears, Bool.and_eq_true, Bool.not_eq_true'] at h
      exact h.1.2
    refine runs_engines (execCwJoinReplyRx.eq_1 ..) rfl hon ?_
    rw [hnew, Bool.or_false]
    exact State.cwRx_heard h _

/-! ### The pair in time -/

/-- A primary that marks its partner lost stays primary: what stands in `CW_STATUS` is no reset value, whatever form the registers have. -/
theorem State.role_partnerLost {s : State} (h : s.role = rolePrimary) : (s.put CW_STATUS_PARTNER 0).role = rolePrimary := by
  have hfield : ((s.reg CW_STATUS).withField 5 5 0).field 1 0 = 1 :=
    (Word.field_withField_below _ 0 (by decide) (by decide) (by decide) (by decide)).trans h
  have hstands : (s.put CW_STATUS_PARTNER 0).reg CW_STATUS = (s.reg CW_STATUS).withField 5 5 0 :=
    Store.get_set_of_ne _ CW_STATUS fun hreset => by
      have h0 : Word.field (resetWord CW_STATUS) 1 0 = 1 := (congrArg (fun w => Word.field w 1 0) hreset).symm.trans hfield
      revert h0
      decide +kernel
  rw [State.role, State.get, CW_STATUS_ROLE, hstands]
  exact hfield

/-- Settles O54: each timer's conditions are the clause's premises. -/
theorem pairTimers : Obligations.PairTimers := by
  unfold Obligations.PairTimers
  refine ⟨?tick, ?flush, ?fetch, ?expire, ?keepalive, ?health, ?digest, ?late, ?missing, ?checkpoint, ?lane, ?partner⟩
  case tick =>
    intro s hon horder hdue
    refine runs_engines (execOrderTick.eq_1 ..) rfl hon ?_
    rw [State.orderTick, if_pos hdue, if_pos horder]
  case flush =>
    intro s r rest hon hunsent hdue
    refine runs_engines (execOrderFlush.eq_1 ..) rfl hon ?_
    simp only [State.orderFlush, hunsent]
    rw [if_neg (by omega)]
  case fetch =>
    intro s r rest hon hwaiting hfollows hrecent hnum hdue
    refine runs_engines (execFetchTimer.eq_1 ..) rfl hon ?_
    simp only [State.fetchTimer, hwaiting, hfollows, not_true, if_false]
    rw [if_neg (Nat.not_le.mpr hrecent), if_pos ⟨hnum, hdue⟩]
  case expire =>
    intro s hon old
    exact runs_engines (execOrderMatchExpire.eq_1 ..) rfl hon rfl
  case keepalive =>
    intro s hon hrole hdue t
    refine runs_engines (execCwKeepaliveTx.eq_1 ..) rfl hon ?_
    rw [State.keepaliveTx, if_neg fun h => h.elim hrole (Nat.not_lt.mpr hdue)]
    rfl
  case health =>
    intro s hon hdue t
    refine runs_engines (execHealthTx.eq_1 ..) rfl hon ?_
    rw [State.healthTx, if_neg (Nat.not_lt.mpr hdue)]
  case digest =>
    intro s hon hlockstep hdue w ds valid t
    refine runs_engines (execDigestSend.eq_1 ..) rfl hon ?_
    simp only [State.digestSend, hlockstep]
    rw [if_neg fun h => h.elim (fun h => h trivial) (Nat.not_lt.mpr hdue)]
  case late =>
    intro s hon hlockstep hdue hnew
    refine runs_engines (execDigestLate.eq_1 ..) rfl hon ?_
    simp only [State.digestLate, hlockstep]
    rw [if_neg fun h => h.elim (fun h => h trivial) fun h => h.elim (Nat.not_lt.mpr hdue) hnew]
  case missing =>
    intro s o rest hon hown hdue
    refine runs_engines (execDigestMissing.eq_1 ..) rfl hon ?_
    simp only [State.digestMissing, hown]
    rw [if_neg (Nat.not_lt.mpr hdue)]
  case checkpoint =>
    intro s hon hrole hpartner hcold hdue
    refine runs_engines (execCheckpointTx.eq_1 ..) rfl hon ?_
    rw [State.checkpointTx, if_pos ⟨hrole, hpartner, hcold, hdue⟩]
  case lane =>
    intro s l t t' hl hon hup hlast hsilent hother hheard
    refine runs_engines (execCwLaneSilence.eq_1 ..) (decide_eq_true hl) hon ?_
    simp only [State.laneDown, hlast, hother, hup]
    rw [if_neg (by simp [hsilent, hheard])]
  case partner =>
    intro s t hon hpartner hlast hdue hrole
    refine runs_engines (execPartnerSilence.eq_1 ..) rfl hon ?_
    simp only [State.partnerSilent, hlast, hpartner]
    rw [if_neg (by simp [hdue]), if_pos (State.role_partnerLost hrole)]

/-! ### Roles -/

/-- A write of `CW_CFG` has the effect of the role block, and shows the service of the key slots it names. -/
theorem effects_CW_CFG (s : State) (ix : List Nat) (old w : Word) :
    s.effects 0x3d0000 ix old w = ((roleEffect 0x3d0000 ix old w s).showService (old.field 15 8)).showService (w.field 15 8) := by
  simp only [State.effects, netEffect_other (base := 0x3d0000) (by decide), hostEffect_other (base := 0x3d0000) (by decide),
    schedEffect_other (base := 0x3d0000) (by decide), laneEffect_other (base := 0x3d0000) (by decide),
    analogueEffect_other (base := 0x3d0000) (by decide), phasorEffect_other (base := 0x3d0000) (by decide),
    streamEffect_other (base := 0x3d0000) (by decide), alignEffect_other (base := 0x3d0000) (by decide),
    oscillationEffect_other (base := 0x3d0000) (by decide), islandEffect_other (base := 0x3d0000) (by decide),
    alarmEffect_other (base := 0x3d0000) (by decide), meterEffect_other (base := 0x3d0000) (by decide),
    captureEffect_other (base := 0x3d0000) (by decide), timeEffect_other (base := 0x3d0000) (by decide)]
  rfl

/-- The windows that a change of role writes beside the pair's own: the pins, the pulses and what an event writes. -/
abbrev winRole : Nat := 0x8540000000000000 ||| 0x4000000000000

/-- The registers of the pair and the next keepalive are as they were. -/
def SamePair (s t : State) : Prop := Keeps winRole s t ∧ t.pair_.keepAt = s.pair_.keepAt

theorem SamePair.trans {s t u : State} (h : SamePair s t) (h' : SamePair t u) : SamePair s u := ⟨h.1.trans h'.1, h'.2.trans h.2⟩

theorem State.digestItem_keepAt (s : State) (cls at_ index : Nat) (bytes : List Byte) :
    (s.digestItem cls at_ index bytes).pair_.keepAt = s.pair_.keepAt := by
  unfold State.digestItem
  split <;> rfl

theorem State.digestWhen_keepAt (s : State) (c : Bool) (f : State → Nat) (g : State → List Byte) :
    (s.when c fun s => s.digestItem 4 (f s) 0 (g s)).pair_.keepAt = s.pair_.keepAt := by
  cases c
  · rfl
  · exact s.digestItem_keepAt _ _ _ _

theorem State.condsStored_keepAt {s t : State} (h : t.pair_.keepAt = s.pair_.keepAt) (v : Nat) (a b : List VecUpdate) :
    ({ t with capture := { t.capture with vector := v, forRules := a, forUnits := b } } : State).pair_.keepAt = s.pair_.keepAt := h

/-- A new vector is an item for the comparison at most (R363); the masks stay folded, for their numbers are long to compute. -/
theorem State.setConds_keepAt (s : State) (bits : List (Nat × Bool)) (data : Stamp) (b : Option Nat) :
    (s.setConds bits data b).pair_.keepAt = s.pair_.keepAt := by
  rw [(by delta State.setConds; rfl : @State.setConds = _)]
  generalize bits.foldl (fun v b => setBit v b.1 b.2) s.capture.vector = v
  generalize s.capture.vector = w
  generalize sharedBits = shared
  refine (apply_ite (fun t : State => t.pair_.keepAt) (v = w) _ _).trans ?_
  split
  · rfl
  · extract_lets +onlyGivenNames update
    clear_value update
    exact State.condsStored_keepAt (s.digestWhen_keepAt _ _ _) _ _ _

theorem State.setConds_samePair (s : State) (bits : List (Nat × Bool)) (data : Stamp) (b : Option Nat) : SamePair s (s.setConds bits data b) :=
  ⟨Keeps.of_regs ((s.setConds_frame bits data b).regs rfl), s.setConds_keepAt bits data b⟩

theorem State.showDriven_samePair (s : State) : SamePair s s.showDriven := by
  refine ⟨?_, congrArg PairState.keepAt (s.showDriven_frame.pair_ rfl)⟩
  refine Keeps.forEach (fun p hp t => (Keeps.refl _ t).put _ ?_) s
  have hwindow : (PO_STATUS_DRIVEN p).off / 0x10000 = 0x36 := by
    simp only [PO_STATUS_DRIVEN, PO_STATUS]
    omega
  rw [hwindow]
  decide

theorem State.refreshPins_samePair (s : State) : SamePair s s.refreshPins := by
  have hcompute : SamePair s s.computePins := ⟨((Keeps.refl _ s).put _ (by decide)).put _ (by decide), rfl⟩
  unfold State.refreshPins State.settlePins
  extract_lets t
  refine SamePair.trans ?_ (t.setConds_samePair _ _ _)
  refine State.forEach_induction (P := fun u => SamePair s u) hcompute fun p hp u hu => ?_
  split
  · exact hu
  · have hpin {a : Nat} (ha : 0x320800 ≤ a) (hb : a < 0x330000) : winRole.testBit (a / 0x10000) = true := by
      have : a / 0x10000 = 0x32 := by omega
      rw [this]
      decide
    refine hu.trans ⟨Keeps.trans ((((Keeps.refl _ u).put _ ?_).setWord _ ?_).put _ ?_) (Keeps.of_regs rfl), rfl⟩
    all_goals refine hpin ?_ ?_
    all_goals simp only [AL_PIN_TS_SEC_HI_SEC_HI, AL_PIN_TS_SEC_HI, AL_PIN_TS_SEC_LO, AL_PIN_TS_NS_NS, AL_PIN_TS_NS]
    all_goals omega

/-- A unit set to drive: its role shown, with the rest of the pair's registers but the instant as it was. -/
theorem State.setRole_shows {s : State} (hs : s.canonical = true) {role sev : Nat} (hrole : role < 2) (hsev : sev < 8) :
    (s.setRole role sev).role = role ∧ (s.setRole role sev).get CW_STATUS_SYNC = s.get CW_STATUS_SYNC ∧
    (s.setRole role sev).reg CW_CFG = s.reg CW_CFG ∧ (s.setRole role sev).pair_.keepAt = s.pair_.keepAt := by
  unfold State.setRole
  extract_lets t pair u v w x y
  have ht : t.get CW_STATUS_ROLE = role := State.get_put_fit hs rfl (show role < 2 ^ (1 + 1 - 0) by omega)
  have htsync : t.get CW_STATUS_SYNC = s.get CW_STATUS_SYNC := State.get_put_beside hs rfl _
  have hvreg {o : Nat} (h1 : o ≠ CW_ROLE_SINCE_LO) (h2 : o ≠ CW_ROLE_SINCE_HI) : v.reg o = t.reg o :=
    (State.reg_setWord_other _ h2).trans (State.reg_setWord_other _ h1)
  have hw : SamePair v w := by
    refine ⟨((State.raise_keeps _ _ _ _ _ hsev).trans ((State.fire_keeps _ _).weaken rfl)).weaken rfl, congrArg PairState.keepAt ?_⟩
    exact (State.fire_frame _ _).pair_ rfl |>.trans ((v.raise_frame EV_CW_ROLE_CHANGE sev 0 0 0).pair_ rfl)
  have hwrole : w.get CW_STATUS_ROLE = role := (hw.1.get (by decide)).trans ((State.get_of_reg (hvreg (by decide) (by decide))).trans ht)
  have hx : x = w := by
    have hdrives : w.drives = true := by
      rw [State.drives, hwrole]
      have : role = 0 ∨ role = 1 := by omega
      rcases this with rfl | rfl <;> rfl
    simp only [x, hdrives, if_true]
  have hy : y = w := by
    have hcold : w.cold = false := by
      rw [State.cold, hwrole]
      exact beq_false_of_ne (by omega)
    simp only [y, hx, hcold, Bool.false_eq_true, if_false]
  rw [hy]
  have hlast : SamePair v w.modeConds.showDriven.refreshPins :=
    hw.trans ((w.setConds_samePair _ _ _).trans ((State.showDriven_samePair _).trans (State.refreshPins_samePair _)))
  have hreg {o : Nat} (hwin : winRole.testBit (o / 0x10000) = false) (h1 : o ≠ CW_ROLE_SINCE_LO) (h2 : o ≠ CW_ROLE_SINCE_HI) :
      w.modeConds.showDriven.refreshPins.reg o = t.reg o := (hlast.1 o hwin).trans (hvreg h1 h2)
  exact ⟨(State.get_of_reg (f := CW_STATUS_ROLE) (hreg (by decide) (by decide) (by decide))).trans ht,
    (State.get_of_reg (f := CW_STATUS_SYNC) (hreg (by decide) (by decide) (by decide))).trans htsync,
    (hreg (by decide) (by decide) (by decide)).trans (State.reg_put_other _ (by decide)), hlast.2⟩

/-- The registers of the pair stand apart from what shows a slot's service. -/
theorem State.showService_reg (s : State) (k : Nat) {o : Nat} (ho : 0x3d0000 ≤ o) (hk : k < 256) : (s.showService k).reg o = s.reg o :=
  State.reg_put_other _ (by simp only [KS_SLOT_STAT_IN_SERVICE, KS_SLOT_STAT]; omega)

/-- What a write of `CW_CFG` leaves of the pair's registers: what its effect on the role leaves. -/
theorem State.effects_pair (s : State) (m : Master) (v : Nat) (old w : Word) {o : Nat} (ho : 0x3d0000 ≤ o) :
    ((s.effects 0x3d0000 [] old w).recorded m CW_CFG v).reg o = (roleEffect 0x3d0000 [] old w s).reg o := by
  rw [State.recorded_reg, effects_CW_CFG]
  exact (State.showService_reg _ _ ho (Word.field_lt _ 15 8)).trans (State.showService_reg _ _ ho (Word.field_lt _ 15 8))

theorem State.effects_keepAt (s : State) (m : Master) (v : Nat) (old w : Word) :
    ((s.effects 0x3d0000 [] old w).recorded m CW_CFG v).pair_.keepAt = (roleEffect 0x3d0000 [] old w s).pair_.keepAt := by
  obtain ⟨fw, hfw⟩ := State.recorded_eq (s.effects 0x3d0000 [] old w) m CW_CFG v
  rw [hfw, effects_CW_CFG]
  rfl

/-- Settles O55: the checks of each command are the clause's premises; a change of role keeps the enable and the next keepalive. -/
theorem pairRoles : Obligations.PairRoles := by
  unfold Obligations.PairRoles
  refine ⟨?effect, ?selftest, ?path, ?enable, ?disable, ?promote, ?drill, ?join⟩
  case effect =>
    intro s t reason up hon hpromote hreached hmay
    refine runs_engines (execPromoteEffect.eq_1 ..) rfl hon ?_
    simp only [State.promoteEffect, hpromote, hreached, not_true, if_false]
    refine if_pos ?_
    rcases hmay with ⟨rfl, h⟩ | ⟨rfl, h⟩
    · exact .inl ⟨rfl, h⟩
    · exact .inr ⟨Bool.false_ne_true, h⟩
  case selftest =>
    intro s d ok hon hdiverge hown t
    refine runs_engines (execSelftestResult.eq_1 ..) rfl hon ?_
    simp only [State.selftest, hdiverge, hown, Option.isSome_none, Bool.false_eq_true, if_false]
    rfl
  case path =>
    intro s path ok hpath hon hrole
    refine runs_engines (execPathCheck.eq_1 ..) (decide_eq_true hpath) hon ?_
    rw [State.pathCheck, if_neg (not_not_intro hrole)]
  case enable =>
    intro s m v hs hv hodd ht hen hsolo
    refine runs_write (execPairEnable.eq_1 ..) (by simp only [Instr.wf, hv, hodd, decide_true, Bool.and_self]) lookup_CW_CFG rfl (.inl rfl) ht ?_
    have hbit : Word.field (BitVec.ofNat 32 v) 0 0 = 1 := (Word.bit_ofNat hv).trans hodd
    have hold : (s.reg CW_CFG).field 0 0 = 0 := State.bit_clear hen
    have hstored := State.stored_canonical (m := m) (off := CW_CFG) (v := v) hs
    have hen' : (s.stored m CW_CFG v).get CW_CFG_PAIR_EN = 1 :=
      (State.stored_plain_field (f := ⟨0, 0, .rw, false, 0, 1⟩) hs lookup_CW_CFG rfl (by decide) (by decide)).trans hbit
    have hsolo' : (s.stored m CW_CFG v).role = roleSolo := (State.stored_plain_get lookup_CW_CFG rfl (by decide)).trans hsolo
    have htime : (s.stored m CW_CFG v).time = s.time := (s.stored_frame m CW_CFG v).time rfl
    have hreg {o : Nat} (ho : 0x3d0000 ≤ o) := (s.stored m CW_CFG v).effects_pair m v (s.reg CW_CFG) (BitVec.ofNat 32 v) ho
    have hpair := (s.stored m CW_CFG v).effects_keepAt m v (s.reg CW_CFG) (BitVec.ofNat 32 v)
    have heffect : roleEffect 0x3d0000 [] (s.reg CW_CFG) (BitVec.ofNat 32 v) (s.stored m CW_CFG v) = _ := (if_pos ⟨hold, hbit⟩).trans (if_pos hsolo')
    generalize s.stored m CW_CFG v = t at *
    obtain ⟨hrole, -, hcfg, hkeep⟩ := State.setRole_shows (s := { t with pair_ := { t.pair_ with keepAt := t.time.mono, healthAt := t.time.mono } })
      (State.canonical_of_regs hstored rfl rfl) (by decide : rolePrimary < 2) (by decide : sevNotice < 8)
    refine ⟨?_, ?_, ?_⟩
    · rw [State.flag, State.get_of_reg (f := CW_CFG_PAIR_EN) ((hreg (by decide)).trans ((congrArg (fun u => State.reg u CW_CFG) heffect).trans hcfg))]
      exact congrArg (· == 1) hen'
    · exact (State.get_of_reg (f := CW_STATUS_ROLE) ((hreg (by decide)).trans (congrArg (fun u => State.reg u CW_STATUS) heffect))).trans hrole
    · exact hpair.trans ((congrArg (fun u : State => u.pair_.keepAt) heffect).trans (hkeep.trans (congrArg TimeState.mono htime)))
  case disable =>
    intro s m v hs hv heven ht hen hprimary
    refine runs_write (execPairDisable.eq_1 ..) (by simp only [Instr.wf, hv, heven, decide_true, Bool.and_self]) lookup_CW_CFG rfl (.inl rfl) ht ?_
    have hbit : Word.field (BitVec.ofNat 32 v) 0 0 = 0 := (Word.bit_ofNat hv).trans heven
    have hold : (s.reg CW_CFG).field 0 0 = 1 := State.bit_set hen
    have hstored := State.stored_canonical (m := m) (off := CW_CFG) (v := v) hs
    have hen' : (s.stored m CW_CFG v).get CW_CFG_PAIR_EN = 0 :=
      (State.stored_plain_field (f := ⟨0, 0, .rw, false, 0, 1⟩) hs lookup_CW_CFG rfl (by decide) (by decide)).trans hbit
    have hprimary' : (s.stored m CW_CFG v).role = rolePrimary := (State.stored_plain_get lookup_CW_CFG rfl (by decide)).trans hprimary
    have hreg {o : Nat} (ho : 0x3d0000 ≤ o) := (s.stored m CW_CFG v).effects_pair m v (s.reg CW_CFG) (BitVec.ofNat 32 v) ho
    have heffect : roleEffect 0x3d0000 [] (s.reg CW_CFG) (BitVec.ofNat 32 v) (s.stored m CW_CFG v) = _ :=
      (if_neg (by simp [hold])).trans ((if_pos ⟨hold, hbit⟩).trans (if_pos hprimary'))
    generalize s.stored m CW_CFG v = t at *
    obtain ⟨hrole, hsync, hcfg, -⟩ := State.setRole_shows (State.canonical_put hstored CW_STATUS_SYNC syNone) (by decide : roleSolo < 2)
      (by decide : sevNotice < 8)
    refine ⟨?_, ?_, ?_⟩
    · rw [State.flag, State.get_of_reg (f := CW_CFG_PAIR_EN) ((hreg (by decide)).trans ((congrArg (fun u => State.reg u CW_CFG) heffect).trans
        (hcfg.trans (State.reg_put_other _ (by decide)))))]
      exact congrArg (· == 1) hen'
    · exact (State.get_of_reg (f := CW_STATUS_ROLE) ((hreg (by decide)).trans (congrArg (fun u => State.reg u CW_STATUS) heffect))).trans hrole
    · exact (State.get_of_reg (f := CW_STATUS_SYNC) ((hreg (by decide)).trans (congrArg (fun u => State.reg u CW_STATUS) heffect))).trans
        (hsync.trans (State.get_put_fit hstored rfl (by decide : syNone < 4)))
  case promote =>
    intro s h hsq hserve hrole
    refine runs_core (execPairPromote.eq_1 ..) (decide_eq_true hsq) (State.coreOn_serves hserve) ?_
    rw [State.command_runs hserve rfl rfl, if_pos hrole]
  case drill =>
    intro s h hsq hserve hsync hrole t t'
    refine runs_core (execPairDrill.eq_1 ..) (decide_eq_true hsq) (State.coreOn_serves hserve) ?_
    rw [State.command_runs hserve rfl rfl]
    simp only [State.drill, hsync, beq_self_eq_true, Bool.true_and]
    rw [if_neg (by simpa [or_iff_not_imp_left] using hrole)]
  case join =>
    intro s h role pairId ckpt len image hsq hserve hrole hid hmay before
    refine runs_core (execPairJoin.eq_1 ..) (decide_eq_true hsq) (State.coreOn_serves hserve) ?_
    rw [State.command_runs hserve (by rw [if_neg (by omega), if_neg hid]) rfl, State.pairJoin]
    simp only [hmay, not_true, if_false]
    rfl

end Sys2Proof.Machine
end

section
/-!
Firmware update and the relay (O56, O57).
-/

set_option Elab.async false

namespace Sys2Proof.Machine

/-! ### Firmware commands and what follows them (R381 to R386) -/

/-- The registers of the firmware's window that its commands change are among those that no completion writes. -/
theorem upperRegister_firmware : upperRegister FU_STATUS ∧ upperRegister (FU_VER 0) := by
  simp only [upperRegister, FU_STATUS, FU_VER]
  omega

/-- What a confirmed start shows, and what becomes of the stored configuration (R386). -/
theorem State.fwConfirm_shows {s : State} {h : CmdHeader} (hs : s.canonical = true) (hsq : h.sq < 16) (hst : s.fuState = fuProvisional) :
    let u := s.fwConfirm h
    u.fuState = fuRunning ∧ u.flag FU_STATUS_COPYING = true ∧ u.fw.stored = s.fw.storedNew.getD s.fw.stored ∧ u.fw.staged = none ∧
      u.word (FU_VER 0) = (if s.fuKind = 0 then s.word (FU_VER 1) else s.word (FU_VER 0)) := by
  intro u
  simp only [u, State.fwConfirm, hst, ne_eq, not_true_eq_false, if_false]
  have hcanon : (s.when (s.fuKind == 0) fun s' => s'.setWord (FU_VER 0) (s.word (FU_VER 1))).canonical = true := by
    cases s.fuKind == 0
    · exact hs
    · exact State.canonical_setWord hs _ _
  have hword : (s.when (s.fuKind == 0) fun s' => s'.setWord (FU_VER 0) (s.word (FU_VER 1))).word (FU_VER 0) =
      if s.fuKind = 0 then s.word (FU_VER 1) else s.word (FU_VER 0) := by
    by_cases hk : s.fuKind = 0
    · simp only [hk, State.when, BEq.rfl, if_true]
      exact (State.word_setWord_same (State.canonical_regs hs) _ _).trans (Nat.mod_eq_of_lt (s.word_lt _))
    · simp [State.when, hk]
  have hfw : (s.when (s.fuKind == 0) fun s' => s'.setWord (FU_VER 0) (s.word (FU_VER 1))).fw = s.fw := by
    cases s.fuKind == 0 <;> rfl
  generalize (s.when (s.fuKind == 0) fun s' => s'.setWord (FU_VER 0) (s.word (FU_VER 1))) = t at *
  have ht : ({ t with fw := { t.fw with stored := t.fw.storedNew.getD t.fw.stored, staged := none, oldBank := none } } : State).canonical = true :=
    State.canonical_of_regs hcanon rfl rfl
  have hregs : ({ t with fw := { t.fw with stored := t.fw.storedNew.getD t.fw.stored, staged := none, oldBank := none } } : State).word (FU_VER 0) =
      t.word (FU_VER 0) := rfl
  have hst : ({ t with fw := { t.fw with stored := t.fw.storedNew.getD t.fw.stored, staged := none, oldBank := none } } : State).fw =
      { s.fw with stored := s.fw.storedNew.getD s.fw.stored, staged := none, oldBank := none } := by
    rw [← hfw]
  generalize ({ t with fw := { t.fw with stored := t.fw.storedNew.getD t.fw.stored, staged := none, oldBank := none } } : State) = v at *
  have h1 := State.canonical_put ht FU_STATUS_STATE fuRunning
  have hreg {o : Nat} (ho : upperRegister o) :=
    ((v.put FU_STATUS_STATE fuRunning).put FU_STATUS_COPYING 1).finish_upperRegister ho hsq 0x62 stOk 0 (s.word (FU_VER 1)) 0
  have hfin := (((v.put FU_STATUS_STATE fuRunning).put FU_STATUS_COPYING 1).finish_frame h 0x62 stOk 0 (s.word (FU_VER 1)) 0).fw rfl
  obtain ⟨hstat, hver⟩ := upperRegister_firmware
  refine ⟨?_, ?_, ?_, ?_, ?_⟩
  · exact (State.get_of_reg (f := FU_STATUS_STATE) (hreg hstat)).trans
      ((State.get_put_beside h1 rfl _).trans (State.get_put_fit ht rfl (by decide)))
  · exact (State.flag_of_reg (f := FU_STATUS_COPYING) (hreg hstat)).trans (State.flag_put_one h1 rfl)
  · rw [hfin]
    exact congrArg FwState.stored hst
  · rw [hfin]
    exact congrArg FwState.staged hst
  · rw [State.word, hreg hver, State.reg_put_other _ (by decide), State.reg_put_other _ (by decide)]
    exact hregs.trans hword

/-- Settles O56: each clause's premises lead its command to the branch it names. -/
theorem firmwareCommands : Obligations.FirmwareCommands := by
  unfold Obligations.FirmwareCommands
  refine ⟨?stage, ?verified, ?copied, ?arm, ?kickoff, ?ended, ?confirm, ?copyDone, ?fallback, ?limit, ?refresh, ?refreshed⟩
  case stage =>
    intro s h kind flags i hsq hserve hkind hflags hi hst hver hcopy hrec run
    refine runs_core (execImageStage.eq_1 ..) (decide_eq_true hsq) (State.coreOn_serves hserve) ?_
    have hfield : (if 2 < kind ∨ (imgField i 0 4 = 0x49465a4b ∧ imgKind i ≠ kind) then some 24 else if 1 < flags then some 25 else none) = none := by
      rw [if_neg (by simp [hi]; omega), if_neg (by omega)]
    rw [State.command_runs hserve hfield rfl, State.imageStage, if_neg (by simp), if_neg (by omega), if_neg (by simp [hver, hcopy, hrec])]
  case verified =>
    intro s r hon hver hst hready t
    refine runs_core (execImageVerified.eq_1 ..) rfl hon ?_
    have hstate : ¬ fuArmed ≤ s.fuState := Nat.not_le.mpr hst
    cases hc : r.command with
    | none =>
      simp only [State.imageVerified, hver, hc, not_true_eq_false, if_false, if_neg hstate, t]
      cases s.imageFault r.image <;> rfl
    | some c =>
      obtain ⟨q, tag⟩ := c
      simp only [State.imageVerified, hver, hc, hready q tag hc, not_true_eq_false, if_false, if_neg hstate, t]
      cases s.imageFault r.image <;> rfl
  case copied =>
    intro s r hon hcopy hheld i t v
    refine runs_core (execImageCopyDone.eq_1 ..) rfl hon ?_
    simp only [State.imageCopied, hcopy]
    rw [if_neg (by simp [hheld])]
  case arm =>
    intro s h kick hsq hserve hst hcopy hlead
    refine runs_core (execFwArm.eq_1 ..) (decide_eq_true hsq) (State.coreOn_serves hserve) ?_
    rw [State.command_runs hserve rfl rfl, State.fwArm, if_neg (by omega), if_neg (by simp [hcopy]), if_neg (by simp [hlead])]
  case kickoff =>
    intro s i hon hst hkick htime hhold hstaged
    refine runs_engines (execKickoff.eq_1 ..) rfl hon ?_
    rw [State.kickOff, if_neg (by omega), if_neg (by simp [htime, hhold])]
    simp only [hstaged]
    by_cases hk : imgKind i = 0
    · cases hj : s.host.started.isEmpty <;> simp [hk]
    · simp [hk]
  case ended =>
    intro s hon hsw
    exact runs_core (execActivationEnd.eq_1 ..) rfl hon (if_pos hsw)
  case confirm =>
    intro s h hs hsq hserve hst
    refine runs_core (execFwConfirm.eq_1 ..) (decide_eq_true hsq) (State.coreOn_serves hserve) ?_
    rw [State.command_runs hserve rfl rfl]
    exact State.fwConfirm_shows hs hsq hst
  case copyDone =>
    intro s hs hon hcopy
    refine runs_core (execConfigCopyDone.eq_1 ..) rfl hon ?_
    rw [State.configCopied, if_neg (by simp [hcopy])]
    by_cases hst : s.fuState = fuRunning
    · rw [if_pos hst, if_pos hst]
      exact ⟨State.flag_put_zero (State.canonical_of_regs hs rfl rfl) rfl, rfl, rfl⟩
    · rw [if_neg hst, if_neg hst]
      exact ⟨State.flag_put_zero hs rfl, rfl, rfl⟩
  case fallback =>
    intro s h hsq hserve hst
    refine runs_core (execFwFallback.eq_1 ..) (decide_eq_true hsq) (State.coreOn_serves hserve) ?_
    rw [State.command_runs hserve rfl rfl, State.fwFallback, if_neg (by simp [hst])]
  case limit =>
    intro s t hon hends hst ht hserv
    refine runs_core (execStartLimitExpire.eq_1 ..) rfl hon ?_
    simp only [State.startLimit, hends]
    rw [if_neg (by simp [hst, hserv, Nat.not_lt.mpr ht])]
  case refresh =>
    intro s p hon hidle hp
    refine runs_core (execNandRefresh.eq_1 ..) rfl hon ?_
    rw [State.refresh, if_neg (by simp [hidle]), hp]
  case refreshed =>
    intro s p blocks hon hp
    refine runs_core (execRefreshPassed.eq_1 ..) rfl hon ?_
    simp only [State.refreshEnd, hp]

/-! ### The relay (R387 to R389) -/

/-- A sound packet that is admitted for its direction runs. -/
theorem State.relayRx_runs {s : State} {r : RelayHeader} {fromSender : Bool} (hcrc : r.crcOk = true) (hformat : r.formatOk = true)
    (h : (if fromSender then s.flag FU_RELAY_CFG_ACCEPT && r.fromUpstream else !r.fromUpstream) = true) (run : State → State) :
    s.relayRx false r fromSender run = run s := by
  simp only [State.relayRx, Bool.false_or, h, hcrc, hformat, not_true_eq_false, or_self, if_false]

/-- Chunks sent again take no time. -/
theorem State.resend_time (s : State) (x : RelaySend) (due : List (Nat × Nat)) :
    (due.foldl (fun s c => (s.relaySendChunk x c.1).count (fuCnt 1)) s).time = s.time := by
  have hframe : Frame 0x32001e1 s (due.foldl (fun s c => (s.relaySendChunk x c.1).count (fuCnt 1)) s) :=
    (Frame.refl _ s).foldl fun t c ht => (ht.step (t.relaySendChunk_frame x c.1) rfl).step (State.count_frame _ _) rfl
  exact hframe.time rfl

/-- Settles O57: a packet's direction admits it; each timer's premises lead to the branch that acts. -/
theorem relay : Obligations.Relay := by
  unfold Obligations.Relay
  refine ⟨?packet, ?partner, ?ack, ?resend, ?giveUp⟩
  case packet =>
    intro s r hon hcrc hformat
    refine ⟨fun haccept hup => ?_, fun hdown => ?_⟩
    · have hfrom : (if true = true then s.flag FU_RELAY_CFG_ACCEPT && r.fromUpstream else !r.fromUpstream) = true := by simp [haccept, hup]
      refine ⟨fun _ _ _ _ => ?_, fun _ hlen => ?_, fun _ => ?_, fun reason hreason => ?_⟩
      · exact runs_engines (execRelayOfferIn.eq_1 ..) rfl hon (State.relayRx_runs hcrc hformat hfrom _)
      · exact runs_engines (execRelayChunkIn.eq_1 ..) (decide_eq_true hlen) hon (State.relayRx_runs hcrc hformat hfrom _)
      · exact runs_engines (execRelayArmRx.eq_1 ..) rfl hon (State.relayRx_runs hcrc hformat hfrom _)
      · refine runs_engines (execRelayAbortRx.eq_1 ..) rfl hon ?_
        rw [bne_iff_ne.mpr hreason]
        exact State.relayRx_runs hcrc hformat hfrom _
    · have hfrom : (if false = true then s.flag FU_RELAY_CFG_ACCEPT && r.fromUpstream else !r.fromUpstream) = true := by simp [hdown]
      refine ⟨fun _ _ => ?_, fun _ => ?_, ?_⟩
      · exact runs_engines (execRelayAckRx.eq_1 ..) rfl hon (State.relayRx_runs hcrc hformat hfrom _)
      · exact runs_engines (execRelayResultRx.eq_1 ..) rfl hon (State.relayRx_runs hcrc hformat hfrom _)
      · exact runs_engines (execRelayAbortRx.eq_1 ..) rfl hon (State.relayRx_runs hcrc hformat hfrom _)
  case partner =>
    intro s c r b hon hheard
    exact runs_engines (execCwRelayRx.eq_1 ..) rfl hon (State.cwRx_heard hheard _)
  case ack =>
    intro s x hon hx hnew hlate
    refine runs_engines (execRelayAckTimer.eq_1 ..) rfl hon ?_
    simp only [State.ackTimer, hx]
    rw [if_neg (by simp [hnew, Nat.not_lt.mpr hlate])]
  case resend =>
    intro s x hon hx due hdue
    refine runs_engines (execRelayRetransmit.eq_1 ..) rfl hon ?_
    simp only [State.retransmit, hx, List.foldl_cons, List.foldl_nil]
    rw [if_neg (by simpa [due] using hdue), State.resend_time]
  case giveUp =>
    intro s x hon hx hsends hver hlate
    refine runs_engines (execRelayGiveUp.eq_1 ..) rfl hon ?_
    simp only [State.giveUp, hx]
    rw [if_pos ⟨decide_eq_true hlate, by simp [hver]⟩]
    have hfw := ((State.relayOut_frame { s with fw := { s.fw with receive := none } } x.causeway true 5 x.session 0
      (beBytes 1 2 ++ beBytes 7 0)).step (State.count_frame _ (fuCnt 3)) rfl).fw rfl
    have hnone : (State.count (State.relayOut { s with fw := { s.fw with receive := none } } x.causeway true 5 x.session 0
      (beBytes 1 2 ++ beBytes 7 0)) (fuCnt 3)).fw.sends = [] := by
      rw [hfw]
      exact hsends
    rw [hnone, List.foldl_nil]

end Sys2Proof.Machine
end

section
/-!
Self-tests, supplies and start-up (O58, O59, O60).
-/

set_option Elab.async false

namespace Sys2Proof.Machine

/-! ### Self-tests, scrubs, eye margins and the return capsule -/

/-- Settles O58: each effect is the operation its section names. -/
theorem selfTests : Obligations.SelfTests := by
  unfold Obligations.SelfTests
  refine ⟨?test, ?scrub, ?eye, ?capsule⟩
  case test =>
    intro s e pass he hon t
    exact runs_engines (execKatRun.eq_1 ..) (decide_eq_true he) hon rfl
  case scrub =>
    intro s mram corrected bad hon hwords t t'
    refine runs_engines (execScrubPass.eq_1 ..) ?_ hon rfl
    refine List.all_eq_true.mpr fun w hw => ?_
    obtain ⟨halign, hside⟩ := hwords w hw
    have hside' : decide (0x100000000000 ≤ w) = mram := by
      rw [Bool.eq_iff_iff, decide_eq_true_eq]
      exact hside.symm
    simp only [hside', halign, BEq.rfl, Bool.and_self]
  case eye =>
    intro s l eye hs hl hon heye
    exact runs_engines (execEyeMeasure.eq_1 ..) (decide_eq_true hl) hon ⟨State.get_put_fit hs rfl heye, rfl⟩
  case capsule =>
    intro s h hsq hserve hcapsule hjobs
    refine runs_core (execReturnCapsule.eq_1 ..) (decide_eq_true hsq) (State.coreOn_serves hserve) ?_
    simp only [if_true]
    rw [State.command_runs hserve rfl rfl, State.returnCapsule, if_neg (by simp [hcapsule]), if_neg (by simp [hjobs])]

/-! ### Supplies (R405 to R408) -/

/-- The first register of the host interface: no completion writes one below. -/
abbrev hiBase : Nat := 0x390000

theorem State.endJob_below (s : State) (j : Job) (status : Nat) : SameBelow hiBase s (s.endJob j status) := by
  have hcomplete (t : State) (c : Completion) : SameBelow hiBase t (t.complete c) := fun _ ho => t.complete_reg_below ho c
  have hbusy (t : State) (k : Nat) : SameBelow hiBase t (t.showBusy k) :=
    (SameBelow.refl _ t).put _ (by simp only [hiBase, KS_SLOT_STAT_BUSY, KS_SLOT_STAT]; omega)
  unfold State.endJob
  extract_lets host t u
  have ht : SameBelow hiBase s t := .of_regs rfl
  refine SameBelow.trans ?_ (hcomplete u _)
  simp only [u]
  split
  · exact ht.trans (hbusy t _)
  · exact ht

theorem State.notCommitted_below (s : State) : SameBelow hiBase s s.notCommitted :=
  SameBelow.foldl (fun t j => t.endJob_below j _) _ s

/-- What a trip shows: HOLDUP in both registers, and no heartbeat. -/
theorem State.trip_shows {s : State} (hs : s.canonical = true) (hon : s.coreOn = true) (hhold : s.holdup = false) (monitor : Bool) :
    (s.trip monitor).get PW_STATUS_STATE = 1 ∧ (s.trip monitor).flag ME_G_STATUS_HOLDUP = true ∧ (s.trip monitor).host.hbDue = none := by
  unfold State.trip
  rw [if_neg (by simp [hon, hhold])]
  extract_lets src s1 s2 low s3 s4 meter host s5 s6
  have h1 : s1.canonical = true := (s.outageStart_frame src).canon hs
  have h2 : s2.canonical = true := by
    simp only [s2, State.when]
    split
    · exact (State.snapshot_frame _ 1).canon ((State.abandonSaves_frame _).canon (s1.cutBlocks_frame.canon h1))
    · exact h1
  clear_value s2
  have hstate := State.canonical_put h2 PW_STATUS_STATE 1
  have hsource := State.canonical_put hstate PW_STATUS_SOURCE src
  have hlow : low.apart PW_STATUS_STATE = true := by
    simp only [low]
    split
    · rfl
    · split <;> rfl
  have h3 : s3.canonical = true := (State.draw_frame _).canon (State.canonical_put hsource low 1)
  have hget3 : s3.get PW_STATUS_STATE = 1 := (State.get_put_beside hsource hlow 1).trans
    ((State.get_put_beside hstate rfl src).trans (State.get_put_fit h2 rfl (by decide)))
  clear_value s3
  have hput : (s3.put ME_G_STATUS_HOLDUP 1).canonical = true := State.canonical_put h3 _ _
  have hbelow := (s3.put ME_G_STATUS_HOLDUP 1).notCommitted_below
  have h5 : s5.canonical = true := State.canonical_of_regs ((State.notCommitted_frame _).canon hput) rfl rfl
  have hget5 : s5.get PW_STATUS_STATE = 1 :=
    (hbelow.get (f := PW_STATUS_STATE) (by decide)).trans ((State.get_put_other _ (by decide)).trans hget3)
  have hflag5 : s5.flag ME_G_STATUS_HOLDUP = true := (hbelow.flag (f := ME_G_STATUS_HOLDUP) (by decide)).trans (State.flag_put_one h3 rfl)
  have hbeat5 : s5.host.hbDue = none := rfl
  clear_value s5
  have hframe : Frame 0x201181 (s5.count pwCnt) s6.peatHoldup.modeConds :=
    ((Frame.step (Frame.refl _ _) (State.raise_frame _ EV_PW_HOLDUP sevMajor src 0 0) rfl).step (State.peatHoldup_frame _) rfl).step
      (State.modeConds_frame _) rfl
  have hlater : SameBelow plBase (s5.count pwCnt) s6.peatHoldup.modeConds :=
    ((State.raise_below _ _ _ _ _ (by decide)).trans (.of_frame (State.peatHoldup_frame _) rfl)).trans (.of_frame (State.modeConds_frame _) rfl)
  refine ⟨?_, ?_, ?_⟩
  · exact (hlater.get (f := PW_STATUS_STATE) (by decide)).trans ((State.count_get_beside h5 (by decide) (.inr rfl) (by decide)).trans hget5)
  · refine (hlater.flag (f := ME_G_STATUS_HOLDUP) (by decide)).trans ?_
    rw [State.flag, State.count_get_beside h5 (c := pwCnt) (by decide) (.inl (by decide)) (by decide)]
    exact hflag5
  · rw [hframe.host rfl, (s5.count_frame pwCnt).host rfl]
    exact hbeat5

/-- The outage counted has no instant left at which it began. -/
theorem State.countOutage_cutAt (s : State) : s.countOutage.meter.cutAt = none := by
  unfold State.countOutage
  split
  next h => exact h
  next c _ =>
    extract_lets meter t
    have ht : t.meter.cutAt = none := rfl
    clear_value t
    refine State.forEach_induction (P := fun t => t.meter.cutAt = none) ht fun n _ t ht => ?_
    split
    · exact ht
    · exact ht

/-- What a recovery shows. -/
theorem State.recover_shows {s : State} (hs : s.canonical = true) (hon : s.coreOn = true) (hhold : s.holdup = true) :
    s.recover.get PW_STATUS_STATE = 0 ∧ s.recover.flag PW_STATUS_PFAIL = false ∧ s.recover.flag PW_STATUS_VIN_LOW = false ∧
    s.recover.flag PW_STATUS_VAUX_LOW = false ∧ s.recover.flag ME_G_STATUS_HOLDUP = false ∧ s.recover.meter.cutAt = none := by
  unfold State.recover
  rw [if_neg (by simp [hon, hhold])]
  extract_lets s1 s2 due host s3
  have hsave : (s.outageEnd.countOutage).nextSave.canonical = true :=
    (State.nextSave_frame _).canon ((State.countOutage_frame _).canon (s.outageEnd_frame.canon hs))
  have h1 : s1.canonical = true := State.canonical_put hsave _ _
  have hhold1 : s1.flag ME_G_STATUS_HOLDUP = false := State.flag_put_zero hsave rfl
  have hcut1 : s1.meter.cutAt = none := s.outageEnd.countOutage_cutAt
  clear_value s1
  have ha := State.canonical_put h1 PW_STATUS_STATE 0
  have hb := State.canonical_put ha PW_STATUS_PFAIL 0
  have hc := State.canonical_put hb PW_STATUS_VIN_LOW 0
  have h3 : SameBelow plBase s2 s3 := .of_regs rfl
  have hcut3 : s3.meter.cutAt = none := hcut1
  clear_value s3
  have hlater : SameBelow plBase s2 (s3.raise EV_PW_HOLDUP_END sevNotice (s3.get PW_STATUS_SOURCE)).modeConds :=
    h3.trans ((s3.raise_below EV_PW_HOLDUP_END (s3.get PW_STATUS_SOURCE) 0 0 (by decide)).trans (.of_frame (State.modeConds_frame _) rfl))
  refine ⟨(hlater.get (by decide)).trans ?_, (hlater.flag (by decide)).trans ?_, (hlater.flag (by decide)).trans ?_,
    (hlater.flag (by decide)).trans ?_, (hlater.flag (by decide)).trans ?_, ?_⟩
  · exact (State.get_put_beside hc rfl 0).trans ((State.get_put_beside hb rfl 0).trans
      ((State.get_put_beside ha rfl 0).trans (State.get_put_fit h1 rfl (by decide))))
  · exact (State.flag_put_beside hc rfl 0).trans ((State.flag_put_beside hb rfl 0).trans (State.flag_put_zero ha rfl))
  · exact (State.flag_put_beside hc rfl 0).trans (State.flag_put_zero hb rfl)
  · exact State.flag_put_zero hc rfl
  · exact (State.flag_put_other _ (by decide)).trans ((State.flag_put_other _ (by decide)).trans ((State.flag_put_other _ (by decide)).trans
      ((State.flag_put_other _ (by decide)).trans hhold1)))
  · have hframe : Frame 0x201181 s3 (s3.raise EV_PW_HOLDUP_END sevNotice (s3.get PW_STATUS_SOURCE)).modeConds :=
      ((Frame.refl _ s3).step (State.raise_frame s3 EV_PW_HOLDUP_END sevNotice (s3.get PW_STATUS_SOURCE) 0 0) rfl).step (State.modeConds_frame _) rfl
    rw [hframe.meter rfl]
    exact hcut3

/-- The supply monitor's voltage shown, with its bit; the bit's rise is an event, which leaves both. -/
theorem State.vbatLow_shows {s : State} (hs : s.canonical = true) (mv : Nat) :
    (s.vbatLow mv).get PW_VBAT_VBAT = min mv 65535 ∧ (s.vbatLow mv).flag PW_STATUS_VBAT_LOW = decide (mv < 2500) ∧
    (mv < 2500 → s.flag PW_STATUS_VBAT_LOW = false →
      s.vbatLow mv = ((s.put PW_VBAT_VBAT (min mv 65535)).put PW_STATUS_VBAT_LOW 1).raise EV_PW_VBAT_LOW sevWarning) := by
  have hwas : (s.put PW_VBAT_VBAT (min mv 65535)).flag PW_STATUS_VBAT_LOW = s.flag PW_STATUS_VBAT_LOW :=
    State.flag_put_other _ (by decide)
  unfold State.vbatLow
  extract_lets s1 low was
  have h1 : s1.canonical = true := State.canonical_put hs _ _
  have hget1 : s1.get PW_VBAT_VBAT = min mv 65535 :=
    State.get_put_fit hs rfl (Nat.lt_of_le_of_lt (Nat.min_le_right _ _) (by decide))
  have hlater : SameBelow plBase (s1.put PW_STATUS_VBAT_LOW (bit low))
      ((s1.put PW_STATUS_VBAT_LOW (bit low)).when (low && !was) fun s => s.raise EV_PW_VBAT_LOW sevWarning) :=
    (SameBelow.refl _ _).when fun _ => State.raise_below _ EV_PW_VBAT_LOW 0 0 0 (by decide)
  refine ⟨?_, ?_, fun hmv hflag => ?_⟩
  · exact (hlater.get (by decide)).trans ((State.get_put_other _ (by decide)).trans hget1)
  · exact (hlater.flag (by decide)).trans (State.flag_put h1 rfl low)
  · have hlow : low = true := decide_eq_true hmv
    have hnot : was = false := hwas.trans hflag
    rw [hlow, hnot]
    rfl

/-- Settles O59: a trip and a recovery by what they show; the stop of the core domain is a trip, which keeps what the battery supplies. -/
theorem supplyEvents : Obligations.SupplyEvents := by
  unfold Obligations.SupplyEvents
  refine ⟨?on, ?return_, ?trip, ?recover, ?stop, ?loss, ?low, ?insert⟩
  case on => exact fun s vin hphase => runs_checked (execBatteryPowerOn.eq_1 ..) rfl (if_neg (not_not_intro hphase))
  case return_ => exact fun s hphase => runs_checked (execVinReturn.eq_1 ..) rfl (if_neg (not_not_intro hphase))
  case trip =>
    exact fun s monitor hs hon hhold => runs_checked (execSupplyTrip.eq_1 ..) rfl ⟨rfl, State.trip_shows hs hon hhold monitor⟩
  case recover =>
    exact fun s hs hon hhold => runs_checked (execSupplyRecover.eq_1 ..) rfl (State.recover_shows hs hon hhold)
  case stop =>
    intro s hbattery hunpowered
    refine runs_checked (execCoreDomainStop.eq_1 ..) rfl ?_
    rw [State.coreStop, if_neg (by simp [hbattery, hunpowered])]
    simp only
    have htrip : (s.trip true).power = s.power := (s.trip_frame true).power rfl
    have hstart : (if (s.trip true).meter.inOutage then s.trip true else (s.trip true).outageStart 1).power = s.power := by
      split
      · exact htrip
      · exact ((State.outageStart_frame _ 1).power rfl).trans htrip
    generalize (if (s.trip true).meter.inOutage then s.trip true else (s.trip true).outageStart 1) = t at *
    exact ⟨trivial, congrArg PowerState.classP hstart, List.mem_append_right _ (List.mem_singleton.mpr rfl)⟩
  case loss => exact fun s hphase => runs_checked (execBatteryLoss.eq_1 ..) rfl (if_pos hphase)
  case low => exact fun s mv hs hon => runs_core (execVbatLow.eq_1 ..) rfl hon (State.vbatLow_shows hs mv)
  case insert => exact fun s hs hon => runs_core (execVbatInsert.eq_1 ..) rfl hon ⟨State.flag_put_zero hs rfl, rfl⟩

/-! ### Start-up (R34, R409 to R412) -/

/-- Settles O60: each sequence from its phase is the one the clause writes out. -/
theorem startUp : Obligations.StartUp := by
  unfold Obligations.StartUp
  refine ⟨?boot, ?testmode, ?load, ?pin⟩
  case boot =>
    intro s a b failed ha hb hphase hdone htest t t'
    refine runs_checked (execBootUp.eq_1 ..) (by simp [Instr.wf, ha, hb]) ?_
    rw [State.bootUp, if_neg (by rcases hphase with h | h <;> simp [h, hdone, htest])]
    simp only [Bool.false_eq_true, if_false, show bit false = 0 from rfl, t, t']
  case testmode =>
    intro s a b failed ha hb hphase hdone htest
    refine runs_checked (execBootUp.eq_1 ..) (by simp [Instr.wf, ha, hb]) ?_
    rw [State.bootUp, if_neg (by rcases hphase with h | h <;> simp [h, hdone, htest])]
    have hreset (u : State) (v : Nat) : Frame 0x181 u
        (((u.lastReset v).put GL_STATUS_TESTMODE_HIGH (bit true)).trimCheck.raise EV_GL_TESTMODE_PIN sevCritical) :=
      ((((Frame.refl _ u).step (u.lastReset_frame v) rfl).step (State.put_frame _ _ _) rfl).step (State.trimCheck_frame _) rfl).step
        (State.raise_frame _ _ _ _ _ _) rfl
    have hframe := hreset { s with power := { s.power with phase := .booting, testmode := true, classP := false } } (if s.power.classP then 1 else 2)
    have hpower := hframe.power rfl
    simp only [if_true]
    exact ⟨congrArg PowerState.phase hpower, congrArg PowerState.testmode hpower, hframe.mem rfl, hframe.keys rfl⟩
  case load =>
    intro s writes tables hphase hload c t v w
    refine runs_core (execConfigLoad.eq_1 ..) rfl (by simp [State.coreOn, hphase]) ?_
    rw [State.configLoad, if_neg (by simp [hphase, hload])]
    rfl
  case pin =>
    intro s hon
    exact runs_checked (execRstNAssert.eq_1 ..) rfl (if_neg (by simp [hon]))

end Sys2Proof.Machine
end

section
/-!
The operating point, temperature and class W resets (O19).
-/

set_option Elab.async false

namespace Sys2Proof.Machine

/-! ### What cutting the blocks at a reset writes (R413) -/

section Booking

variable (s : State)

theorem State.countN_below {B : Nat} {c : Cnt} (n : Nat) (h : B ≤ c.off) (h' : B ≤ c.sat.off) (hB : B ≤ plBase) :
    SameBelow B s (s.countN c n) := by
  unfold State.countN
  extract_lets v
  exact .ite (fun _ => .refl _ s) fun _ => .ite (fun _ => (SameBelow.refl _ s).setWord _ h) fun _ =>
    (((SameBelow.refl _ s).setWord _ h).put _ h').trans ((State.log_below _ _ _ _ _ (by decide)).weaken hB)

theorem State.raise_belowMe {sev : Nat} (code cause inst data : Nat) (h : sev < 8) : SameBelow meBase s (s.raise code sev cause inst data) :=
  (s.raise_below code cause inst data h).weaken (by decide)

theorem State.countN_meCnt (n i k : Nat) : SameBelow meBase s (s.countN (meCnt n i) k) :=
  s.countN_below k (by simp only [meCnt, ME_CNT, meBase]; omega) (by simp only [meCnt, ME_CNT_SAT, meBase]; omega) (by decide)

theorem State.count_meCnt (n i : Nat) : SameBelow meBase s (s.count (meCnt n i)) :=
  s.count_below (by simp only [meCnt, ME_CNT, meBase]; omega) (by simp only [meCnt, ME_CNT_SAT, meBase]; omega) (by decide)

theorem State.inRecords_below (n : Nat) (b : MeterBlock) (f : SpanAcc → SpanAcc) : SameBelow meBase s (s.inRecords n b f) :=
  .of_frame (s.inRecords_frame n b f) rfl

theorem State.addEnergy_below (n i e : Nat) {lo hi : Nat} (hlo : meBase ≤ lo) (hhi : meBase ≤ hi) :
    SameBelow meBase s (s.addEnergy n lo hi i e) := by
  unfold State.addEnergy
  extract_lets m v t u
  exact (((SameBelow.refl _ s).setPair _ hlo hhi).trans (t.setMeter_below _ n _)).when fun _ => State.raise_belowMe _ _ _ _ _ (by decide)

theorem State.addTest_below (n i e : Nat) {lo hi : Nat} (hlo : meBase ≤ lo) (hhi : meBase ≤ hi) :
    SameBelow meBase s (s.addTest n lo hi i e) := by
  unfold State.addTest
  extract_lets v t u
  exact (((SameBelow.refl _ s).setPair _ hlo hhi).trans (t.setMeter_below _ n _)).when fun _ => State.raise_belowMe _ _ _ _ _ (by decide)

theorem meBase_le_status (n : Nat) : meBase ≤ ME_STATUS n := by
  simp only [ME_STATUS, meBase]
  omega

theorem State.judgeReverse_below (n : Nat) (r : BlockResult) : SameBelow meBase s (s.judgeReverse n r) := by
  have hturn {t : State} (ht : SameBelow meBase s t) (v code sev : Nat) (hsev : sev < 8) :
      SameBelow meBase s ((t.put (ME_STATUS_REVERSE n) v).raise code sev n n).laneConds :=
    ((ht.put _ (meBase_le_status n)).trans (State.raise_belowMe _ _ _ _ _ hsev)).trans (.of_frame (State.laneConds_frame _) rfl)
  unfold State.judgeReverse
  extract_lets w cnt on off m p k k'
  refine .ite (fun _ => ?_) fun _ => ?_
  · exact .ite (fun _ => hturn (s.setMeter_below _ n _) _ _ _ (by decide)) fun _ => s.setMeter_below _ n _
  · exact .ite (fun _ => hturn (s.setMeter_below _ n _) _ _ _ (by decide)) fun _ => s.setMeter_below _ n _

theorem State.showBlock_below (n : Nat) (r : BlockResult) : SameBelow meBase s (s.showBlock n r) := by
  unfold State.showBlock
  extract_lets t u level
  have ht : SameBelow meBase s t := ((SameBelow.refl _ s).setWord _ (by simp only [ME_P, meBase]; omega)).setWord _ (by simp only [ME_Q, meBase]; omega)
  have hu : SameBelow meBase t u :=
    SameBelow.forEach (fun q v => (SameBelow.refl _ v).setWord _ (by simp only [ME_RMS, meBase]; omega)) t
  exact (ht.trans hu).trans (u.setMeter_below _ n _)

theorem State.addPulses_below (p e : Nat) (b : MeterBlock) : SameBelow meBase s (s.addPulses p e b) := by
  have hstatus : meBase ≤ PO_STATUS p := by simp only [PO_STATUS, meBase]; omega
  unfold State.addPulses
  extract_lets st thr acc want room k len base due meter t u
  have hu : SameBelow meBase s u := (SameBelow.of_regs (t := t) rfl).put _ hstatus
  exact .ite (fun _ => hu) fun _ => (hu.put _ hstatus).trans (State.raise_belowMe _ _ _ _ _ (by decide))

theorem State.pulses_below (n : Nat) (r : BlockResult) (b : MeterBlock) : SameBelow meBase s (s.pulses n r b) :=
  SameBelow.forEach (fun p t => .ite (fun _ => t.addPulses_below p _ b) fun _ => .refl _ t) s

theorem State.bookBlock_below (n : Nat) (b : MeterBlock) (extra : Nat) : SameBelow meBase s (s.bookBlock n b extra) := by
  have hstat := meBase_le_status n
  unfold State.bookBlock
  extract_lets t flags was note u r x keep v1 v2 v3 v4 v5 v6 v7 v8 v9 v10
  have hnote (t : State) (blocks creep covered : Nat) : SameBelow meBase t (note t blocks creep covered) := t.inRecords_below n b _
  have hkeep (t : State) : SameBelow meBase t (keep t) := t.setMeter_below _ n _
  have hu : SameBelow meBase s u := (s.inRecords_below n b _).trans (t.setMeter_below _ n _)
  clear_value u keep note
  have h2 : SameBelow meBase s v2 := (hu.put _ hstat).trans (State.countN_meCnt _ n 1 _)
  refine .ite (fun _ => ?_) fun _ => .ite (fun _ => ?_) fun _ => ?_
  · have h1 : SameBelow meBase s v1 :=
      ((hu.trans (State.countN_meCnt _ n 1 _)).put _ hstat).trans (State.raise_belowMe _ _ _ _ _ (by decide))
    exact ((h1.trans (hnote v1 0 0 0)).put _ hstat).trans (hkeep _)
  · have h3 : SameBelow meBase s v3 := ((h2.trans (v2.count_meCnt n 0)).put _ hstat).put _ hstat
    exact (h3.trans (hnote v3 0 1 b.covered)).trans (hkeep _)
  · have hreg {o : Nat} (ho : meBase ≤ o) : meBase ≤ o + 0x100 * n := Nat.le_trans ho (Nat.le_add_right _ _)
    have h4 : SameBelow meBase s v4 := (h2.put _ hstat).put _ hstat
    have h5 : SameBelow meBase s v5 := h4.trans <|
      .ite (fun _ => v4.addEnergy_below n 0 _ (hreg (by decide)) (hreg (by decide))) fun _ =>
        .ite (fun _ => v4.addEnergy_below n 1 _ (hreg (by decide)) (hreg (by decide))) fun _ => .refl _ v4
    have h6 : SameBelow meBase s v6 := h5.trans <|
      .ite (fun _ => v5.addEnergy_below n 2 _ (hreg (by decide)) (hreg (by decide))) fun _ =>
        .ite (fun _ => v5.addEnergy_below n 3 _ (hreg (by decide)) (hreg (by decide))) fun _ => .refl _ v5
    have h7 : SameBelow meBase s v7 := h6.put _ hstat
    have h8 : SameBelow meBase s v8 := h7.when fun _ =>
      .ite (fun _ => v7.addTest_below n 0 _ (hreg (by decide)) (hreg (by decide))) fun _ =>
        v7.addTest_below n 1 _ (hreg (by decide)) (hreg (by decide))
    have h9 : SameBelow meBase s v9 := (h8.trans (v8.showBlock_below n r)).trans (State.judgeReverse_below _ n r)
    have h10 : SameBelow meBase s v10 := h9.trans (v9.setMeter_below _ n _)
    exact ((h10.trans (v10.pulses_below n r b)).trans (hnote _ 1 0 b.covered)).trans (hkeep _)

/-- The check of the two results counts and reports. -/
theorem State.dualCheck_below (n : Nat) (b : MeterBlock) (mismatch again : Bool) : SameBelow meBase s (s.dualCheck n b mismatch again).1 := by
  unfold State.dualCheck
  split
  · extract_lets t
    have ht : SameBelow meBase s t := s.count_meGCnt 3
    split
    · exact (ht.trans (t.count_meCnt n 3)).trans (State.raise_belowMe _ _ _ _ _ (by decide))
    · exact ht
  · exact .refl _ s

theorem State.toRecovery_below : SameBelow meBase s s.toRecovery := by
  unfold State.toRecovery
  refine .ite (fun _ => .refl _ s) fun _ => ?_
  extract_lets old t
  have ht : SameBelow meBase s t := (SameBelow.refl _ s).put _ (by decide)
  exact ((ht.trans ((t.auditAdd_below _).weaken (by decide))).trans (State.raise_belowMe _ _ _ _ _ (by decide))).trans
    (.of_frame (State.modeConds_frame _) rfl)

theorem State.recoverLedger_below : SameBelow meBase s s.recoverLedger :=
  .ite (fun _ => .refl _ s) fun _ => s.toRecovery_below.trans (.of_frame (State.modeCloses_frame _) rfl)

theorem State.bookNext_below (n : Nat) (mismatch again : Bool) : SameBelow meBase s (s.bookNext n mismatch again) := by
  unfold State.bookNext
  split
  · exact s.tryClose_below n
  · next b rest _ =>
    extract_lets t
    have ht : SameBelow meBase s t := State.closeDue_below n _ _ s
    have hdual := t.dualCheck_below n b mismatch again
    split
    next u extra heq =>
    rw [heq] at hdual
    extract_lets u1 u2 u3 u4 u5
    have h1 : SameBelow meBase s u1 := (ht.trans hdual).trans (.ite (fun _ => .refl _ u) fun _ => u.recoverLedger_below)
    have h2 : SameBelow meBase s u2 := (h1.trans (u1.setMeter_below _ n _)).trans ((State.deviceMet_below _ 11 b.late).weaken (by decide))
    have h3 : SameBelow meBase s u3 := h2.trans (u2.bookBlock_below n b extra)
    have h4 : SameBelow meBase s u4 := (h3.trans (.of_frame (u3.noteBooked_frame n b.stop) rfl)).trans (State.digestItem_below _ _ _ _ _ _)
    have h5 : SameBelow meBase s u5 := h4.trans (State.digestItem_below _ _ _ _ _ _)
    exact h5.trans (u5.tryClose_below n)

theorem State.bookAll_below (n : Nat) : SameBelow meBase s (s.bookAll n) := SameBelow.foldl (fun t _ => t.bookNext_below n _ _) _ s

/-- Cutting the blocks at a reset books them: it writes registers of metering and above. -/
theorem State.cutBlocks_below : SameBelow meBase s s.cutBlocks := by
  refine SameBelow.forEach (fun n t => ?_) s
  extract_lets u
  have hu : SameBelow meBase t u := t.setMeter_below _ n _
  exact .ite (fun _ => (hu.trans (.of_frame (u.endBlock_frame n true) rfl)).trans (State.bookAll_below _ n)) fun _ => hu

end Booking

/-- A class W reset asked for: nothing of the operating point changes, and the supply's phase stays. -/
theorem State.requestWarm_shows {s : State} (hphase : s.power.phase = .running) (hpending : s.power.pendingReset = none) (cause : Nat) :
    (s.requestWarm cause).power.pendingReset = some .w ∧ (s.requestWarm cause).power.warmCause = cause ∧
    (s.requestWarm cause).power.phase = .running ∧ SameBelow meBase s (s.requestWarm cause) := by
  unfold State.requestWarm
  rw [if_neg (by simp [hphase, hpending])]
  extract_lets t power
  have hsave : Frame 0x800 s.cutBlocks (s.cutBlocks.abandonSaves.snapshot 2) :=
    (State.abandonSaves_frame _).step (State.snapshot_frame _ 2) rfl
  have ht : t.power = s.power ∧ SameBelow meBase s t := by
    simp only [t]
    split
    · exact ⟨rfl, .refl _ s⟩
    · exact ⟨(hsave.power rfl).trans (s.cutBlocks_frame.power rfl), s.cutBlocks_below.trans (.of_frame hsave rfl)⟩
  obtain ⟨hpower, hbelow⟩ := ht
  exact ⟨rfl, rfl, (congrArg PowerState.phase hpower).trans hphase, hbelow.trans (.of_regs rfl)⟩

/-! ### The operating point (R24, R25) -/

/-- The end of a switch with no command to complete: the target holds, and the sequence counts. -/
theorem State.switchEnd_shows {s : State} {t0 : Nat} (hs : s.canonical = true) (hstart : s.power.switchStart = some t0)
    (hjobs : s.host.jobs = []) :
    s.switchEnd.get OP_STATUS_POINT = s.get OP_STATUS_TARGET ∧ s.switchEnd.flag OP_STATUS_SWITCHING = false ∧
    s.switchEnd.power.switchStart = none ∧ s.switchEnd.word OP_SWITCH_SEQ = (s.word OP_SWITCH_SEQ + 1) % 2 ^ 32 := by
  unfold State.switchEnd
  split
  next h => exact absurd (hstart.symm.trans h) (by simp)
  next start _ =>
  extract_lets t u v w x power y z
  have ht : t.canonical = true := State.canonical_put hs _ _
  have hu : u.canonical = true := State.canonical_put ht _ _
  have hpoint : u.get OP_STATUS_POINT = s.get OP_STATUS_TARGET :=
    (State.get_put_beside ht rfl 0).trans (State.get_put_fit hs rfl (Word.field_lt _ _ _))
  have hswitching : u.flag OP_STATUS_SWITCHING = false := State.flag_put_zero ht rfl
  have hseq : v.word OP_SWITCH_SEQ = (s.word OP_SWITCH_SEQ + 1) % 2 ^ 32 := by
    refine (State.word_bump_whole hu OP_SWITCH_SEQ).trans ?_
    rw [State.word_put_other 0 (by decide), State.word_put_other _ (by decide)]
  have hvy {o : Nat} (hus : o ≠ OP_LAST_US) (hcore : o ≠ OP_VCORE_MV.off) : y.reg o = v.reg o :=
    (State.reg_put_other (f := OP_VCORE_MV) _ hcore).trans (State.reg_put_other (f := OP_LAST_US_US) _ hus)
  have huy : y.reg OP_STATUS = u.reg OP_STATUS := (hvy (by decide) (by decide)).trans (State.reg_setReg_other _ (by decide))
  have hyjobs : y.host.jobs = [] := hjobs
  have hypower : y.power.switchStart = none := rfl
  clear_value y
  have hyz : Frame 0x181 y z := (State.raise_frame y EV_OP_SWITCH sevNotice 0 0 0).step (State.fire_frame _ 13) rfl
  have hbelow : SameBelow plBase y z := (y.raise_below EV_OP_SWITCH 0 0 0 (by decide)).trans (State.fire_below _ 13)
  have hzjobs : z.host.jobs = [] := (congrArg HostState.jobs (hyz.host rfl)).trans hyjobs
  rw [hzjobs, List.find?_nil]
  refine ⟨?_, ?_, (congrArg PowerState.switchStart (hyz.power rfl)).trans hypower, ?_⟩
  · exact (hbelow.get (by decide)).trans ((State.get_of_reg huy).trans hpoint)
  · exact (hbelow.flag (by decide)).trans ((State.flag_of_reg huy).trans hswitching)
  · exact (hbelow.word (by decide)).trans ((congrArg BitVec.toNat (hvy (by decide) (by decide))).trans hseq)

/-- A field of sixteen bits that holds a signed number reads back as written. -/
theorem State.getS_put_codeOf {s : State} {f : Fld} (hs : s.canonical = true) (hf : f.sound = true) (hbits : f.hi + 1 - f.lo = 16) {t : Int}
    (hlow : -32768 ≤ t) (hhigh : t < 32768) : (s.put f (codeOf 16 t)).getS f = t := by
  rw [State.getS, State.get_put_fit hs hf (by rw [hbits]; exact codeOf_lt _ _), hbits]
  exact signedOf_codeOf (n := 15) (by omega) (by omega)

/-- A temperature shown, with its maximum and the bit of R24. -/
theorem State.tempUpdate_shows {s : State} (hs : s.canonical = true) {t : Int} (hlow : -32768 ≤ t) (hhigh : t < 32768) :
    (s.tempUpdate t).getS GL_TEMP_NOW = t ∧ (s.tempUpdate t).flag OP_STATUS_THERMAL = decide (1920 < t) ∧
    (s.tempUpdate t).get OP_STATUS_POINT = s.get OP_STATUS_POINT ∧
    (s.power.tempSeen = true → (s.tempUpdate t).getS GL_TEMP_MAX = max (s.getS GL_TEMP_MAX) t) := by
  unfold State.tempUpdate
  extract_lets hot was u v power w x
  have hu : u.canonical = true := State.canonical_put hs _ _
  have hunow : u.getS GL_TEMP_NOW = t := State.getS_put_codeOf hs rfl rfl hlow hhigh
  have humax : u.getS GL_TEMP_MAX = s.getS GL_TEMP_MAX := congrArg (signedOf _) (State.get_put_beside hs rfl _)
  have huseen : u.power.tempSeen = s.power.tempSeen := rfl
  have hupoint : u.get OP_STATUS_POINT = s.get OP_STATUS_POINT := State.get_put_other _ (by decide)
  clear_value u
  have hv : v.canonical = true ∧ v.getS GL_TEMP_NOW = t ∧ v.get OP_STATUS_POINT = s.get OP_STATUS_POINT ∧
      (s.power.tempSeen = true → v.getS GL_TEMP_MAX = max (s.getS GL_TEMP_MAX) t) := by
    simp only [v, State.when]
    split
    · next hnew =>
      refine ⟨State.canonical_put hu _ _, (congrArg (signedOf _) (State.get_put_beside hu rfl _)).trans hunow,
        (State.get_put_other _ (by decide)).trans hupoint, fun hseen => ?_⟩
      rw [State.getS_put_codeOf hu rfl rfl hlow hhigh, ← humax]
      have hless : u.getS GL_TEMP_MAX < t := by simpa [huseen, hseen] using hnew
      omega
    · next hold =>
      refine ⟨hu, hunow, hupoint, fun hseen => ?_⟩
      rw [humax]
      have hleast : ¬ u.getS GL_TEMP_MAX < t := by simpa [huseen, hseen] using hold
      omega
  obtain ⟨hcanon, hnow, hpoint, hmax⟩ := hv
  clear_value v
  have hw : w.canonical = true := State.canonical_of_regs hcanon rfl rfl
  have htemp : x.reg GL_TEMP = v.reg GL_TEMP := State.reg_put_other _ (by decide)
  have hxthermal : x.flag OP_STATUS_THERMAL = hot := State.flag_put hw rfl hot
  have hxpoint : x.get OP_STATUS_POINT = v.get OP_STATUS_POINT := State.get_put_beside hw rfl _
  have hlater : SameBelow plBase x (x.when (hot && !was) fun s => s.raise EV_OP_THERMAL sevWarning) :=
    (SameBelow.refl _ x).when fun _ => x.raise_below EV_OP_THERMAL 0 0 0 (by decide)
  refine ⟨(hlater.getS (by decide)).trans ?_, (hlater.flag (by decide)).trans hxthermal, (hlater.get (by decide)).trans (hxpoint.trans hpoint),
    fun hseen => (hlater.getS (by decide)).trans ?_⟩
  · exact (congrArg (signedOf _) (State.get_of_reg (f := GL_TEMP_NOW) htemp)).trans hnow
  · exact (congrArg (signedOf _) (State.get_of_reg (f := GL_TEMP_MAX) htemp)).trans (hmax hseen)

/-- Settles O19: a class W reset asked for cuts the blocks, which writes no register of the operating point; one that ends keeps the
supply's phase and the paths through each restart. -/
theorem operatingPoint : Obligations.OperatingPoint := by
  unfold Obligations.OperatingPoint
  refine ⟨?switch, ?range, ?ended, ?temperature, ?ask, ?effect, ?restart⟩
  case switch =>
    intro s h point hs hsq hpoint hserve hswitching hhold hne hfit
    refine runs_opSet hsq hpoint hserve ?_
    have hnot : ¬ (point < s.point ∧ ¬ s.loadsFit point = true) := fun hload => hload.2 (hfit hload.1)
    simp only [State.opSet]
    rw [if_neg (by simp [hswitching]), if_neg (by simp [hhold]), if_neg hnot, if_neg hne]
    have h1 := State.canonical_put hs OP_STATUS_SWITCHING 1
    have h2 := State.canonical_put h1 OP_STATUS_TARGET point
    have hshown : (((s.put OP_STATUS_SWITCHING 1).put OP_STATUS_TARGET point).put OP_STATUS_POINT (min s.point point)).get OP_STATUS_POINT =
        min s.point point := State.get_put_fit h2 rfl (Nat.lt_of_le_of_lt (Nat.min_le_right _ _) (Nat.lt_of_lt_of_le hpoint (by decide)))
    have htarget : (((s.put OP_STATUS_SWITCHING 1).put OP_STATUS_TARGET point).put OP_STATUS_POINT (min s.point point)).get OP_STATUS_TARGET =
        point := (State.get_put_beside h2 rfl _).trans (State.get_put_fit h1 rfl (Nat.lt_of_lt_of_le hpoint (by decide)))
    have hflag : (((s.put OP_STATUS_SWITCHING 1).put OP_STATUS_TARGET point).put OP_STATUS_POINT (min s.point point)).flag OP_STATUS_SWITCHING =
        true := (State.flag_put_beside h2 rfl _).trans ((State.flag_put_beside h1 rfl _).trans (State.flag_put_one hs rfl))
    have hrest : (((s.put OP_STATUS_SWITCHING 1).put OP_STATUS_TARGET point).put OP_STATUS_POINT (min s.point point)).time = s.time ∧
        (((s.put OP_STATUS_SWITCHING 1).put OP_STATUS_TARGET point).put OP_STATUS_POINT (min s.point point)).out = s.out := ⟨rfl, rfl⟩
    generalize ((s.put OP_STATUS_SWITCHING 1).put OP_STATUS_TARGET point).put OP_STATUS_POINT (min s.point point) = t at *
    obtain ⟨htime, hout⟩ := hrest
    have hjob := State.startJob_frame { t with power := { t.power with switchStart := some t.time.mono } } h 0x82 (.opSet s.point) 1 1
    have hregs := hjob.regs rfl
    refine ⟨(State.get_of_regs hregs _).trans hshown, (State.get_of_regs hregs _).trans htarget,
      (State.flag_of_reg (congrArg (Store.get resetWord · _) hregs)).trans hflag, ?_, (hjob.out rfl).trans hout⟩
    rw [hjob.power rfl, htime]
  case range =>
    intro s h point hsq hserve hswitching hhold hlow hload hpoint
    refine runs_opSet hsq hpoint hserve ?_
    simp only [State.opSet]
    rw [if_neg (by simp [hswitching]), if_neg (by simp [hhold]), if_pos ⟨hlow, by simp [hload]⟩]
    exact ⟨rfl, State.get_of_reg (s.finish_reg_below (o := OP_STATUS) (by decide) h 0x82 stRange 0xffff 0 noEntry)⟩
  case ended => exact fun s t0 hs hon hstart hjobs => runs_core (execOpSwitchEnd.eq_1 ..) rfl hon (State.switchEnd_shows hs hstart hjobs)
  case temperature =>
    exact fun s t hs hon hlow hhigh => runs_core (execTempUpdate.eq_1 ..) rfl hon (State.tempUpdate_shows hs hlow hhigh)
  case ask =>
    intro s m htakes hphase hpending
    refine runs_write (execGlReset.eq_1 ..) rfl lookup_GL_RESET rfl (.inl rfl) htakes ?_
    rw [effects_GL_RESET]
    simp only [roleEffect]
    have hstored : (s.stored m GL_RESET 0x5a170001).power = s.power := (s.stored_frame m GL_RESET 0x5a170001).power rfl
    have hpoint : (s.stored m GL_RESET 0x5a170001).get OP_STATUS_POINT = s.get OP_STATUS_POINT :=
      State.stored_plain_get lookup_GL_RESET rfl (by decide)
    generalize s.stored m GL_RESET 0x5a170001 = t at *
    rw [← hstored] at hphase hpending
    obtain ⟨hreset, hcause, hrun, hbelow⟩ := State.requestWarm_shows hphase hpending 3
    obtain ⟨fw, hfw⟩ := (t.requestWarm 3).recorded_eq m GL_RESET 0x5a170001
    rw [hfw]
    exact ⟨hreset, hcause, hrun, (hbelow.get (by decide)).trans hpoint⟩
  case effect =>
    intro s hphase hpending
    refine runs_checked (execWarmResetTakeEffect.eq_1 ..) rfl ?_
    rw [State.warmReset, if_neg (by simp [hphase, hpending])]
    exact ⟨rfl, rfl, rfl, rfl, rfl⟩
  case restart =>
    intro s hphase
    refine runs_checked (execWarmResetEnd.eq_1 ..) rfl ?_
    rw [State.warmEnd, if_neg (by simp [hphase])]
    extract_lets net power t u
    have ht : t.power.phase = (if s.power.bootHeld then .booting else .running) ∧ t.net.pathsClosed = false := ⟨rfl, rfl⟩
    have hu : Frame 0x801 t u := (((Frame.refl _ t).step (t.lastReset_frame _) rfl).step (State.ledgerAgain_frame _) rfl).step
      (State.nextSave_frame _) rfl
    have hlater : Frame 0xA59981 t (((u.alignRestart.phasorRestart (u.phasor.stopAt.getD 0)).detectWarm.showRelay).fire 223) :=
      (((((Frame.step (Frame.refl _ t) hu rfl).step (State.alignRestart_frame _) rfl).step (State.phasorRestart_frame _ _) rfl).step
        (State.detectWarm_frame _) rfl).step (State.showRelay_frame _) rfl).step (State.fire_frame _ _) rfl
    rw [hlater.power rfl, hlater.net rfl]
    exact ht

end Sys2Proof.Machine
end
